-- ==== Sys2Proof/Word.lean ====
section
/-! DEFINITION. Word.lean: the word types of the engine and the shape of its sparse tables (R18). -/
namespace Sys2Proof

/-- A byte of a record. -/
abbrev U8 := BitVec 8
/-- A 16-bit field. -/
abbrev U16 := BitVec 16
/-- A 32-bit field; frame numbers and short times are of this width (R21, R40). -/
abbrev U32 := BitVec 32
/-- A 64-bit field. -/
abbrev U64 := BitVec 64

/-- A sparse table: key and value pairs, keys strictly rising, no value equal to the table's default.
The default is an argument of the operations (Machine/Tab.lean). -/
abbrev Tab (α : Type) := List (Nat × α)

/-- The signed value of a 32-bit difference, as R66 and R54 compare frame numbers and short times. -/
def sdiff32 (a b : U32) : Int := (a - b).toInt

end Sys2Proof
end

