-- ==== Sys2Proof/Payloads.lean ====
section
/-! DEFINITION. Payloads.lean: the operand types of the commands: a host message, and what arrives on the
engine's links, ports and radios. They are plain data; the commands themselves are in Syntax.lean. -/
namespace Sys2Proof

/-- A host message as the firmware sees it once it has been taken up (R443, Table 13.3).
`dt` is the time, in ns, since the command before it; `host` is what the DMA engine returned where the bulk
descriptor names host memory (`none`: the transfer faulted, R440). -/
structure Req where
  dt : Nat
  ch : Fin 8
  tag : U32
  bulk : Bool
  payload : List U8
  host : Option (List U8)
  deriving DecidableEq, Repr

/-- A host message with nothing but a payload, on MB0. -/
def Req.mk0 (payload : List U8) : Req := ⟨0, 0, 0, false, payload, none⟩

/-- A Viaduct message (Table 6.4) and its payload bytes. -/
structure Msg where
  dest : U32
  src : U32
  type : U16
  hops : U16
  seq : U16
  payload : List U8
  deriving DecidableEq, Repr

/-- A DATA block (Table 6.1): its virtual channel, marks and the message bytes it carries. -/
structure Block where
  vc : Fin 8
  sop : Bool
  eop : Bool
  /-- LSEQ of a VC1 block (R206); 0 on other channels -/
  lseq : U16
  data : List U8
  deriving DecidableEq, Repr

/-- The payload of a HELLO block (Table 6.2). -/
structure Hello where
  node : U32
  member : U32
  root : U32
  span : U8
  engine : Bool
  control : Bool
  pierLink : Bool
  depth : U16
  applySetupNs : U32
  deriving DecidableEq, Repr

/-- The payload of a TIME block (Table 6.7). -/
structure TimeBlock where
  seq : U16
  rootDist : U16
  /-- transmit stamp of TIME block SEQ - 1: full time in ns, fraction in 2^-8 ns -/
  prevTx : Nat
  prevTxFrac : U8
  peerSeq : U16
  peerRx : Nat
  peerRxFrac : U8
  deriving DecidableEq, Repr

/-- An RDM response as the controller reads it (R290 to R293). -/
inductive RdmResp where
  /-- an ACK with its parameter data -/
  | ack (data : List U8)
  /-- an ACK_OVERFLOW part -/
  | overflow (data : List U8)
  /-- an ACK_TIMER: the time given, in ns -/
  | timer (ns : Nat)
  | nack (reason : U16)
  /-- the answer of one device to a discovery branch -/
  | uid (u : Nat)
  /-- answers that collide -/
  | garbled
  /-- a sensor definition: whether its range lies in 0 to 32,767, whether it is a temperature in degrees centigrade, and
  its prefix (0 NONE, 1 DECI) -/
  | sensorDef (inRange tempC : Bool) (pfx : U8)
  | sensorValue (v : Int)
  deriving DecidableEq, Repr

/-- An sACN data packet (R298): Ethernet port, CID, universe, priority, sequence number, flags, start code and slots. -/
structure SacnPacket where
  eth : Fin 4
  cid : List U8
  uni : U16
  prio : U8
  seq : U8
  preview : Bool
  terminated : Bool
  startCode : U8
  slots : List U8
  deriving DecidableEq, Repr

/-- A DMX input packet as it ends on the line (R296): the lengths of its break and mark after break in ns, whether a framing error
occurred, its start code and slots, whether the next break ended it, and the ns of mark since the end of its last stop bit. -/
structure DmxPacket where
  breakNs : Nat
  mabNs : Nat
  framing : Bool
  startCode : U8
  slots : List U8
  byBreak : Bool
  since : Nat
  deriving DecidableEq, Repr

/-- A received Ethernet frame: its port, the ns since the first bit after its SFD crossed the pins (R328), whether its FCS is right,
and its bytes but for the FCS. -/
structure EthRx where
  eth : Fin 4
  ago : Nat
  fcsOk : Bool
  data : List U8
  deriving DecidableEq, Repr

/-- What arrives on an Ethernet port: a frame, or a verify handshake of the MAC merge sublayer (R314). -/
inductive EthIn where
  | frame (f : EthRx)
  | verify (eth : Fin 4)
  | respond (eth : Fin 4)
  deriving DecidableEq, Repr

/-- A receive descriptor as the engine reads it (Table 9.5): buffer address and size. -/
structure RxDesc where
  addr : U64
  bytes : Nat
  deriving DecidableEq, Repr

/-- A transmit descriptor with its buffer as the engine reads them (Table 9.6). -/
structure TxDesc where
  sop : Bool
  eop : Bool
  csum : Bool
  tsReq : Bool
  tsId : U16
  data : List U8
  deriving DecidableEq, Repr

/-- A PTP message (R334 to R337): times and corrections in units of 2^-16 ns. -/
structure PtpMsg where
  eth : Fin 4
  domain : U8
  seq : U16
  identity : U64
  port : U16
  /-- requesting port identity of a response -/
  reqIdentity : U64
  reqPort : U16
  twoStep : Bool
  correction : Int
  /-- originTimestamp, preciseOriginTimestamp, receiveTimestamp or responseOriginTimestamp -/
  time : Int
  deriving DecidableEq, Repr

/-- The dataset an Announce carries. -/
structure PtpAnnounce where
  prio1 : U8
  cls : U8
  accuracy : U8
  variance : U16
  prio2 : U8
  gm : U64
  steps : U16
  utcOffset : U16
  utcValid : Bool
  ptpTimescale : Bool
  deriving DecidableEq, Repr

/-- An AES67 packet (R340, R341): port, RTP sequence and timestamp, and per sample the values of each channel. -/
structure AesPacket where
  stream : Fin 16
  eth : Fin 4
  seq : U16
  rtp : U32
  samples : List (List Int)
  deriving DecidableEq, Repr

/-- Samples of a source line in an ST 2110-20 packet: line, first pixel, code values in the order of the format. -/
structure VideoRow where
  line : Nat
  first : Nat
  codes : List U16
  deriving DecidableEq, Repr

/-- An ST 2110-20 packet (R342, R343): port, extended sequence, RTP timestamp, marker, the lines complete after it, samples. -/
structure VideoPacket where
  stream : Fin 8
  eth : Fin 4
  seq : U32
  rtp : U32
  marker : Bool
  /-- lines of the source frame complete after this packet -/
  lines : Nat
  rows : List VideoRow := []
  deriving DecidableEq, Repr

/-- A receiver's taps and eye on one lane (R245): PEAK, DELAY, the three thresholds, EYE_WIDTH and EYE_HEIGHT. -/
structure Taps where
  peak : BitVec 4 := 0
  delay : BitVec 6 := 0
  /-- signed threshold steps, -32 to 31 -/
  lo : BitVec 6 := 0
  mid : BitVec 6 := 0
  hi : BitVec 6 := 0
  eyeW : U16 := 0
  eyeH : U16 := 0
  deriving DecidableEq, Repr

/-- A training frame as decoded on a lane (Table 7.4), whether its lane was found inverted, and the pins it came on (R247). -/
structure TrainFrame where
  align : Bool
  lane : Fin 5
  ready : Bool
  countdown : U8
  capV1 : Bool
  capV2 : Bool
  spareCap : Bool
  precodeReq : Bool
  rxFailed : List (Fin 5)
  rateMax : U16
  rateSel : U16
  inverted : Bool
  pin : Fin 5
  deriving DecidableEq, Repr

/-- What a receiver measured in a training step (Table 7.5): whether CK is locked, the taps that each lane's sweep set with the
eye they open, and the symbols by which the deskew buffer delays each lane (R245). -/
structure StepResult where
  ckLock : Bool
  taps : List (Fin 5 × Taps)
  skew : List (Fin 5 × Nat)
  deriving DecidableEq, Repr

/-- A lane-control message but for its OP (Table 7.7). -/
structure LaneCtl where
  logical : U8
  physical : U8
  startCw : U32
  tag : U32
  guardUs : U16
  wakeS : Nat
  wakeNs : Nat
  deriving DecidableEq, Repr

/-- What came to a PRBS checker since it was last read (R264): how many bits, and the places of those in error, ascending. -/
structure PrbsSeen where
  bits : Nat
  errors : List Nat
  deriving DecidableEq, Repr

/-- A symbol of a received codeword that differs from the one sent: its logical lane, its place in the lane's portion, and the
level index (under Viaduct-1, the bit) received in its place (R240 to R243). -/
structure SymErr where
  lane : Fin 4
  at_ : Nat
  got : Fin 4
  deriving DecidableEq, Repr

/-- How the bits of a pixel string are timed: on a single wire, the ns of a bit, of the high part of a zero and of a one, and of the
low line after the last (R300); or by a clock in kHz, on whose rising edge data shifts (R301). -/
inductive StringTiming where
  | single (bitNs t0hNs t1hNs resetNs : Nat)
  | clocked (khz : Nat)
  deriving DecidableEq, Repr

/-- What the transmitter of a span drives on its lanes: nothing; training frames at a rate, by lane; a test pattern at a rate on
each lane named, 1 to 4 as in PRBS_SET; codewords (Table 7.5, R248, R263). -/
inductive SpanTx where
  | quiet
  | frames (rate : Nat) (lanes : List (Nat × List U8))
  | pattern (rate : Nat) (lanes : List (Nat × Nat))
  | codewords
  deriving DecidableEq, Repr

/-- A frame that a radio interface received (R355 to R363). -/
structure RadioFrame where
  /-- ns since the IRQ edge of its SFD (R353) -/
  ago : Nat
  lqi : U8
  /-- the MAC frame without its FCS, as on air -/
  bytes : List U8
  deriving DecidableEq, Repr

/-- A driver record of the transceiver list (R354). -/
structure DriverRec where
  version : U16
  mask : U32
  value : U32
  /-- SPI bytes of the identity test -/
  read : List U8
  name : List U8
  deriving DecidableEq, Repr

/-- What a boot finds in the flash and at the package (R497 to R504). -/
structure BootRead where
  /-- BOOT_MODE straps -/
  bootMode : Fin 4
  /-- FAILED_PART of banks A and B; none: the bank passes its checks (R502) -/
  fail : Vector (Option U8) 2
  /-- from the booted manifest: PART_VER0 to PART_VER7, SETTINGS_FORMAT, PACKAGE_VERSION -/
  partVer : Vector U16 8
  settingsFormat : U16
  /-- whether the package has the radio MAC part (Table 15.12) -/
  radioMac : Bool
  /-- from the control firmware part: FW_VERSION, and the transceiver list of the radio MAC part -/
  fwVersion : U32
  drivers : List DriverRec
  deriving DecidableEq, Repr

/-- What one thermal evaluation measures (R505): 29 sensors in s8.8 degrees, ten domains and the input in mW. -/
structure ThermalRead where
  reading : List Int
  domainMw : List Nat
  powerMw : U32
  deriving DecidableEq, Repr

/-- What a task wrote by its end: parameters, and pixels with their components (R81); a packing or digest task writes none. -/
structure TaskOut where
  params : List (Nat × U16) := []
  pixels : List (Nat × List U16) := []
  deriving DecidableEq, Repr, Inhabited

/-- A user of the DMA engine (R440). -/
inductive DmaUser where
  | bulk (ch : Fin 8)
  | rxRing (eth : Fin 4)
  | txRing (eth : Fin 4)
  | eventRing
  deriving DecidableEq, Repr

/-- The event that resets the PCIe endpoint (R441). -/
inductive EndpointReset where
  | perst | functionLevel | linkLoss
  deriving DecidableEq, Repr

/-- A UDP datagram that arrives at MGMT_UDP_PORT (R457): port, source address and port, whether it arrived fragmented. -/
structure Datagram where
  eth : Fin 4
  ip : U32
  port : U16
  fragmented : Bool
  data : List U8
  deriving DecidableEq, Repr

/-- What the engine sends or drives outward, in the order it did so: the model's own record of its outputs. -/
inductive Out where
  /-- MSI-X vector signalled (R465) -/
  | msix (vector : Nat)
  /-- bytes written into host memory by DMA (R440, R452, R462) -/
  | dmaWrite (addr : Nat) (bytes : List U8)
  /-- a response of the UDP mailbox: Ethernet port, address and port it goes to (R457) -/
  | udp (eth : Nat) (ip : U32) (port : U16) (bytes : List U8)
  /-- bytes shifted out by the SPI target (R455) -/
  | spi (bytes : List U8)
  /-- a codeword sent on a span: its 128 bytes of block and 8 of parity (R242), and the symbols that each physical lane carries
  of it, level indices under Viaduct-2 and bits under Viaduct-1 (R240, R241, R243) -/
  | codeword (span : Nat) (bytes : List U8) (lanes : List (Nat × List Nat))
  /-- what the transmitter of a span drives from now on (Table 7.5, R248, R263) -/
  | spanTx (span : Nat) (tx : SpanTx)
  /-- bits of a lane's test pattern inverted (R265) -/
  | prbsError (span lane length : Nat)
  /-- a DMX packet begun on a pair: house packet or not, slots after the NULL start code (R288, R289) -/
  | dmx (pair : Nat) (house : Bool) (slots : List U8)
  /-- an RDM request begun on a pair: source and destination UID, sub-device, class, PID and data (R290) -/
  | rdm (pair : Nat) (src dest : Nat) (sub : U16) (cls : U8) (pid : U16) (data : List U8)
  /-- a pixel string begun on a pin: how its bits are timed, and the bytes shifted (R300, R301) -/
  | string (pin : Nat) (timing : StringTiming) (bytes : List U8)
  /-- an sACN packet made ready: kind 0 data, 1 terminated, 2 synchronisation, 3 discovery; Ethernet port, universe, sequence, and the
  slots or the universes listed -/
  | sacn (kind : Nat) (eth uni : Nat) (seq : U8) (bytes : List U8)
  /-- a frame begun on an Ethernet port: class of Table 9.2, and its bytes but for the FCS with the checksums inserted (R313, R319) -/
  | ethFrame (eth cls : Nat) (bytes : List U8)
  /-- a PAUSE sent: port and quanta (R318) -/
  | pause (eth quanta : Nat)
  /-- a message of the verify handshake sent: verify, or the respond to one (R314) -/
  | verify (eth : Nat) (respond : Bool)
  /-- a PTP message sent: port, kind (0 Sync, 1 Follow_Up, 2 Announce, 3 Delay_Req, 4 Delay_Resp, 5 Pdelay_Req,
  6 Pdelay_Resp, 7 Pdelay_Resp_Follow_Up) and sequence -/
  | ptp (eth kind : Nat) (seq : U16)
  /-- a beacon sent: interface, sequence number, superframe specification, pending short addresses, Laurel payloads (R356) -/
  | beacon (ri : Nat) (bsn : U8) (superframe : U16) (pending : List U16) (laurel : List (List U8))
  /-- a radio frame sent: interface, destination, DSN, security level, payload (R358) -/
  | radio (ri : Nat) (dest : U16) (dsn : U8) (level : Nat) (data : List U8)
  /-- a Data Request acknowledged: interface and frame pending (R362) -/
  | radioAck (ri : Nat) (pending : Bool)
  /-- a pulse of PPS_OUT: the TAI second it rises at, and how long it stays high, us (R61) -/
  | pps (sec highUs : Nat)
  /-- a frame begun on LTC_OUT: its label, hours, minutes, seconds, frames (R62) -/
  | ltc (h m sec f : Nat)
  deriving DecidableEq, Repr

end Sys2Proof
end

