-- ==== Sys2Proof/Syntax.lean ====
section
/-! DEFINITION. Syntax.lean: the commands the engine takes, one constructor for each row of the opcode table.
A host command carries the host message `q`; every other row is an event and carries `dt`, the time in ns since the
command before it, and what arrives or expires. -/
namespace Sys2Proof

/-- The commands of the engine: one constructor per row of the opcode table. -/
inductive Instr where
  /-- Returns the part, grade, profile, bank, firmware versions, boot cause and state of the engine. (R476) -/
  | sysInfo (q : Req)
  /-- Returns power mode, grid, pier, thermal and Keystone state, all sampled in one firmware evaluation step. (R477) -/
  | sysStatus (q : Req)
  /-- Checks CONFIRM and schedules a reset, stopping a running grid first. (R478) -/
  | sysReset (q : Req)
  /-- The engine resets itself 1 ms after the response, or 1 ms after kinetic parameters come to rest when the grid was running. (R478) -/
  | sysResetExecute (dt : Nat)
  /-- Writes or erases the stored settings of the active bank and sets the profile of the next boot. (R479) -/
  | settingsSave (q : Req)
  /-- Returns up to COUNT records from the W0 event ring and advances EVT_HEAD past them. (R480) -/
  | eventRead (q : Req)
  /-- Rebinds a mailbox channel and sets its response signalling once its own response is written. (R467) -/
  | mbConfig (q : Req)
  /-- Returns the binding, state and counters of one mailbox channel. (R467) -/
  | mbStatus (q : Req)
  /-- Configures the event ring, mask and signalling, and returns both ring pointers to 0. (R462) -/
  | eventSet (q : Req)
  /-- Returns the primary transport, PCIe link and transport counters. (R467) -/
  | transportStatus (q : Req)
  /-- Sets the UDP mailbox key slot, port mask, deny rate and relay wait. (R467) -/
  | udpMbSet (q : Req)
  /-- Sends a mailbox message to another engine as MGMT and waits for the reply. (R460) -/
  | relay (q : Req)
  /-- Returns Keystone time, servo state and the last presented frame, all sampled in one count cycle. (R64) -/
  | timeGet (q : Req)
  /-- Sets the servo gains, thresholds and the priority list of time sources. (R27) -/
  | servoSet (q : Req)
  /-- Selects the native or the compatibility clock model while the grid is stopped. (R26) -/
  | clockModelSet (q : Req)
  /-- Steps Keystone time by a signed offset while the grid is stopped. (R65) -/
  | timeStep (q : Req)
  /-- Starts a stopped grid with the given epoch, rate and lead, or returns ST_LATE. (R66) -/
  | gridSetStart (q : Req)
  /-- Schedules new grid values on a running grid from the first frame at or after APPLY_FRAME with zero carried slip. (R66) -/
  | gridSetChange (q : Req)
  /-- Schedules a grid stop so that no frame after APPLY_FRAME − 1 is presented. (R66) -/
  | gridSetStop (q : Req)
  /-- Returns the grid settings, cut-off lead, grid state and last presented frame. (R64) -/
  | gridGet (q : Req)
  /-- Arms or re-arms a host compare slot in extended or wrap mode. (R54) -/
  | slotArm (q : Req)
  /-- Cancels an armed host compare slot. (R58) -/
  | slotCancel (q : Req)
  /-- Returns the state, lateness and fire time of a compare slot. (R64) -/
  | slotStatus (q : Req)
  /-- Sets LTC rates, the LTC origin, UTC offset and the PPS output. (R62) -/
  | timecodeSet (q : Req)
  /-- A rising edge on PPS_IN gives a time sample of the TAI second phase. (R28) -/
  | ppsInEdge (dt : Nat)
  /-- A rising edge on FRAME_REF_IN gives a sample of frame-grid phase. (R28) -/
  | frameRefInEdge (dt : Nat)
  /-- The end of an LTC sync word gives a time-of-day sample and a decoded timecode for triggers. (R63) -/
  | ltcInSyncWord (dt : Nat) (h m sec f : Nat) (user : U32)
  /-- A source with no sample for three nominal intervals becomes invalid and is replaced at once. (R30) -/
  | sourceLossTimeout (dt : Nat) (code : Fin 6)
  /-- A holdover longer than HOLDOVER_LIMIT_S begins a lock fault. (R36) -/
  | holdoverLimitExpiry (dt : Nat)
  /-- After 2 µs without an edge on REF10M_IN, the clock changes to the crystal and E019 is raised. (R31) -/
  | ref10mLoss (dt : Nat)
  /-- REF10M_IN returns and the clock is derived from it again. (R31) -/
  | ref10mReturn (dt : Nat)
  /-- A tick of the frame grid begins and TICK_COUNT advances. (R41) -/
  | tickBoundary (dt : Nat)
  /-- Tick 0 of a frame begins, and settings waiting for a frame boundary apply. (R41) -/
  | frameBoundary (dt : Nat)
  /-- Frame m is presented at P′(m) by the engine's own outputs. (R49) -/
  | presentationInstant (dt : Nat)
  /-- A compare slot reaches its target and its action begins. (R54) -/
  | slotFire (dt : Nat)
  /-- PPS_OUT rises at each whole TAI second and falls after PPS_WIDTH_US. (R61) -/
  | ppsOutPulse (dt : Nat)
  /-- An LTC output frame starts at its scheduled time. (R62) -/
  | ltcOutFrame (dt : Nat)
  /-- At S(m) the cue sequencer applies commands, triggers and follows, computes flow levels and issues tasks. (R89) -/
  | renderStart (dt : Nat)
  /-- A render not complete 60 s after its cut-off raises E026 with KIND 1. (R51) -/
  | renderStallTimeout (dt : Nat)
  /-- A frame not latched by the slip limit stops the grid of every engine of the domain. (R51) -/
  | slipLimitStop (dt : Nat)
  /-- The scheduler grants at most one task descriptor per cycle to the lowest-numbered source that is not held. (R115) -/
  | descriptorAlloc (dt : Nat)
  /-- Up to four tasks per cycle pass from allocation, release, gate or parking into their next state. (R121) -/
  | taskEntry (dt : Nat)
  /-- An issue port places the highest eligible READY task on an idle core. (R127) -/
  | taskDispatch (dt : Nat) (port : Fin 4)
  /-- A task's affinity wait passes and it becomes eligible for any idle core. (R124) -/
  | affinityWaitExpiry (dt : Nat) (n : Fin 8192)
  /-- A program returns; its descriptor delivers its notice and returns to FREE. (R114) -/
  | taskEnd (dt : Nat) (n : Fin 8192)
  /-- A task traps; the flow is left out of later frames and E039 is raised. (R84) -/
  | taskTrap (dt : Nat) (n : Fin 8192)
  /-- A task running longer than RUN_LIMIT_US is stopped and ends as TRAPPED. (R133) -/
  | taskWatchdogExpiry (dt : Nat) (n : Fin 8192)
  /-- A core local-memory error is corrected, or traps the task and excludes the core. (R134) -/
  | coreMemoryEccError (dt : Nat) (core : Fin 64) (double : Bool)
  /-- A source held longer than HOLD_EVENT_US raises E040. (R116) -/
  | sourceHoldEvent (dt : Nat) (src : Fin 4)
  /-- The CMU pass of a frame ends. (R145) -/
  | cmuPassComplete (dt : Nat)
  /-- The kinetic pass of a frame ends. (R156) -/
  | kineticPassComplete (dt : Nat)
  /-- A finished frame commits once its predecessor is released, and the Deck halves exchange roles. (R83) -/
  | frameCommit (dt : Nat)
  /-- Hedgerow has read the last value of frame m − 1, allowing frame m to commit. (R83) -/
  | hedgerowRelease (dt : Nat)
  /-- Opens a staged image of IMAGE_BYTES. (R99) -/
  | showLoadBegin (q : Req)
  /-- Stores a block of the staged image inline or by bulk transfer. (R99) -/
  | showLoadBlock (q : Req)
  /-- Closes the load and starts the image checks. (R99) -/
  | showLoadEnd (q : Req)
  /-- The image checks finish and E032 or E033 reports the result. (R76) -/
  | imageChecksComplete (dt : Nat)
  /-- A needed blob is not loaded within 10 s and the operation that needed it fails. (R413) -/
  | blobWaitExpiry (dt : Nat)
  /-- Schedules activation of a verified staged image from APPLY_FRAME. (R100) -/
  | showActivate (q : Req)
  /-- Discards the staged image. (R102) -/
  | showUnloadStaged (q : Req)
  /-- Discards the active image while the grid is stopped. (R102) -/
  | showUnloadActive (q : Req)
  /-- Returns the active and staged images, load state and frame margins. (R103) -/
  | showStatus (q : Req)
  /-- Queues a cue action for a list at APPLY_FRAME. (R90) -/
  | cueGo (q : Req)
  /-- Returns the playhead, state, fade level and GO frame of a cue list. (R103) -/
  | cueListStatus (q : Req)
  /-- Configures an audio tap from the next frame boundary. (R105) -/
  | tapSet (q : Req)
  /-- Returns the feature record of a tap's last window. (R103) -/
  | tapRead (q : Req)
  /-- Sets the HOUSE_N pin behaviour, group mask and flooding from the next frame boundary. (R105) -/
  | houseSet (q : Req)
  /-- A flooded trigger assignment arrives and is scheduled for its frame, or for a later frame if it arrives late. (R89) -/
  | triggerMsg (dt : Nat) (span : Fin 12) (m : Msg)
  /-- An AES67 packet is received and its samples are timed into tap windows. (R341) -/
  | aes67Packet (dt : Nat) (p : AesPacket)
  /-- A tap's feature window closes and its features are computed into the input block. (R91) -/
  | tapWindowClose (dt : Nat) (k : Fin 16)
  /-- HOUSE_N has been low for PIN_FILTER_US and the override is asserted. (R95) -/
  | houseNAssert (dt : Nat)
  /-- HOUSE_N has been high for RELEASE_HOLD_MS and the pin's override is released. (R97) -/
  | houseNRelease (dt : Nat)
  /-- At the first tick boundary after assertion, house values are sent marked for immediate application. (R96) -/
  | houseAssertApply (dt : Nat)
  /-- A flooded or pier HOUSE message arrives and becomes a house source. (R96) -/
  | houseMsg (dt : Nat) (span : Fin 12) (m : Msg)
  /-- Sets scheduler waits, limits, reserves, priorities and watchdog. (R136) -/
  | schedConfig (q : Req)
  /-- Returns scheduler occupancy, gate and queue depths. (R135) -/
  | schedStatus (q : Req)
  /-- Returns scheduler counters and optionally clears them. (R135) -/
  | schedCounters (q : Req)
  /-- Returns one task descriptor sampled in one cycle. (R135) -/
  | schedTaskRead (q : Req)
  /-- Enables or disables effect cores at once. (R137) -/
  | schedCores (q : Req)
  /-- Sets loop gain, thresholds and timeouts from the next frame boundary. (R164) -/
  | cmuConfig (q : Req)
  /-- Returns CMU and kinetic pass counts and loop state counts. (R164) -/
  | cmuStatus (q : Req)
  /-- Resets the loop integrators of a fixture. (R164) -/
  | loopResetIntegrators (q : Req)
  /-- Puts a fixture's loop in OFF. (R149) -/
  | loopDisable (q : Req)
  /-- Puts a fixture's loop in RUN. (R149) -/
  | loopEnable (q : Req)
  /-- Returns the loop state and integrators of a fixture. (R164) -/
  | loopRead (q : Req)
  /-- Returns the last solve of a fixture. (R164) -/
  | fixtureSolveRead (q : Req)
  /-- Stops and holds the selected kinetic parameters from APPLY_FRAME. (R165) -/
  | kineticStopHold (q : Req)
  /-- Applies the blackout action to the selected kinetic parameters from APPLY_FRAME. (R165) -/
  | kineticStopBlackout (q : Req)
  /-- Ends the HOLD and BLACKOUT causes given by KINETIC_STOP. (R165) -/
  | kineticStopRelease (q : Req)
  /-- Returns the position, velocity, target and mode of a kinetic instance. (R164) -/
  | kineticRead (q : Req)
  /-- While the grid is stopped, the limiter takes a stop step every 256 ticks and sends it for immediate application. (R161) -/
  | kineticStopStep (dt : Nat)
  /-- The scrubber reads Deck words so that every word is read once every 16 s. (R171) -/
  | deckScrubRead (dt : Nat)
  /-- Returns Deck error counters, capacity and load. (R195) -/
  | deckStatus (q : Req)
  /-- Binds an ST 2110-20 stream to an ingest map from the next frame boundary. (R195) -/
  | ingestSet (q : Req)
  /-- Returns capture state and counters of an ingest stream. (R195) -/
  | ingestStatus (q : Req)
  /-- An ST 2110-20 packet is received and written into its source frame's copy. (R342) -/
  | st2110Packet (dt : Nat) (p : VideoPacket)
  /-- Writes raster timing shadow registers. (R191) -/
  | rasterSet (q : Req)
  /-- Writes layer shadow registers. (R191) -/
  | layerSet (q : Req)
  /-- Sets COMMIT on the named raster engines. (R191) -/
  | rasterCommit (q : Req)
  /-- Returns raster state and counters. (R195) -/
  | rasterStatus (q : Req)
  /-- At X(r) the raster engine chooses a picture, a late frame or REPEAT and sends RASTER_FRAME. (R185) -/
  | rasterStart (dt : Nat) (re : Fin 4)
  /-- At each active line, the raster engine composites the line and sends RASTER_LINE. (R186) -/
  | rasterLine (dt : Nat) (re : Fin 4) (under : List (Nat × BitVec 4)) (bad : Bool)
  /-- At blanking with COMMIT set, the shadows are copied into the active registers. (R191) -/
  | verticalBlankingStart (dt : Nat) (re : Fin 4)
  /-- At a codeword boundary, the transmitter sends the first due block by rank. (R202) -/
  | codewordTransmit (dt : Nat) (sp : Fin 12)
  /-- An IDLE block is received and carries nothing. (R202) -/
  | idleBlock (dt : Nat) (sp : Fin 12) (errs : List SymErr)
  /-- A DATA block is received on a virtual channel; VC1 blocks are checked against the expected LSEQ. (R206) -/
  | dataBlock (dt : Nat) (sp : Fin 12) (errs : List SymErr) (b : Block)
  /-- A CREDIT block updates the sender's credits on each virtual channel. (R204) -/
  | creditBlock (dt : Nat) (sp : Fin 12) (errs : List SymErr) (freed : Vector U16 5)
  /-- An ACK releases acknowledged VC1 blocks from the replay buffer. (R206) -/
  | ackBlock (dt : Nat) (sp : Fin 12) (errs : List SymErr) (lseq : U16)
  /-- A NAK makes the sender resend VC1 blocks from EXPECT_LSEQ. (R206) -/
  | nakBlock (dt : Nat) (sp : Fin 12) (errs : List SymErr) (lseq : U16)
  /-- A TIME block gives link delay and a VIADUCT time sample. (R213) -/
  | timeBlock (dt : Nat) (sp : Fin 12) (errs : List SymErr) (t : TimeBlock)
  /-- A HELLO block is received from the peer. (R200) -/
  | helloBlock (dt : Nat) (sp : Fin 12) (errs : List SymErr) (h : Hello)
  /-- A block of reserved TYPE is discarded and counted. (R201) -/
  | reservedBlock (dt : Nat) (sp : Fin 12) (errs : List SymErr)
  /-- A CREDIT block falls due within 2 µs of a freeing or every 10 µs. (R204) -/
  | creditSendDue (dt : Nat) (sp : Fin 12)
  /-- A HELLO falls due every 100 µs. (R202) -/
  | helloDue (dt : Nat) (sp : Fin 12)
  /-- A TIME block falls due every 16 ticks on a link with TIME_EN set. (R212) -/
  | timeBlockDue (dt : Nat) (sp : Fin 12)
  /-- A channel waits CREDIT_STALL_US without credit, counts a stall and raises E070. (R205) -/
  | creditStallTimeout (dt : Nat) (sp : Fin 12) (vc : Fin 5)
  /-- A VC0 or VC1 stall lasting 1 ms takes the link down. (R205) -/
  | creditStallLinkDown (dt : Nat) (sp : Fin 12) (vc : Fin 2)
  /-- ACK_TIMEOUT_US passes without an ACK, and VC1 blocks are resent; eight resends take the link down. (R206) -/
  | ackTimeout (dt : Nat) (sp : Fin 12)
  /-- No codeword passes FEC for 2 µs and the link goes down. (R200) -/
  | fecFailTimeout (dt : Nat) (sp : Fin 12)
  /-- A LATCH arrives; the engine presents its outputs on it if it follows the root, and forwards it. (R219) -/
  | latchMsg (dt : Nat) (span : Fin 12) (m : Msg)
  /-- A REPORT of a member's commit arrives at the issuer. (R218) -/
  | reportMsg (dt : Nat) (span : Fin 12) (m : Msg)
  /-- With every REPORT of m received, the issuer sets the slip and sends the LATCH of m. (R218) -/
  | latchIssue (dt : Nat)
  /-- With LATCH_REPEAT set, a second LATCH copy is sent 4 µs after the first. (R218) -/
  | latchRepeat (dt : Nat)
  /-- A MEMBER record confirms or adds a member of the domain. (R215) -/
  | memberMsg (dt : Nat) (span : Fin 12) (m : Msg)
  /-- Every engine floods its MEMBER record at each unslipped frame boundary. (R215) -/
  | memberFlood (dt : Nat)
  /-- A member whose record has not arrived within MEMBER_TIMEOUT_FRAMES is dropped. (R215) -/
  | memberTimeout (dt : Nat)
  /-- An unconfirmed member not confirmed within PARTITION_WAIT_US is dropped. (R215) -/
  | partitionWaitExpiry (dt : Nat)
  /-- A MERGE announces the survivor, absorbed root and merge frame. (R228) -/
  | mergeMsg (dt : Nat) (span : Fin 12) (m : Msg)
  /-- A LINK_EVENT arrives; routes are cleared, members marked unconfirmed and MEMBER flooded. (R211) -/
  | linkEventMsg (dt : Nat) (span : Fin 12) (m : Msg)
  /-- A learned route not refreshed for ROUTE_AGE_S is removed. (R210) -/
  | routeAgeExpiry (dt : Nat)
  /-- An UPDATE arrives and is forwarded towards its receiver. (R209) -/
  | updateMsg (dt : Nat) (span : Fin 12) (m : Msg)
  /-- A RETURN from a receiver reports its latched frame and carries sensor and position records. (R225) -/
  | returnMsg (dt : Nat) (span : Fin 12) (m : Msg)
  /-- Hedgerow measures path latency to each span receiver once per second. (R221) -/
  | pathProbeDue (dt : Nat)
  /-- A PATH_PROBE is answered with PATH_ECHO. (R221) -/
  | pathProbeMsg (dt : Nat) (span : Fin 12) (m : Msg) (turn : U32)
  /-- A PATH_ECHO gives a round trip from which the output lead is derived. (R221) -/
  | pathEchoMsg (dt : Nat) (span : Fin 12) (m : Msg)
  /-- A RASTER_FRAME message arrives and is forwarded to its receiver. (R226) -/
  | rasterFrameMsg (dt : Nat) (span : Fin 12) (m : Msg)
  /-- A RASTER_LINE message arrives and is forwarded to its receiver. (R226) -/
  | rasterLineMsg (dt : Nat) (span : Fin 12) (m : Msg)
  /-- Sets NODE_ID and Trestle parameters. (R231) -/
  | trestleSet (q : Req)
  /-- Returns the engine's domain, role and root. (R231) -/
  | trestleStatus (q : Req)
  /-- Returns one member of the domain. (R231) -/
  | memberRead (q : Req)
  /-- Returns the learned route to a node. (R231) -/
  | routeRead (q : Req)
  /-- Sets link enable, time transfer, VC weights and asymmetry of a span. (R231) -/
  | linkSet (q : Req)
  /-- Returns link counters of a span. (R231) -/
  | linkCounters (q : Req)
  /-- Returns the output lead and counters of a destination. (R231) -/
  | destStatus (q : Req)
  /-- Loss of signal asserts on a lane after 128 symbol periods below threshold. (R246) -/
  | laneLos (dt : Nat) (sp : Fin 12) (lane : Fin 6)
  /-- Loss of signal clears after 1,024 symbol periods above threshold. (R246) -/
  | laneLosClear (dt : Nat) (sp : Fin 12) (lane : Fin 6)
  /-- Loss of lock asserts on a data lane or CK. (R246) -/
  | laneLol (dt : Nat) (sp : Fin 12) (lane : Fin 6)
  /-- A training attempt begins at T0. (R250) -/
  | trainingAttemptStart (dt : Nat) (sp : Fin 12)
  /-- A training frame is decoded and the agreement and countdown advance. (R249) -/
  | trainingFrameRx (dt : Nat) (sp : Fin 12) (f : TrainFrame)
  /-- A training step's window ends and the step passes or fails. (R250) -/
  | trainingStepWindowEnd (dt : Nat) (sp : Fin 12) (r : StepResult)
  /-- An attempt not up by T0 + 250 ms fails; eight failures make the span dormant. (R253) -/
  | trainingTimeout (dt : Nat) (sp : Fin 12)
  /-- The 10 ms quiet after an abort or a link down ends and a new attempt starts. (R252) -/
  | quietPeriodEnd (dt : Nat) (sp : Fin 12)
  /-- The 1 s or 10 s retry interval after a failure passes and a new attempt starts. (R253) -/
  | trainingRetryTimer (dt : Nat) (sp : Fin 12)
  /-- The monitor finds a lane's eye or error ratio outside limits. (R256) -/
  | calibrationNeeded (dt : Nat) (sp : Fin 12) (lane : Fin 5) (seen : Taps)
  /-- CAL_INTERVAL_MS passes and a spare rotation begins. (R257) -/
  | rotationTimer (dt : Nat) (sp : Fin 12)
  /-- A 2 ms sweep of the spare or the released lane ends. (R257) -/
  | spareSweepEnd (dt : Nat) (sp : Fin 12) (t : Taps)
  /-- The comparison of 1,024 duplicated codewords ends, and the rotation continues or is abandoned. (R257) -/
  | duplicateCompareEnd (dt : Nat) (sp : Fin 12) (equal : Bool)
  /-- At codeword c₁ + 1,088 the receiver takes the lane from the spare and sends RELEASE. (R257) -/
  | laneSwapCodeword (dt : Nat) (sp : Fin 12)
  /-- At START_CW of a gap, ALIGN frames are sent and new taps applied. (R259) -/
  | calGapStart (dt : Nat) (sp : Fin 12) (tx : Bool) (taps : List (Fin 5 × Taps))
  /-- A receiver not relocked 8 µs after START_CW takes the link down. (R259) -/
  | calGapLockTimeout (dt : Nat) (sp : Fin 12)
  /-- No frame gap is found within CAL_GAP_WAIT frames and the calibration is deferred. (R260) -/
  | calGapDeferral (dt : Nat) (sp : Fin 12)
  /-- A SPARE_ON request makes the peer send PRBS31 on the spare. (R257) -/
  | laneCtlSpareOn (dt : Nat) (sp : Fin 12) (m : LaneCtl)
  /-- A DUPLICATE request makes the peer send a lane on both its lane and the spare from c₁. (R257) -/
  | laneCtlDuplicate (dt : Nat) (sp : Fin 12) (m : LaneCtl)
  /-- A RELEASE request makes the peer send PRBS31 on the released lane. (R257) -/
  | laneCtlRelease (dt : Nat) (sp : Fin 12) (m : LaneCtl)
  /-- A SPARE_IDLE request returns the spare to idle. (R257) -/
  | laneCtlSpareIdle (dt : Nat) (sp : Fin 12) (m : LaneCtl)
  /-- A LANE_FAULT request moves a logical lane onto the spare from a chosen codeword. (R255) -/
  | laneCtlLaneFault (dt : Nat) (sp : Fin 12) (m : LaneCtl)
  /-- A CAL_GAP request makes the transmitting end choose a gap for calibration. (R259) -/
  | laneCtlCalGap (dt : Nat) (sp : Fin 12) (m : LaneCtl)
  /-- A SLEEP request is acknowledged and both directions stop. (R267) -/
  | laneCtlSleep (dt : Nat) (sp : Fin 12) (m : LaneCtl)
  /-- An ACK answers a lane-control request, possibly with a START_CW. (R262) -/
  | laneCtlAck (dt : Nat) (sp : Fin 12) (m : LaneCtl)
  /-- A NAK refuses a conflicting lane-control request. (R262) -/
  | laneCtlNak (dt : Nat) (sp : Fin 12) (m : LaneCtl)
  /-- A request without an answer after 20 µs is resent once, then abandoned. (R262) -/
  | laneCtlAnswerTimeout (dt : Nat) (sp : Fin 12)
  /-- Keystone reaches W − G and the span makes a fast resume. (R268) -/
  | sleepWake (dt : Nat) (sp : Fin 12)
  /-- No ALIGN frame within 4 × G of wake starts a full training. (R269) -/
  | wakeDriftTimeout (dt : Nat) (sp : Fin 12)
  /-- A span carrying a route stays down beyond HEALTH_DOWN_US and fails its health check. (R270) -/
  | spanHealthDownTimeout (dt : Nat) (sp : Fin 12)
  /-- A failed span health check recovers after 1 s without a failing case. (R270) -/
  | spanHealthRecover (dt : Nat) (sp : Fin 12)
  /-- Sets mode, generations, rate and calibration parameters of a span. (R273) -/
  | spanSet (q : Req)
  /-- Returns span state, lane maps and counters. (R272) -/
  | spanStatus (q : Req)
  /-- Returns a lane's use, taps and counters. (R272) -/
  | laneStatus (q : Req)
  /-- Takes the link down and retrains the span. (R272) -/
  | spanTrain (q : Req)
  /-- Starts a rotation or a calibration gap. (R272) -/
  | spanCal (q : Req)
  /-- Sets a lane's PRBS generator and checker. (R263) -/
  | prbsSet (q : Req)
  /-- Returns a lane's PRBS counts and lock. (R264) -/
  | prbsRead (q : Req) (seen : PrbsSeen)
  /-- Arms bit-error injection on a lane. (R265) -/
  | errorInject (q : Req)
  /-- Moves a lane's word boundary in MODE 2. (R266) -/
  | bitSlip (q : Req)
  /-- Sets a lane's receiver taps in MODE 2. (R266) -/
  | laneTapsSet (q : Req)
  /-- Sends SLEEP with wake time and guard on a span. (R267) -/
  | spanSleep (q : Req)
  /-- Sets the mode and timing of a port pair from the next frame boundary. (R280) -/
  | portSet (q : Req)
  /-- Returns the mode, lead and counters of a pair. (R307) -/
  | portStatus (q : Req)
  /-- Binds an input table entry to a DMX port or sACN universe. (R295) -/
  | inputSet (q : Req)
  /-- Returns slots and state of an input entry. (R307) -/
  | inputRead (q : Req)
  /-- Sets sACN output and CONTROLLER_UID for an Ethernet port. (R307) -/
  | sacnSet (q : Req)
  /-- Returns sACN output counters. (R307) -/
  | sacnStatus (q : Req)
  /-- Starts full or incremental RDM discovery on a port. (R292) -/
  | rdmDiscover (q : Req)
  /-- Returns a discovered UID. (R307) -/
  | rdmUidRead (q : Req)
  /-- Queues a pass-through RDM GET or SET. (R290) -/
  | rdmRequest (q : Req)
  /-- Returns the result of an RDM request. (R307) -/
  | rdmResultRead (q : Req)
  /-- A DMX port begins the break of a frame's packet at its scheduled instant. (R283) -/
  | dmxPacketStart (dt : Nat) (p : Fin 32)
  /-- An RDM request is sent between DMX packets when its budget fits. (R291) -/
  | rdmTransactionStart (dt : Nat) (p : Fin 32)
  /-- An RDM response is received. (R291) -/
  | rdmResponse (dt : Nat) (p : Fin 32) (r : RdmResp)
  /-- No response within 2,800 µs; the request is resent once, then counted. (R291) -/
  | rdmResponseTimeout (dt : Nat) (p : Fin 32)
  /-- Full discovery runs every DISCOVERY_S seconds. (R292) -/
  | rdmDiscoveryTimer (dt : Nat) (p : Fin 32)
  /-- A closed-loop fixture's four sensors are read in turn. (R293) -/
  | rdmSensorPoll (dt : Nat) (p : Fin 32)
  /-- A DMX input packet ends and its slots are written to its entry. (R296) -/
  | dmxInputPacket (dt : Nat) (p : Fin 32) (x : DmxPacket)
  /-- An entry without a packet for LOSS_MS is lost. (R297) -/
  | inputLossTimeout (dt : Nat) (entry : Fin 1024)
  /-- An sACN data packet is received and the entry's slots are merged again. (R299) -/
  | sacnDataPacket (dt : Nat) (x : SacnPacket)
  /-- A tracked sACN source without a packet for LOSS_MS is removed. (R298) -/
  | sacnSourceLoss (dt : Nat) (entry : Fin 1024) (cid : List U8)
  /-- A single-wire pixel string starts sending a frame at its instant. (R300) -/
  | pixelStringSend (dt : Nat) (pin : Fin 64)
  /-- A clocked pixel string starts sending a frame at its instant. (R301) -/
  | clockedStringSend (dt : Nat) (pin : Fin 64)
  /-- A PWM sub-slot begins and takes its pulse from the value in force. (R155) -/
  | pwmSubslotStart (dt : Nat) (pin : Fin 64)
  /-- The sACN data packets of a frame leave. (R305) -/
  | sacnDataSend (dt : Nat) (n : Fin 4)
  /-- The synchronisation packet of a frame leaves as express traffic. (R305) -/
  | sacnSyncSend (dt : Nat) (n : Fin 4)
  /-- Universe discovery packets are sent every 10 s. (R304) -/
  | sacnDiscoverySend (dt : Nat) (n : Fin 4)
  /-- An Ethernet frame is received, checked and classified into a queue. (R326) -/
  | ethFrameRx (dt : Nat) (x : EthIn)
  /-- A frame begins transmission from the transmit classes by priority. (R313) -/
  | ethFrameTx (dt : Nat) (n : Fin 4)
  /-- A PAUSE frame holds, extends or cancels the transmit hold. (R317) -/
  | pauseRx (dt : Nat) (n : Fin 4) (quanta : U16)
  /-- A PAUSE hold expires and held frames resume. (R316) -/
  | pauseHoldEnd (dt : Nat) (n : Fin 4)
  /-- A hold longer than PAUSE_EVENT_US raises E095. (R316) -/
  | pauseLongTimeout (dt : Nat) (n : Fin 4)
  /-- Half the quanta time passes with the count still high and the PAUSE is sent again. (R318) -/
  | pauseRefresh (dt : Nat) (n : Fin 4)
  /-- The 10 ms verify time passes and verification is retried or fails. (R314) -/
  | preemptVerifyTimeout (dt : Nat) (n : Fin 4)
  /-- An Ethernet port's link goes up or down. (R346) -/
  | ethLinkChange (dt : Nat) (n : Fin 4) (up : Bool) (speed : Nat)
  /-- A HOST frame is placed into receive descriptors, or abandoned for lack of them. (R330) -/
  | hostRxPlace (dt : Nat) (n : Fin 4) (descs : List RxDesc)
  /-- The engine copies a frame from transmit descriptors into the HOST queue. (R332) -/
  | hostTxFrame (dt : Nat) (n : Fin 4) (descs : List TxDesc)
  /-- A Sync is received on the slave port, with its Follow_Up giving a sample. (R337) -/
  | ptpSync (dt : Nat) (m : PtpMsg)
  /-- A Follow_Up completes a two-step Sync sample. (R337) -/
  | ptpFollowUp (dt : Nat) (m : PtpMsg)
  /-- An Announce is received and the best master clock algorithm runs. (R335) -/
  | ptpAnnounce (dt : Nat) (m : PtpMsg) (a : PtpAnnounce)
  /-- A Delay_Req is received by a master port and answered. (R335) -/
  | ptpDelayReq (dt : Nat) (m : PtpMsg)
  /-- A Delay_Resp gives a path delay measurement. (R337) -/
  | ptpDelayResp (dt : Nat) (m : PtpMsg)
  /-- A Pdelay_Req is received and answered two-step. (R335) -/
  | ptpPdelayReq (dt : Nat) (m : PtpMsg)
  /-- A Pdelay_Resp or its follow-up gives a peer delay measurement. (R337) -/
  | ptpPdelayResp (dt : Nat) (m : PtpMsg) (follow : Bool)
  /-- A log interval passes and a PTP message is sent. (R334) -/
  | ptpMessageDue (dt : Nat) (n : Fin 4) (kind : Fin 4)
  /-- The announce-receipt timeout expires. (R335) -/
  | ptpAnnounceTimeout (dt : Nat) (n : Fin 4)
  /-- An IGMP query is answered with reports. (R327) -/
  | igmpQuery (dt : Nat) (n : Fin 4)
  /-- ARP for the port's address is answered by firmware. (R326) -/
  | arpRequest (dt : Nat) (n : Fin 4) (target : U32) (mac : Nat) (sender : U32)
  /-- A stream without a packet for LOSS_MS is lost. (R344) -/
  | streamLossTimeout (dt : Nat) (video : Bool) (ix : Fin 16)
  /-- Sets an Ethernet port's mode, addresses and options. (R346) -/
  | ethSet (q : Req)
  /-- Returns an Ethernet port's state and counters. (R346) -/
  | ethStatus (q : Req)
  /-- Sets a cell-pool queue's limit. (R346) -/
  | queueSet (q : Req)
  /-- Returns a queue's state and clears OVERRUN. (R322) -/
  | queueStatus (q : Req)
  /-- Configures a port's host channel rings. (R329) -/
  | hostchSet (q : Req)
  /-- Returns host channel pointers and counters. (R346) -/
  | hostchStatus (q : Req)
  /-- Returns and removes the oldest transmit timestamp. (R333) -/
  | txtsRead (q : Req)
  /-- Configures PTP and returns enabled ports to LISTENING. (R346) -/
  | ptpSet (q : Req)
  /-- Returns PTP port states and parent data. (R346) -/
  | ptpStatus (q : Req)
  /-- Configures an AES67 or ST 2110-20 stream. (R346) -/
  | streamSet (q : Req)
  /-- Returns a stream's counters. (R346) -/
  | streamStatus (q : Req)
  /-- A DMA completion arrives, with an error status making a DMA fault. (R440) -/
  | dmaCompletion (dt : Nat) (user : DmaUser) (addr : Nat) (ok : Bool)
  /-- No completion within 50 ms makes a DMA fault. (R440) -/
  | dmaCompletionTimeout (dt : Nat) (user : DmaUser) (addr : Nat)
  /-- PERST_N, a function-level reset or link loss resets the PCIe endpoint only. (R441) -/
  | pcieEndpointReset (dt : Nat) (cause : EndpointReset)
  /-- At t_b − 500 µs a beacon is built and its Laurel payloads chosen. (R367) -/
  | beaconBuild (dt : Nat) (ri : Fin 4)
  /-- The STB edge starts the beacon so its SFD ends at its instant. (R353) -/
  | beaconStb (dt : Nat) (ri : Fin 4)
  /-- A transmit opportunity at a backoff-slot boundary goes to the lowest requester. (R358) -/
  | radioSlotGrant (dt : Nat) (ri : Fin 4)
  /-- An association request is accepted or refused under ASSOC_MODE. (R359) -/
  | assocRequest (dt : Nat) (ri : Fin 4) (ext : U64) (sleepy : Bool)
  /-- A node's disassociation is accepted. (R359) -/
  | disassocNotify (dt : Nat) (ri : Fin 4) (src : U16)
  /-- A Data Request from a sleepy node is acknowledged and its oldest held frame sent. (R362) -/
  | dataRequest (dt : Nat) (ri : Fin 4) (src : U16) (ext : U64)
  /-- An accepted data frame feeds the sensor snapshot or the receive queue. (R361) -/
  | radioDataFrame (dt : Nat) (ri : Fin 4) (f : RadioFrame)
  /-- A Privet command is checked and a house assertion, release or trigger applied. (R363) -/
  | privetFrame (dt : Nat) (ri : Fin 4) (f : RadioFrame)
  /-- An acknowledgement ends a frame's wait. (R355) -/
  | radioAck (dt : Nat) (ri : Fin 4) (dsn : U8)
  /-- macAckWaitDuration expires and the frame is retried or counted. (R355) -/
  | ackWaitExpiry (dt : Nat) (ri : Fin 4)
  /-- A held frame older than PERSIST_BI beacon intervals is discarded. (R362) -/
  | indirectPersistExpiry (dt : Nat) (ri : Fin 4)
  /-- A parent beacon aligns a child interface's schedule. (R364) -/
  | parentBeacon (dt : Nat) (ri : Fin 4) (pan : U16) (ago : Nat)
  /-- A coordinator realignment from the parent restores sync. (R364) -/
  | coordRealignment (dt : Nat) (ri : Fin 4)
  /-- An expected parent beacon does not arrive; three misses lose sync. (R364) -/
  | parentBeaconMiss (dt : Nat) (ri : Fin 4)
  /-- 1 ms after reset release, driver records are tried in turn. (R354) -/
  | xcvrIdentify (dt : Nat) (ri : Fin 4) (resp : List U32)
  /-- An interface in transceiver fault retries identification every 1 s. (R353) -/
  | xcvrRetry (dt : Nat) (ri : Fin 4) (resp : List U32)
  /-- Configures a radio interface from the next build instant. (R372) -/
  | radioSet (q : Req)
  /-- Returns a radio interface's state and counters. (R372) -/
  | radioStatus (q : Req)
  /-- Returns an associated node's data. (R372) -/
  | nodeRead (q : Req)
  /-- Disassociates a node. (R359) -/
  | nodeDisassociate (q : Req)
  /-- Allows an extended address under ASSOC_MODE 2. (R359) -/
  | nodeAllow (q : Req)
  /-- Disallows an extended address. (R359) -/
  | nodeDisallow (q : Req)
  /-- Enrols a Privet station and sets its rights and KEY_GEN. (R363) -/
  | privetSet (q : Req)
  /-- Sends or holds a frame for a node. (R362) -/
  | radioSend (q : Req)
  /-- Returns a frame from the receive queue. (R361) -/
  | radioRecv (q : Req)
  /-- Returns a transceiver driver record. (R354) -/
  | radioXcvrRead (q : Req)
  /-- A heartbeat is sent at every 16th tick on the pier link and witness. (R382) -/
  | heartbeatSend (dt : Nat)
  /-- A partner heartbeat is received. (R383) -/
  | pierHeartbeatMsg (dt : Nat) (span : Fin 12) (m : Msg)
  /-- No partner heartbeat for HB_MISS intervals makes the partner silent. (R383) -/
  | partnerSilence (dt : Nat)
  /-- No PATH 1 heartbeat for HB_MISS intervals loses the Trestle witness. (R374) -/
  | trestleWitnessLoss (dt : Nat)
  /-- PIER_ACT_IN goes low. (R374) -/
  | pierActInFall (dt : Nat)
  /-- PIER_ACT_IN goes high. (R374) -/
  | pierActInRise (dt : Nat)
  /-- Without a refresh for two heartbeat intervals, PIER_ACT_OUT falls by itself. (R375) -/
  | holdCircuitExpiry (dt : Nat)
  /-- A partner's PIER_RELEASE makes the standby claim. (R387) -/
  | pierReleaseMsg (dt : Nat) (span : Fin 12) (m : Msg)
  /-- A partner's claim is received and same-tick claims are settled by role. (R390) -/
  | pierClaimMsg (dt : Nat) (span : Fin 12) (m : Msg)
  /-- A partner digest is received and compared. (R381) -/
  | pierDigestMsg (dt : Nat) (span : Fin 12) (m : Msg)
  /-- The engine holding control sends PIER_SEAL of frame m. (R378) -/
  | sealSend (dt : Nat)
  /-- A seal part arrives at the standby. (R378) -/
  | pierSealMsg (dt : Nat) (span : Fin 12) (m : Msg)
  /-- No seal by C(m); the standby uses its own inputs. (R378) -/
  | sealMissingAtCutoff (dt : Nat)
  /-- Role A in STANDBY with enough clean frames sends PIER_REVERT request. (R393) -/
  | revertRequest (dt : Nat)
  /-- A revert request, accept or refuse is received. (R393) -/
  | pierRevertMsg (dt : Nat) (span : Fin 12) (m : Msg)
  /-- At C′(M) of a planned handover the pins change over. (R394) -/
  | handoverAtCutoff (dt : Nat)
  /-- A resync request, begin, complete or abandon message is received. (R392) -/
  | pierResyncMsg (dt : Nat) (span : Fin 12) (m : Msg)
  /-- PARTNER_WAIT_MS passes at start-up without a partner heartbeat. (R398) -/
  | partnerWaitExpiry (dt : Nat)
  /-- Configures pairing. (R401) -/
  | pierSet (q : Req)
  /-- Returns pier state. (R401) -/
  | pierStatus (q : Req)
  /-- Schedules a planned handover at APPLY_FRAME. (R394) -/
  | pierControlHandover (q : Req)
  /-- Requests a resync on an engine without control. (R392) -/
  | pierControlResync (q : Req)
  /-- Holds off automatic revert. (R393) -/
  | pierControlRevertHold (q : Req)
  /-- Allows automatic revert. (R393) -/
  | pierControlRevertAllow (q : Req)
  /-- Returns pier counters. (R401) -/
  | pierCounters (q : Req)
  /-- A tamper input stays asserted for FILTER_US. (R425) -/
  | tamperInputAssert (dt : Nat) (n : Fin 4)
  /-- A voltage, clock or temperature monitor trips. (R425) -/
  | tamperMonitorTrip (dt : Nat) (n : Fin 3)
  /-- An open proposal lapses. (R420) -/
  | proposalLapse (dt : Nat)
  /-- Returns Boxwood state. (R433) -/
  | boxStatus (q : Req)
  /-- Returns a persistent slot's state and policy. (R433) -/
  | slotInfo (q : Req)
  /-- Unwraps a blob into a working slot. (R412) -/
  | keyLoad (q : Req)
  /-- Returns a working slot's state. (R433) -/
  | wkStatus (q : Req)
  /-- Returns an HMAC over the challenge and a fresh counter. (R417) -/
  | challenge (q : Req)
  /-- Opens a proposal after checking its body. (R421) -/
  | propose (q : Req)
  /-- Verifies an officer approval and applies the change on the second. (R419) -/
  | approve (q : Req) (writeFails : Nat)
  /-- Closes a proposal without change. (R420) -/
  | proposalCancel (q : Req)
  /-- Returns an officer entry. (R433) -/
  | officerRead (q : Req)
  /-- Returns the identity public key and root. (R405) -/
  | identityRead (q : Req)
  /-- A write of REQ_TAIL rings a channel's doorbell. (R443) -/
  | reqTailWrite (dt : Nat) (c : Fin 8) (tail : U16)
  /-- A channel takes up its request when its family, a core and ordering allow. (R447) -/
  | requestTakeUp (dt : Nat)
  /-- An incomplete request gets no further doorbell for 1 ms. (R444) -/
  | messageWaitTimeout (dt : Nat) (c : Fin 8)
  /-- A response is written when the ring has room. (R445) -/
  | responseWrite (dt : Nat) (c : Fin 8)
  /-- A write of RSP_HEAD frees response space. (R445) -/
  | rspHeadWrite (dt : Nat) (c : Fin 8) (head : U16)
  /-- A channel waits RSP_STALL_MS for space and raises E005. (R445) -/
  | rspStallTimeout (dt : Nat) (c : Fin 8)
  /-- A write of EVT_HEAD frees event records. (R462) -/
  | evtHeadWrite (dt : Nat) (head : U16)
  /-- A write of HC_RX_TAIL posts receive descriptors. (R329) -/
  | hcRxTailWrite (dt : Nat) (n : Fin 4) (tail : U16)
  /-- A write of HC_TX_TAIL posts transmit descriptors. (R329) -/
  | hcTxTailWrite (dt : Nat) (n : Fin 4) (tail : U16)
  /-- A host write to any other W0 or W2 address. (R439) -/
  | w0OtherWrite (dt : Nat) (w2 : Bool) (addr : Nat) (data : List U8)
  /-- IRQ_US passes and a pending MSI-X signal is sent. (R465) -/
  | irqModerationTimer (dt : Nat)
  /-- A single-line SPI write transaction. (R456) -/
  | spiWrite (dt : Nat) (addr : BitVec 24) (data : List U8) (part : Bool)
  /-- A single-line SPI read transaction. (R455) -/
  | spiRead (dt : Nat) (addr : BitVec 24) (n : Nat) (part : Bool)
  /-- A quad SPI write transaction. (R456) -/
  | spiQwrite (dt : Nat) (addr : BitVec 24) (data : List U8) (part : Bool)
  /-- A quad SPI read transaction. (R455) -/
  | spiQread (dt : Nat) (addr : BitVec 24) (n : Nat) (part : Bool)
  /-- Returns the SPI status byte and clears FRAME_ERROR. (R455) -/
  | spiStatus (dt : Nat)
  /-- An unknown instruction raises FRAME_ERROR. (R456) -/
  | spiUnknownInstruction (dt : Nat) (ins : U8)
  /-- CS_N low for 10 ms without SCK abandons the transaction. (R456) -/
  | spiIdleTimeout (dt idle : Nat)
  /-- A UDP mailbox datagram is authenticated and queued. (R457) -/
  | udpMailboxDatagram (dt : Nat) (d : Datagram)
  /-- A relayed mailbox message or reply arrives. (R460) -/
  | mgmtMsg (dt : Nat) (span : Fin 12) (m : Msg)
  /-- RELAY_WAIT_MS passes without a reply. (R460) -/
  | relayWaitExpiry (dt : Nat)
  /-- A BULK data or acknowledgement message is received. (R461) -/
  | bulkMsg (dt : Nat) (span : Fin 12) (m : Msg)
  /-- 1 ms without progress makes the sender resend. (R461) -/
  | bulkAckTimeout (dt : Nat)
  /-- Returns its data unchanged. (R481) -/
  | diagEcho (q : Req)
  /-- Returns pin levels sampled in one cycle. (R481) -/
  | diagPinRead (q : Req)
  /-- Runs the selected self-tests. (R482) -/
  | diagSelftest (q : Req)
  /-- The self-tests end and E002 reports the result. (R482) -/
  | selftestComplete (dt : Nat) (failed : BitVec 4) (first : U32) (cores : List (Fin 64))
  /-- Raises E003 with the given data. (R481) -/
  | diagEventRaise (q : Req)
  /-- Flips one bit of a Deck word. (R484) -/
  | faultInjectDeckSingle (q : Req)
  /-- Makes a Deck word uncorrectable. (R484) -/
  | faultInjectDeckDouble (q : Req)
  /-- Makes the next task on a core trap and excludes the core. (R484) -/
  | faultInjectCore (q : Req)
  /-- Corrupts the digest of APPLY_FRAME. (R484) -/
  | faultInjectDigest (q : Req)
  /-- Forces a self-check to fail for COUNT frames. (R484) -/
  | faultInjectCheck (q : Req)
  /-- Makes a flow's first task of APPLY_FRAME trap. (R484) -/
  | faultInjectFlowTrap (q : Req)
  /-- VIN rises above 2.62 V and sequencing begins. (R489) -/
  | vinRise (dt : Nat) (mv : Nat)
  /-- VIN below 2.60 V for 100 µs raises E123. (R489) -/
  | vinLowWarning (dt : Nat) (mv : Nat)
  /-- VIN below 2.50 V starts a controlled shutdown. (R489) -/
  | vinShutdown (dt : Nat) (mv : Nat)
  /-- VBAT leaves its range and the tamper domain moves to VIN. (R490) -/
  | vbatOutOfRange (dt : Nat) (mv : Nat)
  /-- VBAT in range for 10 ms takes the tamper domain back. (R490) -/
  | vbatReturn (dt : Nat) (mv : Nat)
  /-- A VDDIO bank rises and its level is sensed. (R491) -/
  | vddioRise (dt : Nat) (bank : Fin 2) (mv : Nat)
  /-- A VDDIO bank falls and its pins are undriven. (R491) -/
  | vddioFall (dt : Nat) (bank : Fin 2)
  /-- RESET_N low for 1 µs resets the engine. (R492) -/
  | resetNAssert (dt : Nat)
  /-- RESET_N is released and the boot begins. (R497) -/
  | resetNRelease (dt : Nat)
  /-- The boot completes and the engine reports ready with E000. (R497) -/
  | bootReady (dt : Nat) (r : BootRead)
  /-- The engine is not ready within 10 s and the bank fails. (R502) -/
  | bootWatchdogExpiry (dt : Nat) (bootMode : Fin 4)
  /-- Keystone reaches W − G − 50 ms and the engine wakes. (R496) -/
  | scheduledWake (dt : Nat)
  /-- The 1 ms thermal model evaluation computes TJ. (R506) -/
  | thermalEvaluation (dt : Nat) (r : ThermalRead)
  /-- Every 100 ms at or above THROTTLE_C the render clock falls by one eighth. (R509) -/
  | throttleStepDown (dt : Nat)
  /-- Every 1 s below THROTTLE_C − 5 °C the render clock rises by one eighth. (R509) -/
  | throttleStepUp (dt : Nat)
  /-- The orderly stop's wait ends and the engine powers down. (R510) -/
  | orderlyPowerDown (dt : Nat)
  /-- Two sensors at 125 °C remove every rail within 10 µs. (R511) -/
  | hardwareThermalTrip (dt : Nat) (reading : List Int)
  /-- RESTART_S has passed and the die is cool, and the engine boots. (R511) -/
  | thermalRestart (dt : Nat) (die : Int)
  /-- Returns supplies, mode and domain powers. (R519) -/
  | powerStatus (q : Req)
  /-- Wakes the engine from venue standby. (R496) -/
  | powerModeRun (q : Req)
  /-- Enters venue standby. (R494) -/
  | powerModeStandby (q : Req)
  /-- Returns thermal level, TJ and readings. (R519) -/
  | thermalStatus (q : Req)
  /-- Sets thermal thresholds and restart. (R519) -/
  | thermalSet (q : Req)
  /-- Sets the wake entries and guard. (R519) -/
  | wakeScheduleSet (q : Req)
  /-- Opens an update into the inactive bank. (R514) -/
  | updateBegin (q : Req)
  /-- Buffers a block of the package for programming. (R515) -/
  | updateBlock (q : Req)
  /-- Background programming of buffered bytes completes. (R515) -/
  | flashProgramComplete (dt : Nat)
  /-- An open update idle for 600 s is abandoned. (R515) -/
  | updateIdleTimeout (dt : Nat)
  /-- Starts the read-back and checks of the written bank. (R516) -/
  | updateEnd (q : Req)
  /-- The bank checks finish and E124 reports the result. (R516) -/
  | updateCheckComplete (dt : Nat) (readBack : Bool)
  /-- Returns update state. (R519) -/
  | updateStatus (q : Req)
  /-- Starts a boot-record write activating the verified bank on trial. (R517) -/
  | updateActivate (q : Req)
  /-- The activation record stands. (R517) -/
  | bootRecordWriteComplete (dt : Nat)
  /-- Closes an open or verified update. (R517) -/
  | updateAbort (q : Req)
  /-- A received codeword has more byte errors than the code corrects; its block is discarded and counted, eight in a row lose codeword lock, and too many in 1 ms fail the span health check. (R242) -/
  | codewordUncorrectable (dt : Nat) (sp : Fin 12)
  /-- PERST_N is released and the PCIe endpoint leaves reset and answers configuration requests within 100 ms. (R499) -/
  | perstNRelease (dt : Nat) (width : Fin 3) (gen : Fin 3)
  /-- An asserted tamper input returns to its idle level, or a tripped monitor returns within its limits, so TAMP_LEVEL clears and TAMPER_CLEAR may be proposed and approved. (R431) -/
  | tamperInputRelease (dt : Nat) (n : Fin 7)
  /-- VIN, having fallen below 2.60 V without reaching shutdown, re-enters its range and E123 reports the return. (R489) -/
  | vinRangeReturn (dt : Nat) (mv : Nat)
  deriving DecidableEq, Repr

end Sys2Proof
end

