-- ==== Sys2Proof/Decode.lean ====
section
/-! DEFINITION. Decode.lean: the command that a word of the opcode table spells. The table gives none of its rows any bits:
the commands are host messages and events, not encoded words. -/
namespace Sys2Proof

/-- The command that a table word of `nbits` bits spells: none, since no row of the table has bits. -/
def decodeTableWord (_nbits _w : Nat) : Option Instr := none

end Sys2Proof
end

