-- ==== Sys2Proof/Machine/EthTypes.lean ====
section
/-! DEFINITION. Machine/EthTypes.lean: the state of Ethernet, the cell pool and PTP, as plain data. A field's docstring names the rule or table it
comes from; default values are the reset values. -/
namespace Sys2Proof.Machine
open Sys2Proof

/-! ### Ethernet ports, the cell pool and PTP (chapter 9) -/

/-- ETH_SET values of a port (Table 9.11). -/
structure EthCfg where
  mode : U8 := 1
  rsFec : Bool := true
  anEn : Bool := true
  preemptEn : Bool := true
  rxPauseEn : Bool := true
  txPauseEn : Bool := false
  maxFrame : U16 := 9216
  mac : Nat := 0
  vid : Nat := 0
  pcp : Nat := 5
  ip : U32 := 0
  netmask : U32 := 0
  gateway : U32 := 0
  dscpShow : U8 := 34
  dscpExpress : U8 := 46
  mgmtPort : U16 := 49160
  latchPort : U16 := 49161
  wSacn : U8 := 6
  wMgmt : U8 := 1
  wHost : U8 := 1
  addFrag : U8 := 0
  pauseQuanta : U16 := 0xFFFF
  xoffCells : U16 := 1024
  xonCells : U16 := 512
  latchGroup : U32 := 0
  txDelayPs : Int := 0
  rxDelayPs : Int := 0
  pauseEventUs : U16 := 1000
  deriving DecidableEq, Repr

/-- HOSTCH_SET values of a port (Table 9.13). -/
structure HostchCfg where
  rxEn : Bool := false
  txEn : Bool := false
  arpCopy : Bool := false
  allMulti : Bool := false
  vector : U8 := 0
  rxEntries : U16 := 256
  txEntries : U16 := 256
  rxBase : U64 := 0
  txBase : U64 := 0
  irqFrames : U16 := 8
  irqUs : U16 := 50
  deriving DecidableEq, Repr

/-- A PTP message that this engine sends: its kind as in Out.ptp, sequence, the time it states in 2^-16 ns, and of the request it
answers the correction, identity and port (R335). -/
structure PtpOut where
  kind : Nat
  seq : U16
  time : Int := 0
  reqCorr : Int := 0
  reqId : U64 := 0
  reqPort : U16 := 0
  deriving DecidableEq, Repr

/-- A frame that stands in a queue of the cell pool (R321, R323). -/
structure PoolFrame where
  /-- bytes on the wire, FCS included -/
  len : Nat
  /-- its bytes but for the FCS -/
  bytes : List U8 := []
  /-- receive timestamp, full time in 2^-16 ns -/
  ts : Int := 0
  /-- R319: a frame to send whose checksums are inserted as it leaves; R320: a received frame examined -/
  csum : Bool := false
  /-- R320: header correct, UDP correct or absent -/
  ipOk : Bool := false
  l4Ok : Bool := false
  /-- TS_ID of a frame with TS_REQ -/
  tsReq : Option U16 := none
  /-- a PTP message of this engine -/
  ptp : Option PtpOut := none
  deriving DecidableEq, Repr

/-- Cells a frame takes (R321). -/
def PoolFrame.cells (f : PoolFrame) : Nat := (f.len + 255) / 256

/-- A queue of the cell pool (R322). -/
structure Queue where
  /-- LIMIT; none: the default of Table 9.4 -/
  limit : Option Nat := none
  frames : List PoolFrame := []
  overrun : Bool := false
  run : Bool := false
  packets : U32 := 0
  discarded : U32 := 0
  deriving DecidableEq, Repr

/-- A frame or fragment on the pins: class, frame, engine time of its start, bytes of it still to send at the start. -/
structure TxOn where
  cls : Nat
  frame : PoolFrame
  start : Nat
  left : Nat
  deriving DecidableEq, Repr

/-- An entry of the transmit-timestamp queue (R333). -/
structure Txts where
  id : U16
  discarded : Bool
  s : Nat := 0
  ns : Nat := 0
  subns : Nat := 0
  deriving DecidableEq, Repr

/-- A host channel (R329 to R332). -/
structure Hostch where
  cfg : HostchCfg := {}
  rxHead : U16 := 0
  rxTail : U16 := 0
  txHead : U16 := 0
  txTail : U16 := 0
  rxFrames : U32 := 0
  txFrames : U32 := 0
  noBuffer : U32 := 0
  txErrors : U32 := 0
  noBufRun : Bool := false
  /-- frames placed and not yet signalled, and since when -/
  unsignalled : Nat := 0
  since : Option Nat := none
  deriving DecidableEq, Repr

/-- An Ethernet port (R310 to R333, Table 9.12). -/
structure Eth where
  cfg : EthCfg := {}
  link : Bool := false
  /-- SPEED of Table 9.12 -/
  speed : Nat := 0
  /-- PREEMPT of Table 9.12 -/
  preempt : Nat := 0
  verifyAt : Nat := 0
  verifyTries : Nat := 0
  /-- the hold: engine time of its end in ps, when it began, and whether E095 was raised -/
  holdPs : Option Nat := none
  holdFrom : Nat := 0
  holdRaised : Bool := false
  xoff : Bool := false
  xoffAt : Nat := 0
  tx : Option TxOn := none
  /-- the remainder of a preempted frame -/
  held : Option TxOn := none
  /-- frames of the engine's own writers that wait for room in their queue (R324) -/
  txWait : List (Nat × PoolFrame) := []
  /-- the multicast groups that reports have joined (R327) -/
  joined : List U32 := []
  deficit : Vector Nat 3 := .replicate 3 0
  drrAt : Fin 3 := 0
  hc : Hostch := {}
  txts : List Txts := []
  txtsOver : Bool := false
  framesTx : U32 := 0
  framesRx : U32 := 0
  fcsErrors : U32 := 0
  csumErrors : U32 := 0
  preemptions : U32 := 0
  pauseRx : U32 := 0
  pauseTx : U32 := 0
  heldUs : U32 := 0
  expressHeld : U32 := 0
  unclassified : U32 := 0
  txtsLost : U32 := 0
  rxDiscarded : U32 := 0
  tooLong : U32 := 0
  deriving DecidableEq, Repr

/-- The data an Announce carries (IEEE 1588-2019 dataset comparison, R335). -/
structure PtpData where
  prio1 : U8 := 128
  cls : U8 := 248
  accuracy : U8 := 0xFE
  variance : U16 := 0
  prio2 : U8 := 128
  gm : U64 := 0
  steps : U16 := 0
  utcOffset : U16 := 37
  utcValid : Bool := false
  ptpTimescale : Bool := true
  deriving DecidableEq, Repr, Inhabited

/-- A foreign master heard on a port: its identity and port, its data, when its last Announces arrived. -/
structure Foreign where
  identity : U64
  port : U16
  data : PtpData
  last : Nat
  prev : Option Nat := none
  deriving DecidableEq, Repr

/-- A PTP port (R334 to R337). -/
structure PtpPort where
  /-- portState, IEEE 1588 codes; 0 not enabled -/
  state : Nat := 0
  foreign : List Foreign := []
  /-- when the announce-receipt wait began -/
  announceAt : Nat := 0
  /-- when Sync, Announce, Delay_Req or Pdelay_Req was last sent -/
  sentAt : Vector Nat 4 := .replicate 4 0
  seqs : Vector U16 4 := .replicate 4 0
  /-- Sync waiting for its Follow_Up: sequence, receive full time in 2^-16 ns, correction -/
  sync : Option (U16 × Int × Int) := none
  /-- t1 and t2 of the last sample, 2^-16 ns -/
  lastSync : Option (Int × Int) := none
  /-- Delay_Req outstanding: sequence and transmit time, 2^-16 ns -/
  delay : Option (U16 × Int) := none
  /-- Pdelay_Req outstanding: sequence and t1; and once a two-step response is in, its sequence, t4, t2 and correction -/
  pdelay : Option (U16 × Int) := none
  presp : Option (U16 × Int × Int × Int) := none
  deriving DecidableEq, Repr

/-- PTP_SET values (Table 9.14). -/
structure PtpCfg where
  profile : U8 := 2
  domain : U8 := 0xFF
  mask : Nat := 0
  transport : Bool := false
  slaveOnly : Bool := false
  prio1 : U8 := 128
  prio2 : U8 := 128
  clsOwn : U8 := 248
  accOwn : U8 := 0xFE
  announceTimeout : U8 := 3
  logs : Vector U8 4 := .replicate 4 0x7F
  outlierNs : U16 := 1000
  filter : U8 := 4
  deriving DecidableEq, Repr

/-- The PTP instance (R334 to R338, Table 9.15). -/
structure Ptp where
  cfg : PtpCfg := {}
  ports : Vector PtpPort 4 := .replicate 4 {}
  /-- parent: identity, port number and data; none: the engine itself -/
  parent : Option (U64 × U16 × PtpData) := none
  /-- meanPathDelay in 2^-16 ns, once measured -/
  meanPath : Option Int := none
  lastOffset : Int := 0
  syncRx : U32 := 0
  outliers : U32 := 0
  timeouts : U32 := 0
  /-- thetas of the last eight accepted samples in 2^-16 ns, newest first -/
  hist : List Int := []
  deriving DecidableEq, Repr

/-- STREAM_SET values (Table 9.16). -/
structure StreamCfg where
  on : Bool := false
  mask : Nat := 0
  dual : Bool := false
  payloadType : U8 := 96
  destIp : U32 := 0
  sourceIp : U32 := 0
  udpPort : U16 := 5004
  lossMs : U16 := 100
  clkOffset : U32 := 0
  channels : U8 := 2
  rate96 : Bool := false
  format : U8 := 1
  width : U16 := 1920
  height : U16 := 1080
  maxSkewMs : U16 := 10
  deriving DecidableEq, Repr

/-- A media stream (R340 to R344). -/
structure Media where
  cfg : StreamCfg := {}
  packets : U32 := 0
  lost : U32 := 0
  late : U32 := 0
  incomplete : U32 := 0
  second : U32 := 0
  present : Bool := false
  /-- last sequence number taken in order, and engine time of the last packet -/
  seq : Option Nat := none
  lastAt : Option Nat := none
  /-- sequence numbers taken within half their range of the newest, with the time their first copy arrived -/
  recent : List (Nat × Nat) := []
  /-- sequence numbers passed over that have not come since, of the source frame in progress (R343) -/
  missing : List Nat := []
  /-- RTP timestamp of the last source frame begun -/
  rtp : Option U32 := none
  /-- the stream was lost and has not recovered -/
  lostRun : Bool := false
  deriving DecidableEq, Repr

/-- Ethernet, the cell pool, PTP and media streams. -/
structure Net where
  eth : Vector Eth 4 := .replicate 4 {}
  queues : Tab Queue := []
  ptp : Ptp := {}
  aes : Vector Media 16 := .replicate 16 {}
  st2110 : Vector Media 8 := .replicate 8 {}
  deriving DecidableEq, Repr

end Sys2Proof.Machine
end

