-- ==== Sys2Proof/Machine/PictureTypes.lean ====
section
/-! DEFINITION. Machine/PictureTypes.lean: the state of colour, motion, Deck, ingest and raster, as plain data. A field's docstring names the rule or table it
comes from; default values are the reset values. -/
namespace Sys2Proof.Machine
open Sys2Proof

/-! ### Colour and motion (chapter 4) -/

/-- CMU_CONFIG values (Table 4.11). -/
structure CmuCfg where
  loopKi : U16 := 0x4000
  loopMinLum : U16 := 0x0CCD
  settleFrames : U8 := 4
  updateFrames : U8 := 8
  timeoutFrames : U16 := 120
  tempHoldFrames : U16 := 600
  deriving DecidableEq, Repr

/-- A sensor reading (R225 TYPE 1). -/
structure Reading where
  sensor : U16
  sample : U32
  u : U16
  v : U16
  y : U16
  /-- TEMP, s8.8 -/
  temp : Int
  deriving DecidableEq, Repr

/-- The result of a solve (Table 4.14). -/
structure Solve where
  frame : U32 := 0xFFFFFFFF
  targetU : U16 := 0
  targetV : U16 := 0
  mappedU : U16 := 0
  mappedV : U16 := 0
  lum : U16 := 0
  outOfGamut : Bool := false
  lumLimited : Bool := false
  tempStale : Bool := false
  drives : List U16 := List.replicate 8 0
  deriving DecidableEq, Repr

/-- A fixture's colour loop and temperature (R143, R147 to R149). -/
structure Loop where
  /-- 0 OFF, 1 RUN, 2 FROZEN (Table 4.13) -/
  st : Nat := 0
  disabled : Bool := false
  saturated : Bool := false
  satCount : Nat := 0
  ix : Int := 0
  iy : Int := 0
  iz : Int := 0
  lastUpdate : Option U32 := none
  lastSample : Option U32 := none
  /-- an update has been made since the grid started: only then do the two count by frame number -/
  since : Bool := false
  epsX : Int := 0
  epsY : Int := 0
  epsZ : Int := 0
  /-- frame at which the loop began to wait for a valid reading -/
  validAt : U32 := 0
  /-- frame, u, v and l of the last 31 frames, newest first: 16 that a reading may name, and SETTLE_FRAMES behind them -/
  hist : List (U32 × U16 × U16 × U16) := []
  tempStale : Bool := false
  /-- the solve of the frame being rendered, and of the last committed frame -/
  solveNext : Solve := {}
  solve : Solve := {}
  deriving DecidableEq, Repr

/-- The temperature a sensor reported: TEMP of its newest reading, that reading's SAMPLE_FRAME, and the frame at whose S(m) a
reading of it last came (R143). -/
structure Temp where
  value : Int := 0
  sample : Option U32 := none
  at_ : Option U32 := none
  deriving DecidableEq, Repr

/-- The correction that a fixture's solves of one frame use: the integrators as they stand at S(m) (R142, R148). -/
structure Corr where
  ix : Int := 0
  iy : Int := 0
  iz : Int := 0
  deriving DecidableEq, Repr

/-- What a frame computes from, taken at its S(m) and unchanged by later frames: corrections by fixture, temperatures by
sensor, the input table, and the loops counted by state (R142, R148, R295, Table 4.12). -/
structure FrameInputs where
  frame : U32
  corr : Tab Corr := []
  temps : Tab Temp := []
  table : List (Nat × List U8) := []
  run : Nat := 0
  frozen : Nat := 0
  saturated : Nat := 0
  deriving DecidableEq, Repr

/-- A house entry of a CMU pass in progress: the engine time at which a lane solves it, the fixture and its drives (R145,
R146, Table 4.9). -/
structure HouseEntry where
  at_ : Nat
  fixture : Nat
  drives : List U16
  deriving DecidableEq, Repr

/-- What names a destination across images: kind, port and address. -/
structure DestKey where
  kind : U8
  port : U8
  address : U32
  deriving DecidableEq, Repr

/-- A position that a receiver reported: the destinations that lead to it, the slot, VALUE, SAMPLE_FRAME and engine time
(R162, R225). -/
structure PosRec where
  dests : List DestKey
  slot : Nat
  value : U16
  sample : U32
  at_ : Nat
  deriving DecidableEq, Repr

/-- A standby's own inputs of a frame at S(m), kept while it waits for the frame's seal (R378). -/
structure OwnInputs where
  frame : U32
  readings : List Reading
  positions : List PosRec
  snap : List (Nat × List U8)
  deriving DecidableEq, Repr

/-- Counts of the CMU and kinetic passes of a frame (Table 4.12). -/
structure PassCounts where
  frame : U32 := 0xFFFFFFFF
  solves : U32 := 0
  gamut : U32 := 0
  limited : U32 := 0
  stale : U16 := 0
  cmuNs : U32 := 0
  kinNs : U32 := 0
  run : Nat := 0
  frozen : Nat := 0
  saturated : Nat := 0
  stopped : Nat := 0
  deriving DecidableEq, Repr

/-- A kinetic parameter instance (R156 to R162). -/
structure Kin where
  /-- u16.16 -/
  p : Nat := 0
  /-- s16.16 -/
  v : Int := 0
  target : U16 := 0
  /-- MODE of KINETIC_READ -/
  mode : Nat := 0
  frame : U32 := 0xFFFFFFFF
  /-- the limiter has stepped it since it was placed: it is no longer new to the show (R162) -/
  stepped : Bool := false
  deriving DecidableEq, Repr

/-- A KINETIC_STOP in force or waiting (Table 4.15). -/
structure KStop where
  action : U8
  scope : U8
  first : Nat
  count : Nat
  groups : U32
  frame : U32
  applied : Bool := false
  deriving DecidableEq, Repr

/-- The causes of rank 1 that are not host commands (Table 4.7). -/
structure StopCauses where
  thermal : Bool := false
  tamper : Bool := false
  grid : Bool := false
  deriving DecidableEq, Repr

/-- The CMU and the kinetic limiter (R140 to R165). -/
structure Fix where
  cfg : CmuCfg := {}
  loops : Tab Loop := []
  /-- readings received since the last snapshot, each with its full time of arrival, and the snapshot, in order of arrival
  (R142) -/
  arrived : List (Int × Reading) := []
  snapshot : List Reading := []
  /-- temperatures by sensor as the newest snapshot leaves them (R143) -/
  temps : Tab Temp := []
  /-- inputs of the last 16 frames whose snapshot is taken, newest first -/
  inputs : List FrameInputs := []
  /-- positions reported: destination, slot, value, engine time (R162) -/
  positions : List (DestKey × Nat × U16 × Nat) := []
  /-- positions received since the last snapshot, each with its full time of arrival (R225) -/
  posArrived : List (Int × PosRec) := []
  /-- frames whose seal a standby waits for, oldest first (R378) -/
  waiting : List OwnInputs := []
  /-- house table: drives by fixture (R146) -/
  houseTable : Tab (List U16) := []
  /-- house entries of the last CMU pass that have not joined the table -/
  housePend : List HouseEntry := []
  kin : Tab Kin := []
  /-- the kinetic output table's halves (R141) -/
  outNext : Tab Nat := []
  outCur : Tab Nat := []
  /-- instances as the pass of each recent frame left them, newest first (R160) -/
  kinHist : List (U32 × Tab Kin) := []
  /-- the instances before the oldest pass of kinHist -/
  kinBase : Tab Kin := []
  /-- while a swap has reached the gate alone: base and passes of the old image (R160) -/
  kinOld : Option (Tab Kin × List (U32 × Tab Kin)) := none
  stops : List KStop := []
  causes : StopCauses := {}
  /-- TICK_COUNT at the last presentation, or at the last stop step of a stopped grid (R161) -/
  stepTick : U32 := 0
  /-- E052 is due for the stop in progress -/
  restDue : Bool := false
  /-- frames whose kinetic pass has begun -/
  passFrame : Option U32 := none
  cmuBusy : Option U32 := none
  kinBusy : Option U32 := none
  deferred : U32 := 0
  /-- counts of the frame being rendered, and of the last committed frame -/
  passNext : PassCounts := {}
  pass : PassCounts := {}
  passAt : Nat := 0
  deriving DecidableEq, Repr

/-! ### Deck, ingest and raster (chapter 5) -/

/-- Deck (R169 to R175). -/
structure Deck where
  /-- bytes of the regions of Table 5.1, by byte address -/
  mem : Tab U8 := []
  /-- words with bit errors, by word address: 1 single, 2 double -/
  ecc : Tab Nat := []
  /-- the half that is current is half 1 -/
  half1 : Bool := false
  /-- render pixel spans that are valid in each half: first slot and count (R174) -/
  valid : Vector (List (Nat × Nat)) 2 := .replicate 2 []
  /-- the frame whose results the next half takes -/
  nextFrame : Option U32 := none
  eccCorrected : U32 := 0
  eccUncorrectable : U32 := 0
  lastUe : U32 := 0
  scrubPasses : U32 := 0
  /-- byte address the scrubber reads next -/
  scrubAt : Nat := 0
  /-- accesses of 64 bytes granted in the frame period in progress, and in the last one per thousand cycles (Table 5.11) -/
  granted : Nat := 0
  busy : U16 := 0
  deriving DecidableEq, Repr

/-- INGEST_SET values (Table 5.8). -/
structure IngestCfg where
  enable : Bool := false
  colour : U8 := 0
  full : Bool := false
  map : Nat := 0
  cropX : U16 := 0
  cropY : U16 := 0
  cropW : U16 := 0
  cropH : U16 := 0
  delayUs : U32 := 20000
  deriving DecidableEq, Repr

/-- A copy of an ingest map (R179 to R182). -/
structure Copy where
  /-- bands still to be written; the copy is being written while it is not zero -/
  bands : Nat := 0
  writing : Bool := false
  complete : Bool := false
  /-- frames that hold it -/
  held : List U32 := []
  /-- media time, full ns -/
  media : Int := 0
  freeSince : Nat := 0
  /-- lower half of the RTP timestamp of the source frame it takes, which its band tasks carry -/
  tag : Nat := 0
  /-- samples of the source frame it takes, by line and place, until it is complete -/
  src : Tab U16 := []
  deriving DecidableEq, Repr

/-- A frame's capture of a copy of an ingest map (R181). -/
structure Capture where
  frame : U32
  map : Nat
  copy : Fin 4
  deriving DecidableEq, Repr

/-- An ingest stream (R177 to R182, Table 5.12). -/
structure Ingest where
  cfg : IngestCfg := {}
  copies : Vector Copy 4 := .replicate 4 {}
  /-- source frame being received: RTP timestamp and copy -/
  source : Option (U32 × Option (Fin 4)) := none
  lines : Nat := 0
  capturedFrame : U32 := 0xFFFFFFFF
  capturedMedia : U32 := 0
  /-- captures of frames not past -/
  captures : List Capture := []
  written : U32 := 0
  dropped : U32 := 0
  lateCaptures : U32 := 0
  srcW : U16 := 0
  srcH : U16 := 0
  format : U8 := 0
  dropRun : Bool := false
  lateRun : Bool := false
  deriving DecidableEq, Repr

/-- A layer's registers (Table 5.10). -/
structure LayerCfg where
  blend : U8 := 0
  enable : Bool := false
  map : Nat := 0
  srcX : Nat := 0
  srcY : Nat := 0
  srcW : Nat := 0
  srcH : Nat := 0
  dstX : Nat := 0
  dstY : Nat := 0
  repX : Nat := 1
  repY : Nat := 1
  opacity : U16 := 0xFFFF
  deriving DecidableEq, Repr

/-- A raster engine's registers (Table 5.9). -/
structure RasterCfg where
  enable : Bool := false
  span : U8 := 0
  outBits : U8 := 12
  hActive : Nat := 1920
  vActive : Nat := 1080
  hTotal : Nat := 2200
  vTotal : Nat := 4500
  genlock : Int := 0
  showPhase : Int := 0
  bg0 : U16 := 0
  bg1 : U16 := 0
  bg2 : U16 := 0
  outCurve : Nat := 0
  deriving DecidableEq, Repr

/-- A raster transfer in progress (R186). -/
structure Transfer where
  /-- raster frame r and the frame sent; none for REPEAT and RESYNC -/
  r : U32
  frame : Option U32
  resync : Bool := false
  line : Nat := 0
  half1 : Bool := false
  aborted : Bool := false
  bad : Bool := false
  /-- RASTER_FRAME was sent: the engine held control at the raster start -/
  live : Bool := false
  deriving DecidableEq, Repr

/-- A raster engine (R183 to R193, Table 5.13). -/
structure Raster where
  shadow : RasterCfg := {}
  shadowL : Vector LayerCfg 4 := .replicate 4 {}
  cfg : RasterCfg := {}
  layers : Vector LayerCfg 4 := .replicate 4 {}
  commit : Bool := false
  /-- the next raster frame is a resynchronisation frame by a commit (R192) -/
  resyncDue : Bool := false
  /-- N and D of the last raster frame's grid: a change makes the next one a resynchronisation frame (R184) -/
  rate : Option (U32 × U32) := none
  xfer : Option Transfer := none
  /-- the vertical blanking of the raster frame in progress has begun -/
  blanked : Bool := true
  /-- next raster frame number -/
  nextR : U32 := 0
  lastSent : Option U32 := none
  /-- a picture has been sent since the grid started: only then does lastSent count by frame number -/
  since : Bool := false
  /-- layers switched off for the rest of the raster frame (R189) -/
  off : Vector Bool 4 := .replicate 4 false
  underrun : Vector Bool 4 := .replicate 4 false
  repeatRun : Bool := false
  /-- raster frames in a row with bad lines -/
  badRun : Nat := 0
  firstBadLine : U16 := 0
  /-- line CRCs of the frame being sent, in line order (R380) -/
  crcs : List U32 := []
  repeats : U32 := 0
  aborts : U32 := 0
  underruns : U32 := 0
  crcLines : U32 := 0
  crcFrames : U32 := 0
  resyncs : U32 := 0
  applyFrame : U32 := 0xFFFFFFFF
  deriving DecidableEq, Repr

end Sys2Proof.Machine
end

