-- ==== Sys2Proof/Machine/RadioTypes.lean ====
section
/-! DEFINITION. Machine/RadioTypes.lean: the state of radio interfaces, as plain data. A field's docstring names the rule or table it
comes from; default values are the reset values. -/
namespace Sys2Proof.Machine
open Sys2Proof

/-! ### Radio interfaces (chapter 10) -/

/-- RADIO_SET values of an interface (Table 10.8). -/
structure RadioCfg where
  enable : Bool := false
  laurel : Bool := true
  child : Bool := false
  permit : Bool := true
  assocMode : Nat := 1
  secRequired : Bool := false
  channel : U8 := 15
  bo : U8 := 0
  so : U8 := 0
  perBeacon : U8 := 2
  panId : U16 := 0
  spiKhz : U16 := 8000
  persistBi : U16 := 500
  stbToSfdNs : U16 := 0
  irqFromSfdNs : U16 := 0
  originS : Nat := 0
  originNs : U32 := 0
  applyMinUs : U16 := 6000
  parentPan : U16 := 0xFFFF
  parentOffsetUs : U32 := 0
  parentWindowUs : U16 := 500
  coordExt : U64 := 0
  privetSlot : U8 := 0
  deriving DecidableEq, Repr

/-- An associated node (R359, R360, Table 10.7). -/
structure Node where
  short : U16
  ext : U64
  sleepy : Bool := false
  lqi : U8 := 0
  /-- DSN and type (1 data, 3 command) of the last frame accepted -/
  dsn : Option (U8 × Nat) := none
  lastRx : U32 := 0
  deriving DecidableEq, Repr

/-- A frame the engine sends, or holds for indirect transmission (R358, R362). -/
structure RadioTx where
  /-- the model's own number of the frame -/
  id : Nat
  /-- the radio-slot requester it belongs to (R358) -/
  cls : Fin 4
  dest : U16
  /-- extended address of an association response; 0 otherwise -/
  ext : U64 := 0
  ack : Bool := true
  level : Nat := 0
  /-- TAG of the RADIO_SEND it came from -/
  tag : Option U32 := none
  data : List U8
  /-- engine time at which it was held -/
  since : Nat := 0
  tries : Nat := 0
  /-- DSN of its first transmission -/
  dsn : Option U8 := none
  deriving DecidableEq, Repr

/-- A received frame that waits for the host (R361). -/
structure RadioRx where
  src : U16
  lqi : U8
  short : U32
  data : List U8
  deriving DecidableEq, Repr

/-- A built beacon (R356, R357). -/
structure Beacon where
  pending : List U16
  laurel : List (List U8)
  deriving DecidableEq, Repr

/-- A radio interface (R351 to R373). -/
structure Radio where
  cfg : RadioCfg := {}
  /-- RADIO_SET values that wait for the next build instant (R372) -/
  next : Option RadioCfg := none
  /-- STATE of Table 10.9 -/
  st : Nat := 0
  /-- RADIOn_RST_N level, and the engine time at which it rose -/
  rstN : Bool := false
  rstAt : Nat := 0
  /-- record of the transceiver list in use -/
  driver : Option Nat := none
  faultAt : Nat := 0
  bsn : U8 := 0
  /-- full time from which beacons are counted, and the full time of the next SFD end -/
  base : Int := 0
  nextTb : Option Int := none
  /-- the beacon of the next instant was built; `none` within: that beacon is not sent -/
  built : Option (Option Beacon) := none
  nodes : List Node := []
  allowed : List U64 := []
  rxq : List RadioRx := []
  held : List RadioTx := []
  /-- frames that ask for a radio slot, oldest first, and slots lost in a row by each requester (R9) -/
  queue : List RadioTx := []
  losses : Vector Nat 4 := .replicate 4 0
  /-- the frame that awaits its acknowledgement, its DSN and the engine time at which the wait ends -/
  wait : Option (RadioTx × U8 × Nat) := none
  dsn : U8 := 0
  txId : Nat := 0
  /-- a run of persistence discards is in progress (R362) -/
  expireRun : Bool := false
  /-- the engine's frame counter for replies, and the first value not reserved in the journal (R363) -/
  counter : Nat := 0
  reserved : Nat := 0
  /-- turn order of the blocks (R367), blocks due once with APPLY_AT = 0 (R369), and a run of blocks not carried -/
  turn : List Nat := []
  urgent : List Nat := []
  lateRun : Bool := false
  /-- child: receive time expected for the parent's next beacon, misses in a row, sync lost (R364) -/
  parentNext : Option Int := none
  missRun : Nat := 0
  lost : Bool := true
  beaconsSent : U32 := 0
  laurelCarried : U32 := 0
  laurelLate : U32 := 0
  rxFrames : U32 := 0
  rxDiscarded : U32 := 0
  duplicates : U32 := 0
  secFailures : U32 := 0
  ackTimeouts : U32 := 0
  indirectExpired : U32 := 0
  parentMisses : U32 := 0
  deriving DecidableEq, Repr

/-- A Privet station (Table 10.10, R363). -/
structure Station where
  enable : Bool := false
  houseEn : Bool := false
  triggerEn : Bool := false
  ext : U64 := 0
  maskAllowed : U32 := 0
  keyGen : U16 := 0
  /-- the last counter accepted under this KEY_GEN -/
  counter : U32 := 0
  deriving DecidableEq, Repr

/-- The radio MAC: interfaces, stations and the transceiver list. -/
structure RadioMac where
  ri : Vector Radio 4 := .replicate 4 {}
  /-- stations by 32 x interface + station -/
  station : Tab Station := []
  /-- the transceiver list of the loaded radio MAC part (R354) -/
  drivers : List DriverRec := []
  /-- counter journal: station key, KEY_GEN, counter (R363, R504) -/
  journal : List (Nat × U16 × U32) := []
  deriving DecidableEq, Repr

end Sys2Proof.Machine
end

