-- ==== Sys2Proof/Machine/ShowTypes.lean ====
section
/-! DEFINITION. Machine/ShowTypes.lean: the state of show images, cues, taps and the house override, as plain data. A field's docstring names the rule or table it
comes from; default values are the reset values. -/
namespace Sys2Proof.Machine
open Sys2Proof

/-! ### Show images, cues, taps, house override (chapter 2) -/

/-- A fixture record (Table 2.3). -/
structure Fixture where
  id : U32
  profile : Nat
  kinetic : Bool
  closedLoop : Bool
  paramBase : Nat
  route : Nat
  rdmUid : Nat
  houseGroup : U8
  sensor : U16
  destOffset : Nat
  deriving DecidableEq, Repr

/-- A profile record (Table 2.4). -/
structure Profile where
  id : U32
  paramCount : Nat
  emitterCount : Nat
  /-- LATENCY_COMP_NS, signed ns -/
  lambda : Int
  desc : Nat
  emitterRec : Nat
  footprint : Nat
  deriving DecidableEq, Repr

/-- A parameter descriptor (Table 2.5). -/
structure ParamDesc where
  role : U8
  outBits : U8
  curve : Nat
  default : U16
  house : U16
  kinetic : U16
  outSlot : Nat
  deriving DecidableEq, Repr

/-- A route record (Table 2.6). -/
structure Route where
  kind : U8
  port : U8
  address : U32
  slots : U16
  minLead : U16
  deriving DecidableEq, Repr

/-- A flow record (Table 2.7). -/
structure Flow where
  id : U16
  priority : Nat
  atomic : Bool
  segments : Nat
  code : U32
  paramFirst : Nat
  paramSpan : Nat
  pixelFirst : Nat
  pixelSpan : Nat
  deriving DecidableEq, Repr

/-- A cue record with its flow list (Table 2.8). -/
structure Cue where
  id : U32
  list : U8
  start : Bool
  track : Bool
  flows : List Nat
  fadeIn : Nat
  fadeOut : Nat
  follow : Nat
  next : U32
  deriving DecidableEq, Repr

/-- A trigger record (Table 2.9). -/
structure Trigger where
  id : U32
  source : U8
  action : U8
  list : U8
  rearm : Nat
  cue : U32
  observer : U32
  condA : U32
  condB : U32
  deriving DecidableEq, Repr

/-- An emitter entry (Table 4.4). -/
structure Emitter where
  u : U16
  v : U16
  yRel : U16
  pref : U16
  ky : Int
  ku : Int
  kv : Int
  paramOff : Nat
  deriving DecidableEq, Repr

/-- An emitter record (Table 4.3). -/
structure EmitterRec where
  whiteU : U16
  whiteV : U16
  mu : U16
  tRef : Int
  iterations : Nat
  emitters : List Emitter
  deriving DecidableEq, Repr

/-- A curve with its 257 points (Table 4.5, R152). -/
structure Curve where
  points : List U16
  deriving DecidableEq, Repr

/-- A kinetic record (Table 4.6). -/
structure KineticRec where
  vmax : Nat
  amax : Nat
  dmax : Nat
  stopDmax : Nat
  minPos : Nat
  maxPos : Nat
  slipSafe : Bool
  velocity : Bool
  blackoutMove : Bool
  blackoutPos : Nat
  zero : Nat
  deriving DecidableEq, Repr

/-- A pixel-map record (Table 5.4). -/
structure PixelMap where
  id : U32
  ingest : Bool
  outBits : Nat
  curve : Nat
  slotBase : Nat
  width : Nat
  height : Nat
  /-- A[i][j] at index 4 i + j, s1.14 -/
  matrix : List Int
  emitters : Nat
  copies : Nat
  deriving DecidableEq, Repr

/-- A show image as firmware reads it once its checks have passed (R72 to R80). -/
structure Image where
  bytes : Nat
  imageId : U64
  showId : U64
  triggerLeadUs : Nat
  paramCount : Nat
  pixelCount : Nat
  fixtures : List Fixture := []
  profiles : List Profile := []
  descs : List ParamDesc := []
  init : List U16 := []
  routes : List Route := []
  flows : List Flow := []
  cues : List Cue := []
  triggers : List Trigger := []
  code : List U8 := []
  emitters : List EmitterRec := []
  curves : List Curve := []
  kinetic : List KineticRec := []
  maps : List PixelMap := []
  /-- the LAUREL_ZONES section, whose record the spec does not lay out -/
  zones : List U8 := []
  /-- where it lies in the show-image region of Deck, and its CODE section in it (Table 5.1) -/
  base : Nat := 0
  codeAt : Nat := 0
  deriving DecidableEq, Repr

/-- The staged image (R99, Table 2.14). -/
structure Staged where
  /-- STAGED_STATE -/
  st : Nat := 0
  reason : U8 := 0
  size : Nat := 0
  data : Tab U8 := []
  /-- where it lies in the show-image region of Deck -/
  base : Nat := 0
  /-- offset and length of the blocks received -/
  got : List (Nat × Nat) := []
  tag : U32 := 0
  image : Option Image := none
  /-- a blob the checks wait for (R413): BLOB_ID, ROOT_SLOT, USE and since when -/
  blob : Option (U32 × U8 × U8 × Nat) := none
  deriving DecidableEq, Repr

/-- A flow's level in a cue list (R85). `inAge` and `outAge` count frames; a pause stops them. -/
structure FlowLevel where
  flow : Nat
  level : Nat := 0
  fadeIn : Nat := 0
  inAge : Nat := 0
  /-- fading out since its cue was left -/
  out : Bool := false
  fadeOut : Nat := 0
  outAge : Nat := 0
  outFrom : Nat := 0
  deriving DecidableEq, Repr

/-- A cue list (R85, R86). -/
structure CueList where
  cue : Option Nat := none
  paused : Bool := false
  goFrame : U32 := 0xFFFFFFFF
  flows : List FlowLevel := []
  /-- frames counted since the playhead's cue took effect, and its fade-in level -/
  age : Nat := 0
  fadeLevel : Nat := 0
  /-- frames until the follow is due -/
  follow : Option Nat := none
  deriving DecidableEq, Repr

/-- A cue action waiting for its frame (R90). -/
structure CueAction where
  list : U8
  action : U8
  cue : U32
  frame : U32
  deriving DecidableEq, Repr

/-- TAP_SET values (Table 2.16). -/
structure TapCfg where
  enable : Bool := false
  stream : U8 := 0
  channel : U8 := 0
  delayUs : U16 := 2000
  onsetDb : U16 := 0x0600
  onsetHoldMs : U16 := 50
  deriving DecidableEq, Repr

/-- A tap feature record (Table 2.10). -/
structure TapRec where
  frame : U32 := 0xFFFFFFFF
  windowEnd : U32 := 0
  envelope : U16 := 0
  onset : Bool := false
  stale : Bool := false
  clipped : Bool := false
  onsetTime : U32 := 0
  bands : List U16 := List.replicate 8 0
  deriving DecidableEq, Repr

/-- The input block of a frame (R81, R91, R295): the feature record of each tap for the frame, and the input table. -/
structure InputBlock where
  taps : List TapRec := []
  inputs : List (Nat × List U8) := []
  deriving DecidableEq, Repr

/-- What the result of a render task depends on, current apart (R111). -/
structure TaskInput where
  image : Image
  flow : Nat
  frame : U32
  segment : Nat
  level : U16
  block : InputBlock
  deriving DecidableEq, Repr

/-- An audio tap (R91 to R93). -/
structure Tap where
  cfg : TapCfg := {}
  /-- samples received and not yet past: full time in ns and value, full scale 2^23 -/
  buf : List (Nat × Int) := []
  rate96 : Bool := false
  /-- full time of a sample instant of the stream at or before the windows still open, in ns (R93) -/
  anchor : Option Nat := none
  /-- the states of the eight band filters, by band (R92); 0 is a filter at rest -/
  filters : List (BitVec 256) := List.replicate 8 0
  feat : TapRec := {}
  /-- the records of the last windows, newest first: render tasks of frames in progress read theirs -/
  recent : List TapRec := []
  /-- exponential mean energy -/
  mean : Nat := 0
  lastOnset : Option Nat := none
  staleRun : Bool := false
  /-- samples of a block not yet whole (R92) -/
  part : List (Nat × Int) := []
  /-- the next window to close -/
  nextFrame : U32 := 0
  deriving DecidableEq, Repr

/-- HOUSE_SET values (Table 2.17). -/
structure HouseCfg where
  pinEnable : Bool := true
  flood : Bool := false
  filterUs : U16 := 10
  mask : U32 := 0xFFFFFFFF
  releaseHoldMs : U16 := 100
  deriving DecidableEq, Repr

/-- The house override (R94 to R98). -/
structure House where
  cfg : HouseCfg := {}
  /-- HOUSE_N asserts the override -/
  pin : Bool := false
  /-- masks by Privet station (interface, station), by flooding engine, and of the pier partner -/
  privet : List ((Nat × Nat) × U32) := []
  flooded : List (U32 × U32) := []
  partner : U32 := 0
  /-- the mask applied at the last tick boundary (R96), and that of the engine's own sources then -/
  applied : U32 := 0
  ownApplied : U32 := 0
  /-- an assertion waits for the next tick boundary, and that boundary has come -/
  due : Bool := false
  tickCame : Bool := false
  /-- a release waits for the next LATCH -/
  release : Bool := false
  deriving DecidableEq, Repr

/-- The sequencer's state as it stood before it took a frame up; a resync starts from it (R392, Table 11.10). -/
structure SeqKept where
  frame : U32
  lists : Tab CueList
  trigLast : List (U32 × U32)
  trig : List (U32 × U32)
  goes : List CueAction
  deriving DecidableEq, Repr

/-- A swap of images (R100, R101): the image given up, the new one, the first frame of the new one, and what is still to be
taken over: 2 the limiter and the loops, then the outputs; 1 the outputs; 0 nothing. -/
structure Swap where
  old : Option Image
  new : Image
  frame : U32
  stage : Nat
  deriving DecidableEq, Repr

/-- The show (R72 to R108). -/
structure Show where
  staged : Staged := {}
  active : Option Image := none
  /-- an activation waits for S(APPLY_FRAME) -/
  next : Option (Image × U32) := none
  /-- swaps whose first frame has not committed, oldest first: the old image of each is freed at that commit (R100) -/
  swaps : List Swap := []
  /-- flows left out under R84 -/
  faulted : List Nat := []
  commitFrame : Option U32 := none
  lastMargin : Int := 0
  worstMargin : Option Int := none
  gateWait : Nat := 0
  /-- how long the gate held the frame after the last committed one beyond its render start -/
  gateNext : Nat := 0
  lists : Tab CueList := []
  goes : List CueAction := []
  /-- triggers assigned to frames: id, frame, full time of arrival -/
  trig : List (U32 × U32) := []
  trigLate : List (U32 × U32) := []
  /-- last frame each trigger was applied at (R89) -/
  trigLast : List (U32 × U32) := []
  /-- the user bits that the last timecode read passed to the cue triggers (R63) -/
  trigUser : U32 := 0
  /-- the sequencer before each of the last frames it took up, newest first -/
  kept : List SeqKept := []
  taps : Vector Tap 16 := .replicate 16 {}
  house : House := {}
  /-- flow levels of the frame last sequenced -/
  levels : List (Nat × Nat) := []
  deriving DecidableEq, Repr

end Sys2Proof.Machine
end

