-- ==== Sys2Proof/Machine/PierTypes.lean ====
section
/-! DEFINITION. Machine/PierTypes.lean: the state of pier pairs, as plain data. A field's docstring names the rule or table it
comes from; default values are the reset values. -/
namespace Sys2Proof.Machine
open Sys2Proof

/-! ### Pier pairs (chapter 11) -/

/-- PIER_SET values (Table 11.14). -/
structure PierCfg where
  partnerId : U32 := 0
  enable : Bool := false
  roleB : Bool := false
  witnessPin : Bool := true
  witnessTrestle : Bool := true
  revertEn : Bool := true
  pierSpan : U8 := 0
  hbMiss : U8 := 3
  digestClean : U8 := 8
  revertFrames : U16 := 600
  renderSlipLimit : U16 := 64
  partnerWaitMs : U16 := 2000
  deriving DecidableEq, Repr

/-- The digests of one frame (R380, R381). -/
structure DigestRec where
  frame : U32
  digest : U64
  raster : U64
  valid : U8
  flags : U16
  deriving DecidableEq, Repr

/-- The seal of one frame (R378). -/
structure Seal where
  frame : U32
  /-- the LAST part is in hand -/
  complete : Bool := false
  records : List (List U8) := []
  deriving DecidableEq, Repr

/-- A pending handover, revert or heal (R393 to R397). -/
structure Handover where
  frame : U32
  cause : U8
  /-- this engine gives control up -/
  outgoing : Bool
  /-- the release and claim have been sent -/
  sent : Bool := false
  deriving DecidableEq, Repr

/-- The state that a resync carries, the committed frame's parameters and pixels apart from it as bytes (Table 11.10). -/
structure ResyncState where
  params : List U16 := []
  /-- pixel slots from 0, components in order -/
  pixels : List U16 := []
  kin : Tab Kin := []
  loops : Tab Loop := []
  temps : Tab Temp := []
  lists : Tab CueList := []
  trigLast : List (U32 × U32) := []
  /-- mean energy and last onset of each tap -/
  taps : List (Nat × Option Nat) := []
  privet : List ((Nat × Nat) × U32) := []
  flooded : List (U32 × U32) := []
  /-- association table with DSN state, and held frames, of each interface; Privet counters by station -/
  nodes : List (List Node) := []
  held : List (List RadioTx) := []
  counters : List (Nat × U32) := []
  deriving DecidableEq, Repr, Inhabited

/-- The pier logic (R374 to R401). -/
structure Pier where
  cfg : PierCfg := {}
  /-- STATE of Table 11.6 -/
  st : Nat := 0
  /-- PIER_ACT_OUT: none is high impedance -/
  actOut : Option Bool := none
  /-- PIER_ACT_IN level -/
  actIn : Bool := false
  /-- bit n - 1 set while check n fails -/
  checks : U8 := 0
  partnerChecks : U8 := 0
  partnerState : U8 := 0xFF
  partnerClean : U16 := 0
  partnerEpoch : U32 := 0
  /-- engine time of the last partner heartbeat by any path, by PATH 0 and by PATH 1 -/
  hb : Option Nat := none
  hb0 : Option Nat := none
  hb1 : Option Nat := none
  hbShort : U32 := 0
  hbSeq : U16 := 0
  /-- HB_SEQ of the partner's newest heartbeat -/
  partnerSeq : Option U16 := none
  /-- TICK_COUNT at which this engine's last heartbeat was sent -/
  hbTick : Option U32 := none
  /-- PARTNER_WAIT_MS has passed since the grid started (R398) -/
  waitOver : Bool := false
  lostLink : Bool := false
  lostWitness : Bool := false
  lostPin : Bool := false
  unreachable : Bool := false
  clean : U16 := 0
  /-- highest claim epoch known, and the value in the persistent settings -/
  epoch : U32 := 0
  epochStored : U32 := 0
  digestFrame : Option U32 := none
  digest : U64 := 0
  own : List DigestRec := []
  partner : List DigestRec := []
  /-- fault flags by frame -/
  flags : List (U32 × U16) := []
  /-- partner seals held -/
  seals : List Seal := []
  /-- records of the frames whose seal is to be sent, oldest first (R378) -/
  sealDue : List (U32 × List (List U8)) := []
  /-- the pending seal records of radio state (Table 11.3 TYPE 7) -/
  radioChanges : List (List U8) := []
  pend : Option Handover := none
  /-- M of a revert request that waits for its answer (R393) -/
  revertAsked : Option U32 := none
  revertHold : Bool := false
  /-- the grid stopped while this engine held control: it sends the stop steps and house values (R161) -/
  heldAtStop : Bool := false
  /-- both flag sets were non-zero (Table 11.8) and the partner is not yet eligible again -/
  degraded : Bool := false
  /-- since then the partner has shown another state than STANDBY -/
  wasOut : Bool := false
  /-- compared frames in a row that matched while check 6 fails on the holder -/
  match6 : Nat := 0
  /-- resync: requested of us, frame r being sent or received, abandoned attempts -/
  resyncAsked : Bool := false
  resync : Option U32 := none
  resyncTries : Nat := 0
  resyncGivenUp : Bool := false
  /-- engine time at which the hold circuit was last refreshed (R375) -/
  refreshAt : Nat := 0
  /-- engine time at which start-up began to wait for the partner (R398) -/
  waitFrom : Option Nat := none
  /-- start-up is complete: a claim was made or the role B engine took its place -/
  started : Bool := false
  /-- frames whose digest task was issued -/
  digestAsked : List U32 := []
  /-- TICK_COUNT at the last claim (R390) -/
  claimedAt : Option U32 := none
  claims : U32 := 0
  releases : U32 := 0
  handovers : U32 := 0
  divergences : U32 := 0
  resyncs : U32 := 0
  resyncsAbandoned : U32 := 0
  hbMissed : U32 := 0
  witnessOnly : U32 := 0
  deriving DecidableEq, Repr

end Sys2Proof.Machine
end

