-- ==== Sys2Proof/Config.lean ====
section
/-! DEFINITION. Config.lean: the values the spec leaves open, as constants without a body: nothing can evaluate
them, and a claim about them holds whatever they are. A value that may differ each time takes the model's counter
of free values (State.fresh). -/
namespace Sys2Proof.Config

/-- What an effect program writes in a segment: a function of the image, the flow, FRAME, SEGMENT and LEVEL, the parameters and
pixels of current, and the input block, and of nothing else (R111). The code of a program is not interpreted (Table 3.1). -/
opaque effect : Machine.TaskInput → (Nat → U16) → (Nat → List U16) → TaskOut

/-- The length and the local memory of a firmware task's program (R110): the spec gives neither. -/
opaque firmwareTask : U32 → Nat × Nat

/-- A stored value of the solve where its divisor is zero: the spec states no result (R144). -/
opaque divZero : Int → Int

/-- The output of a curve whose index names no record, at an input (R152: unpredictable). -/
opaque curveOut : Nat → U16 → U16

/-- The pixel map that feeds a span receiver's route and the first slot its pixels take; the spec names neither (R151). -/
opaque spanPixelMap : Nat → Option (Nat × Nat)

/-- What an audio band's filter makes of samples: its state after them and their RMS level in the band, of the band, its state
before and the samples. The spec names the filter's edges and order and no coefficients (R92). -/
opaque tapBand : Nat → BitVec 256 → List Int → BitVec 256 × U16

/-- A component of an ingest map's slot read for a frame that captured no copy: the spec names no source (R181). -/
opaque uncaptured : Nat → Nat → U16

/-- Where output position i of an axis scaled to a length stands in the source axis, in 64ths of a sample: crop, length, i. The
spec fixes the filter in microcode and gives no alignment (R179). -/
opaque scalePos : Nat → Nat → Nat → Int

/-- A coefficient of the scaling filter in units of 2^-14: phase and tap. They are fixed in microcode (R179). -/
opaque filterTap : Nat → Nat → Int

/-- The bits that an injected double-bit error flips in a Deck word: the spec names none (R484). -/
opaque flipMask : Nat → U64

/-- Deck accesses of an effect program's segment: its code is not interpreted (R111, Table 5.11). -/
opaque programAccesses : Machine.TaskInput → Nat

/-- A domain root's grandmaster data in a second: the spec defines no message that carries it (R336). -/
opaque rootData : Nat → Nat → Machine.PtpData

/-- Identification, DF and TTL of an IPv4 packet of firmware: the spec gives none (R319). -/
opaque ipFree : Nat → U16 × Bool × U8

/-- UDP source port of datagrams of a transmit class: the spec names none. -/
opaque srcPort : Nat → U16

/-- The MAC address of an IPv4 address on a port's subnet: what stands on the network is not the engine's. -/
opaque macOf : U32 → Nat

/-- offsetScaledLogVariance of the engine's own clock (R335): PTP_SET gives none. -/
opaque ptpVariance : U16

/-- timeSource and, in bits 0, 1, 4 and 5, the leap and traceability flags of an Announce (IEEE 1588-2019). -/
opaque announceFree : Nat → U8 × U8

/-- originTimestamp of a message that IEEE 1588 lets leave it open. -/
opaque ptpOrigin : Nat → Nat

/-- The byte sent for a component that ORDER takes from an emitter its pixel map does not have (R302). -/
opaque noEmitter : Nat → U8

/-- OUTCOME of an RDM_REQUEST sent as a broadcast, for which no response is awaited (R291, Table 8.6). -/
opaque broadcastOutcome : Nat → U8

/-- The codewords that the transmitting end of a span chooses to wait before the START_CW it returns (R257, R262). -/
opaque cwLead : Nat → Nat

/-- Where in a lane's portion of a codeword an injected error begins (R265). -/
opaque injectAt : Nat → Nat

/-- The state of a lane's PRBS7 generator at the first FILL of an attempt, newest bit lowest (R248): the spec gives no seed. -/
opaque fillSeed : Nat → BitVec 7

/-- APPLY_SETUP_NS of a receiver that is no span's peer: only a peer's HELLO carries it (R221, Table 6.2). -/
opaque applySetup : Nat → U32

/-- The bytes of a resync stream, on-die state first: the spec lays none of them out (R392, Table 11.10). -/
opaque resyncBytes : Machine.ResyncState → List U8

/-- The state that the bytes of a resync stream spell. -/
opaque resyncRead : List U8 → Machine.ResyncState

/-- A nonce of the DRBG, which is seeded from an on-die entropy source (R404, R419). -/
opaque nonce : Nat → BitVec 256

/-- The device root, 256 bits in fuses, unique to the part (R405). -/
opaque deviceRoot : BitVec 256
/-- The test root, the same in every part: the active root of a debug boot (R405, R424). -/
opaque testRoot : BitVec 256
/-- The Treilim firmware anchor fixed in the boot ROM: the SHA-256 of the key of a manifest's first signature (R416). -/
opaque firmwareAnchor : BitVec 256

/-- One step of the thermal model: its nodes after 1 ms of the domain powers at a case-to-ambient resistance; its capacitances
and resistances are fixed in firmware and not given (R506). -/
opaque thermalStep : List Rat → List Nat → Nat → List Rat

/-- The model's hotspot of a domain (R506). -/
opaque hotspot : List Rat → Nat → Rat

/-- Levels of the port pins as the engine reads them: what drives or pulls a pin outside it is not the model's (R481). -/
opaque portLevels : Nat → U64

/-- The level of a pin that the engine leaves at high impedance. -/
opaque pinLevel : Nat → Bool

end Sys2Proof.Config
end

