-- ==== Sys2Proof/Machine/Tab.lean ====
section
/-! DEFINITION. Machine/Tab.lean: reading and writing a sparse table in its one canonical form.
Keys rise strictly and no entry holds the default, so that equal tables are equal data. -/
namespace Sys2Proof

/-- The value at key `k`; `d` where the table lists none. -/
def Tab.get {α : Type} (d : α) : Tab α → Nat → α
  | [], _ => d
  | (k', v) :: t, k => if k = k' then v else Tab.get d t k

/-- The entries whose key is not `k`. -/
def Tab.del {α : Type} : Tab α → Nat → Tab α
  | [], _ => []
  | (k', v) :: t, k => if k = k' then t else (k', v) :: Tab.del t k

/-- `t` with `v` at key `k`, in key order. -/
def Tab.put {α : Type} : Tab α → Nat → α → Tab α
  | [], k, v => [(k, v)]
  | (k', v') :: t, k, v =>
    if k < k' then (k, v) :: (k', v') :: t
    else if k = k' then (k, v) :: t
    else (k', v') :: Tab.put t k v

/-- `t` with the value `v` at key `k`; writing the default removes the entry. -/
def Tab.set {α : Type} [DecidableEq α] (d : α) (t : Tab α) (k : Nat) (v : α) : Tab α :=
  if v = d then t.del k else t.put k v

/-- Apply `f` to the value at key `k`. -/
def Tab.upd {α : Type} [DecidableEq α] (d : α) (t : Tab α) (k : Nat) (f : α → α) : Tab α :=
  t.set d k (f (t.get d k))

/-- Every key of the table is at least `lo`, keys rise strictly and no value is `d`. -/
def Tab.wfFrom {α : Type} [DecidableEq α] (d : α) : Nat → Tab α → Bool
  | _, [] => true
  | lo, (k, v) :: t => decide (lo ≤ k) && decide (v ≠ d) && Tab.wfFrom d (k + 1) t

/-- The canonical form of a sparse table whose default is `d`. -/
def Tab.wf {α : Type} [DecidableEq α] (d : α) (t : Tab α) : Bool := t.wfFrom d 0

/-- Write consecutive entries from key `k`. -/
def Tab.writes {α : Type} [DecidableEq α] (d : α) (t : Tab α) (k : Nat) : List α → Tab α
  | [] => t
  | v :: vs => (t.set d k v).writes d (k + 1) vs

/-- Read `n` consecutive entries from key `k`. -/
def Tab.reads {α : Type} (d : α) (t : Tab α) (k n : Nat) : List α :=
  (List.range n).map fun i => t.get d (k + i)

/-- Keep the entries that satisfy `p`. -/
def Tab.keep {α : Type} (p : Nat → α → Bool) (t : Tab α) : Tab α := t.filter fun e => p e.1 e.2

end Sys2Proof
end

