-- ==== Sys2Proof/Machine/Bytes.lean ====
section
/-! DEFINITION. Machine/Bytes.lean: reading the fields of a payload and laying out the fields of a record.
R18: mailbox and show-image structures are little-endian, Viaduct and network fields big-endian; reserved
fields are written as zero and ignored on read (R19). -/
namespace Sys2Proof

/-- `n` bytes of `v`, least significant first (R18). -/
def le : Nat → Nat → List U8
  | 0, _ => []
  | n + 1, v => BitVec.ofNat 8 v :: le n (v / 256)

/-- `n` bytes of `v`, most significant first (R18). -/
def be (n v : Nat) : List U8 := (le n v).reverse

/-- The number a little-endian byte list spells. -/
def leVal : List U8 → Nat
  | [] => 0
  | b :: bs => b.toNat + 256 * leVal bs

/-- The first `n` bytes of a list; bytes past its end read as zero. -/
def firstBytes : Nat → List U8 → List U8
  | 0, _ => []
  | n + 1, [] => 0 :: firstBytes n []
  | n + 1, b :: bs => b :: firstBytes n bs

/-- `n` bytes of a payload from offset `off`; bytes past its end read as zero. -/
def bytesAt (pl : List U8) (off n : Nat) : List U8 := firstBytes n (pl.drop off)

/-- The `n`-byte little-endian field at offset `off`. -/
def rd (pl : List U8) (off n : Nat) : Nat := leVal (bytesAt pl off n)

/-- The big-endian field of `n` bytes at offset `off`. -/
def rdBE (pl : List U8) (off n : Nat) : Nat := leVal (bytesAt pl off n).reverse

/-- `f` of a number, the number computed first. -/
def force {α : Type} (n : Nat) (f : Nat → α) : α :=
  match n with
  | 0 => f 0
  | k + 1 => f (k + 1)

/-- `f` of a list of numbers, each computed first. -/
def forceAll {α : Type} : List Nat → (List Nat → α) → α
  | [], f => f []
  | x :: l, f => force x fun x => forceAll l fun l => f (x :: l)

/-- One byte of a payload. -/
def p8 (pl : List U8) (off : Nat) : U8 := pl.getD off 0
/-- A 16-bit field of a payload. -/
def p16 (pl : List U8) (off : Nat) : U16 := BitVec.ofNat 16 (rd pl off 2)
/-- A 32-bit field of a payload. -/
def p32 (pl : List U8) (off : Nat) : U32 := BitVec.ofNat 32 (rd pl off 4)
/-- A 64-bit field of a payload. -/
def p64 (pl : List U8) (off : Nat) : U64 := BitVec.ofNat 64 (rd pl off 8)
/-- Bit `b` of the byte at `off`. -/
def pbit (pl : List U8) (off b : Nat) : Bool := (p8 pl off).getLsbD b
/-- Bits `lo + w - 1 .. lo` of the byte at `off`. -/
def pbits (pl : List U8) (off lo w : Nat) : Nat := (p8 pl off).toNat / 2 ^ lo % 2 ^ w
/-- A signed field of `n` bytes. -/
def pInt (pl : List U8) (off n : Nat) : Int := (BitVec.ofNat (8 * n) (rd pl off n)).toInt

/-- One field of a record: byte offset, width in bytes, value. -/
structure Fld where
  off : Nat
  n : Nat
  v : Nat
  deriving DecidableEq, Repr

/-- A field of `n` bytes. -/
def fN (off n v : Nat) : Fld := ⟨off, n, v⟩
/-- A one-byte field. -/
def f8 (off : Nat) (v : U8) : Fld := ⟨off, 1, v.toNat⟩
/-- A two-byte field. -/
def f16 (off : Nat) (v : U16) : Fld := ⟨off, 2, v.toNat⟩
/-- A four-byte field. -/
def f32 (off : Nat) (v : U32) : Fld := ⟨off, 4, v.toNat⟩
/-- An eight-byte field. -/
def f64 (off : Nat) (v : U64) : Fld := ⟨off, 8, v.toNat⟩
/-- Bit `b` of the byte at `off`. -/
def fB (off b : Nat) (v : Bool) : Fld := ⟨off, 1, if v then 2 ^ b else 0⟩
/-- A signed field of `n` bytes, reduced modulo its width. -/
def fI (off n : Nat) (v : Int) : Fld := ⟨off, n, (BitVec.ofInt (8 * n) v).toNat⟩

/-- The byte that field `f` places at offset `i` of its record. -/
def Fld.byte (f : Fld) (i : Nat) : U8 :=
  if f.off ≤ i ∧ i < f.off + f.n then BitVec.ofNat 8 (f.v / 256 ^ (i - f.off)) else 0

/-- A record of `len` bytes with the fields given; every other bit is zero (R19). -/
def pack (len : Nat) (fs : List Fld) : List U8 :=
  (List.range len).map fun i => fs.foldl (fun acc f => acc ||| f.byte i) 0

/-- A list of bytes as fields of a record from offset `off`. -/
def fBytes (off : Nat) (bs : List U8) : List Fld :=
  (bs.zipIdx).map fun e => f8 (off + e.2) e.1

/-- A counter of 32 bits that stops at its largest value ("32-bit saturating"). -/
def sat32 (n : Nat) : Nat := min n 0xFFFFFFFF

/-- A 32-bit saturating counter, one higher. -/
def U32.inc (c : U32) : U32 := if c = 0xFFFFFFFF#32 then c else c + 1

/-- A 32-bit saturating counter, `n` higher. -/
def U32.add (c : U32) (n : Nat) : U32 := BitVec.ofNat 32 (sat32 (c.toNat + n))

/-- `round` of R18: the nearest integer to `n / d`, a half away from zero. -/
def roundDiv (n : Int) (d : Nat) : Int :=
  if 0 ≤ n then (2 * n + d) / (2 * d) else -((2 * (-n) + d) / (2 * d))

/-- `n / d` rounded up. -/
def ceilDiv (n d : Nat) : Nat := (n + d - 1) / d

/-- An integer held within `lo .. hi`. -/
def clampI (lo hi x : Int) : Int := max lo (min hi x)

/-- A value reduced to the signed range of `w` bits by saturation. -/
def satS (w : Nat) (x : Int) : Int := clampI (-(2 ^ (w - 1))) (2 ^ (w - 1) - 1) x

/-- An optional number of a last frame: 0xFFFF_FFFF until such a frame exists (R541). -/
def lastFrame : Option U32 → U32
  | none => 0xFFFFFFFF#32
  | some n => n

/-- A list as a first-in first-out queue with one more entry. -/
def enq {α : Type} (l : List α) (x : α) : List α := l ++ [x]

/-- Entry `i` of a list changed by `f`. -/
def updAt {α : Type} (l : List α) (i : Nat) (f : α → α) : List α := l.modify i f

end Sys2Proof
end

