-- ==== Sys2Proof/Machine/Opcodes.lean ====
section
/-! DEFINITION. Machine/Opcodes.lean: the opcodes of Tables 14.2 and 14.3, their families (Table 14.1) and the
status codes of Table 14.4. -/
namespace Sys2Proof

/-- A status of a response (Table 14.4). -/
inductive Status where
  | ok | busy | unknownOp | badLength | denied | notReady | late | needSecondOfficer | slotUnusable | fault
  deriving DecidableEq, Repr

/-- The code of a status (Table 14.4). -/
def Status.code : Status → U16
  | .ok => 0 | .busy => 1 | .unknownOp => 2 | .badLength => 3 | .denied => 4 | .notReady => 5 | .late => 6
  | .needSecondOfficer => 7 | .slotUnusable => 8 | .fault => 0xFF

/-- SYS_INFO, class A. -/
def opSysInfo : Nat := 0x0000
/-- SYS_STATUS, class A. -/
def opSysStatus : Nat := 0x0001
/-- SYS_RESET, class D. -/
def opSysReset : Nat := 0x0002
/-- SETTINGS_SAVE, class C. -/
def opSettingsSave : Nat := 0x0003
/-- EVENT_READ, class A. -/
def opEventRead : Nat := 0x0004
/-- MB_CONFIG, class B. -/
def opMbConfig : Nat := 0x0010
/-- MB_STATUS, class A. -/
def opMbStatus : Nat := 0x0011
/-- EVENT_SET, class B. -/
def opEventSet : Nat := 0x0012
/-- TRANSPORT_STATUS, class A. -/
def opTransportStatus : Nat := 0x0013
/-- UDP_MB_SET, class B. -/
def opUdpMbSet : Nat := 0x0014
/-- RELAY, class C. -/
def opRelay : Nat := 0x0015
/-- TIME_GET, class A. -/
def opTimeGet : Nat := 0x0100
/-- SERVO_SET, class B. -/
def opServoSet : Nat := 0x0101
/-- CLOCK_MODEL_SET, class C. -/
def opClockModelSet : Nat := 0x0102
/-- TIME_STEP, class C. -/
def opTimeStep : Nat := 0x0103
/-- GRID_SET, class B. -/
def opGridSet : Nat := 0x0104
/-- GRID_GET, class A. -/
def opGridGet : Nat := 0x0105
/-- SLOT_ARM, class A. -/
def opSlotArm : Nat := 0x0106
/-- SLOT_CANCEL, class A. -/
def opSlotCancel : Nat := 0x0107
/-- SLOT_STATUS, class A. -/
def opSlotStatus : Nat := 0x0108
/-- TIMECODE_SET, class B. -/
def opTimecodeSet : Nat := 0x0109
/-- SHOW_LOAD_BEGIN, class B. -/
def opShowLoadBegin : Nat := 0x0200
/-- SHOW_LOAD_BLOCK, class B. -/
def opShowLoadBlock : Nat := 0x0201
/-- SHOW_LOAD_END, class D. -/
def opShowLoadEnd : Nat := 0x0202
/-- SHOW_ACTIVATE, class B. -/
def opShowActivate : Nat := 0x0203
/-- SHOW_UNLOAD, class B. -/
def opShowUnload : Nat := 0x0204
/-- SHOW_STATUS, class A. -/
def opShowStatus : Nat := 0x0205
/-- CUE_GO, class A. -/
def opCueGo : Nat := 0x0206
/-- CUE_LIST_STATUS, class A. -/
def opCueListStatus : Nat := 0x0207
/-- TAP_SET, class B. -/
def opTapSet : Nat := 0x0208
/-- TAP_READ, class A. -/
def opTapRead : Nat := 0x0209
/-- HOUSE_SET, class B. -/
def opHouseSet : Nat := 0x020A
/-- SCHED_CONFIG, class B. -/
def opSchedConfig : Nat := 0x0210
/-- SCHED_STATUS, class A. -/
def opSchedStatus : Nat := 0x0211
/-- SCHED_COUNTERS, class A. -/
def opSchedCounters : Nat := 0x0212
/-- SCHED_TASK_READ, class A. -/
def opSchedTaskRead : Nat := 0x0213
/-- SCHED_CORES, class B. -/
def opSchedCores : Nat := 0x0214
/-- CMU_CONFIG, class B. -/
def opCmuConfig : Nat := 0x0300
/-- CMU_STATUS, class A. -/
def opCmuStatus : Nat := 0x0301
/-- LOOP_CONTROL, class B. -/
def opLoopControl : Nat := 0x0302
/-- LOOP_READ, class A. -/
def opLoopRead : Nat := 0x0303
/-- FIXTURE_SOLVE_READ, class A. -/
def opFixtureSolveRead : Nat := 0x0304
/-- KINETIC_STOP, class A. -/
def opKineticStop : Nat := 0x0305
/-- KINETIC_READ, class A. -/
def opKineticRead : Nat := 0x0306
/-- DECK_STATUS, class A. -/
def opDeckStatus : Nat := 0x0400
/-- INGEST_SET, class B. -/
def opIngestSet : Nat := 0x0401
/-- INGEST_STATUS, class A. -/
def opIngestStatus : Nat := 0x0402
/-- RASTER_SET, class B. -/
def opRasterSet : Nat := 0x0403
/-- LAYER_SET, class B. -/
def opLayerSet : Nat := 0x0404
/-- RASTER_COMMIT, class A. -/
def opRasterCommit : Nat := 0x0405
/-- RASTER_STATUS, class A. -/
def opRasterStatus : Nat := 0x0406
/-- TRESTLE_SET, class C. -/
def opTrestleSet : Nat := 0x0500
/-- TRESTLE_STATUS, class A. -/
def opTrestleStatus : Nat := 0x0501
/-- MEMBER_READ, class A. -/
def opMemberRead : Nat := 0x0502
/-- ROUTE_READ, class A. -/
def opRouteRead : Nat := 0x0503
/-- LINK_SET, class B. -/
def opLinkSet : Nat := 0x0504
/-- LINK_COUNTERS, class A. -/
def opLinkCounters : Nat := 0x0505
/-- DEST_STATUS, class A. -/
def opDestStatus : Nat := 0x0506
/-- SPAN_SET, class B. -/
def opSpanSet : Nat := 0x0510
/-- SPAN_STATUS, class A. -/
def opSpanStatus : Nat := 0x0511
/-- LANE_STATUS, class A. -/
def opLaneStatus : Nat := 0x0512
/-- SPAN_TRAIN, class D. -/
def opSpanTrain : Nat := 0x0513
/-- SPAN_CAL, class B. -/
def opSpanCal : Nat := 0x0514
/-- PRBS_SET, class B. -/
def opPrbsSet : Nat := 0x0515
/-- PRBS_READ, class A. -/
def opPrbsRead : Nat := 0x0516
/-- ERROR_INJECT, class A. -/
def opErrorInject : Nat := 0x0517
/-- BIT_SLIP, class A. -/
def opBitSlip : Nat := 0x0518
/-- LANE_TAPS_SET, class B. -/
def opLaneTapsSet : Nat := 0x0519
/-- SPAN_SLEEP, class B. -/
def opSpanSleep : Nat := 0x051A
/-- PORT_SET, class B. -/
def opPortSet : Nat := 0x0600
/-- PORT_STATUS, class A. -/
def opPortStatus : Nat := 0x0601
/-- INPUT_SET, class B. -/
def opInputSet : Nat := 0x0602
/-- INPUT_READ, class A. -/
def opInputRead : Nat := 0x0603
/-- SACN_SET, class B. -/
def opSacnSet : Nat := 0x0604
/-- SACN_STATUS, class A. -/
def opSacnStatus : Nat := 0x0605
/-- RDM_DISCOVER, class D. -/
def opRdmDiscover : Nat := 0x0606
/-- RDM_UID_READ, class A. -/
def opRdmUidRead : Nat := 0x0607
/-- RDM_REQUEST, class D. -/
def opRdmRequest : Nat := 0x0608
/-- RDM_RESULT_READ, class A. -/
def opRdmResultRead : Nat := 0x0609
/-- ETH_SET, class B. -/
def opEthSet : Nat := 0x0700
/-- ETH_STATUS, class A. -/
def opEthStatus : Nat := 0x0701
/-- QUEUE_SET, class B. -/
def opQueueSet : Nat := 0x0702
/-- QUEUE_STATUS, class A. -/
def opQueueStatus : Nat := 0x0703
/-- HOSTCH_SET, class B. -/
def opHostchSet : Nat := 0x0704
/-- HOSTCH_STATUS, class A. -/
def opHostchStatus : Nat := 0x0705
/-- TXTS_READ, class A. -/
def opTxtsRead : Nat := 0x0706
/-- PTP_SET, class B. -/
def opPtpSet : Nat := 0x0707
/-- PTP_STATUS, class A. -/
def opPtpStatus : Nat := 0x0708
/-- STREAM_SET, class B. -/
def opStreamSet : Nat := 0x0709
/-- STREAM_STATUS, class A. -/
def opStreamStatus : Nat := 0x070A
/-- RADIO_SET, class B. -/
def opRadioSet : Nat := 0x0800
/-- RADIO_STATUS, class A. -/
def opRadioStatus : Nat := 0x0801
/-- NODE_READ, class A. -/
def opNodeRead : Nat := 0x0802
/-- NODE_CONTROL, class B. -/
def opNodeControl : Nat := 0x0803
/-- PRIVET_SET, class B. -/
def opPrivetSet : Nat := 0x0804
/-- RADIO_SEND, class A. -/
def opRadioSend : Nat := 0x0805
/-- RADIO_RECV, class A. -/
def opRadioRecv : Nat := 0x0806
/-- RADIO_XCVR_READ, class A. -/
def opRadioXcvrRead : Nat := 0x0807
/-- PIER_SET, class B. -/
def opPierSet : Nat := 0x0900
/-- PIER_STATUS, class A. -/
def opPierStatus : Nat := 0x0901
/-- PIER_CONTROL, class B. -/
def opPierControl : Nat := 0x0902
/-- PIER_COUNTERS, class A. -/
def opPierCounters : Nat := 0x0903
/-- BOX_STATUS, class A. -/
def opBoxStatus : Nat := 0x0A00
/-- SLOT_INFO, class A. -/
def opSlotInfo : Nat := 0x0A01
/-- KEY_LOAD, class B. -/
def opKeyLoad : Nat := 0x0A02
/-- WK_STATUS, class A. -/
def opWkStatus : Nat := 0x0A03
/-- CHALLENGE, class B. -/
def opChallenge : Nat := 0x0A04
/-- PROPOSE, class B. -/
def opPropose : Nat := 0x0A05
/-- APPROVE, class C. -/
def opApprove : Nat := 0x0A06
/-- PROPOSAL_CANCEL, class A. -/
def opProposalCancel : Nat := 0x0A07
/-- OFFICER_READ, class A. -/
def opOfficerRead : Nat := 0x0A08
/-- IDENTITY_READ, class A. -/
def opIdentityRead : Nat := 0x0A09
/-- DIAG_ECHO, class A. -/
def opDiagEcho : Nat := 0x0D00
/-- DIAG_PIN_READ, class A. -/
def opDiagPinRead : Nat := 0x0D01
/-- DIAG_SELFTEST, class D. -/
def opDiagSelftest : Nat := 0x0D02
/-- DIAG_EVENT_RAISE, class A. -/
def opDiagEventRaise : Nat := 0x0D03
/-- DIAG_FAULT_INJECT, class B. -/
def opDiagFaultInject : Nat := 0x0D04
/-- POWER_STATUS, class A. -/
def opPowerStatus : Nat := 0x0B00
/-- POWER_MODE_SET, class C. -/
def opPowerModeSet : Nat := 0x0B01
/-- THERMAL_STATUS, class A. -/
def opThermalStatus : Nat := 0x0B02
/-- THERMAL_SET, class B. -/
def opThermalSet : Nat := 0x0B03
/-- WAKE_SCHEDULE_SET, class B. -/
def opWakeScheduleSet : Nat := 0x0B04
/-- UPDATE_BEGIN, class B. -/
def opUpdateBegin : Nat := 0x0C00
/-- UPDATE_BLOCK, class B. -/
def opUpdateBlock : Nat := 0x0C01
/-- UPDATE_END, class D. -/
def opUpdateEnd : Nat := 0x0C02
/-- UPDATE_STATUS, class A. -/
def opUpdateStatus : Nat := 0x0C03
/-- UPDATE_ACTIVATE, class B. -/
def opUpdateActivate : Nat := 0x0C04
/-- UPDATE_ABORT, class B. -/
def opUpdateAbort : Nat := 0x0C05

/-- Every opcode that exists (R471). -/
def opcodes : List Nat :=
  [opSysInfo, opSysStatus, opSysReset, opSettingsSave, opEventRead, opMbConfig, opMbStatus, opEventSet, opTransportStatus, opUdpMbSet, opRelay, opTimeGet, opServoSet, opClockModelSet, opTimeStep, opGridSet] ++
  [opGridGet, opSlotArm, opSlotCancel, opSlotStatus, opTimecodeSet, opShowLoadBegin, opShowLoadBlock, opShowLoadEnd, opShowActivate, opShowUnload, opShowStatus, opCueGo, opCueListStatus, opTapSet, opTapRead, opHouseSet] ++
  [opSchedConfig, opSchedStatus, opSchedCounters, opSchedTaskRead, opSchedCores, opCmuConfig, opCmuStatus, opLoopControl, opLoopRead, opFixtureSolveRead, opKineticStop, opKineticRead, opDeckStatus, opIngestSet, opIngestStatus, opRasterSet] ++
  [opLayerSet, opRasterCommit, opRasterStatus, opTrestleSet, opTrestleStatus, opMemberRead, opRouteRead, opLinkSet, opLinkCounters, opDestStatus, opSpanSet, opSpanStatus, opLaneStatus, opSpanTrain, opSpanCal, opPrbsSet] ++
  [opPrbsRead, opErrorInject, opBitSlip, opLaneTapsSet, opSpanSleep, opPortSet, opPortStatus, opInputSet, opInputRead, opSacnSet, opSacnStatus, opRdmDiscover, opRdmUidRead, opRdmRequest, opRdmResultRead, opEthSet] ++
  [opEthStatus, opQueueSet, opQueueStatus, opHostchSet, opHostchStatus, opTxtsRead, opPtpSet, opPtpStatus, opStreamSet, opStreamStatus, opRadioSet, opRadioStatus, opNodeRead, opNodeControl, opPrivetSet, opRadioSend] ++
  [opRadioRecv, opRadioXcvrRead, opPierSet, opPierStatus, opPierControl, opPierCounters, opBoxStatus, opSlotInfo, opKeyLoad, opWkStatus, opChallenge, opPropose, opApprove, opProposalCancel, opOfficerRead, opIdentityRead] ++
  [opDiagEcho, opDiagPinRead, opDiagSelftest, opDiagEventRaise, opDiagFaultInject, opPowerStatus, opPowerModeSet, opThermalStatus, opThermalSet, opWakeScheduleSet, opUpdateBegin, opUpdateBlock, opUpdateEnd, opUpdateStatus, opUpdateActivate, opUpdateAbort]

/-- The family of an opcode: its high byte (Table 14.1). -/
def opFamily (op : Nat) : Nat := op / 256

/-- The opcodes the recovery ROM serves (R473). -/
def servedInRecovery (op : Nat) : Bool :=
  op == opSysInfo || op == opSysStatus || op == opSysReset || op == opDiagEcho || opFamily op == 0x0C

/-- The opcodes CC0 serves in venue standby (R495). -/
def servedInStandby (op : Nat) : Bool :=
  opFamily op == 0 || op == opPowerStatus || op == opPowerModeSet || op == opThermalStatus || op == opTimeGet ||
  op == opBoxStatus || op == opRadioStatus || op == opPierStatus

end Sys2Proof
end

