-- ==== Sys2Proof/Machine/BoxTypes.lean ====
section
/-! DEFINITION. Machine/BoxTypes.lean: the state of Boxwood, as plain data. A field's docstring names the rule or table it
comes from; default values are the reset values. -/
namespace Sys2Proof.Machine
open Sys2Proof

/-! ### Boxwood (chapter 12) -/

/-- The state of one copy of a persistent slot (R407). -/
inductive CopySt where
  | erased | valid | bad
  deriving DecidableEq, Repr

/-- A copy of a persistent slot (Table 12.2), its VALUE in the clear: the store key and the tag key never leave
Boxwood, and no command shows VALUE or TAG. -/
structure SlotCopy where
  st : CopySt := .erased
  seq : U32 := 0
  kind : U8 := 0
  uses : U8 := 0
  labelPrefix : List U8 := [0, 0, 0, 0]
  writtenS : Nat := 0
  name : List U8 := List.replicate 8 0
  value : List U8 := List.replicate 32 0
  deriving DecidableEq, Repr

/-- A persistent slot: its two copies (R406). -/
structure Slot where
  a : SlotCopy := {}
  b : SlotCopy := {}
  deriving DecidableEq, Repr

/-- A working slot that holds a key (R411). -/
structure WorkKey where
  /-- loaded from a blob -/
  blob : Bool
  root : Nat
  use : U8
  /-- BLOB_ID, or the label of a derivation -/
  id : U32
  label : List U8 := []
  key : List U8 := []
  /-- when it was last used: the model's count of uses -/
  used : Nat
  deriving DecidableEq, Repr

/-- An officer (R419). -/
structure Officer where
  name : List U8
  keyHash : List U8
  deriving DecidableEq, Repr

/-- The open proposal (R419, R420). -/
structure Proposal where
  id : U32
  kind : Nat
  body : List U8
  nonce : BitVec 256
  /-- plaintext of a SLOT_WRITE (R422) -/
  plain : List U8 := []
  openedAt : Nat
  /-- officer indices that have approved, and the engine time of the first approval -/
  approvals : List Nat := []
  firstAt : Nat := 0
  deriving DecidableEq, Repr

/-- TAMPER_SET values (Table 12.13). -/
structure TamperCfg where
  response : U8 := 0
  en : BitVec 4 := 0xF
  pol : BitVec 4 := 0xF
  filterUs : List U8 := [10, 10, 10, 10]
  deriving DecidableEq, Repr

/-- Boxwood (R404 to R435). -/
structure Box where
  slot : Tab Slot := []
  /-- working slots in use, by number -/
  wk : List (Nat × WorkKey) := []
  wkUses : Nat := 0
  officer : List (Nat × Officer) := []
  proposal : Option Proposal := none
  proposalSeq : U32 := 0
  /-- COUNTER of CHALLENGE, and the first value not reserved in the store (R417) -/
  counter : Nat := 0
  reserved : Nat := 0
  /-- an approved DEBUG_UNLOCK awaits the next boot (R424) -/
  debugNext : Bool := false
  tamper : TamperCfg := {}
  /-- tamper lock, alarm latch and the cause latched (R426) -/
  lock : Bool := false
  latch : Bool := false
  latchCause : U8 := 0
  /-- TAMPn asserted; monitors 5 to 7 tripped, at bits 0 to 2 -/
  level : BitVec 4 := 0
  tripped : BitVec 3 := 0
  lastCause : U8 := 0
  lastS : Nat := 0
  lastNs : Nat := 0
  /-- the count cycle of the last tamper -/
  lastAt : Option Nat := none
  /-- a strict response stops the show (1) or has left every output undriven (2) (R427) -/
  strict : Nat := 0
  /-- both VIN and VBAT were lost: the tamper domain is blank (R425, R490) -/
  blank : Bool := false
  deriving DecidableEq, Repr

end Sys2Proof.Machine
end

