-- ==== Sys2Proof/Machine/PortTypes.lean ====
section
/-! DEFINITION. Machine/PortTypes.lean: the state of fixture ports, inputs and sACN, as plain data. A field's docstring names the rule or table it
comes from; default values are the reset values. -/
namespace Sys2Proof.Machine
open Sys2Proof

/-! ### Fixture ports, inputs and sACN (chapter 8) -/

/-- PORT_SET values of a pair (Table 8.7). -/
structure PairCfg where
  mode : U8 := 0
  breakUs : U16 := 176
  mabUs : U16 := 16
  interslotUs : U8 := 0
  rdmEn : Bool := false
  delayUs : U16 := 0
  sensorBase : U8 := 0
  pollFrames : U8 := 16
  bitNs : U16 := 1248
  t0hNs : U16 := 352
  t1hNs : U16 := 700
  resetUs : U16 := 280
  clockKhz : U16 := 12500
  order : U8 := 0xE4
  pixHeader : U8 := 0
  pwmPeriod : U32 := 62500
  subpulses : U8 := 32
  minPulseNs : U16 := 400
  phase : U32 := 0
  phaseOdd : U32 := 0
  discoveryS : U16 := 600
  deriving DecidableEq, Repr

/-- What an RDM request is for (R290, R292, R293). -/
inductive RdmUse where
  /-- RDM_REQUEST: its TAG -/
  | host (tag : U32)
  /-- DISC_UN_MUTE to all devices: a broadcast -/
  | unmute
  /-- DISC_UNIQUE_BRANCH over a range of UIDs -/
  | branch (lo hi : Nat)
  /-- DISC_MUTE of a UID -/
  | mute (uid : Nat)
  /-- DEVICE_INFO of a UID -/
  | info (uid : Nat)
  /-- SENSOR_DEFINITION of a fixture's sensor 0 to 3 -/
  | definition (fixture : Nat) (i : Fin 4)
  /-- SENSOR_VALUE of a fixture's sensor 0 to 3 -/
  | value (fixture : Nat) (i : Fin 4)
  deriving DecidableEq, Repr

/-- An RDM request that waits or is in progress. -/
structure RdmReq where
  use : RdmUse
  dest : Nat := 0
  cls : U8 := 0x20
  pid : U16 := 0
  sub : U16 := 0
  data : List U8 := []
  /-- engine time before which it is not sent (ACK_TIMER) -/
  notBefore : Nat := 0
  /-- it was sent once already without a response -/
  again : Bool := false
  /-- ACK_OVERFLOW parts joined so far -/
  parts : List U8 := []
  truncated : Bool := false
  deriving DecidableEq, Repr

/-- A transmission in progress on a port: frame, engine time of its start and end, house packet. -/
structure PortTx where
  frame : Option U32
  start : Nat
  stop : Nat
  house : Bool := false
  slots : List U8
  deriving DecidableEq, Repr

/-- A pair of port pins (R278 to R294, Table 8.8). -/
structure Pair where
  cfg : PairCfg := {}
  /-- the first frame period under a new mode: the pair is undriven (R280) -/
  undriven : Bool := false
  /-- UIDs discovered, at most 512 -/
  uids : List Nat := []
  /-- UIDs found in the discovery in progress; whether it is full -/
  found : List Nat := []
  disc : Option Bool := none
  /-- when the last full discovery began -/
  discAt : Option Nat := none
  lastFrame : U32 := 0xFFFFFFFF
  /-- last frame sent since the grid started -/
  sent : Option U32 := none
  packets : U32 := 0
  late : U32 := 0
  inputErrors : U32 := 0
  rdmTimeouts : U32 := 0
  ignored : U32 := 0
  lateRun : Bool := false
  errorRun : Bool := false
  /-- slots of the last packet sent, or last received -/
  last : List U8 := []
  tx : Option PortTx := none
  /-- a scheduled break waits for a house packet or a response to end (R289, R291) -/
  delayed : Bool := false
  /-- engine time from which the line may be used again after RDM traffic: 12 us after a response, 176 us after a broadcast (R291) -/
  idleFrom : Nat := 0
  /-- frame boundary of the last packet sent while the grid is stopped -/
  idleAt : Int := -1
  queue : List RdmReq := []
  /-- the transaction in progress, and the engine time of the end of its request -/
  rdm : Option (RdmReq × Nat) := none
  /-- fixtures whose sensors failed Table 8.4, and whose temperature is in tenths -/
  badSensor : List Nat := []
  deci : List Nat := []
  /-- frame at which each fixture was last polled, and the readings in hand -/
  polled : List (Nat × U32) := []
  reading : List (Nat × U32 × List Int) := []
  deriving DecidableEq, Repr

/-- A pin in PWM mode (R154, R303). -/
structure PwmPin where
  /-- value in force, after its curve -/
  value : U16 := 0
  /-- high counts of the pulse that began last -/
  high : Nat := 0
  /-- full time at which it began -/
  at_ : Nat := 0
  /-- it holds the pin high until a sub-slot begins under another value -/
  hold : Bool := false
  /-- frame whose value it took last -/
  frame : Option U32 := none
  deriving DecidableEq, Repr

/-- INPUT_SET values of an entry (Table 8.9). -/
structure InputCfg where
  kind : U8 := 0
  source : U8 := 0
  uni : U16 := 0
  merge : Bool := false
  lossAction : Bool := false
  lossMs : U16 := 2500
  idleUs : U16 := 100
  deriving DecidableEq, Repr

/-- A source an sACN entry tracks (R298). -/
structure SacnSource where
  cid : List U8
  prio : U8
  seq : U8
  lastAt : Nat
  slots : List U8
  deriving DecidableEq, Repr

/-- 512 slots of value 0. -/
def blankSlots : List U8 := List.replicate 512 0

/-- An entry of the input table (R295 to R299). -/
structure InputEntry where
  cfg : InputCfg := {}
  slots : List U8 := blankSlots
  lastShort : U32 := 0
  lastAt : Option Nat := none
  prio : U8 := 0
  sources : List SacnSource := []
  lost : Bool := false
  /-- the count cycle of the last change, and the slots and loss that stood before it (R295) -/
  cycle : Option Nat := none
  before : List U8 := blankSlots
  lostBefore : Bool := false
  /-- packets ignored, and CIDs refused since a source was last removed (R298) -/
  ignored : U32 := 0
  refused : List (List U8) := []
  deriving DecidableEq, Repr

/-- SACN_SET values of an Ethernet port (Table 8.10) but CONTROLLER_UID. -/
structure SacnCfg where
  discoveryEn : Bool := true
  forceSync : Bool := false
  prio : U8 := 100
  syncUniverse : U16 := 0
  syncLeadUs : U16 := 100
  netDelayUs : U16 := 200
  cid : List U8 := List.replicate 16 0
  name : List U8 := List.replicate 64 0
  deriving DecidableEq, Repr

/-- sACN output of an Ethernet port (R304, R305). -/
structure Sacn where
  cfg : SacnCfg := {}
  dataSent : U32 := 0
  syncSent : U32 := 0
  late : U32 := 0
  lateRun : Bool := false
  /-- last frame whose data packets, and whose synchronisation packet, left -/
  lastFrame : Option U32 := none
  lastSync : Option U32 := none
  /-- frame boundary of the last packets sent while the grid is stopped -/
  idleAt : Int := -1
  /-- sequence number and slots last sent, by universe -/
  seqs : List (Nat × U8) := []
  last : List (Nat × List U8) := []
  /-- universes that end, with the termination packets still to send -/
  ending : List (Nat × Nat) := []
  discoveredAt : Option Nat := none
  deriving DecidableEq, Repr

/-- The result of an RDM_REQUEST (Table 8.6). -/
structure RdmResult where
  outcome : U8
  nack : U16
  data : List U8
  deriving DecidableEq, Repr

/-- Ports, inputs and sACN (R278 to R307). -/
structure Ports where
  pair : Vector Pair 32 := .replicate 32 {}
  pwm : Vector PwmPin 64 := .replicate 64 {}
  input : Tab InputEntry := []
  /-- the input snapshot of the frame being rendered, by entry (R295) -/
  snapshot : List (Nat × List U8) := []
  /-- entries that are lost in that snapshot -/
  lostSnap : List Nat := []
  sacn : Vector Sacn 4 := .replicate 4 {}
  controllerUid : Nat := 0
  /-- last frame sent on a pixel string's pin, and the engine time its transmission ends -/
  strFrame : Vector (Option U32) 64 := .replicate 64 none
  strStop : Vector Nat 64 := .replicate 64 0
  /-- slots last sent on a string, and whether house values wait to be sent on it (R96) -/
  strLast : Vector (List U8) 64 := .replicate 64 []
  strHouse : Vector Bool 64 := .replicate 64 false
  /-- every port pin is undriven: strict tamper response, or the power stage off -/
  off : Bool := false
  /-- results by TAG, newest first -/
  results : List (U32 × RdmResult) := []
  deriving DecidableEq, Repr

end Sys2Proof.Machine
end

