-- ==== Sys2Proof/Machine/PowerTypes.lean ====
section
/-! DEFINITION. Machine/PowerTypes.lean: the state of power, start-up, thermal protection and update, as plain data. A field's docstring names the rule or table it
comes from; default values are the reset values. -/
namespace Sys2Proof.Machine
open Sys2Proof

/-! ### Power, start-up, thermal protection and update (chapter 15) -/

/-- Power modes (Table 15.1). -/
inductive PowerMode where
  | run | standby | off
  deriving DecidableEq, Repr

/-- THERMAL_SET values (Table 15.18). -/
structure ThermalCfg where
  warnC : U8 := 100
  throttleC : U8 := 110
  stopC : U8 := 115
  floor : Nat := 4
  restartEn : Bool := false
  restartS : U16 := 60
  rcaMcw : U16 := 2000
  deriving DecidableEq, Repr

/-- Thermal protection (R505 to R511). -/
structure Thermal where
  cfg : ThermalCfg := {}
  level : Nat := 0
  eighths : Nat := 8
  /-- engine time of the last throttle step -/
  stepAt : Nat := 0
  /-- TJ and readings in s8.8 degrees; TJ_SOURCE -/
  tj : Int := 0
  tjSource : Nat := 0
  reading : List Int := List.replicate 29 0
  /-- the model's nodes (R506), in s8.8 degrees -/
  node : List Rat := List.replicate 29 0
  excluded : List Nat := []
  /-- consecutive evaluations off the expected value, or within it, by sensor (R507) -/
  offRun : List Nat := List.replicate 29 0
  okRun : List Nat := List.replicate 29 0
  /-- consecutive evaluations below the falling thresholds of levels 1 and 2 (R508) -/
  coolWarn : Nat := 0
  coolThrottle : Nat := 0
  throttleMs : U32 := 0
  /-- an orderly stop began at the engine time given; whether it stops a running grid (R510) -/
  stop : Option (Nat × Bool) := none
  /-- sending has ended (R510) -/
  silent : Bool := false
  deriving DecidableEq, Repr

/-- The power stage and its modes (R489 to R496). -/
structure Power where
  mode : PowerMode := .run
  /-- the last wake (Table 15.16) -/
  wakeCause : Nat := 0
  keepEth : BitVec 4 := 1
  wakeOnHouse : Bool := true
  /-- wake entries, full times in ns, and GUARD_US -/
  wakes : List Nat := []
  guardUs : U16 := 2000
  vinMv : U16 := 0
  vbatMv : U16 := 0
  /-- VIN is below 2.60 V: E123 was raised -/
  vinLow : Bool := false
  vbatOk : Bool := true
  vbatSwitched : Bool := false
  /-- VDDIO_A and VDDIO_B, mV; 0 absent (R491) -/
  vddio : Vector Nat 2 := .replicate 2 3300
  /-- input power and domain powers, mW (R505) -/
  powerMw : U32 := 0
  domainMw : List Nat := List.replicate 10 0
  thermal : Thermal := {}
  /-- engine time at which the rails were removed by heat; none: not in that Off (R511) -/
  tripAt : Option Nat := none
  deriving DecidableEq, Repr

/-- A boot record (Table 15.6). -/
structure BootRec where
  seq : U32 := 0
  active : Nat := 0
  /-- STATE_A and STATE_B: 0 empty, 1 valid, 2 failed -/
  state : Vector Nat 2 := #v[1, 0]
  trial : Bool := false
  trialBoots : Nat := 0
  version : Vector U32 2 := .replicate 2 0
  deriving DecidableEq, Repr

/-- Stored settings of one bank (R479, R504). -/
structure Stored where
  seq : U32
  format : U16
  profile : U8
  /-- last payloads accepted, by 65,536 x opcode + index -/
  payloads : Tab (List U8)
  deriving DecidableEq, Repr

/-- An update (R514 to R517). -/
structure Update where
  /-- STATE of Table 15.19 -/
  st : Nat := 0
  bank : Nat := 1
  reason : Nat := 0
  part : Nat := 0
  bytes : Nat := 0
  written : Nat := 0
  version : U32 := 0
  /-- 64-byte granules taken, and those not yet programmed -/
  granules : Tab (List U8) := []
  buffered : List Nat := []
  lastAt : Nat := 0
  /-- a boot-record write of the activation is in progress -/
  recording : Bool := false
  deriving DecidableEq, Repr

/-- The flash (R500, R501, R504). -/
structure Flash where
  /-- the two copies of the boot record; none: not valid -/
  record : Vector (Option BootRec) 2 := #v[some {}, none]
  /-- programmed 64-byte granules of the bank packages -/
  bank : Vector (Tab (List U8)) 2 := .replicate 2 []
  /-- the two settings copies of each bank; none: not valid (R504) -/
  stored : Vector (Vector (Option Stored) 2) 2 := .replicate 2 (.replicate 2 none)
  update : Update := {}
  /-- SETTINGS_FORMAT of the running manifest -/
  format : U16 := 0
  /-- the first boot after an activation takes its settings from the other bank (R504) -/
  takeOther : Bool := false
  /-- a bank failed in this boot: FAILED_PART (R502) -/
  failed : Option Nat := none
  deriving DecidableEq, Repr

end Sys2Proof.Machine
end

