-- ==== Sys2Proof/Machine/SchedTypes.lean ====
section
/-! DEFINITION. Machine/SchedTypes.lean: the state of the task scheduler, as plain data. A field's docstring names the rule or table it
comes from; default values are the reset values. -/
namespace Sys2Proof.Machine
open Sys2Proof

/-! ### The task scheduler (chapter 3) -/

/-- Task states (Table 3.3). -/
inductive TaskState where
  | free | alloc | delayed | gated | parked | ready | running | ended | trapped | cancelled
  deriving DecidableEq, Repr

/-- The code of a task state (Table 3.3). -/
def TaskState.code : TaskState → Nat
  | .free => 0 | .alloc => 1 | .delayed => 2 | .gated => 3 | .parked => 4 | .ready => 5 | .running => 6
  | .ended => 7 | .trapped => 8 | .cancelled => 9

/-- A task descriptor (Table 3.2) and what the scheduler keeps with it. -/
structure Desc where
  frame : U32 := 0
  pShort : U32 := 0
  releaseTick : U32 := 0
  flow : BitVec 12 := 0
  segment : BitVec 6 := 0
  source : Fin 4 := 0
  priority : Fin 8 := 0
  atomic : Bool := false
  gated : Bool := false
  delayed : Bool := false
  delayList : Fin 4 := 0
  atomicSlot : BitVec 10 := 0
  affKey : BitVec 12 := 0
  affValid : Bool := false
  level : U16 := 0
  st : TaskState := .free
  core : BitVec 6 := 0
  late : Bool := false
  code : U32 := 0
  arg : U32 := 0
  /-- scheduler cycle at which it entered READY -/
  readyAt : Nat := 0
  /-- its affinity wait was seen to expire (R124) -/
  waitOver : Bool := false
  /-- order of submission -/
  order : Nat := 0
  /-- a cancel waits for its submission to complete (Table 3.5) -/
  cancelDue : Bool := false
  /-- a cancel reached it while it ran, and the cycle in which it did (Table 3.5) -/
  cancelAfter : Bool := false
  cancelAt : Nat := 0
  /-- its render was discarded by a resync (R392) -/
  discard : Bool := false
  deriving DecidableEq, Repr

/-- The descriptor fields that a core receives in its task context (R110). -/
structure TaskContext where
  frame : U32
  pShort : U32
  flow : BitVec 12
  segment : BitVec 6
  level : U16
  arg : U32
  deriving DecidableEq, Repr

/-- The completion notice of a task to its source, and what a cancel reports to it (R114, R130). -/
inductive Notice where
  | ended | cancelledAfter | trapped | cancelledBefore | notFound
  deriving DecidableEq, Repr

/-- An effect core (R109, R110, R134, R137). -/
structure Core where
  task : Option Nat := none
  startedAt : Nat := 0
  /-- the scheduler cycle in which it last became idle -/
  idleAt : Nat := 0
  context : Option TaskContext := none
  /-- its program stands in local memory from this ns on, and its first instruction runs by 200 ns later (R110) -/
  loadedAt : Nat := 0
  enabled : Bool := true
  excluded : Bool := false
  /-- programs in the 128 KiB of local memory with their LOCAL_BYTES, the last run first (R109, R110) -/
  resident : List (U32 × Nat) := []
  correctedErrors : U32 := 0
  /-- grants lost in a row at its issue port (R9) -/
  losses : Nat := 0
  deriving DecidableEq, Repr

/-- A dispatch of the cycle in progress, and what it replaced: a cancel in the same cycle wins (Table 3.7). -/
structure Issue where
  task : Nat
  core : Fin 64
  cycle : Nat
  /-- the core, the AFF_TABLE entry and the place in the queue before the dispatch -/
  was : Core
  aff : BitVec 7
  place : Nat
  /-- how Table 3.12 counted it: 0 AFF_HIT, 1 AFF_EXPIRED, 2 AFF_NONE -/
  kind : Nat
  deriving DecidableEq, Repr

/-- SCHED_CONFIG values (Table 3.10). -/
structure SchedCfg where
  affinityWait : Vector U16 8 := #v[0, 2000, 2000, 2000, 2000, 2000, 2000, 2000]
  limit : Vector U16 4 := #v[8192, 512, 512, 256]
  reserve : Vector U16 4 := #v[0, 0, 0, 0]
  priority : Vector U8 4 := #v[0, 1, 0, 6]
  runLimitUs : U32 := 10000
  holdEventUs : U16 := 1000
  deriving DecidableEq, Repr

/-- The hardware scheduler (R113 to R137). -/
structure Sched where
  cfg : SchedCfg := {}
  desc : Tab Desc := []
  /-- the free list: descriptors never used, then those freed, oldest first (R115) -/
  freeNext : Nat := 0
  freed : List Nat := []
  /-- tasks that ended, trapped or were cancelled, and the cycle they did: they return to FREE in the next (R114) -/
  ending : List (Nat × Nat) := []
  /-- the last notice delivered to each source (R114, R130) -/
  notice : Vector (Option (Nat × Notice)) 4 := .replicate 4 none
  minFree : Nat := 8192
  inUse : Vector Nat 4 := .replicate 4 0
  /-- tasks each source asks for a descriptor with, oldest first -/
  subq : Vector (List Desc) 4 := .replicate 4 []
  /-- when each source's hold began, and whether E040 was raised for it -/
  hold : Vector (Option Nat) 4 := .replicate 4 none
  /-- from when a hold in progress counts in HOLD_US, and the ns of the holds that are over (Table 3.12) -/
  holdFrom : Vector Nat 4 := .replicate 4 0
  holdNs : Vector Nat 4 := .replicate 4 0
  holdRaised : Vector Bool 4 := .replicate 4 false
  /-- losses in a row of each source at the allocation port, of each entry requester (R9) -/
  lossAlloc : Vector Nat 4 := .replicate 4 0
  lossEntry : Vector Nat 7 := .replicate 7 0
  /-- the entry port: tasks that wait at the gate, at atomic unpark, at DL0 to DL3 and at direct submission -/
  entry : Vector (List Nat) 7 := .replicate 7 []
  /-- DL0 to DL3 in order of key, then submission (R119) -/
  delay : Vector (List Nat) 4 := .replicate 4 []
  /-- GATED tasks in submission order -/
  gatedQ : List Nat := []
  /-- READY tasks by priority -/
  ready : Vector (List Nat) 8 := .replicate 8 []
  /-- slots held, and parked tasks in entry order: slot and descriptor (R129) -/
  slotHeld : List Nat := []
  parked : List (Nat × Nat) := []
  gateFrame : U32 := 0
  /-- frames whose tasks the sequencer has issued; a frame is closed once none of them still waits for a descriptor
  (R118) -/
  closed : List U32 := []
  /-- render end was signalled for GATE_FRAME (R123) -/
  renderEnd : Bool := false
  affTable : Tab (BitVec 7) := []
  cores : Vector Core 64 := .replicate 64 {}
  /-- what the issue ports take in a cycle: the cycle, and the task and core of each port (Table 3.7) -/
  offers : Option (Nat × Vector (Option (Nat × Fin 64)) 4) := none
  /-- dispatches of the last cycle in which one was made -/
  issued : List Issue := []
  order : Nat := 0
  /-- flows whose footprint is to be copied once their last running segment ends: flow, frame (R84) -/
  trapCopy : List (Nat × U32) := []
  /-- frame whose first render task was dispatched last (R175, R187) -/
  firstDispatch : Option U32 := none
  dispatched : Vector U32 8 := .replicate 8 0
  affHit : U32 := 0
  affExpired : U32 := 0
  affNone : U32 := 0
  cancelBefore : U32 := 0
  cancelAfter : U32 := 0
  traps : U32 := 0
  watchdog : U32 := 0
  lateRelease : U32 := 0
  submitted : Vector U32 4 := .replicate 4 0
  deriving DecidableEq, Repr

end Sys2Proof.Machine
end

