-- ==== Sys2Proof/Machine/SpanTypes.lean ====
section
/-! DEFINITION. Machine/SpanTypes.lean: the state of spans and lanes, as plain data. A field's docstring names the rule or table it
comes from; default values are the reset values. -/
namespace Sys2Proof.Machine
open Sys2Proof

/-! ### Spans (chapter 7) -/

/-- SPAN_SET values (Table 7.10). -/
structure SpanCfg where
  mode : Nat := 1
  gen2En : Bool := true
  gen1En : Bool := true
  spareEn : Bool := true
  precodeReq : Bool := false
  rateMbd : U16 := 8000
  calIntervalMs : U16 := 1000
  calTrim : U8 := 2
  calGapWait : U8 := 8
  healthDownUs : U16 := 2000
  healthUe : U16 := 16
  fecWarnExp : U8 := 7
  deriving DecidableEq, Repr

/-- An injection of bit errors (R265, Table 7.13). -/
structure BitErrors where
  /-- TARGET 1: in-service codeword portion -/
  inService : Bool
  length : Nat
  /-- injections left; 0xFFFF until stopped -/
  left : Nat
  interval : Nat
  /-- codewords until the next injection -/
  wait : Nat
  deriving DecidableEq, Repr

/-- A PRBS checker (R264): its lock, error-free bits in a row while it seeks it, bits checked since it was set, the places of the
last errors in lock, and what it counts. -/
structure Checker where
  lock : Bool := false
  run : Nat := 0
  at_ : Nat := 0
  /-- bits checked since lock was found -/
  held : Nat := 0
  recent : List Nat := []
  bits : Nat := 0
  errors : Nat := 0
  losses : U32 := 0
  /-- a run of losses stands, and how many runs have begun -/
  lossRun : Bool := false
  runs : Nat := 0
  deriving DecidableEq, Repr

/-- One physical lane (R245 to R247, R263 to R266, Table 7.12). -/
structure Lane where
  los : Bool := false
  lol : Bool := false
  inverted : Bool := false
  /-- the pins that training found the lane on (R247), and the symbols by which the buffer delays it (R245) -/
  pin : Option (Fin 5) := none
  deskew : Nat := 0
  taps : Taps := {}
  corrected : U32 := 0
  losEvents : U32 := 0
  lolEvents : U32 := 0
  sweeps : U32 := 0
  /-- PRBS generator and checker: 0 off, 1 to 4 a pattern -/
  gen : Nat := 0
  check : Nat := 0
  chk : Checker := {}
  inject : Option BitErrors := none
  /-- symbols the word boundary was moved by BIT_SLIP (R266) -/
  slip : Nat := 0
  /-- level index last sent, for the precoder (R241) -/
  pre : Nat := 0
  /-- level index that the peer last sent, and the one last received in its place (R241) -/
  prePeer : Nat := 0
  preRx : Nat := 0
  /-- the pre-FEC error ratio stands above the warning level (R256) -/
  warned : Bool := false
  deriving DecidableEq, Repr

/-- The lane map of a direction (R237): physical lanes of logical lanes 0 to 3, the spare, and the failed lanes. -/
structure LaneMap where
  lanes : List Nat := [0, 1, 2, 3]
  spare : Option Nat := some 4
  failed : List Nat := []
  deriving DecidableEq, Repr

/-- A rotation of a logical lane, by the receiving end (R257). -/
structure Rotation where
  logical : Nat
  /-- the lane it leaves, and the spare it takes -/
  from_ : Nat
  dest : Nat
  /-- 1 SPARE_ON sent; 2 sweep of the spare; 3 DUPLICATE sent; 4 comparing; 5 compared; 6 RELEASE sent; 7 sweep of the lane -/
  phase : Nat
  c1 : U32 := 0
  /-- engine time at which a sweep ends -/
  sweepEnd : Nat := 0
  deriving DecidableEq, Repr

/-- A change of a lane map that takes effect at a codeword (R255, R257): the logical lane, the lane it moves to, and whether the
lane it leaves is released to be the spare; else that has failed. -/
structure LaneMove where
  logical : Nat
  dest : Nat
  cw : U32
  release : Bool := false
  deriving DecidableEq, Repr

/-- A lane-control request that awaits its answer (R262). -/
structure CtlReq where
  op : Nat
  msg : LaneCtl
  sentAt : Nat
  again : Bool := false
  deriving DecidableEq, Repr

/-- A calibration gap (R259, R260): a request that waits for a frame gap, from the frame given; a gap placed; one that
interrupts the direction since an engine time. -/
inductive Gap where
  | wait (frame : U32) (deferred : Bool)
  | placed (cw : U32)
  | open_ (since : Nat)
  deriving DecidableEq, Repr

/-- The training attempt, or fast resume, in progress (R248 to R253, R268). -/
structure Training where
  t0 : Nat := 0
  /-- step in progress (Table 7.5) -/
  step : Nat := 1
  /-- rate change of the incoming direction -/
  rAt : Option Nat := none
  /-- lanes of the peer decoded, in DISCOVER and in ALIGN -/
  seen : List Nat := []
  aligned : List Nat := []
  peer : Option TrainFrame := none
  /-- engine time from which this end counts down (R249) -/
  countAt : Option Nat := none
  bad : List Nat := []
  txBad : List Nat := []
  /-- codewords and corrected bytes since codeword lock, with none uncorrectable; 1,024 of them passed LOCK (Table 7.5) -/
  clean : Nat := 0
  cleanBytes : Nat := 0
  lockPass : Bool := false
  /-- engine time at which LOCK passed (R271) -/
  lockAt : Option Nat := none
  /-- the step that failed -/
  failed : Option Nat := none
  /-- SPAN_SET values this attempt uses (R273) -/
  cfg : SpanCfg := {}
  deriving DecidableEq, Repr

/-- A span (R236 to R274). -/
structure Span where
  cfg : SpanCfg := {}
  /-- SPAN_STATE of Table 7.11 -/
  st : Nat := 1
  /-- last step reached in training -/
  step : Nat := 0
  train : Training := {}
  quietUntil : Nat := 0
  nextAttempt : Nat := 0
  failCount : Nat := 0
  dormant : Bool := false
  abortRun : Bool := false
  gen2 : Bool := false
  precode : Bool := false
  /-- agreed rate, MBd or Mb/s -/
  rate : U16 := 0
  rx : LaneMap := {}
  tx : LaneMap := {}
  lane : Vector Lane 5 := .replicate 5 {}
  ckLos : Bool := false
  ckLol : Bool := false
  cwTx : U32 := 0
  cwRx : U32 := 0
  codewords : U32 := 0
  cwCorrected : U32 := 0
  cwBad : U32 := 0
  /-- uncorrectable codewords in a row; codeword lock (R244) -/
  badRun : Nat := 0
  /-- codewords in a row with none uncorrectable (R244) -/
  goodRun : Nat := 0
  lock : Bool := false
  /-- engine times of the uncorrectable codewords of the last 1 ms -/
  badAt : List Nat := []
  /-- bit errors corrected in the last second: engine time, physical lane, bits (R256, Table 7.11) -/
  errLog : List (Nat × Nat × Nat) := []
  /-- lane moves that wait for their codeword (R255, R257) -/
  rxMove : Option LaneMove := none
  txMove : Option LaneMove := none
  /-- lanes that need calibration and wait for it (R256, R257) -/
  needs : List Nat := []
  /-- codewords after a gap in which the transmitter sends no block but IDLE (R259) -/
  idleLeft : Nat := 0
  /-- loss of signal came as LOCK passed: the link goes down once it is up (R271) -/
  losDue : Bool := false
  rotation : Option Rotation := none
  /-- the logical lane last rotated, and when a rotation last began or the link came up -/
  lastRotated : Nat := 3
  rotatedAt : Nat := 0
  rotations : U32 := 0
  rotationsAbandoned : U32 := 0
  ctl : Option CtlReq := none
  ctlTag : U32 := 0
  ctlAbandoned : U32 := 0
  /-- the rotation the peer runs on the transmit direction: 1 spare on, 2 duplicating a logical lane, 3 released -/
  txPhase : Nat := 0
  txDup : Option (Nat × U32) := none
  /-- calibration gaps of the two directions; taps that wait for the receive gap -/
  gapRx : Option Gap := none
  gapTx : Option Gap := none
  calGaps : U32 := 0
  /-- TAG of the CAL_GAP request the transmit gap answers -/
  gapTag : U32 := 0
  /-- sleep: full time of W, and G in ns; a sleep that waits for its ACK to leave -/
  sleep : Option (Nat × Nat) := none
  sleepDue : Bool := false
  /-- this end's ACK is still to leave first -/
  sleepAck : Bool := false
  wokeAt : Nat := 0
  alignSeen : Bool := false
  attempts : U32 := 0
  fails : U32 := 0
  aborts : U32 := 0
  wakeDrifts : U32 := 0
  /-- engine time at which the link last went down -/
  downSince : Nat := 0
  /-- the health check fails (R270), and the engine time of its last failing case -/
  healthFail : Bool := false
  healthAt : Nat := 0
  deriving DecidableEq, Repr

end Sys2Proof.Machine
end

