-- ==== Sys2Proof/Machine/TimeTypes.lean ====
section
/-! DEFINITION. Machine/TimeTypes.lean: the state of time, the frame grid, mailboxes and the system, as plain data. A field's docstring names the rule or table it
comes from; default values are the reset values. -/
namespace Sys2Proof.Machine
open Sys2Proof

/-! ### Time: Keystone, the frame grid, compare slots, timecode (chapter 1) -/

/-- A Keystone state (Table 1.3); the codes are those of TIME_GET. -/
inductive LockState where
  | free | acquire | locked | holdover
  deriving DecidableEq, Repr

/-- The code of a Keystone state (Table 1.7). -/
def LockState.code : LockState → Nat
  | .free => 0 | .acquire => 1 | .locked => 2 | .holdover => 3

/-- SERVO_SET values (Table 1.8). -/
structure ServoCfg where
  kp : U16 := 0x4000
  ki : U16 := 0x0800
  stepNs : U32 := 0x000F4240
  lockNs : U16 := 100
  unlockNs : U16 := 1000
  faultNs : U32 := 10000
  holdoverLimitS : U16 := 60
  ref10mEn : Bool := false
  priority : Vector U8 6 := #v[1, 2, 3, 0, 0, 0]
  refPhaseNs : U32 := 0
  deriving DecidableEq, Repr

/-- What Keystone keeps of one time source (R27 to R30). -/
structure TimeSrc where
  valid : Bool := false
  /-- engine time in ns of the last sample -/
  lastAt : Nat := 0
  /-- nominal interval in ns (Table 1.2) -/
  nominal : Nat := 1000000000
  /-- consecutive valid samples -/
  run : Nat := 0
  deriving DecidableEq, Repr

/-- Keystone: the clock, its two models and its servo (R20 to R36). -/
structure Keystone where
  /-- the model's own base: ns of the 250 MHz clock since reset; COUNT of R24 is this over 4, in 64 bits -/
  ns : Nat := 0
  /-- R20 SECONDS, 48 bits -/
  sec : Nat := 0
  /-- R20 NANOSECONDS -/
  nsec : Nat := 0
  /-- R22 40-bit fraction; its upper 16 bits are SUBNS -/
  frac : Nat := 0
  /-- R22 INC, in units of 2^-40 ns per count cycle -/
  inc : Nat := 4 * 2 ^ 40
  /-- R26: the compatibility model is selected -/
  compat : Bool := false
  /-- R24 OFFSET, full time in ns -/
  offset : Nat := 0
  /-- R24 BASE, a COUNT value -/
  base : U64 := 0
  /-- R24 RATE, 2^-40 ns per cycle -/
  rate : Int := 0
  cfg : ServoCfg := {}
  /-- sources 1 to 5 of Table 1.2, at index code - 1 -/
  src : Vector TimeSrc 5 := .replicate 5 {}
  /-- code of the selected source; 0 NONE -/
  sel : Nat := 0
  /-- the next sample is the first since the selection (R32) -/
  selNew : Bool := false
  /-- PPS_IN may be used: Keystone was set within 0.5 s of TAI (R28) -/
  taiSet : Bool := false
  /-- servo integrator I, parts per 10^9 (R32) -/
  integ : Rat := 0
  /-- frequency correction y, parts per 10^9 (R32) -/
  y : Rat := 0
  /-- last theta in ns, exact (Table 1.7 OFFSET) -/
  theta : Rat := 0
  st : LockState := .free
  good : Nat := 0
  bad : Nat := 0
  /-- y of the last samples taken in LOCKED, newest first, at most 64 (R35) -/
  hist : List Rat := []
  holdSince : Nat := 0
  /-- lock fault of the first case of R36: a long holdover -/
  faultHold : Bool := false
  /-- lock fault of the second case of R36: an offset -/
  faultOffset : Bool := false
  ref10mPresent : Bool := false
  ref10mActive : Bool := false
  deriving DecidableEq, Repr

/-- GRID_SET values (Table 1.9). `e` is the epoch E, a full time in ns. -/
structure GridVals where
  n : U32 := 60000
  d : U32 := 1001
  e : Nat := 0
  n0 : U32 := 0
  l : U8 := 2
  q : U8 := 32
  ceil : U8 := 4
  /-- the epoch was moved forward since the grid started (R40): frames before it are presented frames -/
  moved : Bool := false
  deriving DecidableEq, Repr

/-- The frame grid (R38 to R52, R66). -/
structure Grid where
  /-- the grid settings in force (R42) -/
  v : GridVals := {}
  applyFrame : U32 := 0
  /-- RUN as GRID_GET reads it -/
  run : Bool := false
  /-- GRID_STATE: 0 stopped, 1 waiting for the first frame, 2 running -/
  st : Nat := 0
  /-- cut-off lead K in force, ticks, signed (R45) -/
  k : U16 := 4
  /-- a recomputed K that waits for a frame boundary -/
  kNext : Option U16 := none
  /-- K of the frames from a swap's first frame on, until a LATCH of one of them gives it (R78) -/
  kFrom : Option (U32 × U16) := none
  /-- last presented frame and its slip (R541) -/
  frame : Option U32 := none
  slip : Nat := 0
  /-- frame whose unslipped period the grid is in (R41) -/
  cur : Option U32 := none
  /-- number of the tick in progress, 0 to 255 -/
  tick : Nat := 0
  /-- TICK_COUNT (R119) -/
  tickCount : U32 := 0
  /-- full time and tick number from which ticks are counted: E, or the last boundary after a stop (R42) -/
  tickBase : Int := 0
  /-- ticks counted from `tickBase`; the next boundary is tick `tickIdx + 1` -/
  tickIdx : Int := -1
  /-- the values by which the ticks of the frame in progress are counted (R41, R42) -/
  tv : GridVals := {}
  /-- tick 0 of a frame has begun and its FRAME_BOUNDARY is due -/
  fbDue : Bool := false
  /-- the MEMBER flood of that boundary is due (R215) -/
  memberDue : Bool := false
  /-- next frame to render (S, R43), to commit (R83), to latch and to present -/
  nextRender : U32 := 0
  nextCommit : U32 := 0
  nextLatch : U32 := 0
  nextPresent : U32 := 0
  /-- the engine's own s(m) of its committed frames, newest first -/
  ownSlip : List (U32 × Nat) := []
  /-- domain slips of latched frames, newest first (R50) -/
  latched : List (U32 × Nat) := []
  /-- a change accepted and not yet in force (R66) -/
  change : Option (GridVals × U32) := none
  /-- the grid in force before the last change, and the first frame of the new one -/
  prev : Option (GridVals × U32) := none
  /-- new q and ceiling that wait for a boundary with zero slip, from the frame given (R52) -/
  qNext : Option (U8 × U8 × U32) := none
  /-- APPLY_FRAME of an accepted stop (R66) -/
  stopAt : Option U32 := none
  /-- the peak slip of the run of slipped frames in progress; none: no run (E020, E022) -/
  slipRun : Option Nat := none
  /-- E021 was raised in this run -/
  ceilRaised : Bool := false
  /-- KIND 1 of E026 was raised for the frame being rendered -/
  stallRaised : Bool := false
  /-- the values GRID_FP is taken over: those of the GRID_SET that started or last changed the grid (R228) -/
  fp : GridVals := {}
  deriving DecidableEq, Repr

/-- A compare slot (R53 to R60). -/
structure KtSlot where
  /-- STATE of Table 1.12: 0 idle, 1 armed, 2 fired, 3 cancelled -/
  st : Nat := 0
  /-- wrap mode -/
  wrap : Bool := false
  action : U8 := 1
  arg : U32 := 0
  /-- full time (extended mode) or short time (wrap mode) -/
  target : Nat := 0
  /-- the target had passed when it was armed (R57) -/
  passed : Bool := false
  /-- COUNT value of the target in the compatibility model (R60) -/
  count : U64 := 0
  /-- the count cycle, in ns since reset over 4, in which the slot fired, while its action has not begun (R54, R58) -/
  begins : Option Nat := none
  /-- times in a row its action lost the start to another slot's (R9) -/
  losses : Nat := 0
  late : Bool := false
  lateness : U32 := 0
  fireS : Nat := 0
  fireNs : Nat := 0
  deriving DecidableEq, Repr

/-- TIMECODE_SET values (Table 1.13) and the timecode pins (R61 to R63). -/
structure Timecode where
  ltcIn : U8 := 0
  ltcOut : U8 := 0
  utcOffset : U16 := 37
  originS : Nat := 0
  originNs : Nat := 0
  ppsWidthUs : U16 := 100
  ppsForce : Bool := false
  /-- TAI second of the last PPS_OUT pulse -/
  ppsLast : Option Nat := none
  /-- LTC frame index last begun on LTC_OUT, and the label it carries: hours, minutes, seconds, frames (R62) -/
  ltcFrame : Option Nat := none
  ltcOutLabel : Nat × Nat × Nat × Nat := (0, 0, 0, 0)
  /-- label and user bits last read from LTC_IN -/
  ltcLabel : Nat := 0
  ltcUser : U32 := 0
  /-- edges seen on the pins, for DIAG_PIN_READ -/
  ppsIn : Bool := false
  frameRefIn : Bool := false
  ltcInLevel : Bool := false
  deriving DecidableEq, Repr

/-! ### Mailboxes, transports and events (chapter 13) and the system commands (chapter 14) -/

/-- The way a message came, and its response goes: the ring of its channel, a UDP source, or the engine that relayed it
(R436, R457, R460). -/
inductive Via where
  | ring
  | udp (eth : Fin 4) (ip : U32) (port : U16)
  | relay (node : U32)
  deriving DecidableEq, Repr

/-- A request in service on a channel (R443 to R447). -/
structure Svc where
  op : U16
  tag : U32
  taken : U32
  bulk : Bool := false
  payload : List U8 := []
  keyId : U32 := 0
  counter : U64 := 0
  via : Via := .ring
  /-- the command was carried out and its response waits for something else (R460, R482) -/
  waits : Bool := false
  /-- a tamper aborted the operation: it answers ST_FAULT (Table 12.9) -/
  abort : Bool := false
  /-- when it was taken up -/
  since : Nat := 0
  deriving DecidableEq, Repr

/-- A response not yet written into its ring (R445). `post` is what happens once it is written: an opcode and
its payload (R467, R478). -/
structure Rsp where
  op : U16
  status : U16
  tag : U32
  taken : U32
  keyId : U32
  counter : U64
  data : List U8
  post : Option (Nat × List U8) := none
  via : Via := .ring
  /-- the response carries a MAC: its request was authentic (R458, R459) -/
  mac : Bool := true
  deriving DecidableEq, Repr

/-- A mailbox channel (R436 to R451, Tables 13.2 and 13.12). -/
structure Chan where
  bind : U8 := 0
  rspIrq : Bool := true
  rspPin : Bool := false
  vector : U8 := 0
  rspStallMs : U16 := 1000
  /-- CH_STATE of Table 13.2 -/
  st : U8 := 0
  reqTail : U16 := 0
  reqHead : U16 := 0
  rspTail : U16 := 0
  rspHead : U16 := 0
  svc : Option Svc := none
  rsp : Option Rsp := none
  /-- the last response placed on the channel, as its ring or datagram carries it -/
  lastRsp : Option Rsp := none
  /-- messages that arrived by UDP or relay, authentic and not taken up, oldest first -/
  inbox : List (Via × List U8) := []
  /-- when the wait for the rest of a message began (R444) -/
  msgWait : Option Nat := none
  /-- when the wait for response space began, and whether E005 was raised (R445) -/
  stall : Option Nat := none
  stallRaised : Bool := false
  /-- the endpoint was reset under a request in service: its response is discarded (R441) -/
  discard : Bool := false
  /-- times in a row the channel lost a take-up to a lower one (R9) -/
  losses : Nat := 0
  taken : U32 := 0
  badLength : U32 := 0
  expired : U32 := 0
  authFails : U32 := 0
  rspStalls : U32 := 0
  dupResends : U32 := 0
  /-- AUTH_COUNTER and TAG of the last accepted message, and the bytes of its response (R459) -/
  accepted : Option (U64 × U32) := none
  cached : Option (List U8) := none
  deriving DecidableEq, Repr

/-- EVENT_SET values (Table 13.13). -/
structure EventCfg where
  ringHost : Bool := false
  vector : U8 := 0
  entries : U16 := 64
  irqUs : U16 := 20
  pinClasses : U8 := 0xFF
  irqClasses : U8 := 0xFF
  base : U64 := 0
  mask : BitVec 128 := BitVec.allOnes 128
  deriving DecidableEq, Repr

/-- The event ring and its signals (R462 to R465). -/
structure Events where
  cfg : EventCfg := {}
  head : U16 := 0
  tail : U16 := 0
  seq : U16 := 0
  /-- LOST is due on the next record written -/
  lostPend : Bool := false
  lost : U32 := 0
  /-- unread records of either ring: event number and record -/
  unread : List (Nat × List U8) := []
  /-- events raised before the engine is ready (R497): number and DATA -/
  early : List (Nat × List U8) := []
  /-- the count cycle of the newest record, and how many were written in it (R463) -/
  cycle : Nat := 0
  inCycle : Nat := 0
  /-- events that found the ring full in a count cycle, that cycle, and whether LOST was due before it (R466) -/
  refused : List (Nat × List U8) := []
  refusedAt : Nat := 0
  pendBefore : Bool := false
  irqPend : Bool := false
  irqLast : Option Nat := none
  deriving DecidableEq, Repr

/-- UDP_MB_SET values (Table 13.11). -/
structure UdpCfg where
  keySlot : U8 := 0
  portMask : U8 := 0xF
  denyRate : U16 := 16
  relayWaitMs : U16 := 500
  deriving DecidableEq, Repr

/-- A BULK stream being sent or received (R461). -/
structure Stream where
  /-- the whole of the data (sender), or the bytes received in order (receiver) -/
  bytes : List U8 := []
  acked : Nat := 0
  sent : Nat := 0
  /-- when the acknowledged offset last moved -/
  since : Nat := 0
  resends : Nat := 0
  kind : U8 := 0
  last : Bool := false
  /-- the other engine -/
  peer : U32 := 0
  deriving DecidableEq, Repr

/-- A RELAY in progress (R460): its channel and TAG, the engine and TAG of the message sent, since when. -/
structure Relay where
  ch : Fin 8
  tag : U32
  dest : U32
  inner : U32
  since : Nat
  deriving DecidableEq, Repr

/-- The host transports (R436 to R465). -/
structure Mailboxes where
  /-- ENGINE_STATE of Table 13.2: 0 booting, 1 recovery ROM, 2 ready, 3 secure hold -/
  engine : U8 := 0
  /-- PRIMARY: SPI -/
  spi : Bool := false
  ch : Vector Chan 8 :=
    #v[{vector := 0}, {vector := 1}, {vector := 2}, {vector := 3}, {vector := 4}, {vector := 5},
       {bind := 1, vector := 6}, {bind := 1, vector := 7}]
  /-- W0 from 0x0800: MSI-X table, pending bits, event ring, request and response rings, by byte address -/
  w0 : Tab U8 := []
  /-- W2 staging memory, 4 MiB (R439) -/
  w2 : Tab U8 := []
  ev : Events := {}
  udp : UdpCfg := {}
  /-- MSI-X vectors masked and pending (R437): the mask bits of the table at W0 0x0800, the pending-bit array at 0x0900 -/
  msixMask : U8 := 0xFF
  msixPend : U8 := 0
  dmaFaults : U32 := 0
  dmaRun : Bool := false
  /-- channels whose bulk transfer in progress faulted (R440) -/
  bulkFault : U8 := 0
  spiFrameErrors : U32 := 0
  spiAddrErrors : U32 := 0
  spiFrameError : Bool := false
  spiRun : Bool := false
  udpFragments : U32 := 0
  perstCount : U32 := 0
  /-- transport and channel of the runs of authentication failures in progress (R459) -/
  authRun : List (Nat × Nat) := []
  pcieWidth : U8 := 0
  pcieGen : U8 := 0
  /-- last counters held on die, most recently used first: at most 16 (R459) -/
  onDie : List (U32 × U64) := []
  /-- the journal of accepted counters, newest last: at most 256 key IDs (R459) -/
  journal : List (U32 × U64) := []
  commonFloor : U64 := 0
  /-- ST_DENIED answers sent in the second that began at the time given, by Ethernet port (R459) -/
  denied : Vector (Nat × Nat) 4 := .replicate 4 (0, 0)
  /-- the RELAY that waits for its reply (R460) -/
  relay : Option Relay := none
  txStreams : Tab Stream := []
  rxStreams : Tab Stream := []
  /-- the last payload accepted of each stored command, by opcode and index (R479) -/
  accepted : Tab (List U8) := []
  /-- settings accepted that wait for the next frame boundary, in order: opcode and payload (R15) -/
  atBoundary : List (Nat × List U8) := []
  deriving DecidableEq, Repr

/-- A self-test in progress (R482). -/
structure SelfTest where
  tests : U8
  tag : U32
  deriving DecidableEq, Repr

/-- A forced check failure (Table 14.9): check code, first frame, frames; whether it fails at present. -/
structure Forced where
  code : Nat
  first : U32
  count : Nat
  active : Bool := false
  deriving DecidableEq, Repr

/-- Fault injections that wait (Table 14.9). -/
structure Inject where
  /-- cores whose next task traps -/
  core : List (Fin 64) := []
  /-- frames whose digest is corrupted -/
  digest : List U32 := []
  check : List Forced := []
  /-- flow traps: flow and frame -/
  flow : List (U16 × U32) := []
  deriving DecidableEq, Repr

/-- What SYS_RESET left to be done (R478). -/
inductive ResetPend where
  | none
  /-- waiting for kinetic parameters to come to rest -/
  | rest
  /-- the reset falls at this engine time -/
  | at (ns : Nat)
  deriving DecidableEq, Repr

/-- What the fuses programmed at manufacture hold (R476); it never changes. -/
structure Identity where
  grade : U8 := 2
  silicon : U8 := 1
  serial : U64 := 0
  deriving DecidableEq, Repr

/-- What SYS_INFO reports that is fixed for the length of one boot (R476). -/
structure BootId where
  /-- running profile: 0 V, 1 G -/
  profile : U8 := 0
  bank : U8 := 0
  fwVersion : U32 := 0
  partVer : Vector U16 8 := .replicate 8 0
  /-- the running package has the radio MAC part (Table 15.12) -/
  radioMac : Bool := false
  bootCause : U8 := 0
  debugBoot : Bool := false
  deriving DecidableEq, Repr

/-- The system: identity, boot, pins of the package (R476, R478, R481). -/
structure Sys where
  fuses : Identity := {}
  boot : BootId := {}
  bootAt : Nat := 0
  reset : ResetPend := .none
  selfTest : Option SelfTest := none
  inject : Inject := {}
  /-- HOUSE_N pin level -/
  houseN : Bool := true
  /-- BOOT_MODE straps sampled at reset -/
  bootMode : U8 := 0
  /-- RADIO_IRQ levels -/
  radioIrq : U8 := 0
  /-- RESET_N pin level, and when it fell -/
  resetN : Bool := true
  resetFell : Nat := 0
  deriving DecidableEq, Repr

end Sys2Proof.Machine
end

