-- ==== Sys2Proof/Machine/TrestleTypes.lean ====
section
/-! DEFINITION. Machine/TrestleTypes.lean: the state of Viaduct links and the Trestle, as plain data. A field's docstring names the rule or table it
comes from; default values are the reset values. -/
namespace Sys2Proof.Machine
open Sys2Proof

/-! ### Viaduct links and the Trestle (chapter 6) -/

/-- The buffer blocks of each virtual channel (Table 6.3). -/
def vcBuffer : Vector Nat 5 := #v[32, 64, 512, 512, 128]

/-- LINK_SET values of one span (Table 6.15). -/
structure LinkCfg where
  linkEn : Bool := true
  timeEn : Bool := true
  w2 : U8 := 128
  w3 : U8 := 128
  /-- ASYM_PS, signed -/
  asymPs : Int := 0
  deriving DecidableEq, Repr

/-- A block waiting to be sent: its message bytes, and where a forwarded block stands in a receive buffer: the span and the
block's number there (R204, R209). -/
structure TxBlk where
  data : List U8
  src : Option (Fin 12 × Nat) := none
  deriving DecidableEq, Repr

/-- A message waiting on a virtual channel: the blocks still to be sent, and whether its first block has gone. -/
structure TxMsg where
  blocks : List TxBlk
  started : Bool := false
  /-- more blocks are still to come from this span, whose message is forwarded cut-through (R209) -/
  via : Option (Fin 12) := none
  /-- SRC and SRC_SEQ of a forwarded message -/
  key : Option (U32 × U16) := none
  /-- frame and route of the update that has left once this message has (R222) -/
  note : Option (U32 × Nat) := none
  deriving DecidableEq, Repr

/-- A message arriving on a virtual channel (R209): its bytes so far, whether this engine consumes it, and the spans on which
it is forwarded. -/
structure RxMsg where
  bytes : List U8
  take : Bool
  exits : List (Fin 12) := []
  deriving DecidableEq, Repr

/-- A block of the receive buffer that is still to be forwarded: its number, its channel, and the copies still to leave
(R204). -/
structure BufBlk where
  id : Nat
  vc : Fin 5
  copies : Nat
  deriving DecidableEq, Repr

/-- A Keystone full time with an 8-bit fraction of a ns (R212). -/
structure Stamp where
  ns : Nat := 0
  frac : U8 := 0
  deriving DecidableEq, Repr

/-- One span's link layer (R200 to R206, R212 to R214, Table 6.18). -/
structure Link where
  cfg : LinkCfg := {}
  /-- STATE of Table 6.18: 0 down, 1 training, 2 up, 3 dormant -/
  st : Nat := 0
  /-- line rate of a lane in force, Mb/s (R203) -/
  rate : Nat := 16000
  /-- the span has trained since it last went down -/
  trained : Bool := false
  /-- the peer's last HELLO -/
  peer : Option Hello := none
  /-- messages waiting, by virtual channel -/
  txq : Vector (List TxMsg) 5 := .replicate 5 []
  /-- DATA blocks sent, and FREED last heard, by virtual channel (R204) -/
  sent : Vector U16 5 := .replicate 5 0
  freedTx : Vector U16 5 := .replicate 5 0
  /-- blocks freed of this end's receive buffers -/
  freedRx : Vector U16 5 := .replicate 5 0
  creditDue : Bool := false
  ackDue : Bool := false
  nakDue : Bool := false
  timeDue : Bool := false
  helloDue : Bool := false
  creditAt : Nat := 0
  helloAt : Nat := 0
  /-- blocks waiting without credit since, by virtual channel (R205), and whether the stall was counted -/
  stall : Vector (Option Nat) 5 := .replicate 5 none
  stalled : Vector Bool 5 := .replicate 5 false
  /-- VC1: next LSEQ to send, replay buffer, blocks to send again (R206) -/
  lseq : U16 := 0
  replay : List (U16 × Block) := []
  resend : List (U16 × Block) := []
  resends : Nat := 0
  ackWait : Nat := 0
  /-- VC1: LSEQ expected, and whether a NAK was sent for the gap -/
  expect : U16 := 0
  nakSent : Bool := false
  /-- messages being received, by virtual channel -/
  rx : Vector (Option RxMsg) 5 := .replicate 5 none
  /-- messages received whole that this engine consumes, oldest first -/
  rxDone : List Msg := []
  /-- blocks of the receive buffer still to be forwarded, and the number of the next one (R204) -/
  buf : List BufBlk := []
  bufSeq : Nat := 0
  /-- DATA blocks of credit VC2 and VC3 have left in this round of the share W2 : W3 (R203) -/
  drr2 : Nat := 0
  drr3 : Nat := 0
  /-- when a codeword last passed FEC (R200) -/
  fecAt : Nat := 0
  /-- the count cycle in which the link last went down, and the CAUSE reported (R200) -/
  downAt : Option (Nat × Nat) := none
  /-- engine time at which a TIME block was last due (R212) -/
  timeAt : Option Nat := none
  /-- TIME blocks: next SEQ and stamp of the last sent; SEQ and stamp of the last received -/
  timeSeq : U16 := 0
  timeTx : Stamp := {}
  /-- stamps of the TIME blocks sent last, newest first -/
  timeSent : List (U16 × Stamp) := []
  peerSeq : U16 := 0
  peerRx : Stamp := {}
  /-- ROOT_DIST shown by the peer, and TIME blocks in a row that show less than the parent's (R214) -/
  peerDist : U16 := 0xFFFF
  lowerRun : Nat := 0
  /-- a run of hop-limit discards is in progress (R209) -/
  hopRun : Bool := false
  blocksTx : U32 := 0
  blocksRx : U32 := 0
  badBlocks : U32 := 0
  replays : U32 := 0
  naksSent : U32 := 0
  creditStalls : U32 := 0
  floodDuplicates : U32 := 0
  hopDiscards : U32 := 0
  linkDowns : U32 := 0
  linkDelayPs : U32 := 0
  deriving DecidableEq, Repr

/-- TRESTLE_SET values but for NODE_ID (Table 6.16). -/
structure TrestleCfg where
  hopLimit : U16 := 1024
  partitionWaitUs : U16 := 200
  memberTimeoutFrames : U8 := 3
  refreshFrames : U8 := 32
  outputMarginUs : U16 := 100
  creditStallUs : U16 := 100
  ackTimeoutUs : U16 := 20
  mergeEn : Bool := true
  latchRepeat : Bool := true
  routeAgeS : U16 := 10
  deriving DecidableEq, Repr

/-- Sequence state of one source and virtual channel (R209). -/
structure SeqState where
  src : U32
  vc : Nat
  last : U16
  /-- SRC_SEQ values seen within the last 256 -/
  seen : List U16
  deriving DecidableEq, Repr

/-- An entry of the learned table (R210): when it was last refreshed, and when it was learned on its span. -/
structure Learned where
  node : U32
  span : Fin 12
  hops : U16
  at_ : Nat
  since : Nat := 0
  deriving DecidableEq, Repr

/-- A message that arrived first in a count cycle: a copy of it that arrives on a lower span in the same cycle takes its place
(Table 6.14). -/
structure Arrival where
  cycle : Nat
  src : U32
  vc : Fin 5
  seq : U16
  span : Fin 12
  /-- the entry of SRC in the learned table before it -/
  before : Option Learned
  /-- the engine has consumed it -/
  used : Bool := false
  deriving DecidableEq, Repr

/-- A member heard, of this domain or another (R215, R228). -/
structure Member where
  id : U32
  /-- NODE_ID of the engine holding control -/
  holder : U32 := 0
  root : U32
  lastCommit : U32 := 0xFFFFFFFF
  gridFp : U32 := 0
  kLocal : U16 := 0
  gen : U16 := 0
  running : Bool := false
  heardAt : Nat := 0
  unconfirmed : Option Nat := none
  deriving DecidableEq, Repr

/-- A pending merge (R228). -/
structure Merge where
  survivor : U32
  absorbed : U32
  frame : U32
  gen : U16
  deriving DecidableEq, Repr

/-- What Hedgerow keeps of one destination (R221 to R223, Table 6.19). -/
structure Dest where
  /-- output lead O, ticks -/
  lead : U16 := 0
  /-- a larger lead that waits for the next frame boundary -/
  leadNext : Option U16 := none
  lower : Nat := 0
  capped : Bool := false
  needRefresh : Bool := false
  pathNs : U32 := 0
  xferNs : U32 := 0
  lastSent : Option U32 := none
  /-- last frame sent, whatever grid it was of (R541) -/
  sentEver : Option U32 := none
  lastLatched : U32 := 0xFFFFFFFF
  fullRefreshes : U32 := 0
  lateSends : U32 := 0
  lateLatches : U32 := 0
  /-- the slot values last sent, for deltas -/
  sentSlots : List U8 := []
  /-- sizes in bytes of the updates of the last REFRESH_FRAMES frames, newest first -/
  sizes : List Nat := []
  forceFull : Bool := false
  /-- the span of the learned route by which an update last went (R223) -/
  via : Option (Fin 12) := none
  /-- probe outstanding: PROBE_ID -/
  probe : Option U32 := none
  deriving DecidableEq, Repr

/-- An update of a frame still to be sent to a span receiver: the frame, its route, the instant P + λ - σ(O) by which updates go
out, and whether it is packed (R222). -/
structure SendSlot where
  frame : U32
  route : Nat
  at_ : Int
  ready : Bool := false
  deriving DecidableEq, Repr

/-- A packed update that waits for its instant or its receiver (R222, R376). -/
structure Packed where
  frame : U32
  route : Nat
  /-- slot values, one byte each -/
  slots : List U8
  /-- the slot values as rendered, with no house override (R97) -/
  rendered : List U8 := []
  deriving DecidableEq, Repr

/-- The Trestle as one engine keeps it (R207 to R229). -/
structure Trestle where
  cfg : TrestleCfg := {}
  nodeId : U32 := 0
  /-- SRC_SEQ of the next message, by virtual channel -/
  ownSeq : Vector U16 5 := .replicate 5 0
  seqs : List SeqState := []
  learned : List Learned := []
  /-- first arrivals of the count cycle in progress (Table 6.14) -/
  arrivals : List Arrival := []
  /-- members heard, of whatever root -/
  heard : List Member := []
  root : U32 := 0
  gen : U16 := 0
  timeParent : Option (Fin 12) := none
  rootDist : U16 := 0xFFFF
  /-- REPORTs: frame, member, full time of t_done (R217) -/
  reports : List (U32 × U32 × Nat) := []
  /-- frames this engine committed and the root it followed then (R219), newest first -/
  committedUnder : List (U32 × U32) := []
  /-- last frame committed, and latched, whatever grid it was of (R541) -/
  committedEver : Option U32 := none
  latchedEver : Option U32 := none
  merges : List Merge := []
  /-- merges of other domains that are announced and not yet past: their absorbed roots may not absorb (R228, Table 6.14) -/
  elsewhere : List Merge := []
  /-- roots whose LATCH has been heard since the grid last started (R228) -/
  latchRoots : List U32 := []
  /-- the other members as they stood at the start of the run (R218) -/
  startSet : List Member := []
  /-- frames passed over whose LATCH was not received (R220) -/
  missed : List U32 := []
  /-- roots of other domains with which a merge was refused since the last link-up (R228) -/
  refused : List U32 := []
  /-- roots whose domains this one has taken the place of since the last link-up: records of their members still in
  flight count for this domain (R216, R228) -/
  absorbed : List U32 := []
  /-- LATCHes heard of the root being absorbed: frame and slip (R218, R229) -/
  absorbedLatch : List (U32 × Nat) := []
  /-- the LATCHes due a second copy, oldest first: frame, payload and engine time of the first copy (R218) -/
  latchCopy : List (U32 × List U8 × Nat) := []
  /-- frames whose LATCH this engine received or issued, with P_SHORT, newest first -/
  latches : List (U32 × U32) := []
  /-- full time at which each recent LATCH was received or issued (R285) -/
  latchAt : List (U32 × Nat) := []
  dests : Tab Dest := []
  packed : List Packed := []
  /-- updates of committed frames still to be sent, earliest instant first (R222) -/
  sends : List SendSlot := []
  /-- the last frame whose last value Hedgerow has read from current (R83) -/
  released : Option U32 := none
  probeSeq : U32 := 0
  /-- engine time of the last path measurement (R221) -/
  probeAt : Nat := 0
  /-- the issuer of E066's last record (Table 6.20) -/
  issuer : U32 := 0
  /-- a link-up was heard and MEMBER records of another root count as seen (R228) -/
  sawLinkUp : Bool := false
  /-- K_LOCAL of this engine (R217) -/
  kLocal : U16 := 0
  deriving DecidableEq, Repr

end Sys2Proof.Machine
end

