-- ==== Sys2Proof/Machine/State.lean ====
section
/-! DEFINITION. Machine/State.lean: every piece of state the spec gives the engine, as plain data, and the
machine right after reset. A field's docstring names the rule or table it comes from. Default values are the
reset values: the tables' defaults where the spec gives them; the assumption log names the others. -/
namespace Sys2Proof.Machine
open Sys2Proof

/-! ### The machine -/

/-- The reasons a command can stop with a fault. No meaning of this model ends in a fault: every value the
spec leaves open is a free value, and every address an access can name exists or is handled by a status. -/
inductive Fault where
  /-- never raised; it stands so that the type has a value -/
  | none
  deriving DecidableEq, Repr

/-- The reasons a command is not carried out. -/
inductive Refusal where
  /-- raised by an arm of `exec` whose command has no meaning yet; safe, since nothing is claimed of it -/
  | notModelled (mnemonic : String)
  deriving DecidableEq, Repr

/-- The engine: every register, table, queue, counter, mode and pin the spec gives it, and the queue of the
commands that wait. -/
structure State where
  /-- commands that wait, first in first out -/
  pending : List Instr := []
  ks : Keystone := {}
  grid : Grid := {}
  /-- compare slots KT000 to KT255 (R53) -/
  slots : Tab KtSlot := []
  tc : Timecode := {}
  mb : Mailboxes := {}
  sys : Sys := {}
  pwr : Power := {}
  sh : Show := {}
  sched : Sched := {}
  fix : Fix := {}
  deck : Deck := {}
  ingest : Vector Ingest 8 := .replicate 8 {}
  raster : Vector Raster 4 := .replicate 4 {}
  /-- SP0 to SP11: the link layer -/
  links : Vector Link 12 := .replicate 12 {}
  /-- SP0 to SP11: lanes, training, calibration and sleep -/
  spans : Vector Span 12 := .replicate 12 {}
  tre : Trestle := {}
  pier : Pier := {}
  ports : Ports := {}
  net : Net := {}
  radio : RadioMac := {}
  box : Box := {}
  flash : Flash := {}
  /-- the model's record of what the engine sent, oldest first -/
  out : List Out := []
  /-- the model's own counter of free values drawn -/
  fresh : Nat := 0
  deriving DecidableEq, Repr

/-- The machine right after reset. -/
def State.reset : State := {}

end Sys2Proof.Machine
end

