-- ==== Sys2Proof/Machine/Ops.lean ====
section
/-! DEFINITION. Machine/Ops.lean: the operations every chapter shares: time passing, Keystone time, timers,
raising an event, answering a host message. -/
namespace Sys2Proof.Machine
open Sys2Proof

/-! ### Keystone time (R20 to R26) -/

/-- COUNT of R24: the 4 ns cycles of the 250 MHz clock since reset, a counter of 64 bits. -/
def Keystone.count (k : Keystone) : U64 := BitVec.ofNat 64 (k.ns / 4)

/-- Keystone time at count value `c` in the compatibility model, in units of 2^-40 ns (R24). -/
def Keystone.compatAt (k : Keystone) (c : U64) : Int := (k.offset : Int) * 2 ^ 40 + (c - k.base).toNat * (4 * 2 ^ 40 + k.rate)

/-- The full time F of R20, in ns; in the compatibility model as R24 computes it. -/
def Keystone.full (k : Keystone) : Nat :=
  if k.compat then (k.compatAt k.count / 2 ^ 40).toNat
  else k.sec * 1000000000 + k.nsec

/-- SUBNS: the upper 16 bits of the 40-bit fraction (R20, R22). -/
def Keystone.subns (k : Keystone) : Nat :=
  if k.compat then (k.compatAt k.count % 2 ^ 40 / 2 ^ 24).toNat
  else k.frac / 2 ^ 24

/-- R22: `c` count cycles of the native clock. The nanosecond count carries into SECONDS at 10^9. -/
def Keystone.addCycles (k : Keystone) (c : Nat) : Keystone :=
  let acc := k.nsec * 2 ^ 40 + k.frac + c * k.inc
  let ns := acc / 2 ^ 40
  { k with sec := (k.sec + ns / 1000000000) % 2 ^ 48, nsec := ns % 1000000000, frac := acc % 2 ^ 40 }

/-- `dt` ns of the 250 MHz clock pass. -/
def Keystone.elapse (k : Keystone) (dt : Nat) : Keystone :=
  let k' := k.addCycles ((k.ns + dt) / 4 - k.ns / 4)
  { k' with ns := k.ns + dt }

/-- `dt` ns pass: only Keystone's clock moves. -/
def State.elapse (s : State) (dt : Nat) : State := { s with ks := s.ks.elapse dt }

/-- The full time F (R20). -/
def State.full (s : State) : Nat := s.ks.full

/-- Short time: F mod 2^32 (R21). -/
def State.short (s : State) : U32 := BitVec.ofNat 32 s.full

/-- ns since reset, the base of every interval the engine measures. -/
def State.now (s : State) : Nat := s.ks.ns

/-! ### Contention (R8, R9) -/

/-- R8 and R9: the lowest-numbered requester wins, but one that has lost 16 times in a row is promoted above all. -/
def arbitrate (reqs : List Nat) (loss : Nat → Nat) : Option Nat :=
  match reqs.find? (fun r => decide (16 ≤ loss r)) with
  | some r => some r
  | none => reqs.head?

/-! ### Observation intervals (R6) -/

/-- A timer kept in hardware: the deadline `dl` (ns since reset) has passed and so has its count cycle. -/
def State.cycExpired (s : State) (dl : Nat) : Bool := decide ((dl / 4 + 1) * 4 ≤ s.now)

/-- A timer kept by firmware: the deadline `dl` has passed and so has the evaluation step of 1 us, begun at a
full time that is a multiple of 1,000 ns, in which it fell (R6). -/
def State.fwExpired (s : State) (dl : Nat) : Bool :=
  decide (dl ≤ s.now) && decide (((s.full - (s.now - dl)) / 1000 + 1) * 1000 ≤ s.full)

/-- A timer of the scheduler: the deadline `dl` has passed and so has its scheduler cycle of 1 ns (R6). -/
def State.schedExpired (s : State) (dl : Nat) : Bool := decide (dl + 1 ≤ s.now)

/-! ### Free values -/

/-- Draw a free value: the state with the counter moved on. -/
def State.draw (s : State) : State := { s with fresh := s.fresh + 1 }

/-- Add to the record of what the engine sent. -/
def State.emit (s : State) (o : Out) : State := { s with out := s.out ++ [o] }

/-! ### Events (R462 to R465) -/

/-- The class of an event (R464). -/
def eventClass (e : Nat) : Nat := e / 16

/-- Records the ring holds: 64 in W0, or ENTRIES in host memory (R462). -/
def Events.size (v : Events) : Nat := if v.cfg.ringHost then v.cfg.entries.toNat else 64

/-- Unread records. -/
def Events.fill (v : Events) : Nat := (v.tail - v.head).toNat

/-- The event record of Table 13.8. -/
def eventRecord (e : Nat) (lost : Bool) (seq : U16) (frame short : U32) (data : List U8) : List U8 :=
  pack 16 [fN 0 1 e, fB 1 0 lost, f16 2 seq, f32 4 frame, f32 8 short] ++ bytesAt data 0 16

/-- Signal an MSI-X vector, or set its pending bit while its mask bit is set, as PCI Express defines (R437). -/
def State.msix (s : State) (v : Nat) : State :=
  if s.mb.msixMask.getLsbD v then { s with mb.msixPend := s.mb.msixPend ||| BitVec.ofNat 8 (2 ^ v) }
  else s.emit (.msix v)

/-- Signal the event vector, at most once per IRQ_US (R465). -/
def State.signalEvents (s : State) : State :=
  let v := s.mb.ev
  let due := match v.irqLast with
    | none => true
    | some t => decide (t + v.cfg.irqUs.toNat * 1000 ≤ s.now)
  if due then
    State.msix { s with mb.ev.irqPend := false, mb.ev.irqLast := some s.now } v.cfg.vector.toNat
  else { s with mb.ev.irqPend := true }

/-- Put a record into place `i` of the ring, in host memory or in W0 (R462). -/
def State.storeRecord (s : State) (i : U16) (r : List U8) : State :=
  let v := s.mb.ev
  if v.cfg.ringHost then s.emit (.dmaWrite (v.cfg.base.toNat + 32 * (i.toNat % v.size)) r)
  else { s with mb.w0 := s.mb.w0.writes 0 (0x1800 + 32 * (i.toNat % 64)) r }

/-- How many unread records, all written in count cycle `c`, stand after the place of an event of number `e` raised in it: those
of greater numbers (R463). The first record after a loss keeps its place. -/
def Events.after (v : Events) (c e : Nat) : Nat :=
  if v.cycle = c ∧ v.lostPend = false then
    ((v.unread.reverse.take v.inCycle).takeWhile fun x => decide (e < x.1) && !pbit x.2 1 0).length
  else 0

/-- A record one place later: its SEQ is one greater. -/
def laterRecord (r : List U8) : List U8 := r.take 2 ++ le 2 (rd r 2 2 + 1) ++ r.drop 4

/-- Write an event record into the ring, or count it lost (R462, R463): after the records of earlier count cycles, and among those
of this one in ascending event number. -/
def State.writeEvent (s : State) (e : Nat) (data : List U8) : State :=
  let v := s.mb.ev
  let c := s.now / 4
  if v.cfg.mask.getLsbD e = false then s
  else if v.size ≤ v.fill then
    { s with mb.ev := { v with
        lost := v.lost.inc, lostPend := true, refusedAt := c
        refused := (if v.refusedAt = c then v.refused else []) ++ [(e, data)]
        pendBefore := if v.refusedAt = c ∧ v.refused ≠ [] then v.pendBefore else v.lostPend } }
  else
    let j := v.after c e
    let r := eventRecord e v.lostPend (v.seq - BitVec.ofNat 16 j) (lastFrame s.grid.frame) s.short data
    let run := (e, r) :: (v.unread.drop (v.unread.length - j)).map fun x => (x.1, laterRecord x.2)
    let s := { s with mb.ev := { v with
      tail := v.tail + 1, seq := v.seq + 1, lostPend := false, cycle := c
      inCycle := (if v.cycle = c then v.inCycle else 0) + 1
      unread := v.unread.take (v.unread.length - j) ++ run } }
    let s := run.zipIdx.foldl (fun (s : State) x => s.storeRecord (v.tail - BitVec.ofNat 16 j + BitVec.ofNat 16 x.2) x.1.2) s
    if v.cfg.irqClasses.getLsbD (eventClass e) && !s.mb.spi then s.signalEvents else s

/-- Raise event `e` with DATA. Events raised before the engine is ready are written after E000 (R497). -/
def State.raise (s : State) (e : Nat) (data : List U8) : State :=
  if s.mb.engine = 2 then s.writeEvent e data
  else { s with mb.ev.early := s.mb.ev.early ++ [(e, data)] }

/-- The newest unread record of event `e` whose DATA begin as `a`, and that was raised in this count cycle, reports `b` there
instead: of causes detected in one cycle the event carries one (R200). -/
def State.amend (s : State) (e : Nat) (a b : List U8) : State :=
  let put := fun (d : List U8) => b ++ d.drop b.length
  if s.mb.engine = 2 then
    match s.mb.ev.unread.reverse.findIdx? fun x => x.1 == e && (x.2.drop 16).take a.length == a with
    | none => s
    | some j =>
      let i := s.mb.ev.unread.length - 1 - j
      let r := (s.mb.ev.unread.getD i (0, [])).2
      let r := r.take 16 ++ put (r.drop 16)
      let s := { s with mb.ev := { s.mb.ev with unread := s.mb.ev.unread.set i (e, r) } }
      s.storeRecord (s.mb.ev.tail - BitVec.ofNat 16 (j + 1)) r
  else
    match s.mb.ev.early.reverse.findIdx? fun x => x.1 == e && x.2.take a.length == a with
    | none => s
    | some j =>
      let i := s.mb.ev.early.length - 1 - j
      { s with mb.ev.early := s.mb.ev.early.set i (e, put (s.mb.ev.early.getD i (0, [])).2) }

/-- Raise event `e` with the DATA fields given. -/
def State.raiseF (s : State) (e : Nat) (fs : List Fld) : State := s.raise e (pack 16 fs)

/-- Raise event `e` if `c` holds. -/
def State.raiseIf (s : State) (c : Bool) (e : Nat) (fs : List Fld) : State := if c then s.raiseF e fs else s

/-- EVENT_N is asserted: an unread record of a class in PIN_CLASSES, or an unread response on a channel with
RSP_PIN; held low in secure hold, high impedance until ready (R465, Table 12.9). -/
def State.eventNAsserted (s : State) : Bool :=
  s.mb.engine == 3 ||
  (s.mb.engine == 2 &&
    (s.mb.ev.unread.any (fun r => s.mb.ev.cfg.pinClasses.getLsbD (eventClass r.1)) ||
     s.mb.ch.toList.any (fun c => c.rspPin && c.rspTail != c.rspHead)))

/-! ### Host messages (R13, R442 to R475) -/

/-- What a host command did: the state after it, the response's payload and status, and what is to happen once
the response is written. -/
structure Done where
  st : State
  data : List U8 := []
  status : Status := .ok
  post : Option (Nat × List U8) := none
  /-- the response is not ready: RELAY waits for the reply (R460) -/
  wait : Bool := false

/-- Place a response on channel `c`; it is written by RESPONSE_WRITE (R445). -/
def State.respond (s : State) (c : Fin 8) (op : Nat) (tag : U32) (status : Status) (data : List U8)
    (post : Option (Nat × List U8)) : State :=
  let ch := s.mb.ch[c]
  let v : Svc := ch.svc.getD { op := BitVec.ofNat 16 op, tag := tag, taken := s.short }
  let r : Rsp := { op := BitVec.ofNat 16 op, status := status.code, tag := tag, taken := v.taken, keyId := v.keyId,
                   counter := v.counter, data := data, post := post, via := v.via }
  let bad := if status = .badLength then ch.badLength.inc else ch.badLength
  { s with mb.ch := s.mb.ch.set c { ch with svc := none, rsp := some r, lastRsp := some r, badLength := bad } }

/-- The request in service is the command `q` of opcode `op`: the same opcode, TAG and payload. -/
def Svc.carries (v : Svc) (op : Nat) (q : Req) : Bool :=
  v.op == BitVec.ofNat 16 op && v.tag == q.tag && v.bulk == q.bulk && v.payload == q.payload && !v.waits

/-- The request taken up on the command's channel, and so past the checks of R13, is this command and waits to be carried
out (R443). -/
def State.asked (s : State) (op : Nat) (q : Req) : Bool := s.mb.ch[q.ch].svc.any fun v => v.carries op q

/-- The request of channel `c` was carried out; its response is still to come. -/
def State.waitOn (s : State) (c : Fin 8) : State :=
  let ch := s.mb.ch[c]
  { s with mb.ch := s.mb.ch.set c { ch with svc := ch.svc.map fun v => { v with waits := true } } }

/-- Carry out a host command of opcode `op` whose payload needs `need` bytes (R475 step 1). A status other than
ST_OK, ST_NEED_SECOND_OFFICER or ST_FAULT leaves no effect (R474): the body gives it in place of a state. While the
engine boots, and in secure hold, no message is answered; the recovery ROM and venue standby serve the opcodes of R473
and R495 only. A command that is not the request taken up on its channel, because R13 turned it away or because it never
came, has no effect; one that a tamper aborted answers ST_FAULT (Table 12.9). -/
def serve (op need : Nat) (q : Req) (s₀ : State) (body : State → Except Status Done) : State :=
  let s := s₀.elapse q.dt
  if (s.mb.engine = 2 ∨ s.mb.engine = 1) ∧ s.asked op q = true then
    if s.mb.engine = 1 ∧ servedInRecovery op = false then s.respond q.ch op q.tag .notReady [] none
    else if q.payload.length < need then s.respond q.ch op q.tag .badLength [] none
    else if s.pwr.mode = .standby ∧ servedInStandby op = false then s.respond q.ch op q.tag .notReady [] none
    else if s.mb.ch[q.ch].svc.any (·.abort) then s.respond q.ch op q.tag .fault [] none
    else match body s with
      | .error e => s.respond q.ch op q.tag e [] none
      | .ok d => if d.wait then d.st.waitOn q.ch else d.st.respond q.ch op q.tag d.status d.data d.post
  else s

/-- The last response placed on a channel. -/
def State.response (s : State) (c : Fin 8) : Option Rsp := s.mb.ch[c].lastRsp

/-- Remember the last payload accepted of a stored command (R479), by opcode and index. -/
def State.remember (s : State) (op idx : Nat) (pl : List U8) : State :=
  { s with mb.accepted := s.mb.accepted.set [] (op * 65536 + idx) pl }

/-- A setting that takes effect at the next frame boundary (R15): remembered, and queued. -/
def State.defer (s : State) (op idx : Nat) (pl : List U8) : State :=
  let s := s.remember op idx pl
  { s with mb.atBoundary := s.mb.atBoundary ++ [(op, pl)] }

/-- Every condition on a payload's fields holds: else ST_DENIED (R475). -/
def require (c : Bool) (e : Status) (k : Except Status Done) : Except Status Done := if c then k else .error e

/-- A field lies in a range. -/
def inRange (lo hi x : Nat) : Bool := decide (lo ≤ x) && decide (x ≤ hi)

/-- A read command's answer: data and no effect. -/
def answer (s : State) (data : List U8) : Except Status Done := .ok { st := s, data := data }

/-- A command carried out without data. -/
def done (s : State) : Except Status Done := .ok { st := s }

/-! ### Bulk data (R444, R452, R453) -/

/-- The bytes of payload a command with a bulk form needs: its fixed part and `count` bytes inline, or its fixed
part and the 16-byte descriptor with BULK set (R475). -/
def needBulk (q : Req) (fixed count : Nat) : Nat := if q.bulk then fixed + 16 else fixed + count

/-- R453: whether the descriptor at `off` of the payload is accepted on the channel that carries it. SPACE 0 only on
a channel bound to PCIe, SPACE 1 on the primary transport; a region past W2 is denied. -/
def bulkDenied (q : Req) (off n : Nat) (s : State) : Bool :=
  let bind := s.mb.ch[q.ch].bind
  if bind = 2 then false
  else if bind ≠ 0 then true
  else if pbit q.payload (off + 12) 0 then decide (0x400000 < rd q.payload off 8 + n)
  else s.mb.spi

/-- The bytes a command was given: inline from `off`, or the `n` bytes its bulk descriptor at `off` names; `none`
where the transfer faulted (R440). Relayed data stands in the stream whose STREAM_ID is TAG (R460). -/
def bulkBytes (q : Req) (off n : Nat) (s : State) : Option (List U8) :=
  if q.bulk then
    if s.mb.ch[q.ch].bind = 2 then some (bytesAt (s.mb.rxStreams.get {} q.tag.toNat).bytes 0 n)
    else if pbit q.payload (off + 12) 0 then some (s.mb.w2.reads 0 (rd q.payload off 8) n)
    else q.host.map fun b => bytesAt b 0 n
  else some (bytesAt q.payload off n)

/-- A DMA fault: counted, and E006 at the start of a run, with the user, channel or port, and address (R440). -/
def State.dmaFault (s : State) (user idx : Nat) (addr : Nat) : State :=
  let s' := { s with mb.dmaFaults := s.mb.dmaFaults.inc, mb.dmaRun := true }
  s'.raiseIf (!s.mb.dmaRun) 6 [fN 0 1 user, fN 1 1 idx, fN 8 8 addr]

end Sys2Proof.Machine
end

