-- ==== Sys2Proof/Machine/GridTime.lean ====
section
/-! DEFINITION. Machine/GridTime.lean: the arithmetic of the frame grid (R38 to R50): presentation times, the slip
function, cut-off, render start, ticks. Every product is evaluated exactly. -/
namespace Sys2Proof.Machine
open Sys2Proof

/-- The denominator N, never zero in a division. -/
def GridVals.den (v : GridVals) : Nat := max v.n.toNat 1

/-- R41: sigma(k) = floor(k x 10^9 x D / (256 x N)) ns; for a negative k likewise. -/
def GridVals.sigma (v : GridVals) (k : Int) : Int := k * 1000000000 * v.d.toNat / (256 * v.den : Nat)

/-- R38: the frame period, rounded down to a ns. -/
def GridVals.period (v : GridVals) : Nat := 1000000000 * v.d.toNat / v.den

/-- P at a signed distance from n0: render starts of the first L frames (R43). -/
def GridVals.pSigned (v : GridVals) (dist : Int) : Int :=
  v.e + dist * 1000000000 * v.d.toNat / (v.den : Nat)

/-- R39: P(n), with n - n0 the unsigned 32-bit distance. A frame from before a move of the epoch (R40) keeps its
presentation time. -/
def GridVals.p (v : GridVals) (n : U32) : Int :=
  if v.moved ∧ sdiff32 n v.n0 < 0 then v.pSigned (sdiff32 n v.n0)
  else v.e + ((n - v.n0).toNat * 1000000000 * v.d.toNat / v.den : Nat)

/-- The slip listed for frame `m`; 0 where none is listed. -/
def slipIn (l : List (U32 × Nat)) (m : U32) : Nat :=
  match l.find? (fun e => e.1 == m) with
  | some e => e.2
  | none => 0

/-- The slip of frame `m` as latched, else as the engine itself determined it (R48, R50). -/
def Grid.slipOf (g : Grid) (m : U32) : Nat :=
  match g.latched.find? (fun e => e.1 == m) with
  | some e => e.2
  | none => slipIn g.ownSlip m

/-- Frame `m` is the first of the run, so that no slip is carried into it: it is n0, and n0 is not a presented frame to which
the epoch was moved (R40, R47). -/
def Grid.startsAt (g : Grid) (m : U32) : Bool := m == g.v.n0 && g.prev.isNone && !g.v.moved

/-- An accepted change has reached frame `m`: some frame at or after its APPLY_FRAME, not before the next to be presented,
and at or before `m`, has a carried slip of zero (R66). A slip not yet known counts as zero. -/
def Grid.changed (g : Grid) (m a : U32) : Bool :=
  let f := if 0 ≤ sdiff32 g.nextPresent a then g.nextPresent else a
  let n := sdiff32 m f
  decide (0 ≤ n) && (List.range (min n.toNat 16 + 1)).any fun i =>
    let x := f + BitVec.ofNat 32 i
    g.startsAt x || decide (g.slipOf (x - 1) ≤ g.v.q.toNat)

/-- The grid values that frame `m` stands under (R66). -/
def Grid.vals (g : Grid) (m : U32) : GridVals :=
  let old := match g.prev with
    | some o => if sdiff32 m o.2 < 0 then o.1 else g.v
    | none => g.v
  match g.change with
  | some c => if g.changed m c.2 then c.1 else old
  | none => old

/-- P(m) under the grid of frame `m`. -/
def Grid.p (g : Grid) (m : U32) : Int := (g.vals m).p m

/-- K of frame `m`: from the first frame of a swap on, that of the new image's compensations (R45, R78). -/
def Grid.kOf (g : Grid) (m : U32) : U16 :=
  match g.kFrom with
  | some e => if 0 ≤ sdiff32 m e.1 then e.2 else g.k
  | none => g.k

/-- R45: C(m) = P(m) - sigma(K). K is read as a signed value (log entry 113). -/
def Grid.cutoff (g : Grid) (m : U32) : Int := g.p m - (g.vals m).sigma (g.kOf m).toInt

/-- R49: P'(m) = P(m) + sigma(s(m)). -/
def Grid.p' (g : Grid) (m : U32) : Int := g.p m + (g.vals m).sigma (g.slipOf m)

/-- Whether frame `m` precedes n0 (the unsigned distance of R39 taken as signed). -/
def Grid.before (g : Grid) (m : U32) : Bool := !(g.vals m).moved && decide (sdiff32 m (g.vals m).n0 < 0)

/-- R43: S(m) = P'(m - L); for the first L frames after a start, from the epoch without slip. -/
def Grid.s (g : Grid) (m : U32) : Int :=
  let v := g.vals m
  let m' := m - BitVec.ofNat 32 v.l.toNat
  if g.before m' then (g.vals m').pSigned (sdiff32 m' (g.vals m').n0) else g.p' m'

/-- S(m) is known: frame m - L lies before n0, or its slip is settled, since its LATCH was issued or received (R43, R50). -/
def Grid.startKnown (g : Grid) (m : U32) : Bool :=
  let base := m - BitVec.ofNat 32 (g.vals m).l.toNat
  g.before base || decide (sdiff32 base g.nextLatch < 0)

/-- R47: the carried slip c(m) = max(0, s(m - 1) - q). -/
def Grid.carried (g : Grid) (m : U32) : Nat :=
  if g.startsAt m then 0 else g.slipOf (m - 1) - (g.vals m).q.toNat

/-- The least k with k x 10^9 x D / (256 x N) >= t: the ticks an interval of `t` ns spans, rounded up. -/
def GridVals.ticksUp (v : GridVals) (t : Int) : Int :=
  -(-(t * (256 * v.den : Nat)) / (1000000000 * max v.d.toNat 1 : Nat))

/-- The smallest slip, a multiple of q at least `c`, whose slipped cut-off is at or after `t` (R48), in closed form. -/
def Grid.slipAt (g : Grid) (m : U32) (c : Nat) (t : Int) : Nat :=
  let v := g.vals m
  if t ≤ g.cutoff m + v.sigma c then c
  else
    let q := max v.q.toNat 1
    -- sigma(k) >= u exactly when k x 10^9 x D / (256 x N) >= u
    q * ceilDiv (v.ticksUp (t - g.cutoff m)).toNat q

/-- Presentation time nearest an instant `t` (R28). -/
def GridVals.pNear (v : GridVals) (t : Int) : Int :=
  let T := 1000000000 * max v.d.toNat 1
  let k := ((t - v.e) * v.den * 2 + T) / (2 * T)
  v.pSigned k

/-- The full time at which frame `cur + 1` begins, in a running grid. -/
def Grid.nextFrameAt (g : Grid) : Option Int :=
  if g.st = 2 then g.cur.map fun m => g.p (m + 1) else none

/-- The full time at which the next tick begins: tick k of frame m at P(m) + sigma(k) (R41); in a stopped or waiting
grid, at the multiples counted from the base (R42). -/
def Grid.nextTickAt (g : Grid) : Int :=
  let t := g.tickBase + g.tv.sigma (g.tickIdx + 1)
  match g.nextFrameAt with
  | none => t
  | some b => if 255 ≤ g.tickIdx then b else min t b

/-- The next tick begins; TICK_COUNT counts every boundary that falls (R42, R119). -/
def Grid.beginTick (g : Grid) : Grid :=
  let tc := g.tickCount + 1
  match g.cur, g.nextFrameAt with
  | some m, some b =>
    if g.nextTickAt = b then
      { g with cur := some (m + 1), tickBase := b, tickIdx := 0, tick := 0, tv := g.vals (m + 1), tickCount := tc, fbDue := true,
               memberDue := true }
    else { g with tickIdx := g.tickIdx + 1, tick := ((g.tickIdx + 1) % 256).toNat, tickCount := tc }
  | _, _ =>
    let i := g.tickIdx + 1
    { g with tickIdx := i, tick := (i % 256).toNat, tickCount := tc, fbDue := g.fbDue || i % 256 == 0,
             memberDue := g.memberDue || i % 256 == 0 }

/-- Ticks of the grid at full time `t`, counted from the base (R41): the largest k with sigma(k) <= t - base. -/
def Grid.tickIdxAt (g : Grid) (t : Int) : Int := g.tv.ticksUp (t - g.tickBase + 1) - 1

/-- The grid is stopped (GRID_STATE 0). -/
def Grid.stopped (g : Grid) : Bool := g.st == 0

/-- Whether the tick in which a deadline fell has ended (R6, R30): `dl` in ns since reset. -/
def State.tickExpired (s : State) (dl : Nat) : Bool :=
  decide (dl ≤ s.now) &&
  decide (s.grid.tickIdxAt ((s.full : Int) - (s.now - dl : Nat)) < s.grid.tickIdxAt s.full)

/-- The last presented frame's fields, as many responses give them (R541). -/
def Grid.lastFrameNo (g : Grid) : U32 := lastFrame g.frame

/-- ns in `k` ticks. -/
def Grid.ticksNs (g : Grid) (k : Nat) : Nat := (g.v.sigma k).toNat

/-- The frame that a start of a frame instant falls in, for records: the frame whose period is in progress. -/
def Grid.curFrame (g : Grid) : U32 := lastFrame g.cur

end Sys2Proof.Machine
end

