-- ==== Sys2Proof/Machine/Crc.lean ====
section
/-! DEFINITION. Machine/Crc.lean: the two cyclic redundancy checks the spec names: CRC-32 of IEEE 802.3 and the
CRC-64 of R380. -/
namespace Sys2Proof

/-- One bit of a reflected CRC of `w` bits with reflected polynomial `poly`. -/
def crcBit {w : Nat} (poly c : BitVec w) : BitVec w :=
  if c.getLsbD 0 then (c >>> 1) ^^^ poly else c >>> 1

/-- Eight bits of a reflected CRC: one byte of data. -/
def crcByte {w : Nat} (poly c : BitVec w) (b : U8) : BitVec w :=
  (List.range 8).foldl (fun c _ => crcBit poly c) (c ^^^ b.setWidth w)

/-- CRC-32 of IEEE 802.3: initial value and final XOR all ones, reflected. -/
def crc32 (bs : List U8) : U32 := ~~~(bs.foldl (crcByte 0xEDB88320#32) 0xFFFFFFFF#32)

/-- CRC-64 of R380: polynomial 0x42F0_E1EB_A9EA_3693, initial value and final XOR all ones, reflected. -/
def crc64 (bs : List U8) : U64 := ~~~(bs.foldl (crcByte 0xC96C5795D7870F42#64) 0xFFFFFFFFFFFFFFFF#64)

end Sys2Proof
end

