-- ==== Sys2Proof/Machine/Wire.lean ====
section
/-! DEFINITION. Machine/Wire.lean: the bytes of a Viaduct message and the virtual channel that carries it (Tables
6.4 and 6.5). -/
namespace Sys2Proof

/-- The virtual channel of a message type (Table 6.5). -/
def vcOf (t : U16) : Fin 5 :=
  let n := t.toNat
  if n ≤ 0x0F then 0
  else if n = 0x20 ∨ n = 0x21 then 2
  else if n = 0x30 ∨ n = 0x31 then 3
  else if n = 0x70 then 4
  else 1

/-- The bytes of a message: the header of Table 6.4 and the payload, big-endian. -/
def Msg.bytes (m : Msg) : List U8 :=
  be 4 m.dest.toNat ++ be 4 m.src.toNat ++ be 2 m.type.toNat ++ be 2 m.payload.length ++ be 2 m.hops.toNat ++
  be 2 m.seq.toNat ++ m.payload

/-- The message a byte string spells (Table 6.4). -/
def Msg.parse (b : List U8) : Msg :=
  { dest := BitVec.ofNat 32 (rdBE b 0 4), src := BitVec.ofNat 32 (rdBE b 4 4), type := BitVec.ofNat 16 (rdBE b 8 2),
    hops := BitVec.ofNat 16 (rdBE b 12 2), seq := BitVec.ofNat 16 (rdBE b 14 2),
    payload := bytesAt b 16 (rdBE b 10 2) }

end Sys2Proof
end

