-- ==== Sys2Proof/Machine/Messages.lean ====
section
/-! DEFINITION. Machine/Messages.lean: Viaduct messages: sending, flooding and forwarding (R207 to R211), the
MEMBER record, and who holds control of the member. -/
namespace Sys2Proof.Machine
open Sys2Proof

/-! ### Identity and control -/

/-- The engine holds control of its member (Table 11.6; an engine alone does). -/
def State.holds (s : State) : Bool := s.pier.st == 0 || s.pier.st == 2 || s.pier.st == 3 || s.pier.st == 4

/-- The engine has ceased to send: a strict tamper response or an orderly thermal stop has run its course (R427, R510). -/
def State.quiet (s : State) : Bool := s.box.strict == 2 || s.pwr.thermal.silent

/-- The DECK self-test runs (R482). -/
def State.deckTest (s : State) : Bool := match s.sys.selfTest with
  | some t => t.tests.getLsbD 0
  | none => false

/-- The engine holds control for frame `m`: in a planned handover the outgoing engine does before M, the incoming one
from M (R394). -/
def State.holdsFrame (s : State) (m : U32) : Bool :=
  match s.pier.pend with
  | some h => if h.outgoing then decide (sdiff32 m h.frame < 0) else s.holds || (h.sent && decide (0 ≤ sdiff32 m h.frame))
  | none => s.holds

/-- The member ID: the NODE_ID, or for a pair the NODE_ID of its role A engine (R208, R374). -/
def State.memberId (s : State) : U32 :=
  if s.pier.cfg.enable && s.pier.cfg.roleB then s.pier.cfg.partnerId else s.tre.nodeId

/-- ROOT_ID the engine follows; with no other member heard, its own member ID (R216). -/
def State.rootId (s : State) : U32 := if s.tre.root = 0 then s.memberId else s.tre.root

/-- The root the engine follows for frame `m`: from MERGE_FRAME on, an absorbed engine follows the survivor (R229). -/
def State.rootFor (s : State) (m : U32) : U32 :=
  match s.tre.merges.find? fun g => g.absorbed == s.rootId && decide (0 ≤ sdiff32 m g.frame) with
  | some g => g.survivor
  | none => s.rootId

/-- The root under which this engine committed a frame. -/
def State.committedRoot (s : State) (m : U32) : Option U32 := (s.tre.committedUnder.find? (·.1 == m)).map (·.2)

/-- The other members of the engine's domain (R215). -/
def State.others (s : State) : List Member :=
  s.tre.heard.filter fun m => m.root == s.rootId && m.id != s.memberId

/-- Members of the domain, this one included (R215). -/
def State.memberIds (s : State) : List U32 := s.memberId :: s.others.map (·.id)

/-- The engine is the issuer: it holds control of the root (R216). -/
def State.isIssuer (s : State) : Bool := s.holds && s.rootId == s.memberId

/-- GRID_FP: CRC-32 over N, D, E, n0 and q, big-endian (R228). -/
def GridVals.print (v : GridVals) : U32 :=
  crc32 (be 4 v.n.toNat ++ be 4 v.d.toNat ++ be 8 v.e ++ be 4 v.n0.toNat ++ be 1 v.q.toNat)

/-- The grid is waiting or running: RUNNING of a MEMBER record (Table 6.5). -/
def State.running (s : State) : Bool := s.grid.st != 0

/-- The last frame this engine committed in this run of the grid. -/
def State.runCommit (s : State) : U32 :=
  match s.tre.committedUnder with
  | [] => 0xFFFFFFFF#32
  | e :: _ => e.1

/-- The last frame this engine committed (R541). -/
def State.lastCommit (s : State) : U32 := lastFrame s.tre.committedEver

/-- The last frame latched in this run of the grid. -/
def State.lastLatch (s : State) : U32 :=
  match s.tre.latches with
  | [] => 0xFFFFFFFF#32
  | e :: _ => e.1

/-! ### Messages (R207) -/

/-- Change the link of one span. -/
def State.modLink (s : State) (sp : Fin 12) (f : Link → Link) : State :=
  { s with links := s.links.set sp (f s.links[sp]) }

/-- Message bytes of a DATA block of a channel (R201, R206). -/
def vcRoom (v : Fin 5) : Nat := if v = 1 then 124 else 126

/-- A message cut into the blocks of a channel (R207); `n` bounds the blocks. -/
def chunks (room : Nat) : Nat → List U8 → List (List U8)
  | 0, _ => []
  | n + 1, b => if b.length ≤ room then [b] else b.take room :: chunks room n (b.drop room)

/-- The blocks of a message of this engine. -/
def msgBlocks (m : Msg) : List TxBlk := (chunks (vcRoom (vcOf m.type)) (m.bytes.length + 1) m.bytes).map fun b => { data := b }

/-- Put a message on its virtual channel of a span whose link is up; `note` names the update that it completes (R222). -/
def State.queueMsg (s : State) (sp : Fin 12) (m : Msg) (note : Option (U32 × Nat) := none) : State :=
  if s.links[sp].st = 2 then
    s.modLink sp fun l => { l with txq := l.txq.set (vcOf m.type) (l.txq[vcOf m.type] ++ [{ blocks := msgBlocks m, note := note }]) }
  else s

/-- The spans that `p` picks and whose link is up. -/
def State.upSpans (s : State) (p : Fin 12 → Bool) : List (Fin 12) :=
  (List.finRange 12).filter fun sp => p sp && s.links[sp].st == 2

/-- Put a message on every span that `p` picks and whose link is up; the first copy carries the note. -/
def State.queueOn (s : State) (p : Fin 12 → Bool) (m : Msg) (note : Option (U32 × Nat) := none) : State :=
  (s.upSpans p).zipIdx.foldl (fun s e => s.queueMsg e.1 m (if e.2 = 0 then note else none)) s

/-- Send a new message of this engine: SRC_SEQ is raised by one for each message of a source and channel (Table 6.4).
An engine whose NODE_ID is 0 sends link blocks only (R208). -/
def State.sendOn (s : State) (p : Fin 12 → Bool) (dest : U32) (type : U16) (payload : List U8)
    (note : Option (U32 × Nat) := none) : State :=
  if s.tre.nodeId = 0 then s
  else
    let q := s.tre.ownSeq[vcOf type]
    let m : Msg := ⟨dest, s.tre.nodeId, type, 0, q, payload⟩
    { s with tre.ownSeq := s.tre.ownSeq.set (vcOf type) (q + 1) }.queueOn p m note

/-- DEST of a flood (Table 6.4). -/
def floodDest : U32 := 0xFFFFFFFF#32

/-- Flood a message on every span whose link is up. -/
def State.flood (s : State) (type : U16) (payload : List U8) : State :=
  s.sendOn (fun _ => true) floodDest type payload

/-- The span learned for a node (R210), or the span whose peer it is. -/
def State.routeTo (s : State) (node : U32) : Option (Fin 12) :=
  (s.tre.learned.find? (·.node == node)).map (·.span)

/-- Send a message to one node: on its learned route, else as a flood that keeps DEST (R209). -/
def State.unicast (s : State) (dest : U32) (type : U16) (payload : List U8) (note : Option (U32 × Nat) := none) : State :=
  match s.routeTo dest with
  | some sp => s.sendOn (fun x => x == sp) dest type payload note
  | none => s.sendOn (fun _ => true) dest type payload note

/-- The pier link's span (R374). -/
def State.pierSpan (s : State) : Fin 12 := ⟨s.pier.cfg.pierSpan.toNat % 12, Nat.mod_lt _ (by decide)⟩

/-- Send a message to the partner on the pier link. -/
def State.toPartner (s : State) (type : U16) (payload : List U8) : State :=
  s.sendOn (fun x => x == s.pierSpan) s.pier.cfg.partnerId type payload

/-! ### Arrival of a message (R209, R210) -/

/-- R209 step 2: `none` for a duplicate or a value more than 255 behind; else the new sequence state. -/
def SeqState.accept (e : SeqState) (q : U16) : Option SeqState :=
  let d := (q - e.last).toInt
  if 0 < d then some { e with last := q, seen := q :: e.seen.filter fun x => decide ((q - x).toInt < 256) }
  else if d ≤ -256 ∨ q ∈ e.seen then none
  else some { e with seen := q :: e.seen }

/-- The entries of the 4,096 sources used most recently (R209); `l` stands most recently used first. -/
def keepSources (l : List SeqState) : List SeqState :=
  if l.length ≤ 4096 then l
  else
    let srcs := (l.map (·.src)).eraseDups.take 4096
    l.filter fun e => srcs.contains e.src

/-- R209 step 2 over the 4,096 sources kept, most recently used first. -/
def seqAccept (l : List SeqState) (src : U32) (vc : Nat) (q : U16) : Option (List SeqState) :=
  match l.find? (fun e => e.src == src && e.vc == vc) with
  | none => some (keepSources ({ src := src, vc := vc, last := q, seen := [q] } :: l))
  | some e => (e.accept q).map fun e' => e' :: l.filter fun x => !(x.src == src && x.vc == vc)

/-- An entry was learned on its span in the count cycle of `now`, and another first arrival of that cycle with equal HOPS on a
lower span is learned in its place (Table 6.14). -/
def Learned.lower (o : Learned) (sp : Fin 12) (hops : U16) (now : Nat) : Bool :=
  decide (o.since / 4 = now / 4) && o.hops == hops && decide (sp < o.span)

/-- R210: learn SRC on the arrival span; an entry on another span gives way only to fewer HOPS, or within a count cycle to
equal HOPS on a lower span. The table holds the 16,384 sources heard most recently. -/
def learn (l : List Learned) (src : U32) (sp : Fin 12) (hops : U16) (now : Nat) : List Learned :=
  match l.find? (·.node == src) with
  | none => ((⟨src, sp, hops, now, now⟩ : Learned) :: l).take 16384
  | some o =>
    if o.span = sp then ⟨src, sp, hops, now, o.since⟩ :: l.filter fun x => x.node != src
    else if hops < o.hops ∨ o.lower sp hops now = true then ⟨src, sp, hops, now, now⟩ :: l.filter fun x => x.node != src
    else l

/-- A copy of a forwarded block has left, or is lost: the receive buffer's block is free once no copy is left (R204). -/
def Link.release (l : Link) (id : Nat) : Link :=
  match l.buf.find? (·.id == id) with
  | none => l
  | some b =>
    if b.copies ≤ 1 then
      { l with buf := l.buf.filter (·.id != id), freedRx := l.freedRx.set b.vc (l.freedRx[b.vc] + 1), creditDue := true }
    else { l with buf := l.buf.map fun x => if x.id = id then { x with copies := x.copies - 1 } else x }

/-- Release the receive buffers behind blocks that no longer wait to be sent. -/
def State.releaseAll (s : State) (bs : List TxBlk) : State :=
  bs.foldl (fun (s : State) b => match b.src with
    | some e => s.modLink e.1 fun l => l.release e.2
    | none => s) s

/-- Messages waiting on a channel of a span that `p` picks are given up. -/
def State.dropMsgs (s : State) (sp : Fin 12) (v : Fin 5) (p : TxMsg → Bool) : State :=
  let gone := (s.links[sp].txq[v]).filter p
  (s.modLink sp fun l => { l with txq := l.txq.set v (l.txq[v].filter fun m => !p m) }).releaseAll (gone.flatMap (·.blocks))

/-- Where a message that has been accepted goes (R209 steps 3 and 4): whether this engine consumes it, and the spans on which
it is forwarded. -/
def State.msgWay (s : State) (sp : Fin 12) (m : Msg) : Bool × List (Fin 12) :=
  if m.dest = floodDest then (true, s.upSpans fun x => x != sp)
  else if m.dest = s.tre.nodeId then (true, [])
  else match s.routeTo m.dest with
    | some r => (false, s.upSpans fun x => x == r)
    | none => (false, s.upSpans fun x => x != sp)

/-- The first arrival of a message on a span of this cycle: its SRC is learned (R210). -/
def State.firstArrival (s : State) (sp : Fin 12) (v : Fin 5) (m : Msg) : State × Bool × List (Fin 12) :=
  let way := s.msgWay sp m
  let a : Arrival := ⟨s.now / 4, m.src, v, m.seq, sp, s.tre.learned.find? (·.node == m.src), false⟩
  ({ s with tre.learned := learn s.tre.learned m.src sp m.hops s.now,
            tre.arrivals := a :: s.tre.arrivals.filter fun x => x.cycle == s.now / 4 }, way)

/-- A copy on a lower span in the same count cycle is the first arrival instead (Table 6.14): what the other had begun is taken
back, and it becomes the duplicate. -/
def State.takePlace (s : State) (a : Arrival) (sp : Fin 12) (m : Msg) : State × Bool × List (Fin 12) :=
  let s := (List.finRange 12).foldl (fun (s : State) o => s.dropMsgs o a.vc fun t => t.key == some (a.src, a.seq) && !t.started) s
  let s := s.modLink a.span fun l =>
    { l with floodDuplicates := l.floodDuplicates.inc,
             rx := l.rx.set a.vc ((l.rx[a.vc]).map fun r =>
               if (Msg.parse r.bytes).src = a.src ∧ (Msg.parse r.bytes).seq = a.seq then { r with take := false, exits := [] } else r),
             rxDone := l.rxDone.filter fun x => !(x.src == a.src && x.seq == a.seq && vcOf x.type == a.vc) }
  let others := s.tre.learned.filter fun x => x.node != a.src
  let learned := match a.before with
    | some o => o :: others
    | none => others
  let left := (List.finRange 12).filter fun o => (s.links[o].txq[a.vc]).any fun t => t.key == some (a.src, a.seq)
  let r := State.firstArrival { s with tre.learned := learned, tre.arrivals := s.tre.arrivals.erase a } sp a.vc m
  (r.1, r.2.1 && !a.used, r.2.2.filter fun o => !left.contains o)

/-- R209: a message arrives on a virtual channel of a span; one that this engine sent itself is a duplicate. Answers the state,
whether the engine consumes the message, and the spans on which it is forwarded. -/
def State.msgArrive (s : State) (sp : Fin 12) (v : Fin 5) (m : Msg) : State × Bool × List (Fin 12) :=
  if s.tre.nodeId = 0 then (s, false, [])
  else if s.tre.cfg.hopLimit ≤ m.hops then
    let first := !s.links[sp].hopRun
    ((s.modLink sp fun l => { l with hopRun := true, hopDiscards := l.hopDiscards.inc }).raiseIf first 71
      [fN 0 1 sp.val, f32 4 m.src], false, [])
  else
    let s := s.modLink sp fun l => { l with hopRun := false }
    match (if m.src = s.tre.nodeId then none else seqAccept s.tre.seqs m.src v.val m.seq) with
    | some seqs => State.firstArrival { s with tre.seqs := seqs } sp v m
    | none => match s.tre.arrivals.find? fun a =>
          decide (a.cycle = s.now / 4) && a.src == m.src && a.vc == v && a.seq == m.seq && decide (sp < a.span) with
      | some a => s.takePlace a sp m
      | none => (s.modLink sp fun l => { l with floodDuplicates := l.floodDuplicates.inc }, false, [])

/-- A message arrives on a span (R209): where its blocks came as DATA blocks it was routed with the first of them, and only its
consumption is left. Answers the state and whether the engine consumes the message. -/
def State.acceptMsg (s : State) (sp : Fin 12) (m : Msg) : State × Bool :=
  if m ∈ s.links[sp].rxDone then (s.modLink sp fun l => { l with rxDone := l.rxDone.erase m }, true)
  else
    let r := s.msgArrive sp (vcOf m.type) m
    let fwd := { m with hops := m.hops + 1 }
    let s := r.2.2.foldl (fun (s : State) o => s.modLink o fun l =>
      { l with txq := l.txq.set (vcOf m.type) (l.txq[vcOf m.type] ++ [{ blocks := msgBlocks fwd, key := some (m.src, m.seq) }]) }) r.1
    ({ s with tre.arrivals := s.tre.arrivals.map fun a =>
        if a.src = m.src ∧ a.vc = vcOf m.type ∧ a.seq = m.seq then { a with used := true } else a }, r.2.1)

/-- Carry out `f` if the engine consumes the message (R209). -/
def State.consume (s : State) (sp : Fin 12) (m : Msg) (f : State → State) : State :=
  let r := s.acceptMsg sp m
  if r.2 then f r.1 else r.1

/-! ### MEMBER and LINK_EVENT (R211, R215) -/

/-- The engine is the standby of a pair, eligible to take control or not (R215, Table 11.6). -/
def State.standsBy (s : State) : Bool := s.pier.st == 5 || s.pier.st == 6 || s.pier.st == 7

/-- The payload of this engine's MEMBER record (Table 6.5). -/
def State.memberRecord (s : State) : List U8 :=
  let flags := (if s.holds then 1 else 0) + (if s.standsBy then 2 else 0) + (if s.running then 4 else 0)
  be 4 s.memberId.toNat ++ be 4 s.rootId.toNat ++ be 4 s.lastCommit.toNat ++ be 4 s.grid.fp.print.toNat ++
  be 2 s.tre.kLocal.toNat ++ be 2 s.tre.gen.toNat ++ be 4 flags

/-- Flood MEMBER (R215). -/
def State.floodMember (s : State) : State := s.flood 0x0003 s.memberRecord

/-- What an engine does on a change of the topology, its own or heard of (R211): clear the learned table, mark every
member unconfirmed, flood MEMBER. -/
def State.topologyChange (s : State) : State :=
  let heard := s.tre.heard.map fun m : Member =>
    if m.root = s.rootId then { m with unconfirmed := some (m.unconfirmed.getD s.now) } else m
  State.floodMember { s with tre.learned := [], tre.heard := heard }

/-- R211: flood LINK_EVENT for a change of this engine's own link to `peer` (`kind` 1 down, 2 up). -/
def State.floodLinkEvent (s : State) (sp : Fin 12) (peer : U32) (kind : Nat) : State :=
  (s.flood 0x0005 (be 4 peer.toNat ++ be 1 sp.val ++ be 1 kind ++ be 2 0)).topologyChange

/-- E066: members, root or issuer changed; DOMAIN_GEN is raised by one (R215). -/
def State.issuerNode (s : State) : U32 :=
  if s.rootId = s.memberId then (if s.holds then s.tre.nodeId else s.pier.cfg.partnerId)
  else match s.others.find? (fun m => m.id == s.rootId) with
    | some m => m.holder
    | none => 0

/-- Raise E066 with the domain as it stands. -/
def State.raiseDomain (s : State) : State :=
  s.raiseF 66 [f32 0 s.rootId, f16 4 s.tre.gen, fN 6 2 s.memberIds.length, f32 8 s.issuerNode]

/-- A drop, an addition or a change of root: DOMAIN_GEN is raised by one, and E066 (R215). -/
def State.domainChange (s : State) : State :=
  { s with tre.gen := s.tre.gen + 1, tre.issuer := s.issuerNode }.raiseDomain

/-- A change of the issuer alone raises E066 (Table 6.20). -/
def State.issuerChange (s : State) : State :=
  if s.tre.issuer = s.issuerNode then s else { s with tre.issuer := s.issuerNode }.raiseDomain

end Sys2Proof.Machine
end

