-- ==== Sys2Proof/Machine/SchedOps.lean ====
section
/-! DEFINITION. Machine/SchedOps.lean: the hardware scheduler: allocation, entry, the frame gate, dispatch, atomic
slots, cancellation (R113 to R132). One scheduler cycle is 1 ns. -/
namespace Sys2Proof.Machine
open Sys2Proof

/-! ### Arbitration (R8, R9) -/

/-- Requesters in the order in which R8 and R9 serve them: promoted ones first, each group by number. -/
def serveOrder (reqs : List Nat) (loss : Nat → Nat) : List Nat :=
  reqs.filter (fun r => decide (16 ≤ loss r)) ++ reqs.filter (fun r => decide (loss r < 16))

/-! ### Descriptors -/

/-- A descriptor; one that was never written reads as FREE with every field at its default. -/
def Sched.at (c : Sched) (n : Nat) : Desc := c.desc.get {} n

/-- Change a descriptor. -/
def State.modDesc (s : State) (n : Nat) (f : Desc → Desc) : State :=
  { s with sched.desc := s.sched.desc.upd {} n f }

/-- Free descriptors (R115). -/
def Sched.freeCount (c : Sched) : Nat := 8192 - c.freeNext + c.freed.length

/-- The task is over, or was never submitted (Table 3.3). -/
def Desc.over (d : Desc) : Bool := d.st == .free || d.st == .ended || d.st == .trapped || d.st == .cancelled || d.cancelDue

/-- Live descriptors that satisfy `p`. -/
def Sched.live (c : Sched) (p : Desc → Bool) : List Nat :=
  (c.desc.filter fun e => !e.2.over && p e.2).map (·.1)

/-- The pending count of a render frame (R123). -/
def Sched.pendingOf (c : Sched) (frame : U32) : Nat :=
  (c.live fun d => d.source == 0 && d.frame == frame).length

/-- R118: the sequencer has made its last submission for the frame. -/
def Sched.isClosed (c : Sched) (frame : U32) : Bool :=
  decide (frame ∈ c.closed) && !(c.subq[0].any fun d => d.frame == frame)

/-- A source asks for a descriptor for a task (R116). -/
def State.submit (s : State) (d : Desc) : State :=
  { s with sched.subq := s.sched.subq.set d.source (s.sched.subq[d.source] ++ [d]) }

/-- R116: the source is held for the task it asks with. -/
def Sched.held (c : Sched) (src : Fin 4) (d : Desc) : Bool :=
  let reserved := (List.finRange 4).foldl
    (fun n o => if o = src then n else n + (c.cfg.reserve[o].toNat - c.inUse[o])) 0
  decide (c.cfg.limit[src].toNat < c.inUse[src] + 1) ||
  decide (c.freeCount < reserved + 1) ||
  (src == 0 && d.frame != c.gateFrame && d.frame != c.gateFrame + 1)

/-- ns that a source was held, a hold in progress included (HOLD_US of Table 3.12). -/
def Sched.heldNs (c : Sched) (src : Fin 4) (now : Nat) : Nat :=
  c.holdNs[src] + (if c.hold[src].isSome then now - c.holdFrom[src] else 0)

/-- A source is no longer held. -/
def Sched.endHold (c : Sched) (src : Fin 4) (now : Nat) : Sched :=
  { c with hold := c.hold.set src none, holdRaised := c.holdRaised.set src false,
           holdNs := c.holdNs.set src (c.heldNs src now) }

/-- A source asked and was held. -/
def Sched.beginHold (c : Sched) (src : Fin 4) (now : Nat) : Sched :=
  match c.hold[src] with
  | none => { c with hold := c.hold.set src (some now), holdFrom := c.holdFrom.set src now }
  | some _ => c

/-- Tasks that were over before this cycle return to FREE; their other fields stay as last written (R114). -/
def Sched.settle (c : Sched) (now : Nat) : Sched :=
  let due := (c.ending.filter fun e => decide (e.2 < now)).map (·.1)
  due.foldl (fun (c : Sched) n =>
    let d := c.at n
    { c with desc := c.desc.set {} n { d with st := .free }, freed := c.freed ++ [n],
             inUse := c.inUse.set d.source (c.inUse[d.source] - 1) })
    { c with ending := c.ending.filter fun e => decide (now ≤ e.2) }

/-- Take the head of the free list (R115). -/
def Sched.takeFree (c : Sched) : Option (Nat × Sched) :=
  if c.freeNext < 8192 then some (c.freeNext, { c with freeNext := c.freeNext + 1 })
  else match c.freed with
    | [] => none
    | n :: r => some (n, { c with freed := r })

/-- Grant a descriptor to the first task of a source; it goes to the entry port as a direct submission (R115, R121). -/
def Sched.grant (c : Sched) (src : Fin 4) : Sched :=
  match c.subq[src], c.takeFree with
  | d :: rest, some (n, c) =>
    let d := { d with st := .alloc, order := c.order, late := false, cancelAfter := false, cancelDue := false }
    { c with desc := c.desc.set {} n d, order := c.order + 1, subq := c.subq.set src rest,
             inUse := c.inUse.set src (c.inUse[src] + 1), minFree := min c.minFree c.freeCount,
             submitted := c.submitted.set src c.submitted[src].inc,
             entry := c.entry.set 6 (c.entry[6] ++ [n]) }
  | _, _ => c

/-- Sources that ask and are not held, in order. -/
def Sched.asking (c : Sched) : List (Fin 4) :=
  (List.finRange 4).filter fun src => match c.subq[src] with
    | d :: _ => !c.held src d
    | [] => false

/-- One cycle of the allocation port (R115, R116): at most one grant; a held source keeps its task, and a hold lasts while the
source is held, whether or not it then wins the grant. -/
def Sched.alloc (c : Sched) (now : Nat) : Sched :=
  let c := c.settle now
  let ask := c.asking
  let c := (List.finRange 4).foldl (fun (c : Sched) src => match c.subq[src] with
    | d :: _ => if c.held src d then c.beginHold src now else c.endHold src now
    | [] => c.endHold src now) c
  match arbitrate (ask.map (·.val)) (fun r => c.lossAlloc.toList.getD r 0) with
  | none => c
  | some w =>
    let loss := (List.finRange 4).foldl (fun l src =>
      if src.val = w then l.set src 0 else if src ∈ ask then l.set src (l[src] + 1) else l) c.lossAlloc
    let c := { c with lossAlloc := loss }
    match (List.finRange 4).find? (fun src => src.val == w) with
    | some src => c.grant src
    | none => c

/-! ### Entry (R121), delay lists (R119, R120), atomic slots (R129) -/

/-- Insert a descriptor in its delay list by key, equal keys in submission order (R119). -/
def Sched.delayInsert (c : Sched) (n : Nat) : Sched :=
  let d := c.at n
  let l := c.delay[d.delayList]
  let before := l.takeWhile fun m => decide (0 ≤ sdiff32 d.releaseTick (c.at m).releaseTick)
  { c with delay := c.delay.set d.delayList (before ++ n :: l.drop before.length),
           desc := c.desc.set {} n { d with st := .delayed } }

/-- A task enters READY; an atomic one holds its slot from then (R129). -/
def Sched.toReady (c : Sched) (n now : Nat) : Sched :=
  let d := c.at n
  let held := if d.atomic && !(c.slotHeld.contains d.atomicSlot.toNat)
    then d.atomicSlot.toNat :: c.slotHeld else c.slotHeld
  { c with desc := c.desc.set {} n { d with st := .ready, readyAt := now, waitOver := false }, slotHeld := held,
           ready := c.ready.set d.priority (c.ready[d.priority] ++ [n]) }

/-- A task leaves ALLOC or DELAYED for the first of GATED, PARKED and READY that applies (Table 3.3). -/
def Sched.enter (c : Sched) (n now : Nat) : Sched :=
  let d := c.at n
  if d.gated && d.frame != c.gateFrame then
    { c with desc := c.desc.set {} n { d with st := .gated }, gatedQ := c.gatedQ ++ [n] }
  else if d.atomic && c.slotHeld.contains d.atomicSlot.toNat then
    { c with desc := c.desc.set {} n { d with st := .parked }, parked := c.parked ++ [(d.atomicSlot.toNat, n)] }
  else c.toReady n now

/-- A direct submission: into its delay list, or on; a key already reached is released in the next cycle with LATE
(R120). -/
def Sched.enterDirect (c : Sched) (n now : Nat) (tick : U32) : Sched :=
  let d := c.at n
  if d.delayed then
    if 0 ≤ sdiff32 tick d.releaseTick then
      let r : Fin 7 := ⟨2 + d.delayList.val, by omega⟩
      { c with desc := c.desc.set {} n { d with late := true, st := .delayed }, lateRelease := c.lateRelease.inc,
               entry := c.entry.set r (c.entry[r] ++ [n]) }
    else c.delayInsert n
  else c.enter n now

/-- The tasks one requester of the entry port may pass in a cycle (R121). -/
def entryLimit (r : Nat) : Nat := if r < 2 then 4 else 1

/-- A notice reaches the source of a task (R114, R130). -/
def Sched.notify (c : Sched) (n : Nat) (x : Notice) : Sched :=
  { c with notice := c.notice.set (c.at n).source (some (n, x)) }

/-- A task is over in state `st` (Table 3.3): its notice is delivered, and it returns to FREE in the next cycle (R114). -/
def Sched.finish (c : Sched) (n now : Nat) (st : TaskState) (x : Notice) : Sched :=
  let d := c.at n
  Sched.notify { c with desc := c.desc.set {} n { d with st := st, cancelDue := false }, ending := c.ending ++ [(n, now)] } n x

/-- Pass one task of requester `r` of the entry port. -/
def Sched.passOne (c : Sched) (r : Fin 7) (n now : Nat) (tick : U32) : Sched :=
  let c := { c with entry := c.entry.set r (c.entry[r].filter (· != n)) }
  if r.val = 6 then
    if (c.at n).cancelDue then Sched.finish { c with cancelBefore := c.cancelBefore.inc } n now .cancelled .cancelledBefore
    else c.enterDirect n now tick
  else if r.val = 1 then c.toReady n now
  else c.enter n now

/-- The four that pass of those that ask enter their queues in requester order, whichever were promoted (R121). -/
def inRequesterOrder (l : List (Fin 7 × Nat)) : List (Fin 7 × Nat) :=
  (List.finRange 7).flatMap fun r => l.filter (·.1 == r)

/-- One cycle of the entry port: up to four tasks, in requester order (R121). -/
def Sched.entryCycle (c : Sched) (now : Nat) (tick : U32) : Sched :=
  let reqs := (List.finRange 7).filter fun r => !c.entry[r].isEmpty
  let order := serveOrder (reqs.map (·.val)) (fun r => c.lossEntry.toList.getD r 0)
  let cand : List (Fin 7 × Nat) := order.flatMap fun r =>
    if h : r < 7 then (c.entry[r].take (entryLimit r)).map fun n => (⟨r, h⟩, n) else []
  let pass := cand.take 4
  let loss := reqs.foldl (fun l r =>
    if pass.any (fun p => p.1 == r) then l.set r 0 else l.set r (l[r] + 1)) c.lossEntry
  (inRequesterOrder pass).foldl (fun c p => c.passOne p.1 p.2 now tick) { c with lossEntry := loss }

/-- R119: at a tick boundary each list releases its due tasks from its head; they pass one a cycle. -/
def Sched.tickRelease (c : Sched) (tick : U32) : Sched :=
  (List.finRange 4).foldl (fun (c : Sched) (i : Fin 4) =>
    let due := c.delay[i].takeWhile fun n => decide (0 ≤ sdiff32 tick (c.at n).releaseTick)
    let r : Fin 7 := ⟨2 + i.val, by omega⟩
    { c with delay := c.delay.set i (c.delay[i].drop due.length), entry := c.entry.set r (c.entry[r] ++ due) }) c

/-- R129: a slot is released: its first parked task passes through requester 1, or the slot becomes free. -/
def Sched.releaseSlot (c : Sched) (slot : Nat) : Sched :=
  match c.parked.find? (fun p => p.1 == slot) with
  | some p => { c with parked := c.parked.filter (fun x => x.2 != p.2), entry := c.entry.set 1 (c.entry[1] ++ [p.2]) }
  | none => { c with slotHeld := c.slotHeld.filter (· != slot) }

/-- The task holds its atomic slot: it is READY, RUNNING or on its way from PARKED. -/
def Sched.holdsSlot (c : Sched) (n : Nat) : Bool :=
  let d := c.at n
  d.atomic && (d.st == .ready || d.st == .running || c.entry[1].contains n)

/-- A task is over: its slot is released, and its descriptor goes on to FREE (R114, R129). -/
def Sched.retire (c : Sched) (n now : Nat) (st : TaskState) (x : Notice) : Sched :=
  let d := c.at n
  let held := c.holdsSlot n
  let c := c.finish n now st x
  let c := { c with entry := c.entry.set 1 (c.entry[1].filter (· != n)) }
  if held then c.releaseSlot d.atomicSlot.toNat else c

/-- A counter takes back one count. -/
def takeBack (x : U32) : U32 := if x = 0 then 0 else x - 1

/-- A dispatch of this cycle is undone: a cancel in the same cycle wins over it (Table 3.7). -/
def Sched.undo (c : Sched) (i : Issue) : Sched :=
  let d := c.at i.task
  let q := c.ready[d.priority]
  { c with cores := c.cores.set i.core i.was, issued := c.issued.filter (· != i),
           desc := c.desc.set {} i.task { d with st := .ready },
           ready := c.ready.set d.priority (q.take i.place ++ i.task :: q.drop i.place),
           affTable := if d.affValid then c.affTable.set (BitVec.allOnes 7) d.affKey.toNat i.aff else c.affTable,
           dispatched := c.dispatched.set d.priority (takeBack c.dispatched[d.priority]),
           affHit := if i.kind = 0 then takeBack c.affHit else c.affHit,
           affExpired := if i.kind = 1 then takeBack c.affExpired else c.affExpired,
           affNone := if i.kind = 2 then takeBack c.affNone else c.affNone }

/-- The dispatch of a task in this cycle. -/
def Sched.issueOf (c : Sched) (n now : Nat) : Option Issue := c.issued.find? fun i => i.task == n && i.cycle == now

/-- A task that has not been dispatched leaves whatever queue it stands in, cancelled (Table 3.5). -/
def Sched.cancelQueued (c : Sched) (n now : Nat) : Sched :=
  let d := c.at n
  let c := { c with cancelBefore := c.cancelBefore.inc,
                    gatedQ := c.gatedQ.filter (· != n),
                    parked := c.parked.filter (fun p => p.2 != n),
                    ready := c.ready.set d.priority (c.ready[d.priority].filter (· != n)),
                    delay := c.delay.set d.delayList (c.delay[d.delayList].filter (· != n)) }
  let c := c.retire n now .cancelled .cancelledBefore
  { c with entry := c.entry.map fun l => l.filter (· != n) }

/-- R130: cancel one descriptor by its state (Table 3.5); in the cycle of its dispatch the cancel wins (Table 3.7). -/
def Sched.cancel (c : Sched) (now n : Nat) : Sched :=
  let d := c.at n
  match d.st with
  | .free => c.notify n .notFound
  | .ended | .trapped | .cancelled => c
  | .alloc => { c with desc := c.desc.set {} n { d with cancelDue := true } }
  | .running =>
    match c.issueOf n now with
    | some i => (c.undo i).cancelQueued n now
    | none =>
      if d.cancelAfter then c
      else Sched.notify { c with desc := c.desc.set {} n { d with cancelAfter := true, cancelAt := now },
                                 cancelAfter := c.cancelAfter.inc } n .cancelledAfter
  | _ => c.cancelQueued n now

/-- R131: cancel every task that satisfies `p`, those that still ask for a descriptor included. -/
def Sched.cancelAll (c : Sched) (now : Nat) (p : Desc → Bool) : Sched :=
  let c := (c.live p).foldl (fun c n => c.cancel now n) c
  { c with subq := c.subq.map fun l => l.filter fun d => !p d }

/-- R122: the frame gate moves to a frame; its GATED tasks pass through requester 0 in submission order. -/
def Sched.gateTo (c : Sched) (frame : U32) : Sched :=
  let pass := c.gatedQ.filter fun n => (c.at n).frame == frame
  { c with gateFrame := frame, renderEnd := false, gatedQ := c.gatedQ.filter (fun n => (c.at n).frame != frame),
           entry := c.entry.set 0 (c.entry[0] ++ pass) }

/-! ### Dispatch (R124 to R127) -/

/-- The core may take a task: enabled, not excluded, idle (R124, R137). -/
def Core.idle (k : Core) : Bool := k.enabled && !k.excluded && k.task.isNone

/-- An idle core is offered tasks from the cycle after it became idle (Table 3.8). -/
def Core.offered (k : Core) (now : Nat) : Bool := k.idle && decide (k.idleAt < now)

/-- The affinity core of a task, unless it is invalid, disabled or excluded (R124, R125). -/
def Sched.affCore (c : Sched) (d : Desc) : Option (Fin 64) :=
  let v := (c.affTable.get (BitVec.allOnes 7) d.affKey.toNat).toNat
  if d.affValid = false then none
  else if h : v < 64 then
    if c.cores[v].enabled && !c.cores[v].excluded then some ⟨v, h⟩ else none
  else none

/-- The cycle at which a READY task's affinity wait has passed (R124). -/
def Sched.waitEnd (c : Sched) (d : Desc) : Nat := d.readyAt + c.cfg.affinityWait[d.priority].toNat

/-- R124: the wait of the task's priority has passed. -/
def Sched.waited (c : Sched) (d : Desc) (now : Nat) : Bool := d.waitOver || decide (c.waitEnd d ≤ now)

/-- Cores of an issue port (R127). -/
def portCores (port : Fin 4) : List (Fin 64) := (List.finRange 64).filter fun k => k.val / 16 == port.val

/-- The idle cores of a port that a READY task is eligible for (R124). A task that entered READY in this cycle waits for the
next (R121). One whose wait passes in the cycle in which its affinity core becomes idle is left to that core (Table 3.7). -/
def Sched.coresFor (c : Sched) (port : Fin 4) (d : Desc) (now : Nat) : List (Fin 64) :=
  let idle := (portCores port).filter fun k => c.cores[k].offered now
  if now ≤ d.readyAt then []
  else match c.affCore d with
    | none => idle
    | some a =>
      if c.waited d now && !(decide (c.waitEnd d = now) && c.cores[a].idle && decide (c.cores[a].idleAt = now)) then idle
      else idle.filter (· == a)

/-- The task a port takes in a cycle, were it alone: the one of highest priority, earliest entered among the first 16 of its
queue, that is eligible for an idle core of the port (R124, R127). -/
def Sched.top (c : Sched) (port : Fin 4) (now : Nat) (ok : Desc → Bool) : Option Nat :=
  (List.finRange 8).findSome? fun p =>
    (c.ready[p].take 16).find? fun n => ok (c.at n) && !(c.coresFor port (c.at n) now).isEmpty

/-- The core of a port that a task goes to: its affinity core, else the lowest-numbered one (Table 3.7, R8, R9). -/
def Sched.coreOf (c : Sched) (port : Fin 4) (n now : Nat) : Option (Fin 64) :=
  let d := c.at n
  let cs := c.coresFor port d now
  match (c.affCore d).bind (fun a => cs.find? (· == a)) with
  | some a => some a
  | none => (arbitrate (cs.map (·.val)) (fun k => match c.cores.toList[k]? with
      | some x => x.losses
      | none => 0)).bind fun k => cs.find? fun x => x.val == k

/-- What the four ports take in a cycle: of the ports whose choice is one task, the affinity core's takes it, else the
lowest-numbered; a port that loses is offered its next task on the next cycle (Table 3.7). -/
def Sched.offersAt (c : Sched) (now : Nat) (ok : Desc → Bool) : Vector (Option (Nat × Fin 64)) 4 :=
  let tops : Vector (Option Nat) 4 := .ofFn fun (p : Fin 4) => c.top p now ok
  .ofFn fun (p : Fin 4) => tops[p].bind fun n =>
    let rivals := (List.finRange 4).filter fun q => tops[q] == some n
    let home := (c.affCore (c.at n)).bind fun a =>
      rivals.find? fun q => a.val / 16 == q.val && (c.coresFor q (c.at n) now).contains a
    if (match home with
        | some q => q == p
        | none => rivals.head? == some p) then (c.coreOf p n now).map fun k => (n, k)
    else none

/-- The choices of the cycle `now`, made once for all four ports. -/
def Sched.offer (c : Sched) (now : Nat) (ok : Desc → Bool) : Sched :=
  match c.offers with
  | some o => if o.1 = now then c else { c with offers := some (now, c.offersAt now ok), issued := [] }
  | none => { c with offers := some (now, c.offersAt now ok), issued := [] }

/-- What a port takes in this cycle, unless a cancel came first. -/
def Sched.choice (c : Sched) (port : Fin 4) : Option (Nat × Fin 64) :=
  (c.offers.bind fun o => o.2[port]).filter fun e => (c.at e.1).st == .ready && c.cores[e.2].idle

/-- Programs kept in local memory, the last run first, as far as 128 KiB hold them (R109, R110). -/
def keepResident : Nat → List (U32 × Nat) → List (U32 × Nat)
  | _, [] => []
  | room, e :: rest => if e.2 ≤ room then e :: keepResident (room - e.2) rest else []

/-- A core takes a task of a program of `prog` bytes that needs `bytes` of local memory (R110). -/
def Core.take (k : Core) (n now : Nat) (d : Desc) (bytes prog : Nat) : Core :=
  let there := k.resident.any fun e => e.1 == d.code
  { k with task := some n, startedAt := now, losses := 0, loadedAt := if there then now else now + ceilDiv prog 4,
           context := some ⟨d.frame, d.pShort, d.flow, d.segment, d.level, d.arg⟩,
           resident := keepResident 0x20000 ((d.code, bytes) :: k.resident.filter (·.1 != d.code)) }

/-- R127, R125: dispatch task `n` to core `k`; `mem`: its program's LOCAL_BYTES and PROG_BYTES. -/
def Sched.place (c : Sched) (port : Fin 4) (n : Nat) (k : Fin 64) (now : Nat) (mem : Nat × Nat) : Sched :=
  let d := c.at n
  let kind := match c.affCore d with
    | none => 2
    | some a => if a = k then 0 else 1
  let lose := (c.coresFor port d now).filter (· != k)
  let q := c.ready[d.priority]
  let issue : Issue := ⟨n, k, now, c.cores[k], c.affTable.get (BitVec.allOnes 7) d.affKey.toNat, (q.takeWhile (· != n)).length, kind⟩
  let cores := lose.foldl (fun v x => v.set x { v[x] with losses := v[x].losses + 1 }) c.cores
  { c with cores := cores.set k (cores[k].take n now d mem.1 mem.2), issued := issue :: c.issued,
           offers := c.offers.map fun o => (o.1, o.2.set port none),
           desc := c.desc.set {} n { d with st := .running, core := BitVec.ofNat 6 k.val },
           ready := c.ready.set d.priority (q.filter (· != n)),
           affTable := if d.affValid then c.affTable.set (BitVec.allOnes 7) d.affKey.toNat (BitVec.ofNat 7 k.val)
                       else c.affTable,
           dispatched := c.dispatched.set d.priority c.dispatched[d.priority].inc,
           affHit := if kind = 0 then c.affHit.inc else c.affHit,
           affExpired := if kind = 1 then c.affExpired.inc else c.affExpired,
           affNone := if kind = 2 then c.affNone.inc else c.affNone }

/-- A running task leaves its core. -/
def Sched.leaveCore (c : Sched) (n now : Nat) : Sched :=
  let k : Fin 64 := ⟨(c.at n).core.toNat, (c.at n).core.isLt⟩
  if c.cores[k].task = some n then
    { c with cores := c.cores.set k { c.cores[k] with task := none, context := none, idleAt := now } }
  else c

/-- A task that was dispatched in this cycle because its wait had just passed goes back to its queue, where its affinity core
becomes idle in the same cycle (Table 3.7). -/
def Sched.yieldTo (c : Sched) (k : Fin 64) (now : Nat) : Sched :=
  match c.issued.find? fun i => i.cycle == now && i.core != k && i.aff.toNat == k.val && c.waitEnd (c.at i.task) == now &&
      (c.at i.task).affValid && (c.at i.task).st == .running with
  | some i => c.undo i
  | none => c

end Sys2Proof.Machine
end

