-- ==== Sys2Proof/Machine/ImageOps.lean ====
section
/-! DEFINITION. Machine/ImageOps.lean: the show image: its sections, its records and the checks firmware makes before
it accepts one (R72 to R80, Tables 2.1 to 2.9, 4.3 to 4.6, 5.4). -/
namespace Sys2Proof.Machine
open Sys2Proof

/-- A section directory entry (R74). -/
structure Section where
  type : Nat
  required : Bool
  encrypted : Bool
  off : Nat
  bytes : Nat
  count : Nat
  deriving DecidableEq, Repr

/-- The section directory of an image. -/
def sectionsOf (b : List U8) : List Section :=
  (List.range (rd b 0x0C 2)).map fun i =>
    let o := rd b 0x48 4 + 16 * i
    ⟨rd b o 2, pbit b (o + 2) 0, pbit b (o + 2) 1, rd b (o + 4) 4, rd b (o + 8) 4, rd b (o + 12) 4⟩

/-- The section of a type. -/
def sectionOf (b : List U8) (t : Nat) : Option Section := (sectionsOf b).find? fun s => s.type == t

/-- The records of a section of fixed-size records. -/
def recordsOf (b : List U8) (t size : Nat) : List (List U8) :=
  match sectionOf b t with
  | none => []
  | some s => (List.range s.count).map fun i => bytesAt b (s.off + size * i) size

/-- The bytes of a section. -/
def sectionBytes (b : List U8) (t : Nat) : List U8 :=
  match sectionOf b t with
  | none => []
  | some s => bytesAt b s.off s.bytes

/-- A fixture record (Table 2.3). -/
def readFixture (r : List U8) : Fixture :=
  { id := p32 r 0, profile := rd r 4 2, kinetic := pbit r 6 0, closedLoop := pbit r 6 1, paramBase := rd r 8 4,
    route := rd r 12 4, rdmUid := rd r 16 6, houseGroup := p8 r 0x16, sensor := p16 r 0x18, destOffset := rd r 0x1C 4 }

/-- A profile record (Table 2.4). -/
def readProfile (r : List U8) : Profile :=
  { id := p32 r 0, paramCount := rd r 4 2, emitterCount := rd r 6 1, lambda := pInt r 8 4, desc := rd r 12 4,
    emitterRec := rd r 16 4, footprint := rd r 20 2 }

/-- A parameter descriptor (Table 2.5). -/
def readDesc (r : List U8) : ParamDesc :=
  { role := p8 r 0, outBits := p8 r 1, curve := rd r 2 2, default := p16 r 4, house := p16 r 6, kinetic := p16 r 8,
    outSlot := rd r 10 2 }

/-- A route record (Table 2.6). -/
def readRoute (r : List U8) : Route :=
  { kind := p8 r 0, port := p8 r 1, address := p32 r 4, slots := p16 r 8, minLead := p16 r 10 }

/-- A flow record (Table 2.7). -/
def readFlow (r : List U8) : Flow :=
  { id := p16 r 0, priority := pbits r 2 0 3, atomic := pbit r 2 3, segments := rd r 3 1, code := p32 r 4,
    paramFirst := rd r 8 4, paramSpan := rd r 12 4, pixelFirst := rd r 16 4, pixelSpan := rd r 20 4 }

/-- A cue record; its flow list stands in the CUES section at FLOW_LIST (Table 2.8). -/
def readCue (sec r : List U8) : Cue :=
  { id := p32 r 0, list := p8 r 4, start := pbit r 5 0, track := pbit r 5 1,
    flows := (List.range (rd r 6 2)).map (fun i => rd sec (rd r 8 4 + 2 * i) 2),
    fadeIn := rd r 12 4, fadeOut := rd r 16 4, follow := rd r 20 4, next := p32 r 24 }

/-- A trigger record (Table 2.9). -/
def readTrigger (r : List U8) : Trigger :=
  { id := p32 r 0, source := p8 r 4, action := p8 r 5, list := p8 r 6, rearm := rd r 7 1, cue := p32 r 8,
    observer := p32 r 12, condA := p32 r 16, condB := p32 r 20 }

/-- An emitter entry (Table 4.4). -/
def readEmitter (r : List U8) : Emitter :=
  { u := p16 r 0, v := p16 r 2, yRel := p16 r 4, pref := p16 r 6, ky := pInt r 8 2, ku := pInt r 10 2,
    kv := pInt r 12 2, paramOff := rd r 14 2 }

/-- An emitter record (Table 4.3). -/
def readEmitterRec (r : List U8) : EmitterRec :=
  { whiteU := p16 r 2, whiteV := p16 r 4, mu := p16 r 6, tRef := pInt r 8 2, iterations := rd r 10 1,
    emitters := (List.range (rd r 0 2)).map fun i => readEmitter (bytesAt r (0x20 + 16 * i) 16) }

/-- Whether y is `round(65,535 x (a / 65,535)^(g / 256))` or more: the nearest-integer test, with both sides raised to
the power 256 so that it is exact (R152). -/
def gammaAtLeast (a g y : Nat) : Bool :=
  if y = 0 then true else decide ((2 * y - 1) ^ 256 * 65535 ^ g ≤ (2 * 65535) ^ 256 * a ^ g)

/-- Bits of `round(65,535 x (a / 65,535)^(g / 256))`, most significant first (R152). -/
def gammaPoint (a g : Nat) : Nat :=
  (List.range 16).foldl (fun y i =>
    let y' := y + 2 ^ (15 - i)
    if gammaAtLeast a g y' then y' else y) 0

/-- A curve record with its points; a TYPE 1 curve is filled at activation (Table 4.5, R152). -/
def readCurve (r : List U8) : Curve :=
  if p8 r 0 = 1 then
    ⟨(List.range 257).map fun i => BitVec.ofNat 16 (gammaPoint (min 65535 (256 * i)) (rd r 2 2))⟩
  else ⟨(List.range 257).map fun i => p16 r (8 + 2 * i)⟩

/-- A kinetic record (Table 4.6). -/
def readKinetic (r : List U8) : KineticRec :=
  { vmax := rd r 0 4, amax := rd r 4 4, dmax := rd r 8 4, stopDmax := rd r 12 4, minPos := rd r 16 2,
    maxPos := rd r 18 2, slipSafe := pbit r 20 0, velocity := pbit r 20 1, blackoutMove := pbits r 20 2 2 == 1,
    blackoutPos := rd r 22 2, zero := rd r 24 2 }

/-- A pixel-map record (Table 5.4). -/
def readMap (r : List U8) : PixelMap :=
  { id := p32 r 0, ingest := p8 r 4 == 1, outBits := rd r 5 1, curve := rd r 6 2, slotBase := rd r 8 4,
    width := rd r 12 2, height := rd r 14 2, matrix := (List.range 12).map (fun i => pInt r (0x10 + 2 * i) 2),
    emitters := rd r 0x28 1, copies := rd r 0x29 1 }

/-- The size of the records of a section of fixed-size records (Table 2.2). -/
def recordSize (t : Nat) : Option Nat :=
  match t with
  | 1 => some 32 | 2 => some 64 | 3 => some 12 | 4 => some 2 | 5 => some 16 | 6 => some 24 | 7 => some 32
  | 8 => some 24 | 0xA => some 160 | 0xB => some 528 | 0xC => some 32 | 0xD => some 64
  | _ => none

/-- The image that a byte string spells, its sections in the clear. -/
def readImage (b : List U8) : Image :=
  { bytes := rd b 8 4, imageId := p64 b 0x10, showId := p64 b 0x18, triggerLeadUs := rd b 0x46 2,
    paramCount := rd b 0x38 4, pixelCount := rd b 0x3C 4,
    fixtures := (recordsOf b 1 32).map readFixture, profiles := (recordsOf b 2 64).map readProfile,
    descs := (recordsOf b 3 12).map readDesc, init := (recordsOf b 4 2).map (fun r => p16 r 0),
    routes := (recordsOf b 5 16).map readRoute, flows := (recordsOf b 6 24).map readFlow,
    cues := (recordsOf b 7 32).map (readCue (sectionBytes b 7)), triggers := (recordsOf b 8 24).map readTrigger,
    code := sectionBytes b 9, emitters := (recordsOf b 0xA 160).map readEmitterRec,
    curves := (recordsOf b 0xB 528).map readCurve, kinetic := (recordsOf b 0xC 32).map readKinetic,
    maps := (recordsOf b 0xD 64).map readMap, zones := sectionBytes b 0xE,
    codeAt := match sectionOf b 9 with
      | some s => s.off
      | none => 0 }

/-- Two byte ranges overlap. -/
def overlap (a b : Section) : Bool :=
  decide (a.off < b.off + b.bytes) && decide (b.off < a.off + a.bytes)

/-- Some two sections satisfy `p`. -/
def somePair (p : Section → Section → Bool) : List Section → Bool
  | [] => false
  | a :: t => t.any (p a) || somePair p t

/-- R76 check 1. -/
def checkHeader (b : List U8) (size : Nat) : Bool :=
  rd b 0 4 == 0x4B524B41 && rd b 4 2 == 2 && rd b 0x0E 2 == 256 && pbit b 0x24 0 && rd b 8 4 == size

/-- R76 check 4. -/
def checkSections (b : List U8) (size : Nat) : Bool :=
  let ss := sectionsOf b
  ss.all (fun s => decide (s.off + s.bytes ≤ size)) &&
  !somePair (fun x y => overlap x y || x.type == y.type) ss

/-- Kinetic parameter instances of an image. -/
def kineticCount (im : Image) : Nat :=
  (im.fixtures.map fun f => match im.profiles[f.profile]? with
    | none => 0
    | some p => ((List.range p.paramCount).filter fun i => match im.descs[p.desc + i]? with
        | some d => d.kinetic != 0xFFFF
        | none => false).length).sum

/-- R76 check 5. -/
def checkCounts (b : List U8) : Bool :=
  let im := readImage b
  let cnt := fun t => match sectionOf b t with
    | some s => s.count
    | none => 0
  let fits := fun t n => cnt t == n && (n == 0 || (sectionOf b t).isSome)
  decide (1 ≤ rd b 0x0C 2) && decide (rd b 0x0C 2 ≤ 64) &&
  decide (rd b 0x30 4 ≤ 131072) && decide (rd b 0x34 2 ≤ 1024) && decide (rd b 0x36 2 ≤ 4096) &&
  decide (rd b 0x38 4 ≤ 4194304) && decide (rd b 0x3C 4 ≤ 16777216) && decide (rd b 0x40 4 ≤ 65536) &&
  decide (rd b 0x44 2 ≤ 16384) && decide (100 ≤ rd b 0x46 2) && decide (rd b 0x46 2 ≤ 50000) &&
  (sectionsOf b).all (fun s => match recordSize s.type with
    | some n => decide (s.count * n ≤ if s.encrypted then s.bytes - 28 else s.bytes)
    | none => true) &&
  fits 1 (rd b 0x30 4) && fits 2 (rd b 0x34 2) && fits 4 (rd b 0x38 4) && fits 6 (rd b 0x36 2) &&
  fits 7 (rd b 0x40 4) && fits 8 (rd b 0x44 2) &&
  im.profiles.all (fun p => decide (1 ≤ p.paramCount) && decide (p.paramCount ≤ 512)) &&
  im.flows.all (fun f => decide (1 ≤ f.segments) && decide (f.segments ≤ 64)) &&
  decide ((im.flows.filter (·.atomic)).length ≤ 1024) &&
  decide (kineticCount im ≤ 32768) && decide (im.kinetic.length ≤ 4096)

/-- R76 check 6: a REQUIRED section of unknown type (Table 2.2). -/
def checkRequired (b : List U8) : Bool :=
  (sectionsOf b).all fun s => !s.required || (decide (1 ≤ s.type) && decide (s.type ≤ 14))

/-- R76: the reject reason of an image, 0 where every check passes. `sig` is whether the signature verifies; `plain` the
image with its encrypted sections in the clear, none where an authentication tag fails. -/
def imageReason (b : List U8) (size : Nat) (sig : Bool) (plain : Option (List U8)) : Nat :=
  if !checkHeader b size then 1
  else if !sig then 2
  else match plain with
    | none => 3
    | some p =>
      if !checkSections p size then 4
      else if !checkCounts p then 5
      else if !checkRequired p then 6
      else 0

/-! ### Looking records up -/

/-- The profile of a fixture. -/
def Image.profileOf (im : Image) (f : Fixture) : Option Profile := im.profiles[f.profile]?

/-- Parameters of a fixture: parameter index and descriptor. -/
def Image.paramsOf (im : Image) (f : Fixture) : List (Nat × ParamDesc) :=
  match im.profileOf f with
  | none => []
  | some p => (List.range p.paramCount).filterMap fun i => (im.descs[p.desc + i]?).map fun d => (f.paramBase + i, d)

/-- Fixtures with their indices. -/
def Image.indexed (im : Image) : List (Nat × Fixture) := im.fixtures.zipIdx.map fun e => (e.2, e.1)

/-- The kinetic parameter instances in order: fixture index, parameter index, descriptor. -/
def Image.kinetics (im : Image) : List (Nat × Nat × ParamDesc) :=
  im.indexed.flatMap fun e =>
    ((im.paramsOf e.2).filter fun p => p.2.kinetic != 0xFFFF).map fun p => (e.1, p.1, p.2)

/-- A CMU fixture: EMITTER_COUNT of 4 to 8 (R140). -/
def Image.isCmu (im : Image) (f : Fixture) : Bool :=
  match im.profileOf f with
  | some p => decide (4 ≤ p.emitterCount) && decide (p.emitterCount ≤ 8)
  | none => false

/-- The fixtures of a route. -/
def Image.fixturesOf (im : Image) (route : Nat) : List (Nat × Fixture) := im.indexed.filter fun e => e.2.route == route

/-- The latency compensations of the fixture types present at a route, in ns (R44). -/
def Image.lambdas (im : Image) (route : Nat) : List Int :=
  (im.fixturesOf route).filterMap fun e => (im.profileOf e.2).map (·.lambda)

/-- The least latency compensation at a route; 0 where it has no fixture. -/
def Image.leastLambda (im : Image) (route : Nat) : Int :=
  match im.lambdas route with
  | [] => 0
  | l :: ls => ls.foldl min l

/-- The slots a destination's update carries: those of its fixtures, at least SLOTS of its route. -/
def Image.slotSpace (im : Image) (route : Nat) : Nat :=
  (im.fixturesOf route).foldl (fun n e => match im.profileOf e.2 with
    | some p => max n (e.2.destOffset + p.footprint)
    | none => n) ((im.routes[route]?.map (·.slots.toNat)).getD 0)

/-- ATOMIC_SLOT of a flow: atomic flows are numbered in ascending flow index (R128). -/
def Image.atomicSlot (im : Image) (flow : Nat) : Nat := ((im.flows.take flow).filter (·.atomic)).length

/-- SEG_BASE: the sum of SEGMENTS over the flows of lower index (R126). -/
def Image.segBase (im : Image) (flow : Nat) : Nat := ((im.flows.take flow).map (·.segments)).sum

/-! ### Images of a swap (R100) -/

/-- The image whose routes the outputs follow: until the outputs of a swap are taken over, the old one. -/
def State.outImage (s : State) : Option Image :=
  match s.sh.swaps.find? fun w => w.stage != 0 with
  | some w => w.old
  | none => s.sh.active

/-- The image whose fixtures the loops and the limiter follow: until the frame gate reaches a swap, the old one. -/
def State.gateImage (s : State) : Option Image :=
  match s.sh.swaps.find? fun w => w.stage == 2 with
  | some w => w.old
  | none => s.sh.active

/-- The image that a frame is rendered under: the frames before a swap's first keep the old image (R100). -/
def State.imageFor (s : State) (m : U32) : Option Image :=
  match s.sh.swaps.find? fun w => decide (sdiff32 m w.frame < 0) with
  | some w => w.old
  | none => s.sh.active

/-- The first frame of the image after the one that frame `m` is rendered under (R100). -/
def State.swapAfter (s : State) (m : U32) : Option U32 :=
  (s.sh.swaps.find? fun w => decide (sdiff32 m w.frame < 0)).map (·.frame)

/-- The outputs of frame `m`'s image have been taken over. -/
def State.swapTaken (s : State) (m : U32) : Bool := s.sh.swaps.all fun w => w.stage == 0 || decide (sdiff32 m w.frame < 0)

end Sys2Proof.Machine
end

