-- ==== Sys2Proof/Machine/DeckOps.lean ====
section
/-! DEFINITION. Machine/DeckOps.lean: Deck: its regions, its two halves, its error code (R169 to R176). -/
namespace Sys2Proof.Machine
open Sys2Proof

/-- The byte address of a parameter in a half (Table 5.1). -/
def paramAddr (half1 : Bool) (i : Nat) : Nat := (if half1 then 0x0F800000 else 0x0F000000) + 2 * i

/-- The byte address of a pixel slot in a half (R173). -/
def pixelAddr (half1 : Bool) (i : Nat) : Nat := (if half1 then 0x06000000 else 0) + 6 * i

/-- The show-image region (Table 5.1). -/
def imageRegion : Nat := 0x0C000000

/-- Where a staged image of `n` bytes lies beside the active one in the region: at the other end. DESIGN CHOICE: the spec gives
no place (log entry 118). -/
def stagedBase (active : Option Image) (n : Nat) : Nat :=
  match active with
  | some im => if im.base = 0 then 0x03000000 - n else 0
  | none => 0

/-- A 16-bit little-endian read of Deck. -/
def Deck.r16 (d : Deck) (a : Nat) : U16 := BitVec.ofNat 16 (leVal (d.mem.reads 0 a 2))

/-- A 16-bit little-endian write of Deck. -/
def Deck.w16 (d : Deck) (a : Nat) (v : U16) : Deck := { d with mem := d.mem.writes 0 a (le 2 v.toNat) }

/-- A parameter of the current half: the last committed frame's (R81). -/
def Deck.param (d : Deck) (i : Nat) : U16 := d.r16 (paramAddr d.half1 i)

/-- A parameter of the next half, being written. -/
def Deck.nextParam (d : Deck) (i : Nat) : U16 := d.r16 (paramAddr (!d.half1) i)

/-- Write a parameter of the next half. -/
def Deck.setNext (d : Deck) (i : Nat) (v : U16) : Deck := d.w16 (paramAddr (!d.half1) i) v

/-- A half's index. -/
def halfIx (half1 : Bool) : Fin 2 := if half1 then 1 else 0

/-- The three components stored in a pixel slot of a half (R173). -/
def Deck.pixelRaw (d : Deck) (half1 : Bool) (i : Nat) : List U16 :=
  (List.range 3).map fun j => d.r16 (pixelAddr half1 i + 2 * j)

/-- A render slot outside every footprint of the half's frame reads as zero (R174). -/
def Deck.renderPixel (d : Deck) (half1 : Bool) (i : Nat) : List U16 :=
  if d.valid[halfIx half1].any fun r => decide (r.1 ≤ i) && decide (i < r.1 + r.2) then d.pixelRaw half1 i
  else [0, 0, 0]

/-- Store the three components of a pixel slot. -/
def Deck.setPixel (d : Deck) (half1 : Bool) (i : Nat) (p : List U16) : Deck :=
  { d with mem := d.mem.writes 0 (pixelAddr half1 i) (p.flatMap fun c => le 2 c.toNat) }

/-- Where slot (x, y) of copy `k` of an ingest map lies: half and slot index (R176). -/
def PixelMap.ingestSlot (m : PixelMap) (k x y : Nat) : Bool × Nat :=
  (k % 2 == 1, m.slotBase + (k / 2) * (m.width * m.height) + y * m.width + x)

/-- Slot (x, y) of a render map (R176). -/
def PixelMap.slot (m : PixelMap) (x y : Nat) : Nat := m.slotBase + y * m.width + x

/-! ### Error code (R171) -/

/-- Reads `n` bytes from address `a`: single-bit errors are corrected, written back and counted; a double-bit error is
counted, its address recorded, and E056 raised with the requester (R171). -/
def State.eccRead (s : State) (a n requester : Nat) : State :=
  (s.deck.ecc.filter fun e => decide (a / 8 ≤ e.1) && decide (e.1 * 8 < a + n)).foldl
    (fun s e =>
      if e.2 = 1 then
        { s with deck.ecc := s.deck.ecc.set 0 e.1 0, deck.eccCorrected := s.deck.eccCorrected.inc }
      else
        State.raiseF
          { s with deck.eccUncorrectable := s.deck.eccUncorrectable.inc, deck.lastUe := BitVec.ofNat 32 (8 * e.1) } 56
          [fN 0 4 (8 * e.1), fN 4 1 requester]) s

/-- Deck grants accesses to `n` bytes, 64 a cycle (R170). -/
def State.deckGrant (s : State) (n : Nat) : State := { s with deck.granted := s.deck.granted + ceilDiv n 64 }

/-- Bytes are written to Deck: their words take new code (R171). -/
def State.deckWrite (s : State) (a : Nat) (b : List U8) : State :=
  let s := s.deckGrant b.length
  { s with deck.mem := s.deck.mem.writes 0 a b,
           deck.ecc := s.deck.ecc.keep fun k _ => decide (8 * k < a) || decide (a + b.length ≤ 8 * k) }

/-- A word of the range holds an uncorrectable error. -/
def Deck.hasDouble (d : Deck) (a n : Nat) : Bool :=
  d.ecc.any fun e => decide (a / 8 ≤ e.1) && decide (e.1 * 8 < a + n) && e.2 == 2

/-! ### Beginning, copying and committing a frame -/

/-- Clear a byte range of Deck: its words are written, and their code with them. -/
def Deck.clear (d : Deck) (a n : Nat) : Deck :=
  { d with mem := d.mem.keep fun k _ => decide (k < a) || decide (a + n ≤ k),
           ecc := d.ecc.keep fun k _ => decide (8 * k < a) || decide (a + n ≤ 8 * k) }

/-- The next half takes frame `m`: parameters that no active flow writes hold DEFAULT, pixels zero (R81, R174). -/
def Deck.begin (d : Deck) (im : Image) (m : U32) : Deck :=
  if d.nextFrame = some m then d
  else
    let d := d.clear (paramAddr (!d.half1) 0) 0x800000
    let d := im.indexed.foldl (fun d e => (im.paramsOf e.2).foldl (fun d p => d.setNext p.1 p.2.default) d) d
    { d with nextFrame := some m, valid := d.valid.set (halfIx (!d.half1)) [] }

/-- R84: copy a flow's footprint from current into next. -/
def Deck.copyFootprint (d : Deck) (f : Flow) : Deck :=
  let d := (List.range f.paramSpan).foldl (fun d i => d.setNext (f.paramFirst + i) (d.param (f.paramFirst + i))) d
  let d := (List.range f.pixelSpan).foldl (fun d i =>
    d.setPixel (!d.half1) (f.pixelFirst + i) (d.renderPixel d.half1 (f.pixelFirst + i))) d
  let spans := (f.pixelFirst, f.pixelSpan) :: d.valid[halfIx (!d.half1)]
  { d with valid := d.valid.set (halfIx (!d.half1)) spans }

/-- The halves exchange roles (R83, R174). -/
def Deck.swap (d : Deck) : Deck := { d with half1 := !d.half1, nextFrame := none }

/-- R79: PARAM_INIT fills both halves of parameter state; the pixels of the frame that is current stand (R174). -/
def Deck.load (d : Deck) (im : Image) : Deck :=
  let d := (d.clear 0x0F000000 0x1000000)
  let mem := (im.init.zipIdx).foldl (fun m e =>
    (m.writes 0 (paramAddr false e.2) (le 2 e.1.toNat)).writes 0 (paramAddr true e.2) (le 2 e.1.toNat)) d.mem
  { d with mem := mem }

/-- Table 5.3: slot indices allowed at a frame rate N / D. -/
def pixelCapacity (n d : U32) : Nat :=
  if n.toNat ≤ 60 * d.toNat then 16777216
  else if n.toNat ≤ 120 * d.toNat then 8388608
  else 4194304

end Sys2Proof.Machine
end

