-- ==== Sys2Proof/Machine/FixOps.lean ====
section
/-! DEFINITION. Machine/FixOps.lean: colour, curves, spread-pulse patterns and kinetic limits (R140 to R165). -/
namespace Sys2Proof.Machine
open Sys2Proof

/-! ### Numbers (Table 4.2) -/

/-- A value saturated into u0.16. -/
def sat016 (x : Int) : Nat := (clampI 0 65535 x).toNat

/-- A quotient rounded to the nearest and saturated to s3.28. -/
def fxDiv (n : Int) (d : Nat) : Int := satS 32 (if d = 0 then Config.divZero n else roundDiv n d)

/-- A product of two s3.28 values. -/
def fxMul (a b : Int) : Int := satS 32 (roundDiv (a * b) (2 ^ 28))

/-- The integer square root, rounded down (R157), of a number below 2^70. -/
def isqrt (n : Nat) : Nat :=
  (List.range 36).foldl (fun r i =>
    let r' := r + 2 ^ (35 - i)
    if r' * r' ≤ n then r' else r) 0

/-! ### The solve (R143, R144) -/

/-- Three s3.28 tristimulus values. -/
structure Xyz where
  x : Int
  y : Int
  z : Int
  deriving DecidableEq, Repr

/-- A value of 2^-28 units times one in units of 2^-16, rounded to 2^-28 (R144). -/
def fxScale (a : Int) (y : Nat) : Int := roundDiv (a * y) 65536

/-- The column of a chromaticity at luminance `y`, each in units of 2^-16: products and quotients rounded to 2^-28 one after
the other, the column saturated as it is stored (R144). -/
def xyzOf (u v y : Nat) : Xyz :=
  { x := fxDiv (fxScale (9 * u * 4096) y * 2 ^ 28) (4 * v * 4096), y := satS 32 (y * 4096),
    z := fxDiv (fxScale ((12 * 65536 - 3 * u - 20 * v) * 4096) y * 2 ^ 28) (4 * v * 4096) }

/-- An emitter derated at a temperature `dT` above T_REF, s8.8 (R143): u, v, Y. -/
def Emitter.derate (e : Emitter) (dT : Int) : Nat × Nat × Nat :=
  (sat016 (e.u.toNat + roundDiv (e.ku * dT) (2 ^ 16)), sat016 (e.v.toNat + roundDiv (e.kv * dT) (2 ^ 16)),
   sat016 (e.yRel.toNat + roundDiv (e.yRel.toNat * e.ky * dT) (2 ^ 28)))

/-- A closed half-plane a x + b y + c >= 0. -/
structure HalfPlane where
  a : Int
  b : Int
  c : Int
  deriving DecidableEq, Repr

/-- The value of a half-plane's form at a point. -/
def HalfPlane.at (h : HalfPlane) (p : Int × Int) : Int := h.a * p.1 + h.b * p.2 + h.c

/-- The half-planes whose intersection is the convex hull of some points: the supporting lines through two of them,
and the bounding box. -/
def hull (ps : List (Int × Int)) : List HalfPlane :=
  let edges := ps.flatMap fun p => ps.filterMap fun q =>
    if p = q then none
    else
      let h : HalfPlane := ⟨p.2 - q.2, q.1 - p.1, p.1 * q.2 - q.1 * p.2⟩
      if ps.all fun r => decide (0 ≤ h.at r) then some h else none
  let box := match ps with
    | [] => []
    | p :: r => [⟨1, 0, -(r.foldl (fun m x => min m x.1) p.1)⟩, ⟨-1, 0, r.foldl (fun m x => max m x.1) p.1⟩,
                 ⟨0, 1, -(r.foldl (fun m x => min m x.2) p.2)⟩, ⟨0, -1, r.foldl (fun m x => max m x.2) p.2⟩]
  edges ++ box

/-- The point lies inside the hull, its edge included. -/
def inHull (hs : List HalfPlane) (p : Int × Int) : Bool := hs.all fun h => decide (0 ≤ h.at p)

/-- The largest part of the way from W, inside, to c that stays inside: numerator and denominator (R144). -/
def alpha (hs : List HalfPlane) (w c : Int × Int) : Int × Nat :=
  hs.foldl (fun (a : Int × Nat) h =>
    if h.at c < 0 then
      let n := h.at w
      let d : Nat := (h.at w - h.at c).toNat
      if n * (a.2 : Int) < a.1 * (d : Int) then (n, d) else a
    else a) ((1 : Int), 1)

/-- The squared distance of two points. -/
def dist2 (p q : Int × Int) : Int := (p.1 - q.1) ^ 2 + (p.2 - q.2) ^ 2

/-- The vertex of the hull nearest a point; the first of equal ones. -/
def nearestVertex (ps : List (Int × Int)) (w : Int × Int) : Int × Int :=
  let vs := ps.filter fun p => !inHull (hull (ps.filter (· != p))) p
  match (if vs.isEmpty then ps else vs) with
  | [] => w
  | p :: r => r.foldl (fun b q => if dist2 q w < dist2 b w then q else b) p

/-- Gamut mapping (R144): the chromaticity and whether it was mapped. -/
def mapGamut (ps : List (Int × Int)) (w c : Int × Int) : (Int × Int) × Bool :=
  let hs := hull ps
  if inHull hs c then (c, false)
  else if inHull hs w then
    let a := alpha hs w c
    let f := fxDiv (a.1 * 2 ^ 28) a.2
    let at_ := fun (x y : Int) => roundDiv (x * 4096 + fxMul f ((y - x) * 4096)) 4096
    ((at_ w.1 c.1, at_ w.2 c.2), true)
  else (nearestVertex ps w, true)

/-- A sum saturated to s3.28. -/
def fxAdd (a b : Int) : Int := satS 32 (a + b)

/-- A w - t, one axis after the other. -/
def residual (as : List Xyz) (ws : List Int) (t : Xyz) : Xyz :=
  let s := (as.zip ws).foldl (fun (s : Xyz) e =>
    ⟨fxAdd s.x (fxMul e.1.x e.2), fxAdd s.y (fxMul e.1.y e.2), fxAdd s.z (fxMul e.1.z e.2)⟩) ⟨0, 0, 0⟩
  ⟨fxAdd s.x (-t.x), fxAdd s.y (-t.y), fxAdd s.z (-t.z)⟩

/-- The inner product of two columns. -/
def Xyz.dot (a b : Xyz) : Int := fxAdd (fxAdd (fxMul a.x b.x) (fxMul a.y b.y)) (fxMul a.z b.z)

/-- The update of weight `i` in a sweep (R144). -/
def sweepStep (as : List Xyz) (bs : List Int) (mu : Int) (t : Xyz) (ws : List Int) (i : Nat) : List Int :=
  let a := as.getD i ⟨0, 0, 0⟩
  let w := ws.getD i 0
  let g := fxAdd (a.dot (residual as ws t)) (fxMul mu (fxAdd w (-(bs.getD i 0))))
  let d := (fxAdd (a.dot a) mu).toNat
  ws.set i (max 0 (fxAdd w (-(fxDiv (g * 2 ^ 28) d))))

/-- The sweeps of the solve. -/
def sweeps (as : List Xyz) (bs : List Int) (mu : Int) (t : Xyz) (n : Nat) : List Int :=
  (List.range n).foldl (fun ws _ => (List.range as.length).foldl (sweepStep as bs mu t) ws)
    (List.replicate as.length 0)

/-- Targets of a solve: u', v', luminance and, where the profile has a ROLE 1 parameter, intensity. -/
structure Target where
  u : U16
  v : U16
  l : U16
  intensity : Option U16
  deriving DecidableEq, Repr

/-- R144: the solve of one fixture with emitter record `r` at temperature `T` under integrators ix, iy, iz. -/
def solveAt (r : EmitterRec) (T : Int) (stale : Bool) (ix iy iz : Int) (g : Target) (m : U32) : Solve :=
  let l0 : Int := match g.intensity with
    | none => (g.l.toNat : Int) * 4096
    | some i => roundDiv ((g.l.toNat : Int) * 4096 * i.toNat) 65536
  let base : Solve := { frame := m, targetU := g.u, targetV := g.v, mappedU := g.u, mappedV := g.v, tempStale := stale }
  if l0 = 0 then base
  else
    let es := r.emitters.map fun e => e.derate (T - r.tRef)
    let as := es.map fun e => xyzOf e.1 e.2.1 e.2.2
    let c := mapGamut (es.map fun e => ((e.1 : Int), (e.2.1 : Int))) (r.whiteU.toNat, r.whiteV.toNat)
      (g.u.toNat, g.v.toNat)
    let cu := sat016 c.1.1
    let cv := sat016 c.1.2
    let t0 := xyzOf cu cv 65536
    let t : Xyz := ⟨satS 32 (roundDiv (t0.x * (65536 + ix)) 65536), satS 32 (roundDiv (t0.y * (65536 + iy)) 65536),
                    satS 32 (roundDiv (t0.z * (65536 + iz)) 65536)⟩
    let ws := sweeps as (r.emitters.map fun e => (e.pref.toNat : Int) * 4096) ((r.mu.toNat : Int) * 4096) t r.iterations
    let wmax := ws.foldl max 0
    let one : Int := 2 ^ 28
    let lmax := if wmax = 0 then one else min one (fxDiv (one * one) wmax.toNat)
    let l := min l0 lmax
    { base with mappedU := BitVec.ofNat 16 cu, mappedV := BitVec.ofNat 16 cv,
                lum := BitVec.ofNat 16 (sat016 (roundDiv l 4096)), outOfGamut := c.2, lumLimited := decide (lmax < l0),
                drives := (List.range 8).map fun i =>
                  BitVec.ofNat 16 (sat016 (roundDiv (fxMul l (ws.getD i 0) * 65535) (2 ^ 28))) }

/-! ### Curves and quantisation (R151 to R153) -/

/-- R152: a curve at an input. -/
def Curve.eval (c : Curve) (x : U16) : U16 :=
  let u := 256 * x.toNat
  let i := u / 65535
  let f := u - 65535 * i
  let p := fun k => ((c.points.getD k 0).toNat : Int)
  if i = 256 then c.points.getD 256 0
  else BitVec.ofInt 16 (p i + roundDiv ((p (i + 1) - p i) * f) 65535)

/-- Apply the curve that an index names; 0 is linear. -/
def Image.curve (im : Image) (idx : Nat) (x : U16) : U16 :=
  if idx = 0 then x
  else match im.curves[idx - 1]? with
    | none => Config.curveOut idx x
    | some c => c.eval x

/-- R153: a value reduced to 8 bits. -/
def quant8 (x : U16) : U8 := BitVec.ofNat 8 ((x.toNat * 255 + 32767) / 65535)

/-- A value reduced to `b` bits by the formula of R153. -/
def quantTo (b : Nat) (x : U16) : Nat := (x.toNat * (2 ^ b - 1) + 32767) / 65535

/-- The slot bytes of a value sent with OUT_BITS bits (R153, R282). -/
def outBytes (bits : U8) (x : U16) : List U8 := if bits = 16 then be 2 x.toNat else [quant8 x]

/-- R151: the emitter values of a pixel. -/
def PixelMap.mix (m : PixelMap) (p : List U16) : List U16 :=
  (List.range 4).map fun j =>
    let s := (List.range 3).foldl (fun (acc : Int) i => acc + m.matrix.getD (4 * i + j) 0 * ((p.getD i 0).toNat : Int)) 0
    BitVec.ofNat 16 (sat016 (roundDiv s (2 ^ 14)))

/-- The bytes of one component of a pixel map (R153, R302): 10 and 12 bits stand at the most significant end of 16. -/
def PixelMap.component (m : PixelMap) (im : Image) (x : U16) : List U8 :=
  let y := im.curve m.curve x
  if m.outBits = 8 then [quant8 y]
  else if m.outBits = 16 then be 2 y.toNat
  else be 2 (quantTo m.outBits y * 2 ^ (16 - m.outBits))

/-! ### Spread-pulse patterns (R154, R155) -/

/-- The `b` low bits of `j` in reverse order. -/
def bitrev (b j : Nat) : Nat :=
  (List.range b).foldl (fun r i => 2 * r + j / 2 ^ i % 2) 0

/-- The pulses of a pattern: sub-slot and high counts (R154). -/
def pwmPulses (d : U16) (bc n minNs : Nat) : List (Nat × Nat) :=
  let h := (roundDiv ((d.toNat : Int) * bc) 65535).toNat
  let m := ceilDiv minNs 4
  let e := ((List.range 6).reverse.find? fun e => decide (2 ^ e ≤ n) && decide (2 ^ e * m ≤ h)).getD 0
  let n' := 2 ^ e
  if h = 0 then []
  else if bc ≤ h then [(0, bc)]
  else (List.range n').map fun j =>
    (j * (n / n'), h / n' + (if bitrev e j < h % n' then 1 else 0))

/-- A value whose high counts fill the period holds the pin high (R154). -/
def pwmHolds (d : U16) (bc : Nat) : Bool := decide (bc ≤ (roundDiv ((d.toNat : Int) * bc) 65535).toNat)

/-- The high counts of the pulse that begins in sub-slot `k`, if one does (R154). -/
def pwmPulse (d : U16) (bc n minNs k : Nat) : Option Nat :=
  if pwmHolds d bc then some bc else ((pwmPulses d bc n minNs).find? (·.1 == k)).map (·.2)

/-- The high counts of sub-slot `k`'s pulse; 0 where none begins. -/
def pwmHigh (d : U16) (bc n minNs k : Nat) : Nat := (pwmPulse d bc n minNs k).getD 0

/-! ### Kinetic limits (R156 to R158) -/

/-- Per-frame limits V_f, A_f, D_f, S_f in units of 2^-16 (R156). -/
structure KinLimits where
  v : Nat
  a : Nat
  d : Nat
  s : Nat
  deriving DecidableEq, Repr

/-- A limit times T_eff to a power, truncated to 2^-16 and at least 2^-16 (R156). -/
def GridVals.kinLimit (g : GridVals) (slipSafe : Bool) (x pow : Nat) : Nat :=
  let f := if slipSafe then 256 - g.q.toNat else 256
  max 1 (x * 65536 * (g.d.toNat * f) ^ pow / (256 * g.den) ^ pow)

/-- The limits of a kinetic record under the grid settings in force (R156). -/
def KineticRec.limits (r : KineticRec) (g : GridVals) : KinLimits :=
  let e := if r.velocity then 1 else 2
  ⟨g.kinLimit r.slipSafe r.vmax 1, g.kinLimit r.slipSafe r.amax e, g.kinLimit r.slipSafe r.dmax e,
   g.kinLimit r.slipSafe r.stopDmax e⟩

/-- Velocity and position with the sign of `x`: -1, 0, 1. -/
def sgn (x : Int) : Int := if 0 < x then 1 else if x < 0 then -1 else 0

/-- One tracking step of a position parameter towards `target` (R157). -/
def KineticRec.trackPos (r : KineticRec) (L : KinLimits) (k : Kin) (target : Nat) : Kin :=
  let x : Int := (clampI r.minPos r.maxPos target) * 65536
  let p : Int := k.p
  let e := x - p
  let vd := sgn e * (min L.v (isqrt (2 * L.d * e.natAbs)) : Nat)
  let lim : Int := if k.v ≠ 0 ∧ (vd.natAbs < k.v.natAbs ∨ vd * k.v < 0) then L.d else L.a
  let v' := k.v + clampI (-lim) lim (vd - k.v)
  let p' := p + (k.v + v') / 2
  let snap := (x - p').natAbs ≤ 65536 ∧ v'.natAbs ≤ L.d
  let p'' := clampI (r.minPos * 65536) (r.maxPos * 65536) (if snap then x else p')
  { k with p := p''.toNat, v := if snap then 0 else v', target := BitVec.ofNat 16 (x / 65536).toNat }

/-- One step of a value towards a target, away from zero by `a` at most and towards it by `d` at most; a step never
crosses zero (R157). -/
def stepAbout (zero p x : Int) (a d : Int) : Int :=
  let q := p - zero
  let y := x - zero
  zero + (if q = 0 then clampI (-a) a y
    else if 0 < q then (if q ≤ y then q + min (y - q) a else q - min (q - max y 0) d)
    else (if y ≤ q then q - min (q - y) a else q + min (min y 0 - q) d))

/-- One tracking step of a velocity parameter (R157). -/
def KineticRec.trackVel (r : KineticRec) (L : KinLimits) (k : Kin) (target : Nat) : Kin :=
  let x := clampI r.minPos r.maxPos target * 65536
  let p' := stepAbout (r.zero * 65536) k.p x L.a L.d
  { k with p := p'.toNat, v := p' - k.p, target := BitVec.ofNat 16 (x / 65536).toNat }

/-- One tracking step. -/
def KineticRec.track (r : KineticRec) (L : KinLimits) (k : Kin) (target : Nat) : Kin :=
  if r.velocity then r.trackVel L k target else r.trackPos L k target

/-- One stop step (R158). -/
def KineticRec.stop (r : KineticRec) (L : KinLimits) (k : Kin) : Kin :=
  if r.velocity then
    let p' := stepAbout (r.zero * 65536) k.p (r.zero * 65536) L.s L.s
    { k with p := p'.toNat, v := p' - k.p }
  else
    let v' := k.v - sgn k.v * (min k.v.natAbs L.s : Nat)
    { k with p := (clampI 0 0xFFFFFFFF (k.p + (k.v + v') / 2)).toNat, v := v' }

/-- The parameter is at rest: v = 0, or the value of a velocity parameter is ZERO_VALUE. -/
def KineticRec.atRest (r : KineticRec) (k : Kin) : Bool :=
  if r.velocity then k.p == r.zero * 65536 else k.v == 0

/-- The value sent of a position: its integer part, rounded to nearest (R157). -/
def kinSent (p : Nat) : U16 := BitVec.ofNat 16 (min 65535 ((p + 32768) / 65536))

/-! ### Which mode governs (R158, R159, Table 4.7) -/

/-- The fixture is in house override: its HOUSE_GROUP is in the mask applied (R94). -/
def inHouse (mask : U32) (f : Fixture) : Bool := f.houseGroup != 0xFF && mask.getLsbD f.houseGroup.toNat

/-- A KINETIC_STOP covers a fixture (Table 4.15). -/
def KStop.covers (k : KStop) (fi : Nat) (f : Fixture) : Bool :=
  if k.scope = 0 then true
  else if k.scope = 1 then decide (k.first ≤ fi) && decide (fi < k.first + k.count)
  else f.houseGroup != 0xFF && k.groups.getLsbD f.houseGroup.toNat

/-- HOLD and BLACKOUT as the KINETIC_STOPs applied so far leave them for a fixture; RELEASE ends both (R165). -/
def stopsOn (ks : List KStop) (fi : Nat) (f : Fixture) : Bool × Bool :=
  (ks.filter fun k => k.applied && k.covers fi f).foldl (fun hb k =>
    if k.action = 1 then (true, hb.2) else if k.action = 2 then (hb.1, true) else (false, false)) (false, false)

/-- A cause of rank 1 that covers every parameter. -/
def StopCauses.any (c : StopCauses) : Bool := c.thermal || c.tamper || c.grid

/-- One step of a kinetic instance, by the first mode that applies (Table 4.7). `target` is the show's. -/
def Fix.kinStep (x : Fix) (g : GridVals) (mask : U32) (r : KineticRec) (fi : Nat) (f : Fixture) (d : ParamDesc)
    (target : U16) (m : U32) (k : Kin) : Kin :=
  let L := r.limits g
  let hb := stopsOn x.stops fi f
  let held := fun k' : Kin => { k' with mode := if r.atRest k' then 2 else 1, frame := m, stepped := true }
  if x.causes.any || hb.1 then held (r.stop L k)
  else if inHouse mask f then { r.track L k d.house.toNat with mode := 3, frame := m, stepped := true }
  else if hb.2 then
    if r.blackoutMove then { r.track L k r.blackoutPos with mode := 4, frame := m, stepped := true } else held (r.stop L k)
  else { r.track L k target.toNat with mode := 0, frame := m, stepped := true }

/-! ### Outputs (R140, R146, R282) -/

/-- The emitter whose drive a parameter of a CMU fixture holds. -/
def Image.emitterAt (im : Image) (f : Fixture) (param : Nat) : Option Nat :=
  match im.profileOf f with
  | none => none
  | some p => match im.emitters[p.emitterRec]? with
    | none => none
    | some r => (List.range r.emitters.length).find? fun i =>
        match r.emitters[i]? with
        | some e => f.paramBase + e.paramOff == param
        | none => false

/-- The house drives of a fixture as they stand now: what a lane has solved of the pass in progress counts (Table 4.9). -/
def State.houseDrives (s : State) (fi : Nat) : List U16 :=
  match s.fix.housePend.reverse.find? fun h => h.fixture == fi && decide (h.at_ ≤ s.now) with
  | some h => h.drives
  | none => s.fix.houseTable.get [] fi

/-- The value of a fixture's parameter as the output stage takes it, before its curve; none where it is not sent
(Table 4.1). House values replace rendered ones under R94. -/
def State.paramOut (s : State) (im : Image) (fi : Nat) (f : Fixture) (p : Nat) (d : ParamDesc) (kin : Option Nat) :
    Option U16 :=
  let cmu := im.isCmu f
  if cmu && (d.role == 1 || d.role == 2 || d.role == 3 || d.role == 4) then none
  else match kin with
    | some k => some (kinSent (s.fix.outCur.get 0 k))
    | none =>
      if inHouse s.sh.house.applied f then
        match (if cmu then im.emitterAt f p else none) with
        | some e => some ((s.houseDrives fi).getD e 0)
        | none => some d.house
      else some (s.deck.param p)

/-- The slots of one fixture: slot and byte. -/
def State.fixtureSlots (s : State) (im : Image) (ks : List (Nat × Nat × ParamDesc)) (fi : Nat) (f : Fixture) :
    List (Nat × U8) :=
  (im.paramsOf f).flatMap fun e =>
    match s.paramOut im fi f e.1 e.2 (if e.2.kinetic == 0xFFFF#16 then none
        else ks.findIdx? fun k => k.1 == fi && k.2.1 == e.1) with
    | none => []
    | some x => (outBytes e.2.outBits (im.curve e.2.curve x)).zipIdx.map fun b => (f.destOffset + e.2.outSlot + b.2, b.1)

/-- The slots of a route that fixtures cover; the others are zero (R282). -/
def State.routeSlots (s : State) (im : Image) (route : Nat) : List U8 :=
  let ks := im.kinetics
  let cells := (im.fixturesOf route).flatMap fun e => s.fixtureSlots im ks e.1 e.2
  (List.range (im.slotSpace route)).map fun i => match cells.find? (·.1 == i) with
    | some c => c.2
    | none => 0

/-- Slots of a route that belong to fixtures in house override. -/
def State.houseSlots (s : State) (im : Image) (route : Nat) : List Nat :=
  (im.fixturesOf route).flatMap fun e =>
    if inHouse s.sh.house.applied e.2 then (s.fixtureSlots im im.kinetics e.1 e.2).map (·.1) else []

end Sys2Proof.Machine
end

