-- ==== Sys2Proof/Machine/IngestOps.lean ====
section
/-! DEFINITION. Machine/IngestOps.lean: what the ingest unit makes of source samples: components, the conversion to R'G'B', and
scaling (R177 to R179). -/
namespace Sys2Proof.Machine
open Sys2Proof

/-- The source frame of a copy is 4:2:2 (Table 5.12 FORMAT). -/
def fmt422 (f : U8) : Bool := f == 1 || f == 2

/-- The source frame is RGB. -/
def fmtRgb (f : U8) : Bool := f == 5 || f == 6

/-- Bits per component. -/
def fmtBits (f : U8) : Nat := if f.toNat % 2 = 1 then 10 else 12

/-- Samples of `n` pixels: two a pixel in 4:2:2, three otherwise. -/
def fmtSamples (f : U8) (n : Nat) : Nat := if fmt422 f then 2 * n else 3 * n

/-- The key of sample `i` of a source line. -/
def sampleKey (line i : Nat) : Nat := 32768 * line + i

/-- A sample of a source frame, in the order of ST 2110-20: C'B Y'0 C'R Y'1 for 4:2:2, C'B Y' C'R, or R' G' B'. -/
def sampleAt (src : Tab U16) (line i : Nat) : Nat := (src.get 0 (sampleKey line i)).toNat

/-- The three code values of a source pixel; a chroma sample that 4:2:2 leaves out is the rounded mean of its neighbours, or a
copy of the last at the right edge (R178 step 1). -/
def sourceCodes (f : U8) (src : Tab U16) (width line x : Nat) : Nat × Nat × Nat :=
  if fmt422 f then
    let at_ := fun (k p : Nat) => sampleAt src line (4 * p + k)
    let chroma := fun k =>
      if x % 2 = 0 ∨ width ≤ x + 1 then at_ k (x / 2) else (at_ k (x / 2) + at_ k (x / 2 + 1) + 1) / 2
    (chroma 0, at_ (1 + 2 * (x % 2)) (x / 2), chroma 2)
  else (sampleAt src line (3 * x), sampleAt src line (3 * x + 1), sampleAt src line (3 * x + 2))

/-- A value as numerator and denominator. -/
structure Frac where
  n : Int
  d : Nat
  deriving DecidableEq, Repr

/-- A luma or RGB code value as a fraction of nominal peak (R178 step 3). -/
def lumaFrac (full : Bool) (b v : Nat) : Frac :=
  if full then ⟨v, 2 ^ b - 1⟩ else ⟨(v : Int) - 16 * 2 ^ (b - 8), 219 * 2 ^ (b - 8)⟩

/-- A chroma code value as a fraction of its range about zero. -/
def chromaFrac (full : Bool) (b v : Nat) : Frac :=
  if full then ⟨(v : Int) - 2 ^ (b - 1), 2 ^ b - 1⟩ else ⟨(v : Int) - 2 ^ (b - 1), 224 * 2 ^ (b - 8)⟩

/-- A fraction of full scale as a 16-bit component, rounded and saturated (R178 step 4). -/
def Frac.toComp (x : Frac) : U16 := BitVec.ofNat 16 (sat016 (roundDiv (65535 * x.n) x.d))

/-- A fraction plus `c` / 10000 of another. -/
def Frac.plus (x : Frac) (c : Int) (y : Frac) : Frac := ⟨10000 * x.n * y.d + c * y.n * x.d, 10000 * x.d * y.d⟩

/-- R'G'B' of Y'CbCr under the luma coefficients `kr` and `kb`, in ten-thousandths (R178 step 2). -/
def ycc (kr kb : Nat) (y cb cr : Frac) : List U16 :=
  let kg : Int := 10000 - kr - kb
  let a : Int := 2 * (10000 - kr)
  let b : Int := 2 * (10000 - kb)
  -- G' = Y' - (kr a Cr + kb b Cb) / kg
  let g : Frac := ⟨y.n * (10000 * kg * cr.d * cb.d) - kr * a * cr.n * y.d * cb.d - kb * b * cb.n * y.d * cr.d,
    y.d * (10000 * kg.toNat * cr.d * cb.d)⟩
  [(y.plus a cr).toComp, g.toComp, (y.plus b cb).toComp]

/-- The components of a source pixel (R178). -/
def convertPixel (f colour : U8) (full : Bool) (x : Nat × Nat × Nat) : List U16 :=
  let b := fmtBits f
  let l := fun v => lumaFrac full b v
  let c := fun v => chromaFrac full b v
  if fmtRgb f ∨ colour = 2 then [(l x.1).toComp, (l x.2.1).toComp, (l x.2.2).toComp]
  else if colour = 1 then ycc 2627 593 (l x.2.1) (c x.1) (c x.2.2)
  else ycc 2126 722 (l x.2.1) (c x.1) (c x.2.2)

/-- The six source positions of an output position and the phase of its filter (R179); positions beyond the crop stand at its
edge. -/
def scaleTaps (crop out i : Nat) : List (Nat × Int) :=
  let p := Config.scalePos crop out i
  (List.range 6).map fun (j : Nat) =>
    ((clampI 0 (crop - 1 : Nat) (p / 64 + (j : Nat) - 2)).toNat, Config.filterTap (p % 64).toNat j)

/-- The crop rectangle: origin and size (Table 5.8). -/
def IngestCfg.crop (c : IngestCfg) (w h : Nat) : (Nat × Nat) × Nat × Nat :=
  ((c.cropX.toNat, c.cropY.toNat), if c.cropW = 0 then w else c.cropW.toNat, if c.cropH = 0 then h else c.cropH.toNat)

/-- The components of a map's pixel, scaled from the crop of a source frame (R178, R179). -/
def scaledPixel (c : IngestCfg) (f : U8) (src : Tab U16) (w h : Nat) (m : PixelMap) (x y : Nat) : List U16 :=
  let k := c.crop w h
  let px := fun (a b : Nat) => convertPixel f c.colour c.full (sourceCodes f src w (k.1.2 + b) (k.1.1 + a))
  let ts := (scaleTaps k.2.2 m.height y).flatMap fun v => (scaleTaps k.2.1 m.width x).map fun u => (px u.1 v.1, u.2 * v.2)
  (List.range 3).map fun j =>
    BitVec.ofNat 16 (sat016 (roundDiv ((ts.map fun t => ((t.1.getD j 0).toNat : Int) * t.2).sum) (2 ^ 28)))

/-- The pixels of a band of 16 rows, in row order (R179). -/
def bandPixels (c : IngestCfg) (f : U8) (src : Tab U16) (w h : Nat) (m : PixelMap) (band : Nat) : List (List U16) :=
  (List.range (min m.height (16 * (band + 1)) - 16 * band)).flatMap fun r =>
    (List.range m.width).map fun x => scaledPixel c f src w h m x (16 * band + r)

/-! ### Reading a map in a frame (R174, R176, R181) -/

/-- The copy that frame `f` captured of the stream that writes map `mi`. -/
def State.capturedCopy (s : State) (mi : Nat) (f : U32) : Option (Fin 4) :=
  s.ingest.toList.findSome? fun g => (g.captures.find? fun c => c.frame == f && c.map == mi).map (·.copy)

/-- The three components of a slot of a map as frame `f` reads them: an ingest map's captured copy stands in for current
(R181). -/
def State.mapPixel (s : State) (mi : Nat) (m : PixelMap) (f : U32) (half1 : Bool) (x y : Nat) : List U16 :=
  if m.ingest then
    match s.capturedCopy mi f with
    | some c =>
      let a := m.ingestSlot c x y
      s.deck.pixelRaw a.1 a.2
    | none => (List.range 3).map fun j => Config.uncaptured mi (3 * (y * m.width + x) + j)
  else s.deck.renderPixel half1 (m.slot x y)

/-- A pixel slot as the tasks of frame `f` read it from current. -/
def State.currentPixel (s : State) (im : Image) (f : U32) (i : Nat) : List U16 :=
  match im.maps.zipIdx.find? fun e => e.1.ingest && decide (e.1.slotBase ≤ i) && decide (i < e.1.slotBase + e.1.width * e.1.height) with
  | some e => s.mapPixel e.2 e.1 f s.deck.half1 ((i - e.1.slotBase) % max 1 e.1.width) ((i - e.1.slotBase) / max 1 e.1.width)
  | none => s.deck.renderPixel s.deck.half1 i

/-- The components of pixel `i` of a map at its bit depth in frame `f`: `n` of them (R151). -/
def State.pixelBytes (s : State) (im : Image) (mi : Nat) (m : PixelMap) (f : U32) (i n : Nat) : List U8 :=
  ((m.mix (s.mapPixel mi m f s.deck.half1 (i % max 1 m.width) (i / max 1 m.width))).take n).flatMap (m.component im)

end Sys2Proof.Machine
end

