-- ==== Sys2Proof/Machine/HedgerowOps.lean ====
section
/-! DEFINITION. Machine/HedgerowOps.lean: Hedgerow: output leads, packing, updates in full and delta form, and updates
for immediate application (R221 to R223, R45, R96, R160). -/
namespace Sys2Proof.Machine
open Sys2Proof

/-! ### Output leads (R221, R45) -/

/-- Destination state of a route. -/
def State.dest (s : State) (route : Nat) : Dest := s.tre.dests.get {} route

/-- Change a destination. -/
def State.modDest (s : State) (route : Nat) (f : Dest → Dest) : State :=
  { s with tre.dests := s.tre.dests.upd {} route f }

/-- The output lead for an interval of `t` ns (R221): the bound MIN_LEAD, the least k that spans it, at most 2,047; and
whether it is held there. -/
def leadFor (g : GridVals) (minLead : U16) (t : Int) : U16 × Bool :=
  let k := max minLead.toNat (g.ticksUp t).toNat
  (BitVec.ofNat 16 (min k 2047), decide (2047 < k))

/-- A new result for O: a larger one applies from the next frame boundary, a smaller one after ten consecutive lower
results, or at once at the next boundary where `now10` (R221, R284). -/
def State.leadResult (s : State) (route : Nat) (r : U16 × Bool) (now10 : Bool) : State :=
  let d := s.dest route
  let d' : Dest :=
    if d.lead < r.1 then { d with leadNext := some r.1, lower := 0, capped := r.2 }
    else if r.1 < d.lead then
      if now10 || decide (10 ≤ d.lower + 1) then { d with leadNext := some r.1, lower := 0, capped := r.2 }
      else { d with lower := d.lower + 1 }
    else { d with lower := 0, capped := r.2 }
  (s.modDest route fun _ => d').raiseIf (!d.capped && d'.capped) 69 [fN 0 4 route]

/-- K_LOCAL: the largest, over destinations and the fixture types at each, of O less the latency compensation, in ticks
rounded up (R45, R217). O is a whole number of ticks, so that the compensation alone is rounded. The largest may be negative;
the 16-bit field then holds it in two's complement, and an engine without a destination reports 0 (log entry 113). -/
def Image.localLead (im : Image) (v : GridVals) (dests : Tab Dest) : U16 :=
  match (List.range im.routes.length).map fun r =>
      ((dests.get {} r).lead.toNat : Int) + v.ticksUp (-(im.leastLambda r)) with
  | [] => 0
  | k :: ks => BitVec.ofInt 16 (ks.foldl max k)

/-- K_LOCAL of the outputs as they stand (R217). -/
def State.localLead (s : State) : U16 :=
  match s.outImage with
  | none => 0
  | some im => im.localLead s.grid.v s.tre.dests

/-- A frame boundary: waiting output leads apply, and K_LOCAL follows (R221, R284). -/
def State.applyLeads (s : State) : State :=
  let ds := s.tre.dests.map fun e => (e.1, match e.2.leadNext with
    | some o => { e.2 with lead := o, leadNext := none }
    | none => e.2)
  let s := { s with tre.dests := ds }
  { s with tre.kLocal := s.localLead }

/-- The guaranteed VC2 rate R2 of a span, b/s (R203): shared with raster streams where the span carries one. -/
def State.r2 (s : State) (sp : Fin 12) : Nat :=
  let l := s.links[sp]
  let raster := s.raster.toList.any fun r => r.cfg.enable && r.cfg.span.toNat == sp.val
  let base := 58000000000 * l.rate / 16000
  if raster then base * l.cfg.w2.toNat / (max 1 (l.cfg.w2.toNat + l.cfg.w3.toNat)) else base

/-- The span a KIND 1 route names. -/
def Route.span (r : Route) : Fin 12 := ⟨r.port.toNat % 12, Nat.mod_lt _ (by decide)⟩

/-- R221 for a span receiver: D from the last echo, X from the largest update of the last REFRESH_FRAMES frames. -/
def State.spanLead (s : State) (route : Nat) (r : Route) : State :=
  let d := s.dest route
  let x := ceilDiv (8 * d.sizes.foldl max 0 * 1000000000) (max 1 (s.r2 r.span))
  let s := s.modDest route fun d => { d with xferNs := BitVec.ofNat 32 x }
  s.leadResult route
    (leadFor s.grid.v r.minLead (d.pathNs.toNat + x + s.tre.cfg.outputMarginUs.toNat * 1000)) false

/-! ### Packing (R222) -/

/-- The pixels that feed a span pixel destination: the spec names no map for it, so the map and its first slot are free
values. -/
def State.spanPixels (s : State) (im : Image) (route : Nat) (f : U32) : List (Nat × U8) :=
  match Config.spanPixelMap route with
  | none => []
  | some (mi, first) => match im.maps[mi]? with
    | none => []
    | some m => (((List.range (m.width * m.height)).flatMap fun i => s.pixelBytes im mi m f i m.emitters).zipIdx).map
        fun e => (first + e.2, e.1)

/-- Slots with the cells given in place of those they name. -/
def patch (cells : List (Nat × U8)) (slots : List U8) : List U8 :=
  slots.zipIdx.map fun e => match cells.find? (·.1 == e.2) with
    | some c => c.2
    | none => e.1

/-- The slots of a route's fixtures in house override, with their house values (R94). -/
def State.houseCells (s : State) (im : Image) (route : Nat) : List (Nat × U8) :=
  (im.fixturesOf route).flatMap fun e =>
    if inHouse s.sh.house.applied e.2 then s.fixtureSlots im im.kinetics e.1 e.2 else []

/-- The slot bytes of a destination in frame `f`, which is current. A pixel string carries its map's pixels (R281), and house values
in the slots that covered fixtures on it occupy (R94). -/
def State.packRoute (s : State) (im : Image) (route : Nat) (r : Route) (f : U32) : List U8 :=
  if r.kind = 4 then
    match im.maps[r.address.toNat]? with
    | none => []
    | some m => patch (s.houseCells im route)
        ((List.range r.slots.toNat).flatMap fun i => s.pixelBytes im r.address.toNat m f i m.emitters)
  else if r.kind = 1 then
    let px := s.spanPixels im route f
    let base := s.routeSlots im route
    if px.isEmpty then base
    else
      let n := px.foldl (fun n e => max n (e.1 + 1)) base.length
      (List.range n).map fun i => match px.find? (·.1 == i) with
        | some e => e.2
        | none => base.getD i 0
  else s.routeSlots im route

/-- A run of an update: first slot and data. -/
structure Run where
  start : Nat
  data : List U8
  deriving DecidableEq, Repr

/-- Runs over slots in rising order: consecutive slots join, and a gap of up to `gap` slots that stands in `fill` joins
them (R223). A run holds 32,768 bytes at most. -/
def mkRuns (vals : List U8) (fill : Nat → Bool) (gap : Nat) : List Nat → List Run
  | [] => []
  | a :: rest =>
    match mkRuns vals fill gap rest with
    | [] => [⟨a, [vals.getD a 0]⟩]
    | r :: rs =>
      let between := (List.range (r.start - (a + 1))).map (a + 1 + ·)
      if a < r.start ∧ between.length ≤ gap ∧ between.all fill ∧ r.data.length + between.length < 32768 then
        ⟨a, vals.getD a 0 :: (between.map fun i => vals.getD i 0) ++ r.data⟩ :: rs
      else ⟨a, [vals.getD a 0]⟩ :: r :: rs

/-- The slots of a route in groups of the latency compensation of their fixtures' profiles (R223). Slots that no fixture
covers stand in the first group. -/
def Image.slotGroups (im : Image) (route n : Nat) : List (Int × List Nat) :=
  let of := fun i => (im.fixturesOf route).findSome? fun e => match im.profileOf e.2 with
    | some p => if e.2.destOffset ≤ i ∧ i < e.2.destOffset + p.footprint then some p.lambda else none
    | none => none
  let ls := (im.lambdas route).eraseDups
  let ls := if ls.isEmpty then [0] else ls
  ls.zipIdx.map fun l => (l.1, (List.range n).filter fun i => match of i with
    | some x => x == l.1
    | none => l.2 == 0)

/-- The bytes of a run (R223). -/
def Run.bytes (r : Run) : List U8 :=
  be 4 r.start ++ be 2 r.data.length ++ be 2 0 ++ r.data ++ List.replicate ((4 - r.data.length % 4) % 4) 0

/-- The bytes of a group (R223). -/
def groupBytes (lambda : Int) (rs : List Run) : List U8 :=
  be 4 (BitVec.ofInt 32 lambda).toNat ++ be 2 rs.length ++ be 2 0 ++ rs.flatMap Run.bytes

/-- Split runs into parts that fit a message. -/
def splitParts : List (Int × Run) → List (List (Int × Run))
  | [] => []
  | x :: rest =>
    match splitParts rest with
    | [] => [[x]]
    | p :: ps =>
      if (x :: p).foldl (fun n e => n + e.2.data.length + 20) 0 ≤ 65000 then (x :: p) :: ps else [x] :: p :: ps

/-- The groups of one part. -/
def regroup : List (Int × Run) → List (Int × List Run)
  | [] => []
  | x :: rest =>
    match regroup rest with
    | [] => [(x.1, [x.2])]
    | g :: gs => if g.1 = x.1 then (x.1, x.2 :: g.2) :: gs else (x.1, [x.2]) :: g :: gs

/-- Marks of an update (Table 6.9). -/
structure UpdFlags where
  full : Bool := false
  immediate : Bool := false
  replace : Bool := false
  deriving DecidableEq, Repr

/-- One part of an update (Table 6.9), tagged with the root under which its frame was committed (R220, R229). -/
def State.updatePart (s : State) (frame base : U32) (fl : UpdFlags) (space part : Nat) (last : Bool)
    (gs : List (Int × List Run)) : List U8 :=
  let bits := (if fl.full then 1 else 0) + (if last then 2 else 0) + (if fl.immediate then 4 else 0) +
    (if fl.replace then 8 else 0) + (if s.pier.cfg.enable && s.pier.cfg.roleB then 16 else 0)
  let root := if fl.immediate then s.rootId else (s.committedRoot frame).getD (s.rootFor frame)
  be 4 frame.toNat ++ be 4 base.toNat ++ be 4 root.toNat ++ be 4 s.pier.epoch.toNat ++ be 2 part ++ be 2 bits ++
  be 2 gs.length ++ be 2 0 ++ be 4 space ++ be 4 0 ++ gs.flatMap fun g => groupBytes g.1 g.2

/-- Send an update in as many parts as it takes; its last part carries the note. -/
def State.sendUpdate (s : State) (node frame base : U32) (fl : UpdFlags) (space : Nat) (runs : List (Int × Run))
    (note : Option (U32 × Nat) := none) : State :=
  let parts := (splitParts runs).map regroup
  let parts := if parts.isEmpty then [[]] else parts
  if s.quiet then s
  else parts.zipIdx.foldl (fun s p =>
    let last := p.2 + 1 == parts.length
    s.unicast node 0x0020 (s.updatePart frame base fl space p.2 last p.1) (if last then note else none)) s

/-- The runs of an update: every slot, or the changed ones with gaps of up to 8 joined. -/
def updRuns (im : Image) (route : Nat) (old : Option (List U8)) (new : List U8) : List (Int × Run) :=
  (im.slotGroups route new.length).flatMap fun g =>
    let pick := match old with
      | none => g.2
      | some o => g.2.filter fun i => o.getD i 0 != new.getD i 0
    (mkRuns new (fun i => g.2.contains i) (if old.isSome then 8 else 0) pick).map fun r => (g.1, r)

/-- Data bytes of runs. -/
def runSize (rs : List (Int × Run)) : Nat := (rs.map fun r => r.2.data.length).sum

/-- Send frame `m` to a span receiver as a full refresh or a delta (R223); a route change is one of the learned route by which
its updates go (log entry 121). It is judged late or not as it leaves (R222). -/
def State.sendSpan (s : State) (im : Image) (route : Nat) (r : Route) (m : U32) (slots : List U8) : State :=
  let d := s.dest route
  let refresh := decide ((m.toNat + s.tre.nodeId.toNat) % (max 1 s.tre.cfg.refreshFrames.toNat) = 0)
  let via := s.routeTo r.address
  let moved := match d.via, via with
    | some a, some b => a != b
    | _, _ => false
  let old := if refresh || d.forceFull || moved || d.lastSent.isNone then none else some d.sentSlots
  let delta := updRuns im route old slots
  let full := old.isNone || decide (slots.length < 2 * runSize delta)
  let runs := if full then updRuns im route none slots else delta
  let s := s.sendUpdate r.address m (if full then 0xFFFFFFFF else lastFrame d.lastSent) { full := full } slots.length runs
    (some (m, route))
  s.modDest route fun d =>
    { d with lastSent := some m, sentEver := some m, sentSlots := slots, forceFull := false, via := via <|> d.via,
             fullRefreshes := if full then d.fullRefreshes.inc else d.fullRefreshes,
             sizes := (runSize runs :: d.sizes).take s.tre.cfg.refreshFrames.toNat }

/-- Insert by key, equal keys in order. -/
def insertBy (key : Nat → Int) (x : Nat) : List Nat → List Nat
  | [] => [x]
  | y :: ys => if key x < key y then x :: y :: ys else y :: insertBy key x ys

/-- Where the update of a route lies, from P(m), among those of its frame: its least latency compensation less sigma(O)
(R222). -/
def State.sendKey (s : State) (im : Image) (route : Nat) : Int := im.leastLambda route - s.grid.v.sigma (s.dest route).lead.toNat

/-- Routes in order of P(m) plus their least latency compensation less sigma(O) (R222). -/
def State.sendOrder (s : State) (im : Image) : List Nat :=
  (List.range im.routes.length).foldl (fun l r => insertBy (s.sendKey im) r l) []

/-- Updates kept: those of the last 32 frames. -/
def keepPacked (m : U32) (ps : List Packed) : List Packed := ps.filter fun p => decide (sdiff32 m p.frame < 32)

/-- R222: pack every destination's update of frame `m`; a span receiver's is sent at once by the engine holding
control. -/
def State.hedgerowSend (s : State) (m : U32) : State :=
  match s.sh.active with
  | none => s
  | some im =>
    let s := { s with tre.packed := keepPacked m s.tre.packed }
    (s.sendOrder im).foldl (fun s route => match im.routes[route]? with
      | none => s
      | some r =>
        let slots := s.packRoute im route r m
        let plain := State.packRoute { s with sh.house.applied := 0 } im route r m
        let s := { s with tre.packed := ⟨m, route, slots, plain⟩ :: s.tre.packed }
        if r.kind = 1#8 ∧ s.holdsFrame m = true then s.sendSpan im route r m slots else s) s

/-- The packed update of a frame for a route. -/
def State.packedOf (s : State) (m : U32) (route : Nat) : Option (List U8) :=
  (s.tre.packed.find? fun p => p.frame == m && p.route == route).map (·.slots)

/-! ### Immediate application (R96, R160, R161) -/

/-- A frame committed and not yet latched. -/
def State.unlatched (s : State) : List U32 :=
  (s.tre.committedUnder.map (·.1)).filter fun m => !(s.tre.latches.any fun l => l.1 == m)

/-- The runs of some cells, grouped. -/
def cellRuns (im : Image) (route : Nat) (cs : List (Nat × U8)) : List (Int × Run) :=
  let n := cs.foldl (fun n c => max n (c.1 + 1)) (im.slotSpace route)
  let vals := patch cs (List.replicate n 0)
  (im.slotGroups route n).flatMap fun g =>
    (mkRuns vals (fun _ => false) 0 (g.2.filter fun i => cs.any (·.1 == i))).map fun x => (g.1, x)

/-- IMMEDIATE to a span receiver, and REPLACE for every frame sent and not latched (R96, R160, R223). -/
def State.immediateSpan (s : State) (im : Image) (route : Nat) (r : Route) (cells : List (Nat × U8))
    (of : U32 → List (Nat × U8)) (replace : Bool) : State :=
  let base := lastFrame (s.dest route).lastSent
  let un := s.unlatched
  let s := s.sendUpdate r.address base base { immediate := true } (im.slotSpace route) (cellRuns im route cells)
  if replace then
    let s := un.reverse.foldl (fun s m =>
      s.sendUpdate r.address m base { replace := true } (im.slotSpace route) (cellRuns im route (of m))) s
    let held := match un with
      | m :: _ => of m
      | [] => cells
    s.modDest route fun d => { d with sentSlots := patch held d.sentSlots }
  else s.modDest route fun d => { d with sentSlots := patch cells d.sentSlots }

/-- Change the value in force of a PWM pin. -/
def State.setPwm (s : State) (pin : Nat) (f : PwmPin → PwmPin) : State :=
  if h : pin < 64 then { s with ports.pwm := s.ports.pwm.set pin (f s.ports.pwm[pin]) } else s

/-- The value of PWM pin `k` of a route in some slots: slots 2k and 2k + 1, or slot 2k widened by 257 (R282). -/
def pwmValue (cells : List (Nat × U8)) (k : Nat) : Option U16 :=
  match cells.find? (·.1 == 2 * k), cells.find? (·.1 == 2 * k + 1) with
  | some a, some b => some (BitVec.ofNat 16 (a.2.toNat * 256 + b.2.toNat))
  | some a, none => some (BitVec.ofNat 16 (a.2.toNat * 257))
  | none, _ => none

/-- Give a PWM pin its value from slots. -/
def State.pwmFrom (s : State) (pin : Nat) (cells : List (Nat × U8)) (k : Nat) : State :=
  match pwmValue cells k with
  | some v => s.setPwm pin fun x => { x with value := v }
  | none => s

/-- A house value ends the undriven period of a pin's pair in a mode that `m` picks (R280). -/
def State.driveNow (s : State) (pin : Nat) (m : U8 → Bool) : State :=
  if h : pin / 2 < 32 then
    let pr := s.ports.pair[pin / 2]
    if m pr.cfg.mode then { s with ports.pair := s.ports.pair.set (pin / 2) { pr with undriven := false } } else s
  else s

/-- House values for a pixel string: they are sent once the frame in progress is finished (R96). -/
def State.immediateString (s : State) (pin : Nat) (cells : List (Nat × U8)) : State :=
  if h : pin < 64 then
    let x := s.ports
    State.driveNow { s with ports := { x with strLast := x.strLast.set pin (patch cells x.strLast[pin]),
                                              strHouse := x.strHouse.set pin true } } pin fun m => m == 3 || m == 4
  else s

/-- The break and mark after break of a pair, in ns. -/
def PairCfg.lead (c : PairCfg) : Nat := (c.breakUs.toNat + c.mabUs.toNat) * 1000

/-- The time of one slot with its interslot mark, in ns. -/
def PairCfg.slotNs (c : PairCfg) : Nat := (44 + c.interslotUs.toNat) * 1000

/-- X of a DMX packet of `n` slots, in ns (Table 8.2). -/
def PairCfg.packetNs (c : PairCfg) (n : Nat) : Nat := c.lead + (n + 1) * c.slotNs

/-- A transmission is in progress at engine time `now`. -/
def PortTx.busy (t : PortTx) (now : Nat) : Bool := decide (now < t.stop)

/-- The engine time at which a house packet begins: the slot in progress completes; in a break or a mark it begins at
once (R289). -/
def Pair.houseAt (p : Pair) (now : Nat) : Nat :=
  match p.tx with
  | none => now
  | some t =>
    if t.busy now = false ∨ now < t.start + p.cfg.lead then now
    else
      let e := now - t.start - p.cfg.lead
      let j := e / p.cfg.slotNs
      if e % p.cfg.slotNs < 44000 then t.start + p.cfg.lead + j * p.cfg.slotNs + 44000 else now

/-- Immediate values on a DMX port: a house packet (R289), or, for the stop steps of a stopped grid, the next packet's
values (R287). Slots not given keep the values of the packet interrupted, or of the last packet. -/
def State.immediateDmx (s : State) (p : Fin 32) (slots : Nat) (cells : List (Nat × U8)) (house : Bool) : State :=
  let pr := s.ports.pair[p]
  if pr.cfg.mode != 1 then s
  else
    let cur := match pr.tx with
      | some t => if t.busy s.now then t.slots else pr.last
      | none => pr.last
    let vals := patch cells (bytesAt cur 0 slots)
    if house then
      let start := pr.houseAt s.now
      let tx : PortTx := ⟨none, start, start + pr.cfg.packetNs slots, true, vals⟩
      let pr := { pr with tx := some tx, last := vals, undriven := false }
      { s with ports.pair := s.ports.pair.set p pr }.emit (.dmx p.val true vals)
    else { s with ports.pair := s.ports.pair.set p { pr with last := vals } }

/-- Send new values of some slots of a destination for immediate application, and patch the frames that are packed and
not latched with the values `of` gives them (R96, R160, R223). -/
def State.immediateRoute (s : State) (im : Image) (route : Nat) (r : Route) (cells : List (Nat × U8))
    (of : U32 → List (Nat × U8)) (replace : Bool) : State :=
  if cells.isEmpty then s
  else
    let un := s.unlatched
    let packed := s.tre.packed.map fun p =>
      if p.route = route ∧ replace then { p with slots := patch (if un.contains p.frame then of p.frame else cells) p.slots }
      else p
    let s := { s with tre.packed := packed }
    if r.kind = 1#8 ∧ (s.holds || (s.grid.stopped && s.pier.heldAtStop)) = true then s.immediateSpan im route r cells of replace
    else if r.kind = 2 ∧ r.port.toNat / 2 < 32 then
      let p : Fin 32 := ⟨r.port.toNat / 2 % 32, Nat.mod_lt _ (by decide)⟩
      s.immediateDmx p r.slots.toNat cells replace
    else if h : r.kind = 3#8 ∧ r.port.toNat < 4 then
      let x := s.ports.sacn[r.port.toNat]
      let u := r.address.toNat
      let old := ((x.last.find? (·.1 == u)).map (·.2)).getD (List.replicate r.slots.toNat 0)
      let y := { x with last := (u, patch cells old) :: x.last.filter (·.1 != u) }
      { s with ports.sacn := s.ports.sacn.set r.port.toNat y }
    else if r.kind = 5 then
      (List.range (r.slots.toNat / 2)).foldl (fun s k =>
        let s := s.pwmFrom (r.port.toNat + k) cells k
        if replace && (pwmValue cells k).isSome then s.driveNow (r.port.toNat + k) (· == 5) else s) s
    else if r.kind = 4 ∧ replace = true then s.immediateString r.port.toNat cells
    else s

/-- The slots of the parameters that `pick` picks, with their values now. -/
def State.pickCells (s : State) (im : Image) (route : Nat) (pick : Fixture → ParamDesc → Bool) : List (Nat × U8) :=
  (im.fixturesOf route).flatMap fun e =>
    let slots := (im.paramsOf e.2).filter (fun p => pick e.2 p.2) |>.flatMap fun p =>
      (List.range (if p.2.outBits = 16 then 2 else 1)).map (e.2.destOffset + p.2.outSlot + ·)
    (s.fixtureSlots im im.kinetics e.1 e.2).filter fun c => slots.contains c.1

/-- Send the parameters that `pick` picks to every destination for immediate application; `outs` gives the kinetic
outputs of a frame packed and not latched, `first` those that go out now. -/
def State.immediateAll (s : State) (pick : Fixture → ParamDesc → Bool) (outs : U32 → Tab Nat) (first : Tab Nat) (replace : Bool) :
    State :=
  match s.outImage with
  | none => s
  | some im => im.routes.zipIdx.foldl (fun s r =>
      let cells := State.pickCells { s with fix.outCur := first } im r.2 pick
      let of := fun m => State.pickCells { s with fix.outCur := outs m } im r.2 pick
      s.immediateRoute im r.2 r.1 cells of replace) s

end Sys2Proof.Machine
end

