-- ==== Sys2Proof/Machine/ShowOps.lean ====
section
/-! DEFINITION. Machine/ShowOps.lean: triggers, cue lists, flow levels and the issue of render tasks (R85 to R90, R117,
R118, R126), house override masks (R94 to R97). -/
namespace Sys2Proof.Machine
open Sys2Proof

/-! ### Triggers (R87 to R89) -/

/-- The engine belongs to the OBSERVER's pier pair, or every engine observes (R87). -/
def State.isObserver (s : State) (t : Trigger) : Bool :=
  t.observer == 0xFFFFFFFF || t.observer == s.tre.nodeId ||
  (s.pier.cfg.enable && t.observer == s.pier.cfg.partnerId)

/-- R88: the first frame m with P(m - L) at or after `t`. -/
def Grid.frameAfter (g : Grid) (t : Int) : U32 :=
  let T := 1000000000 * max g.v.d.toNat 1
  let k := -(-((t - g.v.e) * (g.v.den : Nat)) / (T : Nat)) + g.v.l.toNat
  g.v.n0 + BitVec.ofNat 32 k.toNat

/-- R89: an assignment (TRIGGER_ID, m) reaches the engine; after the render start of m it is applied at the next render
start, with E035. -/
def State.takeTrigger (s : State) (id m : U32) : State :=
  let late := s.running && decide (sdiff32 m s.grid.nextRender < 0)
  let f := if late then s.grid.nextRender else m
  let trig := if s.sh.trig.contains (id, f) then s.sh.trig else s.sh.trig ++ [(id, f)]
  let s := { s with sh.trig := trig }
  s.raiseIf late 35 [f32 0 id, f32 4 m, f32 8 f]

/-- R87, R88: a trigger's condition is met at full time `t`. -/
def State.observe (s : State) (tr : Trigger) (t : Int) : State :=
  match s.sh.active with
  | none => s
  | some im =>
    if s.isObserver tr then
      let m := s.grid.frameAfter (t + im.triggerLeadUs * 1000)
      (s.flood 0x0010 (be 4 tr.id.toNat ++ be 4 m.toNat)).takeTrigger tr.id m
    else s

/-- Observe, at full time `t`, every trigger of the active image that satisfies `p`. -/
def State.observeAll (s : State) (p : Trigger → Bool) (t : Int) : State :=
  match s.sh.active with
  | none => s
  | some im => (im.triggers.filter p).foldl (fun s tr => s.observe tr t) s

/-- A crossing of an INPUT_LEVEL trigger's threshold: the named edge of a slot (R87). -/
def crosses (tr : Trigger) (old new : List U8) : Bool :=
  let i := (tr.condA.extractLsb' 0 16).toNat
  let th := (tr.condB.extractLsb' 0 16).toNat
  let o := (old.getD i 0).toNat
  let n := (new.getD i 0).toNat
  if tr.condB.getLsbD 16 then decide (th ≤ o) && decide (n < th) else decide (o < th) && decide (th ≤ n)

/-- Input universe of an INPUT_LEVEL trigger. -/
def Trigger.inputUniverse (tr : Trigger) : U16 := tr.condA.extractLsb' 16 16

/-- R87: the slots of an input universe change at full time `t`. -/
def State.inputChanged (s : State) (uni : U16) (old new : List U8) (t : Int) : State :=
  s.observeAll (fun tr => tr.source == 4 && tr.inputUniverse == uni && crosses tr old new) t

/-! ### Cue lists (R85, R86) -/

/-- level_in of R85 after `age` frames. -/
def levelIn (age ticks : Nat) : Nat := if ticks = 0 then 0xFFFF else min 0xFFFF (0xFFFF * (age + 1) * 256 / ticks)

/-- A flow begins to fade out from the level it had. -/
def FlowLevel.leave (f : FlowLevel) (ticks : Nat) : FlowLevel :=
  if f.out then f else { f with out := true, fadeOut := ticks, outAge := 0, outFrom := f.level }

/-- RELEASE fades every flow out from the level it has (R86). -/
def FlowLevel.release (f : FlowLevel) (ticks : Nat) : FlowLevel :=
  { f with out := true, fadeOut := ticks, outAge := 0, outFrom := f.level }

/-- A flow's level in the frame being sequenced (R85). -/
def FlowLevel.value (f : FlowLevel) : Nat :=
  if f.out then min f.outFrom (0xFFFF - levelIn f.outAge f.fadeOut) else levelIn f.inAge f.fadeIn

/-- A flow one frame on; a paused list freezes it. -/
def FlowLevel.advance (f : FlowLevel) : FlowLevel :=
  { f with level := f.value, inAge := if f.out then f.inAge else f.inAge + 1,
           outAge := if f.out then f.outAge + 1 else f.outAge }

/-- A cue takes effect on a list (R85, R86). DESIGN CHOICE: a GO or a GOTO ends a pause of its list (log entry 115). An incoming flow that had a level, though it was fading out,
stays in at full level; one of a cue passed over had none (R85, R90). -/
def CueList.enter (l : CueList) (ci : Nat) (c : Cue) (fades : Bool) : CueList :=
  let old := l.flows
  let isIn := fun f => old.any fun x => x.flow == f && !x.out
  let shown := fun f => old.any fun x => x.flow == f && decide (0 < x.level)
  let stay := if c.track then old.filter fun x => !(x.out && c.flows.contains x.flow)
    else (old.filter fun x => !c.flows.contains x.flow).map fun x => x.leave (if fades then c.fadeOut else 0)
  let incoming := (c.flows.eraseDups.filter fun f => !(c.track && isIn f)).map fun f =>
    ({ flow := f, fadeIn := if shown f || !fades then 0 else c.fadeIn } : FlowLevel)
  { l with cue := some ci, paused := false, flows := stay ++ incoming, age := 0,
           follow := if c.follow = 0 then none else some (ceilDiv c.follow 256) }

/-- The START cue of a list, else its lowest-indexed cue (R86). -/
def Image.firstCue (im : Image) (list : Nat) : Option Nat :=
  let own := im.cues.zipIdx.filter fun e => e.1.list.toNat == list
  match own.find? (fun e => e.1.start) with
  | some e => some e.2
  | none => (own.head?).map (·.2)

/-- Flows that a cue activates are no longer left out (R84). -/
def Show.refresh (x : Show) (c : Cue) : Show := { x with faulted := x.faulted.filter fun f => !c.flows.contains f }

/-- The playhead of a list. -/
def Show.list (x : Show) (l : Nat) : CueList := x.lists.get {} l

/-- Move a list's playhead to a cue. -/
def State.toCue (s : State) (im : Image) (l ci : Nat) (m : U32) : State :=
  match im.cues[ci]? with
  | none => s
  | some c =>
    let cl := { (s.sh.list l).enter ci c true with goFrame := m }
    { s with sh := { s.sh with lists := s.sh.lists.set {} l cl }.refresh c }

/-- R86: an action on a list at frame `m`. -/
def State.cueAction (s : State) (l : Nat) (action : U8) (cue : U32) (m : U32) : State :=
  match s.sh.active with
  | none => s
  | some im =>
    let cl := s.sh.list l
    let put := fun (c : CueList) => ({ s with sh.lists := s.sh.lists.set {} l c } : State)
    match action.toNat with
    | 1 =>
      match cl.cue with
      | none => match im.firstCue l with
        | some ci => s.toCue im l ci m
        | none => s.raiseF 36 [fN 0 1 l, fN 4 4 0xFFFFFFFF]
      | some ci =>
        let next : U32 := match im.cues[ci]? with
          | some c => c.next
          | none => 0xFFFFFFFF#32
        if next = 0xFFFFFFFF then s.raiseF 36 [fN 0 1 l, fN 4 4 ci] else s.toCue im l next.toNat m
    | 2 => s.toCue im l cue.toNat m
    | 3 => put { cl with paused := true }
    | 4 => put { cl with paused := false }
    | 5 =>
      let flows := match cl.cue.bind fun i => im.cues[i]? with
        | some c => cl.flows.map fun f => f.release c.fadeOut
        | none => cl.flows
      put { cl with paused := false, cue := none, follow := none, flows := flows }
    | _ => s

/-- A fade whose first frame is still to come. -/
def FlowLevel.fresh (f : FlowLevel) : Bool := if f.out then f.outAge == 0 else f.inAge == 0

/-- The frame's levels of a list, and the list one frame on (R85). A pause freezes every fade at the level of its first frame
or a later one (R86). -/
def CueList.advance (l : CueList) (im : Image) : CueList :=
  let fin := match l.cue.bind fun i => im.cues[i]? with
    | some c => c.fadeIn
    | none => 0
  let flows := l.flows.map fun f => if l.paused && !f.fresh then f else f.advance
  let l := { l with flows := flows.filter fun f => !(f.out && f.level == 0) }
  if l.paused && l.age != 0 then l
  else { l with age := l.age + 1, fadeLevel := if l.cue.isSome then levelIn l.age fin else 0 }

/-- Flows with their levels, the highest of the lists (R85); flows left out under R84 have none. -/
def Show.flowLevels (x : Show) : List (Nat × Nat) :=
  let all := x.lists.flatMap fun e => e.2.flows.map fun f => (f.flow, f.level)
  let flows := (all.map (·.1)).eraseDups
  (flows.map fun f => (f, (all.filter (·.1 == f)).foldl (fun m e => max m e.2) 0)).filter fun e =>
    decide (0 < e.2) && !x.faulted.contains e.1

/-! ### The cue sequencer (R89, R90, R117, R118) -/

/-- A trigger may be applied at frame `m`: its last application lies REARM_FRAMES or more back (R89). -/
def Show.rearmed (x : Show) (tr : Trigger) (m : U32) : Bool :=
  match x.trigLast.find? (·.1 == tr.id) with
  | none => true
  | some e => decide ((tr.rearm : Int) ≤ sdiff32 m e.2)

/-- Insert a trigger by TRIGGER_ID. -/
def insertTrig (t : Trigger) : List Trigger → List Trigger
  | [] => [t]
  | u :: us => if t.id.toNat < u.id.toNat then t :: u :: us else u :: insertTrig t us

/-- The triggers to apply at frame `m`, in order of TRIGGER_ID (R88, R89). -/
def State.triggersAt (s : State) (im : Image) (m : U32) : List Trigger :=
  (im.triggers.filter fun tr =>
    (tr.source == 6 && tr.condA == m) || s.sh.trig.contains (tr.id, m)).foldl (fun l t => insertTrig t l) []

/-- Apply the triggers of frame `m`. -/
def State.applyTriggers (s : State) (m : U32) : State :=
  match s.sh.active with
  | none => s
  | some im =>
    let s := (s.triggersAt im m).foldl (fun s tr =>
      if s.sh.rearmed tr m then
        let last := (tr.id, m) :: s.sh.trigLast.filter fun e => e.1 != tr.id
        State.cueAction { s with sh.trigLast := last } tr.list.toNat tr.action tr.cue m
      else s) s
    { s with sh.trig := s.sh.trig.filter fun e => decide (0 < sdiff32 e.2 m) }

/-- The CUE_GO is addressed to frame `m`, or to the first frame whose render start follows it (Table 2.15). -/
def CueAction.isFor (g : CueAction) (m : U32) : Bool := g.frame == m || g.frame == 0xFFFFFFFF

/-- Apply the CUE_GO commands of frame `m` in order of arrival. -/
def State.applyGoes (s : State) (m : U32) : State :=
  let s := (s.sh.goes.filter (·.isFor m)).foldl (fun s g => s.cueAction g.list.toNat g.action g.cue m) s
  { s with sh.goes := s.sh.goes.filter fun g => !g.isFor m }

/-- Apply due follows, and count the others (R85). -/
def State.applyFollows (s : State) (m : U32) : State :=
  (s.sh.lists.map (·.1)).foldl (fun s l =>
    let cl := s.sh.list l
    if cl.paused && cl.age != 0 then s
    else
      let s := if cl.follow = some 0 then
          State.cueAction { s with sh.lists := s.sh.lists.set {} l { cl with follow := none } } l 1 0 m
        else s
      let cl := s.sh.list l
      { s with sh.lists := s.sh.lists.set {} l { cl with follow := cl.follow.map (· - 1) } }) s

/-- The render task of a segment (Table 3.2, R126). -/
def State.renderTask (s : State) (im : Image) (m : U32) (flow level seg : Nat) (f : Flow) : Desc :=
  { frame := m, pShort := BitVec.ofInt 32 (s.grid.p m), flow := BitVec.ofNat 12 flow, segment := BitVec.ofNat 6 seg,
    source := 0, priority := ⟨f.priority % 8, Nat.mod_lt _ (by decide)⟩, atomic := f.atomic, gated := true,
    atomicSlot := if f.atomic then BitVec.ofNat 10 (im.atomicSlot flow) else 0, affKey := BitVec.ofNat 12 (im.segBase flow + seg),
    affValid := true, level := BitVec.ofNat 16 level, code := f.code }

/-- Issue the tasks of every flow with a level above zero, in flow order, and close the frame (R117, R118). -/
def State.issueTasks (s : State) (m : U32) : State :=
  match s.sh.active with
  | none => { s with sched.closed := m :: s.sched.closed }
  | some im =>
    let lv := s.sh.flowLevels
    let s := (List.range im.flows.length).foldl (fun s i => match im.flows[i]?, lv.find? (·.1 == i) with
      | some f, some l => (List.range f.segments).foldl (fun s g => s.submit (s.renderTask im m i l.2 g f)) s
      | _, _ => s) s
    { s with sh.levels := lv, sched.closed := m :: s.sched.closed.take 15 }

/-- The cue sequencer at S(m) (R89). -/
def State.sequence (s : State) (m : U32) : State :=
  let k : SeqKept := ⟨m, s.sh.lists, s.sh.trigLast, s.sh.trig, s.sh.goes⟩
  let s := { s with sh.kept := (k :: s.sh.kept).take 9 }
  let s := ((s.applyGoes m).applyTriggers m).applyFollows m
  let s := match s.sh.active with
    | none => s
    | some im => { s with sh.lists := s.sh.lists.map fun (e : Nat × CueList) => (e.1, e.2.advance im) }
  s.issueTasks m

/-- Every list at its START cue, taken with no fade (R100). DESIGN CHOICE: no GO put the playhead there, so GO_FRAME reads
0xFFFFFFFF (log entry 114). -/
def State.startCues (s : State) (im : Image) : State :=
  let lists := (im.cues.map (·.list.toNat)).eraseDups
  let s := { s with sh.lists := [], sh.faulted := [], sh.trigLast := [] }
  lists.foldl (fun s l =>
    match im.cues.zipIdx.find? fun e => e.1.list.toNat == l && e.1.start with
    | some e => { s with sh.lists := s.sh.lists.set {} l (({} : CueList).enter e.2 e.1 false) }
    | none => s) s

/-! ### House override (R94 to R97) -/

/-- The group mask that the sources assert (R95). -/
def House.mask (h : House) : U32 :=
  let pin := if h.pin && h.cfg.pinEnable then h.cfg.mask else 0
  (h.privet.map (·.2)).foldl (· ||| ·) ((h.flooded.map (·.2)).foldl (· ||| ·) (pin ||| h.partner))

/-- The sources that assert, as E038 reports them. -/
def House.sources (h : House) : Nat :=
  (if h.pin && h.cfg.pinEnable then 1 else 0) + (if h.privet.isEmpty then 0 else 2) +
  (if h.flooded.isEmpty then 0 else 4) + (if h.partner = 0 then 0 else 8)

/-- The mask that the engine's own sources assert: HOUSE_N and its Privet stations (R95). -/
def House.own (h : House) : U32 :=
  (h.privet.map (·.2)).foldl (· ||| ·) (if h.pin && h.cfg.pinEnable then h.cfg.mask else 0)

/-- HOUSE message of a mask (Table 6.5): a release where it is empty (R379). -/
def houseMsg (mask : U32) : List U8 := be 4 mask.toNat ++ be 1 (if mask = 0 then 2 else 1) ++ be 3 0

/-- The house sources change: an assertion waits for the next tick boundary (R96), a release for the next LATCH (R97); so
does an assertion of the engine's own sources for groups that others had asserted, which FLOOD passes on. A release of the engine's own sources is flooded where FLOOD is set, as its assertion was. -/
def State.houseChange (s : State) (f : House → House) : State :=
  let h := f s.sh.house
  let s0 := s.sh.house
  let old := s0.mask
  let new := h.mask
  let s := { s with sh.house := { h with due := h.due || decide (new &&& ~~~h.applied ≠ 0) || decide (h.own &&& ~~~h.ownApplied ≠ 0),
                                         ownApplied := h.ownApplied &&& h.own,
                                         release := h.release || decide (h.applied &&& ~~~new ≠ 0) } }
  let s := if h.cfg.flood ∧ (s0.own &&& ~~~h.own) ≠ 0 then s.flood 0x0011 (houseMsg h.own) else s
  let s := s.raiseIf (old == 0 && new != 0) 38 [f32 0 new, fN 4 1 h.sources]
  s.raiseIf (old != 0 && new == 0) 38 [f32 0 0, fN 4 1 0]


end Sys2Proof.Machine
end

