-- ==== Sys2Proof/Machine/PierOps.lean ====
section
/-! DEFINITION. Machine/PierOps.lean: pier pairs: states, checks, release and claim, digests, resynchronisation
(R374 to R398). -/
namespace Sys2Proof.Machine
open Sys2Proof

/-! ### States (R384, Table 11.6) -/

/-- The engine is in a pier pair. -/
def State.paired (s : State) : Bool := s.pier.cfg.enable

/-- The radio interfaces of an engine that is standby in a pair only receive (R370); a stopped pair's holder goes on. -/
def State.radioStandby (s : State) : Bool := s.paired && !(s.holds || (s.grid.stopped && s.pier.heldAtStop))

/-- STATE of a radio interface as it stands (Table 10.9). -/
def State.radioSt (s : State) (r : Radio) : Nat :=
  if r.cfg.enable = false then 0
  else if r.driver.isNone then (if r.st = 5 then 5 else 0)
  else if s.radioStandby then 4
  else if r.cfg.child then (if r.lost then 3 else 2)
  else 1

/-- Give an interface its STATE; a change raises E096 (R353). -/
def State.radioTo (s : State) (i : Fin 4) (st : Nat) : State :=
  let old := s.radio.ri[i].st
  if st = old then s
  else State.raiseF { s with radio.ri := s.radio.ri.set i { s.radio.ri[i] with st := st } } 96 [fN 0 1 i.val, fN 1 1 st, fN 2 1 old]

/-- The interfaces follow the pair (R370). -/
def State.radioFollow (s : State) : State :=
  (List.finRange 4).foldl (fun (s : State) i => s.radioTo i (s.radioSt s.radio.ri[i])) s

/-- Change the pier state; each change raises E104, and PIER_ACT_OUT follows control (R375, R384). -/
def State.pierTo (s : State) (st : Nat) : State :=
  if s.pier.st = st then s
  else
    let old := s.pier.st
    let act := if st = 0 then none else some (s.box.strict == 0 && (st == 2 || st == 3 || st == 4))
    State.radioFollow (State.raiseF { s with pier.st := st, pier.actOut := act, pier.refreshAt := s.now } 104
      [fN 0 1 st, fN 1 1 old])

/-- The interval of HB_MISS heartbeats, in ns (R383). -/
def State.silenceNs (s : State) : Nat := s.pier.cfg.hbMiss.toNat * s.grid.ticksNs 16

/-- No partner heartbeat for HB_MISS intervals (R383). -/
def State.partnerSilent (s : State) : Bool :=
  match s.pier.hb with
  | none => true
  | some t => decide (t + s.silenceNs < s.now)

/-- The partner's newest heartbeat, received within the last two intervals, shows STANDBY with CHECKS zero (R386). -/
def State.partnerEligible (s : State) : Bool :=
  s.pier.partnerState == 5 && s.pier.partnerChecks == 0 &&
  (match s.pier.hb with
   | none => false
   | some t => decide (s.now ≤ t + 2 * s.grid.ticksNs 16))

/-- The state of an engine holding control (Table 11.6). -/
def State.holderState (s : State) : State :=
  s.pierTo (if s.pier.checks != 0 || s.pier.degraded then 4 else if s.partnerSilent then 3 else 2)

/-- R381, Table 11.6: an engine without control is eligible. -/
def State.eligible (s : State) : Bool :=
  s.pier.checks == 0 && decide (s.pier.cfg.digestClean.toNat ≤ s.pier.clean.toNat)

/-- STANDBY and INELIGIBLE follow eligibility; a resynchronisation in progress stands. -/
def State.standbyState (s : State) : State :=
  if s.pier.st = 5 ∨ s.pier.st = 6 then s.pierTo (if s.eligible then 5 else 6)
  else if s.pier.st = 7 ∧ s.pier.resync.isNone ∧ s.pier.resyncAsked = false ∧ s.eligible then s.pierTo 5
  else s

/-- A resync is asked for over the pier link (R392 step 1); while the link is down the engine stays INELIGIBLE (R396). -/
def State.askResync (s : State) : State :=
  if s.holds ∨ s.pier.resyncGivenUp then s
  else if s.links[s.pierSpan].st ≠ 2 then State.pierTo { s with pier.resyncAsked := false, pier.resync := none } 6
  else
    let s := State.pierTo { s with pier.resyncAsked := true, pier.resync := none } 7
    (s.toPartner 0x0066 (be 4 s.memberId.toNat ++ be 1 1 ++ be 3 0 ++ be 4 0 ++ be 4 0)).raiseF 109 [fN 0 1 1, fN 4 4 0]

/-! ### Receivers, releases and claims (R386 to R388) -/

/-- The receivers of the engine's KIND 1 and KIND 6 routes. -/
def State.pierReceivers (s : State) : List U32 :=
  match s.outImage with
  | none => []
  | some im => ((im.routes.filter fun r => r.kind == 1 || r.kind == 6).map (·.address)).eraseDups

/-- Send a pier message to the partner and to every receiver (R386, R388). -/
def State.pierSend (s : State) (type : U16) (payload : List U8) : State :=
  s.pierReceivers.foldl (fun s n => s.unicast n type payload) (s.toPartner type payload)

/-- The payload of PIER_RELEASE (Table 11.4). -/
def State.releaseMsg (s : State) (frame : U32) (cause : Nat) : List U8 :=
  be 4 s.memberId.toNat ++ be 4 s.pier.epoch.toNat ++ be 4 frame.toNat ++ be 1 cause ++ be 3 0

/-- The payload of PIER_CLAIM (Table 11.4). -/
def State.claimMsg (s : State) (frame : U32) (cause : Nat) : List U8 :=
  be 4 s.memberId.toNat ++ be 4 s.pier.epoch.toNat ++ be 4 frame.toNat ++
  be 1 (if s.pier.cfg.roleB then 1 else 0) ++ be 1 cause ++ be 2 0

/-- P' of a frame as latched; P where no LATCH of it has arrived (R388). -/
def Grid.pLatched (g : Grid) (m : U32) : Int := g.p m + (g.vals m).sigma (slipIn g.latched m)

/-- R388 step 2: the oldest frame whose instant, at the least latency compensation, has not passed. -/
def State.fromFrame (s : State) : U32 :=
  let lam := match s.outImage with
    | none => 0
    | some im => (List.range im.routes.length).foldl (fun l r => min l (im.leastLambda r)) 0
  let start := s.grid.nextPresent - 16
  let cand := (List.range 64).map fun i => start + BitVec.ofNat 32 i
  (cand.find? fun f => !(s.grid.before f) && decide ((s.full : Int) ≤ s.grid.pLatched f + lam)).getD s.grid.nextPresent

/-- REPORT of a committed frame (Table 6.5). -/
def State.sendReport (s : State) (m : U32) (t : Nat) : State :=
  s.flood 0x0002 (be 4 m.toNat ++ be 4 (BitVec.ofNat 32 t).toNat ++ be 4 s.memberId.toNat ++ be 4 1)

/-- R386: release control with a cause. An engine against which a divergence was judged resynchronises (R385, R392). -/
def State.release (s : State) (cause : Nat) : State :=
  let f := s.fromFrame
  let s := s.pierSend 0x0061 (s.releaseMsg f cause)
  let s := State.raiseF { s with pier.releases := s.pier.releases.inc, pier.degraded := false, pier.pend := none } 106
    [f32 0 s.pier.epoch, f32 4 f, fN 8 1 cause]
  let s := s.pierTo 6
  if s.pier.checks.getLsbD 5 then s.askResync else s

/-- Send a committed frame to every span receiver as a full refresh (R388 step 5). -/
def State.resendFrame (s : State) (m : U32) : State :=
  match s.outImage with
  | none => s
  | some im => (s.sendOrder im).foldl (fun s route => match im.routes[route]?, s.packedOf m route with
      | some r, some slots =>
        if r.kind = 1#8 then (s.modDest route fun d => { d with forceFull := true }).sendSpan im route r m slots else s
      | _, _ => s) s

/-- The member's own REPORT of a frame not latched is sent again. -/
def State.resendReport (s : State) (m : U32) : State :=
  match s.tre.reports.find? fun r => r.1 == m && r.2.1 == s.memberId with
  | some r => s.sendReport m r.2.2
  | none => s

/-- The next update of every destination is a full refresh (R223). -/
def State.forceFull (s : State) : State :=
  { s with tre.dests := s.tre.dests.map fun (e : Nat × Dest) => (e.1, { e.2 with forceFull := true }) }

/-- R388: claim control from a frame. -/
def State.claimFrom (s : State) (cause : Nat) (f : U32) : State :=
  let inel := s.pier.st == 6 || s.pier.st == 7
  let epoch := (if s.pier.epoch.toNat < s.pier.partnerEpoch.toNat then s.pier.partnerEpoch else s.pier.epoch) + 1
  let s := { s with pier.epoch := epoch, pier.epochStored := epoch, pier.claims := s.pier.claims.inc,
                    pier.started := true, pier.resync := none, pier.resyncAsked := false, pier.pend := none,
                    pier.claimedAt := some s.grid.tickCount }
  let s := s.forceFull.pierSend 0x0062 (s.claimMsg f cause)
  let s := (State.floodMember s.holderState).issuerChange
  let frames := (s.tre.committedUnder.map (·.1)).reverse
  let s := (frames.filter fun m => decide (0 ≤ sdiff32 m f)).foldl State.resendFrame s
  let s := (s.unlatched.reverse).foldl State.resendReport s
  let s := s.raiseF 105 [f32 0 s.pier.epoch, f32 4 f, fN 8 1 cause, fN 9 1 1]
  s.raiseIf inel 111 [fN 0 1 2, f8 1 s.pier.checks]

/-- R388 with FROM_FRAME by its step 2. -/
def State.claim (s : State) (cause : Nat) : State := s.claimFrom cause s.fromFrame

/-! ### Planned handovers (R393 to R395, R397) -/

/-- R394: the outgoing engine releases from frame M on; it keeps control of the frames before. -/
def State.sendPlanned (s : State) (h : Handover) : State :=
  let s := s.pierSend 0x0061 (s.releaseMsg h.frame h.cause.toNat)
  State.raiseF { s with pier.releases := s.pier.releases.inc, pier.pend := some { h with sent := true } } 106
    [f32 0 s.pier.epoch, f32 4 h.frame, f8 8 h.cause]

/-- A planned handover that waits for the LATCH of M - 1. -/
def State.plannedStep (s : State) : State :=
  match s.pier.pend with
  | some h => if h.outgoing && !h.sent && decide (0 ≤ sdiff32 s.grid.nextLatch h.frame) then s.sendPlanned h else s
  | none => s

/-- R394: the incoming engine claims from frame M on; control passes at C'(M). -/
def State.claimPlanned (s : State) (f : U32) (cause : U8) : State :=
  let epoch := (if s.pier.epoch.toNat < s.pier.partnerEpoch.toNat then s.pier.partnerEpoch else s.pier.epoch) + 1
  let s := { s with pier.epoch := epoch, pier.epochStored := epoch, pier.claims := s.pier.claims.inc, pier.revertAsked := none,
                    pier.pend := some ⟨f, cause, false, true⟩, pier.claimedAt := some s.grid.tickCount }
  let s := s.forceFull.pierSend 0x0062 (s.claimMsg f cause.toNat)
  let frames := (s.tre.committedUnder.map (·.1)).reverse
  let s := (frames.filter fun m => decide (0 ≤ sdiff32 m f)).foldl State.resendFrame s
  let s := (s.unlatched.reverse.filter fun m => decide (0 ≤ sdiff32 m f)).foldl State.resendReport s
  s.raiseF 105 [f32 0 s.pier.epoch, f32 4 f, f8 8 cause, fN 9 1 1]

/-- R395: the handover is cancelled; E105. An outgoing engine whose release went out claims again, so that receivers keep
taking its updates. -/
def State.cancelPlanned (s : State) (h : Handover) : State :=
  let s := State.raiseF { s with pier.pend := none } 105 [f32 0 s.pier.epoch, f32 4 h.frame, f8 8 h.cause, fN 9 1 2]
  if h.outgoing && h.sent then s.claimFrom h.cause.toNat h.frame else s

/-- PIER_REVERT (Table 11.4): 1 request, 2 accept, 3 refuse. -/
def State.sendRevert (s : State) (frame : U32) (kind : Nat) : State :=
  s.toPartner 0x0065 (be 4 s.memberId.toNat ++ be 4 frame.toNat ++ be 1 kind ++ be 3 0)

/-! ### Checks (R385, R386, R395, Table 11.7) -/

/-- The bit of check `n`. -/
def checkBit (n : Nat) : U8 := BitVec.ofNat 8 (2 ^ (n - 1))

/-- Check `n` fails. `always`: an orderly thermal stop, which always releases. -/
def State.checkFail (s : State) (n : Nat) (always : Bool) : State :=
  if !s.paired then s
  else
    let was := s.pier.checks.getLsbD (n - 1)
    let s := { s with pier.checks := s.pier.checks ||| checkBit n }
    if s.holds then
      if always || (!was && s.partnerEligible) then s.release n
      else if was then s
      else (s.holderState).raiseF 111 [fN 0 1 1, f8 1 s.pier.checks]
    else
      match s.pier.pend with
      | some h =>
        if h.outgoing = false then State.standbyState ((s.sendRevert h.frame 3).cancelPlanned h) else s.standbyState
      | none => s.standbyState

/-- Check `n` no longer fails, unless an injection forces it (R484). -/
def State.checkClear (s : State) (n : Nat) : State :=
  if s.pier.checks.getLsbD (n - 1) && !(s.sys.inject.check.any fun c => c.active && c.code == n) then
    let s := { s with pier.checks := s.pier.checks &&& ~~~(checkBit n) }
    if s.pier.st = 4 then s.holderState else s.standbyState
  else s

/-- Forced check failures at the start of frame `m`: each fails from its first frame for its count of frames (Table 14.9). -/
def State.forceChecks (s : State) (m : U32) : State :=
  let due := fun (c : Forced) => decide (0 ≤ sdiff32 m c.first)
  let ended := fun (c : Forced) => decide ((c.count : Int) ≤ sdiff32 m c.first)
  let l := s.sys.inject.check
  let s := { s with sys.inject.check := (l.filter fun c => !ended c).map fun c => { c with active := due c } }
  let s := (l.filter fun c => c.active && ended c).foldl (fun (s : State) c => s.checkClear c.code) s
  (l.filter fun c => !c.active && due c && !ended c).foldl (fun (s : State) c => s.checkFail c.code false) s

/-- Check `n` stands as `b`. -/
def State.checkSet (s : State) (n : Nat) (b : Bool) : State := if b then s.checkFail n false else s.checkClear n

/-- Mark a local event of frame `m` in its fault flags (R381). -/
def State.flagFrame (s : State) (m : U32) (bit : Nat) : State :=
  let old := match s.pier.flags.find? (·.1 == m) with
    | some e => e.2
    | none => 0
  { s with pier.flags := ((m, old ||| BitVec.ofNat 16 (2 ^ bit)) :: s.pier.flags.filter (·.1 != m)).take 64 }

/-- The fault flags of a frame. -/
def State.flagsOf (s : State) (m : U32) : U16 :=
  match s.pier.flags.find? (·.1 == m) with
  | some e => e.2
  | none => 0

/-! ### Paths (R374, R396) -/

/-- E108: a path (0 pier link, 1 Trestle witness, 2 pin witness, 3 partner unreachable) is lost or returns. -/
def State.raisePath (s : State) (path kind : Nat) : State := s.raiseF 108 [fN 0 1 path, fN 1 1 kind]

/-- The pier link's span goes down (R396). -/
def State.pierLinkLost (s : State) (sp : Fin 12) : State :=
  if s.paired ∧ sp = s.pierSpan ∧ s.pier.lostLink = false then State.raisePath { s with pier.lostLink := true } 0 1 else s

/-! ### Span health (R270) -/

/-- Change a span. -/
def State.modSpan (s : State) (sp : Fin 12) (f : Span → Span) : State := { s with spans := s.spans.set sp (f s.spans[sp]) }

/-- A span fails its health check in case 1 (down), 2 (uncorrectable) or 3 (read-back): E078, and check 4 on any span but
the pier link. -/
def State.spanFail (s : State) (sp : Fin 12) (case_ : Nat) : State :=
  let first := !s.spans[sp].healthFail
  let s := (s.modSpan sp fun x => { x with healthFail := true, healthAt := s.now }).raiseIf first 78
    [fN 0 1 sp.val, fN 1 1 1, fN 2 1 case_]
  if s.paired ∧ sp = s.pierSpan then s else s.checkFail 4 false

/-- Check 4 follows the spans other than the pier link. -/
def State.spanCheck (s : State) : State :=
  if (List.finRange 12).any fun sp => s.spans[sp].healthFail && !(s.paired && sp == s.pierSpan) then s else s.checkClear 4

/-! ### Digests (R380, R381, R391) -/

/-- DIGEST of a frame: the XOR over its routes (R380). -/
def State.digestOf (s : State) (m : U32) : U64 :=
  (s.tre.packed.filter (·.frame == m)).foldl (fun d p => d ^^^ crc64 (be 4 p.route ++ p.slots)) 0

/-- RASTER_DIGEST and RASTER_VALID of the frame: the engines that last composited it (R380). -/
def State.rasterDigest (s : State) (m : U32) : U64 × Nat :=
  (List.finRange 4).foldl (fun (d : U64 × Nat) (re : Fin 4) =>
    let r := s.raster[re]
    if r.lastSent = some m ∧ r.crcs.isEmpty = false then
      (d.1 ^^^ crc64 (be 1 re.val ++ r.crcs.flatMap fun c => be 4 c.toNat), d.2 + 2 ^ re.val)
    else d) (0, 0)

/-- The pier link comes up again: a standby resynchronises (R396). -/
def State.pierLinkBack (s : State) (sp : Fin 12) : State :=
  if s.paired ∧ sp = s.pierSpan ∧ s.pier.lostLink = true then
    let s := State.raisePath { s with pier.lostLink := false } 0 2
    if s.pier.st = 5 ∨ s.pier.st = 6 ∨ s.pier.st = 7 then s.askResync else s
  else s

/-- R391: judge a divergence of a frame. -/
def State.judge (s : State) (m : U32) (own partner : U16) : State :=
  let hf := if s.holds then own else partner
  let sf := if s.holds then partner else own
  let outcome := if hf ≠ 0 ∧ sf = 0 then 1 else if hf = 0 ∧ sf ≠ 0 then 2 else if hf ≠ 0 then 3 else 4
  let s := { s with pier.divergences := s.pier.divergences.inc, pier.match6 := 0 }
  let s := s.raiseF 107 [f32 0 m, f16 4 hf, f16 6 sf, fN 8 1 outcome]
  if outcome = 1 then
    let s := { s with pier.clean := s.pier.clean + (if s.pier.clean = 0xFFFF then 0 else 1) }
    if s.holds then s.checkFail 6 false else s.standbyState
  else
    let s := { s with pier.clean := 0 }
    if s.holds then
      if outcome = 3 ∧ s.pier.checks = 0 then State.holderState { s with pier.degraded := true, pier.wasOut := s.pier.partnerState != 5 } else s
    else (s.checkFail 6 false).askResync

/-- R381: compare a frame once both digests are in hand. -/
def State.compareFrame (s : State) (m : U32) : State :=
  match s.pier.own.find? (·.frame == m), s.pier.partner.find? (·.frame == m) with
  | some a, some b =>
    let s := { s with pier.digestFrame := some m, pier.digest := a.digest,
                      pier.own := s.pier.own.filter (·.frame != m), pier.partner := s.pier.partner.filter (·.frame != m) }
    let same := a.digest == b.digest && (a.valid != b.valid || a.raster == b.raster)
    if same then
      let n := s.pier.match6 + 1
      let s := { s with pier.clean := s.pier.clean + (if s.pier.clean = 0xFFFF then 0 else 1), pier.match6 := n }
      let s := if s.holds && s.pier.checks.getLsbD 5 && decide (s.pier.cfg.digestClean.toNat ≤ n) then s.checkClear 6 else s
      s.standbyState
    else s.judge m a.flags b.flags
  | _, _ => s

/-- Digests of frames within 8 of the newest are kept (R381). -/
def keepDigests (m : U32) (l : List DigestRec) : List DigestRec := l.filter fun d => decide (sdiff32 m d.frame ≤ 8)

/-- R380: compute the digest of a frame and send it to the partner; an injected fault inverts bit 0 of what is sent (R484). -/
def State.computeDigest (s : State) (m : U32) : State :=
  let bad := s.sys.inject.digest.contains m
  let rd := s.rasterDigest m
  let d := s.digestOf m
  let sent := d ^^^ (if bad then 1 else 0)
  let rec_ : DigestRec := ⟨m, d, rd.1, BitVec.ofNat 8 rd.2, s.flagsOf m⟩
  let msg := be 4 s.memberId.toNat ++ be 4 m.toNat ++ be 8 sent.toNat ++ be 8 rd.1.toNat ++ be 1 rd.2 ++ be 1 0 ++
    be 2 rec_.flags.toNat ++ be 4 0
  let s := { s with pier.own := rec_ :: keepDigests m s.pier.own,
                    sys.inject := { s.sys.inject with digest := s.sys.inject.digest.erase m } }
  let s := s.toPartner 0x0063 msg
  let s := if s.pier.cfg.witnessTrestle then s.sendOn (fun x => x != s.pierSpan) floodDest 0x0063 msg else s
  s.compareFrame m

/-- Issue the digest task of a frame (source 3), once (R380, Table 3.4). -/
def State.askDigest (s : State) (m : U32) : State :=
  if s.paired && !(s.pier.digestAsked.contains m) then
    let s := { s with pier.digestAsked := (m :: s.pier.digestAsked).take 16 }
    s.submit { frame := m, source := 3, priority := ⟨s.sched.cfg.priority[3].toNat % 8, Nat.mod_lt _ (by decide)⟩,
               arg := 1, pShort := BitVec.ofInt 32 (s.grid.p m) }
  else s

/-- The frame from which a planned handover or heal may run: F + L + 2, F the last frame latched (R393, R401). -/
def State.planFrame (s : State) : U32 := s.lastLatch + BitVec.ofNat 32 (s.grid.v.l.toNat + 2)

/-- An operation of the pair is pending (R401). -/
def State.pierBusy (s : State) : Bool := s.pier.pend.isSome || s.pier.resync.isSome || s.pier.resyncAsked

/-! ### Start-up (R398) and grid stop -/

/-- Role A claims at grid start, once the partner is heard or the wait has passed (R398). -/
def State.startupClaim (s : State) : State :=
  if s.paired ∧ s.pier.st = 1 ∧ s.running then
    let s := { s with pier.started := true }
    if s.pier.cfg.roleB then State.standbyState (s.pierTo 6) else s.claimFrom 0x22 s.grid.v.n0
  else s

/-- A grid start of a paired engine: it renders in WAITING until its place is settled (R398). -/
def State.pierGridStart (s : State) : State :=
  if !s.paired then s
  else
    let s := s.pierTo 1
    let s := { s with pier.waitFrom := some s.now, pier.started := false, pier.waitOver := false, pier.clean := 0, pier.resyncGivenUp := false, pier.heldAtStop := false,
                      pier.own := [], pier.partner := [], pier.flags := [], pier.digestAsked := [] }
    if s.pier.hb.isSome && !s.partnerSilent then s.startupClaim else s

/-- A grid stop: the pair returns to WAITING and control ends (R398). -/
def State.pierGridStop (s : State) : State :=
  if !s.paired then s
  else
    State.pierTo { s with pier.started := false, pier.waitFrom := none, pier.pend := none, pier.resync := none,
                          pier.resyncAsked := false, pier.resyncTries := 0, pier.resyncGivenUp := false,
                          pier.degraded := false, pier.heldAtStop := s.holds } 1

end Sys2Proof.Machine
end

