-- ==== Sys2Proof/Machine/TimeOps.lean ====
section
/-! DEFINITION. Machine/TimeOps.lean: Keystone's servo, time sources, lock states and compare slots (R23 to R36, R53 to
R63). -/
namespace Sys2Proof.Machine
open Sys2Proof

/-! ### The clock (R23 to R26) -/

/-- A rational rounded to the nearest integer, a half away from zero. -/
def ratRound (x : Rat) : Int := roundDiv x.num x.den

/-- The magnitude of a rational. -/
def ratAbs (x : Rat) : Rat := if x < 0 then -x else x

/-- y held within 400 parts per million (R32). -/
def clampY (y : Rat) : Rat := max (-400000) (min 400000 y)

/-- INC for a correction y in parts per 10^9 (R23). -/
def incOf (y : Rat) : Nat := (ratRound (4 * 2 ^ 40 * (1 + y / 1000000000))).toNat

/-- RATE for a correction y (R32). -/
def rateOf (y : Rat) : Int := ratRound (y * (4 * 2 ^ 40) / 1000000000)

/-- The servo gives a new y; in the compatibility model OFFSET and BASE are taken first, so that no step is read (R25). -/
def Keystone.setY (k : Keystone) (y : Rat) : Keystone :=
  if k.compat then { k with y := y, offset := k.full, base := k.count, rate := rateOf y }
  else { k with y := y, inc := incOf y }

/-- Keystone steps by `d` ns, to its fraction of 2^-40 ns; OFFSET of the compatibility model holds whole ns (R24). DESIGN CHOICE:
a step that would take Keystone before the epoch of 1970 stops at 0 (R33, log entry 112). In the compatibility model a step
back past OFFSET takes BASE anew with it. -/
def Keystone.step (k : Keystone) (d : Rat) : Keystone :=
  if k.compat then
    let d := ratRound d
    if 0 ≤ (k.offset : Int) + d then { k with offset := ((k.offset : Int) + d).toNat }
    else { k with offset := ((k.full : Int) + d).toNat, base := k.count }
  else
    let f := (((k.full * 2 ^ 40 + k.frac : Nat) : Int) + ratRound (d * 2 ^ 40)).toNat
    let ns := f / 2 ^ 40
    { k with sec := ns / 1000000000 % 2 ^ 48, nsec := ns % 1000000000, frac := f % 2 ^ 40 }

/-- Select a clock model (R26): the time read does not step. -/
def Keystone.model (k : Keystone) (compat : Bool) : Keystone :=
  let f := k.full
  if compat then { k with compat := true, offset := f, base := k.count, rate := rateOf k.y }
  else { k with compat := false, sec := f / 1000000000 % 2 ^ 48, nsec := f % 1000000000,
                frac := k.subns * 2 ^ 24, inc := incOf k.y }

/-! ### Compare slots (R53 to R60) -/

/-- The value of a slot's time less its target: negative while it lies ahead (R54). -/
def State.slotPast (s : State) (k : KtSlot) : Int :=
  if k.wrap then sdiff32 s.short (BitVec.ofNat 32 k.target) else (s.full : Int) - k.target

/-- R60: the COUNT value at which Keystone time reaches a full time. -/
def Keystone.countOf (k : Keystone) (target : Int) : U64 :=
  let r := (4 * 2 ^ 40 + k.rate).toNat
  k.base + BitVec.ofInt 64 (-(-((target - k.offset) * 2 ^ 40) / (max r 1 : Nat)))

/-- Give a slot its COUNT value; one that has passed fires at the next tick boundary (R57, R60). -/
def State.convertSlot (s : State) (k : KtSlot) : KtSlot :=
  if s.ks.compat then { k with count := s.ks.countOf (s.full - s.slotPast k),
                               passed := k.passed || decide (0 < s.slotPast k) }
  else k

/-- R60: after a servo update every armed slot's target is converted again. -/
def State.reconvert (s : State) : State :=
  if s.ks.compat then
    { s with slots := s.slots.map fun (e : Nat × KtSlot) => (e.1, if e.2.st = 1 then s.convertSlot e.2 else e.2) }
  else s

/-- The slot is due in this count cycle (R54, R60). -/
def State.slotDue (s : State) (k : KtSlot) : Bool :=
  k.st == 1 && !k.passed &&
  (if s.ks.compat then decide (0 ≤ (s.ks.count - k.count).toInt) else decide (0 ≤ s.slotPast k))

/-- The count cycles since the first one at which Keystone had reached a full time that lies `past` ns back (R54). -/
def State.cyclesSince (s : State) (past : Int) : Nat :=
  if s.ks.compat then (s.ks.count - s.ks.countOf (s.full - past)).toNat
  else ((past * 2 ^ 40 + s.ks.frac) / (max s.ks.inc 1 : Nat)).toNat

/-- Keystone time `j` count cycles ago (R22, R24). -/
def State.fullAgo (s : State) (j : Nat) : Nat :=
  if s.ks.compat then (s.ks.compatAt (s.ks.count - BitVec.ofNat 64 j) / 2 ^ 40).toNat
  else (s.full * 2 ^ 40 + s.ks.frac - j * s.ks.inc) / 2 ^ 40

/-- A slot fires, in the count cycle that first reached a time `past` ns back: FIRE_S and FIRE_NS are the Keystone time of that
cycle, and its action is to begin (R54, R57). -/
def State.fired (s : State) (k : KtSlot) (past : Int) : KtSlot :=
  let j := s.cyclesSince past
  let t := s.fullAgo j
  { k with st := 2, late := k.passed, begins := some (s.now / 4 - j), losses := 0
           lateness := if k.passed then BitVec.ofNat 32 (sat32 (s.slotPast k - (s.full - t)).toNat) else 0
           fireS := t / 1000000000, fireNs := t % 1000000000 }

/-- Every slot that `p` picks fires (R54, R57). -/
def State.fireSlots (s : State) (p : KtSlot → Bool) (past : KtSlot → Int) : State :=
  { s with slots := s.slots.map fun (e : Nat × KtSlot) => (e.1, if p e.2 then s.fired e.2 (past e.2) else e.2) }

/-- The action of a fired slot begins: E023, or the cue triggers that name the slot's ARG, observed at the fire cycle; one that
fired late raises E024 (R54, R57, R87). -/
def State.beginAction (s : State) (n : Nat) : State :=
  let k := s.slots.get {} n
  let s := { s with slots := s.slots.set {} n { k with begins := none, losses := 0 } }
  let s := if k.action = 1 then s.raiseF 23 [fN 0 1 n, fB 1 0 k.late, f32 4 k.arg]
    else s.observeAll (fun tr => tr.source == 1 && tr.id == k.arg) ((k.fireS * 1000000000 + k.fireNs : Nat) : Int)
  s.raiseIf k.late 24 [fN 0 1 n, f32 4 k.lateness]

/-- The slots whose action is to begin: fired, and their fire cycle, in which a cancel or a re-arm wins, is over (R58). -/
def State.slotsReady (s : State) : List Nat :=
  (s.slots.filter fun (e : Nat × KtSlot) => match e.2.begins with
    | some c => decide (c < s.now / 4)
    | none => false).map (·.1)

/-- The start of an action is granted to one slot, in slot-number order (R8, R9, R58). -/
def State.slotTurn (s : State) : State :=
  let rs := s.slotsReady
  match arbitrate rs fun n => (s.slots.get {} n).losses with
  | none => s
  | some w => State.beginAction { s with slots := s.slots.map fun (e : Nat × KtSlot) =>
      (e.1, if rs.contains e.1 && e.1 != w then { e.2 with losses := e.2.losses + 1 } else e.2) } w

/-! ### Lock states and lock fault (R34 to R36) -/

/-- The lock fault stands (R36). -/
def Keystone.lockFault (k : Keystone) : Bool := k.faultHold || k.faultOffset

/-- E016 of the present state. -/
def State.raiseLock (s : State) (prev : LockState) : State :=
  s.raiseF 16 [fN 0 1 s.ks.st.code, fN 1 1 prev.code, fB 2 0 s.ks.lockFault]

/-- The causes of a lock fault become `h` and `o`; E016 reports a beginning or an end, and check 3 follows (R36, R385). -/
def State.setFaults (s : State) (h o : Bool) : State :=
  let was := s.ks.lockFault
  let s := { s with ks.faultHold := h, ks.faultOffset := o }
  if s.ks.lockFault = was then s else (s.raiseLock s.ks.st).checkSet 3 s.ks.lockFault

/-- Keystone enters a state; E016 (R34). Entry to LOCKED ends a lock fault (R36). -/
def State.lockTo (s : State) (st : LockState) : State :=
  if s.ks.st = st then s
  else
    let prev := s.ks.st
    let s := State.raiseLock { s with ks.st := st, ks.good := 0, ks.bad := 0 } prev
    if st = .locked then s.setFaults false false else s

/-- R35: the y of holdover: the mean over the last 64 samples taken in LOCKED, else I. -/
def Keystone.holdY (k : Keystone) : Rat :=
  if k.hist.length < 64 then k.integ else k.hist.foldl (· + ·) 0 / 64

/-- Entry to holdover; armed slots are converted under the new rate (R35, R60). -/
def State.holdover (s : State) : State :=
  State.lockTo (State.reconvert { s with ks := { s.ks.setY s.ks.holdY with holdSince := s.now } }) .holdover

/-! ### Sources (R27 to R30) -/

/-- The listed source codes, highest priority first (R27). -/
def ServoCfg.list (c : ServoCfg) : List Nat := (c.priority.toList.map (·.toNat)).takeWhile (· != 0)

/-- What Keystone keeps of source `code`. -/
def Keystone.source (k : Keystone) (code : Nat) : TimeSrc := k.src.toList.getD (code - 1) {}

/-- Change a source. -/
def Keystone.modSource (k : Keystone) (code : Nat) (f : TimeSrc → TimeSrc) : Keystone :=
  if h : code - 1 < 5 then { k with src := k.src.set (code - 1) (f k.src[code - 1]) } else k

/-- R29: the source selected next: the first valid one where the selected source is not valid, else a higher one with
eight consecutive valid samples, else the same. -/
def Keystone.choose (k : Keystone) : Nat :=
  let l := k.cfg.list
  if l.contains k.sel && (k.source k.sel).valid then
    (((l.takeWhile (· != k.sel)).find? fun c => (k.source c).valid && decide (8 ≤ (k.source c).run))).getD k.sel
  else (l.find? fun c => (k.source c).valid).getD 0

/-- R29: the selection is made again; with no valid source Keystone enters holdover. -/
def State.reselect (s : State) : State :=
  let c := s.ks.choose
  let s := if c = s.ks.sel then s
    else State.raiseF { s with ks.sel := c, ks.selNew := true } 17 [fN 0 1 c, fN 1 1 s.ks.sel]
  if c = 0 ∧ (s.ks.st = .acquire ∨ s.ks.st = .locked) then s.holdover else s

/-- A source becomes invalid (R30). -/
def State.invalidate (s : State) (code : Nat) : State :=
  State.reselect { s with ks := s.ks.modSource code fun x => { x with valid := false, run := 0 } }

/-! ### The servo (R32, R33) -/

/-- Gain scale (Table 1.2). -/
def gainScale (code : Nat) : Rat := if code = 4 then 1 / 16 else if code = 5 then 1 / 4 else 1

/-- R34: the state after a sample with offset `theta` of the selected source. DESIGN CHOICE: the sample that moves FREE or
HOLDOVER to ACQUIRE counts as the first of the eight (log entry 112). -/
def State.lockSample (s : State) (theta : Rat) : State :=
  let s := if s.ks.st = .free ∨ s.ks.st = .holdover then s.lockTo .acquire else s
  let a := ratAbs theta
  if s.ks.st = .acquire then
    let n := if a ≤ s.ks.cfg.lockNs.toNat then s.ks.good + 1 else 0
    let s := { s with ks.good := n }
    if 8 ≤ n then s.lockTo .locked else s
  else
    let n := if (s.ks.cfg.unlockNs.toNat : Rat) < a then s.ks.bad + 1 else 0
    let s := { s with ks.bad := n }
    if 4 ≤ n then s.lockTo .acquire else s

/-- y of a sample taken in LOCKED is kept for holdover (R35). DESIGN CHOICE: the eighth sample, which enters LOCKED, is one taken
in LOCKED; a sample that steps a stopped grid's time gives no y and is not kept (log entry 112). -/
def Keystone.keepY (k : Keystone) : Keystone :=
  if k.st = .locked then { k with hist := (k.y :: k.hist).take 64 } else k

/-- Keystone's full time moves by a step: ticks stepped over are not counted (R119). -/
def State.stepTime (s : State) (d : Rat) : State :=
  let s := { s with ks := s.ks.step d }
  let i := s.grid.tickIdxAt s.full
  { s with grid.tickIdx := i, grid.tick := (i % 256).toNat }.reconvert

/-- R32: I and y from a sample, `dt` ns after the one before it. -/
def Keystone.servo (k : Keystone) (code : Nat) (theta : Rat) (dt : Nat) : Keystone :=
  let r : Rat := gainScale code * theta * 1000000000 / dt
  let i := clampY (k.integ + (k.cfg.ki.toNat : Rat) / 65536 * r)
  let y := clampY (i + (k.cfg.kp.toNat : Rat) / 65536 * r)
  { k.setY y with integ := i }

/-- R32, R33, R36: the servo takes a sample of the selected source. `dt` is the time since its previous sample. -/
def State.servoSample (s : State) (code : Nat) (theta : Rat) (dt : Nat) : State :=
  let s := State.lockSample { s with ks.theta := theta, ks.selNew := false } theta
  let a := ratAbs theta
  let s := if s.running ∧ (s.ks.cfg.faultNs.toNat : Rat) < a then s.setFaults s.ks.faultHold true else s
  if (s.ks.cfg.stepNs.toNat : Rat) ≤ a then
    if s.running then
      let y : Rat := if 0 < theta then 400000 else -400000
      (State.raiseF { s with ks := (s.ks.setY y).keepY } 18 [fI 0 8 (ratRound theta)]).reconvert
    else
      let s := s.stepTime theta
      if code = 1 ∨ code = 2 ∨ code = 4 then { s with ks.taiSet := true } else s
  else
    let k := (s.ks.servo code theta dt).keepY
    let tai := k.taiSet || ((code == 1 || code == 2 || code == 4) && decide (a < (500000000 : Rat)))
    State.reconvert { s with ks := { k with taiSet := tai } }

/-- R27 to R33: source `code`, of nominal interval `nominal` ns, delivers a sample of offset `theta`. DESIGN CHOICE: the sample
that makes a source the selected one is its first sample since the selection, and is fed to the servo with the nominal
interval (R32, log entry 112). -/
def State.sample (s : State) (code : Nat) (theta : Rat) (nominal : Nat) : State :=
  if (code = 3 ∧ s.ks.taiSet = false) ∨ (s.running ∧ (1000000000 : Rat) ≤ ratAbs theta) then s.invalidate code
  else
    let x := s.ks.source code
    let dt := s.now - x.lastAt
    let s := State.reselect { s with ks := s.ks.modSource code fun x =>
      { valid := true, lastAt := s.now, nominal := nominal, run := if x.valid then x.run + 1 else 1 } }
    if s.ks.sel = code then
      s.servoSample code theta (if s.ks.selNew ∨ dt = 0 then max nominal 1 else dt)
    else s

/-! ### Timecode (R61 to R63) -/

/-- LTC rates (Table 1.13): frames per second as a fraction. -/
def ltcRate (code : U8) : Nat × Nat :=
  match code.toNat with
  | 1 => (24, 1) | 2 => (24000, 1001) | 3 => (25, 1) | 4 => (30, 1) | _ => (30000, 1001)

/-- LTC labels counted per second. -/
def ltcBase (code : U8) : Nat := match code.toNat with
  | 1 | 2 => 24 | 3 => 25 | _ => 30

/-- The frames that a label counts since 00:00:00:00; drop-frame labels skip two numbers in each minute but every
tenth (ST 12-1). -/
def ltcFrames (code : U8) (h m sec f : Nat) : Nat :=
  let mins := 60 * h + m
  let n := (60 * mins + sec) * ltcBase code + f
  if code = 6 then n - 2 * (mins - mins / 10) else n

/-- ST 12-1 gives a label: the drop-frame form has no frames 0 and 1 in the first second of a minute, but for every tenth. -/
def ltcLabelOk (code : U8) (h m sec f : Nat) : Bool :=
  decide (h < 24) && decide (m < 60) && decide (sec < 60) && decide (f < ltcBase code) &&
  !(code == 6 && decide (m % 10 ≠ 0) && sec == 0 && decide (f < 2))

/-- The label that frame `j` of a day carries. -/
def ltcLabelOf (code : U8) (j : Nat) : Nat × Nat × Nat × Nat :=
  let b := ltcBase code
  let n := if code = 6 then
      let d := j / 17982
      let r := j % 17982
      j + 18 * d + (if r < 2 then 0 else 2 * ((r - 2) / 1798))
    else j
  (n / (3600 * b) % 24, n / (60 * b) % 60, n / b % 60, n % b)

/-- LTC_ORIGIN, a full time in ns. -/
def Timecode.origin (t : Timecode) : Nat := t.originS * 1000000000 + t.originNs

/-- The start of LTC frame `j` at a rate, rounded down to the ns (R62). -/
def Timecode.frameAt (t : Timecode) (code : U8) (j : Nat) : Nat :=
  t.origin + j * 1000000000 * (ltcRate code).2 / (ltcRate code).1

end Sys2Proof.Machine
end

