-- ==== Sys2Proof/Machine/PassOps.lean ====
section
/-! DEFINITION. Machine/PassOps.lean: the CMU pass, the closed colour loops, the kinetic pass and the kinetic stops (R142
to R150, R156 to R165). -/
namespace Sys2Proof.Machine
open Sys2Proof

/-! ### Closed loops (R147 to R149) -/

/-- A fixture's loop. -/
def State.loop (s : State) (fi : Nat) : Loop := s.fix.loops.get {} fi

/-- Change a fixture's loop. -/
def State.modLoop (s : State) (fi : Nat) (f : Loop → Loop) : State :=
  { s with fix.loops := s.fix.loops.upd {} fi f }

/-- R147: a reading is valid for a loop. -/
def Loop.valid (l : Loop) (c : CmuCfg) (r : Reading) : Bool :=
  match l.hist.findIdx? fun h => h.1 == r.sample with
  | none => false
  | some i =>
    let w := (l.hist.drop i).take c.settleFrames.toNat
    match w with
    | [] => false
    | h :: _ => decide (i < 16) && decide (w.length = c.settleFrames.toNat) && (w.all fun x => x.2 == h.2) &&
        decide (c.loopMinLum.toNat ≤ h.2.2.2.toNat)

/-- The newest reading: greatest SAMPLE_FRAME, the later arrival of equal ones. -/
def newestReading : List Reading → Option Reading
  | [] => none
  | r :: rs => match newestReading rs with
    | none => some r
    | some x => if 0 < sdiff32 r.sample x.sample then some r else some x

/-- One axis of an update (R148): the integrator and epsilon, both s0.16. -/
def axisStep (ki : U16) (e ey m i eps : Int) : Int × Int :=
  if 16 * e < ey then (i, eps)
  else
    let d : Int := if e = 0 then Config.divZero (e - m) else roundDiv ((e - m) * e.sign * 65536) e.natAbs
    (clampI (-7864) 7864 (i + roundDiv (ki.toNat * d) 65536), satS 16 d)

/-- R148: a loop takes a reading at frame `m`. -/
def Loop.update (l : Loop) (c : CmuCfg) (r : Reading) (m : U32) : Loop :=
  match l.hist.find? fun h => h.1 == r.sample with
  | none => l
  | some h =>
    let e := xyzOf h.2.1.toNat h.2.2.1.toNat h.2.2.2.toNat
    let q := xyzOf r.u.toNat r.v.toNat r.y.toNat
    let x := axisStep c.loopKi e.x e.y q.x l.ix l.epsX
    let y := axisStep c.loopKi e.y e.y q.y l.iy l.epsY
    let z := axisStep c.loopKi e.z e.y q.z l.iz l.epsZ
    let at_ := x.1.natAbs == 7864 || y.1.natAbs == 7864 || z.1.natAbs == 7864
    let n := if at_ then l.satCount + 1 else 0
    { l with ix := x.1, iy := y.1, iz := z.1, epsX := x.2, epsY := y.2, epsZ := z.2, lastUpdate := some m,
             lastSample := some r.sample, since := true, satCount := n, saturated := decide (64 ≤ n) }

/-- An update of the loop is due at frame `m` with this reading (R148). -/
def Loop.due (l : Loop) (c : CmuCfg) (m : U32) (r : Reading) : Bool :=
  !l.since ||
  (match l.lastSample with
   | none => true
   | some x => decide (0 < sdiff32 r.sample x)) &&
  (match l.lastUpdate with
   | none => true
   | some u => decide ((max 8 c.updateFrames.toNat : Int) ≤ sdiff32 m u))

/-- R149: a loop leaves or enters FROZEN at S(m); `got`: a valid reading reached it. -/
def State.loopState (s : State) (fi : Nat) (f : Fixture) (m : U32) (got : Bool) : State :=
  let l := s.loop fi
  if got then
    (s.modLoop fi fun l => { l with validAt := m, st := 1 }).raiseIf (l.st == 2) 50 [f32 0 f.id, fN 4 1 2]
  else if l.st = 1 ∧ (s.fix.cfg.timeoutFrames.toNat : Int) ≤ sdiff32 m l.validAt then
    (s.modLoop fi fun l => { l with st := 2 }).raiseF 50 [f32 0 f.id, fN 4 1 1]
  else s

/-- The loop of one fixture at S(m); the count of updates made goes with the state (R148). At a swap its state follows what
came, and no update is computed (R150). -/
def State.loopAt (s : State) (m : U32) (fresh : List Reading) (swap : Bool) (x : State × Nat) (e : Nat × Fixture) : State × Nat :=
  let c := s.fix.cfg
  let l := x.1.loop e.1
  if l.st = 0 then x
  else
    let mine := fun (rs : List Reading) => rs.filter fun r => r.sensor == e.2.sensor && l.valid c r
    let st := x.1.loopState e.1 e.2 m (mine fresh != [])
    match newestReading (mine st.fix.snapshot) with
    | none => (st, x.2)
    | some r =>
      if swap || (st.loop e.1).due c m r == false then (st, x.2)
      else if 2048 ≤ x.2 then ({ st with fix.deferred := st.fix.deferred.inc }, x.2)
      else
        let old := st.loop e.1
        let new := old.update c r m
        ((st.modLoop e.1 fun _ => new).raiseIf (!old.saturated && new.saturated) 49 [f32 0 e.2.id], x.2 + 1)

/-- A reading that comes into the snapshot of frame `m` is its sensor's newest where no newer one is in hand (R143). -/
def Temp.take (t : Temp) (m : U32) (r : Reading) : Temp :=
  let older := match t.sample with
    | none => true
    | some x => decide (0 ≤ sdiff32 r.sample x)
  if older then { value := r.temp, sample := some r.sample, at_ := some m } else { t with at_ := some m }

/-- R142, R143, R148, R149 at S(m): the snapshot forms of the readings given, temperatures and loops follow; at a swap no loop
update is computed (R150). -/
def State.sensorsAt (s : State) (im : Image) (m : U32) (fresh : List Reading) (swap : Bool) : State :=
  let snap := (s.fix.snapshot ++ fresh).filter fun r => decide (sdiff32 m r.sample ≤ 32)
  let temps := fresh.foldl (fun (t : Tab Temp) r => t.upd {} r.sensor.toNat fun x => x.take m r) s.fix.temps
  let s := { s with fix.snapshot := snap, fix.temps := temps }
  ((im.indexed.filter fun e => e.2.sensor != 0xFFFF && e.2.closedLoop).foldl
    (fun x e => x.1.loopAt m fresh swap x e) (s, 0)).1

/-- Loops in a state. -/
def Fix.loopsIn (x : Fix) (p : Loop → Bool) : Nat := (x.loops.filter fun e => p e.2).length

/-- What frame `m` computes from is settled at its S(m): later frames leave it alone (R142). -/
def State.keepInputs (s : State) (m : U32) : State :=
  let x := s.fix
  let corr : Tab Corr := x.loops.foldl (fun (t : Tab Corr) e => t.set {} e.1 ⟨e.2.ix, e.2.iy, e.2.iz⟩) []
  let i : FrameInputs := ⟨m, corr, x.temps, s.ports.snapshot, x.loopsIn fun l => l.st == 1, x.loopsIn fun l => l.st == 2,
    x.loopsIn (·.saturated)⟩
  { s with fix.inputs := (i :: x.inputs.filter fun e => e.frame != m).take 16 }

/-- The inputs of frame `m`; of a frame without any, what stands now. -/
def State.inputsOf (s : State) (m : U32) : FrameInputs :=
  match s.fix.inputs.find? (·.frame == m) with
  | some i => i
  | none => ((s.keepInputs m).fix.inputs.head?).getD { frame := m }

/-- A loop's correction is zero from now on, in the frames still to be solved too (R149). -/
def State.dropCorr (s : State) (fi : Nat) : State :=
  { s with fix.inputs := s.fix.inputs.map fun i : FrameInputs => { i with corr := i.corr.set {} fi {} } }

/-- What names a route's destination across images. -/
def Route.key (r : Route) : DestKey := ⟨r.kind, r.port, r.address⟩

/-- A reported position is in hand (R162). -/
def State.takePosition (s : State) (p : PosRec) : State :=
  p.dests.foldl (fun (s : State) k =>
    let old := s.fix.positions.filter fun x => !(x.1 == k && x.2.1 == p.slot)
    { s with fix.positions := (k, p.slot, p.value, p.at_) :: old }) s

/-! ### The CMU pass (R143 to R146) -/

/-- The first parameter of a role. -/
def Image.role (im : Image) (f : Fixture) (r : U8) : Option (Nat × ParamDesc) := (im.paramsOf f).find? fun p => p.2.role == r

/-- The target of a fixture's solve, each role's value read by `v`. -/
def Image.targetOf (im : Image) (f : Fixture) (v : Nat × ParamDesc → U16) : Target :=
  let get := fun r => ((im.role f r).map v).getD 0
  { u := get 2, v := get 3, l := get 4, intensity := (im.role f 1).map v }

/-- CMU fixtures of an image. -/
def Image.cmus (im : Image) : List (Nat × Fixture) := im.indexed.filter fun e => im.isCmu e.2

/-- The emitter record of a CMU fixture. -/
def Image.emitterRec (im : Image) (f : Fixture) : Option EmitterRec :=
  (im.profileOf f).bind fun p => im.emitters[p.emitterRec]?

/-- The temperature in use at frame `m` under temperatures by sensor, and whether it is stale (R143). -/
def tempOf (temps : Tab Temp) (hold : U16) (f : Fixture) (r : EmitterRec) (m : U32) : Int × Bool :=
  if f.sensor = 0xFFFF then (r.tRef, false)
  else
    let t := temps.get {} f.sensor.toNat
    match t.at_ with
    | none => (r.tRef, true)
    | some a => if sdiff32 m a ≤ hold.toNat then (t.value, false) else (r.tRef, true)

/-- R144 for a target, from the inputs of the frame. -/
def State.solveFor (s : State) (i : FrameInputs) (fi : Nat) (f : Fixture) (r : EmitterRec) (g : Target) (m : U32) : Solve :=
  let t := tempOf i.temps s.fix.cfg.tempHoldFrames f r m
  let c := i.corr.get {} fi
  solveAt r t.1 t.2 c.ix c.iy c.iz g m

/-- Count a solve. -/
def PassCounts.count (p : PassCounts) (v : Solve) : PassCounts :=
  { p with solves := p.solves.inc, gamut := if v.outOfGamut then p.gamut.inc else p.gamut,
           limited := if v.lumLimited then p.limited.inc else p.limited }

/-- The time of a solve on a lane, in ns: 8 million a second, slower under thermal scaling (R145). -/
def State.solveNs (s : State) (k : Nat) : Nat := ceilDiv (k * 125 * 8) (max s.pwr.thermal.eighths 1)

/-- The house entry of a fixture as frame `m` solves it (R146). -/
def State.houseSolve (s : State) (im : Image) (m : U32) (e : Nat × Fixture) : Option Solve :=
  (im.emitterRec e.2).map fun r => s.solveFor (s.inputsOf m) e.1 e.2 r (im.targetOf e.2 fun p => p.2.house) m

/-- R146: solve a fixture's house entry. -/
def State.solveHouse (s : State) (im : Image) (m : U32) (e : Nat × Fixture) : State :=
  match s.houseSolve im m e with
  | none => s
  | some v => { s with fix.houseTable := s.fix.houseTable.set [] e.1 v.drives }

/-- House entries that the lanes have solved join the house table (Table 4.9). -/
def State.houseJoin (s : State) : State :=
  let ready := fun (h : HouseEntry) => decide (h.at_ ≤ s.now)
  { s with fix.houseTable := (s.fix.housePend.filter ready).foldl (fun (t : Tab (List U16)) h => t.set [] h.fixture h.drives)
             s.fix.houseTable,
           fix.housePend := s.fix.housePend.filter fun h => !ready h }

/-- The house entry of a fixture of frame `m`'s pass: its lane solves it in fixture order, each behind the fixture's own solve
(R145, R146). DESIGN CHOICE: a lane takes a fixture's house entry straight after the fixture (log entry 117). -/
def State.passHouse (s : State) (im : Image) (m : U32) (e : Nat × Fixture) : State :=
  match s.houseSolve im m e with
  | none => s
  | some v =>
    let due := fun (x : Nat × Fixture) => x.2.houseGroup != 0xFF && x.1 % 8 == m.toNat % 8
    let lane := im.cmus.filter fun x => x.1 % 4 == e.1 % 4 && decide (x.1 ≤ e.1)
    let k := lane.length + (lane.filter due).length
    { s with fix.housePend := s.fix.housePend ++ [⟨s.fix.passAt + s.solveNs k, e.1, v.drives⟩],
             fix.passNext := s.fix.passNext.count v }

/-- R144: solve a CMU fixture in next and write its drives. -/
def State.solveFixture (s : State) (im : Image) (m : U32) (e : Nat × Fixture) : State :=
  match im.emitterRec e.2 with
  | none => s
  | some r =>
    let v := s.solveFor (s.inputsOf m) e.1 e.2 r (im.targetOf e.2 fun p => s.deck.nextParam p.1) m
    let deck := (r.emitters.zipIdx).foldl (fun (d : Deck) x =>
      d.setNext (e.2.paramBase + x.1.paramOff) (v.drives.getD x.2 0)) s.deck
    let was := (s.loop e.1).tempStale
    let p := s.fix.passNext.count v
    let s := { s with deck := deck, fix.passNext := if v.tempStale then { p with stale := p.stale + 1 } else p }
    let s := s.modLoop e.1 fun l => { l with solveNext := v, tempStale := v.tempStale,
                                             hist := ((m, v.mappedU, v.mappedV, v.lum) :: l.hist).take 31 }
    s.raiseIf (v.tempStale && !was) 51 [f32 0 e.2.id]

/-- The CMU pass of frame `m` (R144 to R146). -/
def State.cmuPass (s : State) (im : Image) (m : U32) : State :=
  let i := s.inputsOf m
  let s := { s.houseJoin with fix.passNext := { s.fix.passNext with run := i.run, frozen := i.frozen, saturated := i.saturated } }
  let s := im.cmus.foldl (fun s e => s.solveFixture im m e) s
  (im.cmus.filter fun e => e.2.houseGroup != 0xFF && e.1 % 8 == m.toNat % 8).foldl (fun s e => s.passHouse im m e) s

/-! ### Kinetic stops (R158, R159, R165) -/

/-- E048. -/
def State.raiseStop (s : State) (c : Bool) (cause kind : Nat) (m : U32) : State :=
  s.raiseIf c 48 [fN 0 1 cause, fN 1 1 kind, f32 4 m]

/-- A KINETIC_STOP of an action is in force for some scope. -/
def Fix.stopIn (x : Fix) (a : U8) : Bool := x.stops.any fun k => k.applied && k.action == a

/-- Some fixture is under a rank 1 stop. -/
def State.rankOne (s : State) : Bool :=
  s.fix.causes.any || ((s.sh.active.map (·.indexed)).getD []).any fun e => (stopsOn s.fix.stops e.1 e.2).1

/-- A HOLD or a BLACKOUT begins for something it covers that is not under one yet. -/
def State.stopBegins (s : State) (k : KStop) : Bool :=
  let on := fun (hb : Bool × Bool) => if k.action = 1 then hb.1 else hb.2
  (k.scope == 0 && !(s.fix.stops.any fun x => x.applied && x.scope == 0 && x.action == k.action)) ||
  ((s.sh.active.map (·.indexed)).getD []).any fun e => k.covers e.1 e.2 && !on (stopsOn s.fix.stops e.1 e.2)

/-- Nothing waits for rest where no rank 1 stop is left (Table 4.16). -/
def State.restSettle (s : State) : State := { s with fix.restDue := s.fix.restDue && s.rankOne }

/-- A RELEASE ends a HOLD, or a BLACKOUT, of some fixture it covers. -/
def State.releases (s : State) (k : KStop) : Bool × Bool :=
  if k.scope = 0 then (s.fix.stopIn 1, s.fix.stopIn 2)
  else
    let on := ((s.sh.active.map (·.indexed)).getD []).filterMap fun e =>
      if k.covers e.1 e.2 then some (stopsOn s.fix.stops e.1 e.2) else none
    (on.any (·.1), on.any (·.2))

/-- One KINETIC_STOP takes effect at the kinetic pass of frame `m` (R165). -/
def State.applyStop (s : State) (m : U32) (k : KStop) : State :=
  let k := { k with applied := true }
  if k.action = 3 then
    let ends := s.releases k
    let left := if k.scope = 0 then s.fix.stops.filter fun x => !x.applied else s.fix.stops ++ [k]
    ((State.raiseStop { s with fix.stops := left } ends.1 4 2 m).raiseStop ends.2 5 2 m).restSettle
  else
    let new := s.stopBegins k
    State.raiseStop { s with fix.stops := s.fix.stops ++ [k], fix.restDue := s.fix.restDue || (new && k.action == 1) } new
      (if k.action = 1 then 4 else 5) 1 m

/-- The KINETIC_STOPs addressed to frame `m`, or to the first pass after arrival, apply in order (R165). -/
def State.applyStops (s : State) (m : U32) : State :=
  let due := fun (k : KStop) => !k.applied && (k.frame == 0xFFFFFFFF || decide (0 ≤ sdiff32 m k.frame))
  let now := s.fix.stops.filter due
  let s := { s with fix.stops := s.fix.stops.filter fun k => !due k }
  now.foldl (fun s k => s.applyStop m k) s

/-- A cause of rank 1 that is not a host command begins: E048 (Table 4.7). -/
def State.beginCause (s : State) (cause : Nat) (m : U32) : State :=
  let c := s.fix.causes
  let on := if cause = 1 then c.thermal else if cause = 2 then c.tamper else c.grid
  let c' : StopCauses := if cause = 1 then { c with thermal := true } else if cause = 2 then { c with tamper := true }
    else { c with grid := true }
  State.raiseStop { s with fix.causes := c', fix.restDue := s.fix.restDue || !on } (!on) cause 1 m

/-- A cause of rank 1 ends: E048. -/
def State.endCause (s : State) (cause : Nat) (m : U32) : State :=
  let c := s.fix.causes
  let on := if cause = 1 then c.thermal else if cause = 2 then c.tamper else c.grid
  let c' : StopCauses := if cause = 1 then { c with thermal := false } else if cause = 2 then { c with tamper := false }
    else { c with grid := false }
  (State.raiseStop { s with fix.causes := c' } on cause 2 m).restSettle

/-! ### The kinetic pass (R156 to R160) -/

/-- The kinetic record of a descriptor. -/
def Image.kinRec (im : Image) (d : ParamDesc) : Option KineticRec := im.kinetic[d.kinetic.toNat]?

/-- One step of every kinetic instance under mask `mask`; `target` gives the show's targets. -/
def Fix.stepAll (x : Fix) (im : Image) (g : GridVals) (mask : U32) (target : Nat → U16) (m : U32) (kin : Tab Kin) : Tab Kin :=
  (im.kinetics.zipIdx).foldl (fun (t : Tab Kin) e => match im.fixtures[e.1.1]?, im.kinRec e.1.2.2 with
    | some f, some r => t.upd {} e.2 (x.kinStep g mask r e.1.1 f e.1.2.2 (target e.1.2.1) m)
    | _, _ => t) kin

/-- The kinetic output table of some instances (R141). -/
def outTable (kin : Tab Kin) : Tab Nat := kin.foldl (fun (t : Tab Nat) e => t.set 0 e.1 e.2.p) []

/-- Every instance under a rank 1 stop is at rest (Table 4.16). -/
def Fix.allAtRest (x : Fix) (im : Image) : Bool :=
  (im.kinetics.zipIdx).all fun e => match im.fixtures[e.1.1]?, im.kinRec e.1.2.2 with
    | some f, some r => !(x.causes.any || (stopsOn x.stops e.1.1 f).1) || r.atRest (x.kin.get {} e.2)
    | _, _ => true

/-- What waits for the kinetic parameters to come to rest: a strict tamper response leaves the outputs undriven (R427), an
orderly thermal stop ends sending (R510), a reset falls 1 ms later (R478). -/
def State.atRest (s : State) : State :=
  { s with box.strict := if s.box.strict = 1 then 2 else s.box.strict,
           ports.off := s.ports.off || s.box.strict == 1,
           pwr.thermal.silent := s.pwr.thermal.silent || (match s.pwr.thermal.stop with
             | some x => x.2
             | none => false),
           sys.reset := if s.sys.reset = .rest then .at (s.now + 1000000) else s.sys.reset }

/-- E052 once every parameter under a rank 1 stop is at rest. -/
def State.raiseRest (s : State) (im : Image) (m : U32) : State :=
  if s.fix.restDue && s.fix.allAtRest im then State.atRest (State.raiseF { s with fix.restDue := false } 52 [f32 0 m]) else s

/-- The grid settings that limits follow: T changes at the boundary of the first frame of a change, q at the boundary of R52
(R156). -/
def Grid.limVals (g : Grid) : GridVals :=
  match g.prev with
  | none => g.v
  | some o =>
    let reached := match g.cur with
      | some m => decide (0 ≤ sdiff32 m o.2)
      | none => true
    if reached then g.v else { o.1 with q := g.v.q }

/-- Instances in a stop ramp or held (Table 4.12). -/
def stoppedIn (kin : Tab Kin) : Nat := (kin.filter fun e => e.2.mode == 1 || e.2.mode == 2).length

/-- The kinetic pass of frame `m` (R156, R157). -/
def State.kinPass (s : State) (im : Image) (m : U32) : State :=
  let s := s.applyStops m
  let kin := s.fix.stepAll im s.grid.limVals s.sh.house.applied (fun p => s.deck.nextParam p) m s.fix.kin
  let base := if s.fix.kinHist.isEmpty then s.fix.kin else s.fix.kinBase
  State.raiseRest { s with fix.kin := kin, fix.outNext := outTable kin, fix.passFrame := some m, fix.kinBase := base,
                           fix.passNext := { s.fix.passNext with stopped := stoppedIn kin },
                           fix.kinHist := ((m, kin) :: s.fix.kinHist).take 32 } im m

/-- R123: render end of frame `m`: the CMU and kinetic passes are started. -/
def State.renderEnd (s : State) (m : U32) : State :=
  match s.sh.active with
  | none => { s with sched.renderEnd := true, fix.passNext := { frame := m }, fix.passAt := s.now,
                     fix.cmuBusy := some m, fix.kinBusy := some m, fix.passFrame := some m }
  | some im =>
    let s := { s with sched.renderEnd := true, fix.passNext := { frame := m }, fix.passAt := s.now,
                      fix.cmuBusy := some m, fix.kinBusy := some m }
    (s.cmuPass im m).kinPass im m

/-! ### Positions of new instances (R162) -/

/-- The start of a kinetic instance that is new to the show: at rest, at its fixture's newest report of the last 10 s, or
at PARAM_INIT. -/
def State.newKin (s : State) (im : Image) (e : Nat × Nat × ParamDesc) : Kin :=
  let pos := (im.fixtures[e.1]?).bind fun f => s.fix.positions.find? fun p =>
    ((im.routes[f.route]?).any fun r => r.key == p.1) && p.2.1 == f.destOffset + e.2.2.outSlot &&
      decide (s.now ≤ p.2.2.2 + 10000000000)
  let x : U16 := match pos with
    | some p => p.2.2.1
    | none => im.init.getD e.2.1 0
  { p := x.toNat * 65536, v := 0, target := x }

/-- Give every instance that is not kept its start. -/
def State.placeKin (s : State) (im : Image) (keep : Nat → Nat → Option Kin) : State :=
  let kin := (im.kinetics.zipIdx).foldl (fun (t : Tab Kin) e =>
    t.set {} e.2 ((keep e.1.1 e.1.2.1).getD (s.newKin im e.1))) []
  { s with fix.kin := kin, fix.outNext := outTable kin, fix.outCur := outTable kin, fix.kinHist := [], fix.kinBase := kin,
           fix.kinOld := none }

/-! ### House override and stopped grid (R160, R161) -/

/-- Position of the record of `b` that matches record `x`. -/
def matchIndex {α : Type} (same : α → α → Bool) (x : α) (b : List α) : Option Nat := b.findIdx? (same x)

/-- A fixture present in both images: the same FIXTURE_ID (R101). -/
def sameFixture (a b : Fixture) : Bool := a.id == b.id

/-- Routes are one destination: the same kind, port and address. -/
def sameRoute (a b : Route) : Bool := a.kind == b.kind && a.port == b.port && a.address == b.address

/-- The kinetic instance that a parameter of a kept fixture had: the parameter at the same place of its fixture (R101). -/
def keptKin (old : Option Image) (new : Image) (kin : Tab Kin) (fi pi : Nat) : Option Kin :=
  match old, new.fixtures[fi]? with
  | some o, some f => (matchIndex sameFixture f o.fixtures).bind fun i => match o.fixtures[i]? with
    | some g => (o.kinetics.findIdx? fun k => k.1 == i && k.2.1 + f.paramBase == pi + g.paramBase).map fun j => kin.get {} j
    | none => none
  | _, _ => none


/-- Parameters that are kinetic. -/
def isKinetic (_ : Fixture) (d : ParamDesc) : Bool := d.kinetic != 0xFFFF

/-- The passes of an image, as the limiter keeps them: the instances before the oldest, and each pass, newest first. -/
structure Passes where
  im : Image
  base : Tab Kin
  hist : List (U32 × Tab Kin)
  deriving DecidableEq, Repr

/-- The passes made after the last latched frame, oldest first, the instances before them, and the passes before (R160). -/
def Passes.unlatched (x : Passes) (latched : U32 → Bool) : List (U32 × Tab Kin) × Tab Kin × List (U32 × Tab Kin) :=
  let un := x.hist.takeWhile fun e => !latched e.1
  let old := x.hist.drop un.length
  (un.reverse, (match old with
    | e :: _ => e.2
    | [] => x.base), old)

/-- The covered instances of a pass made again: `prev` is the state before the frame, `orig` the pass as it was made. -/
def Fix.restep (x : Fix) (im : Image) (g : GridVals) (mask : U32) (m : U32) (prev orig : Tab Kin) : Tab Kin :=
  (im.kinetics.zipIdx).foldl (fun (t : Tab Kin) e => match im.fixtures[e.1.1]?, im.kinRec e.1.2.2 with
    | some f, some r =>
      if inHouse mask f then t.set {} e.2 (x.kinStep g mask r e.1.1 f e.1.2.2 e.1.2.2.house m (prev.get {} e.2)) else t
    | _, _ => t) orig

/-- The passes not latched made again from the state `from_` gives: newest first, those before left as they are (R160). -/
def State.repass (s : State) (x : Passes) (from_ : Tab Kin → Tab Kin) : Passes :=
  let un := x.unlatched fun m => s.tre.latches.any fun l => l.1 == m
  let start := from_ un.2.1
  let new := un.1.foldl (fun (acc : List (U32 × Tab Kin)) e =>
    let prev := match acc with
      | a :: _ => a.2
      | [] => start
    (e.1, s.fix.restep x.im s.grid.limVals s.sh.house.applied e.1 prev e.2) :: acc) []
  { x with base := if x.hist.length = un.1.length then start else x.base, hist := new ++ un.2.2 }

/-- The instances as the newest pass left them. -/
def Passes.last (x : Passes) : Tab Kin :=
  match x.hist with
  | e :: _ => e.2
  | [] => x.base

/-- R160: the steps of covered instances in the frames whose passes are made and that are not latched are made again under
the house mask, through a swap too; answers the state, the kinetic outputs of each such frame, and those of the first. -/
def State.recomputeKin (s : State) (im : Image) : State × (U32 → Tab Nat) × Tab Nat :=
  let x := s.fix
  let old : Option Passes := match x.kinOld, s.outImage with
    | some o, some i => some (s.repass ⟨i, o.1, o.2⟩ id)
    | _, _ => none
  let new := s.repass ⟨im, x.kinBase, x.kinHist⟩ fun b => match old with
    | some o => if x.kinHist.any (fun e => s.tre.latches.any fun l => l.1 == e.1) then b
      else (im.kinetics.zipIdx).foldl (fun (t : Tab Kin) e =>
        t.set {} e.2 ((keptKin (some o.im) im o.last e.1.1 e.1.2.1).getD (b.get {} e.2))) b
    | none => b
  let last := if x.kinHist.isEmpty then x.kin else new.last
  let all := new.hist ++ ((old.map (·.hist)).getD [])
  let outs := fun m => match all.find? (·.1 == m) with
    | some e => outTable e.2
    | none => outTable last
  let cur := match s.sh.commitFrame with
    | some m => outs m
    | none => x.outCur
  let first := match (all.reverse.filter fun e => !(s.tre.latches.any fun l => l.1 == e.1)).head? with
    | some e => outTable e.2
    | none => cur
  ({ s with fix := { x with kin := last, outNext := outTable last, outCur := cur, kinHist := new.hist, kinBase := new.base,
                            kinOld := old.map fun o => (o.base, o.hist) } }, outs, first)

end Sys2Proof.Machine
end

