-- ==== Sys2Proof/Machine/Fixtures.lean ====
section
/-! DEFINITION. Machine/Fixtures.lean: the commands of the fixtures family, the ends of the CMU and kinetic passes, and the
stop steps of a stopped grid (R140 to R165). -/
namespace Sys2Proof.Machine
open Sys2Proof

/-! ### CMU settings and state (R164) -/

/-- The values of a CMU_CONFIG payload (Table 4.11). -/
def cmuCfg (p : List U8) : CmuCfg :=
  { loopKi := p16 p 0, loopMinLum := p16 p 2, settleFrames := p8 p 4, updateFrames := p8 p 5, timeoutFrames := p16 p 6,
    tempHoldFrames := p16 p 8 }

/-- Take CMU_CONFIG's values into force. -/
def State.setCmu (p : List U8) (s : State) : State := { s with fix.cfg := cmuCfg p }

/-- CMU_CONFIG (R164). -/
def execCmuConfig (q : Req) (s : State) : Host.Outcome State Fault Refusal :=
  .next (serve opCmuConfig 16 q s fun s =>
    let c := cmuCfg q.payload
    require (inRange 1 15 c.settleFrames.toNat && decide (8 ≤ c.updateFrames.toNat) &&
        decide (16 ≤ c.timeoutFrames.toNat) && decide (1 ≤ c.tempHoldFrames.toNat)) .denied
      (done (s.defer opCmuConfig 0 q.payload)))

/-- CMU_STATUS (R164, Table 4.12); the read clears UPDATES_DEFERRED. -/
def execCmuStatus (q : Req) (s : State) : Host.Outcome State Fault Refusal :=
  .next (serve opCmuStatus 0 q s fun s =>
    let x := s.fix
    let c := x.pass
    answer { s with fix.deferred := 0 } (pack 40
      [f32 0 c.frame, f32 4 c.solves, f32 8 c.cmuNs, f32 12 c.kinNs, f32 16 c.gamut, f32 20 c.limited,
       fN 24 2 c.run, fN 26 2 c.frozen, fN 28 2 c.saturated, f16 30 c.stale, f32 32 x.deferred, fN 36 2 c.stopped]))

/-! ### LOOP_CONTROL (R149, R164) -/

/-- The fixture an index names in the active image. -/
def State.fixtureAt (s : State) (i : Nat) : Option Fixture := s.sh.active.bind fun im => im.fixtures[i]?

/-- A loop after LOOP_CONTROL's action; the loop of a fixture with CLOSED_LOOP = 0 stays OFF (R149). -/
def Loop.control (l : Loop) (closed : Bool) (action : Nat) (m : U32) : Loop :=
  match action with
  | 0 => { l with ix := 0, iy := 0, iz := 0 }
  | 1 => { l with st := 0, disabled := true, ix := 0, iy := 0, iz := 0, saturated := false, satCount := 0 }
  | _ => if closed then { l with st := 1, disabled := false, validAt := if l.st = 1 then l.validAt else m } else l

/-- LOOP_CONTROL with the action its payload gives (Table 4.10). -/
def loopControl (q : Req) (s : State) : State :=
  serve opLoopControl 8 q s fun s =>
    let fi := rd q.payload 0 4
    let a := (p8 q.payload 4).toNat
    match s.fixtureAt fi with
    | none => .error .denied
    | some f => require (decide (a ≤ 2)) .denied
        (let was := (s.loop fi).st
         let s := s.modLoop fi fun l => l.control f.closedLoop a s.grid.nextRender
         let s := if a ≤ 1 then s.dropCorr fi else s
         done (s.raiseIf (was == 2 && (s.loop fi).st != 2) 50 [f32 0 f.id, fN 4 1 2]))

/-- LOOP_CONTROL, reset integrators. -/
def execLoopResetIntegrators (q : Req) (s : State) : Host.Outcome State Fault Refusal := .next (loopControl q s)

/-- LOOP_CONTROL, disable. -/
def execLoopDisable (q : Req) (s : State) : Host.Outcome State Fault Refusal := .next (loopControl q s)

/-- LOOP_CONTROL, enable. -/
def execLoopEnable (q : Req) (s : State) : Host.Outcome State Fault Refusal := .next (loopControl q s)

/-- The temperature in use for a fixture; T_REF of its emitter record where it has one and no reading serves. -/
def State.tempInUse (s : State) (im : Image) (f : Fixture) : Int :=
  match im.emitterRec f with
  | some r => (tempOf s.fix.temps s.fix.cfg.tempHoldFrames f r s.grid.nextRender).1
  | none => (s.fix.temps.get {} f.sensor.toNat).value

/-- LOOP_READ (R164, Table 4.13). -/
def execLoopRead (q : Req) (s : State) : Host.Outcome State Fault Refusal :=
  .next (serve opLoopRead 4 q s fun s =>
    let fi := rd q.payload 0 4
    match s.sh.active, s.fixtureAt fi with
    | some im, some f =>
      let l := s.loop fi
      answer s (pack 32
        [fN 0 1 l.st, fB 1 0 l.saturated, fI 2 2 (s.tempInUse im f), fI 4 2 l.ix, fI 6 2 l.iy, fI 8 2 l.iz,
         f32 12 (lastFrame l.lastUpdate), f32 16 (lastFrame l.lastSample), fI 20 2 l.epsX, fI 22 2 l.epsY, fI 24 2 l.epsZ])
    | _, _ => .error .denied)

/-- FIXTURE_SOLVE_READ (R164, Table 4.14). -/
def execFixtureSolveRead (q : Req) (s : State) : Host.Outcome State Fault Refusal :=
  .next (serve opFixtureSolveRead 4 q s fun s =>
    let fi := rd q.payload 0 4
    match s.fixtureAt fi with
    | none => .error .denied
    | some _ =>
      let v := (s.loop fi).solve
      answer s (pack 32 ([f32 0 v.frame, f16 4 v.targetU, f16 6 v.targetV, f16 8 v.mappedU, f16 10 v.mappedV, f16 12 v.lum,
        fB 14 0 v.outOfGamut, fB 14 1 v.lumLimited, fB 14 2 v.tempStale] ++
        (v.drives.take 8).zipIdx.map fun d => f16 (16 + 2 * d.2) d.1)))

/-! ### KINETIC_STOP (R165) -/

/-- The stop a KINETIC_STOP payload gives (Table 4.15). -/
def kstopOf (p : List U8) : KStop :=
  { action := p8 p 0, scope := p8 p 1, first := rd p 4 4, count := rd p 8 4, groups := p32 p 12, frame := p32 p 16 }

/-- The kinetic pass of frame `f` has begun (R165). -/
def State.passBegun (s : State) (f : U32) : Bool :=
  s.running && (match s.fix.passFrame with
    | some m => decide (sdiff32 f m ≤ 0)
    | none => false)

/-- KINETIC_STOP with the action its payload gives (R165). -/
def kineticStop (q : Req) (s : State) : State :=
  serve opKineticStop 20 q s fun s =>
    let k := kstopOf q.payload
    let any := k.frame == 0xFFFFFFFF
    require (inRange 1 3 k.action.toNat && decide (k.scope.toNat ≤ 2) &&
        !(any && (s.paired || decide (1 < s.memberIds.length)))) .denied
      (require (any || !s.passBegun k.frame) .late (done { s with fix.stops := s.fix.stops ++ [k] }))

/-- KINETIC_STOP, HOLD. -/
def execKineticStopHold (q : Req) (s : State) : Host.Outcome State Fault Refusal := .next (kineticStop q s)

/-- KINETIC_STOP, BLACKOUT. -/
def execKineticStopBlackout (q : Req) (s : State) : Host.Outcome State Fault Refusal := .next (kineticStop q s)

/-- KINETIC_STOP, RELEASE. -/
def execKineticStopRelease (q : Req) (s : State) : Host.Outcome State Fault Refusal := .next (kineticStop q s)

/-- KINETIC_READ (R164). -/
def execKineticRead (q : Req) (s : State) : Host.Outcome State Fault Refusal :=
  .next (serve opKineticRead 2 q s fun s =>
    let i := rd q.payload 0 2
    require (decide (i < 32768)) .denied
      (let k := s.fix.kin.get {} i
       answer s (pack 16 [fN 0 4 k.p, fI 4 4 k.v, f16 8 k.target, fN 10 1 k.mode, f32 12 k.frame])))

/-! ### Events -/

/-- The CMU pass ends: 32 million solves a second (R145). -/
def execCmuPassComplete (dt : Nat) (s : State) : Host.Outcome State Fault Refusal :=
  let s := s.elapse dt
  let ns := s.solveNs (ceilDiv s.fix.passNext.solves.toNat 4)
  .next (if s.fix.cmuBusy.isSome ∧ s.fix.passAt + ns ≤ s.now then
      { s with fix.cmuBusy := none, fix.passNext.cmuNs := BitVec.ofNat 32 (s.now - s.fix.passAt) }
    else s)

/-- The kinetic pass ends (R156). -/
def execKineticPassComplete (dt : Nat) (s : State) : Host.Outcome State Fault Refusal :=
  let s := s.elapse dt
  .next (if s.fix.kinBusy.isSome then
      { s with fix.kinBusy := none, fix.passNext.kinNs := BitVec.ofNat 32 (s.now - s.fix.passAt) }
    else s)

/-- One step of a stopped grid for the instances under a rank 1 stop or in house override (R161, R156). -/
def Fix.stopSteps (x : Fix) (im : Image) (g : GridVals) (mask : U32) (m : U32) : Tab Kin :=
  (im.kinetics.zipIdx).foldl (fun (t : Tab Kin) e => match im.fixtures[e.1.1]?, im.kinRec e.1.2.2 with
    | some f, some r =>
      if x.causes.any || (stopsOn x.stops e.1.1 f).1 || inHouse mask f then
        t.upd {} e.2 fun k => x.kinStep g mask r e.1.1 f e.1.2.2 k.target m k
      else t
    | _, _ => t) x.kin

/-- While the grid is stopped, the limiter steps every 256 ticks after the last presented frame, and Hedgerow sends each
step for immediate application (R161). -/
def execKineticStopStep (dt : Nat) (s : State) : Host.Outcome State Fault Refusal :=
  let s := s.elapse dt
  .next (match s.sh.active with
    | none => s
    | some im =>
      if s.grid.stopped = false ∨ (s.grid.tickCount - s.fix.stepTick).toNat < 256 then s
      else
        let m := s.grid.lastFrameNo
        let s := s.applyStops m
        let kin := s.fix.stopSteps im s.grid.limVals s.sh.house.applied m
        let out := outTable kin
        let moved := decide (kin ≠ s.fix.kin)
        let s := { s with fix.kin := kin, fix.outNext := out, fix.outCur := out, fix.kinHist := [], fix.kinBase := kin,
                          fix.stepTick := s.grid.tickCount - (s.grid.tickCount - s.fix.stepTick) % 256 }
        let s := if moved then s.immediateAll isKinetic (fun _ => out) out false else s
        s.raiseRest im m)

end Sys2Proof.Machine
end

