-- ==== Sys2Proof/Machine/BulkOps.lean ====
section
/-! DEFINITION. Machine/BulkOps.lean: streams of BULK messages (R461). -/
namespace Sys2Proof.Machine
open Sys2Proof

/-- The key under which a stream is kept: relay data by its STREAM_ID alone. -/
def streamKey (kind : Nat) (id : U32) : Nat := (if kind = 2 then 0 else kind * 2 ^ 32) + id.toNat

/-- STREAM_ID of a stream kept under a key. -/
def streamId (key : Nat) : U32 := BitVec.ofNat 32 key

/-- The payload of a BULK message (Table 13.7). -/
def bulkMsg (id : U32) (off kind : Nat) (last : Bool) (data : List U8) : List U8 :=
  be 4 id.toNat ++ be 4 off ++ be 2 data.length ++ be 1 kind ++ be 1 (if last then 1 else 0) ++ be 4 (crc32 data).toNat ++ data

/-- Send an engine a BULK message: the partner over the pier link, another engine by its route. -/
def State.sendBulk (s : State) (kind : U8) (peer : U32) (payload : List U8) : State :=
  if kind = 1 then s.toPartner 0x0070 payload else s.unicast peer 0x0070 payload

/-- Send what the window of 256 KiB lets through, in messages of at most 4,096 bytes (R461). -/
def State.bulkPump : Nat → Nat → State → State
  | 0, _, s => s
  | n + 1, key, s =>
    let x := s.mb.txStreams.get {} key
    let top := min x.bytes.length (x.acked + 262144)
    if x.sent < top then
      let k := min 4096 (top - x.sent)
      let last := decide (x.sent + k = x.bytes.length)
      let s := s.sendBulk x.kind x.peer (bulkMsg (streamId key) x.sent x.kind.toNat last (bytesAt x.bytes x.sent k))
      State.bulkPump n key { s with mb.txStreams := s.mb.txStreams.set {} key { x with sent := x.sent + k } }
    else s

/-- Begin a stream (R461). -/
def State.bulkStart (s : State) (kind : U8) (id peer : U32) (bytes : List U8) : State :=
  let key := streamKey kind.toNat id
  State.bulkPump 65 key { s with mb.txStreams := s.mb.txStreams.set {} key { bytes := bytes, since := s.now, kind := kind, peer := peer } }

/-- A sender's stream is over. -/
def State.bulkDrop (s : State) (key : Nat) : State := { s with mb.txStreams := s.mb.txStreams.set {} key {} }

/-- Every byte of a stream is acknowledged. -/
def Stream.done (x : Stream) : Bool := !x.bytes.isEmpty && x.acked == x.bytes.length

/-- An acknowledgement arrives from an engine: progress restarts the 1 ms (R461). -/
def State.bulkAck (s : State) (src id : U32) (off : Nat) : State :=
  [1, 2].foldl (fun (s : State) kind =>
    let key := streamKey kind id
    let x := s.mb.txStreams.get {} key
    if x.peer = src ∧ x.acked < off ∧ off ≤ x.sent then
      State.bulkPump 65 key { s with mb.txStreams := s.mb.txStreams.set {} key { x with acked := off, since := s.now, resends := 0 } }
    else s) s

/-- Data of a stream arrives: kept if it follows what is in hand; acknowledged at a LAST and at every 64 KiB (R461). -/
def State.bulkData (s : State) (src : U32) (p : List U8) : State :=
  let id : U32 := BitVec.ofNat 32 (rdBE p 0 4)
  let off := rdBE p 4 4
  let n := rdBE p 8 2
  let kind := rdBE p 10 1
  let last := rdBE p 11 1 % 2 == 1
  let data := bytesAt p 16 n
  if (kind ≠ 1 ∧ kind ≠ 2) ∨ (crc32 data).toNat ≠ rdBE p 12 4 then s
  else
    let key := streamKey kind id
    let x := s.mb.rxStreams.get {} key
    let x : Stream := if off = 0 ∧ (x.last = true ∨ x.peer ≠ src) then { peer := src, kind := BitVec.ofNat 8 kind } else x
    let old := x.bytes.length
    let x' : Stream := if off = old ∧ x.last = false then { x with bytes := x.bytes ++ data, last := last } else x
    let s := { s with mb.rxStreams := s.mb.rxStreams.set {} key x' }
    if last = true ∨ off < old ∨ old / 65536 < x'.bytes.length / 65536 then
      s.sendBulk (BitVec.ofNat 8 kind) src (bulkMsg id x'.bytes.length 0 false [])
    else s

/-- The 1 ms of a stream has passed with no progress: it is sent again from the acknowledged offset (R461). -/
def State.bulkResend (s : State) (key : Nat) : State :=
  let x := s.mb.txStreams.get {} key
  State.bulkPump 65 key { s with mb.txStreams := s.mb.txStreams.set {} key { x with sent := x.acked, since := s.now, resends := x.resends + 1 } }

/-- Streams whose 1 ms has passed. -/
def State.bulkDue (s : State) : List (Nat × Stream) := s.mb.txStreams.filter fun e => s.cycExpired (e.2.since + 1000000)

end Sys2Proof.Machine
end

