-- ==== Sys2Proof/Machine/Packets.lean ====
section
/-! DEFINITION. Machine/Packets.lean: the bytes of Ethernet frames: headers, the checksums of R319 and R320, and the packets that
firmware builds. The layouts that the spec takes from the standards it names (IPv4, UDP, ARP, IGMPv3, E1.31, IEEE 1588) are theirs. -/
namespace Sys2Proof

/-! ### What a frame's bytes say (R326) -/

/-- The first VLAN tag's VID. -/
def frameVid (b : List U8) : Option Nat := if rdBE b 12 2 = 0x8100 then some (rdBE b 14 2 % 4096) else none

/-- The offset of the payload, after at most one VLAN tag. -/
def framePayload (b : List U8) : Nat := if rdBE b 12 2 = 0x8100 then 18 else 14

/-- EtherType, after at most one VLAN tag. -/
def frameType (b : List U8) : Nat := rdBE b (framePayload b - 2) 2

/-- The offset of the IPv4 header and its length in bytes, where IHL is from 5 to 15 and the frame holds the header. -/
def ipv4At (b : List U8) : Option (Nat × Nat) :=
  let o := framePayload b
  let v := (b.getD o 0).toNat
  if frameType b = 0x0800 ∧ v / 16 = 4 ∧ 5 ≤ v % 16 ∧ o + 4 * (v % 16) ≤ b.length then some (o, 4 * (v % 16)) else none

/-- Source, destination and, for the first bytes of a UDP datagram, its destination port. -/
def ipv4Of (b : List U8) : Option (U32 × U32 × Option U16) :=
  (ipv4At b).map fun h =>
    let udp := b.getD (h.1 + 9) 0 == 17 && rdBE b (h.1 + 6) 2 % 0x2000 == 0
    (BitVec.ofNat 32 (rdBE b (h.1 + 12) 4), BitVec.ofNat 32 (rdBE b (h.1 + 16) 4),
      if udp then some (BitVec.ofNat 16 (rdBE b (h.1 + h.2 + 2) 2)) else none)

/-- The target address of an ARP request. -/
def arpTarget (b : List U8) : Option U32 :=
  let o := framePayload b
  if frameType b = 0x0806 ∧ rdBE b (o + 6) 2 = 1 then some (BitVec.ofNat 32 (rdBE b (o + 24) 4)) else none

/-! ### Checksums (R319, R320) -/

/-- The sum of the 16-bit words of a byte string; an odd last byte is padded with zero. -/
def wordSum : List U8 → Nat
  | x :: y :: r => 256 * x.toNat + y.toNat + wordSum r
  | [x] => 256 * x.toNat
  | [] => 0

/-- Carries added back until 16 bits are left. -/
def fold16 (n : Nat) : Nat := if n = 0 then 0 else (n - 1) % 65535 + 1

/-- Bytes of a string replaced from an offset. -/
def overwrite (b : List U8) (off : Nat) (new : List U8) : List U8 := b.take off ++ new ++ b.drop (off + new.length)

/-- The IPv4 header of a frame whose checksums are computed: it is no fragment (R319). -/
def summedAt (b : List U8) : Option (Nat × Nat) := (ipv4At b).filter fun h => rdBE b (h.1 + 6) 2 % 0x4000 == 0

/-- What the UDP checksum covers: the pseudo-header, and as many bytes from the UDP header on as the UDP length says. -/
def udpCovered (b : List U8) (h : Nat × Nat) : List U8 :=
  let u := h.1 + h.2
  bytesAt b (h.1 + 12) 8 ++ be 2 17 ++ bytesAt b (u + 4) 2 ++ (b.drop u).take (rdBE b (u + 4) 2)

/-- The frame carries a whole UDP header. -/
def hasUdp (b : List U8) (h : Nat × Nat) : Bool := b.getD (h.1 + 9) 0 == 17 && decide (h.1 + h.2 + 8 ≤ b.length)

/-- R319: the checksums that a writer asked for, computed and inserted; a frame they are not computed for is as written. -/
def withChecksums (b : List U8) : List U8 :=
  match summedAt b with
  | none => b
  | some h =>
    let b := overwrite b (h.1 + 10) (be 2 0)
    let b := overwrite b (h.1 + 10) (be 2 (65535 - fold16 (wordSum (bytesAt b h.1 h.2))))
    if hasUdp b h then
      let u := h.1 + h.2 + 6
      let b := overwrite b u (be 2 0)
      let c := 65535 - fold16 (wordSum (udpCovered b h))
      overwrite b u (be 2 (if c = 0 then 0xFFFF else c))
    else b

/-- R320: whether a received frame's checksums are examined, whether the header's is right, and whether the UDP checksum is
right or absent. -/
def frameChecks (b : List U8) : Bool × Bool × Bool :=
  match summedAt b with
  | none => (false, false, false)
  | some h => (true, fold16 (wordSum (bytesAt b h.1 h.2)) == 65535,
      !hasUdp b h || rdBE b (h.1 + h.2 + 6) 2 == 0 || fold16 (wordSum (udpCovered b h)) == 65535)

/-! ### Frames that firmware builds -/

namespace Machine

/-- A frame of show traffic, tagged where VID is not 0, padded to 60 bytes; the port adds the FCS (R311). -/
def EthCfg.frame (c : EthCfg) (dst etype : Nat) (payload : List U8) : List U8 :=
  let b := be 6 dst ++ be 6 c.mac ++ (if c.vid = 0 then [] else be 2 0x8100 ++ be 2 (8192 * c.pcp + c.vid)) ++ be 2 etype ++ payload
  b ++ List.replicate (60 - b.length) 0

/-- The MAC address that an IPv4 address is sent to: a group's own, or the next hop's. How the engine learns the next hop's the spec
does not say. -/
def EthCfg.macFor (c : EthCfg) (ip : U32) : Nat :=
  if ip.toNat / 2 ^ 28 = 0xE then 0x01005E000000 + ip.toNat % 2 ^ 23
  else Config.macOf (if ip &&& c.netmask = c.ip &&& c.netmask ∨ c.gateway = 0 then ip else c.gateway)

/-- An IPv4 packet; identification, DF and TTL are free. -/
def EthCfg.ipPacket (c : EthCfg) (dst : U32) (dscp : U8) (free : U16 × Bool × U8) (proto : Nat) (opts payload : List U8) : List U8 :=
  be 1 (0x45 + opts.length / 4) ++ be 1 (4 * dscp.toNat) ++ be 2 (20 + opts.length + payload.length) ++ be 2 free.1.toNat ++
  be 2 (if free.2.1 then 0x4000 else 0) ++ be 1 free.2.2.toNat ++ be 1 proto ++ be 2 0 ++ be 4 c.ip.toNat ++ be 4 dst.toNat ++
  opts ++ payload

/-- A frame that carries a UDP datagram, its checksums still to be inserted (R319). -/
def EthCfg.udpFrame (c : EthCfg) (dst : U32) (dscp : U8) (free : U16 × Bool × U8) (sport dport : U16) (body : List U8) : List U8 :=
  c.frame (c.macFor dst) 0x0800 (c.ipPacket dst dscp free 17 []
    (be 2 sport.toNat ++ be 2 dport.toNat ++ be 2 (8 + body.length) ++ be 2 0 ++ body))

/-- The answer to an ARP request. -/
def EthCfg.arpReply (c : EthCfg) (mac : Nat) (ip : U32) : List U8 :=
  c.frame mac 0x0806 (be 2 1 ++ be 2 0x0800 ++ be 1 6 ++ be 1 4 ++ be 2 2 ++ be 6 c.mac ++ be 4 c.ip.toNat ++ be 6 mac ++ be 4 ip.toNat)

/-- An IGMPv3 report of group records, each a record type and a group: 2 MODE_IS_EXCLUDE, 3 and 4 a change to INCLUDE and EXCLUDE,
of no sources. -/
def EthCfg.igmpReport (c : EthCfg) (free : U16 × Bool × U8) (recs : List (Nat × U32)) : List U8 :=
  let b := be 1 0x22 ++ be 1 0 ++ be 2 0 ++ be 2 0 ++ be 2 recs.length ++
    recs.flatMap fun r => be 1 r.1 ++ be 1 0 ++ be 2 0 ++ be 4 r.2.toNat
  withChecksums (c.frame (c.macFor 0xE0000016) 0x0800 (c.ipPacket 0xE0000016 c.dscpShow (free.1, free.2.1, 1) 2 (be 4 0x94040000)
    (overwrite b 2 (be 2 (65535 - fold16 (wordSum b))))))

end Machine

/-! ### ANSI E1.31-2016 packets (R304, R305) -/

/-- The root layer of an E1.31 packet around its framing layer. -/
def e131Root (extended : Bool) (cid framing : List U8) : List U8 :=
  be 2 0x0010 ++ be 2 0 ++ (be 9 0x4153432D45312E3137 ++ be 3 0) ++ be 2 (0x7000 + 22 + framing.length) ++
  be 4 (if extended then 8 else 4) ++ bytesAt cid 0 16 ++ framing

/-- A data packet: start code 0x00 and the slots given. -/
def e131Data (cid name : List U8) (prio : U8) (sync : U16) (seq : U8) (terminated force : Bool) (uni : Nat) (slots : List U8) :
    List U8 :=
  e131Root false cid (be 2 (0x7000 + 88 + slots.length) ++ be 4 2 ++ bytesAt name 0 64 ++ be 1 prio.toNat ++ be 2 sync.toNat ++
    be 1 seq.toNat ++ be 1 ((if terminated then 0x40 else 0) + (if force then 0x20 else 0)) ++ be 2 uni ++
    be 2 (0x7000 + 11 + slots.length) ++ be 1 2 ++ be 1 0xA1 ++ be 2 0 ++ be 2 1 ++ be 2 (1 + slots.length) ++ be 1 0 ++ slots)

/-- A synchronisation packet. -/
def e131Sync (cid : List U8) (seq : U8) (sync : U16) : List U8 :=
  e131Root true cid (be 2 (0x7000 + 11) ++ be 4 1 ++ be 1 seq.toNat ++ be 2 sync.toNat ++ be 2 0)

/-- One page of a universe discovery packet. -/
def e131Discovery (cid name : List U8) (page last : Nat) (unis : List Nat) : List U8 :=
  e131Root true cid (be 2 (0x7000 + 82 + 2 * unis.length) ++ be 4 2 ++ bytesAt name 0 64 ++ be 4 0 ++
    be 2 (0x7000 + 8 + 2 * unis.length) ++ be 4 1 ++ be 1 page ++ be 1 last ++ unis.flatMap (be 2 ·))

/-! ### IEEE 1588-2019 messages (R334, R335) -/

namespace Machine

/-- messageType, controlField and the length of the message, by kind: 0 Sync, 1 Follow_Up, 2 Announce, 3 Delay_Req, 4 Delay_Resp,
5 Pdelay_Req, 6 Pdelay_Resp, 7 Pdelay_Resp_Follow_Up. -/
def ptpType (kind : Nat) : Nat × Nat × Nat :=
  [(0, 0, 44), (8, 2, 44), (11, 5, 64), (1, 1, 44), (9, 3, 54), (2, 5, 54), (3, 5, 54), (10, 5, 54)].getD kind (0, 0, 44)

/-- Event messages go to port 319, general messages to 320. -/
def ptpEvent (kind : Nat) : Bool := kind == 0 || kind == 3 || kind == 5 || kind == 6

/-- Messages of the peer-to-peer mechanism. -/
def ptpPeer (kind : Nat) : Bool := decide (5 ≤ kind)

/-- A time in 2^-16 ns as a PTP timestamp: seconds in 48 bits and nanoseconds in 32. -/
def ptpTime (t : Int) : List U8 :=
  let ns := (t / 65536).toNat
  be 6 (ns / 1000000000 % 2 ^ 48) ++ be 4 (ns % 1000000000)

/-- The part of a time below the nanosecond, in 2^-16 ns. -/
def ptpFrac (t : Int) : Int := t % 65536

/-- correctionField of a message: the fraction that its timestamp leaves out, added to where the time was sent and taken from where
it was received, and the correction of the request it answers (IEEE 1588-2019, 9.5 and 11.3). -/
def PtpOut.correction (m : PtpOut) : Int :=
  match m.kind with
  | 1 => ptpFrac m.time
  | 4 => m.reqCorr - ptpFrac m.time
  | 6 => -ptpFrac m.time
  | 7 => m.reqCorr + ptpFrac m.time
  | _ => 0

/-- The header of a PTP message. -/
def PtpOut.header (m : PtpOut) (domain : U8) (flags : Nat) (identity : U64) (port : U16) (log : Int) : List U8 :=
  let t := ptpType m.kind
  be 1 t.1 ++ be 1 0x12 ++ be 2 t.2.2 ++ be 1 domain.toNat ++ be 1 0 ++ be 2 flags ++ be 8 (BitVec.ofInt 64 m.correction).toNat ++
  be 4 0 ++ be 8 identity.toNat ++ be 2 port.toNat ++ be 2 m.seq.toNat ++ be 1 t.2.1 ++ be 1 (BitVec.ofInt 8 log).toNat

/-- The body of a PTP message: `data` is what an Announce carries, with its timeSource; `origin` the originTimestamp of a message
that need not state one. -/
def PtpOut.body (m : PtpOut) (d : PtpData) (source : U8) (origin : Nat) : List U8 :=
  let req := be 8 m.reqId.toNat ++ be 2 m.reqPort.toNat
  match m.kind with
  | 1 => ptpTime m.time
  | 2 => be 10 origin ++ be 2 d.utcOffset.toNat ++ be 1 0 ++ be 1 d.prio1.toNat ++ be 1 d.cls.toNat ++ be 1 d.accuracy.toNat ++
      be 2 d.variance.toNat ++ be 1 d.prio2.toNat ++ be 8 d.gm.toNat ++ be 2 d.steps.toNat ++ be 1 source.toNat
  | 4 | 6 | 7 => ptpTime m.time ++ req
  | 5 => be 10 origin ++ be 10 0
  | _ => be 10 origin

end Machine

end Sys2Proof
end

