-- ==== Sys2Proof/Machine/RasterOps.lean ====
section
/-! DEFINITION. Machine/RasterOps.lean: ingest copies and their capture, raster frames, compositing and the raster stream
(R171 to R193, R226). -/
namespace Sys2Proof.Machine
open Sys2Proof

/-! ### Deck reads (R171) -/

/-- A block reads `n` bytes of Deck from address `a` for frame `f`: an uncorrectable word also stands in the frame's fault flags and
fails the Deck ECC check (R171, R381, Table 11.7). -/
def State.deckRead (s : State) (f : U32) (a n requester : Nat) : State :=
  let bad := s.deck.hasDouble a n
  let s := (s.deckGrant n).eccRead a n requester
  if bad then (s.flagFrame f 2).checkFail 2 false else s

/-- A frame boundary: the accesses granted in the period that ends, per thousand of its 1 ns cycles (Table 5.11). -/
def State.deckBoundary (s : State) : State :=
  { s with deck.busy := BitVec.ofNat 16 (min 1000 (s.deck.granted * 1000 / max 1 s.grid.v.period)), deck.granted := 0 }

/-- Where the pixels of a map lie for frame `f`: byte address and length; an ingest map's are those of the copy captured. -/
def State.mapBytes (s : State) (mi : Nat) (m : PixelMap) (f : U32) (half1 : Bool) : Nat × Nat :=
  let n := 6 * (m.width * m.height)
  if m.ingest then
    match s.capturedCopy mi f with
    | some c =>
      let a := m.ingestSlot c 0 0
      (pixelAddr a.1 a.2, n)
    | none => (0, 0)
  else (pixelAddr half1 m.slotBase, n)

/-- What the CMU and the limiter read of the frame being rendered: the parameters of their fixtures (R171, Table 5.2). -/
def State.cmuReads (s : State) (im : Image) (f : U32) : State :=
  (im.indexed.filter fun e => im.isCmu e.2 || (im.paramsOf e.2).any fun p => p.2.kinetic != 0xFFFF).foldl (fun (s : State) e =>
    s.deckRead f (paramAddr (!s.deck.half1) e.2.paramBase) (2 * (im.paramsOf e.2).length) 4) s

/-- What Hedgerow reads to pack a route for frame `f` (R171, Table 5.2). -/
def State.packReads (s : State) (im : Image) (route : Nat) (r : Route) (f : U32) : State :=
  let s := (im.fixturesOf route).foldl (fun (s : State) e =>
    s.deckRead f (paramAddr s.deck.half1 e.2.paramBase) (2 * (im.paramsOf e.2).length) 5) s
  let mi := if r.kind = 4 then some r.address.toNat else if r.kind = 1 then (Config.spanPixelMap route).map (·.1) else none
  match mi.bind fun i => (im.maps[i]?).map fun m => (i, m) with
  | none => s
  | some e =>
    let a := s.mapBytes e.1 e.2 f s.deck.half1
    s.deckRead f a.1 a.2 5

/-! ### Ingest copies (R179 to R182) -/

/-- The pixel map an ingest stream writes, in the active image. -/
def State.ingestMap (s : State) (k : Fin 8) : Option PixelMap :=
  match s.sh.active.bind fun im => im.maps[s.ingest[k].cfg.map]? with
  | some m => if m.ingest then some m else none
  | none => none

/-- Bands of 16 rows of a map (R179). -/
def PixelMap.bands (m : PixelMap) : Nat := ceilDiv m.height 16

/-- The media time of the newest complete copy. -/
def Ingest.newestMedia (g : Ingest) : Option Int :=
  (g.copies.toList.filter (·.complete)).foldl (fun (a : Option Int) c => match a with
    | none => some c.media
    | some x => some (max x c.media)) none

/-- A copy is free: no frame holds it, it is not being written, and it is not the newest complete copy (R180). -/
def Ingest.isFree (g : Ingest) (c : Copy) : Bool :=
  c.held.isEmpty && !c.writing && !(c.complete && g.newestMedia == some c.media)

/-- Change a stream; a copy that becomes free stands free from now (R180). -/
def State.modIngest (s : State) (k : Fin 8) (f : Ingest → Ingest) : State :=
  let old := s.ingest[k]
  let new := f old
  let copies := .ofFn fun (c : Fin 4) =>
    if new.isFree new.copies[c] && !old.isFree old.copies[c] then { new.copies[c] with freeSince := s.now }
    else new.copies[c]
  { s with ingest := s.ingest.set k { new with copies := copies } }

/-- The free copy of the first `n` that has stood free longest (R180). -/
def Ingest.freest (g : Ingest) (n : Nat) : Option (Fin 4) :=
  ((List.finRange 4).filter fun c => decide (c.val < n) && g.isFree g.copies[c]).foldl
    (fun (a : Option (Fin 4)) c => match a with
      | none => some c
      | some b => if g.copies[c].freeSince < g.copies[b].freeSince then some c else some b) none

/-- R180: the first packet of a source frame takes a copy, or the source frame is dropped. -/
def State.sourceBegin (s : State) (k : Fin 8) (rtp : U32) (media : Int) : State :=
  let g := s.ingest[k]
  match s.ingestMap k, (s.ingestMap k).bind fun m => g.freest m.copies with
  | some m, some c =>
    s.modIngest k fun g => { g with source := some (rtp, some c), lines := 0, dropRun := false,
                                    copies := g.copies.set c { bands := m.bands, writing := true, media := media,
                                                               tag := rtp.toNat % 65536 } }
  | _, _ =>
    let first := !g.dropRun
    (s.modIngest k fun g => { g with source := some (rtp, none), lines := 0, dropRun := true,
                                              dropped := U32.inc g.dropped
      }).raiseIf first 62 [fN 0 1 k.val]

/-- Bands whose source lines have arrived once `lines` lines are complete (R179). -/
def IngestCfg.ready (c : IngestCfg) (m : PixelMap) (srcH lines : Nat) : Nat :=
  let h := if c.cropH = 0 then srcH else c.cropH.toNat
  ((List.range m.bands).filter fun b =>
    decide (c.cropY.toNat + ceilDiv (min m.height (16 * (b + 1)) * h) (max 1 m.height) ≤ lines)).length

/-- ARG of the scaling task of a band: stream, copy, band, and the source frame's tag. -/
def bandArg (k : Fin 8) (c : Fin 4) (band tag : Nat) : U32 :=
  BitVec.ofNat 32 (k.val + 8 * c.val + 32 * band + 65536 * tag)

/-- Source lines arrive: the tasks of the bands that are ready are submitted (R179). -/
def State.sourceLines (s : State) (k : Fin 8) (lines : Nat) (last : Bool) : State :=
  let g := s.ingest[k]
  match s.ingestMap k, g.source with
  | some m, some (_, some c) =>
    let from_ := g.cfg.ready m g.srcH.toNat g.lines
    let till := if last then m.bands else g.cfg.ready m g.srcH.toNat lines
    let s := s.modIngest k fun g => { g with lines := lines }
    (List.range (till - from_)).foldl (fun s i => s.submit
      { source := 1, priority := ⟨s.sched.cfg.priority[1].toNat % 8, Nat.mod_lt _ (by decide)⟩,
        frame := s.grid.curFrame, arg := bandArg k c (from_ + i) g.copies[c].tag }) s
  | _, _ => s.modIngest k fun g => { g with lines := lines }

/-- Samples of a packet join the source frame in progress (R178). -/
def State.sourceRows (s : State) (k : Fin 8) (rows : List VideoRow) : State :=
  match s.ingest[k].source with
  | some (_, some c) => s.modIngest k fun g =>
      { g with copies := g.copies.set c { g.copies[c] with
          src := rows.foldl (fun (t : Tab U16) r => t.writes 0 (sampleKey r.line (fmtSamples g.format r.first)) r.codes)
            g.copies[c].src } }
  | _ => s

/-- R343: the source frame in progress is abandoned and its copy freed. -/
def State.sourceAbandon (s : State) (k : Fin 8) : State :=
  match s.ingest[k].source with
  | some (r, some c) => s.modIngest k fun g =>
      { g with source := some (r, none), copies := g.copies.set c { g.copies[c] with writing := false, bands := 0, src := [] } }
  | _ => s

/-- A band's task ends: its rows are written, converted and scaled; the last one completes the copy (R178, R179). -/
def State.bandDone (s : State) (arg : Nat) : State :=
  let k : Fin 8 := ⟨arg % 8, Nat.mod_lt _ (by decide)⟩
  let c : Fin 4 := ⟨arg / 8 % 4, Nat.mod_lt _ (by decide)⟩
  let band := arg / 32 % 2048
  match s.ingestMap k with
  | none => s
  | some m =>
    let g := s.ingest[k]
    let x := g.copies[c]
    if x.writing = false ∨ x.tag ≠ arg / 65536 then s
    else
      let pix := bandPixels g.cfg g.format x.src g.srcW.toNat g.srcH.toNat m band
      let s := s.deckGrant (6 * pix.length)
      let deck := (pix.zipIdx).foldl (fun (d : Deck) e =>
        let a := m.ingestSlot c (e.2 % m.width) (16 * band + e.2 / m.width)
        d.setPixel a.1 a.2 ((List.range 3).map fun j => e.1.getD j 0)) s.deck
      State.modIngest { s with deck := deck } k fun g =>
        let x := g.copies[c]
        if x.bands ≤ 1 then
          { g with written := g.written.inc, copies := g.copies.set c { x with bands := 0, writing := false, complete := true, src := [] } }
        else { g with copies := g.copies.set c { x with bands := x.bands - 1 } }

/-- R181: the complete copy that a bound lets a frame capture. -/
def Ingest.within (g : Ingest) (bound : Int) : Option (Fin 4) :=
  ((List.finRange 4).filter fun c => g.copies[c].complete && decide (g.copies[c].media ≤ bound)).foldl
    (fun (a : Option (Fin 4)) c => match a with
      | none => some c
      | some b => if g.copies[b].media < g.copies[c].media then some c else some b) none

/-- R181: frame `m` captures a copy of each enabled stream. -/
def State.captureOne (s : State) (m : U32) (k : Fin 8) : State :=
  let g := s.ingest[k]
  -- a stream that is stopped leaves its last complete frame (Table 3.6), but not beside another that writes its map
  if g.cfg.enable = false ∧ (s.ingest.toList.any fun x => x.cfg.enable && x.cfg.map == g.cfg.map) = true then s
  else
    let v := s.grid.vals m
    let bound := v.pSigned (sdiff32 m v.n0 - v.l.toNat) - g.cfg.delayUs.toNat * 1000
    match g.within bound with
    | none => s
    | some c =>
      let x := g.copies[c]
      let late := g.copies.toList.any fun y => y.writing && decide (x.media < y.media) && decide (y.media ≤ bound)
      let s := s.modIngest k fun g => { g with
                                          copies := g.copies.set c { x with held := m :: x.held },
                                          captures := ⟨m, g.cfg.map, c⟩ :: g.captures, capturedFrame := m,
                                          capturedMedia := BitVec.ofInt 32 x.media, lateRun := late,
                                          lateCaptures := if late then g.lateCaptures.inc else g.lateCaptures }
      s.raiseIf (late && !g.lateRun) 63 [fN 0 1 k.val, f32 4 m]

/-- R181 for every stream. -/
def State.capture (s : State) (m : U32) : State := (List.finRange 8).foldl (fun s k => s.captureOne m k) s

/-! ### Raster frames (R183 to R187) -/

/-- Frame `m` has committed (R83). -/
def State.committed (s : State) (m : U32) : Bool := s.tre.committedUnder.any fun e => e.1 == m

/-- Frame `m` is readable: no render task of frame m + 2 has been dispatched (R175). -/
def State.readable (s : State) (m : U32) : Bool :=
  match s.sched.firstDispatch with
  | none => true
  | some f => decide (sdiff32 f (m + 2) < 0)

/-- X(r) at a signed distance from n0 (R183). -/
def GridVals.rasterStart (v : GridVals) (genlock : Int) (r : U32) : Int := v.pSigned (sdiff32 r v.n0) + genlock

/-- The number of the raster frame in progress at full time `t`. -/
def GridVals.rasterFrameAt (v : GridVals) (genlock : Int) (t : Int) : U32 :=
  let T := 1000000000 * max v.d.toNat 1
  v.n0 + BitVec.ofInt 32 (((t - genlock - v.e + 1) * (v.den : Nat) - 1) / (T : Nat))

/-- X(r): raster frame r stands under the grid of frame r (R183). -/
def Grid.rasterAt (g : Grid) (genlock : Int) (r : U32) : Int := (g.vals r).rasterStart genlock r

/-- The number of the raster frame in progress at full time `t`, where frame `next` is not yet begun: it is counted under the
grid of the frame it comes to. -/
def Grid.rasterFrame (g : Grid) (genlock : Int) (next : U32) (t : Int) : U32 :=
  (g.vals ((g.vals next).rasterFrameAt genlock t)).rasterFrameAt genlock t

/-- The start of line `k` within a raster frame (R183). -/
def RasterCfg.lineAt (c : RasterCfg) (v : GridVals) (k : Nat) : Nat :=
  k * 1000000000 * v.d.toNat / (v.den * max c.vTotal 1)

/-- The receiver of a raster engine's stream: the KIND 6 route that names it (R193). -/
def State.rasterRoute (s : State) (re : Fin 4) : Option Route :=
  s.outImage.bind fun im => im.routes.find? fun r => r.kind == 6 && r.port.toNat == re.val

/-- STATE of Table 5.13. -/
def State.rasterState (s : State) (re : Fin 4) : Nat :=
  let r := s.raster[re]
  if r.cfg.enable = false then 0
  else if (s.rasterRoute re).isNone then 3
  else match r.xfer with
    | some x => if x.resync then 2 else 1
    | none => 1

/-- Change a raster engine. -/
def State.modRaster (s : State) (re : Fin 4) (f : Raster → Raster) : State :=
  { s with raster := s.raster.set re (f s.raster[re]) }

/-- Send a message of raster frame `f`'s stream; an engine without control of the frame sends none (R193, R386, R394). -/
def State.rasterSend (s : State) (re : Fin 4) (f : U32) (type : U16) (payload : List U8) : State :=
  match s.rasterRoute re with
  | none => s
  | some r => if s.holdsFrame f && !s.quiet then s.sendOn (fun sp => sp.val == s.raster[re].cfg.span.toNat) r.address type payload else s

/-- The choice of R185: the frame a raster frame sends; none: REPEAT. -/
def State.rasterChoice (s : State) (x : Raster) (r : U32) : Option U32 :=
  let c := s.runCommit
  let newer := !x.since || match x.lastSent with
    | none => true
    | some l => decide (0 < sdiff32 c l)
  if s.grid.stopped then none
  else if s.committed r && s.readable r then some r
  else if s.committed c && newer && decide (sdiff32 c r < 0) && s.readable c then some c
  else none

/-- The payload of RASTER_FRAME (Table 6.11). -/
def State.rasterFrameMsg (s : State) (re : Fin 4) (kind : Nat) (r : U32) (sent : Option U32) : List U8 :=
  let c := s.raster[re].cfg
  let v := s.grid.vals r
  be 1 re.val ++ be 1 kind ++ be 1 c.outBits.toNat ++ be 1 0 ++ be 4 r.toNat ++ be 4 (lastFrame sent).toNat ++
  be 4 (BitVec.ofInt 32 (v.pSigned (sdiff32 r v.n0) + c.showPhase)).toNat ++ be 2 c.hActive ++ be 2 c.vActive ++
  be 2 c.vTotal ++ be 2 0 ++ be 4 (1000000000000 * v.d.toNat / (v.den * max c.vTotal 1)) ++ be 4 0

/-- Frame `m` is raster-done: every enabled engine has passed its raster start and ended its transfer (R182). -/
def State.rasterDone (s : State) (m : U32) : Bool :=
  s.raster.toList.all fun x => !x.cfg.enable ||
    (decide (0 < sdiff32 x.nextR m) && (match x.xfer with
      | some t => t.frame != some m || t.aborted
      | none => true))

/-- R182: captured copies are released by frames whose successor has committed and that are raster-done. -/
def State.releaseCopies (s : State) : State :=
  (List.finRange 8).foldl (fun (s : State) (k : Fin 8) =>
    let out := (s.ingest[k].captures.map (·.frame)).filter fun m => s.committed (m + 1) && s.rasterDone m
    if out.isEmpty then s
    else s.modIngest k fun g =>
      { g with captures := g.captures.filter fun e => !out.contains e.frame,
               copies := g.copies.map fun (c : Copy) => { c with held := c.held.filter fun m => !out.contains m } }) s

/-- X(r): the engine sends RASTER_FRAME and begins its transfer (R185, R192, R226). -/
def State.rasterBegin (s : State) (re : Fin 4) (r : U32) : State :=
  let x := s.raster[re]
  let v := s.grid.vals r
  let rate := (v.n, v.d)
  let due := x.resyncDue || x.rate.any fun p => p != rate
  let s := s.modRaster re fun x => { x with nextR := r + 1, blanked := false, underrun := .replicate 4 false,
                                            off := .replicate 4 false, xfer := none, resyncDue := false, rate := some rate }
  let s :=
    if x.cfg.enable = false ∨ (s.rasterRoute re).isNone then s.modRaster re fun x => { x with repeatRun := false, badRun := 0 }
    else if due then
      (s.rasterSend re r 0x0030 (s.rasterFrameMsg re 2 r none)).modRaster re fun x =>
        { x with resyncs := x.resyncs.inc, repeatRun := false,
                 xfer := some { r := r, frame := none, resync := true, live := s.holdsFrame r } }
    else match s.rasterChoice x r with
      | some f =>
        (s.rasterSend re r 0x0030 (s.rasterFrameMsg re 0 r (some f))).modRaster re fun x =>
          { x with lastSent := some f, since := true, repeatRun := false, crcs := [],
                   xfer := some { r := r, frame := some f, live := s.holdsFrame r,
                                    half1 := if f = s.runCommit then s.deck.half1 else !s.deck.half1 } }
      | none =>
        let s := s.rasterSend re r 0x0030 (s.rasterFrameMsg re 1 r none)
        (s.modRaster re fun x => { x with repeats := x.repeats.inc, repeatRun := true, badRun := 0 }).raiseIf (!x.repeatRun) 60
          [fN 0 1 re.val, f32 4 r]
  s.releaseCopies

/-- R187: the first render task of frame `d` is dispatched: transfers of frames up to d - 2 stop reading. -/
def State.abortRasters (s : State) (d : U32) : State :=
  let s := (List.finRange 4).foldl (fun (s : State) (re : Fin 4) => match s.raster[re].xfer with
    | some t => match t.frame with
      | some f =>
        if t.aborted = false ∧ 0 ≤ sdiff32 d (f + 2) then
          (s.modRaster re fun x => { x with aborts := x.aborts.inc, xfer := some { t with aborted := true } }).raiseF 61
            [fN 0 1 re.val, f32 4 f]
        else s
      | none => s
    | none => s) s
  s.releaseCopies

/-! ### Compositing (R188, R189) -/

/-- The pixel of a layer at a raster position; none where the layer does not cover it. -/
def LayerCfg.source (l : LayerCfg) (x y : Nat) : Option (Nat × Nat) :=
  if l.dstX ≤ x ∧ x < l.dstX + l.srcW * l.repX ∧ l.dstY ≤ y ∧ y < l.dstY + l.srcH * l.repY then
    some (l.srcX + (x - l.dstX) / max 1 l.repX, l.srcY + (y - l.dstY) / max 1 l.repY)
  else none

/-- Blend one component (R188 step 3). -/
def LayerCfg.blendOne (l : LayerCfg) (out e : Nat) : Nat :=
  if l.blend = 0 then e
  else if l.blend = 1 then
    (clampI 0 65535 (out + roundDiv ((l.opacity.toNat : Int) * ((e : Int) - out)) 65536)).toNat
  else min 0xFFFF (out + (roundDiv ((l.opacity.toNat : Int) * e) 65536).toNat)

/-- The composited components of a raster pixel before the output curve; `on` tells the layers that take part. -/
def State.compositePixel (s : State) (im : Image) (r : Raster) (f : U32) (half1 : Bool) (on : Fin 4 → Bool) (x y : Nat) :
    List Nat :=
  (List.finRange 4).foldl (fun (out : List Nat) (i : Fin 4) =>
    let l := r.layers[i]
    match (if l.enable && on i then l.source x y else none), im.maps[l.map]? with
    | some p, some m =>
      let e := m.mix (s.mapPixel l.map m f half1 p.1 p.2)
      (List.range 3).map fun j => l.blendOne (out.getD j 0) (e.getD j 0).toNat
    | _, _ => out) [r.cfg.bg0.toNat, r.cfg.bg1.toNat, r.cfg.bg2.toNat]

/-- Components of `b` bits packed most significant bit first and padded to 4 bytes. -/
def packBits (b : Nat) (vs : List Nat) : List U8 :=
  let bits := b * vs.length
  let n := 4 * ceilDiv bits 32
  be n (vs.foldl (fun a v => a * 2 ^ b + v) 0 * 2 ^ (8 * n - bits))

/-- The pixel payload of line `y` (R188, Table 6.12); `on x i`: layer i takes part at column x. -/
def State.compositeLine (s : State) (im : Image) (r : Raster) (f : U32) (half1 : Bool) (on : Nat → Fin 4 → Bool)
    (y : Nat) : List U8 :=
  packBits r.cfg.outBits.toNat ((List.range r.cfg.hActive).flatMap fun x =>
    (s.compositePixel im r f half1 (on x) x y).map fun c =>
      quantTo r.cfg.outBits.toNat (im.curve r.cfg.outCurve (BitVec.ofNat 16 c)))

/-- The Deck reads of line `y` of a picture of frame `f`: source rows of the enabled layers (R186). -/
def State.lineReads (s : State) (im : Image) (re : Fin 4) (f : U32) (half1 : Bool) (y : Nat) : State :=
  let r := s.raster[re]
  (List.finRange 4).foldl (fun (s : State) (i : Fin 4) =>
    let l := r.layers[i]
    match (if l.enable && !r.off[i] then l.source l.dstX y else none), im.maps[l.map]? with
    | some p, some m =>
      let a := s.mapBytes l.map m f half1
      if a.2 = 0 then s else s.deckRead f (a.1 + 6 * (p.2 * m.width + p.1)) (6 * l.srcW) re.val
    | _, _ => s) s

/-- Carry out `f` with the image that frame `m` is rendered under as the active one. -/
def State.underImage (s : State) (m : U32) (f : State → State) : State :=
  let act := s.sh.active
  let s := f { s with sh.active := s.imageFor m }
  { s with sh.active := act }

/-- The payload of RASTER_LINE (Table 6.12). -/
def rasterLineMsg (r : U32) (line flags : Nat) (crc : U32) (pixels : List U8) : List U8 :=
  be 4 r.toNat ++ be 2 line ++ be 2 flags ++ be 4 crc.toNat ++ pixels

/-- The layers that underrun at a pixel are switched off for the rest of the frame (R189). -/
def State.layerUnderrun (s : State) (re : Fin 4) (mask : BitVec 4) (f : U32) : State :=
  (List.finRange 4).foldl (fun (s : State) (i : Fin 4) =>
    let r := s.raster[re]
    if mask.getLsbD i.val && r.layers[i].enable && !r.off[i] then
      (s.modRaster re fun x => { x with off := x.off.set i true, underrun := x.underrun.set i true,
                                        underruns := x.underruns.inc }).raiseF 57 [fN 0 1 re.val, fN 1 1 i.val, f32 4 f]
    else s) s

/-- The last active line of a raster frame: its CRC result, the span's health, and the end of the transfer (R190). -/
def State.rasterEnd (s : State) (re : Fin 4) (t : Transfer) : State :=
  let x := s.raster[re]
  let s := s.modRaster re fun x => { x with xfer := none, badRun := if t.bad then x.badRun + 1 else 0,
                                            crcFrames := if t.bad then x.crcFrames.inc else x.crcFrames }
  let s := s.raiseIf t.bad 58 [fN 0 1 re.val, f16 2 x.firstBadLine, f32 4 t.r]
  let s := if t.bad && decide (2 ≤ x.badRun) then s.spanFail ⟨x.cfg.span.toNat % 12, Nat.mod_lt _ (by decide)⟩ 3 else s
  s.releaseCopies

/-- A line's message goes out where the engine is the one that sends (R186). -/
def State.lineSend (s : State) (re : Fin 4) (t : Transfer) (p : List U8) : State :=
  if t.live then s.rasterSend re t.r 0x0031 p else s

/-- The line in progress of a picture of frame `f` is read, composited and sent (R186, R187, R190). -/
def State.lineOf (s : State) (re : Fin 4) (t : Transfer) (under : List (Nat × BitVec 4)) (f : U32) : State :=
  match s.sh.active with
  | none => s
  | some im =>
    let r := s.raster[re]
    let on := fun (x : Nat) (i : Fin 4) => !r.off[i] && under.all fun u => !(u.2.getLsbD i.val && decide (u.1 ≤ x))
    let s := s.lineReads im re f t.half1 t.line
    let px := s.compositeLine im r f t.half1 on t.line
    let crc := crc32 px
    let s := s.modRaster re fun x => { x with crcs := x.crcs ++ [crc] }
    let s := under.foldl (fun (s : State) u => s.layerUnderrun re u.2 f) s
    s.lineSend re t (rasterLineMsg t.r t.line 0 crc px)

/-- One active line of a transfer (R186 to R190). `under`: pixels at which the layers of a mask underrun; `bad`: the
loopback CRC differs. -/
def State.rasterLine (s : State) (re : Fin 4) (t : Transfer) (under : List (Nat × BitVec 4)) (bad : Bool) : State :=
  let r := s.raster[re]
  let s := match t.frame with
    | none => s.lineSend re t (rasterLineMsg t.r t.line (if t.resync then 2 else 0) 0 [])
    | some f =>
      if t.aborted then s.lineSend re t (rasterLineMsg t.r t.line 1 0 [])
      else s.underImage f fun s => s.lineOf re t under f
  let bad := bad && !t.aborted && t.frame.isSome
  let s := if bad then s.modRaster re fun x => { x with
                                                crcLines := x.crcLines.inc, firstBadLine := if t.bad then x.firstBadLine else BitVec.ofNat 16 t.line }
    else s
  let t := { t with line := t.line + 1, bad := t.bad || bad,
                    aborted := t.aborted || (match s.raster[re].xfer with
                      | some x => x.aborted
                      | none => false) }
  if r.cfg.vActive ≤ t.line then s.rasterEnd re t else s.modRaster re fun x => { x with xfer := some t }

/-! ### Shadows (R191, R192) -/

/-- The copy of an engine's shadows makes the next raster frame a resynchronisation frame (R192). -/
def RasterCfg.resyncs (old new : RasterCfg) (v : GridVals) : Bool :=
  new.vTotal != old.vTotal || decide (new.lineAt v 1 < (new.genlock - old.genlock).natAbs)

/-- R191: the shadows are copied into the active registers. -/
def State.rasterCopy (s : State) (re : Fin 4) : State :=
  let x := s.raster[re]
  let res := x.resyncDue || x.cfg.resyncs x.shadow s.grid.v
  let next := if x.cfg.enable then x.nextR else s.grid.rasterFrame x.shadow.genlock s.grid.curFrame s.full + 1
  (s.modRaster re fun x => { x with cfg := x.shadow, layers := x.shadowL, commit := false, resyncDue := res,
                                    nextR := next, applyFrame := next }).raiseF 59
    [fN 0 1 re.val, fB 1 0 res, f32 4 next]

end Sys2Proof.Machine
end

