-- ==== Sys2Proof/Machine/EthOps.lean ====
section
/-! DEFINITION. Machine/EthOps.lean: the cell pool, the transmit path with preemption and PAUSE, receive classification and
transmit timestamps (R310 to R333). -/
namespace Sys2Proof.Machine
open Sys2Proof

/-! ### The cell pool (R321 to R324) -/

/-- The default LIMIT of a queue (Table 9.4); reserved queues and those of firmware have none. -/
def defaultLimit (n : Nat) : Nat :=
  if n < 0x20 then [16, 8, 8, 1024, 128, 512, 0, 0].getD (n % 8) 0
  else if n < 0x40 then [32, 128, 512, 1024, 0, 0, 0, 0].getD (n % 8) 0
  else if n < 0x48 then 1536
  else if n < 0x58 then 16
  else 0

/-- A queue. -/
def State.queue (s : State) (n : Nat) : Queue := s.net.queues.get {} n

/-- Change a queue. -/
def State.modQueue (s : State) (n : Nat) (f : Queue → Queue) : State :=
  { s with net.queues := s.net.queues.upd {} n f }

/-- Cells in a queue. -/
def Queue.count (q : Queue) : Nat := (q.frames.map PoolFrame.cells).sum

/-- Free cells of the pool's 32,768. -/
def State.poolFree (s : State) : Nat := 32768 - (s.net.queues.map fun e => e.2.count).sum

/-- LIMIT of a queue in force. -/
def State.queueLimit (s : State) (n : Nat) : Nat := ((s.queue n).limit).getD (defaultLimit n)

/-- FULL of a queue (R322). -/
def State.queueFull (s : State) (n : Nat) : Bool :=
  decide (s.queueLimit n ≤ (s.queue n).count) || s.poolFree == 0

/-- The frame has room: no cell of it would be written while the queue is full (R322). -/
def State.queueRoom (s : State) (n : Nat) (f : PoolFrame) : Bool :=
  decide ((s.queue n).count + f.cells ≤ s.queueLimit n) && decide (f.cells ≤ s.poolFree)

/-- Put a frame in a queue. -/
def State.queuePut (s : State) (n : Nat) (f : PoolFrame) : State :=
  s.modQueue n fun q => { q with frames := q.frames ++ [f], packets := q.packets.inc, run := false }

/-- Take a queue's oldest frame: its cells return to the pool. -/
def State.queueDrop (s : State) (n : Nat) : State := s.modQueue n fun q => { q with frames := q.frames.drop 1 }

/-- The transmit queue of a class of a port (Table 9.4). -/
def txQueue (eth cls : Nat) : Nat := 8 * eth + cls

/-- The receive queue of a class of a port: 0 PTP, 1 MGMT, 2 SACN_IN, 3 HOST (Table 9.4). -/
def rxQueue (eth cls : Nat) : Nat := 0x20 + 8 * eth + cls

/-! ### Rates -/

/-- One byte time in ps at a SPEED of Table 9.12. -/
def bytePs (speed : Nat) : Nat :=
  match speed with
  | 1 => 320 | 2 => 800 | 3 => 8000 | 4 => 80000 | 5 => 800000 | _ => 0

/-- The speed a mode runs at, where no link tells it: SGMII at 1 Gb/s. -/
def EthCfg.speed (c : EthCfg) : Nat := match c.mode.toNat with
  | 1 => 1 | 2 => 2 | 3 | 4 => 3 | _ => 0

/-- The speed of a port: the link's, else its mode's. -/
def Eth.rate (e : Eth) : Nat := if e.link then e.speed else e.cfg.speed

/-- Change a port. -/
def State.modEth (s : State) (n : Fin 4) (f : Eth → Eth) : State := { s with net.eth := s.net.eth.set n (f s.net.eth[n]) }

/-- Engine time in ps. -/
def State.nowPs (s : State) : Nat := s.now * 1000

/-- The length of a frame that carries a UDP datagram of `n` bytes: headers, the tag of show traffic, and FCS (R311). -/
def EthCfg.udpLen (c : EthCfg) (n : Nat) : Nat := max 64 (n + 46 + (if c.vid = 0 then 0 else 4))

/-! ### Transmission (R313 to R315) -/

/-- A PAUSE holds the transmitter (R316). -/
def Eth.heldNow (e : Eth) (nowPs : Nat) : Bool := match e.holdPs with
  | some t => decide (nowPs < t)
  | none => false

/-- A frame of the engine's own is ready for its class; it waits while the queue is full (R313, R324). -/
def State.ethSend (s : State) (n : Fin 4) (cls : Nat) (f : PoolFrame) : State :=
  let q := txQueue n.val cls
  let e := s.net.eth[n]
  let late := decide (cls < 3) && e.heldNow s.nowPs
  let s := if late then s.modEth n fun e => { e with expressHeld := e.expressHeld.inc } else s
  if s.queueRoom q f && !(e.txWait.any fun w => w.1 == cls) then s.queuePut q f
  else s.modEth n fun e => { e with txWait := e.txWait ++ [(cls, f)] }

/-- Waiting frames enter their queues as room frees, in order (R324). -/
def State.drainWait (s : State) (n : Fin 4) : State :=
  (s.net.eth[n].txWait).foldl (fun (s : State) w =>
    let q := txQueue n.val w.1
    let first := (s.net.eth[n].txWait.find? fun x => x.1 == w.1) == some w
    if first && s.queueRoom q w.2 then
      (s.queuePut q w.2).modEth n fun e => { e with txWait := e.txWait.erase w }
    else s) s

/-- A frame of firmware in a class. -/
def State.ethPut (s : State) (n : Fin 4) (cls : Nat) (bytes : List U8) : State :=
  s.ethSend n cls { len := bytes.length + 4, bytes := bytes }

/-- A UDP datagram of firmware in a class, its checksums asked for (R319). -/
def State.ethUdp (s : State) (n : Fin 4) (cls : Nat) (dst : U32) (sport dport : U16) (body : List U8) : State :=
  let c := s.net.eth[n].cfg
  let b := c.udpFrame dst (if cls < 3 then c.dscpExpress else c.dscpShow) (Config.ipFree s.fresh) sport dport body
  s.draw.ethSend n cls { len := b.length + 4, bytes := b, csum := true }

/-- The engine time in ps at which what is on the pins and its gap end: preamble, bytes, 12 bytes of gap. -/
def TxOn.ends (t : TxOn) (bt : Nat) : Nat := t.start + (20 + t.left) * bt

/-- The bytes of a frame on the pins after which it may be cut at time `now` (R314): a multiple of 8, at least the
fragment minimum, 64 or more left; `none` where no such point is left. -/
def TxOn.cut (t : TxOn) (bt addFrag now : Nat) : Option Nat :=
  let out := (now - t.start) / max bt 1 - 8
  let b := max (8 * ceilDiv out 8) (64 * (1 + addFrag))
  if b + 64 ≤ t.left then some b else none

/-- The preemptable frame on the pins is closed at its next preemption point and its remainder held (R314, R316). The
fragment carries an mCRC of 4 bytes. -/
def State.closeFragment (s : State) (n : Fin 4) : State :=
  let e := s.net.eth[n]
  match e.tx with
  | none => s
  | some t =>
    if t.cls < 3 ∨ e.preempt ≠ 2 ∨ e.held.isSome ∨ t.ends (bytePs e.speed) ≤ s.nowPs then s
    else match t.cut (bytePs e.speed) e.cfg.addFrag.toNat s.nowPs with
      | none => s
      | some b => s.modEth n fun e => { e with tx := some { t with left := b + 4 }, held := some { t with left := t.left - b },
                                               preemptions := e.preemptions.inc }

/-- Weights of the preemptable classes. -/
def EthCfg.weight (c : EthCfg) (i : Nat) : Nat := if i = 0 then c.wSacn.toNat else if i = 1 then c.wMgmt.toNat else c.wHost.toNat

/-- Deficit round-robin over the classes with a frame waiting (R313): deficits and turn after the choice, and the class
chosen. A turn adds 256 bytes for each unit of weight. -/
def drr (len : Nat → Option Nat) (w : Nat → Nat) : Nat → List Nat → Nat → Option (List Nat × Nat × Nat)
  | 0, _, _ => none
  | fuel + 1, d, i =>
    let go := fun (d : List Nat) => let j := (i + 1) % 3; drr len w fuel (d.set j (d.getD j 0 + 256 * w j)) j
    match len i with
    | none => go (d.set i 0)
    | some l => if l ≤ d.getD i 0 then some (d.set i (d.getD i 0 - l), i, i) else go d

/-- The first frame of a queue. -/
def State.queueHead (s : State) (n : Nat) : Option PoolFrame := (s.queue n).frames.head?

/-- The next class to send from (R313): an express class, the held remainder (`none` within), or a preemptable class. -/
inductive TxPick where
  | express (cls : Nat) (f : PoolFrame)
  | remainder (t : TxOn)
  | shared (cls : Nat) (f : PoolFrame) (deficit : List Nat) (at_ : Nat)
  deriving DecidableEq, Repr

/-- Choose what a port sends next. -/
def State.txPick (s : State) (n : Fin 4) : Option TxPick :=
  let e := s.net.eth[n]
  match (List.range 3).findSome? fun c => (s.queueHead (txQueue n.val c)).map fun f => (c, f) with
  | some x => some (.express x.1 x.2)
  | none => match e.held with
    | some t => some (.remainder t)
    | none =>
      match drr (fun i => (s.queueHead (txQueue n.val (3 + i))).map (·.len)) e.cfg.weight 256 e.deficit.toList e.drrAt.val with
      | none => none
      | some r => (s.queueHead (txQueue n.val (3 + r.2.2))).map fun f => .shared (3 + r.2.2) f r.1 r.2.1

/-- Keystone time `ago` ns ago, in 2^-16 ns (R20, R328). -/
def State.stampAgo (s : State) (ago : Nat) : Int :=
  let j := s.now / 4 - (s.now - ago) / 4
  if s.ks.compat then s.ks.compatAt (s.ks.count - BitVec.ofNat 64 j) / 2 ^ 24
  else (((s.full * 2 ^ 40 + s.ks.frac : Nat) : Int) - j * s.ks.inc) / 2 ^ 24

/-- ps in 2^-16 ns. -/
def psUnits (ps : Int) : Int := ps * 65536 / 1000

/-- The receive timestamp of a frame whose first bit after the SFD crossed the pins `ago` ns ago (R328). -/
def State.rxStamp (s : State) (n : Fin 4) (ago : Nat) : Int := s.stampAgo ago - psUnits s.net.eth[n].cfg.rxDelayPs

/-- An entry arrives at a port's transmit-timestamp queue (R333). -/
def State.txtsPut (s : State) (n : Fin 4) (t : Txts) : State :=
  if 4 ≤ s.net.eth[n].txts.length then
    (s.modEth n fun e => { e with txtsOver := true, txtsLost := e.txtsLost.inc }).raiseF 92 [fN 0 1 n.val, f16 2 t.id]
  else s.modEth n fun e => { e with txts := e.txts ++ [t] }

/-- The transmit timestamp of a frame that begins now, in 2^-16 ns: the first bit after the SFD, 8 bytes on (R328). -/
def State.txStamp (s : State) (n : Fin 4) : Int :=
  let e := s.net.eth[n]
  s.stampAgo 0 + psUnits (8 * bytePs e.speed + e.cfg.txDelayPs)

/-- TS_ID of a frame with TS_REQ enters the queue with its timestamp (R333). -/
def State.stampFrame (s : State) (n : Fin 4) (f : PoolFrame) : State :=
  match f.tsReq with
  | none => s
  | some id =>
    let t := (s.txStamp n).toNat
    s.txtsPut n { id := id, discarded := false, s := t / 65536 / 1000000000, ns := t / 65536 % 1000000000, subns := t % 65536 }

/-- Change a PTP port. -/
def State.modPtp (s : State) (n : Fin 4) (f : PtpPort → PtpPort) : State :=
  { s with net.ptp.ports := s.net.ptp.ports.set n (f s.net.ptp.ports[n]) }

/-- A port of the instance is enabled (R334). -/
def PtpCfg.on (c : PtpCfg) (n : Fin 4) : Bool := c.mask / 2 ^ n.val % 2 == 1

/-! ### Profile values (Table 9.8) -/

/-- Peer-to-peer delay mechanism: profile 1. -/
def PtpCfg.p2p (c : PtpCfg) : Bool := c.profile == 1

/-- domainNumber in force. -/
def PtpCfg.domainNo (c : PtpCfg) : U8 := if c.domain = 0xFF then (if c.profile = 2 then 127 else 0) else c.domain

/-- The profile's log intervals: Sync, Announce, Delay_Req, Pdelay_Req. -/
def profileLog (profile i : Nat) : Int :=
  (match profile with
  | 2 => [-3, -2, -3, -3]
  | 3 => [-3, 1, 0, 0]
  | _ => [0, 1, 0, 0]).getD i 0

/-- The log interval in force of a message: 0 Sync, 1 Announce, 2 Delay_Req, 3 Pdelay_Req. -/
def PtpCfg.log (c : PtpCfg) (i : Fin 4) : Int :=
  if c.logs[i] = 0x7F then profileLog c.profile.toNat i.val else c.logs[i].toInt

/-- 2^k seconds, in ns. -/
def logNs (k : Int) : Nat := if 0 ≤ k then 1000000000 * 2 ^ k.toNat else 1000000000 / 2 ^ (-k).toNat

/-- The engine's clockIdentity: the EUI-64 of ETH0's address. -/
def State.clockIdentity (s : State) : U64 :=
  let m := s.net.eth[0].cfg.mac
  BitVec.ofNat 64 (m / 2 ^ 24 * 2 ^ 40 + 0xFFFE * 2 ^ 24 + m % 2 ^ 24)

/-- The engine's own quality (R335). -/
def State.ownData (s : State) : PtpData :=
  let c := s.net.ptp.cfg
  { prio1 := c.prio1, cls := c.clsOwn, accuracy := c.accOwn, variance := Config.ptpVariance, prio2 := c.prio2,
    gm := s.clockIdentity, steps := 0,
    utcOffset := s.tc.utcOffset, utcValid := s.ks.taiSet, ptpTimescale := true }

/-- The grandmaster data a MASTER port advertises (R336). Under VIADUCT the root's data reaches the engine on the control
channel, in a message the spec does not define: it is a free value, to whose stepsRemoved ROOT_DIST + 1 is added. -/
def State.advertised (s : State) : PtpData :=
  match s.ks.sel, s.net.ptp.parent with
  | 1, some p => { p.2.2 with steps := p.2.2.steps + 1 }
  | 2, _ =>
    let d := Config.rootData s.rootId.toNat (s.now / 1000000000)
    { d with steps := d.steps + s.tre.rootDist + 1 }
  | _, _ => s.ownData

/-- The flags of a message: twoStepFlag, and of an Announce what it says of UTC and the timescale. -/
def ptpFlags (kind : Nat) (d : PtpData) (free : U8) : Nat :=
  if kind = 2 then (if d.utcValid then 4 else 0) + (if d.ptpTimescale then 8 else 0) + (free.toNat &&& 0x33)
  else if kind = 0 ∨ kind = 6 then 0x200 else 0

/-- logMessageInterval of a message (IEEE 1588-2019). -/
def PtpCfg.logOf (c : PtpCfg) (kind : Nat) : Int :=
  match kind with
  | 0 | 1 => c.log 0
  | 2 => c.log 1
  | 4 => c.log 2
  | _ => 0x7F

/-- The bytes of a PTP message that port `n` sends. -/
def State.ptpBytes (s : State) (n : Fin 4) (m : PtpOut) : List U8 :=
  let c := s.net.ptp.cfg
  let d := s.advertised
  let free := Config.announceFree s.fresh
  m.header c.domainNo (ptpFlags m.kind d free.2) s.clockIdentity (BitVec.ofNat 16 (n.val + 1)) (c.logOf m.kind) ++
  m.body d free.1 (Config.ptpOrigin s.fresh)

/-- Send a PTP message, over UDP or in an IEEE 802.3 frame (R334, R335). -/
def State.ptpSend (s : State) (n : Fin 4) (m : PtpOut) : State :=
  let c := s.net.eth[n].cfg
  let body := s.ptpBytes n m
  let f := if s.net.ptp.cfg.transport then c.frame (if ptpPeer m.kind then 0x0180C200000E else 0x011B19000000) 0x88F7 body
    else c.udpFrame (if ptpPeer m.kind then 0xE000006B else 0xE0000181) c.dscpExpress (Config.ipFree s.fresh) (Config.srcPort 0)
      (if ptpEvent m.kind then 319 else 320) body
  (s.draw.ethSend n 0 { len := f.length + 4, bytes := f, csum := !s.net.ptp.cfg.transport, ptp := some m }).emit (.ptp n.val m.kind m.seq)

/-- A PTP message of this engine leaves: its transmit time is taken, and two-step messages are followed up (R335). -/
def State.ptpLeft (s : State) (n : Fin 4) (f : PoolFrame) : State :=
  let t := s.txStamp n
  match f.ptp with
  | none => s
  | some m => match m.kind with
    | 0 => s.ptpSend n { kind := 1, seq := m.seq, time := t }
    | 6 => s.ptpSend n { m with kind := 7, time := t }
    | 3 => s.modPtp n fun p => { p with delay := some (m.seq, t) }
    | 5 => s.modPtp n fun p => { p with pdelay := some (m.seq, t), presp := none }
    | _ => s

/-- A frame as it leaves: the checksums that its writer asked for are inserted (R319). -/
def PoolFrame.wire (f : PoolFrame) : List U8 := if f.csum then withChecksums f.bytes else f.bytes

/-- A frame begins on the pins of a port. -/
def State.beginFrame (s : State) (n : Fin 4) (cls : Nat) (f : PoolFrame) : State :=
  let s := (s.queueDrop (txQueue n.val cls)).modEth n fun e =>
    { e with tx := some ⟨cls, f, s.nowPs, f.len⟩, framesTx := e.framesTx.inc }
  (((s.emit (.ethFrame n.val cls f.wire)).stampFrame n f).ptpLeft n f).drainWait n

/-- R313 to R316: a port begins its next frame, or closes a fragment for an express frame that is ready. -/
def State.ethTransmit (s : State) (n : Fin 4) : State :=
  let e := s.net.eth[n]
  let bt := bytePs e.speed
  if e.link = false ∨ e.heldNow s.nowPs = true then s
  else
    let busy := match e.tx with
      | some t => decide (s.nowPs < t.ends bt)
      | none => false
    if busy then
      if (List.range 3).any fun c => (s.queueHead (txQueue n.val c)).isSome then s.closeFragment n else s
    else match s.txPick n with
      | none => s.modEth n fun e => { e with tx := none }
      | some (.express c f) => s.beginFrame n c f
      | some (.remainder t) => s.modEth n fun e => { e with tx := some { t with start := s.nowPs }, held := none }
      | some (.shared c f d i) =>
        (s.modEth n fun e => { e with deficit := .ofFn fun (j : Fin 3) => d.getD j.val 0,
                                      drrAt := ⟨i % 3, Nat.mod_lt _ (by decide)⟩ }).beginFrame n c f

/-! ### PAUSE (R316 to R318) -/

/-- ps in `q` quanta of 512 bit times. -/
def quantaPs (speed q : Nat) : Nat := q * 64 * bytePs speed

/-- A hold ends at `end_` ps: its time is counted, and E095 reports one that was longer than PAUSE_EVENT_US (R316). -/
def State.endHold (s : State) (n : Fin 4) (end_ : Nat) : State :=
  let e := s.net.eth[n]
  let long := !e.holdRaised && decide (1000 * (e.holdFrom + e.cfg.pauseEventUs.toNat * 1000) < end_)
  (s.modEth n fun e => { e with holdPs := none, holdRaised := false,
                                heldUs := e.heldUs.add ((end_ - 1000 * e.holdFrom) / 1000000) }).raiseIf long 95 [fN 0 1 n.val]

/-- A PAUSE of `q` quanta is received (R316, R317). -/
def State.pauseRx (s : State) (n : Fin 4) (q : Nat) : State :=
  let s := s.modEth n fun e => { e with pauseRx := e.pauseRx.inc }
  let e := s.net.eth[n]
  if e.cfg.rxPauseEn = false then s
  else if q = 0 then (if e.heldNow s.nowPs then s.endHold n s.nowPs else s)
  else
    let was := e.heldNow s.nowPs
    let s := match e.holdPs with
      | some t => if was then s else s.endHold n t
      | none => s
    let waiting := ((List.range 3).map fun c => (s.queue (txQueue n.val c)).frames.length).sum
    let s := s.modEth n fun e => { e with
                                   holdPs := some (s.nowPs + quantaPs e.speed q),
                                   holdFrom := if was then e.holdFrom else s.now,
                                   expressHeld := if was then e.expressHeld else e.expressHeld.add waiting }
    s.closeFragment n

/-- Cells in use in a port's receive queues. -/
def State.rxCells (s : State) (n : Fin 4) : Nat := ((List.range 8).map fun c => (s.queue (rxQueue n.val c)).count).sum

/-- Send a PAUSE (R318). -/
def State.sendPause (s : State) (n : Fin 4) (q : Nat) : State :=
  (s.modEth n fun e => { e with pauseTx := e.pauseTx.inc, xoff := q != 0, xoffAt := s.now }).emit (.pause n.val q)

/-- R318: the receive queues reach XOFF_CELLS, or fall below XON_CELLS. -/
def State.pauseCheck (s : State) (n : Fin 4) : State :=
  let e := s.net.eth[n]
  let c := s.rxCells n
  if e.cfg.txPauseEn = false then s
  else if e.xoff = false ∧ e.cfg.xoffCells.toNat ≤ c then s.sendPause n e.cfg.pauseQuanta.toNat
  else if e.xoff = true ∧ c < e.cfg.xonCells.toNat then s.sendPause n 0
  else s

/-! ### Reception (R311, R320, R322, R326) -/

/-- A packet from the wire is written into a queue without waiting; a write to a full queue discards it (R322). -/
def State.rxPut (s : State) (n : Fin 4) (q : Nat) (f : PoolFrame) : State :=
  if s.queueRoom q f then (s.queuePut q f).pauseCheck n
  else
    let first := !(s.queue q).run
    let s := s.modQueue q fun x => { x with overrun := true, run := true, discarded := x.discarded.inc }
    (s.modEth n fun e => { e with rxDiscarded := if q < 0x40 then e.rxDiscarded.inc else e.rxDiscarded }).raiseIf first 90
      [fN 0 2 q]

/-- The receive timestamp of a receive queue's oldest packet, in 2^-16 ns; of one that comes now where none stands (R323). -/
def State.rxTime (s : State) (n : Fin 4) (q : Nat) : Int := match s.queueHead q with
  | some f => f.ts
  | none => s.rxStamp n 0

/-- A consumer has read a receive queue's oldest packet: its cells are free. -/
def State.rxTake (s : State) (n : Fin 4) (q : Nat) : State := (s.queueDrop q).pauseCheck n

/-- The group address of an sACN universe. -/
def sacnGroup (uni : Nat) : U32 := BitVec.ofNat 32 (0xEFFF0000 + uni)

/-- A multicast IPv4 address. -/
def isGroup (ip : U32) : Bool := ip.toNat / 2 ^ 28 == 0xE

/-- Universes bound in the input table on a port (R295). -/
def State.boundUniverses (s : State) (n : Fin 4) : List Nat :=
  s.ports.input.filterMap fun e =>
    if e.2.cfg.kind = 1 ∧ e.2.cfg.source.getLsbD n.val = true then some e.2.cfg.uni.toNat else none

/-- The multicast groups joined on a port (R327). -/
def State.groups (s : State) (n : Fin 4) : List U32 :=
  let p := s.net.ptp.cfg
  let ptp := if p.mask / 2 ^ n.val % 2 = 1 ∧ p.transport = false then
      (0xE0000181#32 :: if p.profile = 1 then [0xE000006B#32] else [])
    else []
  let streams := (s.net.aes.toList ++ s.net.st2110.toList).filterMap fun (m : Media) =>
    if m.cfg.on ∧ m.cfg.mask / 2 ^ n.val % 2 = 1 ∧ isGroup m.cfg.destIp = true then some m.cfg.destIp else none
  (ptp ++ streams ++ (s.boundUniverses n).map sacnGroup).eraseDups

/-- IGMPv3 reports tell what groups a port has joined and left since the last one (R327). -/
def State.igmpUpdate (s : State) (n : Fin 4) : State :=
  let e := s.net.eth[n]
  let g := s.groups n
  let recs := ((g.filter fun x => !e.joined.contains x).map fun x => (4, x)) ++ ((e.joined.filter fun x => !g.contains x).map fun x => (3, x))
  if e.link = false ∨ recs = [] then s
  else ((s.modEth n fun e => { e with joined := g }).ethPut n 4 (e.cfg.igmpReport (Config.ipFree s.fresh) recs)).draw

/-- What binds groups has changed: every port brings its memberships up to date. -/
def State.igmpAll (s : State) : State := (List.finRange 4).foldl State.igmpUpdate s

/-- The MAC address of an IPv4 group. -/
def groupMac (g : U32) : Nat := 0x01005E000000 + g.toNat % 2 ^ 23

/-- A port accepts a frame's destination address (R326). -/
def State.ethAccepts (s : State) (n : Fin 4) (mac : Nat) : Bool :=
  let e := s.net.eth[n]
  mac == e.cfg.mac || mac == 0xFFFFFFFFFFFF || ((s.groups n).any fun g => groupMac g == mac) ||
  (s.net.ptp.cfg.transport && s.net.ptp.cfg.mask / 2 ^ n.val % 2 == 1 && (mac == 0x011B19000000 || mac == 0x0180C200000E)) ||
  (e.hc.cfg.allMulti && mac / 2 ^ 40 % 2 == 1)

/-- The queue of the stream a UDP packet belongs to (R326 class 2). -/
def State.streamQueue (s : State) (n : Fin 4) (src dst : U32) (port : U16) : Option Nat :=
  let hit := fun (m : Media) => m.cfg.on && m.cfg.mask / 2 ^ n.val % 2 == 1 && m.cfg.destIp == dst && m.cfg.udpPort == port &&
    (m.cfg.sourceIp == 0 || m.cfg.sourceIp == src)
  match s.net.st2110.toList.findIdx? hit with
  | some k => some (0x40 + k)
  | none => (s.net.aes.toList.findIdx? hit).map (0x48 + ·)

/-- A frame is ARP for the port's address. -/
def State.arpForUs (s : State) (x : EthRx) : Bool := arpTarget x.data == some s.net.eth[x.eth].cfg.ip

/-- The class of an accepted frame (R326): its queue, or none for ARP that firmware answers and for what is discarded. The
flag tells an own queue from the host channel. -/
def State.classify (s : State) (x : EthRx) : Option (Nat × Bool) :=
  let n := x.eth
  let e := s.net.eth[n]
  let host := if e.hc.cfg.rxEn then some (rxQueue n.val 3, false) else none
  let ptpOn := s.net.ptp.cfg.mask / 2 ^ n.val % 2 == 1
  let otherVlan := match frameVid x.data with
    | some v => v != e.cfg.vid
    | none => false
  if otherVlan then host
  else if ptpOn && frameType x.data == 0x88F7 then some (rxQueue n.val 0, true)
  else match ipv4Of x.data with
    | some (src, dst, some port) =>
      if ptpOn = true ∧ (port = 319 ∨ port = 320) then some (rxQueue n.val 0, true)
      else match s.streamQueue n src dst port with
        | some q => some (q, true)
        | none =>
          if port = 5568 ∧ (s.boundUniverses n).any (fun u => sacnGroup u == dst) = true then some (rxQueue n.val 2, true)
          else if port = e.cfg.mgmtPort ∧ dst = e.cfg.ip then some (rxQueue n.val 1, true)
          else host
    | _ => if s.arpForUs x = true ∧ e.hc.cfg.arpCopy = false then none else host

/-- A frame is received (R311, R320, R326). -/
def State.ethReceive (s : State) (x : EthRx) : State :=
  let n := x.eth
  let e := s.net.eth[n]
  let len := x.data.length + 4
  if e.link = false ∨ len < 64 then s
  else if e.cfg.maxFrame.toNat < len then s.modEth n fun e => { e with tooLong := e.tooLong.inc }
  else if x.fcsOk = false then s.modEth n fun e => { e with fcsErrors := e.fcsErrors.inc }
  else if s.ethAccepts n (rdBE x.data 0 6) = false then s
  else
    let s := s.modEth n fun e => { e with framesRx := e.framesRx.inc }
    let c := frameChecks x.data
    let f : PoolFrame := { len := len, bytes := x.data, ts := s.rxStamp n x.ago, csum := c.1, ipOk := c.2.1, l4Ok := c.2.2 }
    match s.classify x with
    | some (q, own) =>
      if own && c.1 && !(c.2.1 && c.2.2) then s.modEth n fun e => { e with csumErrors := e.csumErrors.inc }
      else s.rxPut n q f
    | none =>
      if s.arpForUs x then s
      else s.modEth n fun e => { e with unclassified := e.unclassified.inc }

/-! ### Links and preemption (R314, R346) -/

/-- Frames of a port's queue of a class are discarded; those with TS_REQ leave an entry (R333). -/
def State.dropTx (s : State) (n : Fin 4) (cls : Nat) : State :=
  let q := txQueue n.val cls
  let s := ((s.queue q).frames.filterMap (·.tsReq)).foldl (fun (s : State) id => s.txtsPut n { id := id, discarded := true }) s
  s.modQueue q fun x => { x with frames := [] }

/-- Verification of a partner starts, or preemption is off (R314). -/
def State.startVerify (s : State) (n : Fin 4) : State :=
  let e := s.net.eth[n]
  if e.link ∧ e.cfg.preemptEn then
    (s.modEth n fun e => { e with preempt := 1, verifyAt := s.now, verifyTries := 1 }).emit (.verify n.val false)
  else (s.modEth n fun e => { e with preempt := 0 }).raiseIf (e.preempt != 0 || (e.link && !e.cfg.preemptEn)) 89
    [fN 0 1 n.val, fN 1 1 0]

/-- The link of a port goes down: what waits to be sent is discarded (R333, R346). -/
def State.ethDown (s : State) (n : Fin 4) : State :=
  if s.net.eth[n].link = false then s
  else
    let s := (List.range 6).foldl (fun (s : State) c => s.dropTx n c) s
    (s.modEth n fun e => { e with link := false, speed := 0, preempt := 0, tx := none, held := none, txWait := [], holdPs := none,
                                  xoff := false, joined := [] }).raiseF 88 [fN 0 1 n.val, fN 1 1 1]

/-- The link of a port comes up at a speed. -/
def State.ethUp (s : State) (n : Fin 4) (speed : Nat) : State :=
  let e := s.net.eth[n]
  if e.link ∨ e.cfg.mode = 0 then s
  else
    let sp := if e.cfg.mode = 4 then (if inRange 3 5 speed then speed else 3) else e.cfg.speed
    (((s.modEth n fun e => { e with link := true, speed := sp }).raiseF 88 [fN 0 1 n.val, fN 1 1 2, fN 2 1 sp]).startVerify n).igmpUpdate n

end Sys2Proof.Machine
end

