-- ==== Sys2Proof/Machine/Codeword.lean ====
section
/-! DEFINITION. Machine/Codeword.lean: blocks, the RS(136,128) code and its decoder, lane striping, PAM4, the
precoder and test patterns (R201, R240 to R243, R248, R263). -/
namespace Sys2Proof

/-! ### The code (R242) -/

/-- Multiply by x in GF(2^8) with x^8 + x^4 + x^3 + x^2 + 1. -/
def gfDouble (a : U8) : U8 := if a.getLsbD 7 then (a <<< 1) ^^^ 0x1D else a <<< 1

/-- The product of two field elements. -/
def gfMul (a b : U8) : U8 :=
  ((List.range 8).foldl (fun (s : U8 × U8) i => (if b.getLsbD i then s.1 ^^^ s.2 else s.1, gfDouble s.2)) ((0 : U8), a)).1

/-- alpha^i with alpha = 2. -/
def gfAlpha (i : Nat) : U8 := (List.range i).foldl (fun a _ => gfDouble a) 1

/-- The coefficients of g(x) below x^8, from x^7 down. -/
def rsGen : List U8 :=
  ((List.range 8).foldl (fun (g : List U8) i =>
    (List.range (g.length + 1)).map fun k => g.getD k 0 ^^^ (if k = 0 then 0 else gfMul (g.getD (k - 1) 0) (gfAlpha i))) [1]).drop 1

/-- The eight parity bytes of 128 bytes of data, the first the coefficient of x^7. -/
def rsParity (data : List U8) : List U8 :=
  data.foldl (fun (r : List U8) b =>
    let f := b ^^^ r.getD 0 0
    (List.range 8).map fun k => r.getD (k + 1) 0 ^^^ gfMul f (rsGen.getD k 0)) (List.replicate 8 0)

/-- A block with its parity: a codeword of 136 bytes. -/
def codewordOf (block : List U8) : List U8 := block ++ rsParity block

/-! ### The decoder (R242) -/

/-- The inverse of a field element, its power 254. -/
def gfInv (a : U8) : U8 :=
  let sq := fun (x : U8) => gfMul x x
  let p2 := sq a
  let p4 := sq p2
  let p8 := sq p4
  let p16 := sq p8
  let p32 := sq p16
  let p64 := sq p32
  gfMul (gfMul (gfMul p2 p4) (gfMul p8 p16)) (gfMul (gfMul p32 p64) (sq p64))

/-- A polynomial, low order first, at a point. -/
def gfEval (p : List U8) (x : U8) : U8 := p.foldr (fun c r => c ^^^ gfMul x r) 0

/-- The eight syndromes of a received codeword, whose first byte is the highest coefficient. -/
def syndromes (cw : List U8) : List U8 :=
  (List.range 8).map fun i => let a := gfAlpha i; cw.foldl (fun r c => c ^^^ gfMul a r) 0

/-- The sum of two polynomials. -/
def polyAdd (p q : List U8) : List U8 := (List.range (max p.length q.length)).map fun i => p.getD i 0 ^^^ q.getD i 0

/-- A polynomial times c x^m. -/
def polyShift (c : U8) (m : Nat) (p : List U8) : List U8 := List.replicate m 0 ++ p.map (gfMul c)

/-- What the search for the error locator holds: the locator and the one before its length changed, that discrepancy, the steps
since, and the length. -/
structure Locator where
  cur : List U8 := [1]
  old : List U8 := [1]
  b : U8 := 1
  m : Nat := 1
  len : Nat := 0
  deriving DecidableEq, Repr

/-- One step of the search, for syndrome `n`. -/
def Locator.next (k : Locator) (syn : List U8) (n : Nat) : Locator :=
  let d := (List.range (k.len + 1)).foldl (fun d i => d ^^^ gfMul (k.cur.getD i 0) (if i ≤ n then syn.getD (n - i) 0 else 0)) 0
  if d = 0 then { k with m := k.m + 1 }
  else
    let cur := polyAdd k.cur (polyShift (gfMul d (gfInv k.b)) k.m k.old)
    if 2 * k.len ≤ n then { cur := cur, old := k.cur, b := d, m := 1, len := n + 1 - k.len }
    else { k with cur := cur, m := k.m + 1 }

/-- The error locator of some syndromes. -/
def locator (syn : List U8) : Locator := (List.range 8).foldl (fun k n => k.next syn n) {}

/-- The errors that the code finds in a codeword: byte and value of each, at most four; none where it has more (R242). -/
def rsErrors (cw : List U8) : Option (List (Nat × U8)) :=
  let syn := syndromes cw
  if syn.all (· == 0) then some []
  else
    let k := locator syn
    let om := (List.range 8).map fun n =>
      (List.range (n + 1)).foldl (fun s i => s ^^^ gfMul (k.cur.getD i 0) (syn.getD (n - i) 0)) 0
    let deriv := k.cur.zipIdx.drop 1 |>.map fun e => if e.2 % 2 = 1 then e.1 else 0
    let found := (List.range 136).filterMap fun i =>
      let x := gfAlpha (135 - i)
      let y := gfInv x
      if gfEval k.cur y = 0 then some (i, gfMul x (gfMul (gfEval om y) (gfInv (gfEval deriv y)))) else none
    if k.len ≤ 4 ∧ found.length = k.len then some found else none

/-- A codeword with the errors given. -/
def withErrors (cw : List U8) (errs : List (Nat × U8)) : List U8 :=
  errs.foldl (fun c e => c.set e.1 (c.getD e.1 0 ^^^ e.2)) cw

/-- What the decoder corrects in a received codeword, where that gives the codeword that was sent; none where it has more errors
than the code corrects (R242). -/
def corrected (sent got : List U8) : Option (List (Nat × U8)) :=
  match rsErrors got with
  | none => none
  | some e => if withErrors got e = sent then some e else none

/-- The bits set in a byte. -/
def bitCount (b : U8) : Nat := ((List.range 8).filter fun i => b.getLsbD i).length

/-! ### Blocks (R201, Table 6.1) -/

/-- The 128 bytes of a block. -/
def blockBytes (type vc : Nat) (sop eop : Bool) (payload : List U8) : List U8 :=
  be 2 (type * 4096 + vc * 512 + (if sop then 256 else 0) + (if eop then 128 else 0) + payload.length) ++ bytesAt payload 0 126

/-- The payload of a TIME block (Table 6.7). -/
def TimeBlock.payload (t : TimeBlock) : List U8 :=
  be 2 t.seq.toNat ++ be 2 t.rootDist.toNat ++ be 6 (t.prevTx / 1000000000) ++ be 4 (t.prevTx % 1000000000) ++
  be 1 t.prevTxFrac.toNat ++ be 1 t.peerRxFrac.toNat ++ be 2 t.peerSeq.toNat ++ be 6 (t.peerRx / 1000000000) ++
  be 4 (t.peerRx % 1000000000)

/-- The payload of a HELLO block (Table 6.2). -/
def Hello.payload (h : Hello) : List U8 :=
  be 4 h.node.toNat ++ be 4 h.member.toNat ++ be 4 h.root.toNat ++ be 1 h.span.toNat ++
  be 1 ((if h.engine then 1 else 0) + (if h.control then 2 else 0) + (if h.pierLink then 4 else 0)) ++ be 2 h.depth.toNat ++
  be 4 h.applySetupNs.toNat

/-- The payload of a CREDIT block (R204). -/
def creditPayload (freed : Vector U16 5) : List U8 := freed.toList.flatMap fun x => be 2 x.toNat

/-! ### Lanes (R240, R241, R243) -/

/-- The bytes of a logical lane, ascending. -/
def laneBytes (cw : List U8) (j : Nat) : List U8 := (List.range (cw.length / 4)).map fun k => cw.getD (4 * k + j) 0

/-- The PAM4 level index of a bit pair (Table 7.3). -/
def pam4 (b : Nat) : Nat := match b with
  | 0 => 0 | 1 => 1 | 3 => 2 | _ => 3

/-- The level indices of a byte, bits 7 and 6 first. -/
def byteLevels (b : U8) : List Nat := [b.toNat / 64 % 4, b.toNat / 16 % 4, b.toNat / 4 % 4, b.toNat % 4].map pam4

/-- The precoder over level indices from state `t` (R241): what is sent. -/
def precode (t : Nat) : List Nat → List Nat
  | [] => []
  | g :: gs => let x := (g + 4 - t % 4) % 4
    x :: precode x gs

/-- The precoder's receiver from the index received last (R241): what is recovered. -/
def recover (r : Nat) : List Nat → List Nat
  | [] => []
  | x :: xs => (x + r) % 4 :: recover x xs

/-- The level of an index (Table 7.3). -/
def pamLevel (g : Nat) : Int := 2 * (g : Int) - 3

/-- The bits of a byte, most significant first: the NRZ symbols of Viaduct-1 (R240). -/
def byteBits (b : U8) : List Nat := (List.range 8).map fun i => if b.getLsbD (7 - i) then 1 else 0

/-- The bit pair of a level index (Table 7.3). -/
def pamBits (g : Nat) : Nat := match g with
  | 0 => 0 | 1 => 1 | 2 => 3 | _ => 2

/-- The bytes that symbols spell. -/
def symbolBytes (gen2 : Bool) (gs : List Nat) : List U8 :=
  let per := if gen2 then 4 else 8
  (List.range (gs.length / per)).map fun k => BitVec.ofNat 8 ((List.range per).foldl (fun a i =>
    let g := gs.getD (per * k + i) 0
    if gen2 then 4 * a + pamBits g else 2 * a + g % 2) 0)

/-- Symbols with some received as others. -/
def wrongSymbols (gs : List Nat) (j : Nat) (errs : List SymErr) : List Nat :=
  errs.foldl (fun (r : List Nat) e => if e.lane.val = j then r.set e.at_ e.got.val else r) gs

/-- The symbols of a lane's bytes: level indices under Viaduct-2, bits under Viaduct-1 (R240). -/
def laneSymbols (gen2 : Bool) (bs : List U8) : List Nat := bs.flatMap (if gen2 then byteLevels else byteBits)

/-! ### Test patterns and the fill of training frames (R248, R263) -/

/-- The taps of a pattern, 1 to 4: PRBS7, PRBS15, PRBS23, PRBS31 (R263). -/
def prbsTaps (pattern : Nat) : Nat × Nat := match pattern with
  | 1 => (7, 6) | 2 => (15, 14) | 3 => (23, 18) | _ => (31, 28)

/-- `n` bits of a pattern from the bits before them, newest first: each is the sum of the two its polynomial names. -/
def prbsBits (t : Nat × Nat) : Nat → List Nat → List Nat
  | 0, _ => []
  | n + 1, h =>
    let b := (h.getD (t.1 - 1) 0 + h.getD (t.2 - 1) 0) % 2
    b :: prbsBits t n ((b :: h).take t.1)

/-- Bits as bytes, the first the most significant. -/
def bitBytes (bs : List Nat) (n : Nat) : List U8 :=
  (List.range n).map fun k => BitVec.ofNat 8 ((List.range 8).foldl (fun a i => 2 * a + bs.getD (8 * k + i) 0) 0)

/-- The training frame of a lane (Table 7.4), with its FILL. -/
def TrainFrame.bytes (f : TrainFrame) (fill : List U8) : List U8 :=
  let b := fun (c : Bool) (v : Nat) => if c then v else 0
  be 2 0x3C5A ++ be 1 ((if f.align then 7 else 2) + 16 * f.lane.val + b f.ready 128) ++ be 1 f.countdown.toNat ++
  be 1 (b f.capV1 1 + b f.capV2 2 + b f.spareCap 4 + b f.precodeReq 8) ++
  be 1 ((f.rxFailed.map fun k => 2 ^ k.val).sum % 32) ++ be 2 f.rateMax.toNat ++ be 2 f.rateSel.toNat ++ be 2 0 ++ bytesAt fill 0 20

/-- Invert `n` bits of a lane's bytes from bit `at_`, counted from the first bit sent. -/
def flipBits (bs : List U8) (at_ n : Nat) : List U8 :=
  bs.zipIdx.map fun e => (List.range 8).foldl (fun (b : U8) i =>
    let k := 8 * e.2 + (7 - i)
    if at_ ≤ k ∧ k < at_ + n then b ^^^ BitVec.ofNat 8 (2 ^ i) else b) e.1

/-- Put a logical lane's bytes back into a codeword. -/
def setLane (cw : List U8) (j : Nat) (bs : List U8) : List U8 :=
  cw.zipIdx.map fun e => if e.2 % 4 = j then bs.getD (e.2 / 4) 0 else e.1

end Sys2Proof
end

