-- ==== Sys2Proof/Machine/LinkOps.lean ====
section
/-! DEFINITION. Machine/LinkOps.lean: the link layer: links up and down, virtual channels and their credits, the VC1 replay,
TIME blocks and the time parent, lane-control messages (R200 to R214, R261, R262). -/
namespace Sys2Proof.Machine
open Sys2Proof

/-! ### Lane maps (R237) -/

/-- The logical lane that a physical lane carries. -/
def LaneMap.logicalOf (m : LaneMap) (p : Nat) : Option Nat := m.lanes.idxOf? p

/-- The physical lane of a logical lane. -/
def LaneMap.physical (m : LaneMap) (j : Nat) : Nat := m.lanes.getD j 7

/-- Change a lane. -/
def Span.modLane (x : Span) (p : Nat) (f : Lane → Lane) : Span :=
  if h : p < 5 then { x with lane := x.lane.set p (f x.lane[p]) } else x

/-- Move a logical lane onto the spare; the lane it leaves is failed and no spare remains (R255). -/
def LaneMap.toSpare (m : LaneMap) (j : Nat) : LaneMap :=
  match m.spare with
  | none => m
  | some k => { lanes := m.lanes.set j k, spare := none, failed := m.physical j :: m.failed }

/-- A lane move whose codeword has come (R255, R257): its lane map, with the lane left failed or released to be the spare. -/
def LaneMap.moved (m : LaneMap) (v : LaneMove) : LaneMap :=
  let old := m.physical v.logical
  if v.release then { m with lanes := m.lanes.set v.logical v.dest, spare := some old }
  else { m with lanes := m.lanes.set v.logical v.dest, failed := if m.failed.contains old then m.failed else old :: m.failed }

/-- Take the receive lane move whose codeword comes next. -/
def Span.moveRx (x : Span) : Span := match x.rxMove with
  | some v => if 0 ≤ (x.cwRx - v.cw).toInt then { x with rxMove := none, rx := x.rx.moved v } else x
  | none => x

/-- Take the transmit lane move whose codeword is sent next; a released lane is no longer duplicated. -/
def Span.moveTx (x : Span) : Span := match x.txMove with
  | some v =>
    if 0 ≤ (x.cwTx - v.cw).toInt then
      { x with txMove := none, tx := x.tx.moved v, txDup := if v.release then none else x.txDup }
    else x
  | none => x

/-! ### What a transmitter drives (R248 to R250, R263) -/

/-- This end has decoded the peer's frames on at least three lanes: READY (Table 7.4). -/
def Training.ready (t : Training) : Bool := decide (3 ≤ t.seen.length)

/-- The first DISCOVER frame that counts down: of 256 bits at the base rate, the first to begin after both ends are READY (R249). -/
def Training.countFrame (t : Training) : Option Nat := t.countAt.map fun c => ((c - t.t0) * 10 + 2047) / 2048

/-- COUNTDOWN of a DISCOVER frame (Table 7.4). -/
def Training.countdown (t : Training) (k : Nat) : U8 := match t.countFrame with
  | some k₀ => if k < k₀ then 0xFF else BitVec.ofNat 8 (0xFE - (k - k₀))
  | none => 0xFF

/-- R of the direction that this end sends: the end of the frame whose COUNTDOWN is 0 (R249). -/
def Training.txR (t : Training) : Option Nat := t.countFrame.map fun k => t.t0 + ((k + 255) * 2048 + 9) / 10

/-- The rate both ends derive (R249): Viaduct-2, rate, spare, precoder. -/
structure Agreement where
  gen2 : Bool
  rate : Nat
  spare : Bool
  precode : Bool
  deriving DecidableEq, Repr

/-- R249. -/
def SpanCfg.agree (c : SpanCfg) (f : TrainFrame) : Option Agreement :=
  let r := min c.rateMbd.toNat f.rateMax.toNat / 125 * 125
  if c.gen2En && f.capV2 then
    if r < 1000 then none else some ⟨true, r, c.spareEn && f.spareCap, c.precodeReq && f.precodeReq⟩
  else if c.gen1En && f.capV1 then
    let r := min r 6250
    if r < 1250 then none else some ⟨false, r, false, false⟩
  else none

/-- The training frame that this end sends on a lane (Table 7.4). -/
def Training.frame (t : Training) (align : Bool) (k : Nat) (lane : Fin 5) : TrainFrame :=
  let sel := match t.peer with
    | some f => if t.ready then ((t.cfg.agree f).map (·.rate)).getD 0 else 0
    | none => 0
  { align := align, lane := lane, ready := t.ready, countdown := if align then 0xFF else t.countdown k, capV1 := t.cfg.gen1En,
    capV2 := t.cfg.gen2En, spareCap := t.cfg.spareEn, precodeReq := t.cfg.precodeReq,
    rxFailed := if align then (List.finRange 5).filter fun p => t.bad.contains p.val else [],
    rateMax := t.cfg.rateMbd, rateSel := BitVec.ofNat 16 sel, inverted := false, pin := lane }

/-- FILL of a lane's frame `k`: 160 bits of PRBS7, continuous from frame to frame; the pattern repeats after 127 bits (R248). -/
def fillBytes (lane k : Nat) : List U8 :=
  let seed := (List.range 7).map fun i => if (Config.fillSeed lane).getLsbD i then 1 else 0
  let skip := 160 * k % 127
  bitBytes ((prbsBits (prbsTaps 1) (skip + 160) seed).drop skip) 20

/-- The lanes that training drives: L0 to L4, or L0 to L3 where Viaduct-2 is disabled (R248). -/
def trainLanes (five : Bool) : List (Fin 5) := (List.finRange 5).filter fun p => five || decide (p.val < 4)

/-- The frames in progress on some lanes, `since` ns after the first, at a rate in Mb/s. -/
def Training.frames (t : Training) (align : Bool) (rate since : Nat) (lanes : List (Fin 5)) : SpanTx :=
  let k := since * rate / 256000
  .frames rate (lanes.map fun p => (p.val, (t.frame align k p).bytes (fillBytes p.val k)))

/-- What the transmitter of a span drives now (Table 7.5, R252, R259, R263, R268). -/
def State.spanTx (s : State) (sp : Fin 12) : SpanTx :=
  let x := s.spans[sp]
  let t := x.train
  let five := x.gen2 && x.tx.spare.isSome
  if x.st = 2 then match t.txR with
    | none => t.frames false 1250 (s.now - t.t0) (trainLanes t.cfg.gen2En)
    | some r =>
      if s.now < r then t.frames false 1250 (s.now - t.t0) (trainLanes t.cfg.gen2En)
      else if s.now < r + 13000000 then .pattern x.rate.toNat ((trainLanes five).map fun p => (p.val, 4))
      else if s.now < r + 15000000 then t.frames true x.rate.toNat (s.now - (r + 13000000)) (trainLanes five)
      else .codewords
  else if x.st = 7 then
    (if t.step < 8 then t.frames true x.rate.toNat (s.now - x.wokeAt) ((List.finRange 5).filter fun p => x.tx.lanes.contains p.val)
     else .codewords)
  else if x.st = 3 then match x.gapTx with
    | some (.open_ g) =>
      if s.now < g + 2000 then
        t.frames true x.rate.toNat (s.now - g) ((List.finRange 5).filter fun p => x.tx.lanes.contains p.val)
      else .codewords
    | _ => .codewords
  else if x.st = 6 then
    .pattern x.cfg.rateMbd.toNat ((List.finRange 5).filterMap fun p => if x.lane[p].gen = 0 then none else some (p.val, x.lane[p].gen))
  else .quiet

/-- Put out what the transmitter of a span drives from now on. -/
def State.showTx (s : State) (sp : Fin 12) : State := s.emit (.spanTx sp.val (s.spanTx sp))

/-! ### Up and down (R200, R211) -/

/-- A span's link takes a state (Table 6.18) from its span. -/
def State.linkState (s : State) (sp : Fin 12) (n : Nat) : State := s.modLink sp fun l => { l with st := n }

/-- An engine takes no time from a span that is down; its parent is chosen again (R214). -/
def State.timeSelect (s : State) : State :=
  if s.rootId = s.memberId ∧ s.holds = true then { s with tre.timeParent := none, tre.rootDist := 0 }
  else
    let ok := fun (sp : Fin 12) => s.links[sp].st == 2 && s.links[sp].peerDist != 0xFFFF &&
      (match s.links[sp].peer with
       | some h => h.root == s.rootId
       | none => false)
    let best := (List.finRange 12).foldl (fun (b : Option (Fin 12)) sp =>
      if ok sp = false then b
      else match b with
        | none => some sp
        | some c => if s.links[sp].peerDist < s.links[c].peerDist then some sp else b) none
    let keep := match s.tre.timeParent with
      | some p => ok p
      | none => false
    let par := if keep then s.tre.timeParent else best
    let dist : U16 := match par with
      | some p => if s.links[p].peerDist = 0xFFFF then 0xFFFF else s.links[p].peerDist + 1
      | none => 0xFFFF
    { s with tre.timeParent := par, tre.rootDist := dist }

/-- What waits or is in flight on a link is lost; counts start at zero (R204, R211). -/
def Link.cleared (l : Link) : Link :=
  { l with peer := none, trained := false, txq := .replicate 5 [], sent := .replicate 5 0, freedTx := .replicate 5 0,
           freedRx := .replicate 5 0, creditDue := false, ackDue := false, nakDue := false, timeDue := false, helloDue := false,
           stall := .replicate 5 none, stalled := .replicate 5 false, lseq := 0, replay := [], resend := [], resends := 0,
           expect := 0, nakSent := false, rx := .replicate 5 none, buf := [], drr2 := 0, drr3 := 0, timeAt := none, timeSent := [],
           peerDist := 0xFFFF, lowerRun := 0 }

/-- Messages being forwarded from a channel of a span whose rest will not come are given up (R209, R211). -/
def State.dropOpen (s : State) (sp : Fin 12) (v : Fin 5) : State :=
  (List.finRange 12).foldl (fun (s : State) o => s.dropMsgs o v fun t => t.via == some sp) s

/-- What a link that goes down carries is lost: its own messages, and what it forwards or was to forward (R211). -/
def State.loseTraffic (s : State) (sp : Fin 12) : State :=
  (List.finRange 5).foldl (fun (s : State) v => (s.dropMsgs sp v fun _ => true).dropOpen sp v) s

/-- A second cause of a link's going down, found in the count cycle of the first: the lowest is reported (R200). -/
def State.downCause (s : State) (sp : Fin 12) (cause : Nat) : State :=
  match s.links[sp].downAt with
  | none => s
  | some d =>
    if d.1 = s.now / 4 ∧ cause < d.2 then
      (s.modLink sp fun l => { l with downAt := some (d.1, cause) }).amend 64
        (be 1 sp.val ++ be 1 1 ++ be 1 d.2) (be 1 sp.val ++ be 1 1 ++ be 1 cause)
    else s

/-- A span's link goes down with a cause (Table 14.14): E064, LINK_EVENT, and 10 ms of quiet before the span trains again
(R200, R211, R254). -/
def State.linkDown (s : State) (sp : Fin 12) (cause : Nat) : State :=
  let l := s.links[sp]
  if l.st ≠ 2 then s.downCause sp cause
  else
    let peer : U32 := match l.peer with
      | some h => h.node
      | none => 0
    let s := (s.loseTraffic sp).modLink sp fun l =>
      { l.cleared with st := 0, linkDowns := l.linkDowns.inc, downAt := some (s.now / 4, cause) }
    let s := s.modSpan sp fun x =>
      { x with st := 1, quietUntil := s.now + 10000000, nextAttempt := s.now + 10000000, rotation := none, ctl := none,
               txPhase := 0, txDup := none, gapRx := none, gapTx := none, sleepDue := false, sleepAck := false, lock := false,
               goodRun := 0, rxMove := none, txMove := none, needs := [], idleLeft := 0, losDue := false, downSince := s.now }
    let s := s.showTx sp
    (((s.raiseF 64 [fN 0 1 sp.val, fN 1 1 1, fN 2 1 cause, f32 4 peer]).floodLinkEvent sp peer 1).timeSelect).pierLinkLost sp

/-- A trained span whose peer's HELLO has come goes up (R200). -/
def State.linkUp (s : State) (sp : Fin 12) (h : Hello) : State :=
  let x := s.spans[sp]
  let s := s.modLink sp fun l =>
    { l.cleared with st := 2, trained := true, peer := some h, helloDue := true, creditAt := s.now, helloAt := s.now,
                     fecAt := s.now, rate := if x.gen2 then 2 * x.rate.toNat else x.rate.toNat }
  let s := s.modSpan sp fun x =>
    { x with st := 3, step := 9, failCount := 0, dormant := false, abortRun := false, rotatedAt := s.now, sleep := none,
             alignSeen := false, healthAt := if x.healthFail then s.now else x.healthAt }
  let s := (s.raiseF 64 [fN 0 1 sp.val, fN 1 1 2, f32 4 h.node]).raiseIf x.dormant 73 [fN 0 1 sp.val, fN 1 1 2]
  let s := ({ s with tre.sawLinkUp := true, tre.refused := [], tre.absorbed := [] }.floodLinkEvent sp h.node 2).pierLinkBack sp
  if x.losDue then s.linkDown sp 1 else s

/-! ### Virtual channels (R202 to R206) -/

/-- Credit of a channel (R204). -/
def Link.credit (l : Link) (v : Fin 5) : Nat := vcBuffer[v] - (l.sent[v] - l.freedTx[v]).toNat

/-- A channel has a new block waiting: the blocks of a message are sent contiguously, so that one whose next block has not come
keeps the channel waiting (R203, R209). -/
def Link.waiting (l : Link) (v : Fin 5) : Bool :=
  match l.txq[v] with
  | [] => false
  | m :: _ => !m.blocks.isEmpty

/-- A channel is eligible (R202); VC1 also needs room in its replay buffer, or a block to send again (R206). -/
def Link.eligible (l : Link) (v : Fin 5) : Bool :=
  if v = 1 then !l.resend.isEmpty || (l.waiting v && decide (0 < l.credit v) && decide (l.replay.length < 64))
  else l.waiting v && decide (0 < l.credit v)

/-- Stall clocks: a channel with a block waiting and no credit (R205). -/
def Link.stalls (l : Link) (now : Nat) : Link :=
  (List.finRange 5).foldl (fun (l : Link) (v : Fin 5) =>
    if l.waiting v && l.credit v == 0 then
      { l with stall := l.stall.set v (some (l.stall[v].getD now)) }
    else { l with stall := l.stall.set v none, stalled := l.stalled.set v false }) l

/-- The channel to send from (Table 6.3), and the link with its round-robin shares. -/
def Link.pickVc (l : Link) : Option (Fin 5 × Link) :=
  if l.eligible 0 then some (0, l)
  else if l.eligible 1 then some (1, l)
  else if l.eligible 2 && l.eligible 3 then
    let l := if l.drr2 = 0 ∧ l.drr3 = 0 then { l with drr2 := l.cfg.w2.toNat, drr3 := l.cfg.w3.toNat } else l
    if 0 < l.drr2 then some (2, { l with drr2 := l.drr2 - 1 }) else some (3, { l with drr3 := l.drr3 - 1 })
  else if l.eligible 2 then some (2, l)
  else if l.eligible 3 then some (3, l)
  else if l.eligible 4 then some (4, l)
  else none

/-- What leaves at a codeword boundary: the link after it and the block's bytes, the receive buffer's block that it frees, and
the update that it completes. -/
structure Departure where
  link : Link
  bytes : List U8
  src : Option (Fin 12 × Nat) := none
  note : Option (U32 × Nat) := none
  deriving DecidableEq, Repr

/-- The payload of a DATA block. -/
def blockPayload (b : Block) : List U8 := if b.vc = 1 then be 2 b.lseq.toNat ++ b.data else b.data

/-- The bytes of a DATA block. -/
def dataBytes (b : Block) : List U8 := blockBytes 1 b.vc.val b.sop b.eop (blockPayload b)

/-- An IDLE block. -/
def idleBytes : List U8 := blockBytes 0 0 false false []

/-- Take the next block of a channel (R203, R206). -/
def Link.takeBlock (l : Link) (v : Fin 5) (now : Nat) : Departure :=
  match (if v = 1 then l.resend else []) with
  | (q, b) :: rest => ⟨{ l with resend := rest, ackWait := now, blocksTx := l.blocksTx.inc }, dataBytes { b with lseq := q }, none, none⟩
  | [] =>
    match l.txq[v] with
    | [] => ⟨l, idleBytes, none, none⟩
    | m :: ms => match m.blocks with
      | [] => ⟨l, idleBytes, none, none⟩
      | x :: xs =>
        let last := xs.isEmpty && m.via.isNone
        let b : Block := ⟨⟨v.val, by omega⟩, !m.started, last, if v = 1 then l.lseq else 0, x.data⟩
        let l := { l with txq := l.txq.set v (if last then ms else { m with blocks := xs, started := true } :: ms),
                          sent := l.sent.set v (l.sent[v] + 1), blocksTx := l.blocksTx.inc }
        let l := if v = 1 then
            { l with lseq := l.lseq + 1, replay := l.replay ++ [(l.lseq, b)], ackWait := if l.replay.isEmpty then now else l.ackWait }
          else l
        ⟨l, dataBytes b, x.src, if last then m.note else none⟩

/-- A Keystone stamp (R212). -/
def State.stamp (s : State) : Stamp := ⟨s.full, BitVec.ofNat 8 (s.ks.subns / 256)⟩

/-- This engine's TIME block (Table 6.7). -/
def State.ownTime (s : State) (l : Link) : TimeBlock :=
  ⟨l.timeSeq, s.tre.rootDist, l.timeTx.ns, l.timeTx.frac, l.peerSeq, l.peerRx.ns, l.peerRx.frac⟩

/-- This engine's HELLO (Table 6.2). -/
def State.ownHello (s : State) (sp : Fin 12) : Hello :=
  ⟨s.tre.nodeId, s.memberId, s.rootId, BitVec.ofNat 8 sp.val, true, s.holds, s.paired && s.pierSpan == sp, 0, 0⟩

/-- What a transmitter sends at a codeword boundary (R202). -/
def State.nextBlock (s : State) (sp : Fin 12) : Departure :=
  let l := s.links[sp]
  if l.timeDue then
    let t := s.stamp
    { link := { l with timeDue := false, timeTx := t, timeSeq := l.timeSeq + 1, timeSent := ((l.timeSeq, t) :: l.timeSent).take 4 },
      bytes := blockBytes 5 0 false false (s.ownTime l).payload }
  else if l.creditDue then
    { link := { l with creditDue := false, creditAt := s.now }
      bytes := blockBytes 2 0 false false (creditPayload l.freedRx) }
  else if l.ackDue then
    { link := { l with ackDue := false }, bytes := blockBytes 3 0 false false (be 2 (l.expect - 1).toNat) }
  else if l.nakDue then
    { link := { l with nakDue := false, naksSent := l.naksSent.inc }, bytes := blockBytes 4 0 false false (be 2 l.expect.toNat) }
  else if l.helloDue then
    { link := { l with helloDue := false, helloAt := s.now }, bytes := blockBytes 6 0 false false (s.ownHello sp).payload }
  else if l.st ≠ 2 then { link := l, bytes := idleBytes }
  else match l.pickVc with
    | none => { link := l, bytes := idleBytes }
    | some (v, l) => l.takeBlock v s.now

/-- An update's last block leaves: it counts in LATE_SENDS if its instant P'(m) + λ - σ(O) has passed (R222). -/
def State.updateLeft (s : State) (m : U32) (route : Nat) : State :=
  match s.imageFor m, s.outImage with
  | some im, some out =>
    -- a destination of the old image stands in the new one's table where that routes it too
    let k := if im.routes[route]? = out.routes[route]? then some route
      else (im.routes[route]?).bind fun r => matchIndex sameRoute r out.routes
    (match k with
     | none => s
     | some k =>
       if s.grid.p' m + im.leastLambda route - s.grid.v.sigma (s.dest k).lead.toNat < (s.full : Int) then
         s.modDest k fun d => { d with lateSends := d.lateSends.inc }
       else s)
  | _, _ => s

/-- What follows once a block has left: the receive buffer's block is freed (R204), and an update that it completes is judged. -/
def State.departed (s : State) (d : Departure) : State :=
  let s := match d.src with
    | some e => s.modLink e.1 fun l => l.release e.2
    | none => s
  match d.note with
  | some n => s.updateLeft n.1 n.2
  | none => s

/-! ### Codewords on lanes, and injected errors (R241, R243, R257, R265) -/

/-- The portions of a codeword by physical lane (R243): a logical lane that is duplicated goes on the spare too, from c1 (R257). -/
def Span.portions (x : Span) (cw : List U8) : List (Nat × List U8) :=
  ((List.range 4).map fun j => (x.tx.physical j, laneBytes cw j)) ++
  (match x.txDup, x.tx.spare with
   | some (j, c), some k => if 0 ≤ (x.cwTx - c).toInt then [(k, laneBytes cw j)] else []
   | _, _ => [])

/-- What leaves in a codeword time: the portions of its lanes, the span, and the test patterns whose bits are inverted. -/
structure Sending where
  lanes : List (Nat × List U8)
  span : Span
  prbs : List Out := []
  deriving DecidableEq, Repr

/-- The injection of a lane in this codeword time (R265): TARGET 1 inverts bits of the portion it carries, TARGET 0 of its test
pattern. -/
def Sending.inject (r : Sending) (fresh sp p : Nat) : Sending :=
  if h : p < 5 then
    let x := r.span
    match x.lane[p].inject with
    | none => r
    | some e =>
      if 1 < e.wait then { r with span := x.modLane p fun y => { y with inject := some { e with wait := e.wait - 1 } } }
      else
        let left := if e.left = 0xFFFF then e.left else e.left - 1
        let x' := x.modLane p fun y => { y with inject := if left = 0 then none else some { e with left := left, wait := e.interval } }
        if e.inService then
          { r with span := x', lanes := r.lanes.map fun l =>
              if l.1 = p then (p, flipBits l.2 (Config.injectAt (fresh + p) % (273 - e.length)) e.length) else l }
        else { r with span := x', prbs := if x.lane[p].gen = 0 then r.prbs else r.prbs ++ [.prbsError sp p e.length] }
  else r

/-- The injections of a codeword time on the five lanes. -/
def Sending.injected (r : Sending) (fresh sp : Nat) : Sending := (List.range 5).foldl (fun (r : Sending) p => r.inject fresh sp p) r

/-- The symbols of a lane's portion, and the span with its precoder's state after them (R240, R241). -/
def Span.sendLane (x : Span) (l : Nat × List U8) : (Nat × List Nat) × Span :=
  let gs := laneSymbols x.gen2 l.2
  if h : l.1 < 5 then
    if x.precode then
      let ts := Sys2Proof.precode x.lane[l.1].pre gs
      ((l.1, ts), x.modLane l.1 fun a => { a with pre := ts.getLastD a.pre })
    else ((l.1, gs), x)
  else ((l.1, gs), x)

/-- The symbols of every lane of a codeword. -/
def Span.sendLanes (x : Span) : List (Nat × List U8) → List (Nat × List Nat) × Span
  | [] => ([], x)
  | l :: ls =>
    let a := x.sendLane l
    let b := a.2.sendLanes ls
    (a.1 :: b.1, b.2)

/-- A codeword is sent on a span (R241 to R243, R265). -/
def State.sendCodeword (s : State) (sp : Fin 12) (cw : List U8) : State :=
  let x := s.spans[sp]
  let r := Sending.injected ⟨x.portions cw, x, []⟩ s.fresh sp.val
  let o := r.span.sendLanes r.lanes
  let s := ({ s with fresh := s.fresh + 5 }.modSpan sp fun _ => { o.2 with cwTx := o.2.cwTx + 1 }).emit (.codeword sp.val cw o.1)
  r.prbs.foldl State.emit s

/-- A codeword time of a span in MODE 2, whose test patterns alone may take injections (R263, R265). -/
def State.injectIdle (s : State) (sp : Fin 12) : State :=
  let r := Sending.injected ⟨[], s.spans[sp], []⟩ s.fresh sp.val
  r.prbs.foldl State.emit (s.modSpan sp fun _ => r.span)

/-! ### Lane control (R261, R262) -/

/-- DEST of lane control: the peer. -/
def laneCtlDest : U32 := 0xFFFFFFF0#32

/-- The payload of a LANE_CTL message (Table 7.7). -/
def laneCtlBytes (op : Nat) (m : LaneCtl) : List U8 :=
  be 1 op ++ be 1 m.logical.toNat ++ be 1 m.physical.toNat ++ be 1 0 ++ be 4 m.startCw.toNat ++ be 4 m.tag.toNat ++
  be 2 m.guardUs.toNat ++ be 2 0 ++ be 6 m.wakeS ++ be 2 0 ++ be 4 m.wakeNs

/-- Send lane control to the peer, whatever the NODE_ID (R261). -/
def State.laneSend (s : State) (sp : Fin 12) (op : Nat) (m : LaneCtl) : State :=
  let q := s.tre.ownSeq[(1 : Fin 5)]
  ({ s with tre.ownSeq := s.tre.ownSeq.set (1 : Fin 5) (q + 1) }).queueMsg sp
    ⟨laneCtlDest, s.tre.nodeId, 0x0040, 0, q, laneCtlBytes op m⟩

/-- The fields of a request that names no lane. -/
def laneCtl0 : LaneCtl := ⟨0xFF, 0xFF, 0xFFFFFFFF, 0, 2000, 0, 0⟩

/-- Send a request that awaits an answer (R262). -/
def State.laneAsk (s : State) (sp : Fin 12) (op : Nat) (m : LaneCtl) : State :=
  let m := { m with tag := s.spans[sp].ctlTag + 1 }
  (s.modSpan sp fun x => { x with ctlTag := x.ctlTag + 1, ctl := some ⟨op, m, s.now, false⟩ }).laneSend sp op m

/-- Answer a request with ACK (8) or NAK (9). -/
def State.laneAnswer (s : State) (sp : Fin 12) (ack : Bool) (m : LaneCtl) (cw : U32) : State :=
  s.laneSend sp (if ack then 8 else 9) { m with startCw := cw }

/-- A START_CW that this transmitting end chooses, ahead of its transmit count. -/
def State.chooseCw (s : State) (sp : Fin 12) : U32 := s.spans[sp].cwTx + BitVec.ofNat 32 (1 + Config.cwLead s.fresh)

/-- An update of a route on a span is packed and waits for its turn (R222). -/
def State.sendWaits (s : State) (sp : Fin 12) : Bool := match s.outImage with
  | some im => s.tre.sends.any fun d => d.ready && (match im.routes[d.route]? with
    | some r => (r.kind == 1 || r.kind == 6) && r.port.toNat == sp.val
    | none => false)
  | none => false

/-- A frame gap in the transmit direction of a span (R260). -/
def State.frameGap (s : State) (sp : Fin 12) : Bool :=
  let l := s.links[sp]
  l.txq[(0 : Fin 5)].isEmpty && s.tre.latchCopy.isEmpty && l.txq[(2 : Fin 5)].isEmpty && !s.sendWaits sp &&
  !(s.raster.toList.any fun r => r.cfg.enable && r.cfg.span.toNat == sp.val && r.xfer.isSome)

/-- A gap that waits is placed when a frame gap is found, and its START_CW returned (R260). -/
def State.placeGap (s : State) (sp : Fin 12) : State :=
  match s.spans[sp].gapTx with
  | some (.wait _ _) =>
    if s.frameGap sp then
      let cw := s.chooseCw sp
      let m := { laneCtl0 with tag := s.spans[sp].gapTag }
      ((s.modSpan sp fun x => { x with gapTx := some (.placed cw) }).draw).laneAnswer sp true m cw
    else s
  | _ => s

/-- The transmitter sends codewords: the link is up and no gap interrupts it, or training has come to LOCK (Table 7.5). -/
def State.sendsCodewords (s : State) (sp : Fin 12) : Bool := s.spanTx sp == .codewords

/-- The span goes to sleep (R267). -/
def State.sleepNow (s : State) (sp : Fin 12) : State :=
  (s.linkDown sp 6).modSpan sp fun x => { x with st := 5, sleepDue := false, sleepAck := false, alignSeen := false }

/-- A sleep falls due: the codeword boundary is the first after the ACK was received, or, at the responder, sent (R267). -/
def State.sleeps (s : State) (sp : Fin 12) : Bool :=
  s.spans[sp].sleepDue && (!s.spans[sp].sleepAck || s.links[sp].txq[(1 : Fin 5)].isEmpty)

/-- The span at a codeword boundary: lane moves take effect, and a gap that is over leaves 64 codewords in which its receiver
regains lock and no block goes but IDLE (R244, R255, R257, R259). -/
def Span.atBoundary (x : Span) : Span :=
  let y := x.moveTx
  match y.gapTx with
  | some (.open_ _) => { y with gapTx := none, idleLeft := 64 }
  | _ => y

/-- A lane that a move released carries PRBS31 (R257 step 3). -/
def State.showRelease (s : State) (sp : Fin 12) (x : Span) : State := match x.txMove, x.moveTx.txMove, x.moveTx.tx.spare with
  | some v, none, some p => if v.release then s.emit (.spanTx sp.val (.pattern x.rate.toNat [(p, 4)])) else s
  | _, _, _ => s

/-- What a codeword boundary sends: the first due block, or IDLE while the receiver regains lock after a gap. -/
def State.boundaryBlock (s : State) (sp : Fin 12) : Departure :=
  if s.spans[sp].idleLeft = 0 then s.nextBlock sp else { link := s.links[sp], bytes := idleBytes }

/-- A codeword boundary (R202, R203, R260, R265, R267). -/
def State.codewordBoundary (s : State) (sp : Fin 12) : State :=
  if s.sleeps sp then s.sleepNow sp
  else if s.sendsCodewords sp = false then (if s.spans[sp].st = 6 then s.injectIdle sp else s)
  else
    let s := (((s.showRelease sp s.spans[sp]).modSpan sp Span.atBoundary)).placeGap sp
    let n := s.boundaryBlock sp
    let s := (s.modLink sp fun _ => n.link.stalls s.now).departed n
    (s.modSpan sp fun x => { x with idleLeft := x.idleLeft - 1 }).sendCodeword sp (codewordOf n.bytes)

/-! ### Reception (R204 to R206) -/

/-- What the receiver of a span makes of a codeword sent with a block, some of whose symbols arrive wrong (R240 to R243): the
span with the state of its lanes, and the bytes that FEC corrects; none where the codeword is uncorrectable. -/
def Span.receive (x : Span) (block : List U8) (errs : List SymErr) : Span × Option (List (Nat × U8)) :=
  if errs.isEmpty && !x.precode then (x, some [])
  else
    let sent := codewordOf block
    let lane := fun (r : Span × List U8) (j : Nat) =>
      let p := r.1.rx.physical j
      let gs := laneSymbols x.gen2 (laneBytes sent j)
      if h : p < 5 then
        let a := r.1.lane[p]
        if x.precode then
          let ts := Sys2Proof.precode a.prePeer gs
          let rs := wrongSymbols ts j errs
          (r.1.modLane p fun a => { a with prePeer := ts.getLastD a.prePeer, preRx := rs.getLastD a.preRx },
           setLane r.2 j (symbolBytes x.gen2 (recover a.preRx rs)))
        else (r.1, setLane r.2 j (symbolBytes x.gen2 (wrongSymbols gs j errs)))
      else r
    let r := (List.range 4).foldl lane (x, sent)
    (r.1, corrected sent r.2)

/-- Bits of the bytes corrected on a logical lane. -/
def fixedBits (fixed : List (Nat × U8)) (j : Nat) : Nat := ((fixed.filter fun e => e.1 % 4 == j).map fun e => bitCount e.2).sum

/-- A logical lane's part in a codeword that passes FEC: its corrected bytes are counted, and their bits kept for a second
(R243, R256). -/
def Span.laneFixed (x : Span) (now : Nat) (fixed : List (Nat × U8)) (j : Nat) : Span :=
  let p := x.rx.physical j
  let n := (fixed.filter fun e => e.1 % 4 == j).length
  let y := x.modLane p fun a => { a with corrected := a.corrected.add n }
  { y with errLog := if n = 0 then y.errLog else (now, p, fixedBits fixed j) :: y.errLog.filter fun e => decide (now < e.1 + 1000000000) }

/-- A codeword that passes FEC counts towards LOCK's 1,024 once codeword lock stands (Table 7.5). -/
def Training.goodCodeword (t : Training) (fixed : Nat) : Training :=
  if t.step ≠ 8 then t
  else if 16 < t.cleanBytes + fixed then { t with clean := 0, cleanBytes := 0 }
  else { t with clean := t.clean + 1, cleanBytes := t.cleanBytes + fixed, lockPass := t.lockPass || decide (1024 ≤ t.clean + 1) }

/-- A codeword passes FEC on a span, with the bytes corrected (R242 to R244); a gap ends as codeword lock is regained (R259). -/
def State.codewordRx (s : State) (sp : Fin 12) (fixed : List (Nat × U8)) : State :=
  let s := s.modSpan sp fun x =>
    let y := (List.range 4).foldl (fun (y : Span) j => y.laneFixed s.now fixed j) x
    let lock := y.lock || decide (64 ≤ y.goodRun + 1)
    let gap := match y.gapRx with
      | some (.open_ t) => if lock then none else some (.open_ t)
      | g => g
    Span.moveRx { y with
      cwRx := y.cwRx + 1, codewords := y.codewords.inc, badRun := 0, goodRun := y.goodRun + 1, lock := lock,
      cwCorrected := if fixed.isEmpty then y.cwCorrected else y.cwCorrected.inc,
      gapRx := gap, train := if y.lock then y.train.goodCodeword fixed.length else y.train }
  s.modLink sp fun l => { l with fecAt := s.now }

/-- A span's receiver decodes codewords: its link is up, or training has come to LOCK. -/
def Span.decodes (x : Span) : Bool := x.st == 3 || ((x.st == 2 || x.st == 7) && decide (8 ≤ x.train.step))

/-- Codewords of a span are uncorrectable more often than HEALTH_UE in 1 ms (R242, R244, R270). -/
def State.codewordBad (s : State) (sp : Fin 12) : State :=
  let s := s.modSpan sp fun x => Span.moveRx
    { x with cwRx := x.cwRx + 1, codewords := x.codewords.inc, cwBad := x.cwBad.inc, badRun := x.badRun + 1, goodRun := 0,
             lock := x.lock && decide (x.badRun + 1 < 8), train := { x.train with clean := 0, cleanBytes := 0 },
             badAt := s.now :: x.badAt.filter fun t => decide (s.now < t + 1000000) }
  let x := s.spans[sp]
  if x.cfg.healthUe.toNat < x.badAt.length then s.spanFail sp 2 else s

/-- A codeword sent with a block comes in (R241 to R244): the state after it, and whether its block is delivered, which takes
codeword lock. -/
def State.codewordIn (s : State) (sp : Fin 12) (block : List U8) (errs : List SymErr) : State × Bool :=
  if s.spans[sp].decodes = false then (s, false)
  else
    let r := s.spans[sp].receive block errs
    let s := s.modSpan sp fun _ => r.1
    match r.2 with
    | none => (s.codewordBad sp, false)
    | some fixed =>
      let s := s.codewordRx sp fixed
      (s, s.spans[sp].lock)

/-- The block of a message as it is forwarded: the first one's HOPS are raised by one (R209). -/
def forwardData (first : Bool) (d : List U8) : List U8 :=
  if first then d.take 12 ++ be 2 ((rdBE d 12 2 + 1) % 65536) ++ d.drop 14 else d

/-- A block to be forwarded joins the messages of a channel, cut-through (R209). -/
def Link.pushBlock (l : Link) (v : Fin 5) (from_ : Fin 12) (first last : Bool) (key : U32 × U16) (x : TxBlk) : Link :=
  let rest := if last then none else some from_
  { l with txq := l.txq.set v (if first then l.txq[v] ++ [{ blocks := [x], via := rest, key := some key }]
      else l.txq[v].map fun t => if t.via = some from_ then { t with blocks := t.blocks ++ [x], via := rest } else t) }

/-- A block of a message takes its way (R204, R209): it is forwarded on the message's spans, and its buffer block stays taken
until the last copy has left; one that is consumed or discarded frees it at once. -/
def State.passBlock (s : State) (sp : Fin 12) (v : Fin 5) (b : Block) (r : RxMsg) : State :=
  let id := s.links[sp].bufSeq
  let exits := r.exits.filter fun o => s.links[o].st == 2
  let m := Msg.parse r.bytes
  let s := exits.foldl (fun (s : State) o => s.modLink o fun l =>
    l.pushBlock v sp b.sop b.eop (m.src, m.seq) ⟨forwardData b.sop b.data, some (sp, id)⟩) s
  s.modLink sp fun l =>
    let l := { l with rx := l.rx.set v (if b.eop then none else some r),
                      rxDone := if b.eop && r.take then l.rxDone ++ [m] else l.rxDone, bufSeq := id + 1 }
    if exits.isEmpty then { l with freedRx := l.freedRx.set v (l.freedRx[v] + 1), creditDue := true }
    else { l with buf := l.buf ++ [⟨id, v, exits.length⟩] }

/-- A block of a virtual channel is taken in: the first of a message is routed by its header (R207, R209), lane control to this
end (R261); one that continues no message is discarded. -/
def State.takeIn (s : State) (sp : Fin 12) (v : Fin 5) (b : Block) : State :=
  if b.sop then
    let s := (s.dropOpen sp v).modLink sp fun l => { l with rx := l.rx.set v none }
    let m := Msg.parse b.data
    if m.type = 0x0040 then s.passBlock sp v b ⟨b.data, false, []⟩
    else
      let r := s.msgArrive sp v m
      r.1.passBlock sp v b ⟨b.data, r.2.1, r.2.2⟩
  else match s.links[sp].rx[v] with
    | some r => s.passBlock sp v b { r with bytes := r.bytes ++ b.data }
    | none => s.modLink sp fun l => { l with freedRx := l.freedRx.set v (l.freedRx[v] + 1), creditDue := true }

/-- A DATA block is received (R203, R206). -/
def State.dataBlock (s : State) (sp : Fin 12) (b : Block) : State :=
  if h : b.vc.val < 5 then
    let v : Fin 5 := ⟨b.vc.val, h⟩
    let l := s.links[sp]
    if vcRoom v < b.data.length then s.modLink sp fun l => { l with badBlocks := l.badBlocks.inc }
    else
      let s := s.modLink sp fun l => { l with blocksRx := l.blocksRx.inc }
      if v ≠ 1 then s.takeIn sp v b
      else if b.lseq = l.expect then
        (s.modLink sp fun l => { l with expect := l.expect + 1, ackDue := true, nakSent := false }).takeIn sp v b
      else if 0 < (b.lseq - l.expect).toInt then
        s.modLink sp fun l => if l.nakSent then l else { l with nakDue := true, nakSent := true }
      else s.modLink sp fun l => { l with ackDue := true }
  else s.modLink sp fun l => { l with badBlocks := l.badBlocks.inc }

/-- Blocks are sent again from `lseq`; eight resends in a row take the link down (R206). -/
def State.vc1Resend (s : State) (sp : Fin 12) (lseq : Option U16) : State :=
  let l := s.links[sp]
  let again := match lseq with
    | none => l.replay
    | some q => l.replay.dropWhile fun e => decide ((e.1 - q).toInt < 0)
  if again.isEmpty then s
  else
    let s := s.modLink sp fun l => { l with resend := again, resends := l.resends + 1, replays := l.replays.inc, ackWait := s.now }
    if 8 ≤ l.resends + 1 then s.linkDown sp 4 else s

/-- An ACK covers every block up to a LSEQ (R206). -/
def Link.ack (l : Link) (q : U16) (now : Nat) : Link :=
  let keep := l.replay.filter fun e => decide (0 < (e.1 - q).toInt)
  if keep.length < l.replay.length then
    { l with replay := keep, resend := l.resend.filter (fun e => decide (0 < (e.1 - q).toInt)), resends := 0, ackWait := now }
  else l

/-- R213: the offset and delay that a TIME block gives: theta in ns and d in ps. -/
def State.timeSampleOf (s : State) (l : Link) (t : TimeBlock) : Option (Rat × Rat) :=
  match l.timeSent.find? (·.1 == t.peerSeq) with
  | none => none
  | some mine =>
    let v := fun (ns : Nat) (f : U8) => (ns : Rat) + (f.toNat : Rat) / 256
    let t1 := v t.prevTx t.prevTxFrac
    let t2 := v l.peerRx.ns l.peerRx.frac
    let t3 := v mine.2.ns mine.2.frac
    let t4 := v t.peerRx t.peerRxFrac
    let asym : Rat := l.cfg.asymPs
    let apart := ((l.peerRx.ns : Int) - mine.2.ns).natAbs
    if l.peerSeq + 1 ≠ t.seq ∨ s.grid.ticksNs 32 < apart then none
    else
      let d := ((t2 - t1) + (t4 - t3)) / 2 - asym / 2000
      some (t1 + d + asym / 1000 - t2, d * 1000)

/-- The peer of a span is in the engine's domain. -/
def State.peerInDomain (s : State) (sp : Fin 12) : Bool := match s.links[sp].peer with
  | some h => h.root == s.rootId
  | none => false

/-- A TIME block of a span that is not the parent `p`: counted while it shows less than the parent's (R214). -/
def State.lowerRun (s : State) (sp p : Fin 12) : Nat :=
  if s.peerInDomain sp && decide (s.links[sp].peerDist.toNat < s.links[p].peerDist.toNat) then s.links[sp].lowerRun + 1 else 0

/-- R214: a TIME block shows its ROOT_DIST; the parent changes after eight in a row that show less than the parent's. -/
def State.parentCheck (s₀ : State) (sp : Fin 12) (dist : U16) : State :=
  let s := s₀.modLink sp fun l => { l with peerDist := dist }
  match s.tre.timeParent with
  | none => s.timeSelect
  | some p =>
    if p = sp then s.timeSelect
    else
      let n := s.lowerRun sp p
      if 8 ≤ n then State.timeSelect ({ s with tre.timeParent := some sp }.modLink sp fun l => { l with lowerRun := 0 })
      else s.modLink sp fun l => { l with lowerRun := n }

/-- A TIME block is received (R212 to R214). -/
def State.timeBlock (s : State) (sp : Fin 12) (t : TimeBlock) : State :=
  let l := s.links[sp]
  let r := s.timeSampleOf l t
  let s := s.modLink sp fun l =>
    { l with peerSeq := t.seq, peerRx := s.stamp,
             linkDelayPs := match r with
               | some x => BitVec.ofInt 32 (ratRound x.2)
               | none => l.linkDelayPs }
  let s := s.parentCheck sp t.rootDist
  match r with
  | some x => if s.tre.timeParent = some sp then s.sample 2 x.1 (s.grid.ticksNs 16) else s
  | none => s

end Sys2Proof.Machine
end

