-- ==== Sys2Proof/Machine/SpanOps.lean ====
section
/-! DEFINITION. Machine/SpanOps.lean: training, lane faults, rotation, calibration gaps, sleep and wake of a span (R244 to R270). -/
namespace Sys2Proof.Machine
open Sys2Proof

/-! ### Training (R248 to R253) -/

/-- An attempt begins at T0 (R250); its lanes carry traffic, so that no test pattern runs on them (R263). -/
def State.beginAttempt (s : State) (sp : Fin 12) : State :=
  let x := s.spans[sp]
  if x.cfg.mode ≠ 1 ∨ (x.st ≠ 1 ∧ x.st ≠ 4) then s
  else
    ((s.modSpan sp fun x =>
      { x with st := 2, step := 1, train := { t0 := s.now, cfg := x.cfg }, attempts := x.attempts.inc, lock := false,
               goodRun := 0, alignSeen := false, cwTx := 0, losDue := false,
               lane := x.lane.map fun l => { l with gen := 0, check := 0, chk.lock := false, pre := 0 } }).linkState sp 1).showTx sp

/-- An attempt may begin: no quiet period and no retry interval stands. -/
def State.attemptDue (s : State) (sp : Fin 12) : Bool :=
  decide (s.spans[sp].quietUntil ≤ s.now) && decide (s.spans[sp].nextAttempt ≤ s.now)

/-- An attempt fails: cause 1 TIMEOUT, 2 STEP or 3 MISMATCH (R253). -/
def State.failAttempt (s : State) (sp : Fin 12) (cause : Nat) : State :=
  let x := s.spans[sp]
  let step := x.train.failed.getD x.train.step
  let n := x.failCount + 1
  let dorm := x.dormant || decide (8 ≤ n)
  let s := s.modSpan sp fun x =>
    { x with st := if dorm then 4 else 1, failCount := n, fails := x.fails.inc, dormant := dorm, abortRun := false, step := step,
             nextAttempt := x.train.t0 + (if dorm then 10000000000 else 1000000000) }
  let s := ((s.showTx sp).linkState sp (if dorm then 3 else 0)).raiseF 72 [fN 0 1 sp.val, fN 1 1 cause, fN 2 1 step, fN 3 1 (min n 255)]
  s.raiseIf (dorm && !x.dormant) 73 [fN 0 1 sp.val, fN 1 1 1]

/-- An attempt aborts on loss of signal: 10 ms of quiet (R252). -/
def State.abortAttempt (s : State) (sp : Fin 12) : State :=
  let x := s.spans[sp]
  let s := s.modSpan sp fun x =>
    { x with st := if x.dormant then 4 else 1, aborts := x.aborts.inc, abortRun := true, step := x.train.step,
             quietUntil := s.now + 10000000, nextAttempt := s.now + 10000000 }
  ((s.showTx sp).linkState sp (if x.dormant then 3 else 0)).raiseIf (!x.abortRun) 72
    [fN 0 1 sp.val, fN 1 1 4, fN 2 1 x.train.step, fN 3 1 (min x.failCount 255)]

/-- Take the agreed values; with no spare in use L4 is unused. -/
def Span.agreed (x : Span) (a : Agreement) : Span :=
  let m : LaneMap := if a.spare then {} else { spare := none }
  { x with gen2 := a.gen2, rate := BitVec.ofNat 16 a.rate, precode := a.precode, rx := m, tx := m }

/-- A lane joins a list of lanes. -/
def addLane (l : List Nat) (p : Nat) : List Nat := if l.contains p then l else p :: l

/-- What an attempt knows once a frame is decoded: its lane, and what it says (R247 to R249, R251). -/
def Training.decoded (t : Training) (f : TrainFrame) : Training :=
  if f.align then { t with aligned := addLane t.aligned f.lane.val, peer := some f, txBad := f.rxFailed.map (·.val) }
  else { t with seen := addLane t.seen f.lane.val, peer := some f }

/-- A training frame is decoded (R247 to R249): its lane is found, both ends agree once both are READY and begin to count down,
and the peer's count of 0 is R of the incoming direction. -/
def State.trainingFrame (s : State) (sp : Fin 12) (f : TrainFrame) : State :=
  let x := s.spans[sp]
  let t := x.train.decoded f
  let s' := s.modSpan sp fun x =>
    { x.modLane f.lane.val (fun l => { l with inverted := f.inverted, pin := some f.pin }) with
      train := t, alignSeen := x.alignSeen || f.align }
  if x.st = 7 then s'
  else if x.st ≠ 2 then s
  else if f.align = false ∧ x.train.step ≤ 2 ∧ t.ready = true ∧ f.ready = true then
    match x.train.cfg.agree f with
    | none => s'.failAttempt sp 3
    | some a =>
      (s'.modSpan sp fun x =>
        let y := { x.agreed a with train := { t with countAt := some (t.countAt.getD s.now) } }
        if f.countdown = 0 then { y with step := 3, train := { y.train with step := 3, rAt := some s.now, failed := none } }
        else y).showTx sp
  else s'.showTx sp

/-- The end of a step's window (Table 7.5), ns of engine time. -/
def Training.windowEnd (t : Training) : Option Nat :=
  match t.step with
  | 1 => some (t.t0 + 500000)
  | 2 => some (t.t0 + 2000000)
  | n => t.rAt.map fun r => r + [1000000, 5000000, 9000000, 13000000, 15000000, 17000000, 17900000].getD (n - 3) 17900000

/-- The lane map of a direction in which lanes failed (R251). -/
def LaneMap.without (m : LaneMap) (bad : List Nat) : LaneMap :=
  if bad.isEmpty then m
  else { lanes := ([0, 1, 2, 3, 4].filter fun p => !bad.contains p).take 4, spare := none, failed := bad }

/-- Set the taps that a step found. -/
def Span.setTaps (x : Span) (ts : List (Fin 5 × Taps)) : Span :=
  ts.foldl (fun (x : Span) t => x.modLane t.1.val fun l => { l with taps := t.2 }) x

/-- A step passes: the next begins. Under Viaduct-1 THRESHOLD passes at once; after ALIGN the lane maps stand, and the receive
codeword count and the receivers' precoder states start at zero (R241, R244, Table 7.5). -/
def State.stepPass (s : State) (sp : Fin 12) : State :=
  s.modSpan sp fun x =>
    let n := if x.train.step = 5 ∧ x.gen2 = false then 6 else x.train.step
    let y := { x with step := n + 1, train := { x.train with step := n + 1 } }
    if n = 7 then
      let y := if x.st = 7 then y else { y with rx := y.rx.without x.train.bad, tx := y.tx.without x.train.txBad }
      { y with cwRx := 0, lock := false, goodRun := 0, badRun := 0,
               lane := y.lane.map fun l => { l with preRx := 0, prePeer := 0 } }
    else if n = 8 then { y with train := { y.train with lockAt := some s.now } }
    else y

/-- The lanes that a step of training measures: those in use that have not failed; in a fast resume, those of the kept map. -/
def Span.measured (x : Span) : List (Fin 5) :=
  (List.finRange 5).filter fun p =>
    if x.st = 7 then x.rx.lanes.contains p.val
    else (decide (p.val < 4) || x.rx.spare.isSome) && !x.train.bad.contains p.val

/-- A lane meets the condition of its step (Table 7.5): an eye opens, its width, its height, its place among the lanes. -/
def Training.passes (t : Training) (r : StepResult) (gen2 : Bool) (p : Fin 5) : Bool :=
  let eye := fun (c : Taps → Bool) => (r.taps.find? (·.1 == p)).any fun e => c e.2
  match t.step with
  | 4 => eye fun e => e.eyeW != 0 && e.eyeH != 0
  | 5 => eye fun e => decide (8 ≤ e.eyeW.toNat)
  | 6 => !gen2 || eye fun e => decide (8 ≤ e.eyeH.toNat)
  | 7 => t.aligned.contains p.val && (r.skew.find? (·.1 == p)).any fun e => decide (e.2 ≤ 64)
  | _ => true

/-- What concerns the whole direction is met: CK locked, or 1,024 clean codewords after codeword lock. -/
def Training.directionOk (t : Training) (r : StepResult) : Bool := match t.step with
  | 1 | 3 => r.ckLock
  | 8 => t.lockPass
  | _ => true

/-- The taps and deskew that a step found. -/
def Span.stepTaps (x : Span) (r : StepResult) : Span :=
  let y := if x.train.step = 7 then r.skew.foldl (fun (y : Span) e => y.modLane e.1.val fun l => { l with deskew := min e.2 64 }) x
    else x.setTaps r.taps
  if 4 ≤ x.train.step ∧ x.train.step ≤ 6 then { y with lane := y.lane.map fun l => { l with sweeps := l.sweeps.inc } } else y

/-- A training step's window ends (R250, R251). -/
def State.stepEnd (s : State) (sp : Fin 12) (r : StepResult) : State :=
  let x := s.spans[sp]
  let t := x.train
  let fail := s.modSpan sp fun x => { x with train := { x.train with failed := some (x.train.failed.getD x.train.step) } }
  let found := (x.measured.filter fun p => !t.passes r x.gen2 p).map (·.val)
  if x.st = 7 then
    (if found.isEmpty && t.directionOk r && t.step != 9 then (s.modSpan sp fun x => x.stepTaps r).stepPass sp else s)
  else if t.failed.isSome then s
  else if t.step = 2 then
    (if t.ready = true ∧ (match t.peer with
      | some f => f.ready
      | none => false) = true then s else fail)
  else if t.step = 9 then fail
  else if t.step ≤ 3 ∨ t.step = 8 then (if t.directionOk r then s.stepPass sp else fail)
  else
    let bad := t.bad ++ found
    let s := s.modSpan sp fun x => { x.stepTaps r with train := { x.train with bad := bad } }
    if 2 ≤ bad.length ∨ (bad ≠ [] ∧ x.rx.spare.isNone) then s.failAttempt sp 2 else s.stepPass sp

/-- A HELLO reaches a span (R200, R250). -/
def State.helloBlock (s : State) (sp : Fin 12) (h : Hello) : State :=
  let x := s.spans[sp]
  let l := s.links[sp]
  if l.st = 2 then State.timeSelect (s.modLink sp fun l => { l with peer := some h })
  else if (x.st = 2 ∨ x.st = 7) ∧ x.train.step = 9 ∧ l.cfg.linkEn = true ∧ x.cfg.mode = 1 then s.linkUp sp h
  else s

/-! ### Rotation (R257) -/

/-- A rotation is abandoned: the spare returns to idle; once the lane has moved, the lane it left is the spare. -/
def State.abandonRotation (s : State) (sp : Fin 12) : State :=
  match s.spans[sp].rotation with
  | none => s
  | some r => s.modSpan sp fun x =>
      { x with rotation := none, ctl := none, rotationsAbandoned := x.rotationsAbandoned.inc,
               rx := if 6 ≤ r.phase then { x.rx with spare := some r.from_ } else x.rx }

/-- A rotation, gap or sleep is in progress on a span (R272). -/
def Span.calBusy (x : Span) : Bool :=
  x.rotation.isSome || x.gapRx.isSome || x.gapTx.isSome || x.sleepDue || x.ctl.isSome || x.txPhase != 0

/-- The spare of the receive direction is checked for a test pattern: rotation is suspended (R263). -/
def Span.spareTested (x : Span) : Bool := match x.rx.spare with
  | some k => if h : k < 5 then x.lane[k].check != 0 else false
  | none => false

/-- A generator drives the spare of the transmit direction: rotation of that direction is suspended (R263). -/
def Span.spareDriven (x : Span) : Bool := match x.tx.spare with
  | some k => if h : k < 5 then x.lane[k].gen != 0 else false
  | none => false

/-- Begin a rotation of a logical lane: SPARE_ON (R257 step 1). -/
def State.beginRotation (s : State) (sp : Fin 12) (j : Nat) : State :=
  let x := s.spans[sp]
  match x.rx.spare with
  | none => s
  | some k =>
    if x.rotation.isSome ∨ x.spareTested = true ∨ s.links[sp].st ≠ 2 ∨ x.ctl.isSome then s
    else
      (s.modSpan sp fun x => { x with rotation := some ⟨j, x.rx.physical j, k, 1, 0, 0⟩, rotatedAt := s.now,
                                      needs := x.needs.filter (· != x.rx.physical j) }).laneAsk sp 1
        { laneCtl0 with logical := BitVec.ofNat 8 j, physical := BitVec.ofNat 8 k }

/-- Ask for a calibration gap (R259); an engine that faces a receiver waits for the frame's RETURN (R260). -/
def State.askGap (s : State) (sp : Fin 12) : State :=
  let x := s.spans[sp]
  if x.gapRx.isSome ∨ x.ctl.isSome ∨ s.links[sp].st ≠ 2 then s
  else
    let s := s.modSpan sp fun x => { x with gapRx := some (.wait (lastFrame s.grid.frame) false), needs := [] }
    match s.links[sp].peer with
    | some h => if h.engine then s.laneAsk sp 6 laneCtl0 else s
    | none => s

/-- The calibration that a lane waits for begins, where nothing is in progress: a rotation of the lane, or a gap (R257, R259). -/
def State.nextCalibration (s : State) (sp : Fin 12) : State :=
  let x := s.spans[sp]
  if s.links[sp].st ≠ 2 ∨ x.rotation.isSome ∨ x.ctl.isSome ∨ x.gapRx.isSome ∨ x.gapTx.isSome ∨ x.sleepDue = true then s
  else match x.needs.filterMap x.rx.logicalOf with
    | [] => s
    | j :: _ => if x.rx.spare.isSome then s.beginRotation sp j else s.askGap sp

/-- A mapped lane needs calibration: at once, or after what is in progress (R256, R257). -/
def State.needCalibration (s : State) (sp : Fin 12) (p : Nat) : State :=
  if s.links[sp].st = 2 ∧ (s.spans[sp].rx.logicalOf p).isSome = true then
    (s.modSpan sp fun x => { x with needs := if x.needs.contains p then x.needs else x.needs ++ [p] }).nextCalibration sp
  else s

/-- The measured eye centre of a lane lies CAL_TRIM_STEPS or more from its taps; Viaduct-1 has one threshold (R245, R256). -/
def Span.eyeMoved (x : Span) (p : Fin 5) (m : Taps) : Bool :=
  let t := x.lane[p].taps
  let far := fun (a b : Int) => decide (x.cfg.calTrim.toNat ≤ (a - b).natAbs)
  far m.delay.toNat t.delay.toNat || far m.mid.toInt t.mid.toInt ||
  (x.gen2 && (far m.lo.toInt t.lo.toInt || far m.hi.toInt t.hi.toInt))

/-- Bits in a second on each lane of a span. -/
def Span.laneBits (x : Span) : Nat := (if x.gen2 then 2 else 1) * x.rate.toNat * 1000000

/-- Bit errors corrected in the last second on the lanes that `f` picks. -/
def Span.bitErrors (x : Span) (now : Nat) (f : Nat → Bool) : Nat :=
  ((x.errLog.filter fun e => f e.2.1 && decide (now < e.1 + 1000000000)).map fun e => e.2.2).sum

/-- A pre-FEC bit error ratio over the last second in parts per 10^12, of `lanes` lanes (Table 7.11). -/
def Span.ppt (x : Span) (errors lanes : Nat) : Nat := min (errors * 1000000000000 / (lanes * x.laneBits)) 0xFFFFFFFF

/-- A span receiver's RETURN has come: the engine places the gap of its direction (R260). -/
def State.receiverGap (s : State) (sp : Fin 12) : State :=
  match s.spans[sp].gapRx, s.links[sp].peer with
  | some (.wait _ _), some h =>
    if h.engine ∨ s.spans[sp].ctl.isSome then s
    else
      let cw := s.spans[sp].cwRx + BitVec.ofNat 32 (1 + Config.cwLead s.fresh)
      (s.draw.modSpan sp fun x => { x with gapRx := some (.placed cw) }).laneAsk sp 6 { laneCtl0 with startCw := cw }
  | _, _ => s

/-- The next step of a rotation once its request is acknowledged (R257). -/
def State.rotationAck (s : State) (sp : Fin 12) (r : Rotation) (op : Nat) (cw : U32) : State :=
  let put := fun (r : Rotation) => s.modSpan sp fun x => { x with rotation := some r }
  if op = 1 then put { r with phase := 2, sweepEnd := s.now + 2000000 }
  else if op = 2 then put { r with phase := 4, c1 := cw }
  else if op = 3 then put { r with phase := 7, sweepEnd := s.now + 2000000 }
  else s

/-- A 2 ms sweep ends (R257 steps 2 and 4). -/
def State.sweepDone (s : State) (sp : Fin 12) (t : Taps) : State :=
  match s.spans[sp].rotation with
  | none => s
  | some r =>
    if s.cycExpired r.sweepEnd = false then s
    else
      let lane := if r.phase = 2 then r.dest else r.from_
      let s := s.modSpan sp fun x => x.modLane lane fun l => { l with taps := t, sweeps := l.sweeps.inc }
      let m := { laneCtl0 with logical := BitVec.ofNat 8 r.logical, physical := BitVec.ofNat 8 lane }
      if r.phase = 2 then (s.modSpan sp fun x => { x with rotation := some { r with phase := 3 } }).laneAsk sp 2 m
      else if r.phase = 7 then
        (s.modSpan sp fun x =>
          { x with rotation := none, rotations := x.rotations.inc, lastRotated := r.logical,
                   rx := { x.rx with spare := some r.from_ } }).laneAsk sp 4 m
      else s

/-- The comparison of 1,024 duplicated codewords ends (R257 step 2). -/
def State.compareDone (s : State) (sp : Fin 12) (equal : Bool) : State :=
  match s.spans[sp].rotation with
  | none => s
  | some r =>
    if r.phase ≠ 4 ∨ (s.spans[sp].cwRx - r.c1).toInt < 1024 then s
    else if equal then s.modSpan sp fun x => { x with rotation := some { r with phase := 5 } }
    else (s.abandonRotation sp).laneAsk sp 4 { laneCtl0 with physical := BitVec.ofNat 8 r.dest }

/-- Codeword c1 + 1,088: the receiver takes the lane from the spare (R257 step 3). -/
def State.swapLane (s : State) (sp : Fin 12) : State :=
  match s.spans[sp].rotation with
  | none => s
  | some r =>
    if r.phase ≠ 5 ∨ (s.spans[sp].cwRx - r.c1).toInt < 1088 then s
    else
      (s.modSpan sp fun x =>
        { x with rotation := some { r with phase := 6 },
                 rx := { x.rx with lanes := x.rx.lanes.set r.logical r.dest, spare := none } }).laneAsk sp 3
          { laneCtl0 with logical := BitVec.ofNat 8 r.logical, physical := BitVec.ofNat 8 r.from_ }

/-! ### Lane faults (R254, R255) -/

/-- E075. -/
def State.raiseLane (s : State) (sp : Fin 12) (dir lane use : Nat) : State :=
  s.raiseF 75 [fN 0 1 sp.val, fN 1 1 dir, fN 2 1 lane, fN 3 1 use]

/-- A lane is marked failed. -/
def LaneMap.fail (m : LaneMap) (p : Nat) : LaneMap := { m with failed := p :: m.failed }

/-- A mapped lane of the receive direction fails while the link is up (R255, Table 7.8). -/
def State.laneFault (s : State) (sp : Fin 12) (j p : Nat) : State :=
  let x := s.spans[sp]
  let swapped := match x.rotation with
    | some r => r.phase == 5 && r.logical == j
    | none => false
  if swapped then
    (s.modSpan sp fun x => { x with rx := x.rx.toSpare j, rotation := none, ctl := none }).raiseLane sp 0 p j
  else
    let s := s.abandonRotation sp
    match s.spans[sp].rx.spare with
    | none => ((s.modSpan sp fun x => { x with rx := x.rx.fail p }).raiseLane sp 0 p j).linkDown sp 1
    | some k =>
      ((s.modSpan sp fun x => { x with rx := { x.rx.fail p with spare := none } }).raiseLane sp 0 p j).laneAsk
        sp 5 { laneCtl0 with logical := BitVec.ofNat 8 j, physical := BitVec.ofNat 8 k }

/-- Loss of signal or of lock on a data lane, or on CK (5), of a span that is up (R254, R255); a lane that has failed already
fails no second time. -/
def State.laneLost (s : State) (sp : Fin 12) (p : Nat) : State :=
  let x := s.spans[sp]
  if p = 5 then s.linkDown sp 1
  else if x.rx.failed.contains p then s
  else match x.rx.logicalOf p with
    | some j => s.laneFault sp j p
    | none =>
      let spare := x.rx.spare == some p || (match x.rotation with
        | some r => r.from_ == p
        | none => false)
      if spare then
        ((s.abandonRotation sp).modSpan sp fun x =>
          { x with rx := { x.rx.fail p with spare := none } }).raiseLane sp 0 p 4
      else s

/-- Mark loss of signal (`los`) or of lock on a lane. -/
def Span.markLost (x : Span) (p : Nat) (los : Bool) : Span :=
  if p = 5 then (if los then { x with ckLos := true } else { x with ckLol := true })
  else x.modLane p fun l => if los then { l with los := true, losEvents := l.losEvents.inc }
    else { l with lol := true, lolEvents := l.lolEvents.inc }

/-- Data lanes without signal. -/
def Span.losCount (x : Span) : Nat := (x.lane.toList.filter (·.los)).length

/-! ### Lane control received (R255, R257, R259, R262, R267) -/

/-- A sleep is taken up: both directions stop once the answer has left (R267). -/
def State.acceptSleep (s : State) (sp : Fin 12) (m : LaneCtl) : State :=
  (s.modSpan sp fun x =>
    { x with sleep := some (m.wakeS * 1000000000 + m.wakeNs, m.guardUs.toNat * 1000), sleepDue := true, sleepAck := true,
             ctl := none }).laneAnswer sp true m m.startCw

/-- A SLEEP request; where two cross, the one from the lower NODE_ID stands (R267). -/
def State.sleepRequest (s : State) (sp : Fin 12) (m : LaneCtl) : State :=
  let x := s.spans[sp]
  let own := match x.ctl with
    | some c => c.op == 7
    | none => false
  let peer : U32 := match s.links[sp].peer with
    | some h => h.node
    | none => 0
  if own then (if s.tre.nodeId.toNat < peer.toNat then s else s.acceptSleep sp m)
  else if x.rotation.isSome || x.gapRx.isSome || x.gapTx.isSome || x.sleepDue || x.txPhase != 0 then s.laneAnswer sp false m m.startCw
  else s.acceptSleep sp m

/-- A request of the peer about the transmit direction: `ok` where it does not conflict; then `f`, and an ACK with a
START_CW where `cw`. -/
def State.txRequest (s : State) (sp : Fin 12) (m : LaneCtl) (ok cw : Bool) (f : U32 → Span → Span) : State :=
  if ok && !s.spans[sp].sleepDue && s.spans[sp].gapTx.isNone then
    let c := if cw then s.chooseCw sp else m.startCw
    ((if cw then s.draw else s).modSpan sp (f c)).laneAnswer sp true m c
  else s.laneAnswer sp false m m.startCw

/-- A LANE_FAULT request: the transmitting end moves the lane onto the spare (R255). -/
def State.txLaneFault (s : State) (sp : Fin 12) (m : LaneCtl) : State :=
  let x := s.spans[sp]
  let j := m.logical.toNat
  let ok := decide (j < 4) && x.tx.spare == some m.physical.toNat
  let s' := s.txRequest sp m ok true fun c x =>
    { x with tx := { x.tx with spare := none }, txMove := some ⟨j, m.physical.toNat, c, false⟩, txPhase := 0, txDup := none }
  if ok && !x.sleepDue && x.gapTx.isNone then s'.raiseLane sp 1 (x.tx.physical j) j else s'

/-- A CAL_GAP request: the gap is placed by the sender's START_CW, or waits for a frame gap (R259, R260). -/
def State.txCalGap (s : State) (sp : Fin 12) (m : LaneCtl) : State :=
  let x := s.spans[sp]
  if x.txPhase ≠ 0 ∨ x.sleepDue ∨ x.gapTx.isSome then s.laneAnswer sp false m m.startCw
  else
    let g : Gap := if m.startCw = 0xFFFFFFFF then .wait (lastFrame s.grid.frame) false else .placed m.startCw
    ((s.modSpan sp fun x => { x with gapTx := some g, gapTag := m.tag }).laneAnswer sp true m m.startCw).placeGap sp

/-- An ACK answers the outstanding request, or gives the START_CW of a gap that waited (R259, R262). -/
def State.laneAck (s : State) (sp : Fin 12) (m : LaneCtl) : State :=
  let x := s.spans[sp]
  match x.ctl with
  | some c =>
    if c.msg.tag ≠ m.tag then s
    else
      let s := s.modSpan sp fun x => { x with ctl := none }
      if c.op = 5 then s.modSpan sp fun x =>
        Span.moveRx { x with rxMove := some ⟨c.msg.logical.toNat, c.msg.physical.toNat, m.startCw, false⟩ }
      else if c.op = 4 then s.nextCalibration sp
      else if c.op = 6 then
        (if m.startCw = 0xFFFFFFFF then s else s.modSpan sp fun x => { x with gapRx := some (.placed m.startCw) })
      else if c.op = 7 then
        s.modSpan sp fun x =>
          { x with sleep := some (c.msg.wakeS * 1000000000 + c.msg.wakeNs, c.msg.guardUs.toNat * 1000), sleepDue := true }
      else match x.rotation with
        | some r => s.rotationAck sp r c.op m.startCw
        | none => s
  | none =>
    match x.gapRx with
    | some (.wait _ _) => if m.startCw = 0xFFFFFFFF then s else s.modSpan sp fun x => { x with gapRx := some (.placed m.startCw) }
    | _ => s

/-- The operation of a request is given up: a gap, or a rotation, whose spare returns to idle (R257, R262). -/
def State.giveUp (s : State) (sp : Fin 12) (c : CtlReq) : State :=
  let s := if c.op = 6 then s.modSpan sp fun x => { x with gapRx := none } else s.abandonRotation sp
  let s := s.modSpan sp fun x => { x with ctl := none }
  if c.op = 2 then s.laneAsk sp 4 { laneCtl0 with physical := c.msg.physical } else s.nextCalibration sp

/-- A NAK refuses the outstanding request. -/
def State.laneNak (s : State) (sp : Fin 12) (m : LaneCtl) : State :=
  match s.spans[sp].ctl with
  | some c => if c.msg.tag ≠ m.tag then s else s.giveUp sp c
  | none => s

/-- A request has had no answer for 20 us: it is sent once more, then abandoned (R262). -/
def State.laneTimeout (s : State) (sp : Fin 12) : State :=
  match s.spans[sp].ctl with
  | none => s
  | some c =>
    if s.cycExpired (c.sentAt + 20000) = false then s
    else if c.again then (s.modSpan sp fun x => { x with ctlAbandoned := x.ctlAbandoned.inc }).giveUp sp c
    else (s.modSpan sp fun x => { x with ctl := some { c with sentAt := s.now, again := true } }).laneSend sp c.op c.msg

/-! ### Gaps, sleep and health (R259, R260, R267 to R270) -/

/-- A gap begins at its START_CW: ALIGN frames are sent, or new taps applied and codeword lock sought again (R241, R259). -/
def State.gapStart (s : State) (sp : Fin 12) (tx : Bool) (taps : List (Fin 5 × Taps)) : State :=
  let x := s.spans[sp]
  let g := if tx then x.gapTx else x.gapRx
  let at_ := if tx then x.cwTx else x.cwRx
  match g with
  | some (.placed cw) =>
    if (at_ - cw).toInt < 0 then s
    else
      let s := s.modSpan sp fun x =>
        let y := { x with calGaps := x.calGaps.inc }
        if tx then { y with gapTx := some (.open_ s.now), lane := y.lane.map fun l => { l with pre := 0 } }
        else { y.setTaps taps with
          gapRx := some (.open_ s.now), lock := false, goodRun := 0, badRun := 0,
          lane := (y.setTaps taps).lane.map fun l => { l with preRx := 0, prePeer := 0 } }
      (if tx then s.showTx sp else s).raiseF 76 [fN 0 1 sp.val, fN 1 1 1]
  | _ => s

/-- A calibration waits for a gap longer than CAL_GAP_WAIT frames (R260). -/
def State.gapDefer (s : State) (sp : Fin 12) : State :=
  let x := s.spans[sp]
  let late := fun (f : U32) => decide ((x.cfg.calGapWait.toNat : Int) ≤ sdiff32 (lastFrame s.grid.frame) f)
  match x.gapTx, x.gapRx with
  | some (.wait f false), _ =>
    if late f then (s.modSpan sp fun x => { x with gapTx := some (.wait f true) }).raiseF 76 [fN 0 1 sp.val, fN 1 1 2] else s
  | _, some (.wait f false) =>
    if late f then (s.modSpan sp fun x => { x with gapRx := some (.wait f true) }).raiseF 76 [fN 0 1 sp.val, fN 1 1 2] else s
  | _, _ => s

/-- Keystone reaches W - G: the span wakes into its fast resume (R268). -/
def State.spanWake (s : State) (sp : Fin 12) : State :=
  let x := s.spans[sp]
  match x.sleep with
  | none => s
  | some (w, g) =>
    if x.st ≠ 5 ∨ s.full + g < w then s
    else
      ((s.modSpan sp fun x =>
        { x with st := 7, wokeAt := s.now, downSince := s.now, alignSeen := false, step := 7, lock := false, goodRun := 0, cwTx := 0,
                 lane := x.lane.map (fun l => { l with pre := 0 }),
                 train := { t0 := s.now, step := 7, rAt := some s.now, cfg := x.train.cfg } }).linkState sp 1).showTx sp

/-- No ALIGN frame within 4 G of the wake: a full training attempt (R269). -/
def State.wakeDrift (s : State) (sp : Fin 12) : State :=
  let x := s.spans[sp]
  match x.sleep with
  | none => s
  | some (_, g) =>
    if x.st ≠ 7 ∨ x.alignSeen = true ∨ s.fwExpired (x.wokeAt + 4 * g) = false then s
    else
      let s := (s.modSpan sp fun x => { x with st := 1, sleep := none, wakeDrifts := x.wakeDrifts.inc }).raiseF 74 [fN 0 1 sp.val]
      s.beginAttempt sp

/-- The span carries a route of the active image. -/
def State.carriesRoute (s : State) (sp : Fin 12) : Bool :=
  match s.outImage with
  | none => false
  | some im => im.routes.any fun r => (r.kind == 1 || r.kind == 6) && r.port.toNat == sp.val

/-- The link has been down longer than HEALTH_DOWN_US under a route, other than asleep or in MODE 0 or 2 (R270). -/
def State.downTooLong (s : State) (sp : Fin 12) : Bool :=
  let x := s.spans[sp]
  s.carriesRoute sp && s.links[sp].st != 2 && x.st != 5 && x.cfg.mode == 1 &&
  s.fwExpired (x.downSince + x.cfg.healthDownUs.toNat * 1000)

/-- A SPAN_SET change of MODE (R273). -/
def State.spanMode (s : State) (sp : Fin 12) (old : Nat) : State :=
  let m := s.spans[sp].cfg.mode
  if m = old then s
  else
    let s := s.linkDown sp 5
    ((s.modSpan sp fun x =>
      { x with st := if m = 0 then 0 else if m = 2 then 6 else 1, nextAttempt := s.now, quietUntil := if m = 1 then x.quietUntil else 0,
               sleep := none, downSince := s.now,
               healthAt := if x.healthFail then s.now else x.healthAt }).linkState sp 0).showTx sp

end Sys2Proof.Machine
end

