-- ==== Sys2Proof/Machine/LatchOps.lean ====
section
/-! DEFINITION. Machine/LatchOps.lean: latch domains: members, root and issuer, LATCH issued and accepted, partition and
rejoin (R215 to R220, R227 to R229). -/
namespace Sys2Proof.Machine
open Sys2Proof

/-! ### Root and members (R215, R216, R229) -/

/-- The other members that take part in the LATCH of frame `m`: from MERGE_FRAME on, those of the absorbed half too. For the
first frame of a run they are those held at its start, with their K_LOCAL, but for any dropped since (R218, log entry 119). -/
def State.othersFor (s : State) (m : U32) : List Member :=
  let r := s.rootFor m
  let roots := r :: (s.tre.merges.filter fun g => g.survivor == r && decide (0 ≤ sdiff32 m g.frame)).map (·.absorbed)
  let now := s.tre.heard.filter fun e => roots.contains e.root && e.id != s.memberId
  if s.grid.startsAt m then s.tre.startSet.filter fun e => now.any fun x => x.id == e.id else now

/-- This engine issues the LATCH of frame `m` (R216, R394). -/
def State.issues (s : State) (m : U32) : Bool := s.holdsFrame m && s.rootFor m == s.memberId

/-- K = 4 plus the largest K_LOCAL, as signed values, of the engine's own `k` and the other members' (R217, log entry 113). -/
def leadOf (k : U16) (ms : List Member) : U16 :=
  4 + ms.foldl (fun (k : U16) e => if k.slt e.kLocal then e.kLocal else k) k

/-- The cut-off lead of a domain of the members given (R217). -/
def State.domainLead (s : State) (ms : List Member) : U16 := leadOf s.tre.kLocal ms

/-- The lowest member becomes the root; the members of the domain go with it (R216, R220). -/
def State.fixRoot (s : State) : State :=
  let low := (s.others.map (·.id)).foldl (fun (r : U32) x => if x < r then x else r) s.memberId
  if low = s.rootId then s
  else
    let old := s.rootId
    let heard := s.tre.heard.map fun e : Member => if e.root = old then { e with root := low } else e
    let merges := s.tre.merges.filter fun g => g.survivor != old && g.absorbed != old
    State.timeSelect { s with tre.heard := heard, tre.root := low, tre.merges := merges, tre.absorbed := old :: s.tre.absorbed,
                              tre.elsewhere := s.tre.elsewhere.filter fun g => g.survivor != old && g.absorbed != old }

/-- The own member ID changes by `f`: an engine that has heard no other member carries it as ROOT_ID; where the ROOT_ID carried
names no member of the set any more, the lowest member of the set is the root (R216). A change of root raises DOMAIN_GEN and
E066 (R215). -/
def State.memberChange (s : State) (f : State → State) : State :=
  let old := s.rootId
  let s := f s
  let s := if s.memberIds.contains s.rootId then s else s.fixRoot
  if s.rootId = old then s.timeSelect else s.timeSelect.domainChange

/-- Drop the members that `p` picks: each drop of a member of the domain raises DOMAIN_GEN and E066; a pending merge whose
survivor is lost is discarded (R215, R220, R227, Table 6.14). -/
def State.dropMembers (s : State) (p : Member → Bool) : State :=
  let gone := s.tre.heard.filter p
  let s := { s with tre.merges := s.tre.merges.filter fun g => !(gone.any fun e => e.id == g.survivor),
                    tre.elsewhere := s.tre.elsewhere.filter fun g => !(gone.any fun e => e.id == g.survivor || e.id == g.absorbed) }
  gone.foldl (fun (s : State) e =>
    let ours := e.root == s.rootId
    let heard := s.tre.heard.filter fun x : Member => x.id != e.id
    let s := { s with tre.heard := heard }
    if ours then
      -- the root dropped leaves the rest of its domain with the lowest of them
      (if e.id = s.rootId then s.fixRoot else s).domainChange
    else s) s

/-! ### Merge and join (R228, R229) -/

/-- A frame was latched since the grid last started. -/
def Grid.hasLatched (g : Grid) : Bool := !g.latched.isEmpty

/-- E067 of a pair of roots. -/
def State.raiseMerge (s : State) (a b frame : U32) (kind : Nat) : State :=
  s.raiseF 67 [f32 0 (if a < b then a else b), f32 4 (if a < b then b else a), f32 8 frame, fN 12 1 kind]

/-- Every engine of two domains takes the lower root. -/
def State.takeRoot (s : State) (low high : U32) (gen : U16) : State :=
  let heard := s.tre.heard.map fun e : Member => if e.root = high then { e with root := low } else e
  State.timeSelect { s with tre.heard := heard, tre.root := low, tre.gen := gen, tre.absorbed := high :: s.tre.absorbed }

/-- A root is to be absorbed by a merge known to this engine, of its own domain or another, whose frame has not passed (R228). -/
def State.beingAbsorbed (s : State) (root : U32) : Bool :=
  s.tre.merges.any (fun g => g.absorbed == root) ||
  s.tre.elsewhere.any fun g => g.absorbed == root && decide (sdiff32 s.lastLatch g.frame < 0)

/-- Two domains that have latched no frame join at once (R228): E067 of KIND 2, E066 and a MEMBER flood. -/
def State.joinRoots (s : State) (low high : U32) (gen : U16) : State :=
  let s := (s.takeRoot low high gen).raiseMerge low high 0xFFFFFFFF 2
  let s := { s with tre.issuer := s.issuerNode, tre.startSet := s.others }
  s.raiseDomain.floodMember

/-- R228: another domain is seen through the MEMBER record of one of its members. That its grid has latched a frame shows in a
LATCH of its root heard since, or in a LAST_COMMIT past the first frame, which follows a LATCH (log entry 120). -/
def State.seeDomain (s : State) (e : Member) : State :=
  let own := s.rootId
  if s.tre.sawLinkUp = false ∨ s.tre.refused.contains e.root = true ∨
      (s.tre.merges.any fun g => g.survivor == e.root || g.absorbed == e.root) = true then s
  else if e.gridFp ≠ s.grid.fp.print ∨ e.running ≠ s.running then
    State.raiseMerge { s with tre.refused := e.root :: s.tre.refused } own e.root 0xFFFFFFFF 3
  else if s.tre.cfg.mergeEn = false then s
  else
    let low := if own < e.root then own else e.root
    let high := if own < e.root then e.root else own
    let gen := (if s.tre.gen < e.gen then e.gen else s.tre.gen) + 1
    let theirs := s.tre.latchRoots.contains e.root ||
      (e.lastCommit != 0xFFFFFFFF#32 && decide (0 < sdiff32 e.lastCommit s.grid.fp.n0))
    if !s.running || (!s.grid.hasLatched && !theirs) then s.joinRoots low high gen
    else if own = low ∧ s.isIssuer = true then
      let last := if s.grid.hasLatched then s.lastLatch
        else (s.tre.heard.filter (·.root == e.root)).foldl (fun (f : U32) x =>
          if x.lastCommit ≠ 0xFFFFFFFF#32 ∧ 0 < sdiff32 x.lastCommit f then x.lastCommit else f) e.lastCommit
      let m := last + BitVec.ofNat 32 (s.grid.v.l.toNat + 2)
      let s := { s with tre.merges := s.tre.merges ++ [(⟨low, high, m, gen⟩ : Merge)] }
      (s.flood 0x0004 (be 4 low.toNat ++ be 4 high.toNat ++ be 4 m.toNat ++ be 2 gen.toNat ++ be 2 0)).raiseMerge low high m 1
    else s

/-- The payload of MERGE (Table 6.5). -/
def parseMerge (p : List U8) : Merge :=
  ⟨BitVec.ofNat 32 (rdBE p 0 4), BitVec.ofNat 32 (rdBE p 4 4), BitVec.ofNat 32 (rdBE p 8 4), BitVec.ofNat 16 (rdBE p 12 2)⟩

/-- A MERGE arrives (R228): it concerns the survivor's and the absorbed half; one from a root being absorbed is discarded,
and so is a pending one whose survivor is now absorbed. One between two other domains is remembered, so that a MERGE from its
absorbed root is discarded here too (Table 6.14). -/
def State.mergeMsg (s : State) (g : Merge) : State :=
  if s.tre.cfg.mergeEn = false ∨ s.beingAbsorbed g.survivor = true ∨ s.tre.merges.contains g = true then s
  else
    let s := { s with tre.merges := s.tre.merges.filter fun x => x.survivor != g.absorbed }
    if s.rootId ≠ g.survivor ∧ s.rootId ≠ g.absorbed then
      { s with tre.elsewhere := g :: (s.tre.elsewhere.filter fun x => decide (sdiff32 s.lastLatch x.frame < 0)).take 63 }
    else State.raiseMerge { s with tre.merges := s.tre.merges ++ [g] } g.survivor g.absorbed g.frame 1

/-- The merges of MERGE_FRAME `m` take effect at its LATCH (R229). -/
def State.applyMerges (s : State) (m : U32) : State :=
  (s.tre.merges.filter fun g => decide (0 ≤ sdiff32 m g.frame)).foldl (fun (s : State) g =>
    let s := s.takeRoot g.survivor g.absorbed g.gen
    let s := { s with tre.merges := s.tre.merges.erase g, tre.absorbedLatch := [] }
    let s := { s with tre.issuer := s.issuerNode }
    (s.raiseMerge g.survivor g.absorbed g.frame 2).raiseDomain) s

/-! ### MEMBER (R215) -/

/-- The payload of MEMBER (Table 6.5). -/
def parseMember (p : List U8) (src : U32) (now : Nat) : Member × Bool :=
  let flags := rdBE p 20 4
  ({ id := BitVec.ofNat 32 (rdBE p 0 4), holder := src, root := BitVec.ofNat 32 (rdBE p 4 4),
     lastCommit := BitVec.ofNat 32 (rdBE p 8 4), gridFp := BitVec.ofNat 32 (rdBE p 12 4),
     kLocal := BitVec.ofNat 16 (rdBE p 16 2), gen := BitVec.ofNat 16 (rdBE p 18 2), running := flags / 4 % 2 == 1,
     heardAt := now }, flags % 2 == 1)

/-- A MEMBER record confirms or adds a member; one of another root may show another domain (R215, R228). A standby's record
confirms its member and leaves what the engine holding control reported. -/
def State.memberMsg (s : State) (src : U32) (p : List U8) : State :=
  let (e, control) := parseMember p src s.now
  if e.id = s.memberId then s.issuerChange
  else
    let old := s.tre.heard.find? (·.id == e.id)
    let e := if control then e else match old with
      | some o => { e with holder := o.holder, lastCommit := o.lastCommit, kLocal := o.kLocal }
      | none => { e with holder := 0 }
    let e := if s.tre.absorbed.contains e.root then { e with root := s.rootId } else e
    let was := match old with
      | some o => o.root == s.rootId
      | none => false
    let heard := e :: s.tre.heard.filter fun x : Member => x.id != e.id
    let s := { s with tre.heard := heard }
    if e.root = s.rootId then
      if was then s.issuerChange else (if e.id < s.rootId then s.fixRoot else s).domainChange
    else
      let s := if was then (if e.id = s.rootId then s.fixRoot else s).domainChange else s
      s.seeDomain e

/-! ### REPORT (R217, R218) -/

/-- The full time nearest now that has the short time given. -/
def State.extend (s : State) (short : U32) : Nat := ((s.full : Int) + sdiff32 short s.short).toNat

/-- Reports are kept for the frames not yet latched. -/
def State.keepReport (s : State) (m member : U32) (t : Nat) : State :=
  let old := s.tre.reports.filter fun r => !(r.1 == m && r.2.1 == member) &&
    (decide (-8 ≤ sdiff32 r.1 s.grid.nextLatch) || s.tre.missed.contains r.1)
  { s with tre.reports := old ++ [(m, member, t)] }

/-- The period of MEMBER_TIMEOUT_FRAMES, ns (R215). -/
def State.memberTimeoutNs (s : State) : Nat := s.tre.cfg.memberTimeoutFrames.toNat * s.grid.v.period

/-- PARTITION_WAIT_US in ns. -/
def State.partitionNs (s : State) : Nat := s.tre.cfg.partitionWaitUs.toNat * 1000

/-- The deadline falls in the step of 1 us in progress, or before it (R6). -/
def State.stepReached (s : State) (dl : Nat) : Bool :=
  decide (dl ≤ s.now) || decide ((s.full + (dl - s.now)) / 1000 = s.full / 1000)

/-- A REPORT of a member arrives; in the step in which the member would be dropped it keeps it (Table 6.14). -/
def State.reportMsg (s : State) (p : List U8) : State :=
  if rdBE p 12 4 % 2 = 0 then s
  else
    let id := BitVec.ofNat 32 (rdBE p 8 4)
    let s := s.keepReport (BitVec.ofNat 32 (rdBE p 0 4)) id (s.extend (BitVec.ofNat 32 (rdBE p 4 4)))
    let heard := s.tre.heard.map fun e : Member =>
      if e.id ≠ id then e
      else
        let e := if s.stepReached (e.heardAt + s.memberTimeoutNs) then { e with heardAt := s.now } else e
        match e.unconfirmed with
        | some t => if s.stepReached (t + s.partitionNs) then { e with unconfirmed := none } else e
        | none => e
    { s with tre.heard := heard }

/-! ### The house override's release (R97) -/

/-- REPLACE for a span receiver of every frame sent and not latched. -/
def State.replaceSpan (s : State) (im : Image) (route : Nat) (r : Route) (un : List U32) (of : U32 → List (Nat × U8)) :
    State :=
  let base := lastFrame (s.dest route).lastSent
  let s := un.reverse.foldl (fun (s : State) m =>
    s.sendUpdate r.address m base { replace := true } (im.slotSpace route) (cellRuns im route (of m))) s
  match un with
  | m :: _ => s.modDest route fun d => { d with sentSlots := patch (of m) d.sentSlots }
  | [] => s

/-- The slots of fixtures whose group is in `gone`. -/
def Image.groupSlots (im : Image) (route : Nat) (gone : U32) : List Nat :=
  (im.fixturesOf route).flatMap fun e =>
    if inHouse gone e.2 then match im.profileOf e.2 with
      | some p => (List.range p.footprint).map (e.2.destOffset + ·)
      | none => []
    else []

/-- At the first LATCH after a release, the frames not yet latched carry rendered values again (R97). -/
def State.houseReturn (s : State) : State :=
  let h := s.sh.house
  if h.release = false then s
  else
    let gone := h.applied &&& ~~~h.mask
    let s := { s with sh.house := { h with applied := h.applied &&& h.mask, release := false } }
    match s.outImage with
    | none => s
    | some im =>
      let un := s.unlatched
      let cells := fun (p : Packed) => (im.groupSlots p.route gone).map fun i => (i, p.rendered.getD i (p.slots.getD i 0))
      let before := s.tre.packed
      let packed := before.map fun p =>
        if un.contains p.frame then { p with slots := patch (cells p) p.slots } else p
      let s := { s with tre.packed := packed }
      im.routes.zipIdx.foldl (fun (s : State) r =>
        if r.1.kind = 1#8 ∧ s.holds = true ∧ (im.groupSlots r.2 gone).isEmpty = false then
          s.replaceSpan im r.2 r.1 un fun m => match before.find? fun p => p.frame == m && p.route == r.2 with
            | some p => cells p
            | none => []
        else s) s

/-! ### LATCH (R218 to R220, Table 6.8) -/

/-- The fields of a LATCH. -/
structure Latch where
  frame : U32
  pShort : U32
  slip : Nat
  root : U32
  takeover : U32
  gen : U16
  k : U16
  members : U16
  copy : U8
  epoch : U32
  deriving DecidableEq, Repr

/-- The payload of a LATCH (Table 6.8). -/
def Latch.bytes (l : Latch) : List U8 :=
  be 4 l.frame.toNat ++ be 4 l.pShort.toNat ++ be 4 (l.slip % 2 ^ 24) ++ be 4 l.root.toNat ++ be 4 l.takeover.toNat ++
  be 2 l.gen.toNat ++ be 2 l.k.toNat ++ be 2 l.members.toNat ++ be 1 l.copy.toNat ++ be 1 0 ++ be 4 l.epoch.toNat

/-- The LATCH a payload spells. -/
def Latch.parse (p : List U8) : Latch :=
  { frame := BitVec.ofNat 32 (rdBE p 0 4), pShort := BitVec.ofNat 32 (rdBE p 4 4), slip := rdBE p 8 4 % 2 ^ 24,
    root := BitVec.ofNat 32 (rdBE p 12 4), takeover := BitVec.ofNat 32 (rdBE p 16 4), gen := BitVec.ofNat 16 (rdBE p 20 2),
    k := BitVec.ofNat 16 (rdBE p 22 2), members := BitVec.ofNat 16 (rdBE p 24 2), copy := BitVec.ofNat 8 (rdBE p 26 1),
    epoch := BitVec.ofNat 32 (rdBE p 28 4) }

/-- LATCH over IP (R338, R339). -/
def State.latchIp (s : State) (l : Latch) : State :=
  if l.copy ≠ 0 ∨ s.holds = false then s
  else
    let body := be 2 0x564C ++ be 1 1 ++ be 1 0 ++ be 4 s.tre.nodeId.toNat ++ l.bytes
    (List.finRange 4).foldl (fun (s : State) (n : Fin 4) =>
      let c : EthCfg := s.net.eth[n].cfg
      if c.latchGroup = 0 then s else s.ethUdp n 1 c.latchGroup (Config.srcPort 1) c.latchPort body) s

/-- Slip events (R51): the first frame with a slip, the ceiling, and the frame at which slip returns to zero. -/
def State.slipEvents (s : State) (m : U32) (slip : Nat) : State :=
  let data := [f32 0 m, fN 4 3 slip]
  match s.grid.slipRun with
  | none =>
    if slip = 0 then s
    else
      let s := State.raiseF { s with grid.slipRun := some slip, grid.ceilRaised := false } 20 data
      if s.grid.v.ceil.toNat * 256 < slip then State.raiseF { s with grid.ceilRaised := true } 21 data else s
  | some peak =>
    if slip = 0 then State.raiseF { s with grid.slipRun := none, grid.ceilRaised := false } 22 [f32 0 m, fN 4 3 peak]
    else
      let s := { s with grid.slipRun := some (max peak slip) }
      if s.grid.v.ceil.toNat * 256 < slip ∧ s.grid.ceilRaised = false then
        State.raiseF { s with grid.ceilRaised := true } 21 data
      else s

/-- R219: the engine presents on a LATCH of the root it follows, or whose TAKEOVER_ROOT is the root under which it committed
the frame. -/
def State.follows (s : State) (l : Latch) : Bool :=
  l.root == s.rootFor l.frame || (l.takeover != 0 && s.committedRoot l.frame == some l.takeover)

/-- A frame of the grid that is running and not past an accepted stop (R66). -/
def State.presents (s : State) (m : U32) : Bool :=
  s.running && (match s.grid.stopAt with
    | some a => decide (sdiff32 m a < 0)
    | none => true)

/-- The frames of a run that a LATCH of frame `m` passes over, oldest first: committed here, their LATCH not received (R220). -/
def State.passedOver (s : State) (m : U32) : List U32 :=
  (s.tre.committedUnder.map (·.1)).reverse.filter fun x =>
    decide (0 ≤ sdiff32 x s.grid.nextLatch) && decide (sdiff32 x m < 0)

/-- A LATCH is issued or received: the frame has the domain's slip, and K follows (R50, R217, R219). A second LATCH of a
frame is ignored. -/
def State.acceptLatch (s : State) (l : Latch) : State :=
  let s := { s with tre.latchRoots := if s.tre.latchRoots.contains l.root then s.tre.latchRoots else l.root :: s.tre.latchRoots }
  let s := if s.tre.merges.any fun g => g.absorbed == l.root && g.survivor == s.rootId then
      { s with tre.absorbedLatch := (l.frame, l.slip) :: s.tre.absorbedLatch }
    else s
  if s.follows l = false ∨ s.presents l.frame = false ∨ (s.tre.latches.any fun e => e.1 == l.frame) = true then s
  else
    let s := s.houseReturn
    let next := if sdiff32 l.frame s.grid.nextLatch < 0 then s.grid.nextLatch else l.frame + 1
    let missed := (s.tre.missed ++ s.passedOver l.frame).filter fun x => x != l.frame && decide (sdiff32 l.frame x < 64)
    let s := { s with grid.latched := ((l.frame, l.slip) :: s.grid.latched).take 64,
                      grid.nextLatch := next, grid.kNext := some l.k, tre.missed := missed,
                      tre.latches := ((l.frame, l.pShort) :: s.tre.latches).take 64,
                      tre.latchedEver := some l.frame, tre.latchAt := ((l.frame, s.full) :: s.tre.latchAt).take 64 }
    (((s.slipEvents l.frame l.slip).latchIp l).applyMerges l.frame).plannedStep

/-- The LATCH of frame `m` may be issued (R218): a REPORT from every member, the LATCH of m - 1 sent, and at a merge the
absorbed root's LATCH of MERGE_FRAME - 1. -/
def State.latchReady (s : State) (m : U32) : Bool :=
  s.issues m && s.presents m &&
  (s.memberId :: (s.othersFor m).map (·.id)).all (fun id => s.tre.reports.any fun r => r.1 == m && r.2.1 == id) &&
  s.tre.merges.all fun g =>
    !(g.survivor == s.rootId && g.frame == m) || s.tre.absorbedLatch.any fun e => e.1 == m - 1

/-- The carried slip of the LATCH of frame `m`: at a merge, the larger of the two roots' slips (R229). -/
def State.latchCarried (s : State) (m : U32) : Nat :=
  let c := s.grid.carried m
  if s.tre.merges.any fun g => g.survivor == s.rootId && g.frame == m then
    max c (slipIn s.tre.absorbedLatch (m - 1) - s.grid.v.q.toNat)
  else c

/-- The LATCH of frame `m` as the issuer makes it now (R218, R220). -/
def State.makeLatch (s : State) (m : U32) : Latch :=
  let members := s.othersFor m
  let ids := s.memberId :: members.map (·.id)
  let last := (s.tre.reports.filter fun r => r.1 == m && ids.contains r.2.1).foldl (fun (t : Int) r => max t r.2.2) 0
  let slip := s.grid.slipAt m (s.latchCarried m) (max last ((s.full : Int) - s.grid.v.sigma 4))
  let root := s.rootFor m
  { frame := m, pShort := BitVec.ofInt 32 (s.grid.p m + (s.grid.vals m).sigma slip), slip := slip, root := root,
    takeover := match s.committedRoot m with
      | some r => if r = root then 0 else r
      | none => 0
    gen := match s.tre.merges.find? fun g => g.survivor == root && decide (0 ≤ sdiff32 m g.frame) with
      | some g => g.gen
      | none => s.tre.gen
    k := s.domainLead members, members := BitVec.ofNat 16 (members.length + 1), copy := 0,
    epoch := s.pier.epoch }

/-- The frame whose LATCH the issuer sends next: the oldest whose LATCH it has not received, if every REPORT of it is in hand
(R218, R220). -/
def State.latchFrame (s : State) : U32 := (s.tre.missed.find? s.latchReady).getD s.grid.nextLatch

/-- The issuer sends the LATCH of the next frame (R218). -/
def State.issueLatch (s : State) : State :=
  let m := s.latchFrame
  if s.latchReady m then
    let s := s.houseReturn
    let l := s.makeLatch m
    let s := s.flood 0x0001 l.bytes
    let s := if s.tre.cfg.latchRepeat then { s with tre.latchCopy := s.tre.latchCopy ++ [(m, Latch.bytes { l with copy := 1 }, s.now)] } else s
    s.acceptLatch l
  else s

/-- The engine commits a frame (R217): it tags it with the root it follows, and reports it if it holds control of it. -/
def State.reportCommit (s : State) (m : U32) (t : Nat) : State :=
  let s := { s with tre.committedUnder := ((m, s.rootFor m) :: s.tre.committedUnder).take 64, tre.committedEver := some m }
  if s.holdsFrame m then (s.keepReport m s.memberId t).sendReport m t else s.keepReport m s.memberId t

end Sys2Proof.Machine
end

