-- ==== Sys2Proof/Machine/PortOps.lean ====
section
/-! DEFINITION. Machine/PortOps.lean: fixture ports: pairs and routes, the placing of frames, pixel strings, PWM pins, RDM
transactions and discovery, the input table and its merge, sACN output (R278 to R306). -/
namespace Sys2Proof.Machine
open Sys2Proof

/-! ### Pairs and routes (R278 to R282) -/

/-- Change a pair. -/
def State.modPair (s : State) (p : Fin 32) (f : Pair → Pair) : State :=
  { s with ports.pair := s.ports.pair.set p (f s.ports.pair[p]) }

/-- The pair of a pin. -/
def pairOf (pin : Nat) : Fin 32 := ⟨pin / 2 % 32, Nat.mod_lt _ (by decide)⟩

/-- The supply of a pair is present, at 1.62 V or more (R278, R491). -/
def State.bankUp (s : State) (p : Fin 32) : Bool := decide (1620 ≤ s.pwr.vddio[if p.val < 16 then (0 : Fin 2) else 1])

/-- A pair drives or samples its pins in mode `m` (R280, R491). -/
def State.pairIn (s : State) (p : Fin 32) (m : U8) : Bool :=
  s.ports.pair[p].cfg.mode == m && !s.ports.pair[p].undriven && s.bankUp p && !s.ports.off && !s.pwr.thermal.silent && s.pwr.mode == .run

/-- The routes of the active image with their indices. -/
def State.activeRoutes (s : State) : List (Nat × Route) :=
  match s.outImage with
  | none => []
  | some im => im.routes.zipIdx.map fun e => (e.2, e.1)

/-- The KIND 2 route to a pair. -/
def State.dmxRoute (s : State) (p : Fin 32) : Option (Nat × Route) :=
  s.activeRoutes.find? fun r => r.2.kind == 2 && r.2.port.toNat / 2 == p.val

/-- The KIND 4 route to a pin. -/
def State.stringRoute (s : State) (pin : Nat) : Option (Nat × Route) :=
  s.activeRoutes.find? fun r => r.2.kind == 4 && r.2.port.toNat == pin

/-- The KIND 5 route that covers a pin. -/
def State.pwmRoute (s : State) (pin : Nat) : Option (Nat × Route) :=
  s.activeRoutes.find? fun r => r.2.kind == 5 && decide (r.2.port.toNat ≤ pin) &&
    decide (pin < r.2.port.toNat + r.2.slots.toNat / 2)

/-- The sACN universes of an Ethernet port, in universe order (R305). -/
def State.sacnRoutes (s : State) (n : Fin 4) : List (Nat × Route) :=
  let rs := s.activeRoutes.filter fun r => r.2.kind == 3 && r.2.port.toNat == n.val
  (rs.foldl (fun (l : List Nat) r => insertBy (fun i => ((rs.find? (·.1 == i)).map fun x => (x.2.address.toNat : Int)).getD 0) r.1 l)
    []).filterMap fun i => rs.find? (·.1 == i)

/-! ### Output leads and placing (R283 to R286, Table 8.2) -/

/-- EMITTERS and OUT_BITS of the map that feeds a string. -/
def State.stringMap (s : State) (r : Route) : Option PixelMap := s.outImage.bind fun im => im.maps[r.address.toNat]?

/-- b, the bits of a pixel of a string (R283). -/
def stringBits (m : PixelMap) (c : PairCfg) : Nat :=
  m.emitters * (if m.outBits = 8 then 8 else 16) + (if c.pixHeader = 0 then 0 else 8)

/-- E, the bits of the end sequence of a clocked string (R283). -/
def endBits (slots : Nat) : Nat := max 32 (ceilDiv slots 2)

/-- Bytes of a data packet of `slots` slots on the wire: an E1.31 data packet holds 126 bytes and its slots. -/
def EthCfg.sacnLen (c : EthCfg) (slots : Nat) : Nat := c.udpLen (126 + slots)

/-- X of the sACN universes of a port: its data packets of one frame at the port's bit rate, ns. -/
def State.sacnX (s : State) (n : Fin 4) : Nat :=
  ((s.sacnRoutes n).map fun r => s.net.eth[n].cfg.sacnLen r.2.slots.toNat).sum * bytePs s.net.eth[n].rate / 1000

/-- X and D of a port destination (Table 8.2), in ns. -/
def State.portXD (s : State) (r : Route) : Nat × Nat :=
  let c := s.ports.pair[pairOf r.port.toNat].cfg
  let d := c.delayUs.toNat * 1000
  if r.kind = 2 then (c.packetNs r.slots.toNat, d)
  else if r.kind = 3 then
    if h : r.port.toNat < 4 then (s.sacnX ⟨r.port.toNat, h⟩, s.ports.sacn[r.port.toNat].cfg.netDelayUs.toNat * 1000) else (0, 0)
  else if r.kind = 4 then
    match s.stringMap r with
    | none => (0, d)
    | some m =>
      let n := r.slots.toNat * stringBits m c
      if c.mode = 4 then ((32 + n + endBits r.slots.toNat) * 1000000 / (max 1 c.clockKhz.toNat), d)
      else (n * c.bitNs.toNat + c.resetUs.toNat * 1000, d)
  else (0, 0)

/-- What the output lead of a Laurel destination spans, in ns (R368). -/
def State.laurelNs (s : State) (c : RadioCfg) : Int :=
  (((c.applyMinUs.toNat + 500 + s.tre.cfg.outputMarginUs.toNat) * 1000 +
    ceilDiv (1000000000 * s.grid.v.d.toNat) s.grid.v.den : Nat) : Int)

/-- X and O of the port destinations follow the settings in force; O applies at the next frame boundary (R284). -/
def State.portLeads (s : State) : State :=
  s.activeRoutes.foldl (fun (s : State) r =>
    if inRange 2 5 r.2.kind.toNat then
      let xd := s.portXD r.2
      let margin := if r.2.kind = 3 ∨ r.2.kind = 5 then s.tre.cfg.outputMarginUs.toNat * 1000 else 0
      s.leadResult r.1 (leadFor s.grid.v r.2.minLead ((xd.1 + xd.2 + margin : Nat) : Int)) true
    else if h : r.2.kind = 7#8 ∧ r.2.port.toNat < 4 then
      s.leadResult r.1 (leadFor s.grid.v r.2.minLead (s.laurelNs s.radio.ri[r.2.port.toNat].cfg)) true
    else s) s

/-- The divider of a port whose transfer takes `x` ns (R286): the least d with d x T_eff at least x and 12 us. -/
def GridVals.divider (v : GridVals) (x : Nat) : Nat :=
  let num := 1000000000 * v.d.toNat * (256 - v.q.toNat)
  max 1 (ceilDiv ((x + 12000) * (256 * v.den)) (max 1 num))

/-- The least latency compensation of a destination's fixtures. -/
def State.lambdaOf (s : State) (route : Nat) : Int :=
  match s.outImage with
  | none => 0
  | some im => im.leastLambda route

/-- The full time at which the transmission of frame `m` begins on a port destination (Table 8.2). -/
def State.portStart (s : State) (route : Nat) (r : Route) (m : U32) : Int :=
  let t := s.grid.p' m + s.lambdaOf route
  if r.kind = 2 then t - s.grid.v.sigma (s.dest route).lead.toNat
  else if r.kind = 5 then t
  else
    let xd := s.portXD r
    t - (xd.1 + xd.2 : Nat)

/-- A frame to be sent: its number, its slots and whether its LATCH came after its start instant. -/
structure Due where
  frame : U32
  slots : List U8
  late : Bool
  deriving DecidableEq, Repr

/-- The newest frame that a port destination is due to send: its LATCH has been received (R285), its instant has come, the
divider of a transfer of `x` ns under that frame's settings takes it (R156, R286), and it follows the last one sent. -/
def State.portDue (s : State) (route : Nat) (r : Route) (x : Nat) (last : Option U32) : Option Due :=
  s.tre.latchAt.findSome? fun e =>
    let m := e.1
    let newer : Bool := match last with
      | none => true
      | some l => decide (0 < sdiff32 m l)
    let start := s.portStart route r m
    if newer = true ∧ m.toNat % (s.grid.vals m).divider x = 0 ∧ start ≤ (s.full : Int) then
      (s.packedOf m route).map fun p => ⟨m, p, decide (start < e.2)⟩
    else none

/-- Count a frame sent on a pair, `n` packets of it; E080 where a run of late frames begins (R285). -/
def State.pairSent (s : State) (p : Fin 32) (m : U32) (late : Bool) (n : Nat := 1) : State :=
  let first := late && !s.ports.pair[p].lateRun
  (s.modPair p fun x => { x with lastFrame := m, sent := some m, packets := x.packets.add n, late := if late then x.late.inc else x.late,
                                 lateRun := late, delayed := false }).raiseIf first 80 [fN 0 1 0, fN 1 1 p.val, f32 4 m]

/-- The frame boundary a stopped grid would be in, counted from its base (R42). -/
def Grid.idleBoundary (g : Grid) : Int := g.tickIdx / 256

/-! ### DMX packets (R287, R288, R291) -/

/-- The line of a pair is free for a break: 12 us after a house packet or an RDM response, and 1,204 us after the last break. -/
def Pair.lineFree (p : Pair) (now : Nat) : Bool :=
  p.rdm.isNone && decide (p.idleFrom ≤ now) &&
  (match p.tx with
   | none => true
   | some t => decide (t.stop + 12000 ≤ now) && decide (t.start + 1204000 ≤ now))

/-- A scheduled break waits for a house packet or an RDM response. -/
def Pair.blocked (p : Pair) (now : Nat) : Bool :=
  p.rdm.isSome || decide (now < p.idleFrom) ||
  (match p.tx with
   | none => false
   | some t => t.house && decide (now < t.stop + 12000))

/-- Begin a DMX packet. -/
def State.dmxBegin (s : State) (p : Fin 32) (frame : Option U32) (slots : List U8) : State :=
  let c := s.ports.pair[p].cfg
  (s.modPair p fun x => { x with tx := some ⟨frame, s.now, s.now + c.packetNs slots.length, false, slots⟩,
                                 last := slots }).emit (.dmx p.val false slots)

/-- R287: a packet of a stopped grid. -/
def State.dmxIdle (s : State) (p : Fin 32) (r : Route) (d : Nat) : State :=
  let pr := s.ports.pair[p]
  let b := s.grid.idleBoundary
  if b % d = 0 ∧ pr.idleAt ≠ b ∧ pr.lineFree s.now = true then
    (s.modPair p fun x => { x with idleAt := b, packets := x.packets.inc }).dmxBegin p none (bytesAt pr.last 0 r.slots.toNat)
  else s

/-- The start of a DMX packet: the frame due, or in a stopped grid the last values (R283 to R288). -/
def State.dmxStart (s : State) (p : Fin 32) : State :=
  if s.pairIn p 1 = false then s
  else match s.dmxRoute p with
    | none => s
    | some (route, r) =>
      let pr := s.ports.pair[p]
      let d := s.grid.v.divider (s.portXD r).1
      match (if s.grid.stopped then none else s.portDue route r (s.portXD r).1 pr.sent) with
      | some x =>
        if pr.lineFree s.now then
          (s.pairSent p x.frame (x.late || pr.delayed)).dmxBegin p (some x.frame) (bytesAt x.slots 0 r.slots.toNat)
        else if pr.blocked s.now then s.modPair p fun y => { y with delayed := true }
        else s
      | none => if s.grid.st = 2 then s else s.dmxIdle p r d

/-! ### Pixel strings (R300 to R302) -/

/-- Components of one pixel in the order of ORDER; `w` bytes each. -/
def orderPixel (s : State) (order : U8) (emitters w : Nat) (px : List U8) : List U8 :=
  (List.range emitters).flatMap fun i =>
    let e := order.toNat / 4 ^ i % 4
    if e < emitters then bytesAt px (e * w) w else (List.range w).map fun k => Config.noEmitter (s.fresh + 2 * e + k)

/-- The pixels of a string, in map order. -/
def State.stringPixels (s : State) (r : Route) (slots : List U8) (order : U8) : List (List U8) :=
  match s.stringMap r with
  | none => []
  | some m =>
    let w := if m.outBits = 8 then 1 else 2
    (List.range r.slots.toNat).map fun i => orderPixel s order m.emitters w (bytesAt slots (i * (m.emitters * w)) (m.emitters * w))

/-- `n` one bits, most significant first. -/
def oneBits (n : Nat) : List U8 :=
  List.replicate (n / 8) 0xFF ++ (if n % 8 = 0 then [] else [BitVec.ofNat 8 (256 - 2 ^ (8 - n % 8))])

/-- The bytes a string sends: pixels alone, or with the start and end sequences of a clocked string. -/
def State.stringBytes (s : State) (c : PairCfg) (r : Route) (slots : List U8) : List U8 :=
  let px := s.stringPixels r slots c.order
  if c.mode = 4 then
    [0, 0, 0, 0] ++ px.flatMap (fun x => (if c.pixHeader = 0 then [] else [c.pixHeader]) ++ x) ++ oneBits (endBits r.slots.toNat)
  else px.flatten

/-- How a pair's strings are timed (R300, R301). -/
def PairCfg.timing (c : PairCfg) : StringTiming :=
  if c.mode = 4 then .clocked c.clockKhz.toNat
  else .single c.bitNs.toNat c.t0hNs.toNat c.t1hNs.toNat (c.resetUs.toNat * 1000)

/-- Shift slots into a string, `x` ns long. -/
def State.stringShift (s : State) (pin : Fin 64) (r : Route) (x : Nat) (slots : List U8) : State :=
  let c := s.ports.pair[pairOf pin.val].cfg
  let s := s.emit (.string pin.val c.timing (s.stringBytes c r slots))
  { s with ports.strStop := s.ports.strStop.set pin (s.now + x), ports.strLast := s.ports.strLast.set pin slots,
           ports.strHouse := s.ports.strHouse.set pin false, fresh := s.fresh + 8 }

/-- Send the frame due on a string of mode `mode`, at least 12 us after the one before (R286); a stopped grid sends none (R287).
House values that wait are sent once no frame is in progress (R96). -/
def State.stringSend (s : State) (pin : Fin 64) (mode : U8) : State :=
  let p := pairOf pin.val
  if s.pairIn p mode = false ∨ (mode = 4 ∧ pin.val % 2 = 1) then s
  else match s.stringRoute pin.val with
    | none => s
    | some (route, r) =>
      let x := (s.portXD r).1
      let stop := s.ports.strStop[pin]
      match (if s.grid.stopped then none else s.portDue route r x s.ports.strFrame[pin]) with
      | some u =>
        if stop + (if stop = 0 then 0 else 12000) ≤ s.now then
          let s := (s.pairSent p u.frame u.late).stringShift pin r x u.slots
          { s with ports.strFrame := s.ports.strFrame.set pin (some u.frame) }
        else s
      | none =>
        if s.ports.strHouse[pin] ∧ stop ≤ s.now then s.stringShift pin r x s.ports.strLast[pin] else s

/-! ### PWM pins (R282, R303) -/

/-- Slot `i` of a route begins a 16-bit parameter. -/
def Image.wideSlot (im : Image) (route i : Nat) : Bool :=
  (im.fixturesOf route).any fun e => (im.paramsOf e.2).any fun p => p.2.outBits == 16 && e.2.destOffset + p.2.outSlot == i

/-- The cells that give pin `k` of a route its value. -/
def Image.pwmCells (im : Image) (route k : Nat) (slots : List U8) : List (Nat × U8) :=
  if im.wideSlot route (2 * k) then [(2 * k, slots.getD (2 * k) 0), (2 * k + 1, slots.getD (2 * k + 1) 0)]
  else [(2 * k, slots.getD (2 * k) 0)]

/-- The newest frame's value comes into force on a pin (R155, R283). -/
def State.pwmLatch (s : State) (pin : Fin 64) : State :=
  match s.outImage, s.pwmRoute pin.val with
  | some im, some (route, r) =>
    match s.portDue route r 0 s.ports.pwm[pin].frame with
    | none => s
    | some u =>
      let k := pin.val - r.port.toNat
      let s := (s.pairSent (pairOf pin.val) u.frame u.late 0).pwmFrom pin.val (im.pwmCells route k u.slots) k
      s.setPwm pin.val fun x => { x with frame := some u.frame }
  | _, _ => s

/-- The sub-slot of a pin that begins `pos` count cycles into a base period (R154). -/
def PairCfg.subSlot (c : PairCfg) (odd : Bool) (pos : Nat) : Option Nat :=
  let b := max 1 c.pwmPeriod.toNat
  let ph := (if odd then c.phaseOdd else c.phase).toNat
  let n := max 1 c.subpulses.toNat
  (List.range n).find? fun k => (k * b / n + ph) % b == pos

/-- The sub-slot of a pin that begins in this count cycle: count cycles are counted from the first one in which Keystone had
reached the base period (R154). -/
def State.subSlotNow (s : State) (c : PairCfg) (odd : Bool) : Option Nat :=
  c.subSlot odd (s.cyclesSince ((s.full % (4 * max 1 c.pwmPeriod.toNat) : Nat)))

/-- A pin at the start of sub-slot `k`: its pulse begins, if the value in force gives it one; a pulse longer than its sub-slot
runs on, and a level held high ends with its value (R154, R155). -/
def PwmPin.start (x : PwmPin) (c : PairCfg) (k t : Nat) : PwmPin :=
  match pwmPulse x.value c.pwmPeriod.toNat c.subpulses.toNat c.minPulseNs.toNat k with
  | some h => { x with at_ := t, high := h, hold := pwmHolds x.value c.pwmPeriod.toNat }
  | none => if x.hold then { x with at_ := t, high := 0, hold := false } else x

/-- A sub-slot of a PWM pin begins (R154, R155). -/
def State.pwmStart (s : State) (pin : Fin 64) : State :=
  let p := pairOf pin.val
  let c := s.ports.pair[p].cfg
  if s.pairIn p 5 = false then s
  else match s.subSlotNow c (pin.val % 2 == 1) with
    | none => s
    | some k =>
      let s := s.pwmLatch pin
      s.setPwm pin.val fun x => x.start c k s.full

/-! ### RDM (R290 to R293) -/

/-- An engine without control in a pier pair is standby: it starts no RDM transaction (R294). -/
def State.rdmStandby (s : State) : Bool := s.pier.st == 5 || s.pier.st == 6 || s.pier.st == 7

/-- The pair is an RDM controller. -/
def Pair.rdmOn (p : Pair) : Bool := p.cfg.mode == 1 && p.cfg.rdmEn

/-- Every device. -/
def rdmAll : Nat := 0xFFFFFFFFFFFF

/-- A broadcast UID (to all devices, or to those of one manufacturer). -/
def rdmBroadcast (uid : Nat) : Bool := uid % 2 ^ 32 == 0xFFFFFFFF

/-- Discovery commands of E1.20. -/
def rdmUnmute : RdmReq := { use := .unmute, dest := rdmAll, cls := 0x10, pid := 3 }
/-- DISC_MUTE of a UID. -/
def rdmMute (u : Nat) : RdmReq := { use := .mute u, dest := u, cls := 0x10, pid := 2 }
/-- DISC_UNIQUE_BRANCH over a range. -/
def rdmBranch (lo hi : Nat) : RdmReq := { use := .branch lo hi, dest := rdmAll, cls := 0x10, pid := 1, data := be 6 lo ++ be 6 hi }
/-- DEVICE_INFO of a UID. -/
def rdmInfo (u : Nat) : RdmReq := { use := .info u, dest := u, pid := 0x0060 }
/-- SENSOR_DEFINITION of a fixture's sensor. -/
def rdmDefinition (fi uid : Nat) (sensor : Nat) (i : Fin 4) : RdmReq :=
  { use := .definition fi i, dest := uid, pid := 0x0200, data := [BitVec.ofNat 8 sensor] }
/-- SENSOR_VALUE of a fixture's sensor. -/
def rdmValue (fi uid : Nat) (sensor : Nat) (i : Fin 4) : RdmReq :=
  { use := .value fi i, dest := uid, pid := 0x0201, data := [BitVec.ofNat 8 sensor] }

/-- A use of discovery. -/
def RdmUse.discovers : RdmUse → Bool
  | .unmute | .branch _ _ | .mute _ => true
  | _ => false

/-- No response is awaited. -/
def RdmReq.noResponse (q : RdmReq) : Bool := match q.use with
  | .branch _ _ => false
  | _ => rdmBroadcast q.dest

/-- Bytes of the response expected (R291). -/
def RdmReq.expected (q : RdmReq) : Nat := match q.use with
  | .branch _ _ => 24
  | .definition _ _ => 26 + 45
  | .info _ => 26 + 19
  | .value _ _ => 26 + 9
  | .host _ => if q.cls = 0x20 then 26 + 231 else 26
  | _ => 26 + 2

/-- The time of a request on the line: break, mark, and 26 bytes with its data. -/
def PairCfg.requestNs (c : PairCfg) (q : RdmReq) : Nat := c.lead + (26 + q.data.length) * 44000

/-- The time of the response expected, its break and mark included (176 us and 12 us). -/
def RdmReq.responseNs (q : RdmReq) : Nat := match q.use with
  | .branch _ _ => 24 * 44000
  | _ => 188000 + q.expected * 44000

/-- The full time of the next scheduled break of a pair; none where none is scheduled (R291). -/
def State.nextBreak (s : State) (p : Fin 32) : Option Int :=
  match s.dmxRoute p with
  | none => none
  | some (route, r) =>
    let d := s.grid.v.divider (s.portXD r).1
    let pr := s.ports.pair[p]
    if s.grid.st = 2 then
      let base : U32 := match pr.sent with
        | some m => m + 1
        | none => s.grid.nextPresent
      let m := base + BitVec.ofNat 32 ((d - base.toNat % d) % d)
      some (s.portStart route r m)
    else
      let b := s.grid.idleBoundary
      let j : Int := if b % d = 0 ∧ pr.idleAt ≠ b then b else (b / d + 1) * d
      some (s.grid.tickBase + s.grid.tv.sigma (256 * j))

/-- Fixtures of the active image on a pair's port, with their indices. -/
def State.portFixtures (s : State) (p : Fin 32) : List (Nat × Fixture) :=
  match s.outImage, s.dmxRoute p with
  | some im, some r => im.fixturesOf r.1
  | _, _ => []

/-- Closed-loop fixtures of a port that are read over RDM (R293). -/
def State.rdmFixtures (s : State) (p : Fin 32) : List (Nat × Fixture) :=
  (s.portFixtures p).filter fun e => e.2.closedLoop && e.2.rdmUid != 0 && e.2.sensor != 0xFFFF

/-- Discovery begins: full, or incremental (R292). -/
def State.discover (s : State) (p : Fin 32) (full : Bool) : State :=
  s.modPair p fun x =>
    { x with disc := some full, found := if full then [] else x.uids, discAt := if full then some s.now else x.discAt,
             queue := (if full then [rdmUnmute] else []) ++ rdmBranch 0 (2 ^ 48 - 2) :: x.queue }

/-- Discovery ends: its devices against the image, the count, DEVICE_INFO of each, and the sensor definitions (R290, R292, R293). -/
def State.discovered (s : State) (p : Fin 32) : State :=
  let pr := s.ports.pair[p]
  let uids := pr.found.take 512
  let image := ((s.portFixtures p).map fun e => e.2.rdmUid).filter (· != 0)
  let all := match s.outImage with
    | none => []
    | some im => im.fixtures.map fun (f : Fixture) => f.rdmUid
  let s := s.modPair p fun x => { x with disc := none, found := [], uids := uids, badSensor := [], deci := [] }
  let s := (uids.filter fun u => !all.contains u).foldl (fun (s : State) u => s.raiseF 83 [fN 0 1 p.val, fN 1 1 1, fN 2 6 u]) s
  let s := (image.eraseDups.filter fun u => !uids.contains u).foldl (fun (s : State) u =>
    s.raiseF 83 [fN 0 1 p.val, fN 1 1 2, fN 2 6 u]) s
  let s := s.raiseF 84 [fN 0 1 p.val, fN 2 2 uids.length]
  let base := pr.cfg.sensorBase.toNat
  let defs := (s.rdmFixtures p).flatMap fun e => (List.finRange 4).map fun i => rdmDefinition e.1 e.2.rdmUid (base + i.val) i
  s.modPair p fun x => { x with queue := x.queue ++ uids.map rdmInfo ++ defs }

/-- Discovery is over once none of its requests waits. -/
def State.discoveryCheck (s : State) (p : Fin 32) : State :=
  let pr := s.ports.pair[p]
  if pr.disc.isSome ∧ pr.rdm.isNone ∧ (pr.queue.any fun q => q.use.discovers) = false then s.discovered p else s

/-- Put requests at the front of a pair's queue. -/
def State.rdmFirst (s : State) (p : Fin 32) (qs : List RdmReq) : State := s.modPair p fun x => { x with queue := qs ++ x.queue }

/-- The result of a host's request (R290, Table 8.6). -/
def State.rdmResult (s : State) (tag : U32) (r : RdmResult) : State :=
  State.raiseF { s with ports.results := (tag, r) :: s.ports.results.filter (·.1 != tag) } 85 [f32 0 tag, f8 4 r.outcome]

/-- A sensor fails Table 8.4 (R293). -/
def State.badSensor (s : State) (p : Fin 32) (fi : Nat) (i : Fin 4) : State :=
  let id := match s.outImage.bind fun im => im.fixtures[fi]? with
    | some f => f.id
    | none => 0xFFFFFFFF
  (s.modPair p fun x => { x with badSensor := fi :: x.badSensor }).raiseF 86
    [f32 0 id, fN 4 1 (s.ports.pair[p].cfg.sensorBase.toNat + i.val)]

/-- A definition meets Table 8.4. -/
def sensorFits (i : Fin 4) (inR tempC : Bool) (pfx : U8) : Bool :=
  if i.val < 3 then inR else tempC && decide (pfx.toNat ≤ 1)

/-- A reading of a fixture is dropped. -/
def State.dropReading (s : State) (p : Fin 32) (fi : Nat) : State :=
  s.modPair p fun x => { x with reading := x.reading.filter (·.1 != fi), queue := x.queue.filter fun q => match q.use with
    | .value f _ => f != fi
    | _ => true }

/-- A reading whose four responses have arrived enters the sensor snapshot (R293, Table 8.4). -/
def State.addReading (s : State) (p : Fin 32) (fi : Nat) (v : Int) : State :=
  let pr := s.ports.pair[p]
  match pr.reading.find? (·.1 == fi) with
  | none => s
  | some r =>
    let vs := r.2.2 ++ [v]
    if vs.length < 4 then
      s.modPair p fun x => { x with reading := (fi, r.2.1, vs) :: x.reading.filter (·.1 != fi) }
    else
      let s := s.modPair p fun x => { x with reading := x.reading.filter (·.1 != fi) }
      let at2 := fun k => BitVec.ofInt 16 (vs.getD k 0 * 2)
      let t := vs.getD 3 0 * 256
      match s.outImage.bind fun im => im.fixtures[fi]? with
      | none => s
      | some f =>
        let x : Reading := { sensor := f.sensor, sample := r.2.1, u := at2 0, v := at2 1, y := at2 2,
                             temp := if pr.deci.contains fi then t / 10 else t }
        { s with fix.arrived := s.fix.arrived ++ [((s.full : Int), x)] }

/-- What a request comes to: its response, or none after the second wait (R290 to R293). -/
def State.rdmEnd (s : State) (p : Fin 32) (q : RdmReq) (r : Option RdmResp) : State :=
  let s := match q.use, r with
    | .host tag, some (.ack d) =>
      let all := q.parts ++ d
      s.rdmResult tag ⟨if q.truncated || decide (1024 < all.length) then 3 else 0, 0, all.take 1024⟩
    | .host tag, some (.nack n) => s.rdmResult tag ⟨1, n, []⟩
    | .host tag, none => s.rdmResult tag ⟨2, 0, []⟩
    | .host tag, some _ => s.rdmResult tag ⟨0, 0, q.parts⟩
    | .branch lo hi, some (.uid u) => s.rdmFirst p [rdmMute u, rdmBranch lo hi]
    | .branch lo hi, some .garbled =>
      if lo < hi then
        let mid := (lo + hi) / 2
        s.rdmFirst p [rdmBranch lo mid, rdmBranch (mid + 1) hi]
      else s.rdmFirst p [rdmMute lo]
    | .mute u, some _ =>
      s.modPair p fun x => if x.found.contains u ∨ 512 ≤ x.found.length then x else { x with found := x.found ++ [u] }
    | .definition fi i, some (.sensorDef inR tc pfx) =>
      if sensorFits i inR tc pfx then
        if i = 3 ∧ pfx = 1 then s.modPair p fun x => { x with deci := fi :: x.deci } else s
      else s.badSensor p fi i
    | .definition fi i, some (.nack _) => s.badSensor p fi i
    | .value fi _, some (.sensorValue v) => s.addReading p fi v
    | .value fi _, _ => s.dropReading p fi
    | _, _ => s
  s.discoveryCheck p

/-- A response ends on a pair (R290, R291). -/
def State.rdmResponse (s : State) (p : Fin 32) (r : RdmResp) : State :=
  match s.ports.pair[p].rdm with
  | none => s
  | some (q, _) =>
    let s := s.modPair p fun x => { x with rdm := none, idleFrom := s.now + 12000 }
    match r with
    | .timer ns => s.rdmFirst p [{ q with notBefore := s.now + ns, again := false }]
    | .overflow d =>
      let all := q.parts ++ d
      s.rdmFirst p [{ q with parts := all.take 1024, truncated := q.truncated || decide (1024 < all.length), again := false }]
    | r => s.rdmEnd p q (some r)

/-- The wait of 2,800 us ends with no response: the request is sent once more, then counted (R291). -/
def State.rdmTimeout (s : State) (p : Fin 32) : State :=
  match s.ports.pair[p].rdm with
  | none => s
  | some (q, e) =>
    if s.cycExpired (e + 2800000) = false then s
    else
      let s := s.modPair p fun x => { x with rdm := none }
      if q.again then (s.modPair p fun x => { x with rdmTimeouts := x.rdmTimeouts.inc }).rdmEnd p q none
      else s.rdmFirst p [{ q with again := true }]

/-- Begin the RDM transaction `q`. -/
def State.rdmBegin (s : State) (p : Fin 32) (q : RdmReq) : State :=
  let pr := s.ports.pair[p]
  let e := s.now + pr.cfg.requestNs q
  let s := (s.modPair p fun x => { x with queue := x.queue.erase q }).emit (.rdm p.val s.ports.controllerUid q.dest q.sub q.cls q.pid q.data)
  if q.noResponse then
    let s := s.modPair p fun x => { x with idleFrom := e + 176000 }
    match q.use with
    | .host tag => s.draw.rdmResult tag ⟨Config.broadcastOutcome s.fresh, 0, []⟩
    | _ => s.discoveryCheck p
  else
    s.modPair p fun x =>
      { x with rdm := some (q, e), idleFrom := e,
               reading := match q.use with
                 | .value fi i => if i = 0 then (fi, pr.lastFrame, []) :: x.reading.filter (·.1 != fi) else x.reading
                 | _ => x.reading }

/-- R291: the next request begins if its budget ends 12 us before the next scheduled break. -/
def State.rdmStart (s : State) (p : Fin 32) : State :=
  let pr := s.ports.pair[p]
  if s.pairIn p 1 = false ∨ pr.cfg.rdmEn = false ∨ s.rdmStandby = true ∨ pr.rdm.isSome ∨ s.now < pr.idleFrom ∨
      (pr.tx.any fun t => t.busy s.now) = true then s
  else match pr.queue.find? fun q => decide (q.notBefore ≤ s.now) with
    | none => s
    | some q =>
      let budget := pr.cfg.requestNs q + 2800000 + q.responseNs
      match s.nextBreak p with
      | none => s.rdmBegin p q
      | some b => if (s.full : Int) + budget + 12000 ≤ b then s.rdmBegin p q else s

/-- R293: the next fixture of a port is polled. -/
def State.rdmPoll (s : State) (p : Fin 32) : State :=
  let pr := s.ports.pair[p]
  let now := lastFrame s.grid.frame
  let busy := !pr.reading.isEmpty || pr.queue.any fun q => match q.use with
    | .value _ _ => true
    | _ => false
  let due := fun (e : Nat × Fixture) => !pr.badSensor.contains e.1 && (match pr.polled.find? (·.1 == e.1) with
    | none => true
    | some x => decide ((pr.cfg.pollFrames.toNat : Int) ≤ sdiff32 now x.2))
  let cand := (s.rdmFixtures p).filter due
  let last := (pr.polled.head?.map (·.1)).getD 0
  if pr.rdmOn = false ∨ s.rdmStandby = true ∨ busy = true ∨ pr.disc.isSome then s
  else match (cand.find? fun e => decide (last < e.1)).or cand.head? with
    | none => s
    | some e =>
      let base := pr.cfg.sensorBase.toNat
      s.modPair p fun x =>
        { x with polled := (e.1, now) :: x.polled.filter (·.1 != e.1),
                 queue := x.queue ++ (List.finRange 4).map fun i => rdmValue e.1 e.2.rdmUid (base + i.val) i }

/-! ### The input table (R295 to R299) -/

/-- An entry. -/
def State.input (s : State) (n : Nat) : InputEntry := s.ports.input.get {} n

/-- Change an entry. -/
def State.modInput (s : State) (n : Nat) (f : InputEntry → InputEntry) : State :=
  { s with ports.input := s.ports.input.upd {} n f }

/-- An entry is about to change in the count cycle of full time `t`: what stood before the cycle is kept (R295). -/
def InputEntry.keep (e : InputEntry) (t : Nat) : InputEntry :=
  if e.cycle = some (t / 4) then e else { e with cycle := some (t / 4), before := e.slots, lostBefore := e.lost }

/-- An accepted packet gives an entry its slots, `ago` ns after its timestamp: recovery and triggers (R87, R296, R297). -/
def State.inputAccept (s : State) (n : Nat) (slots : List U8) (ago : Nat) (f : InputEntry → InputEntry) : State :=
  let e := s.input n
  let s := s.modInput n fun x =>
    { (f x).keep s.full with slots := slots, lastShort := s.short - BitVec.ofNat 32 ago, lastAt := some (s.now - ago), lost := false }
  let s := s.raiseIf e.lost 81 [fN 0 2 n, fN 2 1 2]
  s.inputChanged e.cfg.uni e.slots slots ((s.full : Int) - ago)

/-- The merge of the sources of the highest priority (R299). -/
def mergeSources (merge : Bool) (src : List SacnSource) : List U8 :=
  let p := src.foldl (fun m x => max m x.prio.toNat) 0
  let top := src.filter fun x => x.prio.toNat == p
  if merge then
    match top with
    | [] => blankSlots
    | x :: xs =>
      let lo := xs.foldl (fun (a : SacnSource) b => if rdBE b.cid 0 16 < rdBE a.cid 0 16 then b else a) x
      bytesAt lo.slots 0 512
  else (List.range 512).map fun i => top.foldl (fun (m : U8) x => if m < x.slots.getD i 0 then x.slots.getD i 0 else m) 0

/-- The priority in force on an entry. -/
def topPrio (src : List SacnSource) : U8 := BitVec.ofNat 8 (src.foldl (fun m x => max m x.prio.toNat) 0)

/-- R298: the sequence number is out of order. -/
def seqStale (seq last : U8) : Bool := decide (-19 ≤ (seq - last).toInt) && decide ((seq - last).toInt ≤ 0)

/-- The sources of an entry after a removal; refused sources may be taken again. -/
def State.removeSource (s : State) (n : Nat) (cid : List U8) : State :=
  s.modInput n fun x => { x with sources := x.sources.filter (·.cid != cid), refused := [] }

/-- An sACN data packet reaches an entry (R298, R299). -/
def State.sacnEntry (s : State) (n : Nat) (x : SacnPacket) : State :=
  let e := s.input n
  let old := e.sources.find? (·.cid == x.cid)
  let stale := match old with
    | some o => seqStale x.seq o.seq
    | none => false
  if x.preview ∨ x.startCode ≠ 0 then s.modInput n fun e => { e with ignored := e.ignored.inc }
  else if stale then s
  else if x.terminated then s.removeSource n x.cid
  else if old.isNone ∧ 4 ≤ e.sources.length then
    (s.modInput n fun e => { e with refused := if e.refused.contains x.cid then e.refused else x.cid :: e.refused }).raiseIf
      (!e.refused.contains x.cid) 87 [fN 0 2 n, fN 2 1 x.eth.val]
  else
    let src := (e.sources.filter (·.cid != x.cid)) ++ [⟨x.cid, x.prio, x.seq, s.now, x.slots.take 512⟩]
    s.inputAccept n (mergeSources e.cfg.merge src) 0 fun y => { y with sources := src, prio := topPrio src }

/-! ### sACN output (R304, R305) -/

/-- Change sACN output of a port. -/
def State.modSacn (s : State) (n : Fin 4) (f : Sacn → Sacn) : State := { s with ports.sacn := s.ports.sacn.set n (f s.ports.sacn[n]) }

/-- Send one data packet of a universe: kind 0, or 1 with Stream_Terminated. -/
def State.sacnPacket (s : State) (n : Fin 4) (kind uni : Nat) (seq : U8) (slots : List U8) : State :=
  let s := (s.modSacn n fun x =>
    { x with dataSent := x.dataSent.inc, seqs := (uni, seq) :: x.seqs.filter (·.1 != uni),
             last := (uni, slots) :: x.last.filter (·.1 != uni) }).emit (.sacn kind n.val uni seq slots)
  let c := s.ports.sacn[n].cfg
  s.ethUdp n 3 (sacnGroup uni) (Config.srcPort 3) 5568
    (e131Data c.cid c.name c.prio c.syncUniverse seq (kind == 1) c.forceSync uni slots)

/-- The engine sends on its Ethernet ports: it holds control, or held it when the grid stopped. -/
def State.sacnHolds (s : State) (m : U32) : Bool :=
  !s.quiet && (if s.grid.stopped then s.holds || s.pier.heldAtStop else s.holdsFrame m)

/-- The full time at which the synchronisation packet of frame `m` leaves (R305). -/
def State.sacnSyncAt (s : State) (n : Fin 4) (route : Nat) (m : U32) : Int :=
  s.grid.p' m + s.lambdaOf route - s.ports.sacn[n].cfg.syncLeadUs.toNat * 1000

/-- The next frame with synchronisation: the oldest packed after the last one sent, a frame whose synchronisation instant
has passed apart unless it is the very next one. -/
def State.sacnNext (s : State) (n : Fin 4) (route : Nat) : Option U32 :=
  let last := s.ports.sacn[n].lastFrame
  s.tre.packed.reverse.findSome? fun p =>
    let next := match last with
      | none => decide ((s.full : Int) ≤ s.sacnSyncAt n route p.frame)
      | some l => p.frame == l + 1 || (decide (0 < sdiff32 p.frame l) && decide ((s.full : Int) ≤ s.sacnSyncAt n route p.frame))
    if p.route == route && next then some p.frame else none

/-- The frame whose data packets are due on a port: from the commit once the synchronisation packet of the frame
before has left, or, with no synchronisation, from the start instant once latched (R285, R305). -/
def State.sacnDue (s : State) (n : Fin 4) (route : Nat) (r : Route) : Option (U32 × Bool) :=
  let x := s.ports.sacn[n]
  if x.cfg.syncUniverse = 0 then (s.portDue route r 0 x.lastFrame).map fun u => (u.frame, u.late)
  else if x.lastFrame = x.lastSync then
    (s.sacnNext n route).map fun m => (m, false)
  else none

/-- Count a frame sent on an Ethernet port. -/
def State.sacnSent (s : State) (n : Fin 4) (m : U32) (late : Bool) (sync : Bool) : State :=
  let first := late && !s.ports.sacn[n].lateRun
  (s.modSacn n fun x =>
    { x with lastFrame := if sync then x.lastFrame else some m, lastSync := if sync then some m else x.lastSync,
             syncSent := if sync then x.syncSent.inc else x.syncSent, late := if late then x.late.inc else x.late,
             lateRun := late }).raiseIf first 80 [fN 0 1 1, fN 1 1 n.val, f32 4 m]

/-- The data packets of a frame, or of a boundary of a stopped grid (R304, R305). -/
def State.sacnData (s : State) (n : Fin 4) : State :=
  let rs := s.sacnRoutes n
  match rs with
  | [] => s
  | r0 :: _ =>
    let x := s.ports.sacn[n]
    if s.grid.stopped then
      let b := s.grid.idleBoundary
      if x.idleAt = b ∨ s.sacnHolds 0 = false then s
      else rs.foldl (fun (s : State) r =>
        let uni := r.2.address.toNat
        let last := (x.last.find? (·.1 == uni)).map (·.2)
        let seq := (x.seqs.find? (·.1 == uni)).map (·.2)
        s.sacnPacket n 0 uni (seq.getD 0xFF + 1) (bytesAt (last.getD []) 0 r.2.slots.toNat))
          (s.modSacn n fun x => { x with idleAt := b })
    else match s.sacnDue n r0.1 r0.2 with
      | none => s
      | some (m, late) =>
        if s.sacnHolds m = false then s
        else rs.foldl (fun (s : State) r =>
          s.sacnPacket n 0 r.2.address.toNat (BitVec.ofNat 8 m.toNat) (bytesAt ((s.packedOf m r.1).getD []) 0 r.2.slots.toNat))
            (s.sacnSent n m late false)

/-- The synchronisation packet of the frame whose data packets have left (R305). -/
def State.sacnSync (s : State) (n : Fin 4) : State :=
  let x := s.ports.sacn[n]
  match x.lastFrame, s.sacnRoutes n with
  | some m, r :: _ =>
    match s.tre.latchAt.find? (·.1 == m) with
    | none => s
    | some l =>
      let t := s.sacnSyncAt n r.1 m
      if x.cfg.syncUniverse = 0 ∨ x.lastSync = some m ∨ (s.full : Int) < t ∨ s.grid.stopped = true ∨ s.sacnHolds m = false then s
      else
        let seq := BitVec.ofNat 8 m.toNat
        let s := (s.sacnSent n m (decide (t < l.2)) true).emit (.sacn 2 n.val x.cfg.syncUniverse.toNat seq [])
        s.ethUdp n 2 (sacnGroup x.cfg.syncUniverse.toNat) (Config.srcPort 2) 5568 (e131Sync x.cfg.cid seq x.cfg.syncUniverse)
  | _, _ => s

/-- Split a list into parts of `k`. -/
def chunk {α : Type} (k : Nat) : Nat → List α → List (List α)
  | 0, _ => []
  | n + 1, l => if l.isEmpty then [] else l.take k :: chunk k n (l.drop k)

/-- Universe discovery: every 10 s (R304). -/
def State.sacnDiscovery (s : State) (n : Fin 4) : State :=
  let x := s.ports.sacn[n]
  let due := match x.discoveredAt with
    | none => true
    | some t => s.fwExpired (t + 10000000000)
  if x.cfg.discoveryEn = false ∨ due = false ∨ s.sacnHolds s.grid.nextPresent = false then s
  else
    let us := (s.sacnRoutes n).map fun r => r.2.address.toNat
    let pages := chunk 512 (us.length + 1) us
    pages.zipIdx.foldl (fun (s : State) c =>
      (s.emit (.sacn 3 n.val 64214 0 (c.1.flatMap (be 2 ·)))).ethUdp n 3 (sacnGroup 64214) (Config.srcPort 3) 5568
        (e131Discovery x.cfg.cid x.cfg.name c.2 (pages.length - 1) c.1))
        (s.modSacn n fun x => { x with discoveredAt := some s.now })

/-- One boundary's termination packets of the universes that end: three each (R304). -/
def State.sacnTerminate (s : State) (n : Fin 4) : State :=
  let x := s.ports.sacn[n]
  let s := if s.sacnHolds s.grid.nextPresent then
      x.ending.foldl (fun (s : State) e =>
        let seq := (s.ports.sacn[n].seqs.find? (·.1 == e.1)).map (·.2)
        let slots := (s.ports.sacn[n].last.find? (·.1 == e.1)).map (·.2)
        s.sacnPacket n 1 e.1 (seq.getD 0xFF + 1) (slots.getD [])) s
    else s
  s.modSacn n fun x => { x with ending := (x.ending.map fun e => (e.1, e.2 - 1)).filter fun e => e.2 != 0 }

end Sys2Proof.Machine
end

