-- ==== Sys2Proof/Machine/SealOps.lean ====
section
/-! DEFINITION. Machine/SealOps.lean: the inputs of a frame: what the engine holding control seals for its standby, and what
a standby renders from (R142, R181, R295, R377, R378). -/
namespace Sys2Proof.Machine
open Sys2Proof

/-! ### A frame's own inputs -/

/-- An entry changed in the count cycle of a full time, or since: what came belongs to the next snapshot (R295). -/
def InputEntry.changedIn (e : InputEntry) (t : Int) : Bool := e.cycle.any fun c => decide (t / 4 ≤ (c : Int))

/-- The input table as it stands at full time `t` (R295). -/
def State.inputTable (s : State) (t : Int) : List (Nat × List U8) :=
  (s.ports.input.filter fun e => e.2.cfg.kind != 0).map fun e => (e.1, if e.2.changedIn t then e.2.before else e.2.slots)

/-- The entries that are lost at full time `t`. -/
def State.lostEntries (s : State) (t : Int) : List Nat :=
  (s.ports.input.filter fun e => if e.2.changedIn t then e.2.lostBefore else e.2.lost).map (·.1)

/-- The inputs that have arrived by S(m); what arrives later belongs to the next frame (R225, R295). -/
def State.ownInputs (s : State) (m : U32) : State × OwnInputs :=
  let t := s.grid.s m
  ({ s with fix.arrived := s.fix.arrived.filter (fun e => decide (t ≤ e.1)),
            fix.posArrived := s.fix.posArrived.filter fun e => decide (t ≤ e.1) },
   ⟨m, (s.fix.arrived.filter fun e => decide (e.1 < t)).map (·.2), (s.fix.posArrived.filter fun e => decide (e.1 < t)).map (·.2),
    s.inputTable t⟩)

/-- Frame `m` is the first of a swap: no loop update is computed at its render start (R150). -/
def State.swapFrame (s : State) (m : U32) : Bool := s.sh.swaps.any fun w => w.frame == m

/-- The snapshots of frame `m` form: readings, positions and the input table. -/
def State.takeInputs (s : State) (x : OwnInputs) : State :=
  let s := x.positions.foldl State.takePosition { s with ports.snapshot := x.snap }
  let s := match s.gateImage with
    | none => s
    | some im => s.sensorsAt im x.frame x.readings (s.swapFrame x.frame)
  s.keepInputs x.frame

/-! ### Seals (R378, Tables 11.2 and 11.3) -/

/-- The pier link is up. -/
def State.pierLinkUp (s : State) : Bool := s.links[s.pierSpan].st == 2

/-- A standby: an engine of a pair in STANDBY, INELIGIBLE or RESYNC. -/
def State.isStandby (s : State) : Bool := s.paired && (s.pier.st == 5 || s.pier.st == 6 || s.pier.st == 7)

/-- A standby for frame `m`, planned handovers considered (R394). -/
def State.standbyFor (s : State) (m : U32) : Bool := s.paired && s.pier.st != 1 && !s.holdsFrame m

/-- A sensor reading as a seal record. -/
def sealReading (r : Reading) : List U8 :=
  be 1 1 ++ be 1 0 ++ be 2 r.sensor.toNat ++ be 4 r.sample.toNat ++ be 2 r.u.toNat ++ be 2 r.v.toNat ++ be 2 r.y.toNat ++
  be 2 (BitVec.ofInt 16 r.temp).toNat

/-- A position as a seal record. -/
def sealPosition (p : PosRec) : List U8 :=
  be 1 2 ++ be 1 0 ++ be 2 p.value.toNat ++ be 4 p.sample.toNat ++ be 4 p.slot ++ be 4 0

/-- The first and the last slot that differ. -/
def diffRange (old new : List U8) : Option (Nat × Nat) :=
  let d := (List.range 512).filter fun i => old.getD i 0 != new.getD i 0
  match d.head?, d.getLast? with
  | some a, some b => some (a, b + 1 - a)
  | _, _ => none

/-- Pad a record to 4 bytes. -/
def pad4 (r : List U8) : List U8 := r ++ List.replicate ((4 - r.length % 4) % 4) 0

/-- The change of an entry of the input table in the snapshot of frame `m` since the one before, as a seal record. -/
def State.sealEntry (s : State) (m : U32) (n : Nat) (new : List U8) : List (List U8) :=
  let old := ((s.ports.snapshot.find? (·.1 == n)).map (·.2)).getD []
  let lost := (s.lostEntries (s.grid.s m)).contains n
  match diffRange old new with
  | some (a, k) => [pad4 (be 1 3 ++ be 1 (if lost then 1 else 0) ++ be 2 n ++ be 2 a ++ be 2 k ++ bytesAt new a k)]
  | none => if lost == s.ports.lostSnap.contains n then []
    else [be 1 3 ++ be 1 (if lost then 1 else 0) ++ be 2 n ++ be 2 0 ++ be 2 0]

/-- The capture of a stream by frame `m`, as a seal record. -/
def State.sealCapture (s : State) (m : U32) (k : Fin 8) : List (List U8) :=
  match s.ingest[k].captures.find? (·.frame == m) with
  | none => []
  | some e => [be 1 5 ++ be 1 k.val ++ be 2 0 ++ be 4 (BitVec.ofInt 32 s.ingest[k].copies[e.copy].media).toNat]

/-- The features of a tap, as a seal record: the fields of Table 2.10 in order. -/
def sealTap (k : Nat) (r : TapRec) : List U8 :=
  be 1 4 ++ be 1 k ++ be 2 0 ++ be 4 r.frame.toNat ++ be 4 r.windowEnd.toNat ++ be 2 r.envelope.toNat ++
  be 1 ((if r.onset then 1 else 0) + (if r.stale then 2 else 0) + (if r.clipped then 4 else 0)) ++ be 1 0 ++
  be 4 r.onsetTime.toNat ++ r.bands.flatMap fun b => be 2 b.toNat

/-- The features a seal record of TYPE 4 carries. -/
def tapOfSeal (r : List U8) : TapRec :=
  let fl := rdBE r 14 1
  { frame := BitVec.ofNat 32 (rdBE r 4 4), windowEnd := BitVec.ofNat 32 (rdBE r 8 4), envelope := BitVec.ofNat 16 (rdBE r 12 2),
    onset := fl % 2 == 1, stale := fl / 2 % 2 == 1, clipped := fl / 4 % 2 == 1, onsetTime := BitVec.ofNat 32 (rdBE r 16 4),
    bands := (List.range 8).map fun i => BitVec.ofNat 16 (rdBE r (20 + 2 * i) 2) }

/-- The length of the seal record that begins a byte string (Table 11.3). -/
def sealLength (b : List U8) : Nat :=
  match rdBE b 0 1 with
  | 1 | 2 => 16
  | 3 => 8 + (rdBE b 6 2 + 3) / 4 * 4
  | 4 => 36
  | 5 => 8
  | _ => 16 + (rdBE b 6 2 + 3) / 4 * 4

/-- Split the records of a seal part. -/
def sealSplit : Nat → List U8 → List (List U8)
  | 0, _ => []
  | n + 1, b => b.take (sealLength b) :: sealSplit n (b.drop (sealLength b))

/-- The holder's inputs of frame `m` wait to be sealed, tap features apart (R378). -/
def State.sealFrame (s : State) (x : OwnInputs) : State :=
  let recs := x.readings.map sealReading ++ x.positions.map sealPosition ++
    (x.snap.flatMap fun e => s.sealEntry x.frame e.1 e.2) ++ s.pier.radioChanges
  { s with pier.sealDue := s.pier.sealDue ++ [(x.frame, recs)], pier.radioChanges := [] }

/-- The captures of frame `m` join its seal. -/
def State.sealCaptures (s : State) (m : U32) : State :=
  let caps := (List.finRange 8).flatMap fun k => s.sealCapture m k
  { s with pier.sealDue := s.pier.sealDue.map fun (e : U32 × List (List U8)) => if e.1 = m then (m, e.2 ++ caps) else e }

/-- Split records into parts that fit a message. -/
def sealParts : List (List U8) → List (List (List U8))
  | [] => []
  | r :: rest =>
    match sealParts rest with
    | [] => [[r]]
    | p :: ps => if ((r :: p).map List.length).sum ≤ 60000 then (r :: p) :: ps else [r] :: p :: ps

/-- The tap features of frame `m` stand in the input block (R91). -/
def State.tapsReady (s : State) (m : U32) : Bool :=
  s.sh.taps.toList.all fun x => !x.cfg.enable || decide (0 < sdiff32 x.nextFrame m)

/-- PIER_SEAL of the oldest frame due (R378). -/
def State.sendSeal (s : State) : State :=
  match s.pier.sealDue with
  | [] => s
  | (m, recs) :: rest =>
    if s.tapsReady m = false then s
    else
      let taps := (List.finRange 16).filterMap fun k =>
        let x := s.sh.taps[k]
        if x.cfg.enable then (x.recent.find? (·.frame == m)).map (sealTap k.val) else none
      let parts := sealParts (recs ++ taps)
      let parts := if parts.isEmpty then [[]] else parts
      parts.zipIdx.foldl (fun (s : State) p =>
        s.toPartner 0x0064 (be 4 s.memberId.toNat ++ be 4 m.toNat ++ be 2 p.2 ++
          be 2 (if p.2 + 1 = parts.length then 1 else 0) ++ be 2 p.1.length ++ be 2 0 ++ p.1.flatMap id))
        { s with pier.sealDue := rest }

/-! ### Radio state in a seal (Table 11.3 TYPE 7, R370) -/

/-- A change of radio state for the next seal. -/
def State.radioChange (s : State) (ri kind : Nat) (short : U16) (value : Nat) (data : List U8) : State :=
  if s.paired then
    { s with pier.radioChanges := s.pier.radioChanges ++
        [pad4 (be 1 7 ++ be 1 ri ++ be 1 kind ++ be 1 0 ++ be 2 short.toNat ++ be 2 data.length ++ be 8 value ++ data)] }
  else s

/-- Change a radio interface. -/
def State.modRi (s : State) (i : Fin 4) (f : Radio → Radio) : State :=
  { s with radio.ri := s.radio.ri.set i (f s.radio.ri[i]) }

/-- The standby follows a change of radio state (R370, R378). A held frame carries the holder's number of it, its class and
its extended address before its bytes. -/
def State.followRadio (s : State) (r : List U8) : State :=
  let i : Fin 4 := ⟨rdBE r 1 1 % 4, Nat.mod_lt _ (by decide)⟩
  let short : U16 := BitVec.ofNat 16 (rdBE r 4 2)
  let v := rdBE r 8 8
  let data := bytesAt r 16 (rdBE r 6 2)
  match rdBE r 2 1 with
  | 1 => s.modRi i fun x => { x with nodes := x.nodes.filter (fun n => n.short != short && n.ext != BitVec.ofNat 64 v) ++
        [{ short := short, ext := BitVec.ofNat 64 v, sleepy := p8 data 0 == 1 }] }
  | 2 => s.modRi i fun x => { x with nodes := x.nodes.filter fun n => n.short != short }
  | 3 => s.modRi i fun x => { x with nodes := x.nodes.map fun n : Node =>
        if n.short = short then { n with dsn := some (BitVec.ofNat 8 (v % 256), v / 256) } else n }
  | 4 => s.modRi i fun x => { x with held := x.held.filter (fun h => h.id != v) ++
        [{ id := v, cls := ⟨rdBE data 0 1 % 4, Nat.mod_lt _ (by decide)⟩, dest := short, ext := BitVec.ofNat 64 (rdBE data 1 8),
           ack := rdBE data 9 1 % 2 == 1, level := rdBE data 10 1, data := data.drop 16, since := s.now,
           tag := if rdBE data 11 1 = 1 then some (BitVec.ofNat 32 (rdBE data 12 4)) else none }] }
  | 5 => s.modRi i fun x => { x with held := x.held.filter fun h => h.id != v }
  | 6 =>
    let key := 32 * i.val + rdBE r 5 1 % 32
    { s with radio.station := s.radio.station.upd {} key fun t => { t with counter := BitVec.ofNat 32 v } }
  | _ => s

/-! ### A frame's inputs on a standby -/

/-- Slots of an entry changed by a TYPE 3 record. -/
def sealSlots (snap : List (Nat × List U8)) (r : List U8) : List (Nat × List U8) :=
  let n := rdBE r 2 2
  let first := rdBE r 4 2
  let k := rdBE r 6 2
  let old := ((snap.find? (·.1 == n)).map (·.2)).getD blankSlots
  let new := old.zipIdx.map fun e => if first ≤ e.2 ∧ e.2 < first + k then r.getD (8 + e.2 - first) 0 else e.1
  (n, new) :: snap.filter (·.1 != n)

/-- The destinations that a sealed position may belong to: span receivers with a kinetic parameter at the slot. -/
def State.positionDests (s : State) (slot : Nat) : List DestKey :=
  match s.gateImage with
  | none => []
  | some im => (im.kinetics.filterMap fun k => (im.fixtures[k.1]?).bind fun f =>
      if f.destOffset + k.2.2.outSlot = slot then (im.routes[f.route]?).bind fun r => if r.kind = 1 then some r.key else none
      else none).eraseDups

/-- The reading of a TYPE 1 record (R225). -/
def readingOf (r : List U8) : Reading :=
  { sensor := BitVec.ofNat 16 (rdBE r 2 2), sample := BitVec.ofNat 32 (rdBE r 4 4), u := BitVec.ofNat 16 (rdBE r 8 2),
    v := BitVec.ofNat 16 (rdBE r 10 2), y := BitVec.ofNat 16 (rdBE r 12 2), temp := (BitVec.ofNat 16 (rdBE r 14 2)).toInt }

/-- The position of a sealed TYPE 2 record. -/
def State.positionOf (s : State) (r : List U8) : PosRec :=
  { dests := s.positionDests (rdBE r 8 4), slot := rdBE r 8 4, value := BitVec.ofNat 16 (rdBE r 2 2),
    sample := BitVec.ofNat 32 (rdBE r 4 4), at_ := s.now }

/-- The copy a seal names is captured; where it is not complete here, the frame's flags say so (R381). -/
def State.captureSealed (s : State) (m : U32) (k : Fin 8) (media : U32) : State :=
  let g := s.ingest[k]
  match (List.finRange 4).find? fun c => g.copies[c].complete && BitVec.ofInt 32 g.copies[c].media == media with
  | none => s.flagFrame m 4
  | some c => s.modIngest k fun g =>
      { g with copies := g.copies.set c { g.copies[c] with held := m :: g.copies[c].held },
               captures := ⟨m, g.cfg.map, c⟩ :: g.captures, capturedFrame := m, capturedMedia := media }

/-- The records of a seal that stand apart from the frame's own snapshots: tap features, captures, radio state. -/
def State.sealRecord (s : State) (m : U32) (r : List U8) : State :=
  let i := rdBE r 1 1
  match rdBE r 0 1 with
  | 4 => if h : i < 16 then { s with sh.taps := s.sh.taps.set i { s.sh.taps[i] with feat := tapOfSeal r } } else s
  | 5 => s.captureSealed m ⟨i % 8, Nat.mod_lt _ (by decide)⟩ (BitVec.ofNat 32 (rdBE r 4 4))
  | 7 => s.followRadio r
  | _ => s

/-- A standby takes the inputs of frame `m` from its seal (R378). -/
def State.takeSeal (s : State) (m : U32) (recs : List (List U8)) : State :=
  let of := fun t => recs.filter fun r => rdBE r 0 1 == t
  let readings := (of 1).map readingOf
  let pos := (of 2).map s.positionOf
  let snap := (of 3).foldl sealSlots s.ports.snapshot
  let lost := (of 3).foldl (fun (l : List Nat) r =>
    let n := rdBE r 2 2
    if rdBE r 1 1 = 1 then n :: l.filter (· != n) else l.filter (· != n)) s.ports.lostSnap
  let s := State.takeInputs { s with ports.lostSnap := lost } ⟨m, readings, pos, snap⟩
  recs.foldl (fun (s : State) r => s.sealRecord m r) s

/-- A standby takes its own inputs for frame `m`: LOCAL_INPUTS (R378). -/
def State.takeLocal (s : State) (x : OwnInputs) : State :=
  (((s.takeInputs x).capture x.frame).flagFrame x.frame 3)

/-- The seal of a frame, once its LAST part is in hand. -/
def State.sealOf (s : State) (m : U32) : Option (List (List U8)) :=
  (s.pier.seals.find? fun x => x.frame == m && x.complete).map (·.records)

/-- Frames whose seal is in hand, or whose cut-off has passed, cease to wait, in order (R378); at most 16 wait. -/
def State.resolveSeals : Nat → State → State
  | 0, s => s
  | n + 1, s =>
    match s.fix.waiting with
    | [] => s
    | x :: rest =>
      match s.sealOf x.frame with
      | some recs =>
        State.resolveSeals n (State.takeSeal { s with fix.waiting := rest } x.frame recs)
      | none =>
        if s.grid.cutoff x.frame < (s.full : Int) then State.resolveSeals n (State.takeLocal { s with fix.waiting := rest } x)
        else s

/-- Frame `m` waits for its seal: no task of it is dispatched and no pass of it begins (R378). -/
def State.sealWaits (s : State) (m : U32) : Bool := s.fix.waiting.any fun x => x.frame == m

/-- The inputs of frame `m` at S(m) (R142, R181, R295, R378). -/
def State.inputsAt (s : State) (m : U32) : State :=
  let r := s.ownInputs m
  let s := r.1
  let x := r.2
  if s.standbyFor m then
    if s.pierLinkUp || (s.sealOf m).isSome || !s.fix.waiting.isEmpty then
      State.resolveSeals 16 { s with fix.waiting := s.fix.waiting ++ [x] }
    else s.takeLocal x
  else
    let s := if s.paired && s.holdsFrame m then s.sealFrame x else s
    let lost := s.lostEntries (s.grid.s m)
    let s := ({ s.takeInputs x with ports.lostSnap := lost }).capture m
    if s.paired && s.holdsFrame m then s.sealCaptures m else s

/-- A part of a seal arrives (R378): a standby keeps it; once its frame is past waiting, only its radio state counts. -/
def State.sealMsg (s : State) (p : List U8) : State :=
  let m : U32 := BitVec.ofNat 32 (rdBE p 4 4)
  if s.paired = false ∨ BitVec.ofNat 32 (rdBE p 0 4) ≠ s.memberId ∨ s.standbyFor m = false then s
  else
    let recs := sealSplit (rdBE p 12 2) (p.drop 16)
    let last := rdBE p 10 2 % 2 == 1
    let old := ((s.pier.seals.find? (·.frame == m)).map (·.records)).getD []
    let e : Seal := { frame := m, complete := last, records := old ++ recs }
    let s := { s with pier.seals := (e :: s.pier.seals.filter (·.frame != m)).take 8 }
    if sdiff32 m s.grid.nextRender < 0 ∧ s.sealWaits m = false then
      (recs.filter fun r => rdBE r 0 1 == 7).foldl (fun (s : State) r => s.followRadio r) s
    else State.resolveSeals 16 s

end Sys2Proof.Machine
end

