-- ==== Sys2Proof/Machine/GridOps.lean ====
section
/-! DEFINITION. Machine/GridOps.lean: the frame grid's starts, changes and stops, and the activation of an image (R40, R42,
R51, R52, R66, R100, R101). -/
namespace Sys2Proof.Machine
open Sys2Proof

/-! ### Activation of an image (R79, R100, R101, R128, R150) -/

/-- The profile identity of a fixture. -/
def Image.profileId (im : Image) (f : Fixture) : Option U32 := (im.profileOf f).map (·.id)

/-- A fixture's loop as it starts: zero integrators, in RUN, or OFF where CLOSED_LOOP = 0 (R150). -/
def freshLoop (f : Fixture) (m : U32) : Loop := { st := if f.closedLoop then 1 else 0, validAt := m }

/-- A loop that is kept: OFF with zero integrators where the new image has CLOSED_LOOP = 0, and no longer OFF for that cause
where it has not (R149). -/
def Loop.carried (l : Loop) (f : Fixture) (m : U32) : Loop :=
  if f.closedLoop = false then { l with st := 0, ix := 0, iy := 0, iz := 0, saturated := false, satCount := 0 }
  else if l.st = 0 ∧ l.disabled = false then { l with st := 1, validAt := m }
  else l

/-- Loops at a swap: a fixture in both images with the same PROFILE_ID keeps its own (R150). -/
def carryLoops (old : Option Image) (new : Image) (loops : Tab Loop) (m : U32) : Tab Loop :=
  new.indexed.foldl (fun (t : Tab Loop) e =>
    let kept := old.bind fun o => (matchIndex sameFixture e.2 o.fixtures).bind fun i => match o.fixtures[i]? with
      | some f => if o.profileId f = new.profileId e.2 then some (loops.get {} i) else none
      | none => none
    t.set {} e.1 (((kept.map fun l => l.carried e.2 m)).getD (freshLoop e.2 m))) []

/-- Destinations at a swap: those of both images keep their state, new ones start with their least lead; the next update of
each is a full refresh (R101, R221, R223). -/
def carryDests (old : Option Image) (new : Image) (dests : Tab Dest) : Tab Dest :=
  new.routes.zipIdx.foldl (fun (t : Tab Dest) r =>
    let kept := old.bind fun o => (matchIndex sameRoute r.1 o.routes).map fun i => dests.get {} i
    t.set {} r.2 { (kept.getD { lead := r.1.minLead }) with forceFull := true }) []

/-- Packed updates keep their destinations across a swap. -/
def carryPacked (old : Option Image) (new : Image) (ps : List Packed) : List Packed :=
  ps.filterMap fun p => match old.bind fun o => o.routes[p.route]? with
    | some r => (matchIndex sameRoute r new.routes).map fun i => { p with route := i }
    | none => none

/-- sACN universes that only the old image routes end with three termination packets (R304). -/
def State.endUniverses (s : State) (old new : Image) : State :=
  (old.routes.filter fun r => r.kind == 3 && !new.routes.any (sameRoute r)).foldl (fun (s : State) r =>
    if h : r.port.toNat < 4 then
      s.modSacn ⟨r.port.toNat, h⟩ fun x => { x with ending := (r.address.toNat, 3) :: x.ending.filter (·.1 != r.address.toNat) }
    else s) s

/-- What is left of a swap to be taken over. -/
def State.setStage (s : State) (w : Swap) (n : Nat) : State :=
  { s with sh.swaps := s.sh.swaps.map fun x => if x.frame = w.frame then { x with stage := n } else x }

/-- The frame gate has reached the first frame of a swap: loops and the limiter follow the new image (R101, R150, R162). -/
def State.swapGate (s : State) (w : Swap) (m : U32) : State :=
  let x := s.fix
  let s := { s.setStage w 1 with fix.loops := carryLoops w.old w.new s.fix.loops m }
  let s := s.placeKin w.new (keptKin w.old w.new x.kin)
  { s with fix.outCur := x.outCur, fix.kinOld := some (x.kinBase, x.kinHist) }

/-- The last frame of the old image has left current: parameter state holds PARAM_INIT, and the outputs follow the new image
(R79, R100, R101, R146). What packs a destination that the new image does not route is cancelled (Table 3.6). -/
def State.swapOutputs (s : State) (w : Swap) (m : U32) : State :=
  let im := w.new
  let gone := fun (d : Desc) => d.source == 2 && decide (sdiff32 d.frame w.frame < 0) && (match w.old with
    | some o => (o.routes[d.arg.toNat]?).any fun r => !im.routes.any (sameRoute r)
    | none => false)
  let s := { s.setStage w 0 with
    sched := s.sched.cancelAll s.now gone, deck := s.deck.load im, fix.houseTable := [], fix.housePend := [], fix.outCur := s.fix.outNext, fix.kinOld := none,
    tre.dests := carryDests w.old im s.tre.dests, tre.packed := carryPacked w.old im s.tre.packed }
  let s := match w.old with
    | some o => s.endUniverses o im
    | none => s
  let s := (im.cmus.filter fun e => e.2.houseGroup != 0xFF).foldl (fun (s : State) e => s.solveHouse im m e) s
  let s := s.portLeads
  { s with tre.kLocal := s.localLead }

/-- A stream's copies where another image becomes active: they stand where its map is the same record in both, and start free
otherwise. -/
def Ingest.newImage (g : Ingest) (old : Option Image) (new : Image) (now : Nat) : Ingest :=
  if (old.bind fun o => o.maps[g.cfg.map]?) = new.maps[g.cfg.map]? then g
  else { g with copies := .replicate 4 { freeSince := now }, source := g.source.map fun x => (x.1, none) }

/-- The staged image becomes active from frame `m`; it is no longer staged (R100). Its cue lists stand at their START cues,
and from `m` on the cut-off follows its compensations (R78). -/
def State.becomeActive (s : State) (im : Image) (m : U32) : State :=
  let k := leadOf (im.localLead s.grid.v (carryDests s.sh.active im s.tre.dests)) s.others
  let old := s.sh.active
  let s := { s with ingest := s.ingest.map fun (g : Ingest) => g.newImage old im s.now }
  let s := { s with sh.swaps := s.sh.swaps ++ [(⟨old, im, m, 2⟩ : Swap)], sh.active := some im, sh.next := none,
                    sh.staged := {}, sched.affTable := [], grid.kFrom := if s.running then some (m, k) else none }
  (s.startCues im).raiseF 34 [f64 0 im.imageId, f32 8 m]

/-- Whatever is left of the swaps is taken over at frame `m`, in their order. -/
def State.swapAll (s : State) (m : U32) : State :=
  let s := s.sh.swaps.foldl (fun (s : State) w =>
    let s := if w.stage = 2 then s.swapGate w m else s
    if w.stage = 0 then s else s.swapOutputs w m) s
  { s with sh.swaps := [] }

/-- Activation with the grid stopped: at once (R100). -/
def State.activateNow (s : State) (im : Image) : State := (s.becomeActive im s.grid.lastFrameNo).swapAll s.grid.v.n0

/-- What the oldest swap still needs where the frames before its own are out of the way. A first image has no other to
follow. -/
def State.swapStep (s : State) : State :=
  match s.sh.swaps.find? fun w => w.stage != 0 with
  | none => s
  | some w =>
    if w.old.isNone then ((if w.stage = 2 then s.swapGate w s.sched.gateFrame else s).swapOutputs w s.sched.gateFrame)
    else
      let gate := decide (w.stage = 2 ∧ s.sched.gateFrame = w.frame)
      let s := if gate then s.swapGate w w.frame else s
      let free : Bool := match s.tre.committedUnder with
        | [] => true
        | e :: _ => s.tre.released == some e.1
      if (gate || w.stage == 1) && free then s.swapOutputs w w.frame else s

/-- S(APPLY_FRAME): the activation that waits for frame `m` takes place (R100). -/
def State.activateAt (s : State) (m : U32) : State :=
  match s.sh.next with
  | some n => if 0 ≤ sdiff32 m n.2 then (s.becomeActive n.1 m).swapStep else s
  | none => s

/-! ### Stop (R51, R66, R131, R161) -/

/-- The first frame that a stop "from the next frame boundary" leaves unpresented: at or after the next boundary, and its
LATCH not yet in hand. -/
def Grid.nextStop (g : Grid) : U32 :=
  let n := match g.cur with
    | some m => m + 1
    | none => g.nextPresent
  if 0 < sdiff32 g.nextLatch n then g.nextLatch else n

/-- A stop from frame `m` is accepted (R66): its tasks are cancelled (R131). -/
def State.acceptStop (s : State) (m : U32) : State :=
  let change := s.grid.change.filter fun c => decide (sdiff32 c.2 m < 0)
  { s with grid.stopAt := some m, grid.run := false, grid.change := change,
           sched := s.sched.cancelAll s.now fun d => d.source == 0 && decide (0 ≤ sdiff32 d.frame m) }

/-- The instant at which a stop from frame `a` is reached: the later of P(a) and P'(a - 1) (R66). -/
def Grid.stopInstant (g : Grid) (a : U32) : Int := if g.before (a - 1) then g.p a else max (g.p a) (g.p' (a - 1))

/-- The stop instant has come (R66): the slip of the last frame presented is settled, and the later of the two times has
come. -/
def State.stopDue (s : State) : Bool :=
  match s.grid.stopAt with
  | none => false
  | some a => s.running && (s.grid.before (a - 1) || decide (sdiff32 (a - 1) s.grid.nextLatch < 0)) &&
      decide (s.grid.stopInstant a ≤ (s.full : Int))

/-- Ports take up the boundaries of a stopped grid after the one in progress (R287, R304). -/
def State.portsStop (s : State) : State :=
  let b := s.grid.idleBoundary
  { s with ports.pair := s.ports.pair.map (fun (x : Pair) => { x with idleAt := b }),
           ports.sacn := s.ports.sacn.map (fun (x : Sacn) => { x with idleAt := b }) }

/-- The grid stops: a rank 1 kinetic stop, the pair back in WAITING, a swap in progress taken over whole, a lock fault of an
offset ended (R36, R66, R161, R398). DESIGN CHOICE: an activation that still waits for its frame is dropped without an event
(log entry 114). -/
def State.gridStop (s : State) : State :=
  let s := { s with grid.st := 0, grid.cur := none, grid.run := false, grid.stopAt := none, grid.change := none,
                    grid.qNext := none, grid.slipRun := none, fix.waiting := [], pier.sealDue := [], pier.seals := [] }
  let s := { s.swapAll s.sched.gateFrame with sh.next := none, grid.kFrom := none }
  let s := ((s.portsStop.pierGridStop).setFaults s.ks.faultHold false).beginCause 3 s.grid.lastFrameNo
  let kinetics : Nat := match s.sh.active with
    | some im => im.kinetics.length
    | none => 0
  -- nothing has to come to rest
  if kinetics = 0 then { s.atRest with fix.restDue := false } else s

/-- Take the stop if its instant has come. -/
def State.stopStep (s : State) : State := if s.stopDue then s.gridStop else s

/-! ### Start and change (R38, R42, R66) -/

/-- The grid values of a GRID_SET payload (Table 1.9). -/
def gridVals (p : List U8) : GridVals :=
  { n := p32 p 0, d := p32 p 4, e := rd p 8 6 * 1000000000 + rd p 16 4, n0 := p32 p 20, l := p8 p 28, q := p8 p 29,
    ceil := p8 p 30 }

/-- The values of a GRID_SET payload lie in their ranges (R38, Table 1.9). -/
def gridOk (p : List U8) : Bool :=
  let v := gridVals p
  inRange 1 1048575 v.n.toNat && inRange 1 1048575 v.d.toNat && decide (24000 * v.d.toNat ≤ 1001 * v.n.toNat) &&
  decide (v.n.toNat ≤ 240 * v.d.toNat) && decide (rd p 16 4 ≤ 999999999) && inRange 1 8 v.l.toNat &&
  inRange 8 128 v.q.toNat && inRange 1 255 v.ceil.toNat

/-- The active image fits the pixel capacity at a rate (R172). -/
def State.fitsRate (s : State) (v : GridVals) : Bool := decide ((s.sh.active.map (·.pixelCount)).getD 0 ≤ pixelCapacity v.n v.d)

/-- A start at E leaves no room: E lies before now + sigma(256 x L) + 10 ms (R66). -/
def State.startLate (s : State) (v : GridVals) : Bool :=
  decide ((v.e : Int) < s.full + v.sigma (256 * v.l.toNat) + 10000000)

/-- The grid of a start: boundaries of the old grid cease (R42). -/
def Grid.start (g : Grid) (v : GridVals) (apply : U32) (t : Nat) : Grid :=
  let g := { g with v := v, applyFrame := apply, run := true, st := 1, cur := none, tickBase := v.e, tv := v,
                    nextRender := v.n0, nextCommit := v.n0, nextLatch := v.n0, nextPresent := v.n0, ownSlip := [],
                    latched := [], change := none, prev := none, qNext := none, stopAt := none, slipRun := none,
                    ceilRaised := false, stallRaised := false, fp := v }
  { g with tickIdx := g.tickIdxAt t }

/-- Loops keep their integrators; what they count by frame number begins anew. -/
def Loop.restart (l : Loop) (n0 : U32) : Loop := { l with since := false, validAt := n0, hist := [] }

/-- A temperature is held on through a start, whatever frame numbers were before it. -/
def Temp.restart (t : Temp) (n0 : U32) : Temp := { t with sample := none, at_ := t.at_.map fun _ => n0 }

/-- What the frame pipeline keeps by frame number begins anew at a start. -/
def State.freshFrames (s : State) (n0 : U32) : State :=
  let s := { s with
    sh := { s.sh with goes := s.sh.goes.filter (fun g => g.frame == 0xFFFFFFFF || decide (0 ≤ sdiff32 g.frame n0)),
                      trig := s.sh.trig.filter (fun e => decide (0 ≤ sdiff32 e.2 n0)), trigLast := [], kept := [],
                      gateNext := 0 }
    sched := { (s.sched.gateTo n0) with closed := [], firstDispatch := none, trapCopy := [] }
    tre := { s.tre with reports := [], committedUnder := [], merges := [], absorbedLatch := [], latchCopy := [],
                        latches := [], latchAt := [], packed := [], sends := [], released := none, startSet := [], missed := [],
                        latchRoots := [],
                        dests := s.tre.dests.map fun (e : Nat × Dest) =>
                          (e.1, { e.2 with lastSent := none, forceFull := true, sizes := [], probe := none }) }
    fix := { s.fix with loops := s.fix.loops.map (fun (e : Nat × Loop) => (e.1, e.2.restart n0)), snapshot := [],
                        temps := s.fix.temps.map (fun (e : Nat × Temp) => (e.1, e.2.restart n0)), inputs := [], waiting := [], passFrame := none, cmuBusy := none, kinBusy := none }
    deck := { s.deck with nextFrame := none } }
  { s with
    ingest := s.ingest.map fun (g : Ingest) =>
      { g with captures := [], copies := g.copies.map fun (c : Copy) => { c with held := [] } }
    raster := s.raster.map fun (x : Raster) =>
      { x with nextR := s.grid.v.rasterFrameAt x.cfg.genlock s.full + 1, since := false }
    ports := { s.ports with
      pair := s.ports.pair.map (fun (x : Pair) => { x with sent := none, polled := [], reading := [] })
      pwm := s.ports.pwm.map (fun (x : PwmPin) => { x with frame := none })
      strFrame := .replicate 64 none
      sacn := s.ports.sacn.map (fun (x : Sacn) => { x with lastFrame := none, lastSync := none }) }
    sh := { s.sh with taps := s.sh.taps.map fun (x : Tap) =>
      { x with nextFrame := s.grid.frameAfter (s.full + x.cfg.delayUs.toNat * 1000 + 1) } } }

/-- R66: the grid starts. A kinetic parameter that the limiter has not yet stepped is new to the show (R162). -/
def State.gridStart (s : State) (v : GridVals) (apply : U32) : State :=
  let s := State.freshFrames { s with grid := s.grid.start v apply s.full } v.n0
  let s := match s.sh.active with
    | some im => s.placeKin im fun fi pi => (keptKin s.sh.active im s.fix.kin fi pi).filter (·.stepped)
    | none => s
  let s := (s.endCause 3 s.grid.lastFrameNo).portLeads
  (s.pierGridStart.floodMember).raiseF 25 [f32 0 v.n0, fN 4 1 1]

/-- R66: a change is accepted; a new q and ceiling wait for zero slip (R52). -/
def State.gridChange (s : State) (v : GridVals) (apply : U32) : State :=
  let v' := { v with q := s.grid.v.q, ceil := s.grid.v.ceil }
  { s with grid.change := some (v', apply), grid.applyFrame := apply, grid.qNext := some (v.q, v.ceil, apply), grid.fp := v }

/-- The accepted change applies from frame `m` (R66, R184). -/
def State.applyChange (s : State) (m : U32) : State :=
  match s.grid.change with
  | none => s
  | some c =>
    let v := { c.1 with q := s.grid.v.q, ceil := s.grid.v.ceil }
    let s := { s with grid.prev := some (s.grid.v, m), grid.v := v, grid.change := none }
    s.portLeads.raiseF 25 [f32 0 m, fN 4 1 2]

/-- A new q and ceiling take effect at a frame boundary with zero slip (R52). DESIGN CHOICE: the slip at a boundary is that of
the last presented frame (log entry 113). -/
def State.applyQuantum (s : State) : State :=
  match s.grid.qNext, s.grid.cur with
  | some n, some m =>
    if s.grid.slip = 0 ∧ 0 ≤ sdiff32 m n.2.2 then
      State.portLeads { s with grid.v := { s.grid.v with q := n.1, ceil := n.2.1 }, grid.qNext := none }
    else s
  | _, _ => s

/-- R40: the epoch moves forward at the first frame after the one at distance 2^24 whose instant is exact. -/
def Grid.moveEpoch (g : Grid) (m : U32) : Grid :=
  let n := (m - g.v.n0).toNat
  if 2 ^ 24 < n ∧ n * 1000000000 * g.v.d.toNat % g.v.den = 0 then
    { g with v := { g.v with e := (g.v.p m).toNat, n0 := m, moved := true },
             prev := g.prev.filter fun o => decide (sdiff32 m o.2 < 64) }
  else g

end Sys2Proof.Machine
end

