-- ==== Sys2Proof/Machine/FrameOps.lean ====
section
/-! DEFINITION. Machine/FrameOps.lean: the course of a frame: dispatch and end of its tasks, traps, render end, commit, and
the state a resync carries (R81 to R84, R123, R133, R392). -/
namespace Sys2Proof.Machine
open Sys2Proof

/-! ### Render end (R83, R123) -/

/-- The flow of a task. -/
def State.flowOf (s : State) (d : Desc) : Option Flow := (s.imageFor d.frame).bind fun im => im.flows[d.flow.toNat]?

/-- A render task of the flow runs in frame `m`. -/
def Sched.flowRuns (c : Sched) (flow : Nat) (m : U32) : Bool :=
  !(c.live fun d => d.source == 0 && d.st == .running && d.frame == m && d.flow.toNat == flow).isEmpty

/-- R84: footprints of trapped flows are copied once their last running segment has ended. -/
def State.trapSettle (s : State) : State :=
  let ready := fun (e : Nat × U32) => !s.sched.flowRuns e.1 e.2
  let s := (s.sched.trapCopy.filter ready).foldl (fun (s : State) e =>
    match (s.imageFor e.2).bind fun im => im.flows[e.1]? with
    | some f => { s with deck := s.deck.copyFootprint f }
    | none => s) s
  { s with sched.trapCopy := s.sched.trapCopy.filter fun e => !ready e }

/-! ### Traps (R84, R131, R133, R134) -/

/-- A list's cue that took effect after frame `m` activates the flow: the frame it did (R84). -/
def State.reactivated (s : State) (f : Nat) (m : U32) : Option U32 :=
  s.sh.active.bind fun im => s.sh.lists.findSome? fun e => (e.2.cue.bind fun i => im.cues[i]?).bind fun c =>
    if c.flows.contains f ∧ 0 < sdiff32 e.2.goFrame m then some e.2.goFrame else none

/-- Frames whose tasks of a flow that traps in frame `m` are cancelled: m and m + 1, and every later one up to the cue that
activates the flow again (R84, Table 3.6). -/
def State.trapFrame (s : State) (f : Nat) (m x : U32) : Bool :=
  let swap := s.swapAfter m
  x == m || (x == m + 1 && swap.isNone) || (decide (0 < sdiff32 x m) &&
    (match (match swap with
      | some g => some g
      | none => s.reactivated f m) with
     | some g => decide (sdiff32 x g < 0)
     | none => true))

/-- A flow is left out until a cue activates it again, unless one already did or the image is past (R84). -/
def State.leaveOut (s : State) (f : Nat) (m : U32) : State :=
  if (s.swapAfter m).isSome || (s.reactivated f m).isSome || s.sh.faulted.contains f then s
  else { s with sh.faulted := f :: s.sh.faulted }

/-- A task traps: E039, its flow is left out, its other tasks of this frame and the next are cancelled (R84, Table 3.6). A task
of another source has no flow of the image to leave out; E039 gives its FLOW field (R133). -/
def State.trap (s : State) (n cause : Nat) : State :=
  let d := s.sched.at n
  let s := { s with sched := { ((s.sched.leaveCore n s.now).retire n s.now .trapped .trapped) with traps := s.sched.traps.inc } }
  if d.source = 0 then
    let id : U16 := match s.flowOf d with
      | some f => f.id
      | none => 0
    let f := d.flow.toNat
    let out := s.trapFrame f d.frame
    let s := State.leaveOut { s with
      sched := s.sched.cancelAll s.now fun x => x.source == 0 && x.flow == d.flow && out x.frame } f d.frame
    let copy := (f, d.frame)
    let s := { s with sched.trapCopy := if s.sched.trapCopy.contains copy then s.sched.trapCopy else copy :: s.sched.trapCopy }
    (s.raiseF 39 [f16 0 id, fN 2 1 cause, f32 4 d.frame]).trapSettle
  else s.raiseF 39 [fN 0 2 d.flow.toNat, fN 2 1 cause, f32 4 d.frame]

/-- A core is excluded from dispatch until reset: E042, and the frame's flags say so (R134, R381). -/
def State.excludeCore (s : State) (k : Fin 64) (m : U32) : State :=
  ((State.raiseF { s with sched.cores := s.sched.cores.set k { s.sched.cores[k] with excluded := true } } 42 [fN 0 1 k.val])).flagFrame
    m 1

/-! ### Resync, the engine holding control (R392, R396) -/

/-- PIER_RESYNC (Table 11.4). -/
def State.sendResync (s : State) (kind : Nat) (r : U32) (bytes : Nat) : State :=
  (s.toPartner 0x0066 (be 4 s.memberId.toNat ++ be 1 kind ++ be 3 0 ++ be 4 r.toNat ++ be 4 bytes)).raiseF 109
    [fN 0 1 kind, f32 4 r]

/-- The state of Table 11.10 for the frame committed last. -/
def State.resyncState (s : State) (r : U32) : ResyncState :=
  let im := s.imageFor r
  let seq := s.sh.kept.find? fun k => k.frame == r + 1
  { params := (List.range ((im.map (·.paramCount)).getD 0)).map s.deck.param
    pixels := (List.range ((im.map (·.pixelCount)).getD 0)).flatMap (s.deck.renderPixel s.deck.half1)
    kin := s.fix.kin, loops := s.fix.loops, temps := s.fix.temps
    lists := (seq.map (·.lists)).getD s.sh.lists
    trigLast := (seq.map (·.trigLast)).getD s.sh.trigLast
    taps := s.sh.taps.toList.map fun x => (x.mean, x.lastOnset)
    privet := s.sh.house.privet, flooded := s.sh.house.flooded
    nodes := s.radio.ri.toList.map (·.nodes), held := s.radio.ri.toList.map (·.held)
    counters := s.radio.station.map fun e => (e.1, e.2.counter) }

/-- R392 step 2: at the commit of frame `r` the transfer begins. -/
def State.resyncBegin (s : State) (r : U32) : State :=
  if s.holds && s.pier.resyncAsked && s.paired then
    let bytes := Config.resyncBytes (s.resyncState r)
    let s := { s with pier.resyncAsked := false, pier.resync := some r }
    (s.sendResync 2 r bytes.length).bulkStart 1 r s.pier.cfg.partnerId bytes
  else s

/-- R392 step 3: the transfer is abandoned; it begins again at the next commit, at most eight times. -/
def State.resyncAbandon (s : State) : State :=
  match s.pier.resync with
  | none => s
  | some r =>
    let n := s.pier.resyncTries + 1
    let s := { s.bulkDrop (streamKey 1 r) with
      pier.resync := none, pier.resyncTries := if n < 8 then n else 0, pier.resyncAsked := decide (n < 8),
      pier.resyncsAbandoned := s.pier.resyncsAbandoned.inc }
    (s.sendResync 4 r 0).raiseIf (decide (8 ≤ n)) 109 [fN 0 1 5, f32 4 r]

/-- The transfer must end while its frame is readable (R175, R392). -/
def State.resyncReadable (s : State) : State :=
  match s.pier.resync with
  | some r => if s.holds && !s.readable r then s.resyncAbandon else s
  | none => s

/-- The transfer has ended: KIND 3 (R392 step 4). -/
def State.resyncDone (s : State) : State :=
  match s.pier.resync with
  | some r =>
    if s.holds && (s.mb.txStreams.get {} (streamKey 1 r)).done then
      State.sendResync { s.bulkDrop (streamKey 1 r) with pier.resync := none, pier.resyncTries := 0,
                                                         pier.resyncs := s.pier.resyncs.inc } 3 r 0
    else s
  | none => s

/-! ### Resync, the standby (R392 step 4) -/

/-- Frames after `r` are discarded: their render tasks, and what the frame pipeline keeps of them. -/
def State.discardAfter (s : State) (r : U32) : State :=
  let after := fun (m : U32) => decide (0 < sdiff32 m r)
  let c := s.sched.cancelAll s.now fun d => d.source == 0 && after d.frame
  let c := { c with desc := c.desc.map fun (e : Nat × Desc) =>
      (e.1, if e.2.st = TaskState.running ∧ e.2.source = 0 ∧ after e.2.frame = true then { e.2 with discard := true } else e.2) }
  let c := { (c.gateTo (r + 1)) with closed := c.closed.filter fun m => !after m, trapCopy := c.trapCopy.filter fun e => !after e.2 }
  { s with
    sched := c
    deck := { s.deck with nextFrame := none }
    grid := { s.grid with nextCommit := r + 1, nextRender := r + 1, ownSlip := s.grid.ownSlip.filter fun e => !after e.1 }
    tre := { s.tre with
      committedUnder := (r, s.rootFor r) :: s.tre.committedUnder.filter fun e => decide (sdiff32 e.1 r < 0)
      committedEver := some r
      packed := s.tre.packed.filter fun p => decide (sdiff32 p.frame r < 0) }
    pier := { s.pier with digestAsked := s.pier.digestAsked.filter (fun m => !after m),
                          own := s.pier.own.filter fun d => decide (sdiff32 d.frame r < 0) }
    fix := { s.fix with cmuBusy := none, kinBusy := none, passFrame := some r, waiting := [] } }

/-- The committed half takes the parameters and pixels of a resync. -/
def Deck.install (d : Deck) (params pixels : List U16) : Deck :=
  let h := d.half1
  let mem := d.mem.writes 0 (paramAddr h 0) (params.flatMap fun v => le 2 v.toNat)
  let mem := Tab.writes 0 mem (pixelAddr h 0) (pixels.flatMap fun v => le 2 v.toNat)
  { d with mem := mem, valid := d.valid.set (halfIx h) [(0, pixels.length / 3)] }

/-- R392 step 4: the engine installs the state as its committed frame `r`, and renders from r + 1 under seals. -/
def State.resyncInstall (s : State) (r : U32) (x : ResyncState) : State :=
  let seq := s.sh.kept.find? fun k => k.frame == r + 1
  let s := s.discardAfter r
  let s := { s with
    deck := s.deck.install x.params x.pixels
    fix := { s.fix with kin := x.kin, loops := x.loops, temps := x.temps, inputs := [], outCur := outTable x.kin,
                        outNext := outTable x.kin, kinHist := [(r, x.kin)], kinBase := x.kin, kinOld := none }
    sh := { s.sh with
      lists := x.lists, trigLast := x.trigLast, commitFrame := some r
      trig := match seq with
        | some k => (s.sh.trig ++ k.trig).eraseDups
        | none => s.sh.trig
      goes := match seq with
        | some k => k.goes
        | none => s.sh.goes
      kept := s.sh.kept.filter fun k => decide (sdiff32 k.frame r ≤ 0)
      taps := .ofFn fun (i : Fin 16) => match x.taps[i.val]? with
        | some e => { s.sh.taps[i] with mean := e.1, lastOnset := e.2 }
        | none => s.sh.taps[i]
      house := { s.sh.house with privet := x.privet, flooded := x.flooded } }
    radio := { s.radio with
      ri := .ofFn fun (i : Fin 4) =>
        { s.radio.ri[i] with nodes := x.nodes.getD i.val s.radio.ri[i].nodes, held := x.held.getD i.val s.radio.ri[i].held }
      station := x.counters.foldl (fun (t : Tab Station) (e : Nat × U32) => t.upd {} e.1 fun y => { y with counter := e.2 }) s.radio.station }
    pier := { s.pier with resync := none, resyncTries := 0, resyncs := s.pier.resyncs.inc } }
  let s := s.underImage r fun s => s.hedgerowSend r
  (((s.flagFrame (r + 1) 5).checkClear 6).raiseF 109 [fN 0 1 3, f32 4 r]).standbyState

/-! ### Dispatch (R82, R112, R127, R187) -/

/-- A render task may be dispatched: its frame's seal is in hand, and a swap's outputs have been taken over (R81, R378). -/
def State.mayDispatch (s : State) (d : Desc) : Bool :=
  d.source != 0 || (!s.sealWaits d.frame && s.swapTaken d.frame)

/-- The first render task of a frame is dispatched: next takes the frame, and what read the half before stops (R175, R187,
R392). -/
def State.firstOf (s : State) (m : U32) : State :=
  if s.deck.nextFrame = some m then s
  else
    let s := { s with sched.firstDispatch := some m }
    let s := match s.imageFor m with
      | some im => { s with deck := s.deck.begin im m }
      | none => s
    (s.abortRasters m).resyncReadable

/-- Every task of the gate frame has ended, and nothing holds its passes back (R83, R123, R378). -/
def State.renderReady (s : State) : Bool :=
  let m := s.sched.gateFrame
  s.running && s.sched.isClosed m && s.sched.pendingOf m == 0 && !s.sched.renderEnd && !s.sealWaits m &&
  !(s.sched.trapCopy.any fun e => e.2 == m) && s.swapTaken m

/-- Render end is signalled once it is due (R123). DESIGN CHOICE: a frame without tasks takes its half here, as its first
dispatch would have (R175, log entry 118). -/
def State.renderCheck (s : State) : State :=
  if s.renderReady then
    let m := s.sched.gateFrame
    (s.firstOf m).underImage m fun s => (match s.sh.active with
      | some im => s.cmuReads im m
      | none => s).renderEnd m
  else s

/-- The program header of a task breaks the limits of R112. -/
def State.overLimits (s : State) (d : Desc) : Bool :=
  match s.imageFor d.frame with
  | none => false
  | some im =>
    let at_ := d.code.toNat
    decide (131072 < rd im.code (at_ + 4) 4) || decide (s.sys.boot.partVer[1].toNat < rd im.code (at_ + 12) 2)

/-- R112, R134, R484: what a task traps on as it is dispatched. -/
def State.dispatchTrap (s : State) (n : Nat) (k : Fin 64) : State :=
  let d := s.sched.at n
  if s.sys.inject.core.contains k then
    State.trap ({ s with sys.inject := { s.sys.inject with core := s.sys.inject.core.erase k } }.excludeCore k d.frame) n 3
  else if d.source ≠ 0 then s
  else if s.sys.inject.flow.contains (BitVec.ofNat 16 d.flow.toNat, d.frame) then
    State.trap { s with sys.inject := { s.sys.inject with flow := s.sys.inject.flow.erase (BitVec.ofNat 16 d.flow.toNat, d.frame) } } n 5
  else if s.overLimits d then s.trap n 4
  else s

/-- LOCAL_BYTES and PROG_BYTES of a task's program (Table 3.1). -/
def State.programMem (s : State) (d : Desc) : Nat × Nat :=
  if d.source = 0 then match s.imageFor d.frame with
    | none => (0, 0)
    | some im => (rd im.code (d.code.toNat + 4) 4, rd im.code d.code.toNat 4)
  else Config.firmwareTask d.code

/-- A core that does not hold the program of its task loads it from Deck (R110, R171): requesters 6 to 9. -/
def State.programRead (s : State) (d : Desc) (k : Fin 64) : State :=
  match s.imageFor d.frame with
  | none => s
  | some im =>
    if s.sched.cores[k].loadedAt ≤ s.now then s
    else s.deckRead d.frame (imageRegion + im.base + im.codeAt + d.code.toNat) (s.programMem d).2 (6 + k.val / 16)

/-- One dispatch of an issue port (R127). -/
def State.dispatch (s : State) (port : Fin 4) : State :=
  let s := { s with sched := s.sched.offer s.now s.mayDispatch }
  match s.sched.choice port with
  | none => s
  | some (n, k) =>
    let d := s.sched.at n
    let s := { s with sched := s.sched.place port n k s.now (s.programMem d) }
    let s := if d.source = 0 then (s.firstOf d.frame).programRead d k else s
    (s.dispatchTrap n k).renderCheck

/-! ### The end of a task (R81, R123, R179, R222, R380) -/

/-- The writes of a render task: those within its flow's footprint stand (R81). -/
def State.taskWrites (s : State) (d : Desc) (f : Flow) (r : TaskOut) : State :=
  let span := (f.pixelFirst, f.pixelSpan)
  let h := !s.deck.half1
  let deck := if s.deck.valid[halfIx h].contains span then s.deck
    else { s.deck.clear (pixelAddr h f.pixelFirst) (6 * f.pixelSpan) with
             valid := s.deck.valid.set (halfIx h) (span :: s.deck.valid[halfIx h]) }
  let deck := r.params.foldl (fun (k : Deck) e =>
    if f.paramFirst ≤ e.1 ∧ e.1 < f.paramFirst + f.paramSpan then k.setNext e.1 e.2 else k) deck
  let deck := r.pixels.foldl (fun (k : Deck) e =>
    if f.pixelFirst ≤ e.1 ∧ e.1 < f.pixelFirst + f.pixelSpan then
      k.setPixel h e.1 ((List.range 3).map fun j => e.2.getD j 0) else k) deck
  if s.deck.nextFrame = some d.frame ∧ d.discard = false then { s with deck := deck } else s

/-- A route of the image in force is packed for frame `m`. -/
def State.packOf (s : State) (route : Nat) (m : U32) : State :=
  match s.sh.active with
  | none => s
  | some im => match im.routes[route]? with
    | none => s
    | some r =>
      let slots := s.packRoute im route r m
      let plain := State.packRoute { s with sh.house.applied := 0 } im route r m
      let s := s.packReads im route r m
      { s with tre.packed := ⟨m, route, slots, plain⟩ :: s.tre.packed,
               tre.sends := s.tre.sends.map fun e => if e.frame = m ∧ e.route = route then { e with ready := true } else e }

/-- A packing task of an update has not ended. -/
def State.stillPacks (s : State) (e : SendSlot) : Bool :=
  !(s.sched.live fun d => d.source == 2 && d.frame == e.frame && d.arg.toNat == e.route).isEmpty ||
  s.sched.subq[2].any fun d => d.frame == e.frame && d.arg.toNat == e.route

/-- The update of a frame goes to its span receiver, from the engine holding control of the frame (R222). -/
def State.sendPacked (s : State) (e : SendSlot) : State :=
  if s.holdsFrame e.frame = false then s
  else s.underImage e.frame fun s =>
    match s.sh.active.bind (fun im => (im.routes[e.route]?).map fun r => (im, r)), s.packedOf e.frame e.route with
    | some x, some slots => s.sendSpan x.1 e.route x.2 e.frame slots
    | _, _ => s

/-- Updates go out in their order: each that is packed once all before it have gone or will not come (R222). `n` bounds the
updates that go. -/
def State.sendReady : Nat → State → State
  | 0, s => s
  | n + 1, s => match s.tre.sends with
    | [] => s
    | e :: rest =>
      if e.ready then State.sendReady n (State.sendPacked { s with tre.sends := rest } e)
      else if s.stillPacks e then s
      else State.sendReady n { s with tre.sends := rest }

/-- Every update whose turn has come goes out. -/
def State.flushSends (s : State) : State := State.sendReady s.tre.sends.length s

/-- Hedgerow's task of a route packs the frame's update, and a span receiver's goes out in its turn (R222). -/
def State.packTask (s : State) (d : Desc) : State :=
  (s.underImage d.frame fun s => s.packOf d.arg.toNat d.frame).flushSends

/-- The input block as the tasks of frame `m` read it (R81). -/
def State.inputBlock (s : State) (m : U32) : InputBlock :=
  { taps := s.sh.taps.toList.map fun (x : Tap) => (x.recent.find? (·.frame == m)).getD {}, inputs := (s.inputsOf m).table }

/-- What a render task computes from, current apart (R81, R111). -/
def State.taskInput (s : State) (im : Image) (d : Desc) : TaskInput :=
  ⟨im, d.flow.toNat, d.frame, d.segment.toNat, d.level, s.inputBlock d.frame⟩

/-- The result of a render task (R111). -/
def State.effectOf (s : State) (d : Desc) : TaskOut :=
  match s.imageFor d.frame with
  | none => {}
  | some im => Config.effect (s.taskInput im d) s.deck.param (s.currentPixel im d.frame)

/-- The Deck accesses of a render task (R170). -/
def State.taskGrant (s : State) (d : Desc) : State :=
  match s.imageFor d.frame with
  | none => s
  | some im => s.deckGrant (64 * Config.programAccesses (s.taskInput im d))

/-- The program of a running task stands in its core's local memory (R110). -/
def State.loaded (s : State) (d : Desc) : Bool :=
  decide ((s.sched.cores[(⟨d.core.toNat, d.core.isLt⟩ : Fin 64)]).loadedAt ≤ s.now)

/-- The scheduler's side of a task's end: a cancel in the same cycle has no effect (Table 3.7). -/
def Sched.endTask (c : Sched) (n now : Nat) : Sched :=
  let d := c.at n
  let c := if d.cancelAfter ∧ d.cancelAt = now then { c with cancelAfter := takeBack c.cancelAfter } else c
  Sched.yieldTo ((c.leaveCore n now).retire n now .ended .ended) ⟨d.core.toNat, d.core.isLt⟩ now

/-- A running task ends (R123, Table 3.3). -/
def State.taskEnd (s : State) (n : Nat) : State :=
  let d := s.sched.at n
  if d.st ≠ .running ∨ s.loaded d = false then s
  else
    let s := { s with sched := s.sched.endTask n s.now }
    let s := match d.source.val with
      | 0 => (match s.flowOf d with
        | some f => (s.taskWrites d f (s.effectOf d)).taskGrant d
        | none => s).trapSettle
      | 1 => s.bandDone d.arg.toNat
      | 2 => s.packTask d
      | _ => if d.arg = 1 then s.computeDigest d.frame else s
    s.renderCheck

/-! ### Release and commit (R83, R47, R100, R222) -/

/-- Hedgerow has read the last value of frame `m` from current: no packing task of it is left. -/
def State.packed (s : State) (m : U32) : Bool :=
  (s.sched.live fun d => d.source == 2 && d.frame == m).isEmpty && !(s.sched.subq[2].any fun d => d.frame == m)

/-- Hedgerow releases the last committed frame (R83). -/
def State.hedgerowRelease (s : State) : State :=
  match s.tre.committedUnder with
  | [] => s
  | e :: _ =>
    let s := s.flushSends
    if s.tre.released ≠ some e.1 ∧ s.packed e.1 = true then
      State.renderCheck (State.swapStep { s with tre.released := some e.1 })
    else s

/-- The gate frame has finished, and Hedgerow has released the frame before it (R83). -/
def State.commitReady (s : State) : Bool :=
  s.running && s.sched.renderEnd && s.fix.cmuBusy.isNone && s.fix.kinBusy.isNone &&
  s.fix.passFrame == some s.sched.gateFrame &&
  (match s.tre.committedUnder with
   | [] => true
   | e :: _ => s.tre.released == some e.1)

/-- The updates still to be sent once those of frame `m` join them, in order of P + λ - σ(O) (R222). -/
def State.askSends (s : State) (im : Image) (m : U32) : List SendSlot :=
  (s.sendOrder im).foldl (fun (l : List SendSlot) route =>
    if (im.routes[route]?).any (fun r => r.kind == 1) = false then l
    else
      let e : SendSlot := ⟨m, route, s.grid.p m + s.sendKey im route, false⟩
      l.takeWhile (fun x => decide (x.at_ ≤ e.at_)) ++ [e] ++ l.dropWhile fun x => decide (x.at_ ≤ e.at_)) s.tre.sends

/-- Packing tasks of a committed frame, one for each destination in the order of R222. -/
def State.askPack (s : State) (m : U32) : State :=
  match s.imageFor m with
  | none => s
  | some im =>
    let prio : Fin 8 := ⟨s.sched.cfg.priority[2].toNat % 8, Nat.mod_lt _ (by decide)⟩
    let s := { s with tre.packed := keepPacked m s.tre.packed, tre.sends := s.askSends im m }
    (s.sendOrder im).foldl (fun (s : State) route =>
      s.submit { frame := m, source := 2, priority := prio, arg := BitVec.ofNat 32 route,
                 pShort := BitVec.ofInt 32 (s.grid.p m) }) s

/-- What SHOW_STATUS keeps of a commit: the margin to the slipped cut-off, and how far the gate held the frame back beyond
its render start (Table 2.14). -/
def State.commitStats (s : State) (m : U32) (t : Nat) : State :=
  let margin : Int := s.grid.cutoff m + (s.grid.vals m).sigma (s.grid.slipOf m) - t
  let worst := match s.sh.worstMargin with
    | some w => min w margin
    | none => margin
  { s with sh.commitFrame := some m, sh.lastMargin := margin, sh.worstMargin := some worst,
           sh.gateWait := s.sh.gateNext, sh.gateNext := (max 0 ((t : Int) - s.grid.s (m + 1))).toNat }

/-- Frame `m` commits (R83): the halves exchange roles, its slip follows (R47, R48), and what waits for the commit goes on. -/
def State.commit (s : State) (m : U32) : State :=
  let t := s.full
  let slip := s.grid.slipAt m (s.grid.carried m) t
  let first := s.tre.committedUnder.isEmpty
  let s := { s with
    grid := { s.grid with nextCommit := m + 1, ownSlip := ((m, slip) :: s.grid.ownSlip).take 64, stallRaised := false }
    deck := s.deck.swap
    fix := { s.fix with outCur := s.fix.outNext, pass := s.fix.passNext,
                        loops := s.fix.loops.map fun (e : Nat × Loop) => (e.1, { e.2 with solve := e.2.solveNext }) } }
  let s := (s.commitStats m t).reportCommit m t
  let s := { s with sched := s.sched.gateTo (m + 1),
                    sh.swaps := s.sh.swaps.filter fun w => decide (0 < sdiff32 w.frame m) }
  let s := (((s.releaseCopies.askPack m).askDigest m).swapStep).checkClear 1
  let s := s.resyncBegin m
  (if first then s.floodMember else s).renderCheck

/-- FRAME_COMMIT. -/
def State.commitStep (s : State) : State := if s.commitReady then s.commit s.sched.gateFrame else s

end Sys2Proof.Machine
end

