-- ==== Sys2Proof/Machine/Grid.lean ====
section
/-! DEFINITION. Machine/Grid.lean: the commands and instants of the frame grid: its starts, changes and stops, ticks,
presentations, render starts and the slip limit (R41, R43, R49, R51, R66, R89). -/
namespace Sys2Proof.Machine
open Sys2Proof

/-! ### GRID_SET (R66) -/

/-- S(APPLY_FRAME) under the grid in force has passed (R66): not while the slip of the frame it stands on is unsettled, since
that frame is still to be presented. -/
def State.changeLate (s : State) (apply : U32) : Bool :=
  let g := { s.grid with change := none }
  decide (sdiff32 apply g.nextRender < 0) || (g.startKnown apply && decide (g.s apply ≤ (s.full : Int)))

/-- The LATCH of a frame has been issued or received (R66). -/
def State.latchInHand (s : State) (m : U32) : Bool :=
  decide (sdiff32 m s.grid.nextLatch < 0) || s.grid.latched.any fun e => e.1 == m

/-- A stop is accepted; a stop already accepted for an earlier frame stands. -/
def State.gridStopAt (s : State) (m : U32) : State :=
  match s.grid.stopAt with
  | some a => if sdiff32 m a < 0 then s.acceptStop m else s
  | none => s.acceptStop m

/-- GRID_SET: a start, a change or a stop, by RUN and the state of the grid (R66, R172, R427, R482). -/
def gridSet (q : Req) (s : State) : State :=
  serve opGridSet 32 q s fun s =>
    let p := q.payload
    let v := gridVals p
    let run := pbit p 31 0
    let apply := p32 p 24
    let kept := s.remember opGridSet 0 p
    let alone := !s.paired && s.others.isEmpty
    let strict : Bool := s.box.lock && s.box.lastCause == 8
    require (gridOk p && !(run && (strict || !s.fitsRate v)) &&
        !(!run && s.running && apply == 0xFFFFFFFF && !alone)) .denied <|
      if run then
        require (!s.deckTest) .busy <|
          if s.running then require (!s.changeLate apply) .late (done (kept.gridChange v apply))
          else require (!s.startLate v) .late (done (kept.gridStart v apply))
      else if s.running then
        let m := if apply = 0xFFFFFFFF then s.grid.nextLatch else apply
        require (!s.latchInHand m) .late (done ({ kept with grid.applyFrame := apply }.gridStopAt m))
      else done kept

/-- GRID_SET with the grid stopped and RUN = 1 (R66). -/
def execGridSetStart (q : Req) (s : State) : Host.Outcome State Fault Refusal := .next (gridSet q s)

/-- GRID_SET with the grid running and RUN = 1 (R66). -/
def execGridSetChange (q : Req) (s : State) : Host.Outcome State Fault Refusal := .next (gridSet q s)

/-- GRID_SET with RUN = 0 (R66). -/
def execGridSetStop (q : Req) (s : State) : Host.Outcome State Fault Refusal := .next (gridSet q s)

/-! ### Ticks and presentations (R41, R42, R49) -/

/-- A tick begins: DL0 to DL3 are examined, compare slots whose target had passed when it was armed fire, and an assertion of
the house override is due (R41, R57, R96, R119). -/
def State.tickBoundary (s : State) : State :=
  if (s.full : Int) < s.grid.nextTickAt then s
  else
    let t := s.grid.nextTickAt
    let s := { s with grid := s.grid.beginTick }
    let s := { s with sched := s.sched.tickRelease s.grid.tickCount,
                      sh.house.tickCame := s.sh.house.tickCame || s.sh.house.due }
    s.fireSlots (fun k => k.st == 1 && k.passed) fun _ => (s.full : Int) - t

/-- TICK_BOUNDARY (R41). -/
def execTickBoundary (dt : Nat) (s : State) : Host.Outcome State Fault Refusal := .next (s.elapse dt).tickBoundary

/-- The next frame to be presented whose LATCH is in hand; a frame that no LATCH named is passed over (R49, R219). -/
def Grid.toPresent (g : Grid) : Option U32 :=
  (g.latched.filter fun e => decide (0 ≤ sdiff32 e.1 g.nextPresent)).foldl (fun (x : Option U32) e =>
    match x with
    | none => some e.1
    | some m => if sdiff32 e.1 m < 0 then some e.1 else some m) none

/-- Frame `m` is presented: the last presented frame and its slip follow, and a change whose frame has come applies. -/
def State.present (s : State) (m : U32) : State :=
  let s := s.deckBoundary
  let s := { s with grid := { s.grid with frame := some m, slip := s.grid.slipOf m, nextPresent := m + 1,
                                          st := 2 }, fix.stepTick := s.grid.tickCount }
  let s := match s.grid.change with
    | some c => if s.grid.changed (m + 1) c.2 then s.applyChange (m + 1) else s
    | none => s
  s.stopStep

/-- The presentation time of frame `m` has come, by its LATCH: a target in wrap mode, P_SHORT (R49, R54, R55). -/
def State.latchReached (s : State) (m : U32) : Bool :=
  match s.tre.latches.find? fun e => e.1 == m with
  | some e => decide (0 ≤ sdiff32 s.short e.2)
  | none => decide (s.grid.p' m ≤ s.full)

/-- PRESENTATION_INSTANT (R49). -/
def execPresentationInstant (dt : Nat) (s : State) : Host.Outcome State Fault Refusal :=
  let s := s.elapse dt
  .next (match s.grid.toPresent with
    | none => s
    | some m => if s.presents m = true ∧ s.latchReached m = true then s.present m else s)

/-! ### Render start (R43, R89) -/

/-- The render start of frame `m` has come: S(m) needs the slip of frame m - L (R43). -/
def State.renderDue (s : State) (m : U32) : Bool :=
  s.presents m && s.grid.startKnown m && decide (s.grid.s m ≤ s.full)

/-- RENDER_START: what S(m) does, in order: at the first of a run, the member set is held (R218); then the activation that waits, the inputs of the frame, the cue sequencer (R78, R89,
R100, R142); forced check failures begin and end here (R484). -/
def execRenderStart (dt : Nat) (s : State) : Host.Outcome State Fault Refusal :=
  let s := s.elapse dt
  let m := s.grid.nextRender
  .next (if s.renderDue m then
      let s := if s.grid.startsAt m then { s with tre.startSet := s.others } else s
      let s := (((s.forceChecks m).activateAt m).inputsAt m).sequence m
      State.renderCheck { s with grid.nextRender := m + 1 }
    else s)

/-! ### Render stall and slip limit (R51) -/

/-- RENDER_STALL_TIMEOUT: E026 once, and a failed render completion check (R51, R385). -/
def execRenderStallTimeout (dt : Nat) (s : State) : Host.Outcome State Fault Refusal :=
  let s := s.elapse dt
  let m := s.grid.nextCommit
  .next (if s.presents m = true ∧ sdiff32 m s.grid.nextRender < 0 ∧ s.grid.stallRaised = false ∧
      s.grid.cutoff m + 60000000000 ≤ s.full then
      (State.raiseF { s with grid.stallRaised := true } 26 [f32 0 m, fN 4 1 1]).checkFail 1 false
    else s)

/-- SLIP_LIMIT_STOP: a frame not latched by the slip limit stops the grid from it (R51). -/
def execSlipLimitStop (dt : Nat) (s : State) : Host.Outcome State Fault Refusal :=
  let s := s.elapse dt
  let m := s.grid.nextLatch
  .next (if s.presents m = true ∧ s.grid.cutoff m + (s.grid.vals m).sigma 16776960 ≤ s.full then
      ((State.acceptStop { s with grid.applyFrame := m } m).raiseF 26 [f32 0 m, fN 4 1 2]).stopStep
    else s)

end Sys2Proof.Machine
end

