-- ==== Sys2Proof/Machine/Aes.lean ====
section
/-! DEFINITION. Machine/Aes.lean: AES, its key wrap, counter mode, GCM and CCM of R404. Table 12.1 names the algorithms by
their standards (FIPS 197, SP 800-38C, 38D and 38F), whose text is PRESUMED here (log 80). -/
namespace Sys2Proof

/-! ### The block cipher, its bytes as numbers -/

/-- A byte times x in the cipher's field. -/
def aesTwice (a : Nat) : Nat := (2 * a) ^^^ (a / 128 * 0x11B)

/-- A product in the cipher's field: the bits of `b` from bit `i - 1` down. -/
def aesTimes (a b : Nat) : Nat → Nat → Nat
  | 0, r => r
  | i + 1, r => force (aesTwice r ^^^ (b / 2 ^ i % 2 * a)) fun r => aesTimes a b i r

/-- A one in each of 16 bytes. -/
def aesOnes : Nat := (256 ^ 16 - 1) / 255
/-- A one in the first byte of each of the four columns. -/
def aesTops : Nat := (256 ^ 16 - 1) / (256 ^ 4 - 1)

/-- A byte turned left. -/
def turn8 (a k : Nat) : Nat := a * 2 ^ k % 256 + a * 2 ^ k / 256

/-- The substitution of a byte whose inverse is `b`: the sum of five of its rotations and 0x63. -/
def aesAffine (b : Nat) : Nat := b ^^^ turn8 b 1 ^^^ turn8 b 2 ^^^ turn8 b 3 ^^^ turn8 b 4 ^^^ 0x63

/-- The table of substitutions and the table that undoes it, entry i at byte i: p runs over the powers of 3, q over those of its
inverse. -/
def aesTables : Nat → Nat → Nat → Nat → Nat → Nat × Nat
  | 0, _, _, t, u => (t, u)
  | n + 1, p, q, t, u =>
    force (aesAffine q) fun a => force (t + a * 256 ^ p) fun t => force (u + p * 256 ^ a) fun u =>
    force (p ^^^ aesTwice p) fun p => force (aesTimes q 0xF6 8 0) fun q => aesTables n p q t u

/-- The substitution. -/
def aesSub (a : Nat) : Nat := (aesTables 255 1 1 0x63 0).1 / 256 ^ a % 256

/-- The substitution undone. -/
def aesUnsub (a : Nat) : Nat := (aesTables 255 1 1 0x63 0).2 / 256 ^ a % 256

/-- Two lists of bytes added in the field. -/
def xorAll (a b : List Nat) : List Nat := (a.zip b).map fun e => e.1 ^^^ e.2

/-- The next word of the key schedule, of those before it (newest first), for a key of `nk` words. -/
def aesNextWord (nk : Nat) (ws : List (List Nat)) : List Nat :=
  let i := ws.length
  let t := ws.headD []
  let t := if i % nk = 0 then
      xorAll ((t.drop 1 ++ t.take 1).map aesSub) [(List.range (i / nk - 1)).foldl (fun r _ => aesTwice r) 1, 0, 0, 0]
    else if 6 < nk ∧ i % nk = 4 then t.map aesSub
    else t
  xorAll t (ws.getD (nk - 1) [])

/-- A key schedule longer by `n` words. -/
def aesSchedule (nk : Nat) : Nat → List (List Nat) → List (List Nat)
  | 0, ws => ws
  | n + 1, ws => forceAll (aesNextWord nk ws) fun w => aesSchedule nk n (w :: ws)

/-- The round keys of a key of 16 or 32 bytes. -/
def aesRoundKeys (key : List U8) : List (List Nat) :=
  let nk := key.length / 4
  let first := ((List.range nk).map fun i => (bytesAt key (4 * i) 4).map BitVec.toNat).reverse
  let ws := (aesSchedule nk (3 * nk + 28) first).reverse
  (List.range (nk + 7)).map fun r => ((List.range 4).map fun j => ws.getD (4 * r + j) []).flatten

/-- Row r of the state moves r columns: byte i comes from byte 5 i (forward) or 13 i (back). -/
def aesRows (k : Nat) (s : List Nat) : List Nat := (List.range 16).map fun i => s.getD (k * i % 16) 0

/-- The bytes of a state as one number, byte i at place i. -/
def aesPack (s : List Nat) : Nat := s.foldr (fun b r => b + 256 * r) 0

/-- Every byte of a state times x. -/
def aesTwiceAll (s : Nat) : Nat := ((s &&& 0x7F * aesOnes) * 2) ^^^ ((s / 128 &&& aesOnes) * 0x1B)

/-- The rows of a state turned: row r takes row r + k. -/
def aesTurn (k s : Nat) : Nat :=
  ((s / 256 ^ k) &&& ((256 ^ (4 - k) - 1) * aesTops)) + ((s * 256 ^ (4 - k)) &&& ((256 ^ 4 - 256 ^ (4 - k)) * aesTops))

/-- Each column times the circulant of `c`. -/
def aesColumns (c s : List Nat) : List Nat :=
  force (aesPack s) fun x => force (aesTwiceAll x) fun x2 => force (aesTwiceAll x2) fun x4 => force (aesTwiceAll x4) fun x8 =>
  force ((List.range 4).foldl (fun r j =>
    let m := c.getD j 0
    r ^^^ aesTurn j ((m % 2 * x) ^^^ (m / 2 % 2 * x2) ^^^ (m / 4 % 2 * x4) ^^^ (m / 8 * x8))) 0) fun y =>
  (List.range 16).map fun i => y / 256 ^ i % 256

/-- The rounds forward: round keys one after another, the last round without the columns. -/
def aesRounds : List (List Nat) → List Nat → List Nat
  | [], s => s
  | k :: ks, s => forceAll (aesRows 5 (s.map aesSub)) fun t =>
      forceAll (xorAll (if ks.isEmpty then t else aesColumns [2, 3, 1, 1] t) k) fun s => aesRounds ks s

/-- The rounds back: the round keys from the last to the second. -/
def aesRoundsBack : List (List Nat) → Bool → List Nat → List Nat
  | [], _, s => s
  | k :: ks, last, s => forceAll (xorAll s k) fun t =>
      forceAll ((aesRows 13 (if last then t else aesColumns [14, 11, 13, 9] t)).map aesUnsub) fun s => aesRoundsBack ks false s

/-- One block enciphered under round keys. -/
def aesForward (ks : List (List Nat)) (b : List U8) : List U8 :=
  (aesRounds ks.tail (xorAll (b.map BitVec.toNat) (ks.headD []))).map (BitVec.ofNat 8)

/-- One block deciphered under round keys. -/
def aesBackward (ks : List (List Nat)) (b : List U8) : List U8 :=
  (xorAll (aesRoundsBack ks.tail.reverse true (b.map BitVec.toNat)) (ks.headD [])).map (BitVec.ofNat 8)

/-- Two byte lists added in the field. -/
def xorBytes (a b : List U8) : List U8 := (a.zip b).map fun e => e.1 ^^^ e.2

/-! ### Modes -/

/-- Key wrap undone (KW of SP 800-38F): the plaintext, where the integrity check passes. -/
def keyUnwrap (key wrapped : List U8) : Option (List U8) :=
  let ks := aesRoundKeys key
  let n := wrapped.length / 8 - 1
  let r := (List.range (6 * n)).foldl (fun (s : List U8 × List (List U8)) i =>
      let t := 6 * n - i
      let at_ := (t - 1) % n
      let b := aesBackward ks (xorBytes s.1 (be 8 t) ++ s.2.getD at_ [])
      (b.take 8, s.2.set at_ (b.drop 8)))
    (wrapped.take 8, (List.range n).map fun i => bytesAt wrapped (8 * (i + 1)) 8)
  if r.1 = List.replicate 8 0xA6 then some r.2.flatten else none

/-- Counter mode from a counter block of a fixed part and a count of `n` bytes, `first` for the first block. -/
def ctrMode (ks : List (List Nat)) (fixed : List U8) (n first : Nat) (m : List U8) : List U8 :=
  xorBytes m ((List.range (ceilDiv m.length 16)).flatMap fun i => aesForward ks (fixed ++ be n ((first + i) % 256 ^ n)))

/-- A product of GF(2^128) as GCM writes it: the first bit of a block is the highest of the number. -/
def gcmTimes (x y : Nat) : Nat :=
  ((List.range 128).foldl (fun (s : Nat × Nat) i =>
    (if x.testBit (127 - i) then s.1 ^^^ s.2 else s.1, if s.2 % 2 = 1 then s.2 / 2 ^^^ 0xE1 * 2 ^ 120 else s.2 / 2)) (0, y)).1

/-- Bytes filled with zeros to whole blocks. -/
def padBlocks (m : List U8) : List U8 := m ++ List.replicate ((16 - m.length % 16) % 16) 0

/-- GHASH of the associated data and the ciphertext. -/
def ghash (h : Nat) (aad c : List U8) : Nat :=
  let p := padBlocks aad ++ padBlocks c ++ be 8 (8 * aad.length) ++ be 8 (8 * c.length)
  (List.range (p.length / 16)).foldl (fun y i => gcmTimes (y ^^^ rdBE p (16 * i) 16) h) 0

/-- GCM undone, with an IV of 12 bytes: the plaintext, where the tag agrees. -/
def gcmOpen (key iv aad c tag : List U8) : Option (List U8) :=
  let ks := aesRoundKeys key
  let h := rdBE (aesForward ks (List.replicate 16 0)) 0 16
  let t := xorBytes (aesForward ks (iv ++ be 4 1)) (be 16 (ghash h aad c))
  if t = tag then some (ctrMode ks iv 4 2 c) else none

/-- The CBC-MAC of CCM with a length field of two bytes and a tag of `m` bytes. -/
def ccmMac (ks : List (List Nat)) (nonce aad msg : List U8) (m : Nat) : List U8 :=
  let flags := (if aad.isEmpty then 0 else 64) + 8 * ((m - 2) / 2) + 1
  let p := [BitVec.ofNat 8 flags] ++ nonce ++ be 2 msg.length ++
    (if aad.isEmpty then [] else padBlocks (be 2 aad.length ++ aad)) ++ padBlocks msg
  ((List.range (p.length / 16)).foldl (fun y i => aesForward ks (xorBytes y (bytesAt p (16 * i) 16))) (List.replicate 16 0)).take m

/-- CCM: the ciphertext and the tag of a message, under a nonce of 13 bytes. -/
def ccmSeal (key nonce aad msg : List U8) (m : Nat) : List U8 × List U8 :=
  let ks := aesRoundKeys key
  (ctrMode ks ([1] ++ nonce) 2 1 msg,
   xorBytes (ccmMac ks nonce aad msg m) (aesForward ks ([1] ++ nonce ++ [0, 0])))

/-- CCM undone: the message, where the tag agrees. -/
def ccmOpen (key nonce aad c tag : List U8) : Option (List U8) :=
  let msg := ctrMode (aesRoundKeys key) ([1] ++ nonce) 2 1 c
  if (ccmSeal key nonce aad msg tag.length).2 = tag then some msg else none

end Sys2Proof
end

