-- ==== Sys2Proof/Machine/Sha.lean ====
section
/-! DEFINITION. Machine/Sha.lean: SHA-256, SHA-384, HMAC-SHA-256 and the counter-mode KDF of R404 and R410. Table 12.1 names
the algorithms by their standards (FIPS 180-4, FIPS 198-1, SP 800-108), whose text is PRESUMED here (log 80). -/
namespace Sys2Proof

/-! ### Constants: fractions of roots of primes -/

/-- A number above 1 that no number of at most 20 divides, but itself and 1: the primes below 441. -/
def smallPrime (n : Nat) : Bool := decide (2 ≤ n) && (List.range 21).all fun d => decide (d < 2) || decide (n < d * d) || n % d != 0

/-- The first `n` primes, for `n` up to 80. -/
def firstPrimes (n : Nat) : List Nat := ((List.range 410).filter smallPrime).take n

/-- The greatest number of `bits` bits whose `k`-th power does not exceed `n`. -/
def rootFloor (k n : Nat) : Nat → Nat → Nat
  | 0, r => r
  | i + 1, r => rootFloor k n i (if (r + 2 ^ i) ^ k ≤ n then r + 2 ^ i else r)

/-- The first `w` bits of the fraction of the `k`-th root of `p`. -/
def rootBits (w k p : Nat) : Nat := rootFloor k (p * 2 ^ (k * w)) (w + 3) 0 % 2 ^ w

/-! ### The hash of FIPS 180-4, its words as numbers of `bits` bits -/

/-- What sets SHA-256 and SHA-512 apart: the rotations of the four mixing functions (the third number of `small` is a shift),
and the number of rounds. -/
structure ShaForm where
  bits : Nat
  big0 : Nat × Nat × Nat
  big1 : Nat × Nat × Nat
  small0 : Nat × Nat × Nat
  small1 : Nat × Nat × Nat
  rounds : Nat

/-- A word turned right. -/
def turnRight (w x k : Nat) : Nat := x / 2 ^ k + x * 2 ^ (w - k) % 2 ^ w

/-- A mixing function of the rounds: three rotations. -/
def mixBig (w : Nat) (r : Nat × Nat × Nat) (x : Nat) : Nat := turnRight w x r.1 ^^^ (turnRight w x r.2.1 ^^^ turnRight w x r.2.2)

/-- A mixing function of the schedule: two rotations and a shift. -/
def mixSmall (w : Nat) (r : Nat × Nat × Nat) (x : Nat) : Nat := turnRight w x r.1 ^^^ (turnRight w x r.2.1 ^^^ x / 2 ^ r.2.2)

/-- The schedule of a block, newest word first: each new word from those 2, 7, 15 and 16 places before it. -/
def shaWords (f : ShaForm) : Nat → List Nat → List Nat
  | 0, ws => ws
  | n + 1, ws =>
    force ((mixSmall f.bits f.small1 (ws.getD 1 0) + ws.getD 6 0 + (mixSmall f.bits f.small0 (ws.getD 14 0) + ws.getD 15 0)) % 2 ^ f.bits)
      fun x => shaWords f n (x :: ws)

/-- The rounds on the eight working variables a to h, places 0 to 7; a round's constant and word come added. -/
def shaRounds (f : ShaForm) : List Nat → List Nat → List Nat
  | [], v => v
  | kw :: rest, v =>
    let at_ := fun i => v.getD i 0
    let choose := (at_ 4 &&& at_ 5) ||| ((2 ^ f.bits - 1 ^^^ at_ 4) &&& at_ 6)
    let majority := (at_ 0 &&& (at_ 1 ||| at_ 2)) ||| (at_ 1 &&& at_ 2)
    force (at_ 7 + kw + choose + mixBig f.bits f.big1 (at_ 4)) fun t =>
    force ((t + majority + mixBig f.bits f.big0 (at_ 0)) % 2 ^ f.bits) fun a =>
    force ((at_ 3 + t) % 2 ^ f.bits) fun e => shaRounds f rest (a :: at_ 0 :: at_ 1 :: at_ 2 :: e :: at_ 4 :: at_ 5 :: at_ 6 :: [])

/-- One block of 16 words. -/
def shaStep (f : ShaForm) (h block : List Nat) : List Nat :=
  let ws := (shaWords f (f.rounds - 16) block.reverse).reverse
  let v := shaRounds f (((firstPrimes f.rounds).zip ws).map fun e => rootBits f.bits 3 e.1 + e.2) h
  forceAll ((h.zip v).map fun e => (e.1 + e.2) % 2 ^ f.bits) fun l => l

/-- The first `n` big-endian numbers of `b` bytes of a list. -/
def beWords (b : Nat) : Nat → List U8 → List Nat
  | 0, _ => []
  | n + 1, m => rdBE (m.take b) 0 b :: beWords b n (m.drop b)

/-- The hash of a message: padded with one bit and its length to whole blocks of 16 words. -/
def shaHash (f : ShaForm) (init : List Nat) (m : List U8) : List U8 :=
  let wb := f.bits / 8
  let tail := 2 * wb + 1
  let p := m ++ 0x80 :: List.replicate ((16 * wb - (m.length + tail) % (16 * wb)) % (16 * wb)) 0 ++ be (2 * wb) (8 * m.length)
  let n := p.length / (16 * wb)
  forceAll (beWords wb (16 * n) p) fun ws =>
    ((List.range n).foldl (fun h i => shaStep f h ((ws.drop (16 * i)).take 16)) init).flatMap (be wb)

/-- SHA-256: the initial value from the square roots of the first eight primes. -/
def sha256 (m : List U8) : List U8 :=
  shaHash ⟨32, (2, 13, 22), (6, 11, 25), (7, 18, 3), (17, 19, 10), 64⟩ ((firstPrimes 8).map (rootBits 32 2)) m

/-- SHA-384: six words of the hash of 64-bit words, the initial value from the ninth to the sixteenth prime. -/
def sha384 (m : List U8) : List U8 :=
  (shaHash ⟨64, (28, 34, 39), (14, 18, 41), (1, 8, 7), (19, 61, 6), 80⟩ (((firstPrimes 16).drop 8).map (rootBits 64 2)) m).take 48

/-! ### HMAC and the KDF -/

/-- HMAC-SHA-256. -/
def hmac (key msg : List U8) : List U8 :=
  let k := if 64 < key.length then sha256 key else key
  let k := bytesAt k 0 64
  sha256 (k.map (· ^^^ 0x5C) ++ sha256 (k.map (· ^^^ 0x36) ++ msg))

/-- R410: the first `bits` bits of K(1), K(2) and so on. -/
def kdf (key label : List U8) (bits : Nat) : List U8 :=
  let out := (List.range (ceilDiv bits 256)).flatMap fun i => hmac key (be 4 (i + 1) ++ label ++ [0] ++ be 4 bits)
  out.take (bits / 8)

end Sys2Proof
end

