-- ==== Sys2Proof/Machine/Curve.lean ====
section
/-! DEFINITION. Machine/Curve.lean: the curve P-384: the verification of ECDSA signatures and ECDH (R404). Table 12.1 names
them by their standards (FIPS 186-5, SP 800-56A; the curve is SP 800-186's), whose text is PRESUMED here (log 80). -/
namespace Sys2Proof

/-- The field's prime. -/
def curveP : Nat := 2 ^ 384 - 2 ^ 128 - 2 ^ 96 + 2 ^ 32 - 1
/-- The order of the base point. -/
def curveN : Nat := 0xFFFFFFFFFFFFFFFFFFFFFFFFFFFFFFFFFFFFFFFFFFFFFFFFC7634D81F4372DDF581A0DB248B0A77AECEC196ACCC52973
/-- The coefficient b; the coefficient a is -3. -/
def curveB : Nat := 0xB3312FA7E23EE7E4988E056BE3F82D19181D9C6EFE8141120314088F5013875AC656398D8A2ED19D2A85C8EDD3EC2AEF
/-- The base point. -/
def curveGx : Nat := 0xAA87CA22BE8B05378EB1C71EF320AD746E1D3B628BA79B9859F741E082542A385502F25DBF55296C3A545E3872760AB7
/-- Its second coordinate. -/
def curveGy : Nat := 0x3617DE4A96262C6F5D9E98BF9292DC29F8F41DBD289A147CE9DA3113B5F0B8C00A60B1CE1D7E819D7A431D7C90EA0E5F

/-- A point by three coordinates, x = X / Z^2 and y = Y / Z^3; Z = 0 at infinity. -/
structure Pt where
  x : Nat
  y : Nat
  z : Nat
  deriving DecidableEq, Repr

/-- A product modulo `m`. -/
def mulMod (m a b : Nat) : Nat := a * b % m
/-- A difference modulo `m`. -/
def subMod (m a b : Nat) : Nat := (a + m - b % m) % m

/-- A power modulo `m`: the exponent's bits from bit `i - 1` down. -/
def powMod (m b e : Nat) : Nat → Nat → Nat
  | 0, r => r
  | i + 1, r => force (if e.testBit i then r * r % m * b % m else r * r % m) fun r => powMod m b e i r

/-- The inverse modulo a prime of 384 bits. -/
def invMod (m a : Nat) : Nat := powMod m (a % m) (m - 2) 384 1

/-- A point with its coordinates computed. -/
def Pt.forced {α : Type} (a : Pt) (f : Pt → α) : α := force a.x fun x => force a.y fun y => force a.z fun z => f ⟨x, y, z⟩

/-- A point and itself added. -/
def Pt.twice (a : Pt) : Pt :=
  force (a.z * a.z % curveP) fun zz =>
  force (a.y * a.y % curveP) fun yy =>
  force (a.x * yy % curveP) fun b =>
  force (3 * subMod curveP a.x zz * (a.x + zz) % curveP) fun k =>
  force (subMod curveP (k * k) (8 * b)) fun x =>
  ⟨x, subMod curveP (k * subMod curveP (4 * b) x) (8 * yy * yy), 2 * a.y * a.z % curveP⟩

/-- Two points added. -/
def Pt.plus (a b : Pt) : Pt :=
  if a.z = 0 then b
  else if b.z = 0 then a
  else
    force (a.z * a.z % curveP) fun za =>
    force (b.z * b.z % curveP) fun zb =>
    force (a.x * zb % curveP) fun u =>
    force (a.y * zb % curveP * b.z % curveP) fun v =>
    force (subMod curveP (b.x * za) u) fun h =>
    force (subMod curveP (b.y * za % curveP * a.z) v) fun r =>
    if h = 0 then (if r = 0 then a.twice else ⟨1, 1, 0⟩)
    else
      force (h * h % curveP) fun hh =>
      force (hh * h % curveP) fun hhh =>
      force (u * hh % curveP) fun w =>
      force (subMod curveP (r * r) (hhh + 2 * w)) fun x =>
      ⟨x, subMod curveP (r * subMod curveP w x) (v * hhh), h * a.z % curveP * b.z % curveP⟩

/-- `e` times one point plus `f` times another: the bits of both from bit `i - 1` down. -/
def Pt.comb (g q gq : Pt) (e f : Nat) : Nat → Pt → Pt
  | 0, a => a
  | i + 1, a => a.forced fun a => Pt.comb g q gq e f i
      (match e.testBit i, f.testBit i with
       | true, true => a.twice.plus gq
       | true, false => a.twice.plus g
       | false, true => a.twice.plus q
       | false, false => a.twice)

/-- The base point. -/
def basePt : Pt := ⟨curveGx, curveGy, 1⟩

/-- The sum of `e` base points and `f` points `q`. -/
def combine (e f : Nat) (q : Pt) : Pt := (basePt.plus q).forced fun gq => Pt.comb basePt q gq e f 384 ⟨1, 1, 0⟩

/-- The coordinates of a point, none at infinity. -/
def Pt.affine (a : Pt) : Option (Nat × Nat) :=
  if a.z = 0 then none
  else force (invMod curveP a.z) fun i => some (a.x * (i * i % curveP) % curveP, a.y * (i * i % curveP) % curveP * i % curveP)

/-- A public key of 97 bytes, uncompressed: a point of the curve. -/
def readPoint (b : List U8) : Option Pt :=
  let x := rdBE b 1 48
  let y := rdBE b 49 48
  if p8 b 0 = 4 ∧ x < curveP ∧ y < curveP ∧ y * y % curveP = subMod curveP (x * x * x + curveB) (3 * x) then some ⟨x, y, 1⟩ else none

/-- A point as the 97 bytes of a public key. -/
def pointBytes (a : Pt) : List U8 :=
  match a.affine with
  | some c => [4] ++ be 48 c.1 ++ be 48 c.2
  | none => List.replicate 97 0

/-- ECDSA P-384 with SHA-384: whether `r`, `s` signs the message under the public key. -/
def ecdsaVerify (key msg : List U8) (r s : Nat) : Bool :=
  match readPoint key with
  | none => false
  | some q =>
    if r = 0 ∨ curveN ≤ r ∨ s = 0 ∨ curveN ≤ s then false
    else
      force (rdBE (sha384 msg) 0 48) fun e =>
      force (invMod curveN s) fun w =>
      match (combine (e * w % curveN) (r * w % curveN) q).affine with
      | none => false
      | some c => c.1 % curveN == r

/-- ECDH P-384: the shared secret of 48 bytes of a private scalar and a public key, none where that is no point. -/
def ecdhSecret (d : Nat) (key : List U8) : Option (List U8) :=
  match readPoint key with
  | none => none
  | some q => (combine 0 d q).affine.map fun c => be 48 c.1

/-- The public key of a private scalar. -/
def publicKey (d : Nat) : List U8 := pointBytes (combine d 0 basePt)

end Sys2Proof
end

