-- ==== Sys2Proof/Machine/BoxOps.lean ====
section
/-! DEFINITION. Machine/BoxOps.lean: Boxwood: persistent slots, derivation, working slots, protection changes and tamper
(R404 to R431). -/
namespace Sys2Proof.Machine
open Sys2Proof

/-! ### Persistent slots (R406 to R409) -/

/-- The valid copy with the greater SEQ (R407). -/
def Slot.best (k : Slot) : Option SlotCopy :=
  if k.a.st = .valid then
    if k.b.st = .valid ∧ 0 < sdiff32 k.b.seq k.a.seq then some k.b else some k.a
  else if k.b.st = .valid then some k.b
  else none

/-- Both copies are erased. -/
def Slot.erased (k : Slot) : Bool := k.a.st == .erased && k.b.st == .erased

/-- The state of a slot (R407): 0 empty, 1 valid, 2 unusable. In a debug boot every tag fails (R424). -/
def State.slotSt (s : State) (n : Nat) : Nat :=
  let k := s.box.slot.get {} n
  if k.erased then 0
  else if s.sys.boot.debugBoot || k.best.isNone then 2
  else 1

/-- The contents an operation takes from a slot; while the tamper lock stands it takes none (R407, R426). -/
def State.slotFor (s : State) (n : Nat) : Except Status SlotCopy :=
  if s.box.lock then .error .denied
  else if s.slotSt n = 2 then .error .slotUnusable
  else match (s.box.slot.get {} n).best with
    | some c => .ok c
    | none => .error .denied

/-- The copy that a write takes: the one that is not valid, else the one with the lower SEQ (R408); `true`: copy B. -/
def Slot.writesB (k : Slot) : Bool :=
  if k.a.st ≠ .valid then false
  else if k.b.st ≠ .valid then true
  else decide (sdiff32 k.b.seq k.a.seq < 0)

/-- A slot written with new contents; `ok`: the read-back passes (R408). -/
def Slot.write (k : Slot) (c : SlotCopy) (ok : Bool) : Slot :=
  let st : CopySt := if ok then .valid else .bad
  if k.writesB then { k with b := { c with st := st, seq := k.a.seq + 1 } }
  else { k with a := { c with st := st, seq := k.b.seq + 1 } }

/-- Working slots that descend from a persistent slot are zeroised (R411). -/
def State.zeroiseFrom (s : State) (n : Nat) : State := { s with box.wk := s.box.wk.filter fun e => e.2.root != n }

/-- Keystone seconds (R406). -/
def State.seconds (s : State) : Nat := s.full / 1000000000

/-- Write a persistent slot (R408). A write whose read-back fails twice leaves the other copy in use. -/
def State.writeSlot (s : State) (n : Nat) (c : SlotCopy) (fails : Nat) : State :=
  let k := (s.box.slot.get {} n).write { c with writtenS := s.seconds % 2 ^ 48 } (decide (fails < 2))
  ({ s with box.slot := s.box.slot.set {} n k }).zeroiseFrom n

/-! ### Derivation and working slots (R410, R411) -/

/-- The bytes of a text of ASCII. -/
def ascii (t : String) : List U8 := t.toList.map fun c => BitVec.ofNat 8 c.toNat

/-- The active root: the device root, in a debug boot the test root (R405, R424). -/
def State.activeRoot (s : State) : List U8 :=
  be 32 (if s.sys.boot.debugBoot then Config.testRoot else Config.deviceRoot).toNat

/-- The 128 bytes that the store holds for a copy of slot `n` written under a root (R406, Table 12.2): VALUE under the store key
in counter mode from the slot number and SEQ, TAG under the tag key, COMMIT last. A copy of state `valid` holds these; no command
and no output shows them (R418). -/
def SlotCopy.stored (c : SlotCopy) (root : List U8) (n : Nat) : List U8 :=
  let value := ctrMode (aesRoundKeys (kdf root (ascii "STOR") 256)) (be 1 n ++ be 4 c.seq.toNat) 11 0 c.value
  let head := pack 64 ([f32 0 c.seq, f8 4 c.kind, f8 5 c.uses, fN 0x10 6 c.writtenS] ++ fBytes 8 c.labelPrefix ++
    fBytes 0x18 c.name ++ fBytes 0x20 value)
  head ++ (hmac (kdf root (ascii "STAG") 256) (head ++ be 1 n)).take 16 ++ le 4 0x424F5843 ++ List.replicate 44 0

/-- USE bits of Table 12.2: 0 DERIVE, 1 UNWRAP, 2 IMAGE, 3 FIRMWARE, 4 CHALLENGE. -/
def SlotCopy.may (c : SlotCopy) (bit : Nat) : Bool := c.uses.getLsbD bit

/-- R410: a derivation from a slot is allowed: its use, and its LABEL_PREFIX. -/
def SlotCopy.allows (c : SlotCopy) (bit : Nat) (label : List U8) : Bool :=
  c.may bit && (c.labelPrefix == [0, 0, 0, 0] || c.labelPrefix == label.take 4)

/-- A free working slot, else the least recently used one (R411). -/
def Box.room (b : Box) : Nat :=
  match (List.range 64).find? fun i => !(b.wk.any fun e => e.1 == i) with
  | some i => i
  | none => match b.wk with
    | [] => 0
    | e :: r => (r.foldl (fun (m : Nat × WorkKey) x => if x.2.used < m.2.used then x else m) e).1

/-- Put a key into a working slot: the one that holds it already, or one with room. -/
def State.keep (s : State) (k : WorkKey) : State × Nat :=
  let n := match s.box.wk.find? fun e => e.2.blob == k.blob && e.2.root == k.root && e.2.id == k.id && e.2.label == k.label with
    | some e => e.1
    | none => s.box.room
  ({ s with box.wk := (n, { k with used := s.box.wkUses }) :: s.box.wk.filter (fun e => e.1 != n),
            box.wkUses := s.box.wkUses + 1 }, n)

/-- A working key is used (R411): the one of a root and an identity, marked the latest used. -/
def State.touch (s : State) (blob : Bool) (root : Nat) (id : U32) (label : List U8) : State :=
  { s with box.wk := s.box.wk.map (fun e =>
             if e.2.blob = blob ∧ e.2.root = root ∧ e.2.id = id ∧ e.2.label = label then (e.1, { e.2 with used := s.box.wkUses })
             else e),
           box.wkUses := s.box.wkUses + 1 }

/-- E119: an unwrap, derivation or verification fails. -/
def State.keyFail (s : State) (cause : Nat) (id : Nat) : State := s.raiseF 119 [fN 0 1 cause, fN 4 4 id]

/-- Derive a key from a slot into a working slot (R410, R411). -/
def State.derive (s : State) (n bit : Nat) (label : List U8) (bits : Nat) : Except Status (State × List U8) :=
  match s.slotFor n with
  | .error e => .error e
  | .ok c =>
    if c.allows bit label = false then .error .denied
    else
      let key := kdf c.value label bits
      .ok ((s.keep { blob := false, root := n, use := 0, id := BitVec.ofNat 32 (rd label 0 4), label := label, key := key,
                     used := 0 }).1, key)

/-- The key of a blob that is resident (R413). -/
def Box.blobKey (b : Box) (id : U32) (root : Nat) (use : U8) : Option (List U8) :=
  (b.wk.find? fun e => e.2.blob && e.2.id == id && e.2.root == root && e.2.use == use).map (·.2.key)

/-- E115: a blob key is needed. -/
def State.keyNeeded (s : State) (id : U32) (root : Nat) (use : Nat) : State :=
  s.raiseF 115 [f32 0 id, fN 4 1 root, fN 5 1 use]

/-! ### Proposals (R419 to R423) -/

/-- E116. -/
def State.raiseProposal (s : State) (p : Proposal) (step officer : Nat) : State :=
  s.raiseF 116 [f32 0 p.id, fN 4 1 step, fN 5 1 officer, fN 6 1 p.kind]

/-- The private scalar of the identity key: the 384-bit derivation "IDEN" from the active root, within the order (R405). -/
def State.identityScalar (s : State) : Nat := rdBE (kdf s.activeRoot (ascii "IDEN") 384) 0 48 % (curveN - 1) + 1

/-- What the key wrap of a SLOT_WRITE body holds: unwrapped under the "PROV" key of the secret that the identity key shares with
EPHEMERAL (R422). -/
def State.slotWritePlain (s : State) (body : List U8) : Option (List U8) :=
  match ecdhSecret s.identityScalar (bytesAt body 4 97) with
  | none => none
  | some z => keyUnwrap (kdf z (ascii "PROV" ++ be 4 s.tre.nodeId.toNat) 256) (bytesAt body 0x68 56)

/-- The message that an officer signs (Table 12.6). -/
def State.approvalMessage (s : State) (p : Proposal) : List U8 :=
  pack 44 ([fN 0 4 0x50415842, f32 4 s.tre.nodeId, f32 8 p.id] ++ fBytes 12 (be 32 p.nonce.toNat)) ++
    sha256 (BitVec.ofNat 8 p.kind :: p.body)

/-- Engine time at which the open proposal lapses (R420). -/
def Proposal.lapseAt (p : Proposal) : Nat :=
  if p.approvals.isEmpty then p.openedAt + 300000000000 else p.firstAt + 60000000000

/-- Bytes of the body of a kind (Table 12.7). -/
def bodyBytes (kind : Nat) (body : List U8) : Nat :=
  match kind with
  | 1 => 160
  | 2 => 8
  | 3 => 1
  | 4 => 4 + 48 * (p8 body 0).toNat
  | 5 => 1
  | 7 => 8
  | _ => 0

/-- The entries of an enrolment: INDEX and officer (Table 12.7). -/
def enrolEntries (body : List U8) : List (Nat × Officer) :=
  (List.range (p8 body 0).toNat).map fun i =>
    let o := 4 + 48 * i
    ((p8 body o).toNat, { name := bytesAt body (o + 8) 8, keyHash := bytesAt body (o + 16) 32 })

/-- The values of a TAMPER_SET body (Table 12.13). -/
def tamperCfg (p : List U8) : TamperCfg :=
  { response := p8 p 0, en := BitVec.ofNat 4 (pbits p 1 0 4), pol := BitVec.ofNat 4 (pbits p 1 4 4),
    filterUs := bytesAt p 2 4 }

/-- Officers in force: a debug boot finds the table's tags failing (R424). -/
def State.officers (s : State) : List (Nat × Officer) := if s.sys.boot.debugBoot then [] else s.box.officer

/-- An input is asserted, or a monitor trips (R431). -/
def Box.tampered (b : Box) : Bool := b.level != 0 || b.tripped != 0

/-- R421, R422, R426: whether a proposal of a kind may stand in the present state: the status of PROPOSE, and of the
application. `plain` is what WRAPPED of a SLOT_WRITE unwraps to. -/
def State.proposalCheck (s : State) (kind : Nat) (body : List U8) (plain : Option (List U8)) : Status :=
  let os := s.officers
  let slot := (p8 body 0).toNat
  if kind < 1 ∨ 8 < kind ∨ s.sys.boot.debugBoot = true ∨ body.length ≠ bodyBytes kind body then .denied
  else if s.box.lock = true ∧ (kind = 1 ∨ kind = 2 ∨ kind = 3 ∨ kind = 6) then .denied
  else if os.isEmpty = true ∧ ¬(kind = 4 ∧ slot = 2) then .denied
  else match kind with
    | 1 => match plain with
      | none => .denied
      | some p => if 32 ≤ slot ∨ (p8 p 32).toNat ≠ slot ∨ 2 < (p8 p 33).toNat then .denied else .ok
    | 2 => if 32 ≤ slot ∨ s.slotSt slot = 0 then .denied else if s.slotSt slot = 2 then .slotUnusable else .ok
    | 3 => if 32 ≤ slot then .denied else .ok
    | 4 =>
      let es := enrolEntries body
      let ix := es.map (·.1)
      if slot < 1 ∨ 2 < slot ∨ (ix.any fun i => decide (8 ≤ i) || os.any fun o => o.1 == i) = true ∨ ix.eraseDups ≠ ix then .denied
      else .ok
    | 5 => if (os.any fun o => o.1 == slot) = false ∨ os.length < 3 then .denied else .ok
    | 7 => if 2 < slot ∨ ((bytesAt body 2 4).any fun f => f == 0) = true then .denied else .ok
    | 8 => if s.box.tampered then .notReady else .ok
    | _ => .ok

/-- The slot contents of the plaintext of a SLOT_WRITE (R422). -/
def slotOfPlain (p : List U8) : SlotCopy :=
  { st := .valid, kind := p8 p 33, uses := p8 p 34 &&& 0x1F, labelPrefix := bytesAt p 36 4, name := bytesAt p 40 8,
    value := bytesAt p 0 32 }

/-- The tamper lock is removed (R431). -/
def State.tamperClear (s : State) : State :=
  let was := s.box.strict
  let s := { s with box.lock := false, box.latch := false, box.latchCause := 0, box.strict := 0,
                    ports.off := s.ports.off && was != 2 }
  (s.endCause 2 s.grid.lastFrameNo).raiseF 113 []

/-- Apply an approved change (R421, Table 12.7): none where its write fails twice (R408). -/
def State.applyProposal (s : State) (p : Proposal) (fails : Nat) : Option State :=
  let slot := (p8 p.body 0).toNat
  let stands : Bool := decide (fails < 2)
  match p.kind with
  | 1 =>
    let s := s.writeSlot slot (slotOfPlain p.plain) fails
    if stands then some s else none
  | 2 => match (s.box.slot.get {} slot).best with
    | none => none
    | some c => if stands then
        some (s.writeSlot slot { c with uses := p8 p.body 1 &&& 0x1F, labelPrefix := bytesAt p.body 4 4 } fails)
      else none
  | 3 => some (({ s with box.slot := s.box.slot.set {} slot {} }).zeroiseFrom slot)
  | 4 => if stands then some { s with box.officer := s.box.officer ++ enrolEntries p.body } else none
  | 5 => if stands then some { s with box.officer := s.box.officer.filter fun o => o.1 != slot } else none
  | 6 => some { s with box.debugNext := true }
  | 7 =>
    let t := tamperCfg p.body
    some { s with box.tamper := t, box.level := s.box.level &&& ~~~(s.box.tamper.pol ^^^ t.pol) }
  | _ => some s.tamperClear

/-- A write whose read-back failed twice leaves its copy not valid (R408). -/
def State.failedWrite (s : State) (p : Proposal) : State :=
  let slot := (p8 p.body 0).toNat
  if p.kind = 1 ∨ p.kind = 2 then s.writeSlot slot {} 2 else s

/-- TARGET of E117: slot or officer index. -/
def Proposal.target (p : Proposal) : Nat :=
  match p.kind with
  | 1 | 2 | 3 | 5 => (p8 p.body 0).toNat
  | 4 => (p8 p.body 4).toNat
  | _ => 0xFF

/-! ### Tamper (R425 to R431) -/

/-- R428: the response in force: 1 default, 2 strict. -/
def State.tamperResponse (s : State) : Nat :=
  if s.box.tamper.response = 0 then (if s.sys.boot.profile = 0 then 1 else 2) else s.box.tamper.response.toNat

/-- E112: MODE 0 start-up, 1 Run, 2 venue standby, 3 Off. -/
def State.raiseTamper (s : State) (cause mode : Nat) : State := s.raiseF 112 [fN 0 1 cause, fN 1 1 mode]

/-- R427: the strict response. -/
def State.strictStop (s : State) : State :=
  let s := { s with box.strict := 1, pier.actOut := s.pier.actOut.map fun _ => false }
  let s := if s.running then s.acceptStop s.grid.nextStop else s
  let s := s.beginCause 2 s.grid.lastFrameNo
  if s.sh.active.isNone && !s.running then { s.atRest with fix.restDue := false } else s

/-- A key operation, which a tamper aborts (Table 12.9): the commands that use a key or write a slot. The approval of a
TAMPER_CLEAR is refused in its own way (R431, R432). -/
def keyOp (b : Box) (op : Nat) : Bool :=
  op == opKeyLoad || op == opChallenge || op == opPropose ||
  (op == opApprove && (b.proposal.any fun p => p.kind != 8))

/-- A command in service that a tamper aborts answers ST_FAULT (Table 12.9). -/
def Svc.aborted (keyOp : Nat → Bool) (v : Svc) : Svc := if keyOp v.op.toNat then { v with abort := true } else v

/-- Zeroise every working slot and set the lock (R426). -/
def State.zeroise (s : State) (cause : Nat) : State :=
  { s with box.wk := [], box.lock := true, box.lastCause := BitVec.ofNat 8 cause, box.lastS := s.seconds,
           box.lastNs := s.full % 1000000000, box.lastAt := some (s.now / 4),
           mb.ch := s.mb.ch.map fun (c : Chan) => { c with svc := c.svc.map (Svc.aborted (keyOp s.box)) } }

/-- Boot halts in secure hold (Table 12.9). -/
def State.secureHold (s : State) : State :=
  { s with mb.engine := 3, ports.off := true, pier.actOut := none, box.latch := true }

/-- A tamper cause (R426, Table 12.9). Of causes in one count cycle the lowest is reported, and Boxwood zeroises once (R432); during
an orderly stop the stop goes on (Table 15.14). With VIN and VBAT both lost the tamper domain does not run (R425, R490). -/
def State.tamper (s : State) (cause : Nat) : State :=
  match s.pwr.mode with
  | .off => if s.pwr.tripAt.isNone && !s.pwr.vbatOk then s else { s with box.latch := true, box.latchCause := 9 }
  | .standby =>
    { s with box.wk := [], box.latch := true, box.latchCause := 8, box.lastS := s.seconds, box.lastNs := s.full % 1000000000 }
  | .run =>
    if s.box.lock = true ∧ s.box.lastAt = some (s.now / 4) then
      if cause < s.box.lastCause.toNat then
        State.amend { s with box.lastCause := BitVec.ofNat 8 cause } 112 [s.box.lastCause] [BitVec.ofNat 8 cause]
      else s
    else
    let s := s.zeroise cause
    if s.mb.engine = 0 ∨ s.mb.engine = 3 then (s.raiseTamper cause 0).secureHold
    else
      let s := s.raiseTamper cause 1
      if s.tamperResponse = 2 ∧ s.box.strict = 0 ∧ s.pwr.thermal.stop.isNone = true then s.strictStop else s

/-- The first cause that stands among enabled inputs (other than those of `but`) and monitors (Table 12.8, R432). -/
def Box.cause (b : Box) (but : BitVec 4) : Option Nat :=
  ((List.range 7).find? fun i =>
    if i < 4 then (b.level &&& b.tamper.en &&& ~~~but).getLsbD i else b.tripped.getLsbD (i - 4)).map (· + 1)

/-- A TAMPER_SET that enables an asserted input finds a tamper cause (R425, Table 12.8). -/
def State.tripEnabled (s : State) (was : BitVec 4) : State :=
  match s.box.cause was with
  | some c => if c < 5 then s.tamper c else s
  | none => s

/-- A latched alarm is found at wake (CAUSE 8) or at boot (CAUSE 9) (Table 12.9). -/
def State.foundLatched (s : State) : State :=
  if s.box.latch = true ∧ s.box.latchCause ≠ 0 then
    let c := s.box.latchCause.toNat
    State.raiseTamper { s with box.wk := [], box.lock := true, box.lastCause := s.box.latchCause, box.latchCause := 0 } c
      (if c = 8 then 2 else 3)
  else s

end Sys2Proof.Machine
end

