-- ==== Sys2Proof/Machine/Ethernet.lean ====
section
/-! DEFINITION. Machine/Ethernet.lean: the commands and events of the Ethernet ports, the cell pool and the host channels
(R310 to R333, R346). -/
namespace Sys2Proof.Machine
open Sys2Proof

/-! ### Settings and state -/

/-- The values of an ETH_SET payload (Table 9.11). -/
def ethCfg (p : List U8) : EthCfg :=
  { mode := BitVec.ofNat 8 (pbits p 1 0 3), rsFec := pbit p 1 3, anEn := pbit p 1 4, preemptEn := pbit p 1 5,
    rxPauseEn := pbit p 1 6, txPauseEn := pbit p 1 7, maxFrame := p16 p 2, mac := rd p 4 6, vid := rd p 10 2 % 4096,
    pcp := pbits p 11 4 3, ip := p32 p 12, netmask := p32 p 16, gateway := p32 p 20, dscpShow := p8 p 24,
    dscpExpress := p8 p 25, mgmtPort := p16 p 26, latchPort := p16 p 28, wSacn := p8 p 30, wMgmt := p8 p 31,
    wHost := p8 p 32, addFrag := p8 p 33, pauseQuanta := p16 p 34, xoffCells := p16 p 36, xonCells := p16 p 38,
    latchGroup := p32 p 40, txDelayPs := pInt p 44 4, rxDelayPs := pInt p 48 4, pauseEventUs := p16 p 52 }

/-- Every field of ETH_SET lies in its range (Table 9.11). -/
def EthCfg.ok (c : EthCfg) : Bool :=
  decide (c.mode.toNat ≤ 4) && inRange 1518 9216 c.maxFrame.toNat && decide (1 ≤ c.wSacn.toNat) &&
  decide (1 ≤ c.wMgmt.toNat) && decide (1 ≤ c.wHost.toNat) && decide (c.addFrag.toNat ≤ 3) &&
  decide (c.xonCells.toNat < c.xoffCells.toNat)

/-- Take ETH_SET's values into force: a change of mode, RS-FEC or auto-negotiation takes the link down (R346). -/
def State.setEth (p : List U8) (s : State) : State :=
  if h : (p8 p 0).toNat < 4 then
    let n : Fin 4 := ⟨(p8 p 0).toNat, h⟩
    let old := s.net.eth[n].cfg
    let c := ethCfg p
    let s := s.modEth n fun e => { e with cfg := c }
    if old.mode ≠ c.mode ∨ old.rsFec ≠ c.rsFec ∨ old.anEn ≠ c.anEn then s.ethDown n
    else (if old.preemptEn ≠ c.preemptEn then s.startVerify n else s).pauseCheck n
  else s

/-- ETH_SET (R346). -/
def execEthSet (q : Req) (s : State) : Host.Outcome State Fault Refusal :=
  .next (serve opEthSet 64 q s fun s =>
    let p := q.payload
    require (decide ((p8 p 0).toNat < 4) && (ethCfg p).ok) .denied
      (done ((s.remember opEthSet (p8 p 0).toNat p).setEth p)))

/-- The response of ETH_STATUS (Table 9.12). -/
def State.ethData (s : State) (e : Eth) : List U8 :=
  pack 64 [fB 0 0 e.link, fN 1 1 e.speed, fN 2 1 e.preempt, fB 3 0 (e.heldNow s.nowPs), fB 3 1 e.xoff, f32 4 e.framesTx,
    f32 8 e.framesRx, f32 12 e.fcsErrors, f32 16 e.csumErrors, f32 20 e.preemptions, f32 24 e.pauseRx, f32 28 e.pauseTx,
    f32 32 e.heldUs, f32 36 e.expressHeld, f32 40 e.unclassified, f32 44 e.hc.noBuffer, f32 48 e.txtsLost,
    f32 52 e.rxDiscarded, f32 56 e.tooLong]

/-- The counters of Table 9.12 at zero. -/
def Eth.clear (e : Eth) : Eth :=
  { e with framesTx := 0, framesRx := 0, fcsErrors := 0, csumErrors := 0, preemptions := 0, pauseRx := 0, pauseTx := 0,
           heldUs := 0, expressHeld := 0, unclassified := 0, hc := { e.hc with noBuffer := 0 }, txtsLost := 0,
           rxDiscarded := 0, tooLong := 0 }

/-- ETH_STATUS (R346). -/
def execEthStatus (q : Req) (s : State) : Host.Outcome State Fault Refusal :=
  .next (serve opEthStatus 2 q s fun s =>
    if h : (p8 q.payload 0).toNat < 4 then
      let n : Fin 4 := ⟨(p8 q.payload 0).toNat, h⟩
      answer (if pbit q.payload 1 0 then s.modEth n Eth.clear else s) (s.ethData s.net.eth[n])
    else .error .denied)

/-- QUEUE_SET (R322, R346). -/
def execQueueSet (q : Req) (s : State) : Host.Outcome State Fault Refusal :=
  .next (serve opQueueSet 4 q s fun s =>
    let n := rd q.payload 0 2
    let lim := rd q.payload 2 2
    require (decide (n < 0x58) && inRange 1 32768 lim) .denied
      (done ((s.remember opQueueSet n q.payload).modQueue n fun x => { x with limit := some lim })))

/-- QUEUE_STATUS: it clears OVERRUN (R322). -/
def execQueueStatus (q : Req) (s : State) : Host.Outcome State Fault Refusal :=
  .next (serve opQueueStatus 2 q s fun s =>
    let n := rd q.payload 0 2
    require (decide (n < 0x58)) .denied
      (let x := s.queue n
       answer (s.modQueue n fun x => { x with overrun := false })
        (pack 16 [fN 0 2 x.count, fN 2 2 (s.queueLimit n), fB 4 0 (s.queueFull n), fB 4 1 x.overrun,
          fN 6 2 (if s.poolFree = 32768 then 32767 else s.poolFree), f32 8 x.packets, f32 12 x.discarded])))

/-! ### Host channels (R329 to R333) -/

/-- The values of a HOSTCH_SET payload (Table 9.13). -/
def hostchCfg (p : List U8) : HostchCfg :=
  { rxEn := pbit p 1 0, txEn := pbit p 1 1, arpCopy := pbit p 1 2, allMulti := pbit p 1 3, vector := p8 p 2,
    rxEntries := p16 p 4, txEntries := p16 p 6, rxBase := p64 p 8, txBase := p64 p 16, irqFrames := p16 p 24,
    irqUs := p16 p 26 }

/-- A ring's entries: 64 to 4,096, a power of two. -/
def ringSize (n : Nat) : Bool := n == 64 || n == 128 || n == 256 || n == 512 || n == 1024 || n == 2048 || n == 4096

/-- A ring that stays enabled would change its base or size (R346). -/
def HostchCfg.moves (old new : HostchCfg) : Bool :=
  (old.rxEn && new.rxEn && (old.rxBase != new.rxBase || old.rxEntries != new.rxEntries)) ||
  (old.txEn && new.txEn && (old.txBase != new.txBase || old.txEntries != new.txEntries))

/-- Take HOSTCH_SET's values into force: enabling a ring sets HEAD and TAIL to 0; disabling the transmit ring discards what
waits in HOST (R329, R333). -/
def State.setHostch (s : State) (n : Fin 4) (c : HostchCfg) : State :=
  let h := s.net.eth[n].hc
  let rx := c.rxEn && !h.cfg.rxEn
  let tx := c.txEn && !h.cfg.txEn
  let off := h.cfg.txEn && !c.txEn
  let s := s.modEth n fun e => { e with hc := { h with
                                  cfg := c, rxHead := if rx then 0 else h.rxHead, rxTail := if rx then 0 else h.rxTail,
                                  txHead := if tx then 0 else h.txHead, txTail := if tx then 0 else h.txTail } }
  if off then s.dropTx n 5 else s

/-- HOSTCH_SET (R329, R346). -/
def execHostchSet (q : Req) (s : State) : Host.Outcome State Fault Refusal :=
  .next (serve opHostchSet 32 q s fun s =>
    let p := q.payload
    let c := hostchCfg p
    if h : (p8 p 0).toNat < 4 then
      let n : Fin 4 := ⟨(p8 p 0).toNat, h⟩
      require (decide (c.vector.toNat < 8) && ringSize c.rxEntries.toNat && ringSize c.txEntries.toNat &&
          inRange 1 4096 c.irqFrames.toNat && c.rxBase.toNat % 16 == 0 && c.txBase.toNat % 16 == 0) .denied
        (require (!s.mb.spi) .notReady
          (require (!s.net.eth[n].hc.cfg.moves c) .busy (done (s.setHostch n c))))
    else .error .denied)

/-- HOSTCH_STATUS (Table 9.10). -/
def execHostchStatus (q : Req) (s : State) : Host.Outcome State Fault Refusal :=
  .next (serve opHostchStatus 1 q s fun s =>
    if h : (p8 q.payload 0).toNat < 4 then
      let c := s.net.eth[(p8 q.payload 0).toNat].hc
      answer s (pack 24 [f16 0 c.rxHead, f16 2 c.rxTail, f16 4 c.txHead, f16 6 c.txTail, f32 8 c.rxFrames,
        f32 12 c.txFrames, f32 16 c.noBuffer, f32 20 c.txErrors])
    else .error .denied)

/-- TXTS_READ: the oldest entry is returned and removed (R333, Table 9.7). -/
def execTxtsRead (q : Req) (s : State) : Host.Outcome State Fault Refusal :=
  .next (serve opTxtsRead 1 q s fun s =>
    if h : (p8 q.payload 0).toNat < 4 then
      let n : Fin 4 := ⟨(p8 q.payload 0).toNat, h⟩
      let e := s.net.eth[n]
      let s' := s.modEth n fun e => { e with txts := e.txts.drop 1, txtsOver := false }
      answer s' (match e.txts with
        | [] => pack 16 [fB 2 2 e.txtsOver]
        | t :: r => pack 16 [f16 0 t.id, fB 2 0 true, fB 2 1 t.discarded, fB 2 2 e.txtsOver, fN 3 1 r.length, fN 4 6 t.s,
            fN 10 2 t.subns, fN 12 4 t.ns])
    else .error .denied)

/-- Descriptors of a ring between its HEAD and its TAIL, free-running counts (R438). -/
def ringCount (head tail : U16) : Nat := (tail - head).toNat

/-- A write of HC_RX_TAIL; an enabled ring alone takes it (R329). -/
def State.hcRxTail (s : State) (n : Fin 4) (tail : U16) : State :=
  if s.net.eth[n].hc.cfg.rxEn then s.modEth n fun e => { e with hc := { e.hc with rxTail := tail } } else s

/-- A write of HC_TX_TAIL. -/
def State.hcTxTail (s : State) (n : Fin 4) (tail : U16) : State :=
  if s.net.eth[n].hc.cfg.txEn then s.modEth n fun e => { e with hc := { e.hc with txTail := tail } } else s

/-- A doorbell moves the receive ring's TAIL (R329). -/
def execHcRxTailWrite (dt : Nat) (n : Fin 4) (tail : U16) (s : State) : Host.Outcome State Fault Refusal :=
  .next ((s.elapse dt).hcRxTail n tail)

/-- A doorbell moves the transmit ring's TAIL (R329). -/
def execHcTxTailWrite (dt : Nat) (n : Fin 4) (tail : U16) (s : State) : Host.Outcome State Fault Refusal :=
  .next ((s.elapse dt).hcTxTail n tail)

/-- Fill buffers with a frame: one part for each buffer, or none where the buffers end first (R331). -/
def fillBuffers : List RxDesc → List U8 → Option (List (RxDesc × List U8))
  | [], _ => none
  | d :: ds, b =>
    if b.length ≤ d.bytes then some [(d, b)]
    else (fillBuffers ds (b.drop d.bytes)).map fun r => (d, b.take d.bytes) :: r

/-- IRQ_VECTOR is signalled once IRQ_FRAMES are placed, or IRQ_US after the first (R330). -/
def State.hostchIrq (s : State) (n : Fin 4) : State :=
  let h := s.net.eth[n].hc
  let old := match h.since with
    | some t => s.cycExpired (t + h.cfg.irqUs.toNat * 1000)
    | none => false
  if 0 < h.unsignalled ∧ (h.cfg.irqFrames.toNat ≤ h.unsignalled ∨ old = true) then
    (s.modEth n fun e => { e with hc := { h with unsignalled := 0, since := none } }).msix h.cfg.vector.toNat
  else s

/-- The write-back of a receive descriptor (Table 9.5). -/
def rxWriteBack (f : PoolFrame) (len : Nat) (sop eop : Bool) : List U8 :=
  pack 8 [fN 0 2 len, fB 2 0 true, fB 2 1 sop, fB 2 2 eop, fB 2 3 (sop && f.csum), fB 2 4 (sop && f.csum && f.ipOk),
    fB 2 5 (sop && f.csum && f.l4Ok), fN 4 4 (if sop then (f.ts / 65536 % 2 ^ 32).toNat else 0)]

/-- Place a frame into the buffers given. -/
def State.placeFrame (s : State) (n : Fin 4) (f : PoolFrame) (parts : List (RxDesc × List U8)) : State :=
  let h := s.net.eth[n].hc
  let s := parts.foldl (fun (s : State) p => s.emit (.dmaWrite p.1.addr.toNat p.2)) s
  let s := parts.zipIdx.foldl (fun (s : State) p =>
    s.emit (.dmaWrite (h.cfg.rxBase.toNat + 16 * ((h.rxHead.toNat + p.2) % (max 1 h.cfg.rxEntries.toNat)) + 8)
      (rxWriteBack f p.1.2.length (p.2 == 0) (p.2 + 1 == parts.length)))) s
  s.modEth n fun e => { e with hc := { h with rxHead := h.rxHead + BitVec.ofNat 16 parts.length, rxFrames := h.rxFrames.inc,
                                              noBufRun := false, unsignalled := h.unsignalled + 1,
                                              since := some (h.since.getD s.now) } }

/-- The oldest HOST frame is placed into receive descriptors, or abandoned (R330, R331). `descs`: the descriptors from HEAD
as the engine reads them. -/
def execHostRxPlace (dt : Nat) (n : Fin 4) (descs : List RxDesc) (s : State) : Host.Outcome State Fault Refusal :=
  let s := s.elapse dt
  let h := s.net.eth[n].hc
  .next (match s.queueHead (rxQueue n.val 3) with
    | none => s.hostchIrq n
    | some f =>
      if h.cfg.rxEn = false then s
      else
        let s := s.rxTake n (rxQueue n.val 3)
        match fillBuffers (descs.take (ringCount h.rxHead h.rxTail)) f.bytes with
        | some parts => (s.placeFrame n f parts).hostchIrq n
        | none =>
          let s := s.modEth n fun e => { e with hc := { h with noBuffer := h.noBuffer.inc, noBufRun := true } }
          (s.raiseIf (!h.noBufRun) 91 [fN 0 1 n.val]).hostchIrq n)

/-- The descriptors of the first frame of a list: up to the first with EOP. -/
def frameDescs : List TxDesc → Option (List TxDesc)
  | [] => none
  | d :: ds => if d.eop then some [d] else (frameDescs ds).map (d :: ·)

/-- The write-back of a transmit descriptor: DONE, and ERROR where the frame was not sent (Table 9.6). -/
def State.txWriteBack (s : State) (n : Fin 4) (ds : List TxDesc) (error : Bool) : State :=
  let h := s.net.eth[n].hc
  let s := ds.zipIdx.foldl (fun (s : State) d =>
    s.emit (.dmaWrite (h.cfg.txBase.toNat + 16 * ((h.txHead.toNat + d.2) % (max 1 h.cfg.txEntries.toNat)) + 10)
      (pack 2 [fB 0 0 true, fB 0 1 d.1.sop, fB 0 2 d.1.eop, fB 0 3 d.1.csum, fB 0 4 d.1.tsReq, fB 0 5 error]))) s
  s.modEth n fun e => { e with hc := { h with txHead := h.txHead + BitVec.ofNat 16 ds.length } }

/-- A frame is copied from transmit descriptors into HOST (R324, R332). `descs`: the descriptors from HEAD with their
buffers. -/
def execHostTxFrame (dt : Nat) (n : Fin 4) (descs : List TxDesc) (s : State) : Host.Outcome State Fault Refusal :=
  let s := s.elapse dt
  let e := s.net.eth[n]
  .next (if e.hc.cfg.txEn = false then s
    else match frameDescs (descs.take (ringCount e.hc.txHead e.hc.txTail)) with
      | none => s
      | some ds =>
        let bytes := ds.flatMap (·.data)
        let ts := (ds.find? (·.tsReq)).map (·.tsId)
        let f : PoolFrame := { len := max 64 (bytes.length + 4), bytes := bytes, csum := ds.any (·.csum), tsReq := ts }
        if e.cfg.maxFrame.toNat < bytes.length + 4 then
          (s.txWriteBack n ds true).modEth n fun e =>
            { e with tooLong := e.tooLong.inc, hc := { e.hc with txErrors := e.hc.txErrors.inc } }
        else if s.queueRoom (txQueue n.val 5) f = false then s
        else ((s.queuePut (txQueue n.val 5) f).txWriteBack n ds false).modEth n fun e =>
          { e with hc := { e.hc with txFrames := e.hc.txFrames.inc } })

/-! ### Frames, PAUSE, preemption -/

/-- An Ethernet frame, or a message of the verify handshake, is received (R311, R314, R326). -/
def execEthFrameRx (dt : Nat) (x : EthIn) (s : State) : Host.Outcome State Fault Refusal :=
  let s := s.elapse dt
  .next (match x with
    | .frame f => s.ethReceive f
    | .verify n => if s.net.eth[n].link = true ∧ s.net.eth[n].cfg.preemptEn = true then s.emit (.verify n.val true) else s
    | .respond n =>
      if s.net.eth[n].preempt = 1 then (s.modEth n fun e => { e with preempt := 2 }).raiseF 89 [fN 0 1 n.val, fN 1 1 2] else s)

/-- A frame begins transmission from the transmit classes (R313 to R316). -/
def execEthFrameTx (dt : Nat) (n : Fin 4) (s : State) : Host.Outcome State Fault Refusal :=
  .next ((s.elapse dt).ethTransmit n)

/-- A PAUSE frame of `quanta` is received (R316, R317). -/
def execPauseRx (dt : Nat) (n : Fin 4) (quanta : U16) (s : State) : Host.Outcome State Fault Refusal :=
  let s := s.elapse dt
  .next (if s.net.eth[n].link then s.pauseRx n quanta.toNat else s)

/-- A PAUSE hold expires (R316). -/
def execPauseHoldEnd (dt : Nat) (n : Fin 4) (s : State) : Host.Outcome State Fault Refusal :=
  let s := s.elapse dt
  .next (match s.net.eth[n].holdPs with
    | some t => if t ≤ s.nowPs then s.endHold n t else s
    | none => s)

/-- A hold has lasted longer than PAUSE_EVENT_US (R316). -/
def execPauseLongTimeout (dt : Nat) (n : Fin 4) (s : State) : Host.Outcome State Fault Refusal :=
  let s := s.elapse dt
  let e := s.net.eth[n]
  .next (if e.heldNow s.nowPs = true ∧ e.holdRaised = false ∧ s.cycExpired (e.holdFrom + e.cfg.pauseEventUs.toNat * 1000) = true then
      (s.modEth n fun e => { e with holdRaised := true }).raiseF 95 [fN 0 1 n.val]
    else s)

/-- Half the quanta time has passed with the count still high (R318). -/
def execPauseRefresh (dt : Nat) (n : Fin 4) (s : State) : Host.Outcome State Fault Refusal :=
  let s := s.elapse dt
  let e := s.net.eth[n]
  .next (if e.xoff = true ∧ 1000 * e.xoffAt + quantaPs e.speed e.cfg.pauseQuanta.toNat / 2 ≤ s.nowPs then
      if e.cfg.xonCells.toNat ≤ s.rxCells n then s.sendPause n e.cfg.pauseQuanta.toNat else s.sendPause n 0
    else s)

/-- The 10 ms verify time passes: three tries, then verification has failed (R314). -/
def execPreemptVerifyTimeout (dt : Nat) (n : Fin 4) (s : State) : Host.Outcome State Fault Refusal :=
  let s := s.elapse dt
  let e := s.net.eth[n]
  .next (if e.preempt = 1 ∧ s.fwExpired (e.verifyAt + 10000000) = true then
      if e.verifyTries < 3 then
        (s.modEth n fun e => { e with verifyTries := e.verifyTries + 1, verifyAt := s.now }).emit (.verify n.val false)
      else (s.modEth n fun e => { e with preempt := 3 }).raiseF 89 [fN 0 1 n.val, fN 1 1 3]
    else s)

/-- The link of a port goes up, at a SPEED of Table 9.12, or down (R346). -/
def execEthLinkChange (dt : Nat) (n : Fin 4) (up : Bool) (speed : Nat) (s : State) : Host.Outcome State Fault Refusal :=
  let s := s.elapse dt
  .next (if up then s.ethUp n speed else s.ethDown n)

/-- An IGMP query is answered with a report of each group joined (R327). -/
def execIgmpQuery (dt : Nat) (n : Fin 4) (s : State) : Host.Outcome State Fault Refusal :=
  let s := s.elapse dt
  let recs := (s.groups n).map fun g => (2, g)
  .next (if s.net.eth[n].link = false ∨ recs = [] then s
    else (s.ethPut n 4 (s.net.eth[n].cfg.igmpReport (Config.ipFree s.fresh) recs)).draw)

/-- ARP for a port's address, from the MAC and IPv4 address given, is answered by firmware (R326). -/
def execArpRequest (dt : Nat) (n : Fin 4) (target : U32) (mac : Nat) (sender : U32) (s : State) : Host.Outcome State Fault Refusal :=
  let s := s.elapse dt
  let e := s.net.eth[n]
  .next (if e.link = true ∧ target = e.cfg.ip ∧ e.cfg.ip ≠ 0 then
      s.ethPut n 4 (e.cfg.arpReply mac sender)
    else s)

end Sys2Proof.Machine
end

