-- ==== Sys2Proof/Machine/MailOps.lean ====
section
/-! DEFINITION. Machine/MailOps.lean: the rings, take-up and responses of the mailbox channels, authentication, the W0 map and
the settings of the transports (R436 to R467). -/
namespace Sys2Proof.Machine
open Sys2Proof

/-- Change a channel. -/
def State.modCh (s : State) (c : Fin 8) (f : Chan → Chan) : State := { s with mb.ch := s.mb.ch.set c (f s.mb.ch[c]) }

/-! ### Rings (R438, R442) -/

/-- W0 address of unit `k` of a ring (R442): `k` is a free-running count of 16 bits. -/
def unitAt (base size : Nat) (k : U16) : Nat := base + 64 * (k.toNat % size)

/-- Request ring of a channel, 64 units (Table 13.2). -/
def reqUnit (c : Fin 8) (k : U16) : Nat := unitAt (0x2000 + 0x1000 * c.val) 64 k

/-- Response ring of a channel, 48 units (Table 13.2). -/
def rspUnit (c : Fin 8) (k : U16) : Nat := unitAt (0xA000 + 0x0C00 * c.val) 48 k

/-- Units a message of `len` payload bytes takes (R442). -/
def msgUnits (len : Nat) : Nat := 1 + ceilDiv len 64

/-- `n` units of a request ring from unit `k`. -/
def State.readUnits (s : State) (c : Fin 8) (k : U16) (n : Nat) : List U8 :=
  (List.range n).flatMap fun i => s.mb.w0.reads 0 (reqUnit c (k + BitVec.ofNat 16 i)) 64

/-- Write a message, padded to whole units, into a response ring from unit `k`. -/
def State.writeUnits (s : State) (c : Fin 8) (k : U16) (bytes : List U8) : State :=
  (List.range (ceilDiv bytes.length 64)).foldl (fun (s : State) i =>
    { s with mb.w0 := s.mb.w0.writes 0 (rspUnit c (k + BitVec.ofNat 16 i)) (bytesAt bytes (64 * i) 64) }) s

/-! ### Messages (Table 13.3) -/

/-- The header fields that the engine reads. -/
structure MsgHead where
  op : Nat
  len : Nat
  response : Bool
  bulk : Bool
  fence : Bool
  chan : Nat
  tag : U32
  expire : U32
  key : U32
  counter : U64
  deriving DecidableEq, Repr

/-- The header that a message's first 64 bytes spell. -/
def msgHead (b : List U8) : MsgHead :=
  { op := rd b 0 2, len := rd b 4 2, response := pbit b 6 0, bulk := pbit b 6 1, fence := pbit b 6 2, chan := (p8 b 7).toNat,
    tag := p32 b 8, expire := p32 b 0x10, key := p32 b 0x20, counter := p64 b 0x28 }

/-- A response's header with MAC zero; `done`: the short time it is written. -/
def Rsp.header (r : Rsp) (c : Nat) (done : U32) : List U8 :=
  pack 64 [f16 0 r.op, f16 2 r.status, fN 4 2 r.data.length, fB 6 0 true, fN 7 1 c, f32 8 r.tag, f32 0x14 r.taken,
    f32 0x18 done, f32 0x20 r.keyId, f64 0x28 r.counter]

/-- MAC: the first 128 bits of HMAC-SHA-256 over what the message carries, MAC as zero (R458). -/
def msgMac (key bytes : List U8) : List U8 := (hmac key bytes).take 16

/-- A message with MAC, from its bytes with MAC zero. -/
def withMac (b mac : List U8) : List U8 := b.take 48 ++ mac ++ b.drop 64

/-- The message key of a KEY_ID (R458): derived from MB_KEY_SLOT, or a USE 2 blob; an error of `true`: the blob is not
resident. -/
def State.messageKey (s : State) (id : U32) : Except Bool (State × List U8) :=
  let slot := s.mb.udp.keySlot.toNat
  if id.getLsbD 31 then
    match s.box.blobKey id slot 2 with
    | some k => .ok (s.touch true slot id [], k)
    | none => .error true
  else match s.derive slot 0 (ascii "MBOX" ++ be 4 id.toNat) 256 with
    | .ok r => .ok r
    | .error _ => .error false

/-- A response as it leaves: with the MAC of its request's key by UDP and relay, MAC zero in a ring (R458). -/
def State.signed (s : State) (c : Fin 8) (r : Rsp) : State × List U8 :=
  let b := r.header c.val s.short ++ r.data
  if r.via = .ring ∨ r.mac = false then (s, b)
  else match s.messageKey r.keyId with
    | .ok k => (k.1, withMac b (msgMac k.2 b))
    | .error _ => (s, b)

/-- Send a message back the way its request came: a datagram in class MGMT, or MGMT to the relaying engine (R457, R460). -/
def State.sendBack (s : State) (v : Via) (bytes : List U8) : State :=
  match v with
  | .ring => s
  | .udp e ip port => (s.emit (.udp e.val ip port bytes)).ethUdp e 4 ip s.net.eth[e].cfg.mgmtPort port bytes
  | .relay n => s.unicast n 0x0080 bytes

/-! ### Authentication (R13, R458, R459) -/

/-- Transport as E004 numbers it. -/
def Via.code : Via → Nat
  | .ring => 0 | .udp _ _ _ => 1 | .relay _ => 2

/-- BIND of the transport (Table 13.1). -/
def Via.bind : Via → U8
  | .ring => 0 | .udp _ _ _ => 1 | .relay _ => 2

/-- An authentication failure is counted; E004 at the start of a run of its transport and channel (R459). -/
def State.authFail (s : State) (v : Via) (chan : Nat) (key : U32) : State :=
  let s := if h : chan < 8 then s.modCh ⟨chan, h⟩ fun c => { c with authFails := c.authFails.inc } else s
  if s.mb.authRun.contains (v.code, chan) then s
  else State.raiseF { s with mb.authRun := (v.code, chan) :: s.mb.authRun } 4 [fN 0 1 v.code, fN 1 1 chan, f32 4 key]

/-- An accepted message ends the run. -/
def State.authPass (s : State) (v : Via) (chan : Nat) : State := { s with mb.authRun := s.mb.authRun.erase (v.code, chan) }

/-- The last counter accepted for a key ID, or its floor (R459). -/
def Mailboxes.floor (m : Mailboxes) (id : U32) : U64 :=
  match m.onDie.find? (·.1 == id) with
  | some e => e.2
  | none => match m.journal.find? (·.1 == id) with
    | some e => e.2
    | none => m.commonFloor

/-- A counter is accepted: held on die among 16, and journalled among 256; what leaves the journal raises the common floor
(R459). -/
def Mailboxes.acceptCounter (m : Mailboxes) (id : U32) (c : U64) : Mailboxes :=
  let j := m.journal.filter (fun e => e.1 != id) ++ [(id, c)]
  let gone := j.take (j.length - 256)
  { m with onDie := ((id, c) :: m.onDie.filter fun e => e.1 != id).take 16, journal := j.drop (j.length - 256),
           commonFloor := gone.foldl (fun f e => if f < e.2 then e.2 else f) m.commonFloor }

/-- A status that answers a message at once, MAC zero (R458, R459). -/
def State.answerNow (s : State) (v : Via) (h : MsgHead) (e : Status) : State :=
  let r : Rsp := { op := BitVec.ofNat 16 h.op, status := e.code, tag := h.tag, taken := s.short, keyId := h.key,
                   counter := h.counter, data := [] }
  s.sendBack v (r.header h.chan s.short)

/-- ST_DENIED, at most DENY_RATE times per second on each Ethernet port (R459). -/
def State.deny (s : State) (v : Via) (h : MsgHead) : State :=
  match v with
  | .udp e _ _ =>
    let w := if s.now < s.mb.denied[e].1 + 1000000000 then s.mb.denied[e] else (s.now, 0)
    if w.2 < s.mb.udp.denyRate.toNat then
      State.answerNow { s with mb.denied := s.mb.denied.set e (w.1, w.2 + 1) } v h .denied
    else s
  | _ => s.answerNow v h .denied

/-- The bytes the MAC covers: the header with MAC zero, the payload, and relayed bulk data (R458, R460). -/
def State.macInput (s : State) (v : Via) (b : List U8) : List U8 :=
  let h := msgHead b
  let plain := withMac (bytesAt b 0 (64 + h.len)) (List.replicate 16 0)
  match v with
  | .relay _ => if h.bulk then plain ++ (s.mb.rxStreams.get {} h.tag.toNat).bytes else plain
  | _ => plain

/-- R13, R457 to R459: a message that arrives by UDP or relay is authenticated and waits for take-up, is answered from the
cache, or fails. -/
def State.arrive (s : State) (v : Via) (b : List U8) : State :=
  let h := msgHead b
  let fail := fun (s : State) => (s.authFail v h.chan h.key).deny v h
  if hc : h.chan < 8 then
    let c : Fin 8 := ⟨h.chan, hc⟩
    let ch := s.mb.ch[c]
    if b.length < 64 + h.len ∨ b.length < 64 ∨ s.box.lock = true ∨ ch.bind ≠ v.bind then fail s
    else match s.messageKey h.key with
      | .error true => (s.keyNeeded h.key s.mb.udp.keySlot.toNat 2).answerNow v h .notReady
      | .error false => fail s
      | .ok (t, key) =>
        if msgMac key (t.macInput v b) ≠ bytesAt b 48 16 then fail t
        else if t.mb.floor h.key < h.counter then
          let t := { t with mb := t.mb.acceptCounter h.key h.counter }.authPass v h.chan
          t.modCh c fun ch => { ch with inbox := ch.inbox ++ [(v, b)], accepted := some (h.counter, h.tag), cached := none }
        else if ch.accepted = some (h.counter, h.tag) then
          match ch.cached with
          | none => t
          | some r => (t.modCh c fun ch => { ch with dupResends := ch.dupResends.inc }).sendBack v r
        else fail t
  else fail s

/-! ### Take-up (R443 to R451) -/

/-- The request that stands first on a channel: its way, its bytes, the units it takes, and whether all of it is there. A
LENGTH that no ring holds takes every unit that stands. -/
structure Front where
  via : Via
  bytes : List U8
  units : Nat
  whole : Bool
  deriving DecidableEq, Repr

/-- The request that stands first on a channel. -/
def State.front (s : State) (c : Fin 8) : Option Front :=
  let ch := s.mb.ch[c]
  let avail := (ch.reqTail - ch.reqHead).toNat
  if avail = 0 then
    match ch.inbox with
    | [] => none
    | e :: _ => some ⟨e.1, e.2, 0, true⟩
  else
    let hdr := s.readUnits c ch.reqHead 1
    let len := (msgHead hdr).len
    if 4032 < len then some ⟨.ring, hdr, avail, true⟩
    else if avail < msgUnits len then some ⟨.ring, hdr, avail, false⟩
    else some ⟨.ring, (s.readUnits c ch.reqHead (msgUnits len)).take (64 + len), msgUnits len, true⟩

/-- Opcode of the request in service on a channel: taken up, and its response neither written nor waiting for space. -/
def Chan.serving (c : Chan) : Option Nat :=
  match c.svc, c.rsp with
  | some v, _ => some v.op.toNat
  | none, some r => if c.st = 2 then none else some r.op.toNat
  | none, none => none

/-- Opcodes in service. -/
def Mailboxes.inService (m : Mailboxes) : List Nat := m.ch.toList.filterMap Chan.serving

/-- The channel can take up its request: strictly serial, at most four in service and one of each family, FENCE (R446, R447,
R449). -/
def State.mayTakeUp (s : State) (c : Fin 8) : Bool :=
  let ch := s.mb.ch[c]
  if ch.svc.isSome || ch.rsp.isSome || ch.msgWait.isSome then false
  else match s.front c with
    | none => false
    | some f =>
      let h := msgHead f.bytes
      let busy := s.mb.inService
      decide (busy.length < 4) && !(busy.any fun o => opFamily o == opFamily h.op) &&
      (!h.fence || s.mb.ch.toList.all fun x => x.svc.isNone && x.rsp.isNone)

/-- The short time `t` was reached, in wrap mode, in a tick before the present one (R6, R451). -/
def State.shortPassed (s : State) (t : U32) : Bool :=
  let d := sdiff32 s.short t
  decide (0 ≤ d) && s.tickExpired (s.now - d.toNat)

/-- The status that answers a request at take-up, in the order of R13, then its expiry (R444, R451, R457). -/
def State.verdict (s : State) (c : Fin 8) (f : Front) : Option Status :=
  let h := msgHead f.bytes
  if s.mb.ch[c].bind ≠ f.via.bind then some .denied
  else if !opcodes.contains h.op then some .unknownOp
  else if decide (4032 < h.len) || (h.bulk && f.via.bind == 1) then some .badLength
  else if h.expire != 0 && s.shortPassed h.expire then some .late
  else none

/-- A request is taken up: copied out, its ring space freed; one that fails is answered at once (R443). -/
def State.takeUp (s : State) (c : Fin 8) (f : Front) (e : Option Status) : State :=
  let h := msgHead f.bytes
  let auth := f.via != .ring
  let v : Svc := { op := BitVec.ofNat 16 h.op, tag := h.tag, taken := s.short, bulk := h.bulk, payload := (f.bytes.drop 64).take h.len, since := s.now,
                   keyId := if auth then h.key else 0, counter := if auth then h.counter else 0, via := f.via }
  let s := s.modCh c fun ch =>
    { ch with svc := some v, st := 1, reqHead := ch.reqHead + BitVec.ofNat 16 f.units, msgWait := none,
              inbox := if auth then ch.inbox.drop 1 else ch.inbox, taken := ch.taken.inc }
  match e with
  | none => if auth then s else s.authPass f.via c.val
  | some e =>
    let s := if e = .denied then s.authFail f.via c.val h.key else s
    let s := if e = .late then s.modCh c fun ch => { ch with expired := ch.expired.inc } else s
    s.respond c h.op h.tag e [] none

/-- The channel that takes up next: promoted after 16 losses in a row, then the lowest (R8, R9, R447). -/
def State.winner (s : State) : Option (Fin 8) :=
  let l := (List.finRange 8).filter s.mayTakeUp
  (l.find? fun c => decide (16 ≤ s.mb.ch[c].losses)) <|> l.head?

/-- Losses of the channels that could have taken up a request. -/
def State.countLosses (s : State) (w : Fin 8) : State :=
  { s with mb.ch := .ofFn fun (c : Fin 8) =>
      let ch := s.mb.ch[c]
      if c = w then { ch with losses := 0 } else if s.mayTakeUp c then { ch with losses := ch.losses + 1 } else ch }

/-- One take-up (R447): a message whose rest is missing makes its channel wait (R444). -/
def State.takeNext (s : State) : State :=
  match s.winner with
  | none => s
  | some c =>
    let s := s.countLosses c
    match s.front c with
    | none => s
    | some f =>
      let e := s.verdict c f
      if f.whole = false ∧ (e = none ∨ e = some .late) then
        s.modCh c fun ch => { ch with st := 3, msgWait := some s.now }
      else s.takeUp c f e

/-! ### What the host writes and reads in W0 (R438, R439) -/

/-- A write of REQ_TAIL: the channel's doorbell (R443, R444). -/
def State.doorbell (s : State) (c : Fin 8) (v : U16) : State :=
  s.modCh c fun ch => { ch with reqTail := v, msgWait := none, st := if ch.st = 3 then 0 else ch.st }

/-- Units of a response. -/
def Rsp.units (r : Rsp) : Nat := msgUnits r.data.length

/-- The response ring has room (R445). -/
def Chan.room (c : Chan) (r : Rsp) : Bool := decide ((c.rspTail - c.rspHead).toNat + r.units ≤ 48)

/-- A write of RSP_HEAD: with room again, the wait is over (R445). -/
def State.rspHead (s : State) (c : Fin 8) (v : U16) : State :=
  s.modCh c fun ch =>
    let ch := { ch with rspHead := v }
    match ch.rsp with
    | some r => if ch.room r then { ch with stall := none } else ch
    | none => ch

/-- A write of EVT_HEAD frees records (R462). A record that found the ring full in the same count cycle is written (R466). -/
def State.evtHead (s : State) (v : U16) : State :=
  let e := s.mb.ev
  let e := { e with head := v, unread := e.unread.drop (v - e.head).toNat }
  if e.refused ≠ [] ∧ e.refusedAt = s.now / 4 then
    e.refused.foldl (fun (s : State) x => s.writeEvent x.1 x.2)
      { s with mb.ev := { e with lost := e.lost - BitVec.ofNat 32 e.refused.length, lostPend := e.pendBefore, refused := [] } }
  else { s with mb.ev := e }

/-- The mask bit of an MSI-X vector is written; a pending vector that is unmasked is signalled (R437). -/
def State.msixMask (s : State) (v : Nat) (masked : Bool) : State :=
  let b : U8 := BitVec.ofNat 8 (2 ^ v)
  if masked then { s with mb.msixMask := s.mb.msixMask ||| b }
  else
    let s := { s with mb.msixMask := s.mb.msixMask &&& ~~~b }
    if s.mb.msixPend.getLsbD v then State.msix { s with mb.msixPend := s.mb.msixPend &&& ~~~b } v else s

/-- A W0 address in host-written memory: the MSI-X table and the request rings. -/
def hostW0 (a : Nat) : Bool := (decide (0x0800 ≤ a) && decide (a < 0x0880)) || (decide (0x2000 ≤ a) && decide (a < 0xA000))

/-- A host write of bytes to W0: kept in the MSI-X table and the request rings, else ignored (R439). -/
def State.w0Bytes (s : State) (a : Nat) (b : List U8) : State :=
  b.zipIdx.foldl (fun (s : State) e =>
    let x := a + e.2
    if hostW0 x then
      let s := { s with mb.w0 := s.mb.w0.set 0 x e.1 }
      if x < 0x0880 ∧ x % 16 = 12 then s.msixMask ((x - 0x0800) / 16) (e.1.getLsbD 0) else s
    else s) s

/-- A host write of bytes to W2, 4 MiB (R439). -/
def State.w2Bytes (s : State) (a : Nat) (b : List U8) : State :=
  if a < 0x400000 then { s with mb.w2 := s.mb.w2.writes 0 a (b.take (0x400000 - a)) } else s

/-- A byte of a 32-bit register of W0. -/
def regByte (v a : Nat) : U8 := BitVec.ofNat 8 (v / 256 ^ (a % 4))

/-- The registers of a channel in W0 (Table 13.2). -/
def Chan.reg (c : Chan) (off : Nat) : Nat :=
  match off / 4 with
  | 0 => c.reqTail.toNat
  | 1 => c.reqHead.toNat
  | 2 => c.rspTail.toNat
  | 3 => c.rspHead.toNat
  | 4 => c.st.toNat
  | _ => 0

/-- A byte of W0 as the host reads it (Table 13.2); any other address reads as zero (R439). -/
def State.w0Byte (s : State) (a : Nat) : U8 :=
  let m := s.mb
  let chan (i : Nat) : Chan := m.ch[(⟨i % 8, Nat.mod_lt _ (by decide)⟩ : Fin 8)]
  let eth (i : Nat) : Hostch := s.net.eth[(⟨i % 4, Nat.mod_lt _ (by decide)⟩ : Fin 4)].hc
  if a < 0x04 then regByte 0x36395856 a
  else if a < 0x08 then regByte 1 a
  else if a < 0x0C then regByte (m.engine.toNat + if m.spi then 256 else 0) a
  else if a < 0x10 then regByte s.tre.nodeId.toNat a
  else if a < 0x18 then (chan (a - 0x10)).bind
  else if a < 0x1C then regByte m.ev.tail.toNat a
  else if a < 0x20 then regByte m.ev.head.toNat a
  else if a < 0x0800 then 0
  else if a < 0x0880 then
    if a % 16 = 12 then (if m.msixMask.getLsbD ((a - 0x0800) / 16) then 1 else 0) else m.w0.get 0 a
  else if a < 0x0900 then 0
  else if a < 0x1000 then (if a = 0x0900 then m.msixPend else 0)
  else if a < 0x1100 then regByte ((chan ((a - 0x1000) / 0x20)).reg (a % 0x20)) a
  else if a < 0x1120 then
    let h := eth ((a - 0x1100) / 8)
    regByte (if a % 8 < 4 then h.rxTail.toNat else h.txTail.toNat) a
  else if a < 0x1800 then 0
  else if a < 0x10000 then m.w0.get 0 a
  else 0

/-! ### Settings (R462, R467) -/

/-- MB_CONFIG applies: a change of binding discards the requests of the channel not taken up (R467). -/
def State.setMb (p : List U8) (s : State) : State :=
  if h : (p8 p 0).toNat < 8 then
    let bind : U8 := BitVec.ofNat 8 (pbits p 1 0 2)
    s.modCh ⟨(p8 p 0).toNat, h⟩ fun c =>
      let c := if bind = c.bind then c
        else { c with reqHead := c.reqTail, inbox := [], msgWait := none, st := if c.st = 3 then 0 else c.st }
      { c with bind := bind, rspIrq := pbit p 1 2, rspPin := pbit p 1 3, vector := p8 p 2, rspStallMs := p16 p 4 }
  else s

/-- UDP_MB_SET applies (Table 13.11). -/
def State.setUdp (p : List U8) (s : State) : State :=
  { s with mb.udp := { keySlot := p8 p 0, portMask := BitVec.ofNat 8 (pbits p 1 0 4), denyRate := p16 p 2, relayWaitMs := p16 p 4 } }

/-- The values of an EVENT_SET payload (Table 13.13). -/
def eventCfg (p : List U8) : EventCfg :=
  { ringHost := pbit p 0 0, vector := p8 p 1, entries := p16 p 2, irqUs := p16 p 4, pinClasses := p8 p 6, irqClasses := p8 p 7,
    base := p64 p 8, mask := BitVec.ofNat 128 (rd p 16 16) }

/-- EVENT_SET: both pointers return to 0 and unread records are discarded (R462). -/
def State.setEvent (p : List U8) (s : State) : State :=
  { s with mb.ev := { s.mb.ev with cfg := eventCfg p, head := 0, tail := 0, unread := [] } }

/-! ### DMA faults and the PCIe endpoint (R440, R441) -/

/-- The engine uses DMA for a user: a bulk request in service, a host-channel ring or an event ring in host memory (R440). -/
def State.dmaActive (s : State) (u : DmaUser) : Bool :=
  match u with
  | .bulk c => s.mb.ch[c].svc.any (·.bulk)
  | .rxRing n => s.net.eth[n].hc.cfg.rxEn
  | .txRing n => s.net.eth[n].hc.cfg.txEn
  | .eventRing => s.mb.ev.cfg.ringHost

/-- 50 ms without a completion may have passed: a bulk transfer begins no earlier than its request is taken up (R440). -/
def State.dmaOverdue (s : State) (u : DmaUser) : Bool :=
  s.dmaActive u && (match u with
    | .bulk c => s.mb.ch[c].svc.any fun v => s.fwExpired (v.since + 50000000)
    | _ => true)

/-- A DMA fault of a user: a bulk request will answer ST_FAULT, a host-channel ring is disabled, an event ring in host memory
falls back to W0 (R440). -/
def State.dmaFails (s : State) (u : DmaUser) (addr : Nat) : State :=
  match u with
  | .bulk c => { s with mb.bulkFault := s.mb.bulkFault ||| BitVec.ofNat 8 (2 ^ c.val) }.dmaFault 0 c.val addr
  | .rxRing n => (s.modEth n fun e => { e with hc.cfg.rxEn := false }).dmaFault 1 n.val addr
  | .txRing n => (s.modEth n fun e => { e with hc.cfg.txEn := false }).dmaFault 1 n.val addr
  | .eventRing => { s with mb.ev.cfg.ringHost := false }.dmaFault 2 0 addr

/-- A channel bound to PCIe when the endpoint is reset: what is not taken up is discarded, what is in service runs to its end
and its response is discarded, the pointers return to 0 (R441). -/
def Chan.endpointReset (c : Chan) : Chan :=
  let on := c.svc.isSome || c.rsp.isSome
  { c with reqHead := 0, reqTail := 0, rspHead := 0, rspTail := 0, msgWait := none, stall := none, stallRaised := false,
           discard := on, st := if on then 1 else 0 }

/-- The endpoint is reset (R441): a bulk transfer in progress ends as a DMA fault (R466). -/
def State.endpointReset (s : State) : State :=
  let faults := (List.finRange 8).filter fun c =>
    s.mb.ch[c].bind == 0 && (match s.mb.ch[c].svc with
      | some v => v.bulk
      | none => false)
  let s := if s.mb.spi then s
    else
      let s := faults.foldl (fun (s : State) c => s.dmaFails (.bulk c) 0) s
      { s with mb.ch := s.mb.ch.map fun c => if c.bind = 0 then c.endpointReset else c }
  { s with mb := { s.mb with ev.cfg.ringHost := false, msixMask := 0xFF, msixPend := 0,
                             w0 := s.mb.w0.keep fun a _ => !(decide (0x0800 ≤ a) && decide (a < 0x0880)) },
           net.eth := s.net.eth.map fun (e : Eth) => { e with hc.cfg := { e.hc.cfg with rxEn := false, txEn := false } } }

/-! ### SPI (R454 to R456) -/

/-- FRAME_ERROR: counted, and E007 with its case at the start of a run (R456). -/
def State.spiError (s : State) (case : Nat) : State :=
  let first := !s.mb.spiRun
  State.raiseIf { s with mb := { s.mb with spiFrameErrors := s.mb.spiFrameErrors.inc, spiFrameError := true, spiRun := true } }
    first 7 [fN 0 1 case]

/-- An address of W0 or W2 (R455). -/
def spiAddr (a : Nat) : Bool := decide (a < 0x10000) || (decide (0x400000 ≤ a) && decide (a < 0x800000))

/-- A transaction that touches an address outside W0 and W2 is counted (R456). -/
def State.spiRange (s : State) (a n : Nat) : State :=
  if (List.range n).all fun i => spiAddr (a + i) then s else { s with mb.spiAddrErrors := s.mb.spiAddrErrors.inc }

/-- A transaction without a frame error ends the run. -/
def State.spiGood (s : State) : State := { s with mb.spiRun := false }

/-- One word written over SPI takes effect, a doorbell apart (R438, R456). -/
def State.spiWord (s : State) (a : Nat) (b : List U8) : State :=
  let v : U16 := p16 b 0
  let chan : Fin 8 := ⟨(a - 0x1000) / 0x20 % 8, Nat.mod_lt _ (by decide)⟩
  let eth : Fin 4 := ⟨(a - 0x1100) / 8 % 4, Nat.mod_lt _ (by decide)⟩
  if 0x400000 ≤ a then s.w2Bytes (a - 0x400000) b
  else if a = 0x1C then s.evtHead v
  else if 0x1000 ≤ a ∧ a < 0x1100 then (if a % 0x20 = 0x0C then s.rspHead chan v else s)
  else if 0x1100 ≤ a ∧ a < 0x1120 then (if a % 8 = 0 then s.hcRxTail eth v else s.hcTxTail eth v)
  else s.w0Bytes a b

/-- The doorbell that a word rings at the rise of CS_N (R456). -/
def State.spiBell (s : State) (a : Nat) (b : List U8) : State :=
  if 0x1000 ≤ a ∧ a < 0x1100 ∧ a % 0x20 = 0 then
    s.doorbell ⟨(a - 0x1000) / 0x20 % 8, Nat.mod_lt _ (by decide)⟩ (p16 b 0)
  else s

/-- A write transaction (R455, R456): whole words in ascending order, doorbells last. `part`: it ended within a byte. -/
def State.spiWrite (s : State) (a : Nat) (data : List U8) (part : Bool) : State :=
  if s.mb.spi = false then s
  else if a % 4 ≠ 0 then s.spiError 2
  else
    let words := (List.range (data.length / 4)).filterMap fun i =>
      if spiAddr (a + 4 * i) then some (a + 4 * i, bytesAt data (4 * i) 4) else none
    let s := words.foldl (fun (s : State) w => s.spiWord w.1 w.2) s
    let s := words.foldl (fun (s : State) w => s.spiBell w.1 w.2) s
    let s := s.spiRange a data.length
    if part = true ∨ data.length % 4 ≠ 0 then s.spiError 1 else s.spiGood

/-- A byte that a read returns (R455, R456). -/
def State.spiByte (s : State) (a : Nat) : U8 :=
  if a < 0x10000 then s.w0Byte a
  else if 0x400000 ≤ a ∧ a < 0x800000 then s.mb.w2.get 0 (a - 0x400000)
  else 0

/-- A read transaction of `n` bytes (R455, R456). -/
def State.spiRead (s : State) (a n : Nat) (part : Bool) : State :=
  if s.mb.spi = false then s
  else
    let s := (s.emit (.spi ((List.range n).map fun i => s.spiByte (a + i)))).spiRange a n
    if part = true ∨ (a + n) % 4 ≠ 0 then s.spiError 1 else s.spiGood

end Sys2Proof.Machine
end

