-- ==== Sys2Proof/Machine/Show.lean ====
section
/-! DEFINITION. Machine/Show.lean: loading show images, cue commands, audio taps (R85 to R107). -/
namespace Sys2Proof.Machine
open Sys2Proof

/-! ### Bulk data -/

/-- The payload length of a command with a bulk form (R444, R475): with BULK set, the descriptor form and no other. -/
def bulkLength (q : Req) (fixed : Nat) (k : Except Status Done) : Except Status Done :=
  if q.bulk ∧ q.payload.length ≠ fixed + 16 then .error .badLength else k

/-- Carry out `k` with the command's data, or answer ST_FAULT where its transfer faulted (R440). -/
def withBulk (q : Req) (off n : Nat) (s : State) (k : List U8 → Except Status Done) : Except Status Done :=
  if q.bulk && s.mb.bulkFault.getLsbD q.ch.val then
    .ok { st := { s with mb.bulkFault := s.mb.bulkFault &&& ~~~BitVec.ofNat 8 (2 ^ q.ch.val) }, status := .fault }
  else match bulkBytes q off n s with
  | some b => k b
  | none => .ok { st := s.dmaFault 0 q.ch.val (rd q.payload off 8), status := .fault }

/-! ### Images (R99, R102) -/

/-- Every byte of a range of the staged image has arrived. -/
def Staged.covers (x : Staged) (off n : Nat) : Bool :=
  (List.range n).all fun i => x.got.any fun g => decide (g.1 ≤ off + i) && decide (off + i < g.1 + g.2)

/-- Bytes of the active image; 0 where there is none. -/
def Show.activeBytes (x : Show) : Nat := match x.active with
  | some im => im.bytes
  | none => 0

/-- SHOW_LOAD_BEGIN (R99): a staged image that it replaces is discarded, and with it an activation that waits. -/
def execShowLoadBegin (q : Req) (s : State) : Host.Outcome State Fault Refusal :=
  .next (serve opShowLoadBegin 8 q s fun s =>
    let n := rd q.payload 0 4
    require (!s.box.lock) .denied <| require (decide (n + s.sh.activeBytes ≤ 0x3000000)) .notReady
      (require (s.sh.staged.st != 1 && s.sh.staged.st != 2) .busy
        (done { s with sh.staged := { st := 1, size := n, base := stagedBase s.sh.active n }, sh.next := none })))

/-- SHOW_LOAD_BLOCK (R99). -/
def execShowLoadBlock (q : Req) (s : State) : Host.Outcome State Fault Refusal :=
  let off := rd q.payload 0 4
  let n := rd q.payload 4 2
  .next (serve opShowLoadBlock (max 8 (needBulk q 8 n)) q s fun s =>
    bulkLength q 8
      (require (inRange 1 (if q.bulk then 4096 else 4024) n && !(q.bulk && bulkDenied q 8 n s) &&
          (s.sh.staged.st != 1 || decide (off + n ≤ s.sh.staged.size))) .denied
        (require (s.sh.staged.st == 1) .notReady <| require (!s.deckTest) .busy
          (withBulk q 8 n s fun b =>
            let x := s.sh.staged
            done (State.deckWrite { s with sh.staged := { x with data := x.data.writes 0 off b, got := (off, n) :: x.got } }
              (imageRegion + x.base + off) b)))))

/-- SHOW_LOAD_END: the checks of R76 begin (R99). -/
def execShowLoadEnd (q : Req) (s : State) : Host.Outcome State Fault Refusal :=
  .next (serve opShowLoadEnd 0 q s fun s =>
    require (s.sh.staged.st == 1) .notReady (done { s with sh.staged.st := 2, sh.staged.tag := q.tag }))

/-- The active image is discarded: its tasks are cancelled and its playheads go (R102, Table 3.6). -/
def State.unloadActive (s : State) : State :=
  { s with sched := s.sched.cancelAll s.now (fun d => d.source == 0 || d.source == 2), sh.active := none, sh.swaps := [], sh.lists := [],
           sh.levels := [], sh.faulted := [], tre.dests := [], fix.kin := [], fix.loops := [], fix.houseTable := [],
           fix.housePend := [], fix.kinOld := none, fix.kinHist := [], fix.kinBase := [] }

/-- SHOW_UNLOAD (R102). -/
def showUnload (q : Req) (s : State) : State :=
  serve opShowUnload 1 q s fun s =>
    let w := p8 q.payload 0
    require (decide (w.toNat ≤ 1)) .denied
      (if w = 0 then done { s with sh.staged := {}, sh.next := none }
       else require (!s.running) .notReady (done s.unloadActive))

/-- SHOW_UNLOAD of the staged image (R102). -/
def execShowUnloadStaged (q : Req) (s : State) : Host.Outcome State Fault Refusal := .next (showUnload q s)

/-- SHOW_UNLOAD of the active image (R102). -/
def execShowUnloadActive (q : Req) (s : State) : Host.Outcome State Fault Refusal := .next (showUnload q s)

/-- The response of SHOW_STATUS (Table 2.14). -/
def State.showData (s : State) : List U8 :=
  let x := s.sh
  let active : U64 := match x.active with
    | some im => im.imageId
    | none => 0
  let staged : Nat := if x.staged.st ≠ 0 ∧ x.staged.covers 0x10 8 then leVal (x.staged.data.reads 0 0x10 8) else 0
  pack 48 [f64 0 active, fN 8 8 staged, fN 16 1 x.staged.st, f8 17 x.staged.reason, fN 18 2 x.faulted.length,
    fN 20 4 x.activeBytes, fN 24 4 x.staged.size, f32 28 (lastFrame x.commitFrame), fI 32 4 (satS 32 x.lastMargin),
    fI 36 4 (satS 32 (x.worstMargin.getD 0)), fN 40 4 (sat32 x.gateWait)]

/-- SHOW_STATUS; the read clears WORST_MARGIN (R103). -/
def execShowStatus (q : Req) (s : State) : Host.Outcome State Fault Refusal :=
  .next (serve opShowStatus 0 q s fun s => answer { s with sh.worstMargin := none } s.showData)

/-! ### Cues (R90, R103, R104) -/

/-- CUE_GO (R90, R104): late once the render start of its frame has been taken. -/
def execCueGo (q : Req) (s : State) : Host.Outcome State Fault Refusal :=
  .next (serve opCueGo 16 q s fun s =>
    let p := q.payload
    let f := p32 p 8
    require (inRange 1 5 (p8 p 1).toNat && !(f == 0xFFFFFFFF && (s.paired || decide (1 < s.memberIds.length)))) .denied
      (require (f == 0xFFFFFFFF || !(s.running && decide (sdiff32 f s.grid.nextRender < 0))) .late
        (done { s with sh.goes := s.sh.goes ++ [⟨p8 p 0, p8 p 1, p32 p 4, f⟩] })))

/-- CUE_LIST_STATUS (R103, R541). -/
def execCueListStatus (q : Req) (s : State) : Host.Outcome State Fault Refusal :=
  .next (serve opCueListStatus 1 q s fun s =>
    let l := s.sh.list (p8 q.payload 0).toNat
    answer s (match l.cue with
      | none => pack 12 [fN 0 4 0xFFFFFFFF, fN 8 4 0xFFFFFFFF]
      | some c => pack 12 [fN 0 4 c, fN 4 1 (if l.paused then 2 else 1), fN 6 2 l.fadeLevel, f32 8 l.goFrame]))

/-- A TRIGGER message assigns a trigger its frame (R88, R89). -/
def execTriggerMsg (dt : Nat) (span : Fin 12) (m : Msg) (s : State) : Host.Outcome State Fault Refusal :=
  .next ((s.elapse dt).consume span m fun s =>
    s.takeTrigger (BitVec.ofNat 32 (rdBE m.payload 0 4)) (BitVec.ofNat 32 (rdBE m.payload 4 4)))

/-! ### Taps (R91 to R93, R105) -/

/-- The values of a TAP_SET payload (Table 2.16). -/
def tapCfg (p : List U8) : TapCfg :=
  { enable := pbit p 1 0, stream := p8 p 2, channel := p8 p 3, delayUs := p16 p 4, onsetDb := p16 p 6,
    onsetHoldMs := p16 p 8 }

/-- A tap takes TAP_SET's values: a window that has closed stays closed (R105). A tap that begins closes the first window
that ends later; one that turns to another channel leaves the samples of the old one. -/
def Tap.setCfg (x : Tap) (c : TapCfg) (first : U32) : Tap :=
  let same := x.cfg.stream == c.stream && x.cfg.channel == c.channel && x.cfg.enable
  { x with cfg := c, nextFrame := if x.cfg.enable then x.nextFrame else first, buf := if same then x.buf else [],
           part := if same then x.part else [], anchor := if same then x.anchor else none }

/-- Take TAP_SET's values into force (R105). -/
def State.setTap (p : List U8) (s : State) : State :=
  if h : (p8 p 0).toNat < 16 then
    let c := tapCfg p
    let x := s.sh.taps[(p8 p 0).toNat]
    let x := x.setCfg c (s.grid.frameAfter (s.full + c.delayUs.toNat * 1000 + 1))
    { s with sh.taps := s.sh.taps.set (p8 p 0).toNat x }
  else s

/-- TAP_SET (R105). -/
def execTapSet (q : Req) (s : State) : Host.Outcome State Fault Refusal :=
  .next (serve opTapSet 12 q s fun s =>
    let p := q.payload
    require (decide ((p8 p 0).toNat < 16) && decide ((p8 p 2).toNat < 16) && decide (rd p 4 2 ≤ 20000) &&
        inRange 1 1000 (rd p 8 2)) .denied
      (done (s.defer opTapSet (p8 p 0).toNat p)))

/-- The bytes of a tap feature record (Table 2.10). -/
def TapRec.bytes (r : TapRec) : List U8 :=
  pack 32 ([f32 0 r.frame, f32 4 r.windowEnd, f16 8 r.envelope, fB 10 0 r.onset, fB 10 1 r.stale, fB 10 2 r.clipped,
    f32 12 r.onsetTime] ++ r.bands.zipIdx.map fun b => f16 (16 + 2 * b.2) b.1)

/-- TAP_READ (R103). -/
def execTapRead (q : Req) (s : State) : Host.Outcome State Fault Refusal :=
  .next (serve opTapRead 1 q s fun s =>
    if h : (p8 q.payload 0).toNat < 16 then answer s (s.sh.taps[(p8 q.payload 0).toNat]).feat.bytes
    else .error .denied)

/-- G of a tap's window for frame `m` (R91). -/
def State.windowEnd (s : State) (x : Tap) (m : U32) : Int :=
  let v := s.grid.v
  v.pSigned (sdiff32 m v.n0 - v.l.toNat) - x.cfg.delayUs.toNat * 1000

/-- What onset detection keeps from block to block: mean energy, last onset, the onset of this window. -/
structure OnsetScan where
  mean : Nat
  last : Option Nat
  found : Option Nat
  deriving DecidableEq, Repr

/-- The share of a new block in the exponential mean energy, in units of 2^-32: 1 - exp(-1/75). -/
def onsetShare : Nat := 56886147

/-- The block energy exceeds the mean by ONSET_DB decibels, 8.8: E / mean > 10^(dB / 10) (R92). -/
def exceedsDb (e mean db : Nat) : Bool := decide (mean ^ 2560 * 10 ^ db < e ^ 2560)

/-- One block of onset detection (R92). DESIGN CHOICE: a block's energy is that of the whole block, so the sample at which it
exceeds the mean is the block's first (log entry 116). -/
def OnsetScan.block (o : OnsetScan) (c : TapCfg) (b : List (Nat × Int)) : OnsetScan :=
  let e := (b.map fun x => x.2.natAbs * x.2.natAbs).sum
  let t := (b.head?.map (·.1)).getD 0
  let rested := match o.last with
    | none => true
    | some l => decide (l + c.onsetHoldMs.toNat * 1000000 ≤ t)
  let hit := exceedsDb e o.mean c.onsetDb.toNat && rested && o.found.isNone
  let mean := (roundDiv ((o.mean : Int) * (2 ^ 32 - onsetShare) + e * onsetShare) (2 ^ 32)).toNat
  { mean := mean, last := if hit then some t else o.last,
    found := if hit then some t else o.found }

/-- Cut samples into `n` blocks of `k` samples. -/
def blocksOf (k : Nat) : Nat → List (Nat × Int) → List (List (Nat × Int))
  | 0, _ => []
  | n + 1, l => if l.length < k then [] else l.take k :: blocksOf k n (l.drop k)

/-- Samples per second of a tap's stream. -/
def Tap.rate (x : Tap) : Nat := if x.rate96 then 96000 else 48000

/-- `n` missing samples after the instant `t`: zeros at the sample instants (R93). -/
def zerosAfter (rate t n : Nat) : List (Nat × Int) := (List.range n).map fun i => (t + (i + 1) * 1000000000 / rate, 0)

/-- Sample instants after instant `a` and before `b`. -/
def instantsBetween (rate a b : Nat) : Nat := roundDiv (((b - a) * rate : Nat) : Int) 1000000000 |>.toNat.pred

/-- Sample instants after instant `a` and before the end `g` of a window. -/
def instantsTo (rate a : Nat) (g : Int) : Nat := ((g - 1 - a) * rate / 1000000000).toNat

/-- The samples that arrived, with zeros for those missing between them and up to the window's end (R93); `a` is the sample
instant last passed. -/
def fillGaps (rate : Nat) (g : Int) : Nat → List (Nat × Int) → List (Nat × Int)
  | a, [] => zerosAfter rate a (instantsTo rate a g)
  | a, v :: vs => zerosAfter rate a (instantsBetween rate a v.1) ++ v :: fillGaps rate g v.1 vs

/-- The samples of a window from `from_` to `g` at every sample instant, of which `xs` arrived (R93). A stream of which no
sample has arrived yet has its instants counted from the window's start. -/
def Tap.window (x : Tap) (from_ g : Int) (xs : List (Nat × Int)) : List (Nat × Int) :=
  match x.anchor, xs with
  | some a, _ => (fillGaps x.rate g a xs).filter fun v => decide (from_ ≤ v.1)
  | none, v :: vs =>
    let before := ((v.1 - from_) * x.rate / 1000000000).toNat
    (zerosAfter x.rate (v.1 - (before + 1) * 1000000000 / x.rate) before) ++ v :: fillGaps x.rate g v.1 vs
  | none, [] => zerosAfter x.rate from_.toNat (instantsTo x.rate from_.toNat g)

/-- The sample instant from which the next windows count. -/
def Tap.lastInstant (x : Tap) (xs all : List (Nat × Int)) : Option Nat :=
  if x.anchor.isNone && xs.isEmpty then none else match all.getLast? with
    | some v => some v.1
    | none => x.anchor

/-- A band filter takes a window's samples, and gives its new state and the band's level (R92). At rest it answers silence
with silence; else its response is a free value, since the spec gives its edges and order and no more. -/
def bandOf (b : Nat) (f : BitVec 256) (vals : List Int) : BitVec 256 × U16 :=
  if f = 0 ∧ (vals.all (· == 0)) = true then (0, 0) else Config.tapBand b f vals

/-- The features of a window: `xs` the samples that arrived, `all` those of every sample instant, the missing ones as zero
(R92, R93). DESIGN CHOICE: a sample reaches full scale at the largest magnitude a 24-bit sample can have on both sides,
2^23 - 1 (log entry 116). -/
def Tap.close (x : Tap) (m : U32) (g : Int) (xs all : List (Nat × Int)) : Tap :=
  let n := all.length
  let sum := (all.map fun v => v.2.natAbs * v.2.natAbs).sum
  let size := if x.rate96 then 128 else 64
  let run := x.part ++ all
  let bl := blocksOf size (run.length / size) run
  let o := bl.foldl (fun (o : OnsetScan) b => o.block x.cfg b) ⟨x.mean, x.lastOnset, none⟩
  let bands := (List.range 8).map fun b => bandOf b (x.filters.getD b 0) (all.map Prod.snd)
  let feat : TapRec :=
    { frame := m, windowEnd := BitVec.ofInt 32 g,
      envelope := BitVec.ofNat 16 (min 0xFFFF (isqrt (sum * 2 ^ 32 / (2 ^ 46 * max n 1)))),
      onset := o.found.isSome, stale := decide (2 * xs.length < n),
      clipped := xs.any fun v => decide (2 ^ 23 - 1 ≤ v.2.natAbs), onsetTime := BitVec.ofNat 32 (o.found.getD 0),
      bands := bands.map Prod.snd }
  { x with feat := feat, recent := (feat :: x.recent).take 16, mean := o.mean, lastOnset := o.last, part := run.drop (size * bl.length), nextFrame := m + 1,
           staleRun := feat.stale, filters := bands.map Prod.fst, anchor := x.lastInstant xs all }

/-- A tap's feature window closes (R91 to R93); an onset is observed by the triggers it meets (R87). -/
def execTapWindowClose (dt : Nat) (k : Fin 16) (s : State) : Host.Outcome State Fault Refusal :=
  let s := s.elapse dt
  let x := s.sh.taps[k]
  let m := x.nextFrame
  let g := s.windowEnd x m
  .next (if s.running = false ∨ x.cfg.enable = false ∨ s.full < g then s
    else
      let from_ := g - s.grid.v.period
      let xs := x.buf.filter fun v => decide (from_ ≤ v.1) && decide ((v.1 : Int) < g)
      let x' := { x with buf := x.buf.filter fun v => decide (g ≤ v.1) }.close m g xs (x.window from_ g xs)
      let s := { s with sh.taps := s.sh.taps.set k x' }
      let s := s.raiseIf (x'.feat.stale && !x.staleRun) 37 [fN 0 1 k.val, f32 4 m]
      if x'.feat.onset then
        s.observeAll (fun tr => tr.source == 3 && tr.condA.toNat == k.val &&
          decide (tr.condB.toNat % 65536 ≤ x'.feat.envelope.toNat)) ((x'.lastOnset.getD 0 : Nat) : Int)
      else s)

/-! ### House override settings (R105) -/

/-- Take HOUSE_SET's values into force. -/
def State.setHouse (p : List U8) (s : State) : State :=
  s.houseChange fun h => { h with cfg := { pinEnable := pbit p 0 0, flood := pbit p 0 1, filterUs := p16 p 2,
                                           mask := p32 p 4, releaseHoldMs := p16 p 8 } }

/-- HOUSE_SET (R105). -/
def execHouseSet (q : Req) (s : State) : Host.Outcome State Fault Refusal :=
  .next (serve opHouseSet 12 q s fun s =>
    require (inRange 1 1000 (rd q.payload 2 2) && inRange 1 10000 (rd q.payload 8 2)) .denied
      (done (s.defer opHouseSet 0 q.payload)))

end Sys2Proof.Machine
end

