-- ==== Sys2Proof/Machine/Mail.lean ====
section
/-! DEFINITION. Machine/Mail.lean: the host transports: doorbells, take-up, responses, DMA, PCI Express, SPI, the UDP mailbox,
relays and BULK streams, and the transport commands (R436 to R467). -/
namespace Sys2Proof.Machine
open Sys2Proof

/-! ### Rings (R443 to R451) -/

/-- REQ_TAIL_WRITE: the doorbell of a channel (R443, R499). -/
def execReqTailWrite (dt : Nat) (c : Fin 8) (tail : U16) (s : State) : Host.Outcome State Fault Refusal :=
  .next ((s.elapse dt).doorbell c tail)

/-- REQUEST_TAKE_UP: the next channel takes up its request; none before ready (R447, R499). -/
def execRequestTakeUp (dt : Nat) (s : State) : Host.Outcome State Fault Refusal :=
  let s := s.elapse dt
  .next (if s.mb.engine = 1 ∨ s.mb.engine = 2 then s.takeNext else s)

/-- MESSAGE_WAIT_TIMEOUT: 1 ms without a doorbell; the units that stand are discarded (R444). -/
def execMessageWaitTimeout (dt : Nat) (c : Fin 8) (s : State) : Host.Outcome State Fault Refusal :=
  let s := s.elapse dt
  .next (match s.mb.ch[c].msgWait, s.front c with
    | some t, some f => if s.fwExpired (t + 1000000) then s.takeUp c f (some .badLength) else s
    | _, _ => s)

/-- What a command left to be done once its response is written: MB_CONFIG and UDP_MB_SET apply, SYS_RESET begins (R467,
R478). -/
def State.afterResponse (s : State) (x : Nat × List U8) : State :=
  if x.1 = opMbConfig then s.setMb x.2
  else if x.1 = opUdpMbSet then s.setUdp x.2
  else if s.running then { s with sys.reset := .rest }.acceptStop s.grid.nextStop
  else { s with sys.reset := .at (s.now + 1000000) }

/-- A response leaves its channel: the channel is idle, and what waited for the response happens. -/
def State.responseDone (s : State) (c : Fin 8) (r : Rsp) : State :=
  let s := s.modCh c fun ch => { ch with rsp := none, st := 0, stall := none, stallRaised := false, discard := false }
  match r.post with
  | some x => s.afterResponse x
  | none => s

/-- A response is written into its ring, RSP_TAIL advances and the host is signalled; without room the channel waits (R445,
R465). -/
def State.ringResponse (s : State) (c : Fin 8) (r : Rsp) : State :=
  let ch := s.mb.ch[c]
  if ch.room r then
    let s := s.writeUnits c ch.rspTail (s.signed c r).2
    let s := s.modCh c fun ch => { ch with rspTail := ch.rspTail + BitVec.ofNat 16 r.units }
    let s := if ch.rspIrq && !s.mb.spi then s.msix ch.vector.toNat else s
    s.responseDone c r
  else s.modCh c fun ch => { ch with st := 2, stall := some (ch.stall.getD s.now) }

/-- RESPONSE_WRITE: the response of a channel is written, sent back, or discarded after an endpoint reset (R441, R445, R457,
R460). -/
def execResponseWrite (dt : Nat) (c : Fin 8) (s : State) : Host.Outcome State Fault Refusal :=
  let s := s.elapse dt
  .next (match s.mb.ch[c].rsp with
    | none => s
    | some r =>
      if s.mb.ch[c].discard then s.responseDone c r
      else if r.via = .ring then s.ringResponse c r
      else
        let b := s.signed c r
        let t := b.1.modCh c fun ch => { ch with cached := some b.2 }
        (t.sendBack r.via b.2).responseDone c r)

/-- RSP_HEAD_WRITE (R445). -/
def execRspHeadWrite (dt : Nat) (c : Fin 8) (head : U16) (s : State) : Host.Outcome State Fault Refusal :=
  .next ((s.elapse dt).rspHead c head)

/-- RSP_STALL_TIMEOUT: E005, and the channel goes on waiting (R445). -/
def execRspStallTimeout (dt : Nat) (c : Fin 8) (s : State) : Host.Outcome State Fault Refusal :=
  let s := s.elapse dt
  let ch := s.mb.ch[c]
  .next (match ch.stall with
    | none => s
    | some t =>
      if s.fwExpired (t + ch.rspStallMs.toNat * 1000000) ∧ ch.stallRaised = false then
        (s.modCh c fun ch => { ch with stallRaised := true, rspStalls := ch.rspStalls.inc }).raiseF 5 [fN 0 1 c.val]
      else s)

/-- EVT_HEAD_WRITE (R462). -/
def execEvtHeadWrite (dt : Nat) (head : U16) (s : State) : Host.Outcome State Fault Refusal :=
  .next ((s.elapse dt).evtHead head)

/-- W0_OTHER_WRITE: bytes written to W2, or to an address of W0 that has no row of its own (R439). -/
def execW0OtherWrite (dt : Nat) (w2 : Bool) (addr : Nat) (data : List U8) (s : State) : Host.Outcome State Fault Refusal :=
  let s := s.elapse dt
  .next (if w2 then s.w2Bytes addr data else s.w0Bytes addr data)

/-- IRQ_MODERATION_TIMER: signals that moderation held back are sent (R330, R465). -/
def execIrqModerationTimer (dt : Nat) (s : State) : Host.Outcome State Fault Refusal :=
  let s := s.elapse dt
  let s := if s.mb.ev.irqPend then s.signalEvents else s
  .next ((List.finRange 4).foldl (fun (s : State) n => s.hostchIrq n) s)

/-! ### DMA and PCI Express (R440, R441, R499) -/

/-- DMA_COMPLETION: a completion ends a run of faults, or with an error status is a fault (R440). -/
def execDmaCompletion (dt : Nat) (user : DmaUser) (addr : Nat) (ok : Bool) (s : State) : Host.Outcome State Fault Refusal :=
  let s := s.elapse dt
  .next (if ok then { s with mb.dmaRun := false } else if s.dmaActive user then s.dmaFails user addr else s)

/-- DMA_COMPLETION_TIMEOUT: no completion within 50 ms (R440). -/
def execDmaCompletionTimeout (dt : Nat) (user : DmaUser) (addr : Nat) (s : State) : Host.Outcome State Fault Refusal :=
  let s := s.elapse dt
  .next (if s.dmaOverdue user then s.dmaFails user addr else s)

/-- PCIE_ENDPOINT_RESET: the endpoint alone is reset (R441). -/
def execPcieEndpointReset (dt : Nat) (cause : EndpointReset) (s : State) : Host.Outcome State Fault Refusal :=
  let s := (s.elapse dt).endpointReset
  .next (match cause with
    | .perst => { s with mb.perstCount := s.mb.perstCount.inc, mb.pcieWidth := 0, mb.pcieGen := 0 }
    | .functionLevel => s
    | .linkLoss => { s with mb.pcieWidth := 0, mb.pcieGen := 0 })

/-- PERST_N_RELEASE: the endpoint leaves reset and its link trains at a width and generation of R437 (R499). -/
def execPerstNRelease (dt : Nat) (width : Fin 3) (gen : Fin 3) (s : State) : Host.Outcome State Fault Refusal :=
  let s := s.elapse dt
  .next { s with mb.pcieWidth := BitVec.ofNat 8 (2 ^ width.val), mb.pcieGen := BitVec.ofNat 8 (gen.val + 1) }

/-! ### SPI (R454 to R456) -/

/-- SPI_WRITE. -/
def execSpiWrite (dt : Nat) (addr : BitVec 24) (data : List U8) (part : Bool) (s : State) : Host.Outcome State Fault Refusal :=
  .next ((s.elapse dt).spiWrite addr.toNat data part)

/-- SPI_READ. -/
def execSpiRead (dt : Nat) (addr : BitVec 24) (n : Nat) (part : Bool) (s : State) : Host.Outcome State Fault Refusal :=
  .next ((s.elapse dt).spiRead addr.toNat n part)

/-- SPI_QWRITE: as WRITE, on four lines. -/
def execSpiQwrite (dt : Nat) (addr : BitVec 24) (data : List U8) (part : Bool) (s : State) : Host.Outcome State Fault Refusal :=
  .next ((s.elapse dt).spiWrite addr.toNat data part)

/-- SPI_QREAD: as READ, on four lines. -/
def execSpiQread (dt : Nat) (addr : BitVec 24) (n : Nat) (part : Bool) (s : State) : Host.Outcome State Fault Refusal :=
  .next ((s.elapse dt).spiRead addr.toNat n part)

/-- SPI_STATUS: the status byte; FRAME_ERROR clears (R455, R456). -/
def execSpiStatus (dt : Nat) (s : State) : Host.Outcome State Fault Refusal :=
  let s := s.elapse dt
  .next (if s.mb.spi then
      let b := pack 1 [fB 0 0 (s.mb.engine == 2), fB 0 1 s.eventNAsserted, fB 0 2 s.mb.spiFrameError]
      State.spiGood { s.emit (.spi b) with mb.spiFrameError := false }
    else s)

/-- SPI_UNKNOWN_INSTRUCTION: an instruction byte outside Table 13.6 (R456). -/
def execSpiUnknownInstruction (dt : Nat) (ins : U8) (s : State) : Host.Outcome State Fault Refusal :=
  let s := s.elapse dt
  .next (if s.mb.spi && !([0x02#8, 0x0B#8, 0x38#8, 0xEB#8, 0x05#8].contains ins) then s.spiError 3 else s)

/-- SPI_IDLE_TIMEOUT: CS_N held low for 10 ms without an edge of SCK abandons the transaction (R456); `idle` is the time since the
last edge, and a rise of CS_N in the count cycle of the expiry completes the transaction (R6, R466). -/
def execSpiIdleTimeout (dt idle : Nat) (s : State) : Host.Outcome State Fault Refusal :=
  let s := s.elapse dt
  .next (if s.mb.spi = true ∧ 10000000 ≤ idle ∧ s.cycExpired (s.now - (idle - 10000000)) = true then s.spiError 4 else s)

/-! ### UDP and relays (R457 to R461) -/

/-- UDP_MAILBOX_DATAGRAM (R457 to R459). The recovery ROM serves MB6 over ETH0, venue standby the ports of KEEP_ETH (R495,
R503). -/
def execUdpMailboxDatagram (dt : Nat) (d : Datagram) (s : State) : Host.Outcome State Fault Refusal :=
  let s := (s.elapse dt).rxTake d.eth (rxQueue d.eth.val 1)
  let served : Bool :=
    if s.mb.engine = 1 then d.eth == 0 && p8 d.data 7 == 6
    else s.mb.engine == 2 && (s.pwr.mode != .standby || s.pwr.keepEth.getLsbD d.eth.val)
  .next (if served && s.mb.udp.portMask.getLsbD d.eth.val then
      if d.fragmented then { s with mb.udpFragments := s.mb.udpFragments.inc }
      else s.arrive (.udp d.eth d.ip d.port) d.data
    else s)

/-- The reply to a RELAY arrives: it is returned whole; one too long for a response is a failed operation (R445, R460). -/
def State.relayReply (s : State) (node : U32) (b : List U8) : State :=
  match s.mb.relay with
  | none => s
  | some r =>
    if node = r.dest ∧ (msgHead b).tag = r.inner then
      let s := { s with mb.relay := none }
      if b.length ≤ 3008 then s.respond r.ch opRelay r.tag .ok b none else s.respond r.ch opRelay r.tag .fault [] none
    else s

/-- MGMT_MSG: a relayed request, or the reply to one (R460). -/
def execMgmtMsg (dt : Nat) (span : Fin 12) (m : Msg) (s : State) : Host.Outcome State Fault Refusal :=
  .next ((s.elapse dt).consume span m fun s =>
    if (msgHead m.payload).response then s.relayReply m.src m.payload
    else if s.mb.engine = 2 then s.arrive (.relay m.src) m.payload
    else s)

/-- RELAY_WAIT_EXPIRY: ST_LATE (R460). -/
def execRelayWaitExpiry (dt : Nat) (s : State) : Host.Outcome State Fault Refusal :=
  let s := s.elapse dt
  .next (match s.mb.relay with
    | none => s
    | some r =>
      if s.fwExpired (r.since + s.mb.udp.relayWaitMs.toNat * 1000000) then
        State.respond { s with mb.relay := none } r.ch opRelay r.tag .late [] none
      else s)

/-- Streams of relay data that are wholly acknowledged are over. -/
def State.bulkOver (s : State) : State :=
  (s.mb.txStreams.filter fun e => e.2.kind == 2 && e.2.done).foldl (fun (s : State) e => s.bulkDrop e.1) s

/-- BULK_MSG (R461). -/
def execBulkMsg (dt : Nat) (span : Fin 12) (m : Msg) (s : State) : Host.Outcome State Fault Refusal :=
  .next ((s.elapse dt).consume span m fun s =>
    if rdBE m.payload 10 1 = 0 then
      ((s.bulkAck m.src (BitVec.ofNat 32 (rdBE m.payload 0 4)) (rdBE m.payload 4 4)).resyncDone).bulkOver
    else s.bulkData m.src m.payload)

/-- A stream made no progress for 1 ms: it is resent, and after eight resends abandoned (R392, R461). -/
def State.bulkTimeout (s : State) (e : Nat × Stream) : State :=
  if e.2.resends < 8 then s.bulkResend e.1
  else
    let s := s.bulkDrop e.1
    if e.2.kind = 1 then s.resyncAbandon else s

/-- BULK_ACK_TIMEOUT (R461). -/
def execBulkAckTimeout (dt : Nat) (s : State) : Host.Outcome State Fault Refusal :=
  let s := s.elapse dt
  .next (s.bulkDue.foldl State.bulkTimeout s)

/-- RELAY's message goes out, its bulk data ahead of it; the response waits for the reply (R460). -/
def State.relaySend (s : State) (q : Req) (msg data : List U8) : State :=
  let dest := p32 q.payload 0
  let h := msgHead msg
  let s := if h.bulk then s.bulkStart 2 h.tag dest data else s
  { s.unicast dest 0x0080 msg with
    mb.relay := some { ch := q.ch, tag := q.tag, dest := dest, inner := h.tag, since := s.now } }

/-- RELAY (R460). -/
def execRelay (q : Req) (s : State) : Host.Outcome State Fault Refusal :=
  let p := q.payload
  let len := rd p 12 2
  let h := msgHead (bytesAt p 8 64)
  let off := 8 + 64 + len - 16
  let n := rd p (off + 8) 4
  .next (serve opRelay (72 + len) q s fun s =>
    let msg := bytesAt p 8 (64 + len)
    let b := { q with bulk := true }
    let bad := h.bulk && (decide (len < 16) || s.mb.ch[q.ch].bind != 0 || !inRange 1 4096 n || bulkDenied b off n s)
    require (!bad) .denied
      (require s.mb.relay.isNone .busy
        (if h.bulk then withBulk b off n s fun data => .ok { st := s.relaySend q msg data, wait := true }
         else .ok { st := s.relaySend q msg [], wait := true })))

/-! ### Commands (R467, R480) -/

/-- MB_CONFIG (R467): applied once its response is written. -/
def execMbConfig (q : Req) (s : State) : Host.Outcome State Fault Refusal :=
  .next (serve opMbConfig 8 q s fun s =>
    let p := q.payload
    let c := (p8 p 0).toNat
    let carrier := s.mb.ch[q.ch].bind
    let left := BitVec.ofNat 8 (pbits p 1 0 2) == carrier ||
      (List.finRange 8).any fun x => x.val != c && s.mb.ch[x].bind == carrier
    require (decide (c < 8) && decide ((p8 p 2).toNat < 8) && inRange 10 60000 (rd p 4 2) && left) .denied
      (.ok { st := s.remember opMbConfig c p, post := some (opMbConfig, p) }))

/-- MB_STATUS (Table 13.11). -/
def execMbStatus (q : Req) (s : State) : Host.Outcome State Fault Refusal :=
  .next (serve opMbStatus 1 q s fun s =>
    if h : (p8 q.payload 0).toNat < 8 then
      let c := s.mb.ch[(⟨(p8 q.payload 0).toNat, h⟩ : Fin 8)]
      answer s (pack 28 [f8 0 c.bind, f8 1 c.st, f32 4 c.taken, f32 8 c.badLength, f32 12 c.expired, f32 16 c.authFails,
        f32 20 c.rspStalls, f32 24 c.dupResends])
    else .error .denied)

/-- A power of two from 64 to 4,096. -/
def ringEntries (n : Nat) : Bool := [64, 128, 256, 512, 1024, 2048, 4096].contains n

/-- EVENT_SET (R462, Table 13.13). -/
def execEventSet (q : Req) (s : State) : Host.Outcome State Fault Refusal :=
  .next (serve opEventSet 48 q s fun s =>
    let p := q.payload
    let c := eventCfg p
    require (decide (c.vector.toNat < 8) && ringEntries c.entries.toNat && inRange 1 10000 c.irqUs.toNat &&
        decide (c.base.toNat % 32 = 0) && !(c.ringHost && s.mb.spi)) .denied
      (done ((s.remember opEventSet 0 p).setEvent p)))

/-- TRANSPORT_STATUS (Table 13.11). -/
def execTransportStatus (q : Req) (s : State) : Host.Outcome State Fault Refusal :=
  .next (serve opTransportStatus 0 q s fun s =>
    let m := s.mb
    answer s (pack 28 [fB 0 0 m.spi, f8 1 m.pcieWidth, f8 2 m.pcieGen, f32 4 m.dmaFaults, f32 8 m.spiFrameErrors,
      f32 12 m.spiAddrErrors, f32 16 m.udpFragments, f32 20 m.perstCount, f32 24 m.ev.lost]))

/-- UDP_MB_SET (Table 13.11): applies to messages taken up after its response (R467). -/
def execUdpMbSet (q : Req) (s : State) : Host.Outcome State Fault Refusal :=
  .next (serve opUdpMbSet 8 q s fun s =>
    let p := q.payload
    require (decide ((p8 p 0).toNat < 32) && inRange 0 1000 (rd p 2 2) && inRange 10 2000 (rd p 4 2)) .denied
      (.ok { st := s.remember opUdpMbSet 0 p, post := some (opUdpMbSet, p) }))

/-- EVENT_READ (R480, Table 14.7). -/
def execEventRead (q : Req) (s : State) : Host.Outcome State Fault Refusal :=
  .next (serve opEventRead 1 q s fun s =>
    let n := (p8 q.payload 0).toNat
    require (inRange 1 64 n) .denied
      (require (!s.mb.ev.cfg.ringHost) .notReady
        (let l := s.mb.ev.unread.take n
         let t := s.evtHead (s.mb.ev.head + BitVec.ofNat 16 l.length)
         answer t (pack 8 [fN 0 2 l.length, fN 2 2 t.mb.ev.unread.length, f32 4 t.mb.ev.lost] ++ l.flatMap (·.2)))))

end Sys2Proof.Machine
end

