-- ==== Sys2Proof/Machine/Media.lean ====
section
/-! DEFINITION. Machine/Media.lean: AES67 and ST 2110-20 streams (R340 to R344). -/
namespace Sys2Proof.Machine
open Sys2Proof

/-! ### Packets of a stream (R344) -/

/-- The ports a stream is received on: with DUAL, the two lowest of its mask. -/
def StreamCfg.ports (c : StreamCfg) : List Nat :=
  let l := (List.range 4).filter fun n => c.mask / 2 ^ n % 2 == 1
  if c.dual then l.take 2 else l

/-- How far sequence number `q` of `w` bits lies ahead of `l`, modulo 2^w. -/
def seqAhead (w q l : Nat) : Nat := (BitVec.ofInt w ((q : Int) - l)).toNat

/-- What becomes of a packet with sequence number `q` of `w` bits that arrives on port `n`: the stream, and whether the packet is
used. Twins: the first copy is used, and one that comes more than MAX_SKEW_MS later counts as late (R344). Numbers passed over are
missing until they come; LOST counts those that have not come. -/
def Media.take (m : Media) (w n q now : Nat) : Media × Bool :=
  if m.cfg.on = false ∨ !m.cfg.ports.contains n then (m, false)
  else
    let m := { m with lastAt := some now }
    match (if m.cfg.dual then m.recent.find? (·.1 == q) else none) with
    | some t =>
      if t.2 + m.cfg.maxSkewMs.toNat * 1000000 < now then ({ m with late := m.late.inc }, false)
      else (m, false)
    | none =>
      let step := match m.seq with
        | some l => seqAhead w q l
        | none => 1
      let fwd := decide (0 < step) && decide (step < 2 ^ (w - 1))
      let passed := if fwd then step - 1 else 0
      let found := m.missing.contains q
      let near := fun (x : Nat) => decide (seqAhead w q x < 2 ^ (w - 1)) || decide (seqAhead w x q < 2 ^ (w - 1))
      ({ m with packets := m.packets.inc, recent := (q, now) :: m.recent.filter fun e => near e.1,
                lost := if found then m.lost - (if m.lost = 0 then 0 else 1) else m.lost.add passed,
                seq := if fwd then some q else m.seq,
                missing := (m.missing.erase q) ++ (List.range (min passed (2 ^ 16))).map fun i => (q + 2 ^ w - passed + i) % 2 ^ w,
                second := if m.cfg.dual && m.cfg.ports.getD 1 4 == n then m.second.inc else m.second }, true)

/-- A packet of a lost stream reports its recovery (R344). -/
def State.streamBack (s : State) (video : Bool) (i : Nat) (was : Media) : State :=
  s.raiseIf was.lostRun 94 [fN 0 1 (if video then 2 else 1), fN 1 1 i, fN 2 1 2]

/-- The value of k that a timestamp names: congruent to `x` modulo 2^32 and nearest `k0` (R341). -/
def nearestCount (x : U32) (k0 : Int) : Int := k0 + sdiff32 x (BitVec.ofInt 32 k0)

/-! ### AES67 (R340, R341) -/

/-- Change an AES67 stream. -/
def State.modAes (s : State) (i : Fin 16) (f : Media → Media) : State :=
  { s with net.aes := s.net.aes.set i (f s.net.aes[i]) }

/-- Sample `k` of a channel reaches the taps bound to the stream; one whose window has closed is late (R341). -/
def State.tapSample (s : State) (i : Fin 16) (rate k : Nat) (vals : List Int) : State :=
  let t := k * 1000000000 / rate
  (List.finRange 16).foldl (fun (s : State) (j : Fin 16) =>
    let x := s.sh.taps[j]
    if x.cfg.enable = false ∨ x.cfg.stream.toNat ≠ i.val then s
    else match vals[x.cfg.channel.toNat]? with
      | none => s
      | some v =>
        if s.running ∧ (t : Int) < s.windowEnd x (x.nextFrame - 1) then s.modAes i fun m => { m with late := m.late.inc }
        else { s with sh.taps := s.sh.taps.set j { x with buf := x.buf ++ [(t, v)], rate96 := rate == 96000 } }) s

/-- An AES67 packet is received (R341). -/
def execAes67Packet (dt : Nat) (p : AesPacket) (s : State) : Host.Outcome State Fault Refusal :=
  let s := s.elapse dt
  let at_ := s.rxTime p.eth (0x48 + p.stream.val)
  let s := s.rxTake p.eth (0x48 + p.stream.val)
  let m := s.net.aes[p.stream]
  let r := m.take 16 p.eth.val p.seq.toNat s.now
  let s := s.modAes p.stream fun _ => r.1
  .next (if r.2 = false then s
    else
      let rate : Nat := if m.cfg.rate96 then 96000 else 48000
      let s := (s.modAes p.stream fun x => { x with present := true, lostRun := false }).streamBack false p.stream.val m
      let k := nearestCount (p.rtp - m.cfg.clkOffset) (at_ / 65536 * rate / 1000000000)
      (p.samples.zipIdx).foldl (fun (s : State) v => s.tapSample p.stream rate (k + v.2).toNat v.1) s)

/-! ### ST 2110-20 (R342, R343) -/

/-- Change an ST 2110-20 stream. -/
def State.modVideo (s : State) (i : Fin 8) (f : Media → Media) : State :=
  { s with net.st2110 := s.net.st2110.set i (f s.net.st2110[i]) }

/-- The format lies within R177. -/
def StreamCfg.videoOk (c : StreamCfg) : Bool :=
  inRange 1 6 c.format.toNat && inRange 1 8192 c.width.toNat && inRange 1 4320 c.height.toNat

/-- A source frame that misses a packet is abandoned and counted (R343). -/
def State.videoAbandon (s : State) (i : Fin 8) : State :=
  (s.sourceAbandon i).modVideo i fun m => { m with incomplete := m.incomplete.inc }

/-- The source frame in progress has not had its marker packet. -/
def State.videoOpen (s : State) (i : Fin 8) : Bool := s.ingest[i].source.isSome

/-- How an RTP timestamp lies to that of the source frame in progress or, where none is, of the last one: 0 the same, 1 later,
2 earlier. -/
def State.sourceOrder (s : State) (i : Fin 8) (rtp : U32) : Nat :=
  match s.net.st2110[i].rtp with
  | none => 1
  | some r => if rtp = r then 0 else if 0 < sdiff32 rtp r then 1 else 2

/-- The packet holds the first samples of its frame. -/
def atStart (p : VideoPacket) : Bool := match p.rows with
  | r :: _ => r.line == 0 && r.first == 0
  | [] => false

/-- A packet of a later RTP timestamp begins a source frame; one in progress is abandoned (R343). What is missing from then on is
what was passed over before the packet, unless the packet holds the frame's first samples. -/
def State.videoBegin (s : State) (i : Fin 8) (p : VideoPacket) (at_ : Int) : State :=
  let s := if s.videoOpen i then s.videoAbandon i else s
  let media := nearestCount p.rtp (at_ / 65536 * 90000 / 1000000000) * 1000000000 / 90000
  (s.sourceBegin i p.rtp media).modVideo i fun m => { m with rtp := some p.rtp, missing := if atStart p then [] else m.missing }

/-- A packet of a source frame is used (R179, R180, R343): a frame that misses a packet at its marker packet is abandoned there. -/
def State.videoPacket (s : State) (i : Fin 8) (p : VideoPacket) (at_ : Int) : State :=
  let order := s.sourceOrder i p.rtp
  let s := if order = 1 then s.videoBegin i p at_ else s
  if order = 2 ∨ s.videoOpen i = false then s
  else
    let whole := (s.net.st2110[i].missing).isEmpty
    let s := (s.sourceRows i p.rows).sourceLines i p.lines (p.marker && whole)
    if p.marker then
      let s := if whole then s else s.videoAbandon i
      (s.modIngest i fun g => { g with source := none }).modVideo i fun m => { m with missing := [] }
    else s

/-- An ST 2110-20 packet is received (R342, R343). -/
def execSt2110Packet (dt : Nat) (p : VideoPacket) (s : State) : Host.Outcome State Fault Refusal :=
  let s := s.elapse dt
  let i := p.stream
  let at_ := s.rxTime p.eth (0x40 + i.val)
  let s := s.rxTake p.eth (0x40 + i.val)
  let m := s.net.st2110[i]
  let r := m.take 32 p.eth.val p.seq.toNat s.now
  let s := s.modVideo i fun _ => r.1
  .next (if r.2 = false ∨ s.pwr.mode ≠ .run then s
    else
      let s := (s.modVideo i fun x => { x with present := true, lostRun := false }).streamBack true i.val m
      let ok := m.cfg.videoOk
      let s := s.modIngest i fun g => { g with
                                  srcW := m.cfg.width, srcH := m.cfg.height, format := if ok then m.cfg.format else 0 }
      if ok && s.ingest[i].cfg.enable then s.videoPacket i p at_ else s)

/-! ### Settings and loss -/

/-- The values of a STREAM_SET payload (Table 9.16). -/
def streamCfg (p : List U8) : StreamCfg :=
  { on := p8 p 0 != 0, mask := pbits p 2 0 4, dual := pbit p 2 4, payloadType := p8 p 3, destIp := p32 p 4,
    sourceIp := p32 p 8, udpPort := p16 p 12, lossMs := p16 p 14, clkOffset := p32 p 16, channels := p8 p 20,
    rate96 := p8 p 21 == 1, format := p8 p 22, width := p16 p 24, height := p16 p 26, maxSkewMs := p16 p 28 }

/-- A stream under new settings; its counters stand. -/
def Media.set (m : Media) (c : StreamCfg) : Media :=
  { m with cfg := c, present := false, seq := none, lastAt := none, recent := [], missing := [], rtp := none, lostRun := false }

/-- Take STREAM_SET's values into force: TYPE 0 switches the streams of its index off. -/
def State.setStream (p : List U8) (s : State) : State :=
  let c := streamCfg p
  let t := p8 p 0
  let n := (p8 p 1).toNat
  let s := if h : n < 16 ∧ t ≠ 2 then s.modAes ⟨n, h.1⟩ fun m => m.set (if t = 1 then c else { m.cfg with on := false }) else s
  let s := if h : n < 8 ∧ t ≠ 1 then s.modVideo ⟨n, h.1⟩ fun m => m.set (if t = 2 then c else { m.cfg with on := false }) else s
  s.igmpAll

/-- Every field of STREAM_SET lies in its range (Table 9.16). -/
def StreamCfg.ok (c : StreamCfg) (type index rate : Nat) : Bool :=
  decide (type ≤ 2) && decide (index < (if type = 2 then 8 else 16)) && inRange 96 127 c.payloadType.toNat &&
  inRange 10 10000 c.lossMs.toNat && inRange 1 100 c.maxSkewMs.toNat &&
  (type != 1 || (inRange 1 8 c.channels.toNat && decide (rate ≤ 1)))

/-- STREAM_SET: from the next frame boundary (R346). -/
def execStreamSet (q : Req) (s : State) : Host.Outcome State Fault Refusal :=
  .next (serve opStreamSet 32 q s fun s =>
    let p := q.payload
    require ((streamCfg p).ok (p8 p 0).toNat (p8 p 1).toNat (p8 p 21).toNat) .denied
      (done (s.defer opStreamSet (256 * (p8 p 0).toNat + (p8 p 1).toNat) p)))

/-- STREAM_STATUS (Table 9.10). -/
def execStreamStatus (q : Req) (s : State) : Host.Outcome State Fault Refusal :=
  .next (serve opStreamStatus 2 q s fun s =>
    let t := p8 q.payload 0
    let i := (p8 q.payload 1).toNat
    let m := if t = 1 then s.net.aes.toList[i]? else if t = 2 then s.net.st2110.toList[i]? else none
    match m with
    | none => .error .denied
    | some m => answer s (pack 24 [f32 0 m.packets, f32 4 m.lost, f32 8 m.late, f32 12 m.incomplete, f32 16 m.second,
        fB 20 0 m.present]))

/-- A stream has had no packet for LOSS_MS (R344). -/
def execStreamLossTimeout (dt : Nat) (video : Bool) (i : Fin 16) (s : State) : Host.Outcome State Fault Refusal :=
  let s := s.elapse dt
  let k : Fin 8 := ⟨i.val % 8, Nat.mod_lt _ (by decide)⟩
  let m := if video then s.net.st2110[k] else s.net.aes[i]
  let gone := match m.lastAt with
    | some t => m.present && s.fwExpired (t + m.cfg.lossMs.toNat * 1000000)
    | none => false
  .next (if gone then
      let f := fun (m : Media) => { m with present := false, lostRun := true }
      let s := if video then s.modVideo k f else s.modAes i f
      s.raiseF 94 [fN 0 1 (if video then 2 else 1), fN 1 1 (if video then k.val else i.val), fN 2 1 1]
    else s)

end Sys2Proof.Machine
end

