-- ==== Sys2Proof/Machine/PairOps.lean ====
section
/-! DEFINITION. Machine/PairOps.lean: the messages and the settings of a pier pair (R374 to R398, R401). -/
namespace Sys2Proof.Machine
open Sys2Proof

/-! ### Heartbeats (R375, R382, R383) -/

/-- The payload of PIER_HEARTBEAT (Table 11.5). -/
def State.heartbeat (s : State) (path : Nat) : List U8 :=
  let epoch := if s.pier.epoch.toNat < s.pier.partnerEpoch.toNat then s.pier.partnerEpoch else s.pier.epoch
  be 4 s.memberId.toNat ++ be 1 (if s.pier.cfg.roleB then 1 else 0) ++ be 1 s.pier.st ++ be 1 s.pier.checks.toNat ++ be 1 path ++
  be 4 epoch.toNat ++ be 4 s.lastCommit.toNat ++ be 4 (lastFrame s.tre.latchedEver).toNat ++ be 2 s.pier.hbSeq.toNat ++
  be 2 s.pier.clean.toNat ++ be 4 s.short.toNat ++ be 4 0

/-- A heartbeat is due: the tick in progress is a multiple of 16 and none was sent in it (R382). -/
def State.heartbeatDue (s : State) : Bool :=
  s.paired && s.mb.engine == 2 && s.box.strict == 0 && !s.pwr.thermal.silent && s.grid.tick % 16 == 0 &&
  s.pier.hbTick != some s.grid.tickCount

/-- R382: send a heartbeat, and refresh the hold circuit (R375). -/
def State.sendHeartbeat (s : State) : State :=
  let act := s.pier.st == 2 || s.pier.st == 3 || s.pier.st == 4
  let s := { s with pier.hbSeq := s.pier.hbSeq + 1, pier.hbTick := some s.grid.tickCount, pier.refreshAt := s.now,
                    pier.actOut := some act }
  let s := s.toPartner 0x0060 (s.heartbeat 0)
  if s.pier.cfg.witnessTrestle then s.sendOn (fun x => x != s.pierSpan) floodDest 0x0060 (s.heartbeat 1) else s

/-- A message of this pair, from the partner. -/
def State.fromPartner (s : State) (m : Msg) : Bool :=
  s.paired && m.src == s.pier.cfg.partnerId && BitVec.ofNat 32 (rdBE m.payload 0 4) == s.memberId

/-- Heartbeats missed between two of the partner's numbers. -/
def hbGap (last : Option U16) (q : U16) : Int := match last with
  | none => 1
  | some l => (q - l).toInt

/-- What a heartbeat shows of the partner. One that a newer one has overtaken only shows that it lives; after a silence any is
the newest, since the partner may have started afresh. -/
def State.partnerShown (s : State) (p : List U8) : State :=
  let q : U16 := BitVec.ofNat 16 (rdBE p 20 2)
  let gap := hbGap s.pier.partnerSeq q
  let epoch : U32 := BitVec.ofNat 32 (rdBE p 8 4)
  let path1 := rdBE p 7 1 == 1
  let silent := s.partnerSilent
  let s := { s with pier.hb := some s.now, pier.hbShort := s.short, pier.hb0 := if path1 then s.pier.hb0 else some s.now,
                    pier.hb1 := if path1 then some s.now else s.pier.hb1,
                    pier.witnessOnly := if path1 && !s.pierLinkUp then s.pier.witnessOnly.inc else s.pier.witnessOnly,
                    pier.partnerEpoch := if s.pier.partnerEpoch.toNat < epoch.toNat then epoch else s.pier.partnerEpoch }
  let s := if path1 && s.pier.lostWitness then State.raisePath { s with pier.lostWitness := false } 1 2 else s
  let s := if s.pier.unreachable then State.raisePath { s with pier.unreachable := false } 3 2 else s
  if gap < 0 ∧ s.pier.partnerSeq.isSome = true ∧ silent = false then s
  else
    { s with pier.partnerSeq := some q, pier.partnerState := BitVec.ofNat 8 (rdBE p 5 1),
             pier.partnerChecks := BitVec.ofNat 8 (rdBE p 6 1), pier.partnerClean := BitVec.ofNat 16 (rdBE p 22 2),
             pier.hbMissed := s.pier.hbMissed.add (gap - 1).toNat }

/-- The partner holds control, as its newest heartbeat shows. -/
def State.partnerHolds (s : State) : Bool := s.pier.partnerState == 2 || s.pier.partnerState == 3 || s.pier.partnerState == 4

/-- The pin witness, judged at a heartbeat (Table 11.1). -/
def State.judgePin (s : State) : State :=
  if s.pier.cfg.witnessPin = false then s
  else if s.partnerHolds && !s.pier.actIn then
    if s.pier.lostPin then s else (State.raiseF { s with pier.lostPin := true } 110 [fB 0 0 s.pier.actIn]).raisePath 2 1
  else if s.pier.lostPin && !s.partnerHolds then State.raisePath { s with pier.lostPin := false } 2 2
  else s

/-- Check 1: the partner has committed every frame up to `m`, and this engine has not committed the oldest of them that it
lacks by its C + sigma(RENDER_SLIP_LIMIT) (Table 11.7). -/
def State.judgeRender (s : State) (m : U32) : State :=
  if s.running = true ∧ m ≠ 0xFFFFFFFF#32 ∧ 0 ≤ sdiff32 m s.grid.nextCommit ∧
      s.grid.cutoff s.grid.nextCommit + (s.grid.vals s.grid.nextCommit).sigma s.pier.cfg.renderSlipLimit.toNat < (s.full : Int) then
    s.checkFail 1 false
  else s

/-- The code of the lowest check that fails. -/
def State.failing (s : State) : Nat := (((List.range 6).find? fun i => s.pier.checks.getLsbD i).getD 0) + 1

/-- R397: both engines hold control and hear each other again: role B plans to hand control back. -/
def State.planHeal (s : State) : State :=
  let f := s.planFrame
  let m := s.tre.merges.foldl (fun (x : U32) g => if 0 < sdiff32 g.frame x then g.frame else x) f
  State.plannedStep { s with pier.pend := some ⟨m, 0x12, true, false⟩ }

/-- What a heartbeat changes on an engine holding control (R384, R386, R395, R397). -/
def State.holderHears (s : State) : State :=
  let s := if !s.pier.degraded then s
    else if s.pier.partnerState != 5 then { s with pier.wasOut := true }
    else if s.pier.wasOut then { s with pier.degraded := false } else s
  if s.pier.checks != 0 && s.partnerEligible then s.release s.failing
  else
    let s := s.holderState
    match s.pier.pend with
    | some h => if h.outgoing && !h.sent && h.cause != 0x12 && s.pier.partnerChecks != 0 then s.cancelPlanned h else s
    | none => if s.partnerHolds && s.pier.cfg.roleB then s.planHeal else s

/-- A partner's heartbeat arrives (R381 to R387, R397, R398). -/
def State.heartbeatMsg (s : State) (p : List U8) : State :=
  let s := ((s.partnerShown p).judgePin).judgeRender (BitVec.ofNat 32 (rdBE p 12 4))
  let s := if s.pier.st = 1 then s.startupClaim else s
  if s.pier.st == 2 || s.pier.st == 3 || s.pier.st == 4 then s.holderHears else s

/-- The partner is silent (R383, R387, R397): the engine holding control becomes ISOLATED; a standby claims if the pin reads low
or is not used, else the partner is unreachable. -/
def State.silence (s : State) : State :=
  if s.holds then
    let s := s.holderState
    match s.pier.pend with
    | some h => if h.outgoing && !h.sent then s.cancelPlanned h else s
    | none => s
  else if s.isStandby = false then s
  else if s.pier.cfg.roleB && !s.pier.waitOver then s
  else if s.pier.cfg.witnessPin && s.pier.actIn then
    if s.pier.unreachable then s else State.raisePath { s with pier.unreachable := true } 3 1
  else s.claim 0x20

/-- The time of the partner's silence has expired (R383); a heartbeat in the step of its expiry is honoured (R6). -/
def State.silenceDue (s : State) : Bool :=
  s.paired && (match s.pier.hb with
    | none => true
    | some t => s.fwExpired (t + s.silenceNs))

/-! ### Release, claim, revert (R387, R390, R393 to R395) -/

/-- A cause of a planned handover. -/
def plannedCause (c : Nat) : Bool := c == 0x10 || c == 0x11 || c == 0x12

/-- The epoch that a release or claim carries is known from now on. -/
def State.seeEpoch (s : State) (e : U32) : State :=
  { s with pier.partnerEpoch := if s.pier.partnerEpoch.toNat < e.toNat then e else s.pier.partnerEpoch }

/-- The partner's PIER_RELEASE (R387, R394). -/
def State.releaseIn (s : State) (p : List U8) : State :=
  let s := s.seeEpoch (BitVec.ofNat 32 (rdBE p 4 4))
  let f : U32 := BitVec.ofNat 32 (rdBE p 8 4)
  let cause := rdBE p 12 1
  if plannedCause cause ∧ (s.isStandby || s.holds) = true then
    if s.pier.checks = 0 then s.claimPlanned f (BitVec.ofNat 8 cause)
    else State.raiseF (s.sendRevert f 3) 105 [f32 0 s.pier.epoch, f32 4 f, fN 8 1 cause, fN 9 1 2]
  else if s.isStandby then s.claim 0x21
  else s

/-- The partner's PIER_CLAIM: of two claims in one tick role A's stands (R390). Two claims of one epoch crossed on the way,
so that one may arrive a tick later than both were made. -/
def State.claimIn (s : State) (p : List U8) : State :=
  let e : U32 := BitVec.ofNat 32 (rdBE p 4 4)
  let s := s.seeEpoch e
  if s.holds ∧ s.pier.cfg.roleB = true ∧ s.pier.pend.isNone ∧
      (s.pier.claimedAt = some s.grid.tickCount ∨ (s.pier.claimedAt.isSome = true ∧ e = s.pier.epoch)) then
    let f := s.fromFrame
    let s := s.pierSend 0x0061 (s.releaseMsg f 0x21)
    (State.raiseF { s with pier.releases := s.pier.releases.inc } 106 [f32 0 s.pier.epoch, f32 4 f, fN 8 1 0x21]).pierTo 5
  else s

/-- R393: role A in STANDBY with enough clean frames asks for control. -/
def State.revertDue (s : State) : Bool :=
  let c := s.pier.cfg
  s.paired && !c.roleB && s.pier.st == 5 && c.revertEn && !s.pier.revertHold && s.pier.checks == 0 &&
  decide (c.revertFrames.toNat ≤ s.pier.clean.toNat) && s.running && s.pier.pend.isNone &&
  (match s.pier.revertAsked with
   | none => true
   | some m => decide (0 < sdiff32 s.grid.nextLatch m))

/-- A PIER_REVERT message: 1 request, 2 accept, 3 refuse (R393, R395). -/
def State.revertIn (s : State) (p : List U8) : State :=
  let m : U32 := BitVec.ofNat 32 (rdBE p 4 4)
  match rdBE p 8 1 with
  | 1 =>
    if s.holds && !s.pierBusy && s.running && s.pier.partnerChecks == 0 then
      State.plannedStep { s.sendRevert m 2 with pier.pend := some ⟨m, 0x11, true, false⟩ }
    else s.sendRevert m 3
  | 2 =>
    if s.pier.revertAsked = some m then
      if s.pier.st = 5 ∧ s.pier.checks = 0 then
        { s with pier.revertAsked := none, pier.pend := some ⟨m, 0x11, false, false⟩ }
      else
        State.raiseF { s.sendRevert m 3 with pier.revertAsked := none } 105 [f32 0 s.pier.epoch, f32 4 m, fN 8 1 0x11, fN 9 1 2]
    else s
  | 3 =>
    match s.pier.pend with
    | some h => if h.outgoing && h.frame == m then s.cancelPlanned h else s
    | none => if s.pier.revertAsked = some m then { s with pier.revertAsked := none } else s
  | _ => s

/-- C'(M) of a planned handover has come (R394). -/
def State.handoverDue (s : State) (h : Handover) : Bool :=
  h.sent && decide (s.grid.cutoff h.frame + (s.grid.vals h.frame).sigma (s.grid.slipOf h.frame) ≤ (s.full : Int))

/-- R394, R397: control passes; an outgoing role B of a heal resynchronises from role A. -/
def State.handover (s : State) (h : Handover) : State :=
  let s := { s with pier.pend := none, pier.handovers := s.pier.handovers.inc }
  if h.outgoing then
    if h.cause = 0x12 then State.askResync (s.pierTo 6)
    else s.pierTo 5
  else
    (State.floodMember ({ s with pier.started := true }.holderState)).issuerChange

/-! ### Resynchronisation messages (R392) -/

/-- A PIER_RESYNC message. -/
def State.resyncIn (s : State) (p : List U8) : State :=
  let r : U32 := BitVec.ofNat 32 (rdBE p 8 4)
  let kind := rdBE p 4 1
  if kind = 1 then
    if s.holds then State.raiseF { s with pier.resyncAsked := true, pier.resyncTries := 0 } 109 [fN 0 1 1, fN 4 4 0] else s
  else if s.pier.st ≠ 7 then s
  else if kind = 2 then
    let s := { s with pier.resync := some r, pier.resyncAsked := false,
                      mb.rxStreams := s.mb.rxStreams.set {} (streamKey 1 r) {} }
    s.raiseF 109 [fN 0 1 2, f32 4 r]
  else if s.pier.resync ≠ some r then s
  else
    let bytes := (s.mb.rxStreams.get {} (streamKey 1 r)).bytes
    let s := { s with mb.rxStreams := s.mb.rxStreams.set {} (streamKey 1 r) {} }
    if kind = 3 then s.resyncInstall r (Config.resyncRead bytes)
    else
      let n := s.pier.resyncTries + 1
      let s := State.raiseF { s with pier.resync := none, pier.resyncTries := n, pier.resyncsAbandoned := s.pier.resyncsAbandoned.inc }
        109 [fN 0 1 4, f32 4 r]
      if n < 8 then { s with pier.resyncAsked := true }
      else (State.raiseF { s with pier.resyncGivenUp := true, pier.resyncTries := 0 } 109 [fN 0 1 5, f32 4 r]).pierTo 6

/-! ### Settings (R401) -/

/-- The values of a PIER_SET payload (Table 11.14). -/
def pierCfg (p : List U8) : PierCfg :=
  { partnerId := p32 p 0, enable := pbit p 4 0, roleB := pbit p 4 1, witnessPin := pbit p 4 2, witnessTrestle := pbit p 4 3,
    revertEn := pbit p 4 4, pierSpan := p8 p 5, hbMiss := p8 p 6, digestClean := p8 p 7, revertFrames := p16 p 8,
    renderSlipLimit := p16 p 10, partnerWaitMs := p16 p 12 }

/-- The fields of PIER_SET that a running grid does not let change. -/
def PierCfg.fixed (c : PierCfg) : U32 × Bool × Bool × U8 := (c.partnerId, c.enable, c.roleB, c.pierSpan)

/-- The values lie in their ranges (Table 11.14). -/
def PierCfg.ok (c : PierCfg) : Bool :=
  inRange 0 11 c.pierSpan.toNat && inRange 2 16 c.hbMiss.toNat && inRange 1 255 c.digestClean.toNat &&
  inRange 1 65535 c.revertFrames.toNat && inRange 16 2048 c.renderSlipLimit.toNat && inRange 100 60000 c.partnerWaitMs.toNat

/-- The frame-boundary part of PIER_SET. -/
def State.setPier (p : List U8) (s : State) : State := { s with pier.cfg := pierCfg p }

/-- Pairing as PIER_SET finds it on a stopped grid: a pair waits, an engine alone has no state (Table 11.6). -/
def State.setPairing (p : List U8) (s : State) : State :=
  let new := pierCfg p
  let s := if new.fixed = s.pier.cfg.fixed then s
    else s.memberChange fun s =>
      { s with pier.cfg := new, pier.partnerState := 0xFF, pier.hb := none, pier.hb0 := none, pier.hb1 := none,
               pier.partnerSeq := none, pier.partnerChecks := 0, pier.lostLink := false, pier.lostWitness := false,
               pier.lostPin := false, pier.unreachable := false }
  if s.running then s else if new.enable then (if s.pier.st = 0 then s.pierTo 1 else s) else s.pierTo 0

end Sys2Proof.Machine
end

