-- ==== Sys2Proof/Machine/Pier.lean ====
section
/-! DEFINITION. Machine/Pier.lean: the messages, timers and commands of pier pairs (R374 to R401). -/
namespace Sys2Proof.Machine
open Sys2Proof

/-! ### Heartbeats and paths -/

/-- A heartbeat is sent at every 16th tick (R382). -/
def execHeartbeatSend (dt : Nat) (s : State) : Host.Outcome State Fault Refusal :=
  let s := s.elapse dt
  .next (if s.heartbeatDue then s.sendHeartbeat else s)

/-- PIER_HEARTBEAT arrives (R382, R383). -/
def execPierHeartbeatMsg (dt : Nat) (span : Fin 12) (m : Msg) (s : State) : Host.Outcome State Fault Refusal :=
  .next ((s.elapse dt).consume span m fun s => if s.fromPartner m then s.heartbeatMsg m.payload else s)

/-- No heartbeat for HB_MISS intervals (R383). -/
def execPartnerSilence (dt : Nat) (s : State) : Host.Outcome State Fault Refusal :=
  let s := s.elapse dt
  .next (if s.silenceDue then s.silence else s)

/-- No PATH 1 heartbeat for HB_MISS intervals loses the Trestle witness (Table 11.1). -/
def execTrestleWitnessLoss (dt : Nat) (s : State) : Host.Outcome State Fault Refusal :=
  let s := s.elapse dt
  .next (match s.pier.hb1 with
  | none => s
  | some t =>
    if s.paired && s.pier.cfg.witnessTrestle && !s.pier.lostWitness && s.fwExpired (t + s.silenceNs) then
      State.raisePath { s with pier.lostWitness := true } 1 1
    else s)

/-- PIER_ACT_IN falls; of a silent partner it lets a standby claim (R387). -/
def execPierActInFall (dt : Nat) (s : State) : Host.Outcome State Fault Refusal :=
  let s := s.elapse dt
  let s := { s with pier.actIn := false }
  .next (if s.silenceDue then s.silence else s)

/-- PIER_ACT_IN rises: the pin witness returns (Table 11.1). -/
def execPierActInRise (dt : Nat) (s : State) : Host.Outcome State Fault Refusal :=
  let s := s.elapse dt
  let s := { s with pier.actIn := true }
  .next (if s.pier.lostPin then State.raisePath { s with pier.lostPin := false } 2 2 else s)

/-- No refresh for two heartbeat intervals: the hold circuit drives PIER_ACT_OUT low (R375). -/
def execHoldCircuitExpiry (dt : Nat) (s : State) : Host.Outcome State Fault Refusal :=
  let s := s.elapse dt
  .next (if s.pier.actOut = some true ∧ s.cycExpired (s.pier.refreshAt + 2 * s.grid.ticksNs 16) = true then
    { s with pier.actOut := some false } else s)

/-! ### Release, claim, digest, seal -/

/-- PIER_RELEASE arrives (R387). -/
def execPierReleaseMsg (dt : Nat) (span : Fin 12) (m : Msg) (s : State) : Host.Outcome State Fault Refusal :=
  .next ((s.elapse dt).consume span m fun s => if s.fromPartner m then s.releaseIn m.payload else s)

/-- PIER_CLAIM arrives (R390). -/
def execPierClaimMsg (dt : Nat) (span : Fin 12) (m : Msg) (s : State) : Host.Outcome State Fault Refusal :=
  .next ((s.elapse dt).consume span m fun s => if s.fromPartner m then s.claimIn m.payload else s)

/-- PIER_DIGEST arrives (R381). -/
def execPierDigestMsg (dt : Nat) (span : Fin 12) (m : Msg) (s : State) : Host.Outcome State Fault Refusal :=
  .next ((s.elapse dt).consume span m fun s =>
    let p := m.payload
    let f : U32 := BitVec.ofNat 32 (rdBE p 4 4)
    let d : DigestRec := ⟨f, BitVec.ofNat 64 (rdBE p 8 8), BitVec.ofNat 64 (rdBE p 16 8), BitVec.ofNat 8 (rdBE p 24 1 % 16),
      BitVec.ofNat 16 (rdBE p 26 2)⟩
    if s.fromPartner m && !(s.pier.partner.any fun x => x.frame == f) then
      State.compareFrame { s with pier.partner := d :: keepDigests f s.pier.partner } f
    else s)

/-- The engine holding control sends PIER_SEAL of the oldest frame due (R378). -/
def execSealSend (dt : Nat) (s : State) : Host.Outcome State Fault Refusal := .next (s.elapse dt).sendSeal

/-- A part of a seal arrives (R378). -/
def execPierSealMsg (dt : Nat) (span : Fin 12) (m : Msg) (s : State) : Host.Outcome State Fault Refusal :=
  .next ((s.elapse dt).consume span m fun s => if s.fromPartner m then (s.sealMsg m.payload).renderCheck else s)

/-- No seal by C(m): the standby uses its own inputs (R378). -/
def execSealMissingAtCutoff (dt : Nat) (s : State) : Host.Outcome State Fault Refusal :=
  .next (State.resolveSeals 16 (s.elapse dt)).renderCheck

/-! ### Return of control, handover, resynchronisation -/

/-- Role A asks for control (R393). -/
def execRevertRequest (dt : Nat) (s : State) : Host.Outcome State Fault Refusal :=
  let s := s.elapse dt
  .next (if s.revertDue then { s.sendRevert s.planFrame 1 with pier.revertAsked := some s.planFrame } else s)

/-- PIER_REVERT arrives (R393). -/
def execPierRevertMsg (dt : Nat) (span : Fin 12) (m : Msg) (s : State) : Host.Outcome State Fault Refusal :=
  .next ((s.elapse dt).consume span m fun s => if s.fromPartner m then s.revertIn m.payload else s)

/-- C'(M) of a planned handover: the pins change over (R394). -/
def execHandoverAtCutoff (dt : Nat) (s : State) : Host.Outcome State Fault Refusal :=
  let s := s.elapse dt
  .next (match s.pier.pend with
  | some h => if s.handoverDue h then s.handover h else s
  | none => s)

/-- PIER_RESYNC arrives (R392). -/
def execPierResyncMsg (dt : Nat) (span : Fin 12) (m : Msg) (s : State) : Host.Outcome State Fault Refusal :=
  .next ((s.elapse dt).consume span m fun s => if s.fromPartner m then s.resyncIn m.payload else s)

/-- PARTNER_WAIT_MS has passed since the grid started (R398). -/
def execPartnerWaitExpiry (dt : Nat) (s : State) : Host.Outcome State Fault Refusal :=
  let s := s.elapse dt
  .next (match s.pier.waitFrom with
  | none => s
  | some t =>
    if s.paired && s.fwExpired (t + s.pier.cfg.partnerWaitMs.toNat * 1000000) then
      State.startupClaim { s with pier.waitFrom := none, pier.waitOver := true }
    else s)

/-! ### Commands (R401) -/

/-- PIER_SET (R401, Table 11.14). -/
def execPierSet (q : Req) (s : State) : Host.Outcome State Fault Refusal :=
  .next (serve opPierSet 20 q s fun s =>
    let p := q.payload
    let c := pierCfg p
    require c.ok .denied
      (require (!s.running || c.fixed == s.pier.cfg.fixed) .notReady
        (done ((s.setPairing p).defer opPierSet 0 p))))

/-- PIER_STATUS (Table 11.15). -/
def execPierStatus (q : Req) (s : State) : Host.Outcome State Fault Refusal :=
  .next (serve opPierStatus 0 q s fun s =>
    let x := s.pier
    let seen := match x.hb1 with
      | some t => decide (s.now ≤ t + s.silenceNs)
      | none => false
    let epoch := if x.epoch.toNat < x.partnerEpoch.toNat then x.partnerEpoch else x.epoch
    answer s (pack 32 [fN 0 1 x.st, fB 1 0 x.cfg.roleB, f8 2 x.checks, f8 3 x.partnerChecks, f8 4 x.partnerState,
      fB 5 0 (s.paired && s.pierLinkUp), fB 5 1 seen, fB 5 2 x.actIn, fB 5 3 (x.actOut == some true), f16 6 x.clean, f32 8 epoch,
      f32 12 (lastFrame x.digestFrame), f64 16 x.digest, f32 24 (lastFrame (x.pend.map (·.frame))), f32 28 x.hbShort]))

/-- PIER_CONTROL (R401): any action is busy while a handover, revert or resync is pending. -/
def State.pierControl (s : State) (ready late : Bool) (f : State → State) : Except Status Done :=
  require ready .notReady (require (!(s.pierBusy || s.pier.revertAsked.isSome)) .busy (require (!late) .late (done (f s))))

/-- PIER_CONTROL HANDOVER (R401). -/
def execPierControlHandover (q : Req) (s : State) : Host.Outcome State Fault Refusal :=
  .next (serve opPierControl 8 q s fun s =>
    let m := p32 q.payload 4
    s.pierControl (s.paired && s.running && s.holds && s.pier.partnerState == 5 && !s.partnerSilent)
      (decide (sdiff32 m s.planFrame < 0))
      fun s => State.plannedStep { s with pier.pend := some ⟨m, 0x10, true, false⟩ })

/-- PIER_CONTROL RESYNC (R392, R401). -/
def execPierControlResync (q : Req) (s : State) : Host.Outcome State Fault Refusal :=
  .next (serve opPierControl 4 q s fun s =>
    s.pierControl s.isStandby false fun s => State.askResync { s with pier.resyncGivenUp := false, pier.resyncTries := 0 })

/-- PIER_CONTROL REVERT_HOLD (R393, R401). -/
def execPierControlRevertHold (q : Req) (s : State) : Host.Outcome State Fault Refusal :=
  .next (serve opPierControl 4 q s fun s => s.pierControl true false fun s => { s with pier.revertHold := true })

/-- PIER_CONTROL REVERT_ALLOW (R393, R401). -/
def execPierControlRevertAllow (q : Req) (s : State) : Host.Outcome State Fault Refusal :=
  .next (serve opPierControl 4 q s fun s => s.pierControl true false fun s => { s with pier.revertHold := false })

/-- PIER_COUNTERS (Table 11.13). -/
def execPierCounters (q : Req) (s : State) : Host.Outcome State Fault Refusal :=
  .next (serve opPierCounters 1 q s fun s =>
    let x := s.pier
    let data := pack 32 [f32 0 x.claims, f32 4 x.releases, f32 8 x.handovers, f32 12 x.divergences, f32 16 x.resyncs,
      f32 20 x.resyncsAbandoned, f32 24 x.hbMissed, f32 28 x.witnessOnly]
    answer (if pbit q.payload 0 0 then
      { s with pier := { x with claims := 0, releases := 0, handovers := 0, divergences := 0, resyncs := 0, resyncsAbandoned := 0,
                                hbMissed := 0, witnessOnly := 0 } } else s) data)

end Sys2Proof.Machine
end

