-- ==== Sys2Proof/Machine/Pixels.lean ====
section
/-! DEFINITION. Machine/Pixels.lean: the commands of the pixels and raster family, the scrubber and the raster events (R169
to R199). -/
namespace Sys2Proof.Machine
open Sys2Proof

/-! ### Deck -/

/-- DECK_STATUS (R195, Table 5.11). -/
def execDeckStatus (q : Req) (s : State) : Host.Outcome State Fault Refusal :=
  .next (serve opDeckStatus 0 q s fun s =>
    let d := s.deck
    let used := match s.sh.active with
      | some im => im.pixelCount
      | none => 0
    answer s (pack 32 [f32 0 d.eccCorrected, f32 4 d.eccUncorrectable, f32 8 d.lastUe, f32 12 d.scrubPasses,
      fN 16 4 (pixelCapacity s.grid.v.n s.grid.v.d), fN 20 4 used, f16 24 d.busy, f32 28 s.lastCommit]))

/-- The scrubber reads the next 64 bytes of Deck (R171). -/
def execDeckScrubRead (dt : Nat) (s : State) : Host.Outcome State Fault Refusal :=
  let s := s.elapse dt
  let a := s.deck.scrubAt
  let s := s.deckRead s.sched.gateFrame a 64 11
  let next := (a + 64) % 0x10000000
  .next { s with deck.scrubAt := next, deck.scrubPasses := if next = 0 then s.deck.scrubPasses.inc else s.deck.scrubPasses }

/-! ### Ingest -/

/-- The values of an INGEST_SET payload (Table 5.8). -/
def ingestCfg (p : List U8) : IngestCfg :=
  { enable := pbit p 1 0, colour := p8 p 2, full := p8 p 3 == 1, map := rd p 4 4, cropX := p16 p 8, cropY := p16 p 10,
    cropW := p16 p 12, cropH := p16 p 14, delayUs := BitVec.ofNat 32 (rd p 16 2) }

/-- Take INGEST_SET's values into force: a stream that stops has its tasks cancelled and keeps its last complete frame (Table
3.6); one that changes its map starts with every copy of the new map free. Captures of frames in flight stand (R182). -/
def State.setIngest (p : List U8) (s : State) : State :=
  if h : (p8 p 0).toNat < 8 then
    let k : Fin 8 := ⟨(p8 p 0).toNat, h⟩
    let old := s.ingest[k].cfg
    let new := ingestCfg p
    let s := if old.enable && !new.enable then
        { s with sched := s.sched.cancelAll s.now fun d => d.source == 1 && d.arg.toNat % 8 == k.val }
      else s
    s.modIngest k fun g =>
      if new.enable && old.map != new.map then
        { g with cfg := new, copies := .replicate 4 { freeSince := s.now }, source := none }
      else if old.enable != new.enable then
        { g with cfg := { new with map := if new.enable then new.map else old.map }, source := none,
                 copies := g.copies.map fun (c : Copy) => { c with writing := false, bands := 0, src := [] } }
      else { g with cfg := new }
  else s

/-- INGEST_SET (R195): from the next frame boundary. -/
def execIngestSet (q : Req) (s : State) : Host.Outcome State Fault Refusal :=
  .next (serve opIngestSet 24 q s fun s =>
    let p := q.payload
    require (decide ((p8 p 0).toNat < 8) && decide ((p8 p 2).toNat ≤ 2) && decide ((p8 p 3).toNat ≤ 1)) .denied
      (done (s.defer opIngestSet (p8 p 0).toNat p)))

/-- INGEST_STATUS (R195, Table 5.12). -/
def execIngestStatus (q : Req) (s : State) : Host.Outcome State Fault Refusal :=
  .next (serve opIngestStatus 1 q s fun s =>
    if h : (p8 q.payload 0).toNat < 8 then
      let g := s.ingest[(p8 q.payload 0).toNat]
      let held := (List.finRange 4).map fun c => fB 24 c.val (!g.copies[c].held.isEmpty)
      let comp := (List.finRange 4).map fun c => fB 24 (4 + c.val) g.copies[c].complete
      answer s (pack 32 ([f32 0 g.capturedFrame, f32 4 g.capturedMedia, f32 8 g.written, f32 12 g.dropped,
        f32 16 g.lateCaptures, f16 20 g.srcW, f16 22 g.srcH, f8 25 g.format] ++ held ++ comp))
    else .error .denied)

/-! ### Raster engines -/

/-- The values of a RASTER_SET payload (Table 5.9). -/
def rasterCfg (p : List U8) : RasterCfg :=
  { enable := pbit p 1 0, span := p8 p 2, outBits := p8 p 3, hActive := rd p 4 2, vActive := rd p 6 2, hTotal := rd p 8 2,
    vTotal := rd p 10 2, genlock := pInt p 12 4, showPhase := pInt p 16 4, bg0 := p16 p 20, bg1 := p16 p 22,
    bg2 := p16 p 24, outCurve := rd p 26 2 }

/-- Every field lies in its range, and the pixel clock is at most 1.2 x 10^9 (R183, R195). -/
def RasterCfg.ok (c : RasterCfg) (v : GridVals) : Bool :=
  decide (c.span.toNat < 12) && (c.outBits == 10 || c.outBits == 12) && inRange 1 8192 c.hActive &&
  inRange 1 8192 c.vActive && decide (c.hActive ≤ c.hTotal) && decide (c.vActive + 16 ≤ c.vTotal) &&
  decide (c.hTotal * c.vTotal * v.n.toNat ≤ 1200000000 * v.d.toNat)

/-- RASTER_SET: the shadow registers of an engine (R191). -/
def execRasterSet (q : Req) (s : State) : Host.Outcome State Fault Refusal :=
  .next (serve opRasterSet 32 q s fun s =>
    let p := q.payload
    if h : (p8 p 0).toNat < 4 then
      require ((rasterCfg p).ok s.grid.v) .denied
        (done (s.modRaster ⟨(p8 p 0).toNat, h⟩ fun x =>
          { x with shadow := rasterCfg p }))
    else .error .denied)

/-- The values of a LAYER_SET payload (Table 5.10). -/
def layerCfg (p : List U8) : LayerCfg :=
  { blend := p8 p 2, enable := pbit p 3 0, map := rd p 4 4, srcX := rd p 8 2, srcY := rd p 10 2, srcW := rd p 12 2,
    srcH := rd p 14 2, dstX := rd p 16 2, dstY := rd p 18 2, repX := rd p 20 1, repY := rd p 21 1, opacity := p16 p 22 }

/-- LAYER_SET: the shadow registers of a layer (R191). -/
def execLayerSet (q : Req) (s : State) : Host.Outcome State Fault Refusal :=
  .next (serve opLayerSet 32 q s fun s =>
    let p := q.payload
    if h : (p8 p 0).toNat < 4 ∧ (p8 p 1).toNat < 4 then
      let c := layerCfg p
      require (decide (c.blend.toNat ≤ 2) && inRange 1 8 c.repX && inRange 1 8 c.repY) .denied
        (done (s.modRaster ⟨(p8 p 0).toNat, h.1⟩ fun x =>
          { x with shadowL := x.shadowL.set (p8 p 1).toNat c }))
    else .error .denied)

/-- RASTER_COMMIT (R191): a disabled engine applies the commit at once. -/
def execRasterCommit (q : Req) (s : State) : Host.Outcome State Fault Refusal :=
  .next (serve opRasterCommit 1 q s fun s =>
    done ((List.finRange 4).foldl (fun (s : State) (re : Fin 4) =>
      if pbit q.payload 0 re.val then
        if s.raster[re].cfg.enable then s.modRaster re fun x => { x with commit := true } else s.rasterCopy re
      else s) s))

/-- RASTER_STATUS (R195, Table 5.13). -/
def execRasterStatus (q : Req) (s : State) : Host.Outcome State Fault Refusal :=
  .next (serve opRasterStatus 1 q s fun s =>
    if h : (p8 q.payload 0).toNat < 4 then
      let re : Fin 4 := ⟨(p8 q.payload 0).toNat, h⟩
      let x := s.raster[re]
      answer s (pack 40 ([fN 0 1 (s.rasterState re), fB 1 0 x.commit, f16 2 x.firstBadLine, f32 4 (lastFrame x.lastSent),
        f32 8 x.repeats, f32 12 x.aborts, f32 16 x.underruns, f32 20 x.crcLines, f32 24 x.crcFrames, f32 28 x.resyncs,
        f32 32 x.applyFrame] ++ (List.finRange 4).map fun i => fB 1 (1 + i.val) x.underrun[i]))
    else .error .denied)

/-- X(r): the raster start of an engine (R183 to R185). -/
def execRasterStart (dt : Nat) (re : Fin 4) (s : State) : Host.Outcome State Fault Refusal :=
  let s := s.elapse dt
  let x := s.raster[re]
  let r := s.grid.rasterFrame x.cfg.genlock x.nextR s.full
  .next (if 0 ≤ sdiff32 r x.nextR ∧ s.pwr.mode = .run then s.rasterBegin re r else s)

/-- An active line of the transfer in progress (R186). `under`: pixels at which the layers of a mask underrun (R189);
`bad`: the loopback CRC of the line differs (R190). -/
def execRasterLine (dt : Nat) (re : Fin 4) (under : List (Nat × BitVec 4)) (bad : Bool) (s : State) :
    Host.Outcome State Fault Refusal :=
  let s := s.elapse dt
  let c := s.raster[re].cfg
  .next (match s.raster[re].xfer with
    | none => s
    | some t =>
      if s.grid.rasterAt c.genlock t.r + c.lineAt (s.grid.vals t.r) t.line ≤ s.full then s.rasterLine re t under bad else s)

/-- The vertical blanking of the raster frame in progress begins: a commit is copied (R191). -/
def execVerticalBlankingStart (dt : Nat) (re : Fin 4) (s : State) : Host.Outcome State Fault Refusal :=
  let s := s.elapse dt
  let x := s.raster[re]
  .next (if x.blanked = false ∧
      s.grid.rasterAt x.cfg.genlock (x.nextR - 1) + x.cfg.lineAt (s.grid.vals (x.nextR - 1)) x.cfg.vActive ≤ s.full then
      let s := s.modRaster re fun x => { x with blanked := true }
      if x.commit then s.rasterCopy re else s
    else s)

end Sys2Proof.Machine
end

