-- ==== Sys2Proof/Machine/Ports.lean ====
section
/-! DEFINITION. Machine/Ports.lean: the commands and events of fixture ports, inputs, RDM and sACN (R278 to R307). -/
namespace Sys2Proof.Machine
open Sys2Proof

/-! ### Settings -/

/-- The values of a PORT_SET payload (Table 8.7). -/
def pairCfg (p : List U8) : PairCfg :=
  { mode := p8 p 1, breakUs := p16 p 2, mabUs := p16 p 4, interslotUs := p8 p 6, rdmEn := pbit p 7 0, delayUs := p16 p 8,
    sensorBase := p8 p 10, pollFrames := p8 p 11, bitNs := p16 p 12, t0hNs := p16 p 14, t1hNs := p16 p 16, resetUs := p16 p 18,
    clockKhz := p16 p 20, order := p8 p 22, pixHeader := p8 p 23, pwmPeriod := p32 p 24, subpulses := p8 p 28,
    minPulseNs := p16 p 30, phase := p32 p 32, phaseOdd := p32 p 36, discoveryS := p16 p 40 }

/-- PORT_SET values lie in their ranges (Table 8.7). -/
def PairCfg.ok (c : PairCfg) : Bool :=
  decide (c.mode.toNat ≤ 5) && inRange 92 1000 c.breakUs.toNat && inRange 12 1000 c.mabUs.toNat &&
  decide (c.interslotUs.toNat ≤ 100) && decide (c.delayUs.toNat ≤ 20000) && decide (8 ≤ c.pollFrames.toNat) &&
  inRange 1000 5000 c.bitNs.toNat && decide (c.bitNs.toNat % 4 = 0) && decide (c.t0hNs.toNat % 4 = 0) &&
  decide (c.t0hNs.toNat < c.t1hNs.toNat) && decide (c.t1hNs.toNat % 4 = 0) && decide (c.t1hNs.toNat < c.bitNs.toNat) &&
  inRange 50 1000 c.resetUs.toNat && inRange 100 25000 c.clockKhz.toNat && inRange 62500 250000 c.pwmPeriod.toNat &&
  [1, 2, 4, 8, 16, 32].contains c.subpulses.toNat && decide (c.phase.toNat < c.pwmPeriod.toNat) &&
  decide (c.phaseOdd.toNat < c.pwmPeriod.toNat)

/-- Take PORT_SET's values into force: a pair whose MODE changes is undriven for its first frame period (R280), and full
discovery runs when RDM_EN is first set (R292). -/
def State.setPort (pl : List U8) (s : State) : State :=
  let c := pairCfg pl
  if h : (p8 pl 0).toNat < 32 then
    let p : Fin 32 := ⟨(p8 pl 0).toNat, h⟩
    let old := s.ports.pair[p]
    let s := s.modPair p fun x =>
      if old.cfg.mode = c.mode then { x with cfg := c }
      else { x with cfg := c, undriven := true, tx := none, rdm := none, queue := [], disc := none, found := [], reading := [],
                    delayed := false, idleFrom := 0 }
    let s := if old.cfg.mode = c.mode then s
      else (List.range 2).foldl (fun (s : State) (k : Nat) =>
        if hk : 2 * p.val + k < 64 then
          { s with ports.pwm := s.ports.pwm.set (2 * p.val + k) {}, ports.strFrame := s.ports.strFrame.set (2 * p.val + k) none,
                   ports.strStop := s.ports.strStop.set (2 * p.val + k) 0, ports.strLast := s.ports.strLast.set (2 * p.val + k) [] }
        else s) s
    let s := if !old.rdmOn && s.ports.pair[p].rdmOn && !s.rdmStandby then s.discover p true else s
    s.portLeads
  else s

/-- PORT_SET (R280, R307, R454, R491). -/
def execPortSet (q : Req) (s : State) : Host.Outcome State Fault Refusal :=
  .next (serve opPortSet 44 q s fun s =>
    let n := (p8 q.payload 0).toNat
    let c := pairCfg q.payload
    require (decide (n < 32) && c.ok && !(s.mb.spi && decide (29 ≤ n))) .denied
      (require (c.mode == 0 || s.bankUp (pairOf (2 * n))) .notReady (done (s.defer opPortSet n q.payload))))

/-- The values of an INPUT_SET payload (Table 8.9). -/
def inputCfg (p : List U8) : InputCfg :=
  { kind := p8 p 2, source := p8 p 3, uni := p16 p 4, merge := pbit p 6 0, lossAction := pbit p 6 1, lossMs := p16 p 8,
    idleUs := p16 p 10 }

/-- An entry under new settings: KIND 0 frees it; else its slots stand (R296). -/
def InputEntry.set (x : InputEntry) (c : InputCfg) (now : Nat) : InputEntry :=
  if c.kind = 0 then {} else { cfg := c, slots := x.slots, lastShort := x.lastShort, lastAt := some now }

/-- Take INPUT_SET's values into force; the wait for a packet begins (R297). -/
def State.setInput (pl : List U8) (s : State) : State :=
  let n := rd pl 0 2
  if n < 1024 then
    (s.modInput n fun x => x.set (inputCfg pl) s.now).igmpAll
  else s

/-- INPUT_SET (R295, R307). -/
def execInputSet (q : Req) (s : State) : Host.Outcome State Fault Refusal :=
  .next (serve opInputSet 16 q s fun s =>
    let n := rd q.payload 0 2
    let c := inputCfg q.payload
    require (decide (n < 1024) && decide (c.kind.toNat ≤ 2) &&
        (c.kind == 0 || decide (c.source.toNat < (if c.kind = 1 then 16 else 32))) && inRange 1 63999 c.uni.toNat &&
        inRange 100 10000 c.lossMs.toNat && inRange 50 10000 c.idleUs.toNat) .denied
      (done (s.defer opInputSet n q.payload)))

/-- Take CID and SOURCE_NAME of a SACN_SET into force. -/
def State.setSacnNow (p : List U8) (s : State) : State :=
  if h : (p8 p 0).toNat < 4 then
    s.modSacn ⟨(p8 p 0).toNat, h⟩ fun x => { x with cfg := { x.cfg with cid := bytesAt p 0x10 16, name := bytesAt p 0x20 64 } }
  else s

/-- Take the other fields of a SACN_SET into force. -/
def State.setSacn (p : List U8) (s : State) : State :=
  if h : (p8 p 0).toNat < 4 then
    let s := s.modSacn ⟨(p8 p 0).toNat, h⟩ fun x =>
      { x with cfg := { x.cfg with discoveryEn := pbit p 1 0, forceSync := pbit p 1 1, prio := p8 p 2, syncUniverse := p16 p 4,
                                   syncLeadUs := p16 p 6, netDelayUs := p16 p 8 } }
    State.portLeads { s with ports.controllerUid := rd p 0x0A 6 }
  else s

/-- SACN_SET: CID and SOURCE_NAME at once, the others at the next frame boundary (R307). -/
def execSacnSet (q : Req) (s : State) : Host.Outcome State Fault Refusal :=
  .next (serve opSacnSet 104 q s fun s =>
    let p := q.payload
    require (decide ((p8 p 0).toNat < 4) && decide ((p8 p 2).toNat ≤ 200) && decide (rd p 4 2 ≤ 63999) &&
        decide (rd p 6 2 ≤ 10000) && decide (rd p 8 2 ≤ 20000)) .denied
      (done ((s.defer opSacnSet (p8 p 0).toNat p).setSacnNow p)))

/-! ### Status -/

/-- The route of a pair, whatever its mode. -/
def State.pairRoute (s : State) (p : Fin 32) : Option (Nat × Route) :=
  match s.dmxRoute p with
  | some r => some r
  | none => ((s.stringRoute (2 * p.val)).or (s.stringRoute (2 * p.val + 1))).or
      ((s.pwmRoute (2 * p.val)).or (s.pwmRoute (2 * p.val + 1)))

/-- The response of PORT_STATUS (Table 8.8). -/
def State.portData (s : State) (p : Fin 32) : List U8 :=
  let x := s.ports.pair[p]
  let r := s.pairRoute p
  let lead := match r with
    | some e => (s.dest e.1).lead
    | none => 0
  let d := match r with
    | some e => if e.2.kind = 5 then 1 else s.grid.v.divider (s.portXD e.2).1
    | none => 1
  let present := x.cfg.mode == 2 &&
    s.ports.input.any fun e => e.2.cfg.kind == 2 && e.2.cfg.source.toNat == p.val && !e.2.lost
  pack 32 [f8 0 x.cfg.mode, fB 1 0 present, fN 2 1 d, f16 4 lead, fN 6 2 x.uids.length, f32 8 x.lastFrame, f32 12 x.packets,
    f32 16 x.late, f32 20 x.inputErrors, f32 24 x.rdmTimeouts, f32 28 x.ignored]

/-- PORT_STATUS (R307). -/
def execPortStatus (q : Req) (s : State) : Host.Outcome State Fault Refusal :=
  .next (serve opPortStatus 1 q s fun s =>
    if h : (p8 q.payload 0).toNat < 32 then answer s (s.portData ⟨(p8 q.payload 0).toNat, h⟩) else .error .denied)

/-- Sources that feed an entry. -/
def InputEntry.sourceCount (e : InputEntry) : Nat :=
  if e.cfg.kind = 1 then e.sources.length else if e.cfg.kind = 2 ∧ e.lost = false then 1 else 0

/-- INPUT_READ (R307). -/
def execInputRead (q : Req) (s : State) : Host.Outcome State Fault Refusal :=
  .next (serve opInputRead 6 q s fun s =>
    let n := rd q.payload 0 2
    let first := rd q.payload 2 2
    let c := rd q.payload 4 2
    require (decide (n < 1024) && inRange 1 512 c && decide (first + c ≤ 512)) .denied
      (let e := s.input n
       answer s (pack 8 [f32 0 e.lastShort, fN 4 1 e.sourceCount, f8 5 e.prio, fB 6 0 e.lost] ++ bytesAt e.slots first c)))

/-- SACN_STATUS (R307). -/
def execSacnStatus (q : Req) (s : State) : Host.Outcome State Fault Refusal :=
  .next (serve opSacnStatus 1 q s fun s =>
    if h : (p8 q.payload 0).toNat < 4 then
      let n : Fin 4 := ⟨(p8 q.payload 0).toNat, h⟩
      let x := s.ports.sacn[n]
      let rs := s.sacnRoutes n
      let o := rs.foldl (fun m r => max m (s.dest r.1).lead.toNat) 0
      answer s (pack 16 [f32 0 x.dataSent, f32 4 x.syncSent, f32 8 x.late, fN 12 2 rs.length, fN 14 2 o])
    else .error .denied)

/-! ### RDM commands (R290 to R294) -/

/-- Carry out a command on an RDM controller's pair: ST_NOT_READY on a standby, or where RDM is not enabled. -/
def onRdm (s : State) (n : Nat) (k : Fin 32 → Except Status Done) : Except Status Done :=
  if h : n < 32 then
    if s.rdmStandby = true ∨ s.ports.pair[n].rdmOn = false then .error .notReady else k ⟨n, h⟩
  else .error .denied

/-- RDM_DISCOVER (R292, R294). -/
def execRdmDiscover (q : Req) (s : State) : Host.Outcome State Fault Refusal :=
  .next (serve opRdmDiscover 2 q s fun s =>
    onRdm s (p8 q.payload 0).toNat fun p =>
      require s.ports.pair[p].disc.isNone .busy (done (s.discover p (pbit q.payload 1 0))))

/-- RDM_UID_READ (R307). -/
def execRdmUidRead (q : Req) (s : State) : Host.Outcome State Fault Refusal :=
  .next (serve opRdmUidRead 4 q s fun s =>
    if h : (p8 q.payload 0).toNat < 32 then
      match s.ports.pair[(p8 q.payload 0).toNat].uids[rd q.payload 2 2]? with
      | none => .error .denied
      | some u =>
        let inImage := match s.sh.active with
          | none => false
          | some im => im.fixtures.any fun f => f.rdmUid == u
        answer s (pack 8 [fN 0 6 u, fB 6 0 inImage])
    else .error .denied)

/-- RDM_REQUEST (R290, R294). -/
def execRdmRequest (q : Req) (s : State) : Host.Outcome State Fault Refusal :=
  let n := (p8 q.payload 16).toNat
  .next (serve opRdmRequest (17 + n) q s fun s =>
    let p := q.payload
    require (decide ((p8 p 0).toNat < 32) && (p8 p 1 == 0x20 || p8 p 1 == 0x30) && decide (n ≤ 231)) .denied
      (onRdm s (p8 p 0).toNat fun k =>
        let r : RdmReq := { use := .host (p32 p 12), dest := rd p 4 6, cls := p8 p 1, pid := p16 p 2, sub := p16 p 10,
                            data := bytesAt p 17 n }
        done (s.modPair k fun x => { x with queue := x.queue ++ [r] })))

/-- RDM_RESULT_READ (R307). -/
def execRdmResultRead (q : Req) (s : State) : Host.Outcome State Fault Refusal :=
  .next (serve opRdmResultRead 4 q s fun s =>
    match s.ports.results.find? (·.1 == p32 q.payload 0) with
    | none => .error .notReady
    | some r => answer s (pack 6 [f8 0 r.2.outcome, f16 2 r.2.nack, fN 4 2 r.2.data.length] ++ r.2.data))

/-! ### Events -/

/-- A DMX port begins a packet (R283, R287, R288). -/
def execDmxPacketStart (dt : Nat) (p : Fin 32) (s : State) : Host.Outcome State Fault Refusal := .next ((s.elapse dt).dmxStart p)

/-- An RDM request is sent (R291). -/
def execRdmTransactionStart (dt : Nat) (p : Fin 32) (s : State) : Host.Outcome State Fault Refusal := .next ((s.elapse dt).rdmStart p)

/-- An RDM response is received (R291). -/
def execRdmResponse (dt : Nat) (p : Fin 32) (r : RdmResp) (s : State) : Host.Outcome State Fault Refusal :=
  .next ((s.elapse dt).rdmResponse p r)

/-- The wait for a response ends (R291). -/
def execRdmResponseTimeout (dt : Nat) (p : Fin 32) (s : State) : Host.Outcome State Fault Refusal :=
  .next ((s.elapse dt).rdmTimeout p)

/-- Periodic discovery (R292). -/
def execRdmDiscoveryTimer (dt : Nat) (p : Fin 32) (s : State) : Host.Outcome State Fault Refusal :=
  let s := s.elapse dt
  let x := s.ports.pair[p]
  .next (if x.rdmOn ∧ x.cfg.discoveryS ≠ 0 ∧ x.disc.isNone ∧ s.rdmStandby = false ∧
      s.fwExpired (x.discAt.getD 0 + x.cfg.discoveryS.toNat * 1000000000) = true then s.discover p true else s)

/-- A fixture's sensors are read (R293). -/
def execRdmSensorPoll (dt : Nat) (p : Fin 32) (s : State) : Host.Outcome State Fault Refusal := .next ((s.elapse dt).rdmPoll p)

/-- The packet has ended: at the next break, or after INPUT_IDLE_US of mark (R296). -/
def dmxEnded (x : DmxPacket) (idleUs : Nat) : Bool := x.byBreak || decide (idleUs * 1000 ≤ x.since)

/-- A short break or mark after break, or a framing error, is an error (R296). -/
def dmxError (x : DmxPacket) : Bool := x.framing || decide (x.breakNs < 88000) || decide (x.mabNs < 8000)

/-- A DMX input packet ends (R296). -/
def execDmxInputPacket (dt : Nat) (p : Fin 32) (x : DmxPacket) (s : State) : Host.Outcome State Fault Refusal :=
  let s := s.elapse dt
  let pr := s.ports.pair[p]
  let entry := s.ports.input.find? fun e => e.2.cfg.kind == 2 && e.2.cfg.source.toNat == p.val
  let idle := match entry with
    | some e => e.2.cfg.idleUs.toNat
    | none => 100
  .next (if s.pairIn p 2 = false ∨ dmxEnded x idle = false then s
    else if dmxError x then
      (s.modPair p fun y => { y with inputErrors := y.inputErrors.inc, errorRun := true }).raiseIf (!pr.errorRun) 82 [fN 0 1 p.val]
    else if x.startCode ≠ 0 then s.modPair p fun y => { y with ignored := y.ignored.inc, errorRun := false }
    else
      let s := s.modPair p fun y => { y with
                                     packets := y.packets.inc, errorRun := false,
                                     lastFrame := s.short - BitVec.ofNat 32 x.since, last := x.slots }
      match entry with
      | none => s
      | some e => s.inputAccept e.1 ((x.slots ++ e.2.slots.drop x.slots.length).take 512) x.since id)

/-- An entry has had no packet for LOSS_MS (R297). -/
def execInputLossTimeout (dt : Nat) (n : Fin 1024) (s : State) : Host.Outcome State Fault Refusal :=
  let s := s.elapse dt
  let e := s.input n
  .next (match e.lastAt with
    | none => s
    | some t =>
      if e.cfg.kind ≠ 0 ∧ e.lost = false ∧ s.fwExpired (t + e.cfg.lossMs.toNat * 1000000) = true then
        (s.modInput n fun y => { y.keep s.full with lost := true, slots := if e.cfg.lossAction then blankSlots else y.slots }).raiseF 81
          [fN 0 2 n.val, fN 2 1 1]
      else s)

/-- An sACN data packet is taken from its receive queue (R298, R299). -/
def execSacnDataPacket (dt : Nat) (x : SacnPacket) (s : State) : Host.Outcome State Fault Refusal :=
  let s := (s.elapse dt).rxTake x.eth (rxQueue x.eth.val 2)
  let hits := s.ports.input.filter fun e => e.2.cfg.kind == 1 && e.2.cfg.source.getLsbD x.eth.val && e.2.cfg.uni == x.uni
  .next ((hits.map (·.1)).foldl (fun (s : State) n => s.sacnEntry n x) s)

/-- A tracked source has sent nothing for LOSS_MS (R298). -/
def execSacnSourceLoss (dt : Nat) (n : Fin 1024) (cid : List U8) (s : State) : Host.Outcome State Fault Refusal :=
  let s := s.elapse dt
  let e := s.input n
  .next (match e.sources.find? (·.cid == cid) with
    | none => s
    | some x => if s.fwExpired (x.lastAt + e.cfg.lossMs.toNat * 1000000) then s.removeSource n cid else s)

/-- A single-wire string begins a frame (R300). -/
def execPixelStringSend (dt : Nat) (pin : Fin 64) (s : State) : Host.Outcome State Fault Refusal :=
  .next ((s.elapse dt).stringSend pin 3)

/-- A clocked string begins a frame (R301). -/
def execClockedStringSend (dt : Nat) (pin : Fin 64) (s : State) : Host.Outcome State Fault Refusal :=
  .next ((s.elapse dt).stringSend pin 4)

/-- A PWM sub-slot begins (R154, R155, R303). -/
def execPwmSubslotStart (dt : Nat) (pin : Fin 64) (s : State) : Host.Outcome State Fault Refusal := .next ((s.elapse dt).pwmStart pin)

/-- The data packets of a frame leave (R304, R305). -/
def execSacnDataSend (dt : Nat) (n : Fin 4) (s : State) : Host.Outcome State Fault Refusal := .next ((s.elapse dt).sacnData n)

/-- The synchronisation packet of a frame leaves (R305). -/
def execSacnSyncSend (dt : Nat) (n : Fin 4) (s : State) : Host.Outcome State Fault Refusal := .next ((s.elapse dt).sacnSync n)

/-- Universe discovery (R304). -/
def execSacnDiscoverySend (dt : Nat) (n : Fin 4) (s : State) : Host.Outcome State Fault Refusal := .next ((s.elapse dt).sacnDiscovery n)

end Sys2Proof.Machine
end

