-- ==== Sys2Proof/Machine/Trestle.lean ====
section
/-! DEFINITION. Machine/Trestle.lean: the messages and timers of latch domains and Hedgerow, and the Trestle's host commands
(R208 to R231). -/
namespace Sys2Proof.Machine
open Sys2Proof

/-! ### Messages -/

/-- A LATCH arrives (R219). -/
def execLatchMsg (dt : Nat) (span : Fin 12) (m : Msg) (s : State) : Host.Outcome State Fault Refusal :=
  .next ((s.elapse dt).consume span m fun s => s.acceptLatch (Latch.parse m.payload))

/-- A REPORT arrives (R218). -/
def execReportMsg (dt : Nat) (span : Fin 12) (m : Msg) (s : State) : Host.Outcome State Fault Refusal :=
  .next ((s.elapse dt).consume span m fun s => s.reportMsg m.payload)

/-- The issuer sends a LATCH (R218). -/
def execLatchIssue (dt : Nat) (s : State) : Host.Outcome State Fault Refusal :=
  .next (s.elapse dt).issueLatch

/-- The second copy of a LATCH leaves, 4 us after the first (R218). -/
def execLatchRepeat (dt : Nat) (s : State) : Host.Outcome State Fault Refusal :=
  let s := s.elapse dt
  .next (match s.tre.latchCopy with
    | [] => s
    | c :: rest => if c.2.2 + 4000 ≤ s.now then State.flood { s with tre.latchCopy := rest } 0x0001 c.2.1 else s)

/-- A MEMBER record arrives (R215). -/
def execMemberMsg (dt : Nat) (span : Fin 12) (m : Msg) (s : State) : Host.Outcome State Fault Refusal :=
  .next ((s.elapse dt).consume span m fun s => s.memberMsg m.src m.payload)

/-- MEMBER is flooded at a frame boundary (R215). -/
def execMemberFlood (dt : Nat) (s : State) : Host.Outcome State Fault Refusal :=
  let s := s.elapse dt
  .next (if s.grid.memberDue then State.floodMember { s with grid.memberDue := false } else s)

/-- Members not heard for MEMBER_TIMEOUT_FRAMES are dropped (R215). -/
def execMemberTimeout (dt : Nat) (s : State) : Host.Outcome State Fault Refusal :=
  let s := s.elapse dt
  .next (s.dropMembers fun e => s.fwExpired (e.heardAt + s.memberTimeoutNs))

/-- Members unconfirmed for PARTITION_WAIT_US are dropped (R215). -/
def execPartitionWaitExpiry (dt : Nat) (s : State) : Host.Outcome State Fault Refusal :=
  let s := s.elapse dt
  .next (s.dropMembers fun e => match e.unconfirmed with
    | some t => s.fwExpired (t + s.partitionNs)
    | none => false)

/-- A MERGE arrives (R228). -/
def execMergeMsg (dt : Nat) (span : Fin 12) (m : Msg) (s : State) : Host.Outcome State Fault Refusal :=
  .next ((s.elapse dt).consume span m fun s => s.mergeMsg (parseMerge m.payload))

/-- A LINK_EVENT arrives (R211, R228). -/
def execLinkEventMsg (dt : Nat) (span : Fin 12) (m : Msg) (s : State) : Host.Outcome State Fault Refusal :=
  .next ((s.elapse dt).consume span m fun s =>
    let kind := rdBE m.payload 5 1
    let s := s.raiseF 65 [f32 0 m.src, fN 4 1 (rdBE m.payload 4 1), fN 5 1 kind]
    State.topologyChange (if kind = 2 then { s with tre.sawLinkUp := true, tre.refused := [], tre.absorbed := [] } else s))

/-- Learned routes not refreshed for ROUTE_AGE_S are removed (R210). -/
def execRouteAgeExpiry (dt : Nat) (s : State) : Host.Outcome State Fault Refusal :=
  let s := s.elapse dt
  .next { s with tre.learned := s.tre.learned.filter fun e => !s.fwExpired (e.at_ + s.tre.cfg.routeAgeS.toNat * 1000000000) }

/-- An UPDATE arrives: it passes on towards its receiver, and an engine it reaches applies nothing (R209, R224). -/
def execUpdateMsg (dt : Nat) (span : Fin 12) (m : Msg) (s : State) : Host.Outcome State Fault Refusal :=
  .next ((s.elapse dt).consume span m id)

/-- The records of a RETURN received at a full time (R225): sensor readings and positions, each with the frame of its sample. -/
def State.returnRecord (s : State) (dests : List DestKey) (at_ : Int) (r : List U8) : State :=
  if rdBE r 0 1 = 1 then
    let x : Reading := { sensor := BitVec.ofNat 16 (rdBE r 2 2), sample := BitVec.ofNat 32 (rdBE r 4 4),
                         u := BitVec.ofNat 16 (rdBE r 8 2), v := BitVec.ofNat 16 (rdBE r 10 2),
                         y := BitVec.ofNat 16 (rdBE r 12 2), temp := (BitVec.ofNat 16 (rdBE r 14 2)).toInt }
    { s with fix.arrived := s.fix.arrived ++ [(at_, x)] }
  else if rdBE r 0 1 = 2 then
    let p : PosRec := ⟨dests, rdBE r 8 4, BitVec.ofNat 16 (rdBE r 2 2), BitVec.ofNat 32 (rdBE r 4 4), s.now⟩
    if s.running then { s with fix.posArrived := s.fix.posArrived ++ [(at_, p)] } else s.takePosition p
  else s

/-- The routes of the active image that lead to a node. -/
def State.routesOf (s : State) (node : U32) : List Nat :=
  match s.outImage with
  | none => []
  | some im => (List.range im.routes.length).filter fun k => match im.routes[k]? with
    | some r => r.kind == 1 && r.address == node
    | none => false

/-- The destinations that a node receives as. -/
def State.destsOf (s : State) (node : U32) : List DestKey :=
  match s.outImage with
  | none => []
  | some im => (s.routesOf node).filterMap fun k => (im.routes[k]?).map Route.key

/-- A RETURN arrives (R224, R225): LATE_LATCH raises E068, and its span may now place a gap (R260). -/
def State.returnMsg (s : State) (sp : Fin 12) (m : Msg) : State :=
  let p := m.payload
  let routes := s.routesOf m.src
  let late : U32 := BitVec.ofNat 32 (rdBE p 8 4)
  let s := routes.foldl (fun (s : State) k => s.modDest k fun d =>
    { d with lastLatched := BitVec.ofNat 32 (rdBE p 0 4), needRefresh := pbit p 5 0, forceFull := d.forceFull || pbit p 5 0,
             lateLatches := late }) s
  let s := s.raiseIf (pbit p 5 1) 68 [f32 0 m.src, f32 4 late]
  let n := rdBE p 6 2
  let dests := s.destsOf m.src
  let s := (List.range n).foldl (fun (s : State) i => s.returnRecord dests (s.full : Int) (bytesAt p (16 + 16 * i) 16)) s
  match s.links[sp].peer with
  | some h => if h.node = m.src then s.receiverGap sp else s
  | none => s

/-- A RETURN arrives (R225). -/
def execReturnMsg (dt : Nat) (span : Fin 12) (m : Msg) (s : State) : Host.Outcome State Fault Refusal :=
  .next ((s.elapse dt).consume span m fun s => s.returnMsg span m)

/-! ### Path latency (R221) -/

/-- Hedgerow measures the path to each span receiver, once per second. -/
def State.probePaths (s : State) : State :=
  match s.outImage with
  | none => s
  | some im => im.routes.zipIdx.foldl (fun (s : State) r =>
      if r.1.kind = 1#8 then
        let id := s.tre.probeSeq + 1
        let s := State.modDest { s with tre.probeSeq := id } r.2 fun d => { d with probe := some id }
        s.unicast r.1.address 0x0022 (be 4 id.toNat ++ be 4 s.short.toNat)
      else s) s

/-- A measurement of path latency is due (R221). -/
def execPathProbeDue (dt : Nat) (s : State) : Host.Outcome State Fault Refusal :=
  let s := s.elapse dt
  .next (if s.fwExpired (s.tre.probeAt + 1000000000) then State.probePaths { s with tre.probeAt := s.now } else s)

/-- A PATH_PROBE is answered with PATH_ECHO; `turn` is the time, in ns, that the answer took (R221, Table 6.5). -/
def execPathProbeMsg (dt : Nat) (span : Fin 12) (m : Msg) (turn : U32) (s : State) : Host.Outcome State Fault Refusal :=
  .next ((s.elapse dt).consume span m fun s =>
    s.unicast m.src 0x0023 (bytesAt m.payload 0 8 ++ be 4 turn.toNat))

/-- APPLY_SETUP_NS of a receiver: from its HELLO where it is a span's peer; of one further away the spec names no source. -/
def State.applySetup (s : State) (node : U32) : Nat :=
  match (List.finRange 12).findSome? fun sp => s.links[sp].peer.filter fun h => h.node == node with
  | some h => h.applySetupNs.toNat
  | none => (Config.applySetup node.toNat).toNat

/-- A PATH_ECHO gives the path latency of the destination whose probe it answers, and its output lead (R221). -/
def State.pathEcho (s : State) (m : Msg) : State :=
  let p := m.payload
  let id : U32 := BitVec.ofNat 32 (rdBE p 0 4)
  let trip := (s.short - BitVec.ofNat 32 (rdBE p 4 4)).toNat
  (s.routesOf m.src).foldl (fun (s : State) k =>
    if (s.dest k).probe = some id then
      let d := (trip - rdBE p 8 4) / 2 + s.applySetup m.src
      let s := s.modDest k fun x => { x with probe := none, pathNs := BitVec.ofNat 32 d }
      match s.outImage.bind fun im => im.routes[k]? with
      | some r => s.spanLead k r
      | none => s
    else s) s

/-- A PATH_ECHO arrives (R221). -/
def execPathEchoMsg (dt : Nat) (span : Fin 12) (m : Msg) (s : State) : Host.Outcome State Fault Refusal :=
  .next ((s.elapse dt).consume span m fun s => s.pathEcho m)

/-- A RASTER_FRAME arrives and passes on towards its receiver (R226). -/
def execRasterFrameMsg (dt : Nat) (span : Fin 12) (m : Msg) (s : State) : Host.Outcome State Fault Refusal :=
  .next ((s.elapse dt).consume span m id)

/-- A RASTER_LINE arrives and passes on towards its receiver (R226). -/
def execRasterLineMsg (dt : Nat) (span : Fin 12) (m : Msg) (s : State) : Host.Outcome State Fault Refusal :=
  .next ((s.elapse dt).consume span m id)

/-! ### Host commands (R231) -/

/-- The fields of TRESTLE_SET but for NODE_ID (Table 6.16). -/
def trestleCfg (p : List U8) : TrestleCfg :=
  { hopLimit := p16 p 4, partitionWaitUs := p16 p 6, memberTimeoutFrames := p8 p 8, refreshFrames := p8 p 9,
    outputMarginUs := p16 p 10, creditStallUs := p16 p 12, ackTimeoutUs := p16 p 14, mergeEn := pbit p 16 0,
    latchRepeat := pbit p 16 1, routeAgeS := p16 p 20 }

/-- Take TRESTLE_SET's values into force, at a frame boundary (R231). -/
def State.setTrestle (p : List U8) (s : State) : State := { s with tre.cfg := trestleCfg p }

/-- A new NODE_ID (R208): where the ROOT_ID carried no longer names a member, the lowest member of the set is the root (R216). -/
def State.setNode (s : State) (node : U32) : State :=
  if node = s.tre.nodeId then s
  else s.memberChange fun s => { s with tre.nodeId := node }

/-- TRESTLE_SET (R231). -/
def execTrestleSet (q : Req) (s : State) : Host.Outcome State Fault Refusal :=
  .next (serve opTrestleSet 32 q s fun s =>
    let p := q.payload
    let node := p32 p 0
    let c := trestleCfg p
    require (decide (node < 0xFFFFFFF0#32) && decide (16 ≤ c.hopLimit.toNat) && inRange 50 10000 c.partitionWaitUs.toNat &&
        inRange 2 16 c.memberTimeoutFrames.toNat && inRange 1 32 c.refreshFrames.toNat &&
        decide (c.outputMarginUs.toNat ≤ 20000) && inRange 10 10000 c.creditStallUs.toNat &&
        inRange 5 1000 c.ackTimeoutUs.toNat && inRange 1 3600 c.routeAgeS.toNat) .denied
      (require (node == s.tre.nodeId || s.grid.stopped) .notReady
        (done ((s.setNode node).defer opTrestleSet 0 p))))

/-- TRESTLE_STATUS (Table 6.17). -/
def execTrestleStatus (q : Req) (s : State) : Host.Outcome State Fault Refusal :=
  .next (serve opTrestleStatus 0 q s fun s =>
    answer s (pack 32 [f32 0 s.tre.nodeId, f32 4 s.memberId, f32 8 s.rootId, f16 12 s.tre.gen,
      fN 14 2 s.memberIds.length, fN 16 1 (if s.isIssuer then 1 else if s.holds then 0 else 2),
      fN 17 1 (match s.tre.timeParent with
        | some p => p.val
        | none => 255), f16 18 s.tre.rootDist, f32 20 (lastFrame s.tre.latchedEver), f16 24 s.grid.k, fN 26 2 s.tre.learned.length,
      f32 28 (match s.tre.merges with
        | g :: _ => g.frame
        | [] => 0xFFFFFFFF)]))

/-- The members of the domain in order of member ID, and how each stands in MEMBER_READ. -/
def State.memberList (s : State) : List (Member × Nat) :=
  let own : Member := { id := s.memberId, holder := if s.holds then s.tre.nodeId else s.pier.cfg.partnerId, root := s.rootId,
                        lastCommit := s.lastCommit, kLocal := s.tre.kLocal }
  let add := fun (l : List (Member × Nat)) (e : Member × Nat) =>
    l.filter (fun x => decide (x.1.id < e.1.id)) ++ [e] ++ l.filter fun x => decide (e.1.id < x.1.id)
  (s.others.map fun e => (e, if e.unconfirmed.isSome then 2 else 1)).foldl add [(own, 1)]

/-- MEMBER_READ (Table 6.15). -/
def execMemberRead (q : Req) (s : State) : Host.Outcome State Fault Refusal :=
  .next (serve opMemberRead 2 q s fun s =>
    match s.memberList[(p16 q.payload 0).toNat]? with
    | none => .error .denied
    | some e => answer s (pack 16 [f32 0 e.1.id, f32 4 e.1.holder, f32 8 e.1.lastCommit, f16 12 e.1.kLocal, fN 14 1 e.2]))

/-- ROUTE_READ (Table 6.15). -/
def execRouteRead (q : Req) (s : State) : Host.Outcome State Fault Refusal :=
  .next (serve opRouteRead 4 q s fun s =>
    answer s (match s.tre.learned.find? (·.node == p32 q.payload 0) with
      | none => pack 8 [fN 0 1 255]
      | some e => pack 8 [fN 0 1 e.span.val, f16 2 e.hops, fN 4 4 (sat32 ((s.now - e.at_) / 1000000))]))

/-- The fields of LINK_SET (Table 6.15). -/
def linkCfg (p : List U8) : LinkCfg :=
  { linkEn := pbit p 1 0, timeEn := pbit p 1 1, w2 := p8 p 2, w3 := p8 p 3, asymPs := pInt p 4 4 }

/-- Take LINK_SET's values into force, at a frame boundary; a cleared LINK_EN takes the link down (R200, R231). -/
def State.setLink (p : List U8) (s : State) : State :=
  if h : (p8 p 0).toNat < 12 then
    let sp : Fin 12 := ⟨(p8 p 0).toNat, h⟩
    let s := s.modLink sp fun l => { l with cfg := linkCfg p }
    if (linkCfg p).linkEn then s else s.linkDown sp 5
  else s

/-- LINK_SET (R231). -/
def execLinkSet (q : Req) (s : State) : Host.Outcome State Fault Refusal :=
  .next (serve opLinkSet 16 q s fun s =>
    let p := q.payload
    require (decide ((p8 p 0).toNat < 12) && p8 p 2 != 0 && p8 p 3 != 0) .denied
      (done (s.defer opLinkSet (p8 p 0).toNat p)))

/-- The response of LINK_COUNTERS (Table 6.18). -/
def Link.counters (l : Link) : List U8 :=
  let kind := match l.peer with
    | none => 0
    | some h => if h.engine then 1 else 2
  let id : U32 := match l.peer with
    | none => 0
    | some h => h.node
  pack 48 [fN 0 1 l.st, fN 1 1 kind, f32 4 id, f32 8 l.blocksTx, f32 12 l.blocksRx, f32 16 l.badBlocks, f32 20 l.replays,
    f32 24 l.naksSent, f32 28 l.creditStalls, f32 32 l.floodDuplicates, f32 36 l.hopDiscards, f32 40 l.linkDowns,
    f32 44 l.linkDelayPs]

/-- The counters of Table 6.18 at zero. -/
def Link.clear (l : Link) : Link :=
  { l with blocksTx := 0, blocksRx := 0, badBlocks := 0, replays := 0, naksSent := 0, creditStalls := 0,
           floodDuplicates := 0, hopDiscards := 0, linkDowns := 0 }

/-- LINK_COUNTERS (Table 6.18). -/
def execLinkCounters (q : Req) (s : State) : Host.Outcome State Fault Refusal :=
  .next (serve opLinkCounters 2 q s fun s =>
    if h : (p8 q.payload 0).toNat < 12 then
      let sp : Fin 12 := ⟨(p8 q.payload 0).toNat, h⟩
      answer (if pbit q.payload 1 0 then s.modLink sp Link.clear else s) s.links[sp].counters
    else .error .denied)

/-- DEST_STATUS (Table 6.19). -/
def execDestStatus (q : Req) (s : State) : Host.Outcome State Fault Refusal :=
  .next (serve opDestStatus 4 q s fun s =>
    let k := (p32 q.payload 0).toNat
    match s.outImage.bind fun im => im.routes[k]? with
    | none => .error .denied
    | some r =>
      let d := s.dest k
      answer s (pack 32 [f16 0 d.lead, f8 2 r.kind, fB 3 0 d.capped, fB 3 1 d.needRefresh, f32 4 d.pathNs, f32 8 d.xferNs,
        f32 12 (lastFrame d.sentEver), f32 16 d.lastLatched, f32 20 d.fullRefreshes, f32 24 d.lateSends,
        f32 28 d.lateLatches]))

end Sys2Proof.Machine
end

