-- ==== Sys2Proof/Machine/WakeOps.lean ====
section
/-! DEFINITION. Machine/WakeOps.lean: venue standby and waking from it (R493 to R496). -/
namespace Sys2Proof.Machine
open Sys2Proof

/-- The earliest wake entry that still lies ahead. -/
def State.nextWake (s : State) : Option Nat :=
  (s.pwr.wakes.filter fun w => decide (s.full < w)).foldl (fun (x : Option Nat) w => some (match x with
    | some v => min v w
    | none => w)) none

/-- A wake entry of at least 1 s ahead stands (R494). -/
def State.wakeAhead (s : State) : Bool := s.pwr.wakes.any fun w => decide (s.full + 1000000000 ≤ w)

/-- SLEEP goes out on every span that is up (R494 step 1). -/
def State.sleepAll (s : State) (w : Nat) : State :=
  ((List.finRange 12).filter fun sp => s.links[sp].st == 2).foldl (fun (s : State) sp =>
    s.laneAsk sp 7 { laneCtl0 with guardUs := s.pwr.guardUs, wakeS := w / 1000000000, wakeNs := w % 1000000000 }) s

/-- The change of mode is reported (R493). -/
def State.raiseMode (s : State) (mode prev : Nat) : State := s.raiseF 120 [fN 0 1 mode, fN 1 1 prev]

/-- R494: the engine enters venue standby; a lock fault ends (R36). -/
def State.standby (s : State) (keep : BitVec 4) (onHouse : Bool) : State :=
  let s := match s.nextWake with
    | some w => s.sleepAll w
    | none => s
  let s := { s with pwr.wakes := s.pwr.wakes.filter fun w => decide (s.full < w) }
  let s := ((List.finRange 4).filter fun n => !keep.getLsbD n.val).foldl State.ethDown s
  let s := s.holdover.setFaults false false
  State.raiseMode { s with pwr := { s.pwr with mode := .standby, keepEth := keep, wakeOnHouse := onHouse } } 1 0

/-- A span that sleeps drives CK and trains fully (R496). -/
def State.trainAsleep (s : State) (sp : Fin 12) : State :=
  if s.spans[sp].st = 5 then (s.modSpan sp fun x => { x with st := 1, sleep := none }).beginAttempt sp else s

/-- R496: the engine wakes; cause 1 schedule, 2 command, 3 HOUSE_N, 4 Privet. An alarm latched meanwhile is found (R426). -/
def State.wake (s : State) (cause : Nat) : State :=
  if s.pwr.mode ≠ .standby then s
  else
    let s := { s with pwr := { s.pwr with mode := .run, wakeCause := cause,
                                          wakes := s.pwr.wakes.filter fun w => decide (s.full < w) } }
    let s := s.raiseMode 0 1
    let s := if cause = 1 then s else (List.finRange 12).foldl State.trainAsleep s
    s.foundLatched

/-- A scheduled wake is due: Keystone has reached W - G - 50 ms (R496). -/
def State.wakeDue (s : State) : Bool :=
  s.pwr.mode == .standby && s.pwr.wakes.any fun w => decide (w ≤ s.full + s.pwr.guardUs.toNat * 1000 + 50000000)

/-- The house override wakes an engine with WAKE_ON_HOUSE (R496). -/
def State.houseWake (s : State) (cause : Nat) : State := if s.pwr.wakeOnHouse then s.wake cause else s

end Sys2Proof.Machine
end

