-- ==== Sys2Proof/Machine/RadioOps.lean ====
section
/-! DEFINITION. Machine/RadioOps.lean: radio coordinators: schedule, beacons and Laurel payloads, radio slots, nodes, Privet
stations (R351 to R371). -/
namespace Sys2Proof.Machine
open Sys2Proof

/-! ### Time on air (R355 to R357) -/

/-- The beacon interval, ns (R356). -/
def RadioCfg.bi (c : RadioCfg) : Nat := 15360000 * 2 ^ c.bo.toNat

/-- The active portion of a superframe, ns (R356). -/
def RadioCfg.active (c : RadioCfg) : Nat := 15360000 * 2 ^ c.so.toNat

/-- Bytes of a PSDU about its payload: MAC header of a short-address data frame and FCS, and the auxiliary header and MIC of
a secured frame (IEEE 802.15.4). -/
def psduBytes (level : Nat) (data : List U8) : Nat :=
  11 + (if level = 0 then 0 else if level = 5 then 5 + 4 else 5 + 8) + data.length

/-- Time on air of a frame: its synchronisation header and length, and its PSDU, at 250 kb/s. -/
def RadioTx.airNs (f : RadioTx) : Nat := (6 + psduBytes f.level f.data) * 32000

/-- macAckWaitDuration (Table 10.2). -/
def ackWaitNs : Nat := 864000

/-- Receive time of an edge `ago` ns ago: the edge less IRQ_FROM_SFD_NS (R353). -/
def State.recvTime (s : State) (i : Fin 4) (ago : Nat) : Int := s.stampAgo ago / 65536 - s.radio.ri[i].cfg.irqFromSfdNs.toNat

/-- The first instant of the schedule at or after `t`. -/
def Radio.instantFrom (r : Radio) (t : Int) : Int :=
  let bi : Int := r.cfg.bi
  r.base + -(-(t - r.base) / bi) * bi

/-- The instant after `tb`: BI later, or for a child the next one of the schedule its parent's last beacon gives (R356,
R364). -/
def Radio.nextInstant (r : Radio) (tb : Int) : Int :=
  if r.cfg.child then r.instantFrom (tb + r.cfg.bi / 2) else tb + r.cfg.bi

/-- The schedule begins: from BEACON_ORIGIN, or where the last parent beacon put it (R356, R364). A child that has heard no
parent beacon has none. -/
def State.radioSchedule (s : State) (i : Fin 4) : State :=
  s.modRi i fun r =>
    let r := if r.cfg.child then r else { r with base := (r.cfg.originS * 1000000000 + r.cfg.originNs.toNat : Nat) }
    if r.cfg.child && r.parentNext.isNone then { r with nextTb := none, built := none }
    else { r with nextTb := some (r.instantFrom ((s.full : Int) + 500000)), built := none }

/-! ### Completion of frames (R362) -/

/-- E102 for a frame of RADIO_SEND: 0 ACKED, 1 NO_ACK, 2 SENT, 3 EXPIRED. -/
def State.txDone (s : State) (f : RadioTx) (outcome : Nat) : State :=
  match f.tag with
  | some t => s.raiseF 102 [f32 0 t, fN 4 1 outcome]
  | none => s

/-- A held frame leaves; the partner hears of it (R370). -/
def State.unhold (s : State) (i : Fin 4) (f : RadioTx) : State :=
  if s.radio.ri[i].held.any fun h => h.id == f.id then
    (s.modRi i fun r => { r with held := r.held.filter (fun h => h.id != f.id), expireRun := false }).radioChange i.val 5 f.dest f.id []
  else s

/-- The bytes of a held frame in a seal: class, extended address, flags and TAG, then its data. -/
def RadioTx.sealBytes (f : RadioTx) : List U8 :=
  be 1 f.cls.val ++ be 8 f.ext.toNat ++ be 1 (if f.ack then 1 else 0) ++ be 1 f.level ++
  be 1 (if f.tag.isSome then 1 else 0) ++ be 4 (f.tag.getD 0).toNat ++ f.data

/-- A frame to send, numbered. -/
def State.newTx (s : State) (i : Fin 4) (f : RadioTx) : State × RadioTx :=
  let n := s.radio.ri[i].txId
  (s.modRi i fun r => { r with txId := n + 1 }, { f with id := n, since := s.now })

/-- Hold a frame for indirect transmission (R362). -/
def State.hold (s : State) (i : Fin 4) (f : RadioTx) : State :=
  let x := s.newTx i f
  (x.1.modRi i fun r => { r with held := r.held ++ [x.2] }).radioChange i.val 4 f.dest x.2.id x.2.sealBytes

/-- A frame asks for a radio slot (R358). -/
def State.queueTx (s : State) (i : Fin 4) (f : RadioTx) : State :=
  let x := s.newTx i f
  x.1.modRi i fun r => { r with queue := r.queue ++ [x.2] }

/-- Send a frame to a node: direct, or held where it sleeps (R362). -/
def State.sendTo (s : State) (i : Fin 4) (sleepy : Bool) (f : RadioTx) : State :=
  if sleepy then s.hold i { f with cls := 2 } else s.queueTx i f

/-- The interface takes part in its PAN: a coordinator's STATE. -/
def Radio.active (r : Radio) : Bool := inRange 1 3 r.st

/-- Frames that wait for a slot, or for an acknowledgement, end unacknowledged. -/
def State.dropQueue (s : State) (i : Fin 4) : State :=
  let r := s.radio.ri[i]
  let fs := r.queue ++ (match r.wait with
    | some w => [w.1]
    | none => [])
  let s := s.modRi i fun r => { r with queue := [], wait := none }
  (fs.filter fun f => !(r.held.any fun h => h.id == f.id)).foldl (fun (s : State) f => s.txDone f 1) s

/-! ### Settings (R372, Table 10.8) -/

/-- The values of a RADIO_SET payload. -/
def radioCfg (p : List U8) : RadioCfg :=
  { enable := pbit p 1 0, laurel := pbit p 1 1, child := pbit p 1 2, permit := pbit p 1 3, assocMode := pbits p 1 4 2,
    secRequired := pbit p 1 6, channel := p8 p 2, bo := p8 p 3, so := p8 p 4, perBeacon := p8 p 5, panId := p16 p 6,
    spiKhz := p16 p 8, persistBi := p16 p 10, stbToSfdNs := p16 p 12, irqFromSfdNs := p16 p 14, originS := rd p 16 6,
    originNs := p32 p 24, applyMinUs := p16 p 28, parentPan := p16 p 30, parentOffsetUs := p32 p 32,
    parentWindowUs := p16 p 36, coordExt := p64 p 40, privetSlot := p8 p 48 }

/-- The values of RADIO_SET come into force: the transceiver is taken out of reset, or put into it (R351, R354). -/
def State.radioApply (s : State) (i : Fin 4) (c : RadioCfg) : State :=
  let old := s.radio.ri[i]
  let s := s.modRi i fun r => { r with cfg := c, next := none }
  let s :=
    if c.enable = false then
      let s := (s.dropQueue i).modRi i fun r => { r with rstN := false, driver := none, nextTb := none, built := none, lost := true }
      s.radioTo i 0
    else if old.cfg.enable = false then s.modRi i fun r => { r with rstN := true, rstAt := s.now, driver := none }
    else
      let moved := decide ((c.child, c.originS, c.originNs, c.bo) ≠ (old.cfg.child, old.cfg.originS, old.cfg.originNs, old.cfg.bo))
      let s := if moved && old.driver.isSome then s.radioSchedule i else s
      s.radioTo i (s.radioSt s.radio.ri[i])
  s.portLeads

/-- An interface whose bank falls away is undriven: its transceiver is in reset until the bank returns (R491). -/
def State.radioDown (s : State) (i : Fin 4) : State :=
  let c := s.radio.ri[i].cfg
  if c.enable then (s.radioApply i { c with enable := false }).modRi i fun r => { r with cfg := c } else s

/-- An enabled interface whose transceiver is in reset starts it again (R491). -/
def State.radioResume (s : State) (i : Fin 4) : State :=
  let r := s.radio.ri[i]
  if r.cfg.enable = true ∧ r.rstN = false then s.modRi i fun r => { r with rstN := true, rstAt := s.now, driver := none } else s

/-- Interface of a payload whose first byte is RI. -/
def riOf (p : List U8) : Fin 4 := ⟨(p8 p 0).toNat % 4, Nat.mod_lt _ (by decide)⟩

/-- Take RADIO_SET's values: at the next build instant, or at once where the interface sends no beacons (R372). -/
def State.setRadio (p : List U8) (s : State) : State :=
  let i := riOf p
  let c := radioCfg p
  if s.radio.ri[i].nextTb.isSome then s.modRi i fun r => { r with next := some c } else s.radioApply i c

/-! ### Transceiver identification (R353, R354) -/

/-- The first record whose masked response equals ID_VALUE; `resp` is what each record's test reads. -/
def identify (ds : List DriverRec) (resp : List U32) : Option Nat :=
  (List.range (min ds.length 16)).find? fun k => match ds[k]?, resp[k]? with
    | some d, some x => x &&& d.mask == d.value
    | _, _ => false

/-- The list is tried. -/
def State.identifyRadio (s : State) (i : Fin 4) (resp : List U32) : State :=
  match identify s.radio.drivers resp with
  | some k =>
    let s := (s.modRi i fun r => { r with driver := some k, lost := true, missRun := 0 }).radioSchedule i
    s.radioTo i (s.radioSt s.radio.ri[i])
  | none => (s.modRi i fun r => { r with faultAt := s.now }).radioTo i 5

/-! ### Laurel payloads (R366 to R369) -/

/-- The Laurel routes of an interface: route index, BLOCK; in ascending BLOCK. -/
def State.laurelRoutes (s : State) (i : Fin 4) : List (Nat × Nat) :=
  let rs := (s.activeRoutes.filter fun r => r.2.kind == 7 && r.2.port.toNat == i.val).map fun r => (r.1, r.2.address.toNat % 4096)
  rs.foldl (fun (l : List (Nat × Nat)) r => (l.filter fun x => decide (x.2 < r.2)) ++ r :: l.filter fun x => decide (r.2 ≤ x.2)) []

/-- The turn order: blocks that are due once with APPLY_AT = 0, then the turn, blocks new to it last in ascending order. -/
def Radio.order (r : Radio) (blocks : List Nat) : List Nat :=
  let turn := (r.turn.filter blocks.contains) ++ blocks.filter fun b => !r.turn.contains b
  (r.urgent.filter blocks.contains) ++ turn.filter fun b => !r.urgent.contains b

/-- The latched frames whose slots are kept, oldest first (R367). -/
def State.laurelFrames (s : State) : List U32 := ((s.tre.latches.take 8).map (·.1)).reverse

/-- R367, R369: the frame a block carries and its APPLY_AT in ns; `none`: not carried. -/
def State.laurelChoice (s : State) (i : Fin 4) (route : Nat) (urgent : Bool) (tb : Int) : Option (U32 × Nat) :=
  let c := s.radio.ri[i].cfg
  if s.grid.stopped || urgent then
    match s.grid.frame with
    | some m => some (m, 0)
    | none => if s.grid.stopped then none else (s.laurelFrames.getLast?).map fun m => (m, 0)
  else
    let a := fun m => s.grid.p' m + s.lambdaOf route
    match s.laurelFrames.find? fun m => decide (tb + c.applyMinUs.toNat * 1000 ≤ a m) with
    | some m => if a m - tb ≤ 65535000 then some (m, (a m - tb).toNat) else none
    | none => none

/-- The 46 bytes of a Laurel payload (Table 10.4). -/
def laurelBytes (block applyNs : Nat) (slots : List U8) : List U8 :=
  be 2 (0x2000 + block) ++ be 2 (roundDiv applyNs 1000).toNat ++ bytesAt slots 0 42

/-- Blocks that a beacon with SFD end `tb` considers. -/
def State.laurelBuild (s : State) (i : Fin 4) (tb : Int) : State × List (List U8) :=
  let rs := s.laurelRoutes i
  let order := s.radio.ri[i].order (rs.map (·.2))
  (order.take s.radio.ri[i].cfg.perBeacon.toNat).foldl (fun (acc : State × List (List U8)) b =>
    let s := acc.1
    let urgent := s.radio.ri[i].urgent.contains b
    match rs.find? fun r => r.2 == b with
    | none => acc
    | some r => match s.laurelChoice i r.1 urgent tb with
      | some x =>
        let pay := laurelBytes b x.2 ((s.packedOf x.1 r.1).getD [])
        (s.modRi i fun y => { y with turn := (y.order (rs.map (·.2))).filter (· != b) ++ [b],
                                     urgent := y.urgent.filter (· != b), lateRun := false }, acc.2 ++ [pay])
      | none =>
        if s.grid.stopped then acc
        else
          let first := !s.radio.ri[i].lateRun
          ((s.modRi i fun y => { y with lateRun := true, laurelLate := y.laurelLate.inc }).raiseIf first 103
            [fN 0 1 i.val, fN 2 2 b], acc.2)) (s.modRi i fun y => { y with turn := y.order (rs.map (·.2)) }, [])

/-- R369: blocks with a zone that the mask covers move to the head of the turn order, carried once on receipt. -/
def State.laurelUrgent (s : State) (mask : U32) : State :=
  match s.outImage with
  | none => s
  | some im => (List.finRange 4).foldl (fun (s : State) i =>
      let bs := (s.laurelRoutes i).filter fun r => (im.fixturesOf r.1).any fun e => inHouse mask e.2
      s.modRi i fun r => { r with urgent := r.urgent.filter (fun b => !(bs.any fun x => x.2 == b)) ++ bs.map (·.2) }) s

/-- The superframe specification of a beacon: BO, SO, the last slot of the CAP, no battery life extension, PAN coordinator unless
CHILD is set, association permit (R356; the layout is that of IEEE 802.15.4). -/
def RadioCfg.superframe (c : RadioCfg) : U16 :=
  BitVec.ofNat 16 (c.bo.toNat % 16 + 16 * (c.so.toNat % 16) + 0x0F00 + (if c.child then 0 else 0x4000) + (if c.permit then 0x8000 else 0))

/-- Pending short addresses, oldest frame first (R356). -/
def Radio.pendingShorts (r : Radio) : List U16 := ((r.held.map (·.dest)).filter (· != 0xFFFF)).eraseDups.take 7

/-! ### A received MAC frame (Table 10.2; the layout is that of IEEE 802.15.4) -/

/-- A field of the frame control field. -/
def frameField (f : RadioFrame) (lsb n : Nat) : Nat := rd f.bytes 0 2 / 2 ^ lsb % 2 ^ n

/-- Data sequence number. -/
def frameDsn (f : RadioFrame) : U8 := p8 f.bytes 2

/-- Where the source address of a frame with a short destination lies: after its destination, and its own PAN ID where the PAN ID
is not shared. -/
def frameSrcAt (f : RadioFrame) : Nat := if frameField f 6 1 = 1 then 7 else 9

/-- Short source address. -/
def frameSrc (f : RadioFrame) : U16 := p16 f.bytes (frameSrcAt f)

/-- Security level: 0 without security. -/
def frameLevel (f : RadioFrame) : Nat := if frameField f 3 1 = 0 then 0 else (p8 f.bytes (frameSrcAt f + 2)).toNat % 8

/-- Frame counter of the auxiliary security header. -/
def frameCounter (f : RadioFrame) : U32 := p32 f.bytes (frameSrcAt f + 3)

/-- Bytes of the header, the auxiliary security header with it. -/
def frameHead (f : RadioFrame) : Nat := frameSrcAt f + 2 + if frameField f 3 1 = 0 then 0 else 5

/-- Bytes of the MIC of a level: ENC-MIC-32 and ENC-MIC-64. -/
def micBytes (level : Nat) : Nat := if level = 5 then 4 else if level = 6 then 8 else 0

/-- A data frame of version 0 or 1 between short addresses, unsecured or of level 5 or 6 with key identifier mode 0. -/
def frameSupported (f : RadioFrame) : Bool :=
  let l := frameLevel f
  frameField f 0 3 == 1 && frameField f 10 2 == 2 && frameField f 14 2 == 2 && decide (frameField f 12 2 ≤ 1) &&
  (frameField f 3 1 == 0 || ((l == 5 || l == 6) && (p8 f.bytes (frameSrcAt f + 2)).toNat / 8 % 4 == 0)) &&
  decide (frameHead f + micBytes l ≤ f.bytes.length)

/-- The payload of an unsecured frame. -/
def frameData (f : RadioFrame) : List U8 := f.bytes.drop (frameHead f)

/-- The payload of a secured frame whose MIC verifies: CCM* with the source's extended address, the frame counter and the level as
nonce, over the header. -/
def frameOpen (f : RadioFrame) (key : List U8) (ext : U64) : Option (List U8) :=
  let body := frameData f
  let n := body.length - micBytes (frameLevel f)
  ccmOpen key (be 8 ext.toNat ++ be 4 (frameCounter f).toNat ++ be 1 (frameLevel f)) (f.bytes.take (frameHead f))
    (body.take n) (body.drop n)

/-! ### Nodes (R359, R360) -/

/-- A node by its short address. -/
def Radio.node (r : Radio) (short : U16) : Option Node := r.nodes.find? fun n => n.short == short

/-- Change a node. -/
def State.modNode (s : State) (i : Fin 4) (short : U16) (f : Node → Node) : State :=
  s.modRi i fun r => { r with nodes := r.nodes.map fun n => if n.short = short then f n else n }

/-- A Privet station. -/
def State.station (s : State) (i : Fin 4) (n : Nat) : Station := s.radio.station.get {} (32 * i.val + n)

/-- Change a Privet station. -/
def State.modStation (s : State) (i : Fin 4) (n : Nat) (f : Station → Station) : State :=
  { s with radio.station := s.radio.station.upd {} (32 * i.val + n) f }

/-- The short address an extended address receives: that of its station, its own again, or the lowest free one (R359). -/
def State.shortFor (s : State) (i : Fin 4) (ext : U64) : Option U16 :=
  let r := s.radio.ri[i]
  match (List.range 32).find? fun k => (s.station i k).enable && (s.station i k).ext == ext with
  | some k => some (BitVec.ofNat 16 (k + 1))
  | none =>
    match r.nodes.find? fun n => n.ext == ext && decide (0x20 < n.short.toNat) with
    | some n => some n.short
    | none => ((List.range 991).map fun k => BitVec.ofNat 16 (0x21 + k)).find? fun a => (r.node a).isNone

/-- An association response (IEEE 802.15.4 command 0x02): held for the extended address. -/
def State.assocResponse (s : State) (i : Fin 4) (ext : U64) (short : U16) (status : Nat) : State :=
  let s := s.modRi i fun r => { r with held := r.held.filter fun h => !(h.cls == 0 && h.ext == ext) }
  s.hold i { id := 0, cls := 0, dest := 0xFFFF, ext := ext, data := [0x02] ++ le 2 short.toNat ++ [BitVec.ofNat 8 status] }

/-- An association request (R359). -/
def State.associate (s : State) (i : Fin 4) (ext : U64) (sleepy : Bool) : State :=
  let r := s.radio.ri[i]
  if r.cfg.assocMode = 0 ∨ (r.cfg.assocMode = 2 ∧ r.allowed.contains ext = false) then s.assocResponse i ext 0xFFFF 2
  else match s.shortFor i ext with
    | none => s.assocResponse i ext 0xFFFF 1
    | some a =>
      let s := s.modRi i fun r => { r with nodes := r.nodes.filter (fun n => n.ext != ext && n.short != a) ++
        [{ short := a, ext := ext, sleepy := sleepy }] }
      let s := (s.radioChange i.val 1 a ext.toNat [if sleepy then 1 else 0]).raiseF 98 [fN 0 1 i.val, fN 1 1 1, f16 2 a, f64 8 ext]
      s.assocResponse i ext a 0

/-- A node leaves: E098; frames held for it end unacknowledged (R359). -/
def State.disassociate (s : State) (i : Fin 4) (n : Node) : State :=
  let r := s.radio.ri[i]
  let mine := (r.held ++ r.queue.filter fun f => !(r.held.any fun h => h.id == f.id)).filter fun f => f.dest == n.short
  let s := s.modRi i fun r => { r with nodes := r.nodes.filter (fun x => x.short != n.short),
                                       queue := r.queue.filter fun f => f.dest != n.short }
  let s := mine.foldl (fun (s : State) f => (s.unhold i f).txDone f 1) s
  (s.radioChange i.val 2 n.short n.ext.toNat []).raiseF 98 [fN 0 1 i.val, fN 1 1 2, f16 2 n.short, f64 8 n.ext]

/-- A frame of type `t` from a node is a duplicate (R360). -/
def Node.isDup (n : Node) (dsn : U8) (t : Nat) : Bool := n.dsn == some (dsn, t)

/-- A frame from a node is accepted (R360). -/
def State.acceptFrame (s : State) (i : Fin 4) (f : RadioFrame) (t : Nat) : State :=
  let s := s.modRi i fun r => { r with rxFrames := r.rxFrames.inc }
  let rx : U32 := BitVec.ofInt 32 (s.recvTime i f.ago)
  (s.modNode i (frameSrc f) fun n => { n with dsn := some (frameDsn f, t), lqi := f.lqi, lastRx := rx }).radioChange i.val 3
    (frameSrc f) (t * 256 + (frameDsn f).toNat) []

/-! ### Privet stations (R363, R379) -/

/-- The OR of the Privet masks. -/
def House.privetMask (h : House) : U32 := (h.privet.map (·.2)).foldl (· ||| ·) 0

/-- The mask of a station changes; an engine holding control tells its partner (R95, R379). -/
def State.privetHouse (s : State) (i : Fin 4) (st : Nat) (mask : U32) : State :=
  let old := s.sh.house.privetMask
  let s := s.houseChange fun h =>
    let l := h.privet.filter fun e => e.1 != (i.val, st)
    { h with privet := if mask = 0 then l else l ++ [((i.val, st), mask)] }
  let new := s.sh.house.privetMask
  if s.paired ∧ s.holds = true ∧ new ≠ old then s.toPartner 0x0011 (houseMsg new) else s

/-- The highest counter of a station under a KEY_GEN in the journal (R363, R504). -/
def RadioMac.floor (m : RadioMac) (key : Nat) (gen : U16) : U32 :=
  m.journal.foldl (fun (c : U32) e => if e.1 = key ∧ e.2.1 = gen ∧ c < e.2.2 then e.2.2 else c) 0

/-- Journal a station's counter (R363). -/
def State.journalStation (s : State) (key : Nat) (gen : U16) (c : U32) : State :=
  { s with radio.journal := s.radio.journal.filter (fun e => !(e.1 == key && e.2.1 == gen && decide (e.2.2 ≤ c))) ++ [(key, gen, c)] }

/-- The key of a station or of the ordinary nodes, derived anew where it is not resident (R363, R411). -/
def State.radioKey (s : State) (i : Fin 4) (label : List U8) : Option (State × List U8) :=
  match s.derive s.radio.ri[i].cfg.privetSlot.toNat 0 label 128 with
  | .ok r => some r
  | .error _ => none

/-- The label of a station's key (Table 12.4). -/
def privetLabel (i : Fin 4) (st : Nat) (gen : U16) : List U8 := ascii "PRVT" ++ be 1 i.val ++ be 1 st ++ be 2 gen.toNat

/-- The label of the key of ordinary nodes (Table 12.4). -/
def nodeLabel (i : Fin 4) : List U8 := ascii "NODE" ++ be 1 i.val

/-- The payload of a frame of node `x`, where its security is in order: level 6 under the station's key for a Privet station, level 5
under the key of ordinary nodes, or none where SEC_REQUIRED allows it (R360, R363). -/
def State.radioOpen (s : State) (i : Fin 4) (x : Node) (f : RadioFrame) : Option (State × List U8) :=
  let privet := inRange 1 32 x.short.toNat
  let n := x.short.toNat - 1
  if frameLevel f = 0 then (if privet || s.radio.ri[i].cfg.secRequired then none else some (s, frameData f))
  else if frameLevel f ≠ (if privet then 6 else 5) then none
  else match s.radioKey i (if privet then privetLabel i n (s.station i n).keyGen else nodeLabel i) with
    | none => none
    | some k => (frameOpen f k.2 x.ext).map fun d => (k.1, d)

/-- The station's counter takes the frame's, in the journal and at the partner (R363). -/
def State.takeCounter (s : State) (i : Fin 4) (src : U16) (c : U32) : State :=
  let n := src.toNat - 1
  ((s.modStation i n fun x => { x with counter := c }).journalStation (32 * i.val + n) (s.station i n).keyGen c).radioChange
    i.val 6 src c.toNat []

/-- The security check of a Privet frame (R363): the state with its counter taken and the payload, or the cause of E100. -/
def State.privetCheck (s : State) (i : Fin 4) (f : RadioFrame) : Except Nat (State × List U8) :=
  let st := s.station i ((frameSrc f).toNat - 1)
  match s.radio.ri[i].node (frameSrc f) with
  | none => .error 1
  | some x =>
    if st.enable = false ∨ x.ext ≠ st.ext then .error 1
    else match s.radioOpen i x f with
      | none => .error 2
      | some y =>
        if st.counter = 0xFFFFFFFF then .error 4
        else if frameCounter f ≤ st.counter then .error 3
        else .ok (y.1.takeCounter i (frameSrc f) (frameCounter f), y.2)

/-- A refused Privet frame (R363): counted, and E100. -/
def State.privetReject (s : State) (i : Fin 4) (f : RadioFrame) (cause : Nat) : State :=
  (s.modRi i fun r => { r with secFailures := r.secFailures.inc }).raiseF 100
    [fN 0 1 i.val, fN 1 1 (if inRange 1 32 (frameSrc f).toNat then (frameSrc f).toNat - 1 else 0xFF), fN 2 1 cause]

/-- The engine's next frame counter for replies, reserved in blocks of 65,536 (R363). -/
def Radio.nextCounter (r : Radio) : Radio :=
  { r with counter := r.counter + 1,
           reserved := if r.reserved ≤ r.counter then (r.counter / 65536 + 1) * 65536 else r.reserved }

/-- A reply to a station: sent direct at security level 6 (R363). -/
def State.privetReply (s : State) (i : Fin 4) (dest : U16) (cmd : U8) (result : Nat) (arg : U32) : State :=
  (s.modRi i Radio.nextCounter).queueTx i
    { id := 0, cls := 1, dest := dest, level := 6, data := be 1 (cmd + 0x80).toNat ++ be 1 result ++ be 2 0 ++ be 4 arg.toNat }

/-- A Privet command of a frame that passed its checks (Table 10.3). -/
def State.privetCommand (s : State) (i : Fin 4) (f : RadioFrame) (data : List U8) : State :=
  let n := (frameSrc f).toNat - 1
  let st := s.station i n
  let cmd := p8 data 0
  let arg : U32 := BitVec.ofNat 32 (rdBE data 4 4)
  let reply := fun (s : State) (r : Nat) => s.privetReply i (frameSrc f) cmd r arg
  let old : U32 := ((s.sh.house.privet.find? fun e => e.1 == (i.val, n)).map (·.2)).getD 0
  let mask := arg &&& st.maskAllowed
  match cmd.toNat with
  | 1 => if st.houseEn = false then reply s 1 else if mask = 0 then reply s 2
    else reply ((s.privetHouse i n (old ||| mask)).houseWake 4) 0
  | 2 => if st.houseEn = false then reply s 1 else if mask = 0 then reply s 2
    else reply (s.privetHouse i n (old &&& ~~~mask)) 0
  | 3 => if st.triggerEn = false then reply s 1
    else reply (s.observeAll (fun t => t.source == 5 && t.condA == arg) (s.recvTime i f.ago)) 0
  | 4 => s.privetReply i (frameSrc f) cmd 0 s.sh.house.mask
  | _ => reply s 1

/-! ### Received data (R361) -/

/-- A payload of RETURN records only (R361). -/
def onlyRecords (d : List U8) : Bool :=
  decide (0 < d.length) && d.length % 16 == 0 &&
  (List.range (d.length / 16)).all fun k => rdBE d (16 * k) 1 == 1 || rdBE d (16 * k) 1 == 2

/-- Feed the sensor snapshot with the records of a payload received at a full time. -/
def State.feedRecords (s : State) (at_ : Int) (d : List U8) : State :=
  (List.range (d.length / 16)).foldl (fun (s : State) k => s.returnRecord [] at_ (bytesAt d (16 * k) 16)) s

/-- An accepted data frame that is not of records enters the receive queue (R361). -/
def State.queueRx (s : State) (i : Fin 4) (f : RadioFrame) (data : List U8) : State :=
  let r := s.radio.ri[i]
  let x : RadioRx := ⟨frameSrc f, f.lqi, BitVec.ofInt 32 (s.recvTime i f.ago), data⟩
  ((s.acceptFrame i f 1).modRi i fun r => { r with rxq := r.rxq ++ [x] }).raiseIf r.rxq.isEmpty 101 [fN 0 1 i.val]

/-- A data frame whose security is settled (R360, R361). -/
def State.takeData (s : State) (i : Fin 4) (f : RadioFrame) (data : List U8) : State :=
  if onlyRecords data then (s.acceptFrame i f 1).feedRecords (s.recvTime i f.ago) data
  else if s.radio.ri[i].rxq.length < 64 then s.queueRx i f data
  else s.modRi i fun r => { r with rxDiscarded := r.rxDiscarded.inc }

/-! ### A child's parent (R364) -/

/-- The interface's own schedule moves to the last parent beacon (R364); a beacon already built stands. -/
def State.alignChild (s : State) (i : Fin 4) (t : Int) : State :=
  s.modRi i fun r =>
    let r := { r with base := t + r.cfg.parentOffsetUs.toNat * 1000, parentNext := some (t + r.cfg.bi), missRun := 0 }
    if r.built.isSome then r else { r with nextTb := some (r.instantFrom ((s.full : Int) + 500000)) }

/-- Sync with the parent is restored: E097. -/
def State.regainSync (s : State) (i : Fin 4) : State :=
  if s.radio.ri[i].lost then
    let s := s.modRi i fun r => { r with lost := false, missRun := 0 }
    (s.radioTo i (s.radioSt s.radio.ri[i])).raiseF 97 [fN 0 1 i.val, fN 1 1 2]
  else s

end Sys2Proof.Machine
end

