-- ==== Sys2Proof/Machine/PowerOps.lean ====
section
/-! DEFINITION. Machine/PowerOps.lean: thermal protection, powering down and what a reset keeps (R489 to R492, R505 to R511). -/
namespace Sys2Proof.Machine
open Sys2Proof

/-! ### Sensors (R505, R507, Table 15.8) -/

/-- Neighbours of a sensor (Table 15.8). -/
def neighbours (i : Nat) : List Nat :=
  if i < 24 then
    (if 6 ≤ i then [i - 6] else []) ++ (if i % 6 = 0 then [] else [i - 1]) ++ (if i % 6 = 5 then [] else [i + 1]) ++
    (if i < 18 then [i + 6] else [])
  else if i = 24 then [8, 9, 14, 15, 25]
  else if i < 27 then [i - 1, i + 1]
  else if i = 27 then [26]
  else [0, 6, 12, 18]

/-- Two sensors of which one is a neighbour of the other. -/
def adjacent (i j : Nat) : Bool := (neighbours i).contains j || (neighbours j).contains i

/-- A sensor's reading, in s8.8 degrees. -/
def readingAt (l : List Int) (i : Nat) : Int := l.getD i 0

/-- A node of the thermal model. -/
def nodeAt (l : List Rat) (i : Nat) : Rat := l.getD i 0

/-- Included neighbours of a sensor. -/
def Thermal.included (x : Thermal) (i : Nat) : List Nat := (neighbours i).filter fun j => !x.excluded.contains j

/-- How far a sensor reads from its expected value (R507); `none` with no included neighbour. -/
def Thermal.disagreement (x : Thermal) (i : Nat) : Option Rat :=
  match x.included i with
  | [] => none
  | js =>
    let sum := js.foldl (fun (t : Rat) j => t + readingAt x.reading j + nodeAt x.node i - nodeAt x.node j) 0
    let d := (readingAt x.reading i : Rat) - sum / js.length
    some (if d < 0 then -d else d)

/-- Counts of consecutive evaluations: a sensor's run grows while `p` holds and ends otherwise. -/
def runs (old : List Nat) (p : Nat → Bool) : List Nat := (List.range 29).map fun i => if p i then old.getD i 0 + 1 else 0

/-- R507: sensors off their expected value, and excluded sensors near it, are counted. -/
def Thermal.judge (x : Thermal) : Thermal :=
  let off := fun i => !x.excluded.contains i && (match x.disagreement i with
    | some d => decide (8 * 256 < d)
    | none => false)
  let near := fun i => x.excluded.contains i && (match x.disagreement i with
    | some d => decide (d ≤ 4 * 256)
    | none => false)
  { x with offRun := runs x.offRun off, okRun := runs x.okRun near }

/-- The sensors excluded in this evaluation: of neighbours, the larger disagreement, then the higher number (R507). -/
def Thermal.toExclude (x : Thermal) : List Nat :=
  let cand := (List.range 29).filter fun i => decide (8 ≤ x.offRun.getD i 0)
  let dis := fun i => (x.disagreement i).getD 0
  cand.filter fun i => !(cand.any fun j => i != j && adjacent i j && (decide (dis i < dis j) || (dis i == dis j && decide (i < j))))

/-- Sensors are excluded and restored; E122 reports each (R507). -/
def State.excludeSensors (s : State) : State :=
  let x := s.pwr.thermal.judge
  let gone := x.toExclude
  let back := (List.range 29).filter fun i => decide (1000 ≤ x.okRun.getD i 0)
  let x := { x with excluded := (List.range 29).filter fun i => (x.excluded.contains i && !back.contains i) || gone.contains i,
                    offRun := (List.range 29).map fun i => if gone.contains i then 0 else x.offRun.getD i 0,
                    okRun := (List.range 29).map fun i => if back.contains i then 0 else x.okRun.getD i 0 }
  let s := { s with pwr.thermal := x }
  (List.range 29).foldl (fun (s : State) i =>
    (s.raiseIf (gone.contains i) 122 [fN 0 1 i, fN 1 1 1]).raiseIf (back.contains i) 122 [fN 0 1 i, fN 1 1 2]) s

/-! ### The thermal model (R506) -/

/-- The model advances by the domain powers, and each node with an included sensor moves by an eighth of its difference. -/
def Thermal.advance (x : Thermal) (r : ThermalRead) (rca : Nat) : Thermal :=
  let node := Config.thermalStep x.node r.domainMw rca
  { x with reading := bytesOf29 r.reading,
           node := node.zipIdx.map fun e =>
             if e.2 < 29 ∧ x.excluded.contains e.2 = false then e.1 + ((readingAt r.reading e.2 : Rat) - e.1) / 8 else e.1 }
where
  /-- The 29 readings. -/
  bytesOf29 (l : List Int) : List Int := (List.range 29).map (readingAt l)

/-- A temperature in s8.8 degrees. -/
def s88 (x : Rat) : Int := roundDiv x.num x.den

/-- TJ and its source: readings of included sensors, nodes of excluded ones, hotspots; the first of equals (R506). -/
def Thermal.junction (x : Thermal) : Int × Nat :=
  let l := ((List.range 29).map fun i => if x.excluded.contains i then (s88 (nodeAt x.node i), i) else (readingAt x.reading i, i)) ++
    (List.range 10).map fun d => (s88 (Config.hotspot x.node d), 0x40 + d)
  l.foldl (fun (b : Int × Nat) e => if b.1 < e.1 then e else b) (readingOr l)
where
  /-- The first entry. -/
  readingOr (l : List (Int × Nat)) : Int × Nat := l.headD (0, 0)

/-! ### Thermal levels (R508 to R510) -/

/-- Degrees as s8.8. -/
def deg (c : Int) : Int := 256 * c

/-- The level that TJ and the count of excluded sensors call for (R507, R508). -/
def Thermal.wanted (x : Thermal) : Nat :=
  let c := x.cfg
  if deg c.stopC.toNat ≤ x.tj then 3
  else if deg c.throttleC.toNat ≤ x.tj ∨ 4 < x.excluded.length then 2
  else if deg c.warnC.toNat ≤ x.tj then 1 else 0

/-- The level after an evaluation, with the counts of cool evaluations (R508). -/
def Thermal.levelStep (x : Thermal) : Thermal :=
  let cool1 := if x.tj < deg ((x.cfg.warnC.toNat : Int) - 5) then x.coolWarn + 1 else 0
  let cool2 := if x.tj < deg ((x.cfg.throttleC.toNat : Int) - 5) ∧ x.eighths = 8 then x.coolThrottle + 1 else 0
  let level :=
    if x.level < x.wanted then x.wanted
    else if x.level = 1 ∧ 1000 ≤ cool1 then 0
    else if x.level = 2 ∧ 1000 ≤ cool2 ∧ x.wanted < 2 then 1
    else x.level
  { x with level := level, coolWarn := if level = x.level then cool1 else 0, coolThrottle := if level = x.level then cool2 else 0 }

/-- R510: at level 3 the orderly stop begins: an engine without control drives nothing; any other stops its grid and ramps. -/
def State.orderlyStop (s : State) : State :=
  if s.pwr.thermal.stop.isSome then s
  else if s.holds then
    let s := { s with pwr.thermal.stop := some (s.now, true) }
    let s := if s.running then s.acceptStop s.grid.nextStop else s
    let s := s.beginCause 1 s.grid.lastFrameNo
    if s.sh.active.isNone && !s.running then { s.atRest with fix.restDue := false } else s
  else { s with pwr.thermal := { s.pwr.thermal with stop := some (s.now, false), silent := true } }

/-- The level has changed: E121, the first throttle step at entry to level 2, the thermal check, the orderly stop (R508 to
R510). -/
def State.levelChanged (s : State) (prev : Nat) : State :=
  let x := s.pwr.thermal
  if x.level = prev then s
  else
    let s := s.raiseF 121 [fN 0 1 x.level, fN 1 1 prev, fI 2 2 x.tj, fN 4 1 x.tjSource]
    let s := if prev < 2 ∧ x.level = 2 then
        { s with pwr.thermal := { x with eighths := max x.cfg.floor (x.eighths - 1), stepAt := s.now } } else s
    let s := if 2 ≤ x.level then s.checkFail 5 (decide (3 ≤ x.level)) else s.checkClear 5
    if x.level = 3 then s.orderlyStop else s

/-- One 1 ms evaluation (R505 to R510): the model, the sensors, TJ, the level, and the end of sending 180 ms into an orderly
stop. -/
def State.thermalEvaluate (s : State) (r : ThermalRead) : State :=
  let t := s.pwr.thermal
  let s := { s with pwr := { s.pwr with powerMw := r.powerMw, domainMw := (List.range 10).map fun d => r.domainMw.getD d 0,
                                        thermal := t.advance r t.cfg.rcaMcw.toNat } }
  let s := s.excludeSensors
  let x := s.pwr.thermal
  let j := x.junction
  let y := { x with tj := j.1, tjSource := j.2 }.levelStep
  let y := { y with throttleMs := if 2 ≤ y.level then y.throttleMs.inc else y.throttleMs }
  let s := State.levelChanged { s with pwr.thermal := y } x.level
  match s.pwr.thermal.stop with
  | some (t0, true) => if t0 + 180000000 ≤ s.now then { s with pwr.thermal.silent := true } else s
  | _ => s

/-! ### What a reset keeps (R404, R425, R492, R501, R504) -/

/-- Of two copies, the valid one with the greater SEQ (R501, R504). -/
def newerCopy {α : Type} (seq : α → U32) (v : Vector (Option α) 2) : Option α :=
  match v[(0 : Fin 2)], v[(1 : Fin 2)] with
  | some a, some b => some (if 0 < sdiff32 (seq b) (seq a) then b else a)
  | some a, none => some a
  | none, b => b

/-- The copy that a write takes: the one that is not valid, or else the one with the lower SEQ (R408, R501). -/
def copyToWrite {α : Type} (seq : α → U32) (v : Vector (Option α) 2) : Fin 2 :=
  match v[(0 : Fin 2)], v[(1 : Fin 2)] with
  | some a, some b => if 0 < sdiff32 (seq b) (seq a) then 0 else 1
  | some _, none => 1
  | none, _ => 0

/-- The copy of the boot record in use (R501). -/
def Flash.rec_ (f : Flash) : Option BootRec := newerCopy (·.seq) f.record

/-- Write a boot record, with SEQ one greater (R501, as R408). -/
def Flash.write (f : Flash) (g : BootRec → BootRec) : Flash :=
  let r := (f.rec_).getD {}
  { f with record := f.record.set (copyToWrite (·.seq) f.record) (some { g r with seq := r.seq + 1 }) }

/-- A trial boot that ends before ready has counted (R502): the boot record is read 25 ms after t0. -/
def State.countTrial (s : State) : Flash :=
  match s.flash.rec_ with
  | some r =>
    if s.mb.engine = 0 ∧ s.pwr.mode = .run ∧ s.sys.resetN = true ∧ r.trial = true ∧ s.sys.bootAt + 25000000 ≤ s.now then
      s.flash.write fun r => { r with trialBoots := r.trialBoots + 1 }
    else s.flash
  | none => s.flash

/-- The engine begins anew: every register at its reset value but for what a reset leaves: fuses and pins, the flash,
Boxwood's store and the tamper domain, the counter journals. Working keys are zeroised, and an open update is abandoned. -/
def State.reborn (s : State) (cause : Nat) : State :=
  let z : State := State.reset
  { z with
    pending := s.pending, out := s.out, fresh := s.fresh
    tc := { z.tc with ppsIn := s.tc.ppsIn, frameRefIn := s.tc.frameRefIn, ltcInLevel := s.tc.ltcInLevel }
    mb := { z.mb with journal := s.mb.journal, commonFloor := s.mb.commonFloor }
    sys := { z.sys with fuses := s.sys.fuses, houseN := s.sys.houseN,
                        resetN := s.sys.resetN, bootMode := s.sys.bootMode, radioIrq := s.sys.radioIrq,
                        boot.bootCause := BitVec.ofNat 8 cause }
    pwr := { z.pwr with vinMv := s.pwr.vinMv, vbatMv := s.pwr.vbatMv, vbatOk := s.pwr.vbatOk, vinLow := s.pwr.vinLow,
                        vbatSwitched := s.pwr.vbatSwitched, vddio := s.pwr.vddio }
    pier := { z.pier with actIn := s.pier.actIn, epoch := s.pier.epochStored, epochStored := s.pier.epochStored }
    radio := { z.radio with journal := s.radio.journal
                            ri := .ofFn fun (i : Fin 4) => { z.radio.ri[i] with counter := s.radio.ri[i].reserved,
                                                                                reserved := s.radio.ri[i].reserved } }
    box := { s.box with wk := [], wkUses := 0, proposal := none, counter := s.box.reserved, strict := 0 }
    flash := { s.countTrial with update := {}, failed := none } }

/-- Every rail but the tamper domain's is removed; `heat`: by an orderly stop or a trip, which a restart may follow (R489,
R510, R511). -/
def State.powerOff (s : State) (heat : Bool) : State :=
  let t := s.pwr.thermal.cfg
  let s := s.reborn 0
  { s with pwr := { s.pwr with mode := .off, tripAt := if heat then some s.now else none,
                               thermal := { s.pwr.thermal with cfg := t } } }

/-- VIN is absent: the engine is off and not by heat. -/
def State.vinGone (s : State) : Bool := s.pwr.mode == .off && s.pwr.tripAt.isNone

/-- VIN and VBAT are both lost: the tamper domain is blank (R425, R490). -/
def State.blankBox (s : State) : State :=
  if s.vinGone && !s.pwr.vbatOk then
    { s with box := { s.box with lock := false, latch := false, latchCause := 0, blank := true } }
  else s

end Sys2Proof.Machine
end

