-- ==== Sys2Proof/Machine/Power.lean ====
section
/-! DEFINITION. Machine/Power.lean: supplies, power modes, thermal protection and their commands (R489 to R496, R505 to R511,
R519). -/
namespace Sys2Proof.Machine
open Sys2Proof

/-! ### Supplies and reset (R489 to R492) -/

/-- VIN rises above 2.62 V: sequencing begins, and a boot with BOOT_CAUSE 0 (R489). -/
def execVinRise (dt mv : Nat) (s : State) : Host.Outcome State Fault Refusal :=
  let s := s.elapse dt
  let s := { s with pwr.vinMv := BitVec.ofNat 16 mv }
  .next (if s.pwr.mode = .off then State.reborn { s with pwr.vinLow := false, pwr.vbatSwitched := !s.pwr.vbatOk } 0 else s)

/-- VIN has been below 2.60 V for 100 us: E123 (R489). -/
def execVinLowWarning (dt mv : Nat) (s : State) : Host.Outcome State Fault Refusal :=
  let s := s.elapse dt
  let s := { s with pwr.vinMv := BitVec.ofNat 16 mv }
  .next (if s.pwr.mode = .off ∨ s.pwr.vinLow = true then s
    else State.raiseF { s with pwr.vinLow := true } 123 [fN 0 1 0, fN 1 1 1, fN 2 2 mv])

/-- VIN is back in its range without a shutdown: E123 (R489). -/
def execVinRangeReturn (dt mv : Nat) (s : State) : Host.Outcome State Fault Refusal :=
  let s := s.elapse dt
  let s := { s with pwr.vinMv := BitVec.ofNat 16 mv }
  .next (if s.pwr.mode = .off ∨ s.pwr.vinLow = false then s
    else State.raiseF { s with pwr.vinLow := false } 123 [fN 0 1 0, fN 1 1 2, fN 2 2 mv])

/-- VIN falls below 2.50 V: a controlled shutdown (R489). With VBAT out of range as well the tamper domain is blank (R490). -/
def execVinShutdown (dt mv : Nat) (s : State) : Host.Outcome State Fault Refusal :=
  let s := s.elapse dt
  .next (State.powerOff { s with pwr.vinMv := BitVec.ofNat 16 mv, pwr.vbatSwitched := false } false).blankBox

/-- VBAT leaves 2.0 to 5.5 V: the tamper domain runs from VIN (R490). -/
def execVbatOutOfRange (dt mv : Nat) (s : State) : Host.Outcome State Fault Refusal :=
  let s := s.elapse dt
  let was := s.pwr.vbatOk
  let s := { s with pwr.vbatMv := BitVec.ofNat 16 mv, pwr.vbatOk := false, pwr.vbatSwitched := !s.vinGone }
  .next (s.blankBox.raiseIf (was && s.pwr.mode != .off) 123 [fN 0 1 1, fN 1 1 1, fN 2 2 mv])

/-- VBAT has been in range for 10 ms: the tamper domain returns to it (R490). -/
def execVbatReturn (dt mv : Nat) (s : State) : Host.Outcome State Fault Refusal :=
  let s := s.elapse dt
  let was := s.pwr.vbatOk
  let s := { s with pwr.vbatMv := BitVec.ofNat 16 mv, pwr.vbatOk := true, pwr.vbatSwitched := false }
  .next (s.raiseIf (!was && s.pwr.mode != .off) 123 [fN 0 1 1, fN 1 1 2, fN 2 2 mv])

/-- Interfaces and pairs of a bank (R278, R351). -/
def ofBank (bank : Fin 2) (n half : Nat) : Bool := decide (n / half = bank.val)

/-- Change the pairs of a bank. -/
def State.bankPairs (s : State) (bank : Fin 2) (f : Pair → Pair) : State :=
  let one := fun (p : Fin 32) => if ofBank bank p.val 16 then f s.ports.pair[p] else s.ports.pair[p]
  { s with ports.pair := .ofFn one }

/-- A bank rises and its level is sensed; modes in force resume at the next frame boundary (R491). -/
def execVddioRise (dt : Nat) (bank : Fin 2) (mv : Nat) (s : State) : Host.Outcome State Fault Refusal :=
  let s := s.elapse dt
  let was := s.pwr.vddio[bank]
  let s := { s with pwr.vddio := s.pwr.vddio.set bank mv }
  .next (if was < 1620 ∧ 1620 ≤ mv then
      s.bankPairs bank fun x => { x with undriven := true }
    else s)

/-- A bank falls: its pins are undriven (R491). -/
def execVddioFall (dt : Nat) (bank : Fin 2) (s : State) : Host.Outcome State Fault Refusal :=
  let s := s.elapse dt
  let s := State.bankPairs { s with pwr.vddio := s.pwr.vddio.set bank 0 } bank fun x => { x with tx := none }
  .next (((List.finRange 4).filter fun i => ofBank bank i.val 2).foldl State.radioDown s)

/-- RESET_N low for 1 us: every output is undriven and the engine is held in reset (R492). -/
def execResetNAssert (dt : Nat) (s : State) : Host.Outcome State Fault Refusal :=
  let s := s.elapse dt
  let s := { s with sys.resetN := false }
  .next (if s.vinGone then s else { s.reborn 1 with sys.resetN := false })

/-- RESET_N is released: the boot begins (R492, R497). -/
def execResetNRelease (dt : Nat) (s : State) : Host.Outcome State Fault Refusal :=
  let s := s.elapse dt
  .next (if s.sys.resetN then s else { s with sys.resetN := true, sys.bootAt := s.now })

/-! ### Power modes (R493 to R496) -/

/-- POWER_MODE_SET (R494, R496, R519). -/
def powerModeSet (q : Req) (s : State) : State :=
  serve opPowerModeSet 4 q s fun s =>
    let p := q.payload
    let m := p8 p 0
    let sleep := m == 1 && s.pwr.mode == .run
    require (decide (m.toNat ≤ 1) && (!sleep || s.wakeAhead)) .denied <|
      if m = 0 then done (if s.wakeDue then s.wake 1 else s.wake 2)
      else if sleep = false then done s
      else
        require (!s.running) .notReady
          (require (s.flash.update.st != 1 && s.flash.update.st != 2 && s.sys.selfTest.isNone) .busy
            (done (s.standby (BitVec.ofNat 4 (pbits p 1 0 4)) (pbit p 1 4))))

/-- POWER_MODE_SET with MODE 0 (R496). -/
def execPowerModeRun (q : Req) (s : State) : Host.Outcome State Fault Refusal := .next (powerModeSet q s)

/-- POWER_MODE_SET with MODE 1 (R494). -/
def execPowerModeStandby (q : Req) (s : State) : Host.Outcome State Fault Refusal := .next (powerModeSet q s)

/-- SCHEDULED_WAKE (R496). -/
def execScheduledWake (dt : Nat) (s : State) : Host.Outcome State Fault Refusal :=
  let s := s.elapse dt
  .next (if s.wakeDue then s.wake 1 else s)

/-- Take WAKE_SCHEDULE_SET's values. -/
def State.setWake (p : List U8) (s : State) : State :=
  { s with pwr := { s.pwr with guardUs := p16 p 2, wakes := (List.range (min (p8 p 0).toNat 8)).map fun i => rd p (8 + 8 * i) 8 } }

/-- WAKE_SCHEDULE_SET (R519). -/
def execWakeScheduleSet (q : Req) (s : State) : Host.Outcome State Fault Refusal :=
  .next (serve opWakeScheduleSet 72 q s fun s =>
    let p := q.payload
    require (decide ((p8 p 0).toNat ≤ 8) && inRange 500 50000 (rd p 2 2)) .denied
      (done ((s.remember opWakeScheduleSet 0 p).setWake p)))

/-- The level code of a VDDIO supply (Table 15.16): the nearest nominal level. -/
def vddioCode (mv : Nat) : Nat := if mv < 1620 then 0 else if mv < 2150 then 1 else if mv < 2900 then 2 else 3

/-- POWER_STATUS (R519, Table 15.16). -/
def execPowerStatus (q : Req) (s : State) : Host.Outcome State Fault Refusal :=
  .next (serve opPowerStatus 0 q s fun s =>
    let x := s.pwr
    answer s (pack 32 ([fN 0 1 (if x.mode = .standby then 1 else 0), fN 1 1 x.wakeCause,
      fN 2 1 (vddioCode x.vddio[0] + 4 * vddioCode x.vddio[1]), fB 2 4 x.vbatOk, fB 2 5 x.vbatSwitched, f16 4 x.vinMv,
      f16 6 x.vbatMv, f32 8 x.powerMw] ++ (List.range 10).map fun d => fN (12 + 2 * d) 2 (min 65535 (x.domainMw.getD d 0)))))

/-! ### Thermal protection (R505 to R511) -/

/-- THERMAL_EVALUATION (R506). -/
def execThermalEvaluation (dt : Nat) (r : ThermalRead) (s : State) : Host.Outcome State Fault Refusal :=
  let s := s.elapse dt
  .next (if s.pwr.mode = .off then s else s.thermalEvaluate r)

/-- THROTTLE_STEP_DOWN (R509). -/
def execThrottleStepDown (dt : Nat) (s : State) : Host.Outcome State Fault Refusal :=
  let s := s.elapse dt
  let x := s.pwr.thermal
  .next (if x.level = 2 ∧ x.stepAt + 100000000 ≤ s.now ∧ deg x.cfg.throttleC.toNat ≤ x.tj ∧ x.cfg.floor < x.eighths then
      { s with pwr.thermal := { x with eighths := x.eighths - 1, stepAt := s.now } }
    else s)

/-- THROTTLE_STEP_UP (R509). -/
def execThrottleStepUp (dt : Nat) (s : State) : Host.Outcome State Fault Refusal :=
  let s := s.elapse dt
  let x := s.pwr.thermal
  .next (if x.level = 2 ∧ x.stepAt + 1000000000 ≤ s.now ∧ x.tj < deg ((x.cfg.throttleC.toNat : Int) - 5) ∧ x.eighths < 8 then
      { s with pwr.thermal := { x with eighths := x.eighths + 1, stepAt := s.now } }
    else s)

/-- The orderly stop has run its course (R510). -/
def State.powerDownDue (s : State) : Bool :=
  match s.pwr.thermal.stop with
  | none => false
  | some (t, true) => s.pwr.thermal.silent || decide (t + 200000000 ≤ s.now)
  | some (t, false) => decide (t + 20000000 ≤ s.now)

/-- ORDERLY_POWER_DOWN (R510). -/
def execOrderlyPowerDown (dt : Nat) (s : State) : Host.Outcome State Fault Refusal :=
  let s := s.elapse dt
  .next (if s.powerDownDue then s.powerOff true else s)

/-- HARDWARE_THERMAL_TRIP: two or more sensors at 125 degrees or more (R511). -/
def execHardwareThermalTrip (dt : Nat) (reading : List Int) (s : State) : Host.Outcome State Fault Refusal :=
  let s := s.elapse dt
  .next (if 2 ≤ ((List.range 29).filter fun i => decide (deg 125 ≤ readingAt reading i)).length ∧ s.pwr.mode ≠ .off then
      s.powerOff true
    else s)

/-- THERMAL_RESTART: `die` is what the tamper domain's monitor shows, in s8.8 degrees (R511). -/
def execThermalRestart (dt : Nat) (die : Int) (s : State) : Host.Outcome State Fault Refusal :=
  let s := s.elapse dt
  let c := s.pwr.thermal.cfg
  .next (match s.pwr.tripAt with
    | some t =>
      if s.pwr.mode = .off ∧ c.restartEn = true ∧ t + c.restartS.toNat * 1000000000 ≤ s.now ∧
          die ≤ deg ((c.warnC.toNat : Int) - 10) then s.reborn 3
      else s
    | none => s)

/-- THERMAL_STATUS (R519, Table 15.17). -/
def execThermalStatus (q : Req) (s : State) : Host.Outcome State Fault Refusal :=
  .next (serve opThermalStatus 0 q s fun s =>
    let x := s.pwr.thermal
    answer s (pack 76 ([fN 0 1 x.level, fN 1 1 x.eighths, fI 2 2 x.tj, fN 4 1 x.tjSource, fN 5 1 x.excluded.length,
      fN 8 4 (x.excluded.foldl (fun m i => m + 2 ^ i) 0), f32 12 x.throttleMs] ++
      (List.range 29).map fun i => fI (16 + 2 * i) 2 (readingAt x.reading i))))

/-- The values of a THERMAL_SET payload (Table 15.18). -/
def thermalCfg (p : List U8) : ThermalCfg :=
  { warnC := p8 p 0, throttleC := p8 p 1, stopC := p8 p 2, floor := pbits p 3 0 3, restartEn := pbit p 3 3, restartS := p16 p 4,
    rcaMcw := p16 p 6 }

/-- Take THERMAL_SET's values; the next evaluation uses them (R519). -/
def State.setThermal (p : List U8) (s : State) : State := { s with pwr.thermal.cfg := thermalCfg p }

/-- THERMAL_SET (R519). -/
def execThermalSet (q : Req) (s : State) : Host.Outcome State Fault Refusal :=
  .next (serve opThermalSet 8 q s fun s =>
    let c := thermalCfg q.payload
    require (inRange 60 100 c.warnC.toNat && inRange 70 110 c.throttleC.toNat && inRange 75 115 c.stopC.toNat &&
        decide (c.warnC.toNat < c.throttleC.toNat) && decide (c.throttleC.toNat < c.stopC.toNat) && inRange 4 7 c.floor &&
        inRange 10 3600 c.restartS.toNat) .denied
      (done ((s.remember opThermalSet 0 q.payload).setThermal q.payload)))

end Sys2Proof.Machine
end

