-- ==== Sys2Proof/Machine/PtpOps.lean ====
section
/-! DEFINITION. Machine/PtpOps.lean: the PTP instance: datasets, the best master clock algorithm, samples and path delay
(R334 to R338). Times are in units of 2^-16 ns. -/
namespace Sys2Proof.Machine
open Sys2Proof

/-! ### Dataset comparison and state decision (IEEE 1588-2019, R335) -/

/-- The fields by which different grandmasters compare, most significant first. -/
def PtpData.rank (d : PtpData) : List Nat :=
  [d.prio1.toNat, d.cls.toNat, d.accuracy.toNat, d.variance.toNat, d.prio2.toNat, d.gm.toNat]

/-- The first list is lower in lexical order. -/
def lexLt : List Nat → List Nat → Bool
  | a :: as, b :: bs => decide (a < b) || (a == b && lexLt as bs)
  | [], _ :: _ => true
  | _, _ => false

/-- Dataset `a` is better than `b`; senders decide between equal grandmasters at equal distance. -/
def better (a b : PtpData) (sa sb : U64 × U16) : Bool :=
  if a.gm = b.gm then lexLt [a.steps.toNat, sa.1.toNat, sa.2.toNat] [b.steps.toNat, sb.1.toNat, sb.2.toNat]
  else lexLt a.rank b.rank

/-- A foreign master is qualified: two Announces within four announce intervals. -/
def Foreign.qualified (f : Foreign) (now interval : Nat) : Bool :=
  match f.prev with
  | some p => decide (now ≤ p + 4 * interval)
  | none => false

/-- The best qualified foreign master of a port. -/
def State.bestOf (s : State) (n : Fin 4) : Option Foreign :=
  let iv := logNs (s.net.ptp.cfg.log 1)
  (s.net.ptp.ports[n].foreign.filter fun f => f.qualified s.now iv).foldl (fun (b : Option Foreign) f => match b with
    | none => some f
    | some x => if better f.data x.data (f.identity, f.port) (x.identity, x.port) then some f else some x) none

/-- The best master over every enabled port. -/
def State.bestMaster (s : State) : Option (Fin 4 × Foreign) :=
  ((List.finRange 4).filter s.net.ptp.cfg.on).foldl (fun (b : Option (Fin 4 × Foreign)) n => match s.bestOf n, b with
    | none, _ => b
    | some f, none => some (n, f)
    | some f, some x => if better f.data x.2.data (f.identity, f.port) (x.2.identity, x.2.port) then some (n, f) else b) none

/-- E093 of a port. -/
def State.raisePtp (s : State) (n : Fin 4) : State :=
  let par : U64 := match s.net.ptp.parent with
    | some p => p.1
    | none => s.clockIdentity
  s.raiseF 93 [fN 0 1 n.val, fN 1 1 s.net.ptp.ports[n].state, f64 8 par]

/-- A port enters a state (IEEE 1588 codes); a change raises E093 (R337). -/
def State.ptpTo (s : State) (n : Fin 4) (st : Nat) : State :=
  if s.net.ptp.ports[n].state = st then s
  else State.raisePtp (s.modPtp n fun p => { p with state := st, announceAt := s.now }) n

/-- The state that the state decision recommends for a port: 6 MASTER, 7 PASSIVE, 9 SLAVE (8 UNCALIBRATED until its first
sample), or none: it keeps listening. -/
def State.recommend (s : State) (n : Fin 4) (best : Option (Fin 4 × Foreign)) : Option Nat :=
  let c := s.net.ptp.cfg
  let own := s.ownData
  let me : U64 × U16 := (s.clockIdentity, BitVec.ofNat 16 (n.val + 1))
  let master := if c.slaveOnly then 4 else 6
  let cur := s.net.ptp.ports[n].state
  match best with
  | none => if cur = 4 then none else some master
  | some (b, f) =>
    if own.cls.toNat < 128 then
      match s.bestOf n with
      | none => some master
      | some e => some (if better own e.data me (e.identity, e.port) then master else 7)
    else if better own f.data me (f.identity, f.port) then some master
    else if b = n then some (if cur = 9 then 9 else 8)
    else match s.bestOf n with
      | none => some master
      | some e => some (if e.data.gm = f.data.gm then 7 else master)

/-- The parent becomes `p`; a change raises E093 (R337). -/
def State.setParent (s : State) (p : Option (U64 × U16 × PtpData)) (n : Fin 4) : State :=
  let same := match s.net.ptp.parent, p with
    | some a, some b => a.1 == b.1 && a.2.1 == b.2.1
    | none, none => true
    | _, _ => false
  let s := { s with net.ptp.parent := p }
  if same then s
  else (s.modPtp n fun x => { x with sync := none, delay := none, lastSync := none }).raisePtp n

/-- Port `n` takes the state the algorithm recommends, if it recommends one. -/
def State.takeRecommendation (best : Option (Fin 4 × Foreign)) (s : State) (n : Fin 4) : State :=
  match s.recommend n best with
  | some st => s.ptpTo n st
  | none => s

/-- The best master clock algorithm runs (R335). -/
def State.bmca (s : State) : State :=
  let best := s.bestMaster
  let s := ((List.finRange 4).filter s.net.ptp.cfg.on).foldl (State.takeRecommendation best) s
  match best with
  | some (n, f) =>
    if s.net.ptp.ports[n].state = 8 ∨ s.net.ptp.ports[n].state = 9 then s.setParent (some (f.identity, f.port, f.data)) n
    else s.setParent none n
  | none => s.setParent none 0

/-- The port that follows the parent: SLAVE or UNCALIBRATED. -/
def State.slavePort (s : State) : Option (Fin 4) :=
  (List.finRange 4).find? fun n => s.net.ptp.ports[n].state == 9 || s.net.ptp.ports[n].state == 8

/-- The message comes from the parent on the port that follows it. -/
def State.fromParent (s : State) (m : PtpMsg) : Bool :=
  m.domain == s.net.ptp.cfg.domainNo && s.slavePort == some m.eth &&
  (match s.net.ptp.parent with
   | some p => p.1 == m.identity && p.2.1 == m.port
   | none => false)

/-! ### Samples and delays (R337) -/

/-- Insert in rising order. -/
def insertInt (x : Int) : List Int → List Int
  | [] => [x]
  | y :: ys => if x ≤ y then x :: y :: ys else y :: insertInt x ys

/-- Twice the median of a list; of an even number, the sum of the middle two. -/
def median2 (l : List Int) : Int :=
  let o := l.foldl (fun a x => insertInt x a) []
  let n := o.length
  if n % 2 = 1 then 2 * o.getD (n / 2) 0 else o.getD (n / 2 - 1) 0 + o.getD (n / 2) 0

/-- A sample from source time `t1`, correction included, and receive time `t2` (R337). -/
def State.ptpSample (s : State) (n : Fin 4) (t1 t2 : Int) : State :=
  let p := s.net.ptp
  let theta := t1 + p.meanPath.getD 0 - t2
  let s := s.modPtp n fun x => { x with lastSync := some (t1, t2) }
  if p.cfg.outlierNs ≠ 0 ∧ 8 ≤ p.hist.length ∧ 2 * 65536 * p.cfg.outlierNs.toNat < (2 * theta - median2 p.hist).natAbs then
    { s with net.ptp.outliers := p.outliers.inc }
  else
    let s := { s with net.ptp.hist := (theta :: p.hist).take 8, net.ptp.lastOffset := roundDiv theta 65536, net.ptp.syncRx := p.syncRx.inc }
    let s := if s.net.ptp.ports[n].state = 8 then s.ptpTo n 9 else s
    s.sample 1 ((theta : Rat) / 65536) (logNs (p.cfg.log 0))

/-- A measured delay enters meanPathDelay (R337). -/
def State.ptpDelay (s : State) (d : Int) : State :=
  let p := s.net.ptp
  { s with net.ptp.meanPath := some (match p.meanPath with
      | none => d
      | some x => x + (d - x) / 2 ^ p.cfg.filter.toNat) }

/-- A peer delay from t1, t4, the turn-round at the peer and the corrections. -/
def State.peerDelay (s : State) (n : Fin 4) (t1 t4 turn corr : Int) : State :=
  State.ptpDelay (s.modPtp n fun x => { x with pdelay := none, presp := none }) ((t4 - t1 - turn - corr) / 2)

end Sys2Proof.Machine
end

