-- ==== Sys2Proof/Machine/Ptp.lean ====
section
/-! DEFINITION. Machine/Ptp.lean: the commands and events of PTP (R334 to R338, R346). -/
namespace Sys2Proof.Machine
open Sys2Proof

/-! ### Settings -/

/-- The values of a PTP_SET payload (Table 9.14). -/
def ptpCfg (p : List U8) : PtpCfg :=
  { profile := p8 p 0, domain := p8 p 1, mask := pbits p 2 0 4, transport := pbit p 2 4, slaveOnly := pbit p 2 5,
    prio1 := p8 p 3, prio2 := p8 p 4, clsOwn := p8 p 5, accOwn := p8 p 6, announceTimeout := p8 p 7,
    logs := #v[p8 p 8, p8 p 9, p8 p 10, p8 p 11], outlierNs := p16 p 12, filter := p8 p 14 }

/-- Every field of PTP_SET lies in its range (Table 9.14). -/
def PtpCfg.ok (c : PtpCfg) : Bool :=
  decide (c.profile.toNat ≤ 3) && (!c.transport || decide (c.profile.toNat ≤ 1)) &&
  inRange 2 10 c.announceTimeout.toNat && decide (c.filter.toNat ≤ 8) &&
  c.logs.toList.all fun l => l == 0x7F || (decide (-7 ≤ l.toInt) && decide (l.toInt ≤ 4))

/-- Take PTP_SET's values into force: every enabled port returns to LISTENING (R346). -/
def State.setPtp (p : List U8) (s : State) : State :=
  let c := ptpCfg p
  let s := { s with net.ptp.cfg := c, net.ptp.parent := none, net.ptp.meanPath := none, net.ptp.hist := [] }
  (List.finRange 4).foldl (fun (s : State) n =>
    let s := s.modPtp n fun x => { ({} : PtpPort) with state := x.state, seqs := x.seqs, announceAt := s.now }
    s.ptpTo n (if c.on n then 4 else 0)) s |>.igmpAll

/-- PTP_SET (R346). -/
def execPtpSet (q : Req) (s : State) : Host.Outcome State Fault Refusal :=
  .next (serve opPtpSet 16 q s fun s =>
    require (ptpCfg q.payload).ok .denied (done ((s.remember opPtpSet 0 q.payload).setPtp q.payload)))

/-- PTP_STATUS (Table 9.15). -/
def execPtpStatus (q : Req) (s : State) : Host.Outcome State Fault Refusal :=
  .next (serve opPtpStatus 0 q s fun s =>
    let p := s.net.ptp
    let slave := match (List.finRange 4).find? fun n => p.ports[n].state == 9 with
      | some n => n.val
      | none => 0xFF
    let gm := match p.parent with
      | some x => x.2.2
      | none => s.ownData
    let par : U64 × U16 := match p.parent with
      | some x => (x.1, x.2.1)
      | none => (s.clockIdentity, 0)
    answer s (pack 48 ([fN 4 1 slave, f8 5 gm.cls, f16 6 s.advertised.steps, f64 8 gm.gm, f64 16 par.1, f16 24 par.2,
      fB 26 0 (p.parent.isSome && gm.utcValid), fB 26 1 (p.parent.isSome && gm.ptpTimescale),
      fI 28 4 (satS 32 (roundDiv (p.meanPath.getD 0) 65536)), fI 32 4 (satS 32 p.lastOffset), f32 36 p.syncRx,
      f32 40 p.outliers, f32 44 p.timeouts] ++ (List.finRange 4).map fun n => fN n.val 1 p.ports[n].state)))

/-! ### Messages -/

/-- Firmware reads a PTP message from its receive queue, and its receive timestamp with it; a message for a port that is not enabled
is ignored. -/
def State.ptpRead (s : State) (n : Fin 4) (f : Int → State → State) : State :=
  let t := s.rxTime n (rxQueue n.val 0)
  let s := s.rxTake n (rxQueue n.val 0)
  if s.net.ptp.cfg.on n then f t s else s

/-- The response answers a request of the port it arrived on. -/
def asksPort (m : PtpMsg) (me : U64) : Bool := m.reqIdentity == me && m.reqPort == BitVec.ofNat 16 (m.eth.val + 1)

/-- A Sync is received on the slave port (R337). -/
def execPtpSync (dt : Nat) (m : PtpMsg) (s : State) : Host.Outcome State Fault Refusal :=
  .next ((s.elapse dt).ptpRead m.eth fun t2 s =>
    if s.fromParent m = false then s
    else
      if m.twoStep then s.modPtp m.eth fun x => { x with sync := some (m.seq, t2, m.correction) }
      else s.ptpSample m.eth (m.time + m.correction) t2)

/-- A Follow_Up completes a two-step sample (R337). -/
def execPtpFollowUp (dt : Nat) (m : PtpMsg) (s : State) : Host.Outcome State Fault Refusal :=
  .next ((s.elapse dt).ptpRead m.eth fun _ s =>
    match s.net.ptp.ports[m.eth].sync with
    | some (q, t2, c) =>
      if s.fromParent m = true ∧ q = m.seq then
        (s.modPtp m.eth fun x => { x with sync := none }).ptpSample m.eth (m.time + c + m.correction) t2
      else s
    | none => s)

/-- The data an Announce carries. -/
def announceData (a : PtpAnnounce) : PtpData :=
  { prio1 := a.prio1, cls := a.cls, accuracy := a.accuracy, variance := a.variance, prio2 := a.prio2, gm := a.gm,
    steps := a.steps, utcOffset := a.utcOffset, utcValid := a.utcValid, ptpTimescale := a.ptpTimescale }

/-- An Announce is received and the best master clock algorithm runs (R335). -/
def execPtpAnnounce (dt : Nat) (m : PtpMsg) (a : PtpAnnounce) (s : State) : Host.Outcome State Fault Refusal :=
  .next ((s.elapse dt).ptpRead m.eth fun _ s =>
    if m.domain ≠ s.net.ptp.cfg.domainNo ∨ m.identity = s.clockIdentity ∨ 255 ≤ a.steps.toNat then s
    else
      let old := s.net.ptp.ports[m.eth].foreign.find? fun f => f.identity == m.identity && f.port == m.port
      let f : Foreign := ⟨m.identity, m.port, announceData a, s.now, old.map (·.last)⟩
      State.bmca (s.modPtp m.eth fun x =>
        { x with announceAt := if (x.state = 8 ∨ x.state = 9) ∧ s.fromParent m = false then x.announceAt else s.now,
                 foreign := f :: x.foreign.filter fun o => !(o.identity == m.identity && o.port == m.port) }))

/-- A Delay_Req is received by a master port and answered (R335). -/
def execPtpDelayReq (dt : Nat) (m : PtpMsg) (s : State) : Host.Outcome State Fault Refusal :=
  .next ((s.elapse dt).ptpRead m.eth fun t s =>
    if m.domain = s.net.ptp.cfg.domainNo ∧ s.net.ptp.ports[m.eth].state = 6 ∧ s.net.ptp.cfg.p2p = false then
      s.ptpSend m.eth { kind := 4, seq := m.seq, time := t, reqCorr := m.correction, reqId := m.identity, reqPort := m.port }
    else s)

/-- A Delay_Resp gives a path delay (R337): the mean of both ways. -/
def execPtpDelayResp (dt : Nat) (m : PtpMsg) (s : State) : Host.Outcome State Fault Refusal :=
  .next ((s.elapse dt).ptpRead m.eth fun _ s =>
    let p := s.net.ptp.ports[m.eth]
    match p.delay, p.lastSync with
    | some (q, t3), some (t1, t2) =>
      if s.fromParent m = true ∧ q = m.seq ∧ asksPort m s.clockIdentity = true then
        State.ptpDelay (s.modPtp m.eth fun x => { x with delay := none }) (((t2 - t1) + (m.time - m.correction - t3)) / 2)
      else s
    | _, _ => s)

/-- A Pdelay_Req is received and answered two-step (R335). -/
def execPtpPdelayReq (dt : Nat) (m : PtpMsg) (s : State) : Host.Outcome State Fault Refusal :=
  .next ((s.elapse dt).ptpRead m.eth fun t s =>
    if m.domain = s.net.ptp.cfg.domainNo ∧ s.net.ptp.cfg.p2p = true then
      s.ptpSend m.eth { kind := 6, seq := m.seq, time := t, reqCorr := m.correction, reqId := m.identity, reqPort := m.port }
    else s)

/-- A Pdelay_Resp, or with `follow` its follow-up, gives a peer delay (R337). -/
def execPtpPdelayResp (dt : Nat) (m : PtpMsg) (follow : Bool) (s : State) : Host.Outcome State Fault Refusal :=
  .next ((s.elapse dt).ptpRead m.eth fun t4 s =>
    let p := s.net.ptp.ports[m.eth]
    match p.pdelay with
    | none => s
    | some (q, t1) =>
      if m.domain ≠ s.net.ptp.cfg.domainNo ∨ q ≠ m.seq ∨ asksPort m s.clockIdentity = false then s
      else if follow then match p.presp with
        | some (_, t4, t2, c) => s.peerDelay m.eth t1 t4 (m.time - t2) (c + m.correction)
        | none => s
      else
        if m.twoStep then s.modPtp m.eth fun x => { x with presp := some (q, t4, m.time, m.correction) }
        else s.peerDelay m.eth t1 t4 0 m.correction)

/-- A log interval passes and a PTP message is sent: 0 Sync, 1 Announce, 2 Delay_Req, 3 Pdelay_Req (R334, R335). -/
def execPtpMessageDue (dt : Nat) (n : Fin 4) (kind : Fin 4) (s : State) : Host.Outcome State Fault Refusal :=
  let s := s.elapse dt
  let c := s.net.ptp.cfg
  let p := s.net.ptp.ports[n]
  let ok : Bool := match kind.val with
    | 0 | 1 => p.state == 6
    | 2 => (p.state == 9 || p.state == 8) && !c.p2p
    | _ => c.p2p
  .next (if c.on n = true ∧ ok = true ∧ p.sentAt[kind] + logNs (c.log kind) ≤ s.now then
      (s.modPtp n fun x => { x with sentAt := x.sentAt.set kind s.now, seqs := x.seqs.set kind (x.seqs[kind] + 1) }).ptpSend n
        { kind := [0, 2, 3, 5].getD kind.val 0, seq := p.seqs[kind] }
    else s)

/-- The announce-receipt timeout expires: masters not heard within it are forgotten and the algorithm runs (R335). -/
def execPtpAnnounceTimeout (dt : Nat) (n : Fin 4) (s : State) : Host.Outcome State Fault Refusal :=
  let s := s.elapse dt
  let c := s.net.ptp.cfg
  let p := s.net.ptp.ports[n]
  .next (if c.on n = true ∧ p.state ≠ 6 ∧
      s.fwExpired (p.announceAt + c.announceTimeout.toNat * logNs (c.log 1)) = true then
      let s := { s with net.ptp.timeouts := s.net.ptp.timeouts.inc }
      let s := (s.modPtp n fun x => { x with
        foreign := x.foreign.filter fun f => decide (s.now < f.last + c.announceTimeout.toNat * logNs (c.log 1)), announceAt := s.now }).ptpTo n (if c.slaveOnly then 4 else 6)
      s.bmca
    else s)

end Sys2Proof.Machine
end

