-- ==== Sys2Proof/Machine/Sched.lean ====
section
/-! DEFINITION. Machine/Sched.lean: the scheduler's own cycles and its commands (R113 to R137). The dispatch and the end
of tasks, which reach other parts of the engine, are in Machine/Tasks.lean. -/
namespace Sys2Proof.Machine
open Sys2Proof

/-- One cycle of the allocation port (R115, R116). -/
def execDescriptorAlloc (dt : Nat) (s : State) : Host.Outcome State Fault Refusal :=
  let s := s.elapse dt
  .next { s with sched := s.sched.alloc s.now }

/-- One cycle of the entry port (R121). -/
def execTaskEntry (dt : Nat) (s : State) : Host.Outcome State Fault Refusal :=
  let s := s.elapse dt
  .next { s with sched := s.sched.entryCycle s.now s.grid.tickCount }

/-- The affinity wait of a READY task has passed (R124). -/
def execAffinityWaitExpiry (dt : Nat) (n : Fin 8192) (s : State) : Host.Outcome State Fault Refusal :=
  let s := s.elapse dt
  let d := s.sched.at n
  .next (if d.st = .ready ∧ s.schedExpired (s.sched.waitEnd d) = true then s.modDesc n fun d => { d with waitOver := true } else s)

/-- A source has been held longer than HOLD_EVENT_US (R116). -/
def execSourceHoldEvent (dt : Nat) (src : Fin 4) (s : State) : Host.Outcome State Fault Refusal :=
  let s := s.elapse dt
  .next (match s.sched.hold[src] with
  | none => s
  | some t =>
    if s.sched.holdRaised[src] = false ∧ t + s.sched.cfg.holdEventUs.toNat * 1000 < s.now then
      State.raiseF { s with sched.holdRaised := s.sched.holdRaised.set src true } 40 [fN 0 1 src.val]
    else s)

/-- The values of a SCHED_CONFIG payload (Table 3.10). -/
def schedCfg (p : List U8) : SchedCfg :=
  { affinityWait := .ofFn fun (i : Fin 8) => p16 p (2 * i.val), limit := .ofFn fun (i : Fin 4) => p16 p (16 + 2 * i.val),
    reserve := .ofFn fun (i : Fin 4) => p16 p (24 + 2 * i.val), priority := #v[0, p8 p 33, p8 p 34, p8 p 35],
    runLimitUs := p32 p 36, holdEventUs := p16 p 40 }

/-- Take SCHED_CONFIG's values into force. -/
def State.setSched (p : List U8) (s : State) : State := { s with sched.cfg := schedCfg p }

/-- SCHED_CONFIG: at the next frame boundary, or at once while the grid is stopped (R136). -/
def execSchedConfig (q : Req) (s : State) : Host.Outcome State Fault Refusal :=
  .next (serve opSchedConfig 44 q s fun s =>
    let c := schedCfg q.payload
    require ((c.limit.toList.all fun x => inRange 1 8192 x.toNat) &&
        (c.priority.toList.all fun x => decide (x.toNat ≤ 7))) .denied
      (done (if s.running then s.defer opSchedConfig 0 q.payload
        else (s.remember opSchedConfig 0 q.payload).setSched q.payload)))

/-- Bit n set for each index n that satisfies `p`. -/
def bitsOf {n : Nat} (p : Fin n → Bool) : Nat :=
  (List.finRange n).foldl (fun m i => if p i then m + 2 ^ i.val else m) 0

/-- SCHED_STATUS (R135, Table 3.11); the read resets MIN_FREE. -/
def execSchedStatus (q : Req) (s : State) : Host.Outcome State Fault Refusal :=
  .next (serve opSchedStatus 0 q s fun s =>
    let c := s.sched.settle s.now
    let inState := fun (p : Desc → Bool) => (c.desc.filter fun e => p e.2).length
    let data := pack 64 ([fN 0 2 c.freeCount, fN 2 2 c.minFree,
      fN 12 1 (bitsOf fun i : Fin 4 => c.hold[i].isSome), fN 13 1 (c.cores.toList.filter Core.idle).length,
      f32 16 c.gateFrame, fN 20 4 (c.pendingOf c.gateFrame), fN 24 4 (c.pendingOf (c.gateFrame + 1)),
      fN 52 2 (inState fun d => d.st == .parked), fN 54 2 c.slotHeld.length, fN 56 8 (bitsOf fun i : Fin 64 => c.cores[i].excluded)] ++
      (List.finRange 4).map (fun i => fN (4 + 2 * i.val) 2 c.inUse[i]) ++
      (List.finRange 8).map (fun i => fN (28 + 2 * i.val) 2 c.ready[i].length) ++
      (List.finRange 4).map (fun i => fN (44 + 2 * i.val) 2 (inState fun d => d.st == .delayed && d.delayList == i)))
    answer { s with sched := { c with minFree := c.freeCount } } data)

/-- The counters of Table 3.12 at zero; a hold in progress counts on from now. -/
def Sched.clear (c : Sched) (now : Nat) : Sched :=
  { c with dispatched := .replicate 8 0, affHit := 0, affExpired := 0, affNone := 0, cancelBefore := 0, cancelAfter := 0,
           traps := 0, watchdog := 0, lateRelease := 0, holdNs := .replicate 4 0, holdFrom := .replicate 4 now, submitted := .replicate 4 0 }

/-- SCHED_COUNTERS (R135, Table 3.12). -/
def execSchedCounters (q : Req) (s : State) : Host.Outcome State Fault Refusal :=
  .next (serve opSchedCounters 1 q s fun s =>
    let c := s.sched
    let data := pack 96 ((List.finRange 8).map (fun i => f32 (4 * i.val) c.dispatched[i]) ++
      [f32 32 c.affHit, f32 36 c.affExpired, f32 40 c.affNone, f32 44 c.cancelBefore, f32 48 c.cancelAfter, f32 52 c.traps,
       f32 56 c.watchdog, f32 60 c.lateRelease] ++
      (List.finRange 4).map (fun i => fN (64 + 4 * i.val) 4 (sat32 (c.heldNs i s.now / 1000))) ++
      (List.finRange 4).map (fun i => f32 (80 + 4 * i.val) c.submitted[i]))
    answer (if pbit q.payload 0 0 then { s with sched := c.clear s.now } else s) data)

/-- The 32 bytes of a descriptor (Table 3.2). -/
def Desc.bytes (d : Desc) : List U8 :=
  let bit := fun (b : Bool) k => if b then 2 ^ k else 0
  pack 32 [f32 0 d.frame, f32 4 d.pShort, f32 8 d.releaseTick, fN 12 2 d.flow.toNat,
    fN 14 1 (d.segment.toNat + 64 * d.source.val),
    fN 15 1 (d.priority.val + bit d.atomic 3 + bit d.gated 4 + bit d.delayed 5 + 64 * d.delayList.val),
    fN 16 2 d.atomicSlot.toNat, fN 18 2 (d.affKey.toNat + bit d.affValid 15), f16 20 d.level, fN 22 1 d.st.code,
    fN 23 1 (d.core.toNat + bit d.late 7), f32 24 d.code, f32 28 d.arg]

/-- SCHED_TASK_READ (R113, R135). -/
def execSchedTaskRead (q : Req) (s : State) : Host.Outcome State Fault Refusal :=
  .next (serve opSchedTaskRead 2 q s fun s =>
    let n := rd q.payload 0 2
    require (decide (n < 8192)) .denied (answer s ((s.sched.settle s.now).at n).bytes))

/-- Take SCHED_CORES' mask into force. -/
def State.setCores (p : List U8) (s : State) : State :=
  let m := p64 p 0
  { s with sched.cores := .ofFn fun (i : Fin 64) => { s.sched.cores[i] with enabled := m.getLsbD i.val } }

/-- SCHED_CORES (R137). -/
def execSchedCores (q : Req) (s : State) : Host.Outcome State Fault Refusal :=
  .next (serve opSchedCores 8 q s fun s =>
    let m := p64 q.payload 0
    let bad := (List.finRange 64).any fun i => m.getLsbD i.val && s.sched.cores[i].excluded
    require (decide (m ≠ 0) && !bad) .denied (done ((s.remember opSchedCores 0 q.payload).setCores q.payload)))

end Sys2Proof.Machine
end

