-- ==== Sys2Proof/Machine/Radio.lean ====
section
/-! DEFINITION. Machine/Radio.lean: the events and commands of the radio interfaces (R351 to R372). -/
namespace Sys2Proof.Machine
open Sys2Proof

/-! ### Beacons (R353, R356, R357, R367) -/

/-- The beacon of instant `tb` is built; a standby, or an engine that has ceased to send, builds none (R367, R370). -/
def State.buildBeacon (s : State) (i : Fin 4) (tb : Int) : State :=
  let s := s.modRi i fun r => { r with bsn := r.bsn + 1 }
  let r := s.radio.ri[i]
  if r.active = false ∨ s.quiet = true then s.modRi i fun r => { r with built := some none }
  else
    let x := if r.cfg.laurel && s.pwr.mode == .run then s.laurelBuild i tb else (s, [])
    x.1.modRi i fun r => { r with built := some (some ⟨r.pendingShorts, x.2⟩) }

/-- BEACON_BUILD: at t_b − 500 us; RADIO_SET values that wait come into force first (R367, R372). -/
def execBeaconBuild (dt : Nat) (ri : Fin 4) (s : State) : Host.Outcome State Fault Refusal :=
  let s := s.elapse dt
  let due := fun (s : State) => match s.radio.ri[ri].nextTb with
    | some tb => decide (tb - 500000 ≤ (s.full : Int)) && s.radio.ri[ri].built.isNone
    | none => false
  .next (if due s = false then s
    else
      let s := match s.radio.ri[ri].next with
        | some c => s.radioApply ri c
        | none => s
      match s.radio.ri[ri].nextTb with
      | some tb => if due s then s.buildBeacon ri tb else s
      | none => s)

/-- BEACON_STB: the beacon starts so that its SFD ends at its instant (R353); the next instant lies BI later. -/
def execBeaconStb (dt : Nat) (ri : Fin 4) (s : State) : Host.Outcome State Fault Refusal :=
  let s := s.elapse dt
  let r := s.radio.ri[ri]
  .next (match r.nextTb, r.built with
    | some tb, some b =>
      if (s.full : Int) < tb - r.cfg.stbToSfdNs.toNat then s
      else
        let s := s.modRi ri fun r => { r with nextTb := some (r.nextInstant tb), built := none }
        match b with
        | some x =>
          if r.active = false ∨ s.quiet = true then s
          else
            (s.modRi ri fun r => { r with beaconsSent := r.beaconsSent.inc,
                                          laurelCarried := r.laurelCarried.add x.laurel.length }).emit
              (.beacon ri.val r.bsn r.cfg.superframe x.pending x.laurel)
        | none => s
    | _, _ => s)

/-! ### Radio slots and acknowledgements (R357, R358, Table 10.2) -/

/-- A transmission of `ns` ends before the next build instant and within the active portion (R357). -/
def State.radioFits (s : State) (i : Fin 4) (ns : Nat) : Bool :=
  let r := s.radio.ri[i]
  match r.nextTb with
  | none => false
  | some tb =>
    let last := tb - r.cfg.bi
    r.built.isNone && decide (last ≤ (s.full : Int)) && decide ((s.full : Int) + ns ≤ tb - 500000) &&
    decide ((s.full : Int) + ns ≤ last + r.cfg.active)

/-- Begin the transmission of a frame; one that wants no acknowledgement is done (R358). -/
def State.transmit (s : State) (i : Fin 4) (f : RadioTx) : State :=
  let r := s.radio.ri[i]
  let dsn := f.dsn.getD r.dsn
  let s := s.modRi i fun r => { r with dsn := if f.dsn.isSome then r.dsn else r.dsn + 1,
                                       queue := r.queue.filter fun x => x.id != f.id }
  let s := s.emit (.radio i.val f.dest dsn f.level f.data)
  if f.ack then s.modRi i fun r => { r with wait := some ({ f with dsn := some dsn }, dsn, s.now + f.airNs + ackWaitNs) }
  else (s.unhold i f).txDone f 2

/-- RADIO_SLOT_GRANT: the lowest requester, or one that lost 16 times, has the transmit opportunity (R358, R9). -/
def execRadioSlotGrant (dt : Nat) (ri : Fin 4) (s : State) : Host.Outcome State Fault Refusal :=
  let s := s.elapse dt
  let r := s.radio.ri[ri]
  let head := fun (c : Nat) => r.queue.find? fun f => f.cls.val == c
  let reqs := (List.range 4).filter fun c => match head c with
    | some f => s.radioFits ri (f.airNs + if f.ack then ackWaitNs else 0)
    | none => false
  .next (if r.active = false ∨ r.wait.isSome = true ∨ s.quiet = true then s
    else match arbitrate reqs (fun c => r.losses.toList.getD c 0) with
      | none => s
      | some c =>
        let losses : Vector Nat 4 := .ofFn fun k => if k.val = c then 0 else if reqs.contains k.val then r.losses[k] + 1 else r.losses[k]
        let s := s.modRi ri fun r => { r with losses := losses }
        match head c with
        | some f => s.transmit ri f
        | none => s)

/-- RADIO_ACK: the acknowledgement of the frame that awaits one; one in the step in which the wait ends counts (R355, R371). -/
def execRadioAck (dt : Nat) (ri : Fin 4) (dsn : U8) (s : State) : Host.Outcome State Fault Refusal :=
  let s := s.elapse dt
  .next (match s.radio.ri[ri].wait with
    | some w =>
      if w.2.1 = dsn ∧ s.fwExpired w.2.2 = false then
        ((s.modRi ri fun r => { r with wait := none }).unhold ri w.1).txDone w.1 0
      else s
    | none => s)

/-- ACK_WAIT_EXPIRY: the frame is sent again, three times at most; then it is counted, and a held frame stays held (R355,
R362). -/
def execAckWaitExpiry (dt : Nat) (ri : Fin 4) (s : State) : Host.Outcome State Fault Refusal :=
  let s := s.elapse dt
  .next (match s.radio.ri[ri].wait with
    | some w =>
      if s.fwExpired w.2.2 = false then s
      else
        let s := s.modRi ri fun r => { r with wait := none }
        if w.1.tries < 3 then s.modRi ri fun r => { r with queue := { w.1 with tries := w.1.tries + 1 } :: r.queue }
        else
          let s := s.modRi ri fun r => { r with ackTimeouts := r.ackTimeouts.inc }
          if s.radio.ri[ri].held.any fun h => h.id == w.1.id then s else s.txDone w.1 1
    | none => s)

/-! ### Association and indirect transmission (R359, R362) -/

/-- ASSOC_REQUEST (R359). -/
def execAssocRequest (dt : Nat) (ri : Fin 4) (ext : U64) (sleepy : Bool) (s : State) : Host.Outcome State Fault Refusal :=
  let s := s.elapse dt
  .next (if s.radio.ri[ri].active then s.associate ri ext sleepy else s)

/-- DISASSOC_NOTIFY: a node's disassociation is accepted (R359). -/
def execDisassocNotify (dt : Nat) (ri : Fin 4) (src : U16) (s : State) : Host.Outcome State Fault Refusal :=
  let s := s.elapse dt
  .next (match s.radio.ri[ri].node src with
    | some n => if s.radio.ri[ri].active then s.disassociate ri n else s
    | none => s)

/-- DATA_REQUEST: acknowledged, with frame pending where a frame is held; the oldest is then sent in the CAP (R362). -/
def execDataRequest (dt : Nat) (ri : Fin 4) (src : U16) (ext : U64) (s : State) : Host.Outcome State Fault Refusal :=
  let s := s.elapse dt
  let r := s.radio.ri[ri]
  .next (if r.active = false ∨ s.quiet = true then s
    else
      let s := s.modNode ri src fun n => { n with lastRx := BitVec.ofInt 32 (s.recvTime ri 0) }
      match r.held.find? fun h => if src = 0xFFFF then h.cls == 0 && h.ext == ext else h.dest == src && h.cls != 0 with
      | none => s.emit (.radioAck ri.val false)
      | some f =>
        let s := s.emit (.radioAck ri.val true)
        let busy := r.queue.any (fun x => x.id == f.id) || (match r.wait with
          | some w => w.1.id == f.id
          | none => false)
        if busy then s else s.modRi ri fun r => { r with queue := r.queue ++ [{ f with tries := 0, dsn := none }] })

/-- INDIRECT_PERSIST_EXPIRY: frames held for PERSIST_BI beacon intervals are discarded (R362). -/
def execIndirectPersistExpiry (dt : Nat) (ri : Fin 4) (s : State) : Host.Outcome State Fault Refusal :=
  let s := s.elapse dt
  let r := s.radio.ri[ri]
  let busy := fun (f : RadioTx) => r.queue.any (fun x => x.id == f.id) || (match r.wait with
    | some w => w.1.id == f.id
    | none => false)
  let gone := if r.active then
      r.held.filter fun f => !busy f && s.fwExpired (f.since + r.cfg.persistBi.toNat * r.cfg.bi)
    else []
  .next (gone.foldl (fun (s : State) f =>
    let first := !s.radio.ri[ri].expireRun
    let s := s.modRi ri fun r => { r with held := r.held.filter (fun h => h.id != f.id), expireRun := true,
                                          indirectExpired := r.indirectExpired.inc }
    ((s.radioChange ri.val 5 f.dest f.id []).txDone f 3).raiseIf first 99 [fN 0 1 ri.val, f16 2 f.dest]) s)

/-! ### Frames received (R355, R360, R361, R363) -/

/-- RADIO_DATA_FRAME. A standby only receives: records reach its own snapshot (R361, R370). -/
def execRadioDataFrame (dt : Nat) (ri : Fin 4) (f : RadioFrame) (s : State) : Host.Outcome State Fault Refusal :=
  let s := s.elapse dt
  let r := s.radio.ri[ri]
  let discard := s.modRi ri fun r => { r with rxDiscarded := r.rxDiscarded.inc }
  let insecure := s.modRi ri fun r => { r with secFailures := r.secFailures.inc }
  .next (if r.st = 4 then
      match if frameSupported f then (r.node (frameSrc f)).bind fun n => s.radioOpen ri n f else none with
      | some x => if onlyRecords x.2 then x.1.feedRecords (x.1.recvTime ri f.ago) x.2 else s
      | none => s
    else if r.active = false then s
    else match r.node (frameSrc f) with
      | none => if frameSupported f && inRange 1 32 (frameSrc f).toNat then s.privetReject ri f 1 else discard
      | some n =>
        if frameSupported f = false then discard
        else if n.isDup (frameDsn f) 1 then s.modRi ri fun r => { r with duplicates := r.duplicates.inc }
        else if inRange 1 32 n.short.toNat then
          match s.privetCheck ri f with
          | .error c => s.privetReject ri f c
          | .ok x => x.1.takeData ri f x.2
        else match s.radioOpen ri n f with
          | some x => x.1.takeData ri f x.2
          | none => insecure)

/-- PRIVET_FRAME: a Privet command (R363, Table 10.3). -/
def execPrivetFrame (dt : Nat) (ri : Fin 4) (f : RadioFrame) (s : State) : Host.Outcome State Fault Refusal :=
  let s := s.elapse dt
  let r := s.radio.ri[ri]
  let dup : Bool := match r.node (frameSrc f) with
    | some n => n.isDup (frameDsn f) 1
    | none => false
  .next (if r.active = false then s
    else if frameSupported f = false then s.modRi ri fun r => { r with rxDiscarded := r.rxDiscarded.inc }
    else if dup then s.modRi ri fun r => { r with duplicates := r.duplicates.inc }
    else if inRange 1 32 (frameSrc f).toNat = false then s.privetReject ri f 1
    else match s.privetCheck ri f with
      | .error c => s.privetReject ri f c
      | .ok x => (x.1.acceptFrame ri f 1).privetCommand ri f x.2)

/-! ### A parent (R364) -/

/-- PARENT_BEACON: within its window it aligns the schedule; heard while sync is lost it restores it (R364). -/
def execParentBeacon (dt : Nat) (ri : Fin 4) (pan : U16) (ago : Nat) (s : State) : Host.Outcome State Fault Refusal :=
  let s := s.elapse dt
  let r := s.radio.ri[ri]
  let t := s.recvTime ri ago
  let heard : Bool := match r.parentNext with
    | some p => r.lost || decide ((t - p).natAbs ≤ r.cfg.parentWindowUs.toNat * 1000)
    | none => true
  .next (if r.cfg.child && r.driver.isSome && pan == r.cfg.parentPan && heard then (s.alignChild ri t).regainSync ri else s)

/-- COORD_REALIGNMENT from the parent restores sync; the schedule stands (R364). -/
def execCoordRealignment (dt : Nat) (ri : Fin 4) (s : State) : Host.Outcome State Fault Refusal :=
  let s := s.elapse dt
  let r := s.radio.ri[ri]
  .next (if r.cfg.child && r.driver.isSome then
      let bi : Int := r.cfg.bi
      let next := r.parentNext.map fun p => if p < (s.full : Int) then p + ((s.full - p) / bi + 1) * bi else p
      (s.modRi ri fun r => { r with parentNext := next }).regainSync ri
    else s)

/-- PARENT_BEACON_MISS: three in a row lose sync (R364). -/
def execParentBeaconMiss (dt : Nat) (ri : Fin 4) (s : State) : Host.Outcome State Fault Refusal :=
  let s := s.elapse dt
  let r := s.radio.ri[ri]
  .next (match r.parentNext with
    | none => s
    | some p =>
      let past := (s.full : Int) - (p + r.cfg.parentWindowUs.toNat * 1000)
      if r.cfg.child = false ∨ r.lost = true ∨ past < 0 ∨ s.fwExpired (s.now - past.toNat) = false then s
      else
        let n := r.missRun + 1
        let s := s.modRi ri fun r => { r with parentMisses := r.parentMisses.inc, missRun := n,
                                              parentNext := some (p + r.cfg.bi), lost := decide (3 ≤ n) }
        if 3 ≤ n then (s.radioTo ri (s.radioSt s.radio.ri[ri])).raiseF 97 [fN 0 1 ri.val, fN 1 1 1] else s)

/-! ### Transceivers (R353, R354) -/

/-- XCVR_IDENTIFY: 1 ms after reset is released, the transceiver list is tried; `resp` is what each record's test reads. -/
def execXcvrIdentify (dt : Nat) (ri : Fin 4) (resp : List U32) (s : State) : Host.Outcome State Fault Refusal :=
  let s := s.elapse dt
  let r := s.radio.ri[ri]
  .next (if r.rstN = true ∧ r.driver.isNone = true ∧ r.st ≠ 5 ∧ s.fwExpired (r.rstAt + 1000000) = true then s.identifyRadio ri resp
    else s)

/-- XCVR_RETRY: every 1 s in transceiver fault (R353). -/
def execXcvrRetry (dt : Nat) (ri : Fin 4) (resp : List U32) (s : State) : Host.Outcome State Fault Refusal :=
  let s := s.elapse dt
  let r := s.radio.ri[ri]
  .next (if r.st = 5 ∧ s.fwExpired (r.faultAt + 1000000000) = true then s.identifyRadio ri resp else s)

/-! ### Commands (R372) -/

/-- The bank that powers an interface is present (R351, R491). -/
def State.radioBank (s : State) (i : Fin 4) : Bool := decide (1620 ≤ s.pwr.vddio[if i.val < 2 then (0 : Fin 2) else 1])

/-- The fields of a RADIO_SET payload lie in their ranges (Table 10.8). -/
def radioOk (p : List U8) : Bool :=
  let c := radioCfg p
  decide ((p8 p 0).toNat < 4) && decide (c.assocMode ≤ 2) && inRange 11 26 c.channel.toNat && decide (c.bo.toNat ≤ 8) &&
  decide (c.so.toNat ≤ c.bo.toNat) && inRange 1 2 c.perBeacon.toNat && c.panId != 0xFFFF && inRange 1000 16000 c.spiKhz.toNat &&
  c.persistBi != 0 && decide (c.originNs.toNat ≤ 999999999) && inRange 4500 30000 c.applyMinUs.toNat &&
  inRange 100 5000 c.parentWindowUs.toNat && decide (c.privetSlot.toNat < 32)

/-- RADIO_SET (R372, R491). -/
def execRadioSet (q : Req) (s : State) : Host.Outcome State Fault Refusal :=
  .next (serve opRadioSet 56 q s fun s =>
    let p := q.payload
    let i := riOf p
    require (radioOk p) .denied
      (require (!pbit p 1 0 || (s.radioBank i && s.sys.boot.radioMac)) .notReady
        (done ((s.remember opRadioSet i.val p).setRadio p))))

/-- The counters of Table 10.9 at zero. -/
def Radio.clear (r : Radio) : Radio :=
  { r with beaconsSent := 0, laurelCarried := 0, laurelLate := 0, rxFrames := 0, rxDiscarded := 0, duplicates := 0,
           secFailures := 0, ackTimeouts := 0, indirectExpired := 0, parentMisses := 0 }

/-- RADIO_STATUS (R372, Table 10.9). -/
def execRadioStatus (q : Req) (s : State) : Host.Outcome State Fault Refusal :=
  .next (serve opRadioStatus 2 q s fun s =>
    let i := riOf q.payload
    let r := s.radio.ri[i]
    let lead := (s.laurelRoutes i).foldl (fun n x => max n (s.dest x.1).lead.toNat) 0
    require (decide ((p8 q.payload 0).toNat < 4)) .denied
      (answer (if pbit q.payload 1 0 then s.modRi i Radio.clear else s)
        (pack 48 [fN 0 1 r.st, f8 1 r.bsn, fN 2 2 r.nodes.length, fN 4 2 r.held.length, fN 6 2 lead, f32 8 r.beaconsSent,
          f32 0x0C r.laurelCarried, f32 0x10 r.laurelLate, f32 0x14 r.rxFrames, f32 0x18 r.rxDiscarded, f32 0x1C r.duplicates,
          f32 0x20 r.secFailures, f32 0x24 r.ackTimeouts, f32 0x28 r.indirectExpired, f32 0x2C r.parentMisses])))

/-- NODE_READ (R372). -/
def execNodeRead (q : Req) (s : State) : Host.Outcome State Fault Refusal :=
  .next (serve opNodeRead 4 q s fun s =>
    let r := s.radio.ri[riOf q.payload]
    let short := p16 q.payload 2
    require (decide ((p8 q.payload 0).toNat < 4)) .denied
      (answer s (pack 16 (match r.node short with
        | some n => [f64 0 n.ext, fB 8 0 true, fB 8 1 n.sleepy, fB 8 2 (inRange 1 32 short.toNat), f8 9 n.lqi,
            fN 10 1 (r.held.filter fun h => h.dest == short).length, f8 11 ((n.dsn.map (·.1)).getD 0), f32 12 n.lastRx]
        | none => []))))

/-- NODE_CONTROL: 1 disassociate, 2 allow, 3 disallow (R359). -/
def nodeControl (q : Req) (s : State) : State :=
  serve opNodeControl 12 q s fun s =>
    let i := riOf q.payload
    let r := s.radio.ri[i]
    let a := (p8 q.payload 1).toNat
    let ext := p64 q.payload 4
    require (decide ((p8 q.payload 0).toNat < 4) && inRange 1 3 a) .denied
      (match a with
       | 1 => match r.nodes.find? fun n => n.ext == ext with
         | none => .error .denied
         | some n =>
           let s := s.disassociate i n
           done (if r.active then s.sendTo i n.sleepy { id := 0, cls := 3, dest := n.short, data := [0x03, 0x01] } else s)
       | 2 => if r.allowed.contains ext then done s
         else require (decide (r.allowed.length < 1023)) .busy (done (s.modRi i fun r => { r with allowed := r.allowed ++ [ext] }))
       | _ => done (s.modRi i fun r => { r with allowed := r.allowed.filter (· != ext) }))

/-- NODE_CONTROL disassociate (R359). -/
def execNodeDisassociate (q : Req) (s : State) : Host.Outcome State Fault Refusal := .next (nodeControl q s)

/-- NODE_CONTROL allow (R359). -/
def execNodeAllow (q : Req) (s : State) : Host.Outcome State Fault Refusal := .next (nodeControl q s)

/-- NODE_CONTROL disallow (R359). -/
def execNodeDisallow (q : Req) (s : State) : Host.Outcome State Fault Refusal := .next (nodeControl q s)

/-- The values of a PRIVET_SET payload; a new KEY_GEN starts the counter at zero (R363, Table 10.10). -/
def State.setStation (p : List U8) (s : State) : State :=
  let i := riOf p
  let n := (p8 p 1).toNat % 32
  let old := s.station i n
  let gen := p16 p 0x10
  let s := s.modStation i n fun _ =>
    { enable := pbit p 2 0, houseEn := pbit p 2 1, triggerEn := pbit p 2 2, ext := p64 p 4, maskAllowed := p32 p 0x0C,
      keyGen := gen, counter := if gen = old.keyGen then old.counter else 0 }
  if gen = old.keyGen then s else s.journalStation (32 * i.val + n) gen 0

/-- PRIVET_SET (R363, R372). -/
def execPrivetSet (q : Req) (s : State) : Host.Outcome State Fault Refusal :=
  .next (serve opPrivetSet 20 q s fun s =>
    let p := q.payload
    require (decide ((p8 p 0).toNat < 4) && decide ((p8 p 1).toNat < 32)) .denied
      (done ((s.remember opPrivetSet (32 * (p8 p 0).toNat + (p8 p 1).toNat) p).setStation p)))

/-- RADIO_SEND (R362, R372). -/
def execRadioSend (q : Req) (s : State) : Host.Outcome State Fault Refusal :=
  let n := (p8 q.payload 8).toNat
  .next (serve opRadioSend (9 + n) q s fun s =>
    let p := q.payload
    let i := riOf p
    let r := s.radio.ri[i]
    let dest := p16 p 2
    let secure := pbit p 1 1
    let f : RadioTx := { id := 0, cls := 3, dest := dest, ack := pbit p 1 0, level := if secure then 5 else 0, tag := some (p32 p 4),
                         data := bytesAt p 9 n }
    require (decide ((p8 p 0).toNat < 4) && inRange 1 100 n) .denied
      (require r.active .notReady
        (match r.node dest with
         | none => .error .denied
         | some x =>
           require (!x.sleepy || (decide ((r.held.filter fun h => h.dest == dest).length < 4) && decide (r.held.length < 256))) .busy
            (if secure then
              match s.derive r.cfg.privetSlot.toNat 0 (nodeLabel i) 128 with
              | .error e => .error e
              | .ok k => done ((k.1.modRi i Radio.nextCounter).sendTo i x.sleepy f)
             else done (s.sendTo i x.sleepy f)))))

/-- RADIO_RECV (R361). -/
def execRadioRecv (q : Req) (s : State) : Host.Outcome State Fault Refusal :=
  .next (serve opRadioRecv 1 q s fun s =>
    let i := riOf q.payload
    require (decide ((p8 q.payload 0).toNat < 4)) .denied
      (match s.radio.ri[i].rxq with
       | [] => answer s (pack 8 [])
       | x :: rest => answer (s.modRi i fun r => { r with rxq := rest })
           (pack 8 [f16 0 x.src, f8 2 x.lqi, fN 3 1 x.data.length, f32 4 x.short] ++ x.data)))

/-- RADIO_XCVR_READ (R354, Table 10.12). -/
def execRadioXcvrRead (q : Req) (s : State) : Host.Outcome State Fault Refusal :=
  .next (serve opRadioXcvrRead 1 q s fun s =>
    let k := (p8 q.payload 0).toNat
    require (decide (k < 16)) .denied
      (answer s (pack 32 (match s.radio.drivers[k]? with
        | some d => [fB 0 0 true, fN 1 1 (bitsOf fun i : Fin 4 => s.radio.ri[i].driver == some k), f16 2 d.version, f32 4 d.mask,
            f32 8 d.value] ++ fBytes 12 (bytesAt d.read 0 4) ++ fBytes 16 (bytesAt d.name 0 16)
        | none => []))))

end Sys2Proof.Machine
end

