-- ==== Sys2Proof/Machine/Spans.lean ====
section
/-! DEFINITION. Machine/Spans.lean: the commands and events of spans (R246 to R274). -/
namespace Sys2Proof.Machine
open Sys2Proof

/-! ### Signal and training -/

/-- Loss of signal asserts on a data lane or CK (5) (R246, R252, R254, R255); on a second data lane in the step in which LOCK
passes, training completes and the link goes down at once (R271). -/
def execLaneLos (dt : Nat) (sp : Fin 12) (lane : Fin 6) (s : State) : Host.Outcome State Fault Refusal :=
  let s := (s.elapse dt).modSpan sp fun x => x.markLost lane.val true
  let x := s.spans[sp]
  let both := match x.train.lockAt with
    | some t => lane.val != 5 && !s.fwExpired t
    | none => false
  .next (if x.st = 3 then s.laneLost sp lane.val
    else if x.st = 2 ∧ (lane.val = 5 ∨ 2 ≤ x.losCount) then
      (if both then s.modSpan sp fun x => { x with losDue := true } else s.abortAttempt sp)
    else s)

/-- A sleeping span that sees its peer's CK trains fully (R496), unless its own wake is so near that the peer's clock may only
run ahead (R268). -/
def State.peerWakes (s : State) (sp : Fin 12) : Bool :=
  s.spans[sp].st == 5 && (match s.spans[sp].sleep with
    | some (w, g) => decide (s.full + 2 * g < w)
    | none => true)

/-- Loss of signal clears; a span that is down starts an attempt when it clears on CK (R246, R253). -/
def execLaneLosClear (dt : Nat) (sp : Fin 12) (lane : Fin 6) (s : State) : Host.Outcome State Fault Refusal :=
  let s := (s.elapse dt).modSpan sp fun x =>
    if lane.val = 5 then { x with ckLos := false, ckLol := false } else x.modLane lane.val fun l => { l with los := false, lol := false }
  .next (if lane.val = 5 ∧ s.peerWakes sp = true then (s.modSpan sp fun x => { x with st := 1, sleep := none }).beginAttempt sp
    else if lane.val = 5 ∧ s.spans[sp].quietUntil ≤ s.now then s.beginAttempt sp
    else s)

/-- Loss of lock asserts on a data lane or CK (R246, R254, R255). -/
def execLaneLol (dt : Nat) (sp : Fin 12) (lane : Fin 6) (s : State) : Host.Outcome State Fault Refusal :=
  let s := (s.elapse dt).modSpan sp fun x => x.markLost lane.val false
  .next (if s.spans[sp].st = 3 then s.laneLost sp lane.val else s)

/-- A training attempt begins (R250). -/
def execTrainingAttemptStart (dt : Nat) (sp : Fin 12) (s : State) : Host.Outcome State Fault Refusal :=
  let s := s.elapse dt
  .next (if s.attemptDue sp then s.beginAttempt sp else s)

/-- A training frame is decoded (R247 to R249). -/
def execTrainingFrameRx (dt : Nat) (sp : Fin 12) (f : TrainFrame) (s : State) : Host.Outcome State Fault Refusal :=
  .next ((s.elapse dt).trainingFrame sp f)

/-- A training step's window ends (R250). -/
def execTrainingStepWindowEnd (dt : Nat) (sp : Fin 12) (r : StepResult) (s : State) : Host.Outcome State Fault Refusal :=
  let s := s.elapse dt
  let x := s.spans[sp]
  .next (if x.st = 7 then (s.stepEnd sp r).showTx sp
    else if x.st ≠ 2 then s
    else match x.train.windowEnd with
      | some t => if s.fwExpired t then (s.stepEnd sp r).showTx sp else s
      | none => s)

/-- An attempt is not up by T0 + 250 ms (R253). -/
def execTrainingTimeout (dt : Nat) (sp : Fin 12) (s : State) : Host.Outcome State Fault Refusal :=
  let s := s.elapse dt
  let x := s.spans[sp]
  .next (if x.st = 2 ∧ s.fwExpired (x.train.t0 + 250000000) = true then s.failAttempt sp (if x.train.seen.isEmpty then 1 else 2)
    else s)

/-- The 10 ms of quiet end (R252). -/
def execQuietPeriodEnd (dt : Nat) (sp : Fin 12) (s : State) : Host.Outcome State Fault Refusal :=
  let s := s.elapse dt
  .next (if s.fwExpired s.spans[sp].quietUntil ∧ s.attemptDue sp = true then s.beginAttempt sp else s)

/-- The retry interval after a failure passes (R253). -/
def execTrainingRetryTimer (dt : Nat) (sp : Fin 12) (s : State) : Host.Outcome State Fault Refusal :=
  let s := s.elapse dt
  .next (if s.fwExpired s.spans[sp].nextAttempt ∧ s.attemptDue sp = true then s.beginAttempt sp else s)

/-! ### Calibration -/

/-- The monitor measures a lane's eye; the lane needs calibration where its centre has moved, or where its pre-FEC error ratio of
the last second stands above the warning level (R245, R256, R257, R259). -/
def execCalibrationNeeded (dt : Nat) (sp : Fin 12) (lane : Fin 5) (seen : Taps) (s : State) : Host.Outcome State Fault Refusal :=
  let s := s.elapse dt
  let x := s.spans[sp]
  let n := x.bitErrors s.now (· == lane.val)
  let high := decide (x.laneBits < n * 10 ^ x.cfg.fecWarnExp.toNat)
  let s := s.modSpan sp fun x => x.modLane lane.val fun l =>
    { l with taps := { l.taps with eyeW := seen.eyeW, eyeH := seen.eyeH }, warned := high }
  let s := s.raiseIf (high && !x.lane[lane].warned) 77 [fN 0 1 sp.val, fN 1 1 lane.val, fN 4 4 (x.ppt n 1)]
  .next (if x.eyeMoved lane seen || high then s.needCalibration sp lane.val else s)

/-- CAL_INTERVAL_MS has passed (R257). -/
def execRotationTimer (dt : Nat) (sp : Fin 12) (s : State) : Host.Outcome State Fault Refusal :=
  let s := s.elapse dt
  let x := s.spans[sp]
  .next (if x.cfg.calIntervalMs ≠ 0 ∧ s.fwExpired (x.rotatedAt + x.cfg.calIntervalMs.toNat * 1000000) = true then
      s.beginRotation sp ((x.lastRotated + 1) % 4)
    else s)

/-- A sweep ends, with the taps it found (R257). -/
def execSpareSweepEnd (dt : Nat) (sp : Fin 12) (t : Taps) (s : State) : Host.Outcome State Fault Refusal :=
  .next ((s.elapse dt).sweepDone sp t)

/-- The comparison of duplicated codewords ends (R257). -/
def execDuplicateCompareEnd (dt : Nat) (sp : Fin 12) (equal : Bool) (s : State) : Host.Outcome State Fault Refusal :=
  .next ((s.elapse dt).compareDone sp equal)

/-- Codeword c1 + 1,088 (R257). -/
def execLaneSwapCodeword (dt : Nat) (sp : Fin 12) (s : State) : Host.Outcome State Fault Refusal :=
  .next ((s.elapse dt).swapLane sp)

/-- START_CW of a gap in the transmit or receive direction (R259). -/
def execCalGapStart (dt : Nat) (sp : Fin 12) (tx : Bool) (taps : List (Fin 5 × Taps)) (s : State) : Host.Outcome State Fault Refusal :=
  .next ((s.elapse dt).gapStart sp tx taps)

/-- A receiver has not regained lock 8 us after START_CW (R259). -/
def execCalGapLockTimeout (dt : Nat) (sp : Fin 12) (s : State) : Host.Outcome State Fault Refusal :=
  let s := s.elapse dt
  .next (match s.spans[sp].gapRx with
    | some (.open_ t) => if s.cycExpired (t + 8000) then s.linkDown sp 7 else s
    | _ => s)

/-- No frame gap is found (R260). -/
def execCalGapDeferral (dt : Nat) (sp : Fin 12) (s : State) : Host.Outcome State Fault Refusal :=
  .next ((s.elapse dt).gapDefer sp)

/-! ### Lane control -/

/-- A LANE_CTL message reaches the engine while the link is up. -/
def State.laneCtl (s : State) (sp : Fin 12) (f : State → State) : State := if s.links[sp].st = 2 then f s else s

/-- SPARE_ON: PRBS31 on the spare (R257), unless a test pattern holds it (R263). -/
def execLaneCtlSpareOn (dt : Nat) (sp : Fin 12) (m : LaneCtl) (s : State) : Host.Outcome State Fault Refusal :=
  .next ((s.elapse dt).laneCtl sp fun s =>
    let x := s.spans[sp]
    let ok := x.txPhase == 0 && x.tx.spare == some m.physical.toNat && !x.spareDriven
    let s' := s.txRequest sp m ok false fun _ x => { x with txPhase := 1 }
    if ok && s'.spans[sp].txPhase == 1 then s'.emit (.spanTx sp.val (.pattern x.rate.toNat [(m.physical.toNat, 4)])) else s')

/-- DUPLICATE: a lane on both its lane and the spare from c1 (R257). -/
def execLaneCtlDuplicate (dt : Nat) (sp : Fin 12) (m : LaneCtl) (s : State) : Host.Outcome State Fault Refusal :=
  .next ((s.elapse dt).laneCtl sp fun s =>
    s.txRequest sp m (s.spans[sp].txPhase == 1 && decide (m.logical.toNat < 4)) true fun c x =>
      { x with txPhase := 2, txDup := some (m.logical.toNat, c) })

/-- RELEASE: from the START_CW returned, the lane it carried stays on the spare alone, and the released lane, the new spare, carries
PRBS31 (R257). -/
def execLaneCtlRelease (dt : Nat) (sp : Fin 12) (m : LaneCtl) (s : State) : Host.Outcome State Fault Refusal :=
  .next ((s.elapse dt).laneCtl sp fun s =>
    s.txRequest sp m (s.spans[sp].txPhase == 2) true fun c x =>
      match x.txDup, x.tx.spare with
      | some (j, _), some k => { x with txPhase := 3, txMove := some ⟨j, k, c, true⟩ }
      | _, _ => { x with txPhase := 3, txDup := none })

/-- SPARE_IDLE: the spare returns to idle (R257). -/
def execLaneCtlSpareIdle (dt : Nat) (sp : Fin 12) (m : LaneCtl) (s : State) : Host.Outcome State Fault Refusal :=
  .next ((s.elapse dt).laneCtl sp fun s =>
    (s.txRequest sp m true false fun _ x => { x with txPhase := 0, txDup := none }).emit
      (.spanTx sp.val (.pattern s.spans[sp].rate.toNat [])))

/-- LANE_FAULT (R255). -/
def execLaneCtlLaneFault (dt : Nat) (sp : Fin 12) (m : LaneCtl) (s : State) : Host.Outcome State Fault Refusal :=
  .next ((s.elapse dt).laneCtl sp fun s => s.txLaneFault sp m)

/-- CAL_GAP (R259). -/
def execLaneCtlCalGap (dt : Nat) (sp : Fin 12) (m : LaneCtl) (s : State) : Host.Outcome State Fault Refusal :=
  .next ((s.elapse dt).laneCtl sp fun s => s.txCalGap sp m)

/-- SLEEP (R267). -/
def execLaneCtlSleep (dt : Nat) (sp : Fin 12) (m : LaneCtl) (s : State) : Host.Outcome State Fault Refusal :=
  .next ((s.elapse dt).laneCtl sp fun s => s.sleepRequest sp m)

/-- ACK (R262). -/
def execLaneCtlAck (dt : Nat) (sp : Fin 12) (m : LaneCtl) (s : State) : Host.Outcome State Fault Refusal :=
  .next ((s.elapse dt).laneCtl sp fun s => s.laneAck sp m)

/-- NAK (R262). -/
def execLaneCtlNak (dt : Nat) (sp : Fin 12) (m : LaneCtl) (s : State) : Host.Outcome State Fault Refusal :=
  .next ((s.elapse dt).laneCtl sp fun s => s.laneNak sp m)

/-- A request has had no answer for 20 us (R262). -/
def execLaneCtlAnswerTimeout (dt : Nat) (sp : Fin 12) (s : State) : Host.Outcome State Fault Refusal :=
  .next ((s.elapse dt).laneTimeout sp)

/-! ### Sleep and health -/

/-- Keystone reaches W - G (R268). -/
def execSleepWake (dt : Nat) (sp : Fin 12) (s : State) : Host.Outcome State Fault Refusal := .next ((s.elapse dt).spanWake sp)

/-- No ALIGN frame within 4 G (R269). -/
def execWakeDriftTimeout (dt : Nat) (sp : Fin 12) (s : State) : Host.Outcome State Fault Refusal := .next ((s.elapse dt).wakeDrift sp)

/-- A span with a route stays down (R270). -/
def execSpanHealthDownTimeout (dt : Nat) (sp : Fin 12) (s : State) : Host.Outcome State Fault Refusal :=
  let s := s.elapse dt
  .next (if s.downTooLong sp then s.spanFail sp 1 else s)

/-- The health check recovers after 1 s without a failing case (R270). -/
def execSpanHealthRecover (dt : Nat) (sp : Fin 12) (s : State) : Host.Outcome State Fault Refusal :=
  let s := s.elapse dt
  let x := s.spans[sp]
  .next (if x.healthFail = true ∧ s.downTooLong sp = false ∧ s.fwExpired (x.healthAt + 1000000000) = true then
      State.spanCheck ((s.modSpan sp fun x => { x with healthFail := false }).raiseF 78 [fN 0 1 sp.val, fN 1 1 2])
    else s)

/-- A codeword with more errors than the code corrects (R242). -/
def execCodewordUncorrectable (dt : Nat) (sp : Fin 12) (s : State) : Host.Outcome State Fault Refusal :=
  .next ((s.elapse dt).codewordBad sp)

/-! ### Commands -/

/-- Carry out a span command; a SPAN out of range is denied. -/
def onSpan (n : Nat) (k : Fin 12 → Except Status Done) : Except Status Done := if h : n < 12 then k ⟨n, h⟩ else .error .denied

/-- The values of a SPAN_SET payload (Table 7.10). -/
def spanCfg (p : List U8) : SpanCfg :=
  { mode := pbits p 1 0 2, gen2En := pbit p 1 2, gen1En := pbit p 1 3, spareEn := pbit p 1 4, precodeReq := pbit p 1 5,
    rateMbd := p16 p 2, calIntervalMs := p16 p 4, calTrim := p8 p 6, calGapWait := p8 p 7, healthDownUs := p16 p 8,
    healthUe := p16 p 10, fecWarnExp := p8 p 12 }

/-- Take SPAN_SET's values into force (R273). -/
def State.setSpan (p : List U8) (s : State) : State :=
  if h : (p8 p 0).toNat < 12 then
    let sp : Fin 12 := ⟨(p8 p 0).toNat, h⟩
    (s.modSpan sp fun x => { x with cfg := spanCfg p }).spanMode sp s.spans[sp].cfg.mode
  else s

/-- SPAN_SET (R273). -/
def execSpanSet (q : Req) (s : State) : Host.Outcome State Fault Refusal :=
  .next (serve opSpanSet 16 q s fun s =>
    let c := spanCfg q.payload
    onSpan (p8 q.payload 0).toNat fun sp =>
      require (decide (c.mode ≤ 2) && inRange 1000 8000 c.rateMbd.toNat && decide (c.rateMbd.toNat % 125 = 0) &&
          (c.calIntervalMs == 0 || inRange 100 60000 c.calIntervalMs.toNat) && inRange 1 16 c.calTrim.toNat &&
          decide (1 ≤ c.calGapWait.toNat) && inRange 100 60000 c.healthDownUs.toNat && decide (1 ≤ c.healthUe.toNat) &&
          inRange 4 12 c.fecWarnExp.toNat) .denied
        (done ((s.remember opSpanSet sp.val q.payload).setSpan q.payload)))

/-- A lane map as Table 7.11 packs it. -/
def LaneMap.code (m : LaneMap) : Nat :=
  m.physical 0 + 8 * m.physical 1 + 64 * m.physical 2 + 512 * m.physical 3 + 4096 * m.spare.getD 7

/-- The response of SPAN_STATUS (Table 7.11). -/
def State.spanData (s : State) (sp : Fin 12) : List U8 :=
  let x := s.spans[sp]
  pack 64 [fN 0 1 x.st, fN 1 1 x.step, fB 2 0 x.gen2, fB 2 1 x.precode, fB 2 2 x.rx.spare.isSome, fB 2 3 x.tx.spare.isSome,
    fB 2 4 x.healthFail, fN 3 1 (min x.failCount 255), f16 4 x.rate, fN 8 2 x.rx.code, fN 10 2 x.tx.code, f32 12 x.codewords,
    f32 16 x.cwCorrected, f32 20 x.cwBad, f32 24 x.rotations, f32 28 x.rotationsAbandoned, f32 32 x.calGaps, f32 36 x.attempts,
    f32 40 x.fails, f32 44 x.aborts, f32 48 x.wakeDrifts, fN 52 4 (x.ppt (x.bitErrors s.now fun _ => true) 4), f32 56 x.cwRx]

/-- SPAN_STATUS (R272). -/
def execSpanStatus (q : Req) (s : State) : Host.Outcome State Fault Refusal :=
  .next (serve opSpanStatus 1 q s fun s => onSpan (p8 q.payload 0).toNat fun sp => answer s (s.spanData sp))

/-- Carry out a lane command; a SPAN or LANE out of range is denied. -/
def onLane (p : List U8) (k : Fin 12 → Fin 5 → Except Status Done) : Except Status Done :=
  onSpan (p8 p 0).toNat fun sp => if h : (p8 p 1).toNat < 5 then k sp ⟨(p8 p 1).toNat, h⟩ else .error .denied

/-- The receive use of a lane (Table 7.12). -/
def LaneMap.use (m : LaneMap) (p : Nat) : Nat :=
  if m.failed.contains p then 5
  else match m.logicalOf p with
    | some j => j
    | none => if m.spare = some p then 4 else 6

/-- The response of LANE_STATUS (Table 7.12). -/
def State.laneData (s : State) (sp : Fin 12) (p : Fin 5) : List U8 :=
  let x := s.spans[sp]
  let l := x.lane[p]
  pack 32 [fN 0 1 (x.rx.use p.val), fB 1 0 l.los, fB 1 1 l.lol, fB 1 2 (l.gen != 0), fB 1 3 l.chk.lock, fB 1 4 l.inverted,
    fN 2 1 l.taps.peak.toNat, fN 3 1 l.taps.delay.toNat, fI 4 1 l.taps.lo.toInt, fI 5 1 l.taps.mid.toInt, fI 6 1 l.taps.hi.toInt, f16 8 l.taps.eyeW,
    f16 10 l.taps.eyeH, f32 12 l.corrected, f32 16 l.losEvents, f32 20 l.lolEvents, f32 24 l.sweeps]

/-- LANE_STATUS (R272). -/
def execLaneStatus (q : Req) (s : State) : Host.Outcome State Fault Refusal :=
  .next (serve opLaneStatus 2 q s fun s => onLane q.payload fun sp p => answer s (s.laneData sp p))

/-- SPAN_TRAIN: the link down, 10 ms of quiet, the failure count cleared (R272). -/
def execSpanTrain (q : Req) (s : State) : Host.Outcome State Fault Refusal :=
  .next (serve opSpanTrain 1 q s fun s => onSpan (p8 q.payload 0).toNat fun sp =>
    let s := s.linkDown sp 8
    let run := s.spans[sp].cfg.mode == 1
    let s := s.raiseIf s.spans[sp].dormant 73 [fN 0 1 sp.val, fN 1 1 2]
    let s := s.modSpan sp fun x =>
      if run then { x with st := 1, failCount := 0, dormant := false, sleep := none, quietUntil := s.now + 10000000,
                           nextAttempt := s.now + 10000000 }
      else { x with failCount := 0, dormant := false }
    done (s.linkState sp 0))

/-- SPAN_CAL: a rotation, or a gap on a direction without a spare (R259, R272). -/
def execSpanCal (q : Req) (s : State) : Host.Outcome State Fault Refusal :=
  .next (serve opSpanCal 2 q s fun s => onSpan (p8 q.payload 0).toNat fun sp =>
    let j := p8 q.payload 1
    let x := s.spans[sp]
    require (decide (j.toNat < 4) || j == 0xFF) .denied
      (require (s.links[sp].st == 2) .notReady
        (require (!x.calBusy) .busy
          (done (if x.rx.spare.isSome then s.beginRotation sp (if j = 0xFF then (x.lastRotated + 1) % 4 else j.toNat)
            else s.askGap sp)))))

/-- A pattern may run on a lane: the idle spare of a span that is up, or any lane in MODE 2 (R263). -/
def State.prbsAllowed (s : State) (sp : Fin 12) (p : Fin 5) (gen check : Bool) : Bool :=
  let x := s.spans[sp]
  x.cfg.mode == 2 || (!gen && !check) ||
  (s.links[sp].st == 2 && (!gen || (x.tx.spare == some p.val && x.txPhase == 0)) &&
    (!check || (x.rx.spare == some p.val && x.rotation.isNone)))

/-- PRBS_SET (R263). -/
def execPrbsSet (q : Req) (s : State) : Host.Outcome State Fault Refusal :=
  .next (serve opPrbsSet 4 q s fun s => onLane q.payload fun sp p =>
    let g := pbits q.payload 2 0 4
    let c := pbits q.payload 2 4 4
    require (decide (g ≤ 4) && decide (c ≤ 4) && s.prbsAllowed sp p (g != 0) (c != 0)) .denied
      (done ((s.modSpan sp fun x => x.modLane p.val fun l =>
        { l with gen := g, check := c, chk := if l.check = c then l.chk else { l.chk with lock := false, run := 0, recent := [] } }).emit
          (.spanTx sp.val (.pattern (if s.spans[sp].cfg.mode = 2 then s.spans[sp].cfg.rateMbd else s.spans[sp].rate).toNat [(p.val, g)])))))

/-- A checker takes `n` error-free bits (R264): it locks after 64, and counts while it is locked. -/
def Checker.clean (c : Checker) (n : Nat) : Checker :=
  let c := { c with at_ := c.at_ + n }
  let held := fun (c : Checker) (k : Nat) =>
    { c with held := c.held + k, bits := min (2 ^ 48 - 1) (c.bits + k), lossRun := c.lossRun && decide (c.held + k < 256) }
  if c.lock then held c n
  else if 64 ≤ c.run + n then held { c with lock := true, run := 0, held := 0, recent := [] } (c.run + n - 64)
  else { c with run := c.run + n }

/-- A checker takes a bit in error (R264): more than 32 in 256 bits lose its lock, and the first loss of a run counts a run. -/
def Checker.error (c : Checker) : Checker :=
  if c.lock = false then { c with at_ := c.at_ + 1, run := 0 }
  else
    let e := c.at_ :: c.recent.filter fun p => decide (c.at_ < p + 256)
    let c := { c with at_ := c.at_ + 1, held := c.held + 1, bits := min (2 ^ 48 - 1) (c.bits + 1),
                      errors := min (2 ^ 48 - 1) (c.errors + 1), recent := e }
    if 32 < e.length then
      { c with lock := false, run := 0, recent := [], losses := c.losses.inc, lossRun := true,
               runs := if c.lossRun then c.runs else c.runs + 1 }
    else c

/-- A checker takes bits of which those at the places given, counted from `k`, are in error. -/
def Checker.take (c : Checker) (bits : Nat) : Nat → List Nat → Checker
  | k, [] => c.clean (bits - k)
  | k, e :: es => ((c.clean (e - k)).error).take bits (e + 1) es

/-- PRBS_READ; `seen` is what came to the checker since it was last read (R264). -/
def execPrbsRead (q : Req) (seen : PrbsSeen) (s : State) : Host.Outcome State Fault Refusal :=
  .next (serve opPrbsRead 3 q s fun s => onLane q.payload fun sp p =>
    let old := s.spans[sp].lane[p].chk
    let new := if s.spans[sp].lane[p].check = 0 then old else old.take seen.bits 0 seen.errors
    let s := (List.range (new.runs - old.runs)).foldl (fun (s : State) _ => s.raiseF 79 [fN 0 1 sp.val, fN 1 1 p.val]) s
    let data := pack 20 [fN 0 6 new.bits, fN 8 6 new.errors, fB 14 0 new.lock, f32 16 new.losses]
    answer (s.modSpan sp fun x => x.modLane p.val fun l =>
      { l with chk := if pbit q.payload 2 0 then { new with bits := 0, errors := 0, losses := 0 } else new }) data)

/-- ERROR_INJECT (R265, Table 7.13). -/
def execErrorInject (q : Req) (s : State) : Host.Outcome State Fault Refusal :=
  .next (serve opErrorInject 12 q s fun s => onLane q.payload fun sp p =>
    let burst := pbit q.payload 2 1
    let len := rd q.payload 4 2
    let n := rd q.payload 6 2
    let iv := rd q.payload 8 4
    require ((!burst || inRange 2 256 len) && decide (1 ≤ iv)) .denied
      (done (s.modSpan sp fun x => x.modLane p.val fun l =>
        { l with inject := if n = 0 then none else some ⟨pbit q.payload 2 0, if burst then len else 1, n, iv, 1⟩ })))

/-- BIT_SLIP, in MODE 2 (R266). -/
def execBitSlip (q : Req) (s : State) : Host.Outcome State Fault Refusal :=
  .next (serve opBitSlip 4 q s fun s => onLane q.payload fun sp p =>
    require (s.spans[sp].cfg.mode == 2 && decide (1 ≤ (p8 q.payload 2).toNat)) .denied
      (done (s.modSpan sp fun x => x.modLane p.val fun l => { l with slip := l.slip + (p8 q.payload 2).toNat })))

/-- A tap in its range, or left unchanged. -/
def tapOr (unchanged : Bool) (old : BitVec 6) (new : Int) : BitVec 6 := if unchanged then old else BitVec.ofInt 6 new

/-- LANE_TAPS_SET, in MODE 2 (R266). -/
def execLaneTapsSet (q : Req) (s : State) : Host.Outcome State Fault Refusal :=
  .next (serve opLaneTapsSet 8 q s fun s => onLane q.payload fun sp p =>
    let pk := (p8 q.payload 2).toNat
    let dl := (p8 q.payload 3).toNat
    let th := fun i => (p8 q.payload (4 + i)).toInt
    let ok := fun i => th i == -128 || (decide (-32 ≤ th i) && decide (th i ≤ 31))
    require (s.spans[sp].cfg.mode == 2 && (pk == 0xFF || decide (pk ≤ 15)) && (dl == 0xFF || decide (dl ≤ 63)) && ok 0 && ok 1 && ok 2)
      .denied
      (done (s.modSpan sp fun x => x.modLane p.val fun l =>
        let t := l.taps
        { l with taps := { t with peak := if pk = 0xFF then t.peak else BitVec.ofNat 4 pk,
                                  delay := if dl = 0xFF then t.delay else BitVec.ofNat 6 dl,
                                  lo := tapOr (th 0 == -128) t.lo (th 0), mid := tapOr (th 1 == -128) t.mid (th 1),
                                  hi := tapOr (th 2 == -128) t.hi (th 2) } })))

/-- The spans a SPAN_SLEEP names: one, or every span that is up. -/
def State.sleepSpans (s : State) (n : Nat) : List (Fin 12) :=
  (List.finRange 12).filter fun sp => if n = 0xFF then s.links[sp].st == 2 else sp.val == n

/-- SPAN_SLEEP (R267, R272). -/
def execSpanSleep (q : Req) (s : State) : Host.Outcome State Fault Refusal :=
  .next (serve opSpanSleep 20 q s fun s =>
    let p := q.payload
    let n := (p8 p 0).toNat
    let g := rd p 2 2
    let w := rd p 4 6 * 1000000000 + rd p 12 4
    let sps := s.sleepSpans n
    require ((decide (n < 12) || n == 0xFF) && inRange 500 50000 g && decide (rd p 12 4 ≤ 999999999)) .denied
      (require (sps != [] && sps.all fun sp => s.links[sp].st == 2) .notReady
        (require (sps.all fun sp => !s.spans[sp].calBusy) .busy
          (require (decide (s.full + 10000000 + g * 1000 ≤ w)) .late
            (done (sps.foldl (fun (s : State) sp =>
              s.laneAsk sp 7 { laneCtl0 with guardUs := BitVec.ofNat 16 g, wakeS := rd p 4 6, wakeNs := rd p 12 4 }) s))))))

end Sys2Proof.Machine
end

