-- ==== Sys2Proof/Machine/Time.lean ====
section
/-! DEFINITION. Machine/Time.lean: the commands and events of Keystone, compare slots and timecode (R20 to R37, R53 to
R65). -/
namespace Sys2Proof.Machine
open Sys2Proof

/-! ### Commands -/

/-- UTC_OFFSET as TIME_GET reports it: PTP's when PTP is the selected source (Table 1.13). -/
def State.utcOffset (s : State) : U16 :=
  match s.net.ptp.parent with
  | some p => if s.ks.sel = 1 ∧ p.2.2.utcValid then p.2.2.utcOffset else s.tc.utcOffset
  | none => s.tc.utcOffset

/-- The response of TIME_GET (Table 1.7). -/
def State.timeData (s : State) : List U8 :=
  let k := s.ks
  pack 40 [fN 0 6 (k.full / 1000000000), fN 6 2 k.subns, fN 8 4 (k.full % 1000000000), f32 12 s.short,
           fB 16 0 k.compat, fN 17 1 k.st.code, fN 18 1 k.sel, fB 19 0 k.ref10mActive, fB 19 1 k.lockFault,
           fI 20 4 (satS 32 (ratRound k.theta)), fI 24 4 (satS 32 (ratRound (k.y * 1000))), f16 28 s.utcOffset,
           f32 32 s.grid.lastFrameNo, fN 36 1 s.grid.tick, fN 37 3 s.grid.slip]

/-- TIME_GET (R64). -/
def execTimeGet (q : Req) (s : State) : Host.Outcome State Fault Refusal :=
  .next (serve opTimeGet 0 q s fun s => answer s s.timeData)

/-- The values of a SERVO_SET payload (Table 1.8). -/
def servoCfg (p : List U8) : ServoCfg :=
  { kp := p16 p 0, ki := p16 p 2, stepNs := p32 p 4, lockNs := p16 p 8, unlockNs := p16 p 10, faultNs := p32 p 12,
    holdoverLimitS := p16 p 16, ref10mEn := pbit p 18 0,
    priority := #v[p8 p 20, p8 p 21, p8 p 22, p8 p 23, p8 p 24, p8 p 25], refPhaseNs := p32 p 28 }

/-- Take SERVO_SET's values into force. -/
def State.setServo (p : List U8) (s : State) : State :=
  let c := servoCfg p
  State.reselect { s with ks.cfg := c, ks.ref10mActive := c.ref10mEn && s.ks.ref10mPresent }

/-- SERVO_SET (R27, R32). -/
def execServoSet (q : Req) (s : State) : Host.Outcome State Fault Refusal :=
  .next (serve opServoSet 32 q s fun s =>
    let c := servoCfg q.payload
    require (decide (c.ki.toNat ≤ 0x8000) && c.priority.toList.all fun x => decide (x.toNat ≤ 5)) .denied
      (done ((s.remember opServoSet 0 q.payload).setServo q.payload)))

/-- Take CLOCK_MODEL_SET's value into force; slots are converted under the new model. -/
def State.setClockModel (p : List U8) (s : State) : State :=
  let s := { s with ks := s.ks.model (p8 p 0 == 1) }
  s.reconvert

/-- CLOCK_MODEL_SET (R26, R65). -/
def execClockModelSet (q : Req) (s : State) : Host.Outcome State Fault Refusal :=
  .next (serve opClockModelSet 1 q s fun s =>
    let m := p8 q.payload 0
    require (decide (m.toNat ≤ 1) && !(m == 1 && s.sys.boot.profile == 1)) .denied
      (require (!s.running) .notReady
        (done ((s.remember opClockModelSet 0 q.payload).setClockModel q.payload))))

/-- TIME_STEP (R65): Keystone steps, and is taken as brought to TAI (R28). -/
def execTimeStep (q : Req) (s : State) : Host.Outcome State Fault Refusal :=
  .next (serve opTimeStep 8 q s fun s =>
    require (!s.running) .notReady
      (done ({ s with ks.taiSet := true }.stepTime (pInt q.payload 0 8))))

/-- The Table 1.9 fields of the grid settings in force, with RUN as GRID_GET reads it. -/
def State.gridFields (s : State) : List Fld :=
  let v := s.grid.v
  [f32 0 v.n, f32 4 v.d, fN 8 6 (v.e / 1000000000), fN 16 4 (v.e % 1000000000), f32 20 v.n0, f32 24 s.grid.applyFrame,
   f8 28 v.l, f8 29 v.q, f8 30 v.ceil, fB 31 0 s.grid.run]

/-- GRID_GET (R64, Table 1.10). -/
def execGridGet (q : Req) (s : State) : Host.Outcome State Fault Refusal :=
  .next (serve opGridGet 0 q s fun s => answer s (pack 44 (s.gridFields ++
    [f16 32 s.grid.k, fN 34 1 s.grid.st, f32 36 s.grid.lastFrameNo, fN 40 3 s.grid.slip])))

/-- The arming of a slot by SLOT_ARM (Table 1.11). -/
def slotOf (p : List U8) : KtSlot :=
  let wrap := p8 p 1 == 1
  { st := 1, wrap := wrap, action := p8 p 2, arg := p32 p 4,
    target := if wrap then rd p 16 4 else rd p 8 6 * 1000000000 + rd p 16 4 }

/-- SLOT_ARM (R53 to R57). -/
def execSlotArm (q : Req) (s : State) : Host.Outcome State Fault Refusal :=
  .next (serve opSlotArm 20 q s fun s =>
    let p := q.payload
    let n := (p8 p 0).toNat
    require (decide (32 ≤ n) && decide ((p8 p 1).toNat ≤ 1) && inRange 1 2 (p8 p 2).toNat &&
        (p8 p 1 == 1 || decide (rd p 16 4 ≤ 999999999))) .denied
      (let k := slotOf p
       let k := s.convertSlot { k with passed := decide (0 < s.slotPast k) }
       done { s with slots := s.slots.set {} n k }))

/-- A cancel in the count cycle in which the slot fires wins: the slot never fired (R58). -/
def KtSlot.unfired (k : KtSlot) : KtSlot :=
  { k with st := 3, begins := none, late := false, lateness := 0, fireS := 0, fireNs := 0 }

/-- SLOT_CANCEL (R53, R58). -/
def execSlotCancel (q : Req) (s : State) : Host.Outcome State Fault Refusal :=
  .next (serve opSlotCancel 1 q s fun s =>
    let n := (p8 q.payload 0).toNat
    require (decide (32 ≤ n)) .denied
      (let k := s.slots.get {} n
       done (if k.st = 1 then { s with slots := s.slots.set {} n { k with st := 3 } }
         else if k.begins = some (s.now / 4) then { s with slots := s.slots.set {} n k.unfired } else s)))

/-- SLOT_STATUS (R53, Table 1.12). -/
def execSlotStatus (q : Req) (s : State) : Host.Outcome State Fault Refusal :=
  .next (serve opSlotStatus 1 q s fun s =>
    let n := (p8 q.payload 0).toNat
    require (decide (32 ≤ n)) .denied
      (let k := s.slots.get {} n
       answer s (pack 20 [fN 0 1 n, fN 1 1 k.st, fB 2 0 k.late, f32 4 k.lateness, fN 8 6 k.fireS, fN 16 4 k.fireNs])))

/-- Take TIMECODE_SET's values into force. -/
def State.setTimecode (p : List U8) (s : State) : State :=
  { s with tc := { s.tc with ltcIn := p8 p 0, ltcOut := p8 p 1, utcOffset := p16 p 2, originS := rd p 8 6,
                             originNs := rd p 16 4, ppsWidthUs := p16 p 20, ppsForce := pbit p 22 0, ltcFrame := none } }

/-- TIMECODE_SET (R61 to R63). -/
def execTimecodeSet (q : Req) (s : State) : Host.Outcome State Fault Refusal :=
  .next (serve opTimecodeSet 24 q s fun s =>
    let p := q.payload
    require (decide ((p8 p 0).toNat ≤ 6) && decide ((p8 p 1).toNat ≤ 6) && decide (rd p 20 2 ≤ 1000)) .denied
      (done ((s.remember opTimecodeSet 0 p).setTimecode p)))

/-! ### Events -/

/-- A rising edge on PPS_IN (R28): theta is the nearest whole TAI second less Keystone time. -/
def execPpsInEdge (dt : Nat) (s : State) : Host.Outcome State Fault Refusal :=
  let s := s.elapse dt
  let theta := roundDiv s.full 1000000000 * 1000000000 - s.full
  .next (State.sample { s with tc.ppsIn := true } 3 theta 1000000000)

/-- R28: edge time less REF_PHASE_NS less the nearest P(m), reduced into (-T/2, T/2]. -/
def GridVals.refTheta (v : GridVals) (phase : Int) (edge : Int) : Int :=
  let x := edge - phase - v.pNear edge
  let d : Int := 1000000000 * max v.d.toNat 1
  let k := -(-((2 * x * v.den - d)) / (2 * d))
  x - k * d / v.den

/-- A rising edge on FRAME_REF_IN (R28). -/
def execFrameRefInEdge (dt : Nat) (s : State) : Host.Outcome State Fault Refusal :=
  let s := s.elapse dt
  .next (State.sample { s with tc.frameRefIn := true } 5
    (s.grid.v.refTheta s.ks.cfg.refPhaseNs.toInt s.full) s.grid.v.period)

/-- The end of an LTC sync word with the label and user bits of its frame, which cue triggers are passed (R28, R63, R87).
DESIGN CHOICE: a label always counts from the first day of LTC_ORIGIN, so that a timecode read after midnight stands for a
full time one day back (log entry 113). -/
def execLtcInSyncWord (dt h m sec f : Nat) (user : U32) (s : State) : Host.Outcome State Fault Refusal :=
  let s := s.elapse dt
  let c := s.tc.ltcIn
  if c = 0 ∨ ltcLabelOk c h m sec f = false then .next s
  else
    let n := ltcFrames c h m sec f
    let s := { s with tc.ltcLabel := n, tc.ltcUser := user, tc.ltcInLevel := !s.tc.ltcInLevel, sh.trigUser := user }
    let t := s.full
    let s := s.sample 4 ((s.tc.frameAt c (n + 1) : Int) - s.full) (1000000000 * (ltcRate c).2 / (ltcRate c).1)
    .next (s.observeAll (fun tr => tr.source == 2 && tr.condA.toNat == n) t)

/-- The loss timeout of source `code` expires: three nominal intervals, observed per tick (R30). -/
def execSourceLossTimeout (dt : Nat) (code : Fin 6) (s : State) : Host.Outcome State Fault Refusal :=
  let s := s.elapse dt
  let x := s.ks.source code
  .next (if code ≠ 0 ∧ x.valid = true ∧ s.tickExpired (x.lastAt + 3 * x.nominal) = true then s.invalidate code else s)

/-- A holdover has lasted HOLDOVER_LIMIT_S (R36). -/
def execHoldoverLimitExpiry (dt : Nat) (s : State) : Host.Outcome State Fault Refusal :=
  let s := s.elapse dt
  let lim := s.ks.cfg.holdoverLimitS.toNat
  .next (if s.ks.st = .holdover ∧ lim ≠ 0 ∧ s.pwr.mode ≠ .standby ∧
      s.fwExpired (s.ks.holdSince + lim * 1000000000) = true
    then s.setFaults true s.ks.faultOffset else s)

/-- REF10M_IN has had no edge for 2 us: the clock changes to the crystal without a step (R31). -/
def execRef10mLoss (dt : Nat) (s : State) : Host.Outcome State Fault Refusal :=
  let s := s.elapse dt
  .next (if s.ks.ref10mPresent then
      State.raiseF { s with ks.ref10mPresent := false, ks.ref10mActive := false } 19 [fN 0 1 1]
    else s)

/-- REF10M_IN is present again (R31). -/
def execRef10mReturn (dt : Nat) (s : State) : Host.Outcome State Fault Refusal :=
  let s := s.elapse dt
  .next (if s.ks.ref10mPresent then s
    else State.raiseF { s with ks.ref10mPresent := true, ks.ref10mActive := s.ks.cfg.ref10mEn } 19 [fN 0 1 2])

/-- Compare slots whose targets Keystone has reached fire, and the start of one action, of a slot whose fire cycle is over, is
granted (R54, R58). -/
def execSlotFire (dt : Nat) (s : State) : Host.Outcome State Fault Refusal :=
  let s := s.elapse dt
  .next (s.fireSlots s.slotDue s.slotPast).slotTurn

/-- PPS_OUT is driven: its width is not zero, and Keystone is not in FREE unless PPS_FORCE is set (R61). -/
def State.ppsDriven (s : State) : Bool := s.tc.ppsWidthUs != 0 && (s.ks.st != .free || s.tc.ppsForce)

/-- The level of PPS_OUT: high for PPS_WIDTH_US from the last rise (R61). -/
def State.ppsOut (s : State) : Bool := s.ppsDriven && match s.tc.ppsLast with
  | some sec => decide (sec * 1000000000 ≤ s.full) && decide (s.full < sec * 1000000000 + s.tc.ppsWidthUs.toNat * 1000)
  | none => false

/-- PPS_OUT rises in the count cycle in which a TAI second begins, for PPS_WIDTH_US (R61). -/
def execPpsOutPulse (dt : Nat) (s : State) : Host.Outcome State Fault Refusal :=
  let s := s.elapse dt
  let sec := s.full / 1000000000
  .next (if s.ppsDriven = true ∧ s.full % 1000000000 < 5 ∧ s.tc.ppsLast ≠ some sec
    then State.emit { s with tc.ppsLast := some sec } (.pps sec s.tc.ppsWidthUs.toNat) else s)

/-- LTC_OUT begins the LTC frame in progress at Keystone time, within 1 us of its start, with its label (R62). -/
def execLtcOutFrame (dt : Nat) (s : State) : Host.Outcome State Fault Refusal :=
  let s := s.elapse dt
  let t := s.tc
  let r := ltcRate t.ltcOut
  if t.ltcOut = 0 ∨ s.full < t.origin then .next s
  else
    let j := ((s.full - t.origin + 1) * r.1 - 1) / (1000000000 * r.2)
    let l := ltcLabelOf t.ltcOut j
    .next (if t.ltcFrame ≠ some j ∧ s.full ≤ t.frameAt t.ltcOut j + 1000 then
        State.emit { s with tc.ltcFrame := some j, tc.ltcOutLabel := l } (.ltc l.1 l.2.1 l.2.2.1 l.2.2.2)
      else s)

end Sys2Proof.Machine
end

