-- ==== Sys2Proof/Machine/Settings.lean ====
section
/-! DEFINITION. Machine/Settings.lean: settings that wait for a frame boundary (R15), and the stored settings: what is saved and
how a boot applies it (R479, R504). -/
namespace Sys2Proof.Machine
open Sys2Proof

/-- A setting that waited for the frame boundary takes effect (R15). -/
def State.applyBoundary (s : State) (x : Nat × List U8) : State :=
  if x.1 = opCmuConfig then s.setCmu x.2
  else if x.1 = opStreamSet then s.setStream x.2
  else if x.1 = opIngestSet then s.setIngest x.2
  else if x.1 = opPortSet then s.setPort x.2
  else if x.1 = opInputSet then s.setInput x.2
  else if x.1 = opSacnSet then s.setSacn x.2
  else if x.1 = opSchedConfig then s.setSched x.2
  else if x.1 = opTapSet then s.setTap x.2
  else if x.1 = opHouseSet then s.setHouse x.2
  else if x.1 = opTrestleSet then s.setTrestle x.2
  else if x.1 = opLinkSet then s.setLink x.2
  else if x.1 = opPierSet then s.setPier x.2
  else s

/-! ### Stored settings (R479) -/

/-- The commands whose last accepted payload is stored (R479). -/
def storedOps : List Nat :=
  [opServoSet, opClockModelSet, opGridSet, opTimecodeSet, opTapSet, opHouseSet, opSchedConfig, opSchedCores, opCmuConfig,
    opIngestSet, opRasterSet, opLayerSet, opTrestleSet, opLinkSet, opSpanSet, opPortSet, opInputSet, opSacnSet, opEthSet,
    opQueueSet, opPtpSet, opStreamSet, opRadioSet, opPrivetSet, opPierSet, opMbConfig, opEventSet, opUdpMbSet, opThermalSet,
    opWakeScheduleSet]

/-- The RASTER_SET payload that spells an engine's registers (Table 5.9). -/
def RasterCfg.bytes (c : RasterCfg) (re : Nat) : List U8 :=
  pack 32 [fN 0 1 re, fB 1 0 c.enable, f8 2 c.span, f8 3 c.outBits, fN 4 2 c.hActive, fN 6 2 c.vActive, fN 8 2 c.hTotal,
    fN 10 2 c.vTotal, fI 12 4 c.genlock, fI 16 4 c.showPhase, f16 20 c.bg0, f16 22 c.bg1, f16 24 c.bg2, fN 26 2 c.outCurve]

/-- The LAYER_SET payload that spells a layer's registers (Table 5.10). -/
def LayerCfg.bytes (c : LayerCfg) (re l : Nat) : List U8 :=
  pack 32 [fN 0 1 re, fN 1 1 l, f8 2 c.blend, fB 3 0 c.enable, fN 4 4 c.map, fN 8 2 c.srcX, fN 10 2 c.srcY, fN 12 2 c.srcW,
    fN 14 2 c.srcH, fN 16 2 c.dstX, fN 18 2 c.dstY, fN 20 1 c.repX, fN 21 1 c.repY, f16 22 c.opacity]

/-- A payload with bit 0 of one byte cleared. -/
def clearBit0 (p : List U8) (off : Nat) : List U8 := p.modify off fun b => b &&& 0xFE

/-- The payloads that SETTINGS_SAVE stores: GRID_SET with RUN = 0, EVENT_SET with RING_HOST = 0, each raster engine with its
active registers (R479). -/
def State.toStore (s : State) : Tab (List U8) :=
  let kept := s.mb.accepted.keep fun k _ => storedOps.contains (k / 65536)
  let t := (kept.upd [] (opGridSet * 65536) fun p => clearBit0 p 31).upd [] (opEventSet * 65536) fun p => clearBit0 p 0
  (List.finRange 4).foldl (fun (t : Tab (List U8)) re =>
    let x := s.raster[re]
    let t := if x.cfg = ({} : RasterCfg) then t else t.set [] (opRasterSet * 65536 + re.val) (x.cfg.bytes re.val)
    (List.finRange 4).foldl (fun (t : Tab (List U8)) l =>
      if x.layers[l] = ({} : LayerCfg) then t else t.set [] (opLayerSet * 65536 + 4 * re.val + l.val) (x.layers[l].bytes re.val l.val)) t) t

/-- SETTINGS_SAVE into the settings area of a bank (R479). -/
def State.saveSettings (s : State) (bank : Fin 2) (next : Nat) (erase : Bool) : State :=
  let area := s.flash.stored[bank]
  let old := newerCopy (·.seq) area
  let seq : U32 := match old with
    | some o => o.seq + 1
    | none => 1
  let profile : U8 := if next = 1 then 0 else if next = 2 then 1 else if erase then s.sys.boot.profile else match old with
    | some o => o.profile
    | none => s.sys.boot.profile
  let n : Stored := { seq := seq, format := s.flash.format, profile := profile, payloads := if erase then [] else s.toStore }
  { s with flash.stored := s.flash.stored.set bank (area.set (copyToWrite (·.seq) area) (some n)) }

/-- The grid settings that a boot applies: ticks run from their E (R42). -/
def State.setGrid (p : List U8) (s : State) : State :=
  let v := gridVals p
  let g := { s.grid with v := v, tv := v, fp := v, applyFrame := p32 p 24, tickBase := v.e }
  { s with grid := { g with tickIdx := g.tickIdxAt s.full } }

/-- A stored payload is applied at boot (R479). -/
def State.applyStored (s : State) (op : Nat) (p : List U8) : State :=
  if op = opServoSet then s.setServo p
  else if op = opClockModelSet then
    -- the compatibility model is selected under Profile V alone (R26)
    (if p8 p 0 = 1 ∧ s.sys.boot.profile = 1 then s else s.setClockModel p)
  else if op = opGridSet then s.setGrid p
  else if op = opTimecodeSet then s.setTimecode p
  else if op = opSchedCores then s.setCores p
  else if op = opRasterSet then
    let c := rasterCfg p
    s.modRaster (reOf p) fun x =>
      { x with shadow := c, cfg := c, nextR := s.grid.v.rasterFrameAt c.genlock s.full + 1 }
  else if op = opLayerSet then s.modRaster (reOf p) fun x =>
      { x with shadowL := x.shadowL.set ((p8 p 1).toNat % 4) (layerCfg p) (Nat.mod_lt _ (by decide)),
               layers := x.layers.set ((p8 p 1).toNat % 4) (layerCfg p) (Nat.mod_lt _ (by decide)) }
  else if op = opTrestleSet then (s.setNode (p32 p 0)).setTrestle p
  else if op = opSpanSet then s.setSpan p
  else if op = opSacnSet then (s.setSacnNow p).setSacn p
  else if op = opEthSet then s.setEth p
  else if op = opQueueSet then s.modQueue (rd p 0 2) fun x => { x with limit := some (rd p 2 2) }
  else if op = opPtpSet then s.setPtp p
  else if op = opRadioSet then s.setRadio p
  else if op = opPrivetSet then s.setStation p
  else if op = opPierSet then (s.setPairing p).setPier p
  else if op = opMbConfig then s.setMb p
  else if op = opEventSet then s.setEvent p
  else if op = opUdpMbSet then s.setUdp p
  else if op = opThermalSet then s.setThermal p
  else if op = opWakeScheduleSet then s.setWake p
  else s.applyBoundary (op, p)
where
  /-- Raster engine of a payload whose first byte is RE. -/
  reOf (p : List U8) : Fin 4 := ⟨(p8 p 0).toNat % 4, Nat.mod_lt _ (by decide)⟩

/-- All stored payloads are applied, and are from then on the last ones accepted (R479). -/
def State.applySettings (s : State) (x : Stored) : State :=
  x.payloads.foldl (fun (s : State) e => s.applyStored (e.1 / 65536) e.2) { s with mb.accepted := x.payloads }

/-- A station's floor after a boot: the highest counter journalled under its KEY_GEN (R363). -/
def State.stationFloors (s : State) : State :=
  { s with radio.station := s.radio.station.map fun (e : Nat × Station) =>
      let js := s.radio.journal.filter fun j => j.1 == e.1 && j.2.1 == e.2.keyGen
      (e.1, { e.2 with counter := js.foldl (fun (m : U32) j => if m < j.2.2 then j.2.2 else m) e.2.counter }) }

end Sys2Proof.Machine
end

