-- ==== Sys2Proof/Machine/Boxwood.lean ====
section
/-! DEFINITION. Machine/Boxwood.lean: Boxwood's commands, tamper inputs, and the checks of a show image (R76, R404 to R433). -/
namespace Sys2Proof.Machine
open Sys2Proof

/-! ### Tamper inputs and monitors (R425, R431) -/

/-- TAMPn stays asserted for FILTER_US (R425); grades -CA and -IA ignore the inputs (R2). -/
def execTamperInputAssert (dt : Nat) (n : Fin 4) (s : State) : Host.Outcome State Fault Refusal :=
  let s := s.elapse dt
  .next (if s.sys.fuses.grade ≠ 2 then s
    else
      let s := { s with box.level := s.box.level ||| BitVec.ofNat 4 (2 ^ n.val) }
      if s.box.tamper.en.getLsbD n.val then s.tamper (n.val + 1) else s)

/-- The voltage, clock or temperature monitor trips (Table 12.8). -/
def execTamperMonitorTrip (dt : Nat) (n : Fin 3) (s : State) : Host.Outcome State Fault Refusal :=
  let s := s.elapse dt
  .next (State.tamper { s with box.tripped := s.box.tripped ||| BitVec.ofNat 3 (2 ^ n.val) } (n.val + 5))

/-- Input 0 to 3 returns to its idle level, or monitor 4 to 6 (causes 5 to 7) returns within its limits (R431). -/
def execTamperInputRelease (dt : Nat) (n : Fin 7) (s : State) : Host.Outcome State Fault Refusal :=
  let s := s.elapse dt
  .next (if n.val < 4 then { s with box.level := s.box.level &&& ~~~(BitVec.ofNat 4 (2 ^ n.val)) }
    else { s with box.tripped := s.box.tripped &&& ~~~(BitVec.ofNat 3 (2 ^ (n.val - 4))) })

/-! ### Proposals (R419 to R423) -/

/-- The open proposal lapses (R420). -/
def execProposalLapse (dt : Nat) (s : State) : Host.Outcome State Fault Refusal :=
  let s := s.elapse dt
  .next (match s.box.proposal with
    | none => s
    | some p => if s.fwExpired p.lapseAt then State.raiseProposal { s with box.proposal := none } p 4 0xFF else s)

/-- PROPOSE (R419, R421, R422). -/
def execPropose (q : Req) (s : State) : Host.Outcome State Fault Refusal :=
  let n := rd q.payload 2 2
  .next (serve opPropose (4 + n) q s fun s =>
    let kind := (p8 q.payload 0).toNat
    let body := bytesAt q.payload 4 n
    let plain := if kind = 1 then s.slotWritePlain body else none
    match s.proposalCheck kind body plain with
    | .ok =>
      require s.box.proposal.isNone .busy
        (let nonce := Config.nonce s.fresh
         let id := s.box.proposalSeq + 1
         let p : Proposal := { id := id, kind := kind, body := body, nonce := nonce, plain := plain.getD [], openedAt := s.now }
         let s := State.raiseProposal { s.draw with box.proposal := some p, box.proposalSeq := id } p 1 0xFF
         answer s (pack 40 ([f32 0 id, f32 0x24 s.tre.nodeId] ++ fBytes 4 (be 32 nonce.toNat))))
    | e =>
      if kind = 1 ∧ plain.isNone = true ∧ s.box.lock = false ∧ s.sys.boot.debugBoot = false ∧ body.length = 160 then
        .ok { st := s.keyFail 1 0, status := e }
      else .error e)

/-- The officer whose key an approval must show: an enrolled one, or in the first enrolment one being enrolled (R423). -/
def State.approver (s : State) (p : Proposal) (i : Nat) : Option Officer :=
  ((if s.officers.isEmpty then enrolEntries p.body else s.officers).find? fun o => o.1 == i).map (·.2)

/-- The second approval is verified: the change is applied (R419, R421, R432). -/
def State.settle (s : State) (p : Proposal) (fails : Nat) : Except Status Done :=
  let s := { s with box.proposal := none }
  match s.proposalCheck p.kind p.body (if p.kind = 1 then some p.plain else none) with
  | .ok => match s.applyProposal p fails with
    | some t => done (((t.raiseProposal p 3 0xFF).raiseF 117 [fN 0 1 p.kind, fN 1 1 p.target]).tripEnabled s.box.tamper.en)
    | none => .ok { st := s.failedWrite p, status := .fault }
  | _ => .ok { st := s, status := .fault }

/-- APPROVE (R419, R420); the operand is how often the read-back of a slot write fails (R408). -/
def execApprove (q : Req) (writeFails : Nat) (s : State) : Host.Outcome State Fault Refusal :=
  .next (serve opApprove 208 q s fun s =>
    let i := (p8 q.payload 4).toNat
    match s.box.proposal with
    | none => require (decide (i < 8)) .denied (.error .late)
    | some p =>
      require (decide (i < 8)) .denied
        (if p.id ≠ p32 q.payload 0 ∨ s.fwExpired p.lapseAt = true then .error .late
         else
           let keyOk : Bool := match s.approver p i with
             | some o => o.keyHash == sha256 (bytesAt q.payload 8 97)
             | none => false
           if keyOk = false then .ok { st := s.keyFail 5 0, status := .denied }
           else if ecdsaVerify (bytesAt q.payload 8 97) (s.approvalMessage p) (rdBE q.payload 0x70 48) (rdBE q.payload 0xA0 48) = false then .ok { st := s.keyFail 4 0, status := .denied }
           else if p.kind = 8 ∧ s.box.tampered = true then .error .notReady
           else if p.approvals.contains i then .ok { st := s, status := .needSecondOfficer }
           else
             let s := s.raiseProposal p 2 i
             if p.approvals.isEmpty then
               .ok { st := { s with box.proposal := some { p with approvals := [i], firstAt := s.now } },
                     status := .needSecondOfficer }
             else s.settle p writeFails))

/-- PROPOSAL_CANCEL (R420). -/
def execProposalCancel (q : Req) (s : State) : Host.Outcome State Fault Refusal :=
  .next (serve opProposalCancel 4 q s fun s =>
    match s.box.proposal with
    | none => .error .late
    | some p => require (p.id == p32 q.payload 0) .late (done (State.raiseProposal { s with box.proposal := none } p 5 0xFF)))

/-! ### Keys (R412, R417) -/

/-- The bits of SLOTS_VALID and SLOTS_UNUSABLE. -/
def State.slotBits (s : State) (st : Nat) : Nat :=
  (List.range 32).foldl (fun m i => if s.slotSt i = st then m + 2 ^ i else m) 0

/-- BOX_STATUS (R433, Table 12.12). -/
def execBoxStatus (q : Req) (s : State) : Host.Outcome State Fault Refusal :=
  .next (serve opBoxStatus 0 q s fun s =>
    let b := s.box
    answer s (pack 32 [fB 0 0 b.lock, fB 0 1 s.sys.boot.debugBoot, fB 0 2 b.debugNext, fB 0 3 b.proposal.isSome,
      fN 1 1 s.tamperResponse, fN 2 1 s.officers.length, fN 3 1 b.wk.length, fN 4 4 (s.slotBits 1), fN 8 4 (s.slotBits 2),
      f8 0x0C b.lastCause, fN 0x0D 1 b.level.toNat, fN 0x10 6 b.lastS, fN 0x18 4 b.lastNs,
      f32 0x1C ((b.proposal.map (·.id)).getD 0)]))

/-- SLOT_INFO (R433). -/
def execSlotInfo (q : Req) (s : State) : Host.Outcome State Fault Refusal :=
  .next (serve opSlotInfo 1 q s fun s =>
    let n := (p8 q.payload 0).toNat
    require (decide (n < 32)) .denied
      (answer s (pack 32 (match s.slotSt n, (s.box.slot.get {} n).best with
        | 1, some c => [fN 0 1 1, f8 1 c.kind, f8 2 c.uses, f32 4 c.seq, fN 0x10 6 c.writtenS] ++ fBytes 8 c.labelPrefix ++
            fBytes 0x18 c.name
        | st, _ => [fN 0 1 st]))))

/-- KEY_LOAD (R412, Table 12.5). -/
def execKeyLoad (q : Req) (s : State) : Host.Outcome State Fault Refusal :=
  .next (serve opKeyLoad 72 q s fun s =>
    let b := q.payload
    let id := p32 b 4
    let root := (p8 b 8).toNat
    let use := p8 b 9
    let fail := fun (t : State) cause i => (.ok { st := t.keyFail cause i, status := .denied } : Except Status Done)
    require (rd b 0 4 == 0x4258424C && decide (root < 32) && (use == 1 || use == 2) && !s.box.lock) .denied
      (match s.derive root 1 (ascii "WRAP" ++ be 4 (rd b 0x0C 4)) 256 with
       | .error .denied => fail s 7 (rd (ascii "WRAP") 0 4)
       | .error e => .error e
       | .ok w => match keyUnwrap w.2 (bytesAt b 0x10 56) with
         | none => fail w.1 1 id.toNat
         | some p =>
           if p32 p 32 ≠ id ∨ p8 p 36 ≠ use then fail w.1 2 id.toNat
           else if rd p 40 8 ≠ 0 ∧ rd p 40 8 < w.1.seconds then fail w.1 3 id.toNat
           else
             let key := bytesAt p 0 (if p8 p 37 = 1 then 16 else 32)
             let r := w.1.keep { blob := true, root := root, use := use, id := id, key := key, used := 0 }
             let t := r.1
             let t := match t.sh.staged.blob with
               | some x => if x.1 = id ∧ x.2.1.toNat = root ∧ x.2.2.1 = use then { t with sh.staged := { t.sh.staged with blob := none } } else t
               | none => t
             answer t [BitVec.ofNat 8 r.2]))

/-- WK_STATUS (R433). -/
def execWkStatus (q : Req) (s : State) : Host.Outcome State Fault Refusal :=
  .next (serve opWkStatus 1 q s fun s =>
    let n := (p8 q.payload 0).toNat
    require (decide (n < 64)) .denied
      (answer s (pack 8 (match s.box.wk.find? fun e => e.1 == n with
        | some e => [fN 0 1 (if e.2.blob then 2 else 1), fN 1 1 e.2.root, f8 2 e.2.use, f32 4 e.2.id]
        | none => []))))

/-- CHALLENGE (R417). -/
def execChallenge (q : Req) (s : State) : Host.Outcome State Fault Refusal :=
  .next (serve opChallenge 36 q s fun s =>
    let n := (p8 q.payload 0x20).toNat
    require (decide (n < 32)) .denied
      (match s.slotFor n with
       | .error e => .error e
       | .ok c => require (c.kind == 1 && c.may 4) .denied
         (let k := s.box.counter
          let mac := hmac c.value (bytesAt q.payload 0 32 ++ be 4 s.tre.nodeId.toNat ++ be 8 k)
          let s := { s with box.counter := k + 1,
                            box.reserved := if s.box.reserved ≤ k then (k / 4096 + 1) * 4096 else s.box.reserved }
          answer s (le 8 k ++ mac))))

/-- OFFICER_READ (R433). -/
def execOfficerRead (q : Req) (s : State) : Host.Outcome State Fault Refusal :=
  .next (serve opOfficerRead 1 q s fun s =>
    let n := (p8 q.payload 0).toNat
    require (decide (n < 8)) .denied
      (answer s (pack 48 (match s.officers.find? fun o => o.1 == n with
        | some o => [fN 0 1 1] ++ fBytes 8 o.2.name ++ fBytes 0x10 o.2.keyHash
        | none => []))))

/-- IDENTITY_READ (R405). -/
def execIdentityRead (q : Req) (s : State) : Host.Outcome State Fault Refusal :=
  .next (serve opIdentityRead 0 q s fun s =>
    answer s (publicKey s.identityScalar ++ [if s.sys.boot.debugBoot then 1 else 0, 0, 0]))

/-! ### The checks of a show image (R76, R99, R413, R414) -/

/-- The bytes of the staged image. -/
def Staged.bytes (x : Staged) : List U8 := x.data.reads 0 0 x.size

/-- The staged image is rejected: E033 (R76, R99). -/
def State.rejectImage (s : State) (reason : Nat) : State :=
  let x := s.sh.staged
  State.raiseF { s with sh.staged := { x with st := 4, reason := BitVec.ofNat 8 reason, blob := none, image := none } } 33
    [fN 0 8 (leVal (x.data.reads 0 0x10 8)), fN 8 1 reason]

/-- A signature block (R75): its format, public key, r and s. -/
structure SigBlock where
  format : U8
  key : List U8
  r : Nat
  s : Nat
  deriving DecidableEq, Repr

/-- The signature block at an offset, with bytes outside as zero (R75). -/
def readSig (b : List U8) (off : Nat) : SigBlock :=
  ⟨p8 b off, bytesAt b (off + 1) 97, rdBE b (off + 0x62) 48, rdBE b (off + 0x92) 48⟩

/-- The block signs a message (R75). -/
def SigBlock.signs (x : SigBlock) (msg : List U8) : Bool := x.format == 1 && ecdsaVerify x.key msg x.r x.s

/-- The signature of an image verifies over its bytes below SIGNATURE_OFFSET (R75). -/
def imageSigned (b : List U8) : Bool := let at_ := rd b 0x4C 4; (readSig b at_).signs (bytesAt b 0 at_)

/-- R414: the signing key of an image is authorised. -/
def State.signerOk (s : State) (b : List U8) : Bool :=
  match s.slotFor (rd b 0x28 1) with
  | .error _ => false
  | .ok c => decide (rd b 0x28 1 < 32) && c.kind == 2 && c.may 2 && c.value == sha256 (readSig b (rd b 0x4C 4)).key

/-- An image holds an encrypted section. -/
def hasEncrypted (b : List U8) : Bool := (sectionsOf b).any (·.encrypted)

/-- The section key of an image (R414): the state with the key in a working slot, and the key; `inr`: the blob that is not
resident. -/
def State.sectionKey (s : State) (b : List U8) : Except Status ((State × List U8) ⊕ (U32 × Nat)) :=
  let label := p32 b 0x2C
  let root := rd b 0x29 1
  if label.getLsbD 31 then
    match s.box.blobKey label root 1 with
    | some k => .ok (.inl (s.touch true root label [], k))
    | none => .ok (.inr (label, root))
  else (s.derive root 0 (ascii "IMGK" ++ be 4 label.toNat) 256).map .inl

/-- One encrypted section, by its directory entry, put in the clear in place (R414): none where its tag fails. -/
def openSection (key b : List U8) (i : Nat) : Option (List U8) :=
  let entry := bytesAt b (rd b 0x48 4 + 16 * i) 16
  let off := rd entry 4 4
  let n := rd entry 8 4
  if pbit entry 2 1 = false then some b
  else if n < 28 then none
  else (gcmOpen key (bytesAt b off 12) entry (bytesAt b (off + 12) (n - 28)) (bytesAt b (off + n - 16) 16)).map fun p =>
    b.take off ++ p ++ b.drop (off + p.length)

/-- The image with its encrypted sections in the clear: none where an authentication tag fails (R76 check 3). -/
def openImage (key b : List U8) : Option (List U8) :=
  (List.range (rd b 0x0C 2)).foldl (fun (m : Option (List U8)) i => m.bind fun b => openSection key b i) (some b)

/-- The checks of R76 with the section key in hand. -/
def State.finishImage (s : State) (b : List U8) (size : Nat) (plain : Option (List U8)) : State :=
  let s := s.raiseIf plain.isNone 119 [fN 0 1 6, fN 4 4 0]
  let r := imageReason b size true plain
  if r ≠ 0 then s.rejectImage r
  else
    let x := s.sh.staged
    let im := { readImage (plain.getD b) with base := x.base }
    State.raiseF { s.deckWrite (imageRegion + x.base) (plain.getD b) with
                     sh.staged := { x with st := 3, reason := 0, image := some im } } 32
      [fN 0 8 (leVal (x.data.reads 0 0x10 8))]

/-- The image checks finish (R76, R99). A blob key that is not resident is waited for (R413). -/
def execImageChecksComplete (dt : Nat) (s : State) : Host.Outcome State Fault Refusal :=
  let s := s.elapse dt
  let x := s.sh.staged
  .next (if x.st ≠ 2 ∨ x.blob.isSome = true then s
    else
      let b := x.bytes
      if checkHeader b x.size = false then s.rejectImage 1
      else if x.covers 0 x.size = false ∨ imageSigned b = false then (s.keyFail 4 0).rejectImage 2
      else if s.signerOk b = false then (s.keyFail 5 0).rejectImage 2
      else if hasEncrypted b = false then s.finishImage b x.size (some b)
      else match s.sectionKey b with
        | .error _ => (s.keyFail 7 (rd (ascii "IMGK") 0 4)).rejectImage 3
        | .ok (.inr k) =>
          State.keyNeeded { s with sh.staged := { x with blob := some (k.1, BitVec.ofNat 8 k.2, 1, s.now) } } k.1 k.2 1
        | .ok (.inl t) => t.1.finishImage b x.size (openImage t.2 b))

/-- A needed blob is not loaded within 10 s: the image fails with reason 3 (R413). -/
def execBlobWaitExpiry (dt : Nat) (s : State) : Host.Outcome State Fault Refusal :=
  let s := s.elapse dt
  .next (match s.sh.staged.blob with
    | none => s
    | some k => if s.fwExpired (k.2.2.2 + 10000000000) then s.rejectImage 3 else s)

end Sys2Proof.Machine
end

