-- ==== Sys2Proof/Machine/Update.lean ====
section
/-! DEFINITION. Machine/Update.lean: firmware update (R512 to R517, R519). -/
namespace Sys2Proof.Machine
open Sys2Proof

/-! ### The package in a bank (R512, R515) -/

/-- A package, or the part of it that is written: its 64-byte granules by number. -/
abbrev Package := Tab (List U8)

/-- One byte of a package; 0 where none was written. -/
def pkgByte (g : Package) (i : Nat) : U8 := (g.get [] (i / 64)).getD (i % 64) 0

/-- `n` bytes of a package. -/
def pkgRead (g : Package) (off n : Nat) : List U8 := (List.range n).map fun i => pkgByte g (off + i)

/-- A number of `n` bytes of a package. -/
def pkgNum (g : Package) (off n : Nat) : Nat := leVal (pkgRead g off n)

/-- Every byte below PACKAGE_BYTES was written. -/
def Update.whole (u : Update) : Bool :=
  (List.range (ceilDiv u.bytes 64)).all fun g => decide (min 64 (u.bytes - 64 * g) ≤ (u.granules.get [] g).length)

/-- A part entry (Table 15.11). -/
structure Part where
  type : Nat
  version : U16
  off : Nat
  bytes : Nat
  digest : List U8
  deriving DecidableEq, Repr

/-- The part entries of a manifest (Table 15.11). -/
def partsOf (g : Package) : List Part :=
  (List.range (pkgNum g 6 1)).map fun i =>
    let o := 0x40 + 64 * i
    ⟨pkgNum g o 1, BitVec.ofNat 16 (pkgNum g (o + 2) 2), pkgNum g (o + 4) 4, pkgNum g (o + 8) 4, pkgRead g (o + 0x10) 48⟩

/-- TYPEs rise. -/
def rising : List Part → Bool
  | a :: b :: t => decide (a.type < b.type) && rising (b :: t)
  | _ => true

/-- Two parts share no byte. -/
def apart (a b : Part) : Bool := decide (a.off + a.bytes ≤ b.off) || decide (b.off + b.bytes ≤ a.off)

/-- The manifest is well formed (R512, R513). -/
def manifestOk (g : Package) : Bool :=
  let ps := partsOf g
  pkgNum g 0 4 == 0x4D4F494D && pkgNum g 4 2 == 1 && inRange 1 8 (pkgNum g 6 1) && rising ps &&
  ([1, 2, 3, 5, 6, 7, 8].all fun t => ps.any fun p => p.type == t) &&
  (ps.all fun p => inRange 1 8 p.type && decide (p.off + p.bytes ≤ pkgNum g 12 4) && p.off % 4096 == 0 && decide (0x1000 ≤ p.off)) &&
  ps.zipIdx.all fun a => ps.zipIdx.all fun b => a.2 == b.2 || apart a.1 b.1

/-- Signature block 0 or 1 of a manifest signs its bytes 0x000 to 0x23F (R416). -/
def manifestSigned (g : Package) (k : Nat) : Bool := (readSig (pkgRead g 0 0x440) (0x240 + 0x100 * k)).signs (pkgRead g 0 0x240)

/-- The SHA-256 of the public key of a signature block of a manifest (R416). -/
def manifestKey (g : Package) (k : Nat) : List U8 := sha256 (readSig (pkgRead g 0 0x440) (0x240 + 0x100 * k)).key

/-- R416: the first signature verifies, under the key that the anchor in the boot ROM names. -/
def anchored (g : Package) : Bool := manifestSigned g 0 && manifestKey g 0 == be 32 Config.firmwareAnchor.toNat

/-- R416: where a slot carries USE_FIRMWARE, the second signature must verify under a key that such a slot authorises. -/
def State.coSigned (s : State) (g : Package) : Bool :=
  let able := ((List.range 32).filterMap fun n => match s.slotFor n with
    | .ok x => if x.may 3 then some x else none
    | .error _ => none)
  able.isEmpty || (manifestSigned g 1 && able.any fun x => x.value == manifestKey g 1)

/-- The first part, in the order of the entries, whose SHA-384 differs from its DIGEST: its TYPE (R502, R516). -/
def badPart (g : Package) : Option Nat :=
  ((partsOf g).find? fun p => sha384 (pkgRead g p.off p.bytes) != p.digest).map (·.type)

/-- REASON and PART: the first failure in the order of Table 15.13; 0 none. `readBack`: the flash reads back as programmed. -/
def State.updateReason (s : State) (readBack : Bool) : Nat × Nat :=
  let u := s.flash.update
  let g := u.granules
  if u.whole = false then (1, 0)
  else if pkgNum g 12 4 ≠ u.bytes then (2, 0)
  else if manifestOk g = false then (3, 0)
  else if anchored g = false then (4, 0)
  else if s.coSigned g = false then (5, 0)
  else match badPart g with
    | some t => (6, t)
    | none =>
      if s.sys.fuses.silicon.toNat < pkgNum g 7 1 then (7, 0)
      else if readBack = false then (8, 0) else (0, 0)

/-- FAILED_PART of a bank that the boot ROM tries (R502); none: it passes. What a bank holds that no update has written is the
integrator's: `found` says what the boot ROM finds there. -/
def State.bankCheck (s : State) (b : Fin 2) (found : Option U8) : Option U8 :=
  let g := s.flash.bank[b]
  if g = [] then found
  else if manifestOk g = false ∨ anchored g = false ∨ s.coSigned g = false ∨ s.sys.fuses.silicon.toNat < pkgNum g 7 1 then some 0
  else (badPart g).map (BitVec.ofNat 8)

/-- Bank `b` takes state `st` in the boot record (R514, R516). -/
def Flash.markBank (f : Flash) (b st : Nat) : Flash :=
  f.write fun r => { r with state := if b = 0 then r.state.set 0 st else r.state.set 1 st }

/-- The granules of a bank. -/
def Flash.setBank (f : Flash) (b : Nat) (g : Tab (List U8)) : Flash :=
  { f with bank := if b = 0 then f.bank.set 0 g else f.bank.set 1 g }

/-- An update is open: receiving or checking. -/
def Update.open_ (u : Update) : Bool := u.st == 1 || u.st == 2

/-! ### Commands (R514 to R517, R519) -/

/-- UPDATE_BEGIN (R503, R514). -/
def execUpdateBegin (q : Req) (s : State) : Host.Outcome State Fault Refusal :=
  .next (serve opUpdateBegin 4 q s fun s =>
    let n := rd q.payload 0 4
    let b := match s.flash.rec_ with
      | some r => 1 - r.active
      | none => 0
    require (!s.box.lock && decide (n ≤ 0x1E00000)) .denied
      (require (!s.flash.update.open_ && !s.flash.update.recording) .busy
        (let f := (s.flash.markBank b 0).setBank b []
         answer { s with flash := { f with update := { st := 1, bank := b, bytes := n, lastAt := s.now } } } [BitVec.ofNat 8 b])))

/-- The granules of a block: number and bytes. -/
def granulesOf (off : Nat) (b : List U8) : List (Nat × List U8) :=
  (List.range (ceilDiv b.length 64)).map fun i => (off / 64 + i, (b.drop (64 * i)).take 64)

/-- UPDATE_BLOCK (R515). -/
def execUpdateBlock (q : Req) (s : State) : Host.Outcome State Fault Refusal :=
  let off := rd q.payload 0 4
  let n := rd q.payload 4 2
  .next (serve opUpdateBlock (max 8 (needBulk q 8 n)) q s fun s =>
    let u := s.flash.update
    bulkLength q 8
      (require (!s.box.lock && inRange 1 (if q.bulk then 4096 else 4024) n && !(q.bulk && bulkDenied q 8 n s) &&
          off % 64 == 0 && (u.st != 1 || (decide (off + n ≤ u.bytes) && (n % 64 == 0 || off + n == u.bytes)))) .denied
        (require (u.st == 1) .notReady
          (withBulk q 8 n s fun b =>
            let gs := granulesOf off b
            let new := gs.filter fun g => u.granules.get [] g.1 == []
            require (gs.all fun g => u.granules.get [] g.1 == [] || u.granules.get [] g.1 == g.2) .denied
              (require (decide (64 * (u.buffered.length + new.length) ≤ 0x40000) || new.isEmpty) .busy
                (done { s with flash.update := { u with
                  granules := new.foldl (fun (t : Tab (List U8)) g => t.set [] g.1 g.2) u.granules
                  buffered := u.buffered ++ new.map (·.1), written := u.written + (new.map (·.2.length)).sum
                  lastAt := s.now } }))))))

/-- UPDATE_END: the checks begin once every buffered byte is programmed (R516). -/
def execUpdateEnd (q : Req) (s : State) : Host.Outcome State Fault Refusal :=
  .next (serve opUpdateEnd 0 q s fun s =>
    require (!s.box.lock) .denied
      (require (s.flash.update.st == 1) .notReady (done { s with flash.update.st := 2 })))

/-- UPDATE_STATUS (R519, Table 15.19). -/
def execUpdateStatus (q : Req) (s : State) : Host.Outcome State Fault Refusal :=
  .next (serve opUpdateStatus 0 q s fun s =>
    let u := s.flash.update
    let r := (s.flash.rec_).getD {}
    require (!s.box.lock) .denied
      (answer s (pack 24 [fN 0 1 u.st, fN 1 1 u.bank, fN 2 1 u.reason, fN 3 1 u.part, fN 4 4 u.bytes, fN 8 4 u.written,
        f32 12 u.version, fN 16 1 r.active, fB 17 0 r.trial, fN 18 1 r.trialBoots,
        f32 20 (if s.sys.boot.bank = 0 then r.version[0] else if s.sys.boot.bank = 1 then r.version[1] else 0)])))

/-- UPDATE_ACTIVATE: a boot-record write begins (R517). -/
def execUpdateActivate (q : Req) (s : State) : Host.Outcome State Fault Refusal :=
  .next (serve opUpdateActivate 0 q s fun s =>
    require (!s.box.lock) .denied
      (require (s.flash.update.st == 3) .notReady
        (require (!s.flash.update.recording) .busy (done { s with flash.update.recording := true }))))

/-- UPDATE_ABORT: an open or verified update closes, and its bank is empty (R517). -/
def execUpdateAbort (q : Req) (s : State) : Host.Outcome State Fault Refusal :=
  .next (serve opUpdateAbort 0 q s fun s =>
    let u := s.flash.update
    require (!s.box.lock) .denied
      (require (u.open_ || u.st == 3) .notReady
        (require (!u.recording) .busy
          (done { s with flash := { (s.flash.markBank u.bank 0).setBank u.bank [] with update := { bank := u.bank } } }))))

/-! ### Events -/

/-- FLASH_PROGRAM_COMPLETE: the buffered granules stand in the bank (R515). -/
def execFlashProgramComplete (dt : Nat) (s : State) : Host.Outcome State Fault Refusal :=
  let s := s.elapse dt
  let u := s.flash.update
  let bank := if u.bank = 0 then s.flash.bank[0] else s.flash.bank[1]
  let bank := u.buffered.foldl (fun (t : Tab (List U8)) g => t.set [] g (u.granules.get [] g)) bank
  .next (if u.open_ then { s with flash := { s.flash.setBank u.bank bank with update := { u with buffered := [] } } } else s)

/-- UPDATE_IDLE_TIMEOUT: an open update with no block for 600 s is abandoned with REASON 9 (R515). -/
def execUpdateIdleTimeout (dt : Nat) (s : State) : Host.Outcome State Fault Refusal :=
  let s := s.elapse dt
  let u := s.flash.update
  .next (if u.st = 1 ∧ s.fwExpired (u.lastAt + 600000000000) = true then
      { s with flash := { s.flash.setBank u.bank [] with update := { u with st := 4, reason := 9, buffered := [], granules := [] } } }
    else s)

/-- UPDATE_CHECK_COMPLETE: E124; a success leaves the bank valid, with its VERSION (R516). The operand is whether the flash reads
back as it was programmed. -/
def execUpdateCheckComplete (dt : Nat) (readBack : Bool) (s : State) : Host.Outcome State Fault Refusal :=
  let s := s.elapse dt
  let u := s.flash.update
  .next (if u.st ≠ 2 ∨ u.buffered ≠ [] then s
    else
      let r := s.updateReason readBack
      let ver : U32 := BitVec.ofNat 32 (pkgNum u.granules 8 4)
      let ok := r.1 == 0
      let f := if ok then s.flash.write fun x => { x with
          state := if u.bank = 0 then x.state.set 0 1 else x.state.set 1 1
          version := if u.bank = 0 then x.version.set 0 ver else x.version.set 1 ver }
        else s.flash
      let s := { s with flash := { f with update := { u with st := if ok then 3 else 4, reason := r.1, part := r.2, version := ver } } }
      s.raiseF 124 [fN 0 1 (if ok then 1 else 2), fN 1 1 u.bank, fN 2 1 r.1, fN 3 1 r.2, f32 4 ver])

/-- BOOT_RECORD_WRITE_COMPLETE: the activation record stands (R517). -/
def execBootRecordWriteComplete (dt : Nat) (s : State) : Host.Outcome State Fault Refusal :=
  let s := s.elapse dt
  let u := s.flash.update
  .next (if u.recording = false then s
    else
      let f := s.flash.write fun r => { r with active := u.bank, trial := true, trialBoots := 0 }
      { s with flash := { f with update := { u with st := 5, recording := false }, takeOther := true } })

end Sys2Proof.Machine
end

