-- ==== Sys2Proof/Machine/Boot.lean ====
section
/-! DEFINITION. Machine/Boot.lean: the end of a boot: bank choice, profile, settings, ready, the recovery ROM and the boot
watchdog (R4, R5, R497 to R504). -/
namespace Sys2Proof.Machine
open Sys2Proof

/-! ### Banks (R501, R502) -/

/-- The boot record in use; with no valid copy, bank A and then bank B are tried (R501). -/
def Flash.bootRec (f : Flash) : BootRec := (f.rec_).getD { state := #v[1, 1] }

/-- The ACTIVE bank. -/
def BootRec.bank (r : BootRec) : Fin 2 := if r.active = 1 then 1 else 0

/-- The other bank. -/
def otherBank (b : Fin 2) : Fin 2 := if b = 0 then 1 else 0

/-- A bank fails (R502): it is marked failed; the other, if it is valid, becomes ACTIVE with TRIAL clear, and boots if its own
checks pass (`ok`). -/
def Flash.bankFails (f : Flash) (b : Fin 2) (part : Nat) (ok : Bool) : Flash × Option (Fin 2) :=
  let o := otherBank b
  let r := f.bootRec
  if r.state[o] = 1 ∧ ok = true then
    ({ f.write (fun _ => { r with active := o.val, state := r.state.set b 2, trial := false, trialBoots := 0 }) with
       failed := some part }, some o)
  else
    let st := if r.state[o] = 1 then (r.state.set b 2).set o 2 else r.state.set b 2
    (f.write fun _ => { r with state := st }, none)

/-- The bank that boots; none: the recovery ROM runs (R498, R502, R503). -/
def State.chooseBank (s : State) (r : BootRead) : Flash × Option (Fin 2) :=
  let f := s.flash
  let check := fun b => s.bankCheck b r.fail[b]
  if 2 ≤ r.bootMode.val then (f, none)
  else
    let c := f.bootRec
    let b := c.bank
    let used := c.trial && decide (3 ≤ c.trialBoots)
    let f := if c.trial && !used then f.write fun _ => { c with trialBoots := c.trialBoots + 1 } else f
    match (if used then some (0xFF : U8) else check b) with
    | none => (f, some b)
    | some p => f.bankFails b p.toNat (check (otherBank b)).isNone

/-- The stored settings that a boot of a bank reads: on its first boot after an activation, those of the other (R504). -/
def Flash.settingsOf (f : Flash) (b : Fin 2) : Option Stored :=
  let at_ := if f.takeOther && f.bootRec.trial then otherBank b else b
  newerCopy (·.seq) f.stored[at_]

/-! ### Profile and settings (R4, R5, R479, R504) -/

/-- The defaults of a profile (Table 0.3); those of Profile V are the reset values. -/
def State.profileDefaults (s : State) (profile : U8) : State :=
  let s := { s with sys.boot.profile := profile }
  if profile = 1 then
    let v : GridVals := { s.grid.v with n := 60, d := 1 }
    { s with grid := { s.grid with v := v, tv := v, fp := v }, sh.house.cfg.pinEnable := false,
             radio.ri := s.radio.ri.map fun (r : Radio) => { r with cfg := { r.cfg with laurel := false } } }
  else s

/-- The primary transport the straps choose: SPI, never under Profile G (R436, Table 15.4). -/
def spiStrap (bootMode : Fin 4) (profile : U8) : Bool := bootMode.val % 2 == 1 && profile == 0

/-- Stored settings of the running format are applied; others are not, and E126 tells of them (R504). -/
def State.bootSettings (s : State) (x : Option Stored) : State :=
  match x with
  | none => s
  | some x =>
    if x.format = s.flash.format then (s.applySettings x).stationFloors
    else s.raiseF 126 [f16 0 x.format, f16 2 s.flash.format]

/-! ### Boxwood at start-up (R407, R424, R425) -/

/-- What Boxwood finds at start-up: a debug boot, a blank tamper domain, an alarm latched while off, unusable slots. -/
def State.bootBox (s : State) : State :=
  let s := if s.box.debugNext then State.raiseF { s with box.debugNext := false, sys.boot.debugBoot := true } 118 [] else s
  let s := if s.box.blank then State.raiseF { s with box.blank := false } 112 [fN 0 1 0, fN 1 1 0] else s
  (List.range 32).foldl (fun (s : State) n => s.raiseIf (s.slotSt n == 2) 114 [fN 0 1 n]) s.foundLatched

/-! ### Ready, recovery and secure hold (R497, R503, Table 12.9) -/

/-- The engine reports ready: E000, then the events raised before it; E125 first among them (R497, R502). -/
def State.reportReady (s : State) (bank : Fin 2) : State :=
  let early := s.mb.ev.early
  let s := { s with mb := { s.mb with engine := 2, ev := { s.mb.ev with early := [] } } }
  let s := s.raiseF 0 [f8 0 s.sys.boot.bootCause, f8 1 s.sys.boot.profile, fN 2 1 bank.val, fB 3 0 s.sys.boot.debugBoot, f32 4 s.sys.boot.fwVersion]
  let s := match s.flash.failed with
    | some p => s.raiseF 125 [fN 0 1 bank.val, fN 1 1 p]
    | none => s
  early.foldl (fun (s : State) e => State.raise { s with mb.ev.inCycle := 0 } e.1 e.2) s

/-- A boot after a trial is confirmed at ready (R502). -/
def Flash.confirm (f : Flash) : Flash :=
  let f := { f with takeOther := false }
  if f.bootRec.trial then f.write fun r => { r with trial := false, trialBoots := 0 } else f

/-- A boot of a bank reaches ready (R497): the profile's defaults, the stored settings, ready, span training. -/
def State.bootBank (s : State) (r : BootRead) (b : Fin 2) : State :=
  let x := s.flash.settingsOf b
  let g := s.flash.bank[b]
  let partVer : Vector U16 8 := .ofFn fun k =>
    (((partsOf g).find? fun p => p.type == k.val + 1).map (·.version)).getD (if g = [] then r.partVer[k] else 0)
  let s := { s with
    sys.boot := { s.sys.boot with
      bank := BitVec.ofNat 8 b.val, partVer := partVer, fwVersion := r.fwVersion
      radioMac := if g = [] then r.radioMac else (partsOf g).any fun p => p.type == 4 }
    radio.drivers := r.drivers
    flash.format := if g = [] then r.settingsFormat else BitVec.ofNat 16 (pkgNum g 0x10 2) }
  let s := s.bootBox.profileDefaults ((x.map (·.profile)).getD 0)
  let s := s.bootSettings x
  let s := { s with mb.spi := spiStrap r.bootMode s.sys.boot.profile, flash := s.flash.confirm }
  let s := s.houseChange fun h => { h with pin := !s.sys.houseN }
  (List.finRange 12).foldl State.beginAttempt (s.reportReady b)

/-- The recovery ROM runs (R503): no output is driven, ETH0 runs 1000BASE-X, and the stored address and key slot are used. -/
def State.recovery (s : State) (r : BootRead) : State :=
  let x := newerCopy (·.seq) s.flash.stored[s.flash.bootRec.bank]
  let profile := (x.map (·.profile)).getD 0
  let stored : Nat → List U8 := fun op => match x with
    | some x => x.payloads.get [] (op * 65536)
    | none => []
  let eth : EthCfg :=
    let p := stored opEthSet
    if p = [] then { mode := 3, ip := 0xA9FE6028, netmask := 0xFFFF0000 }
    else
      let c := ethCfg p
      { mode := 3, ip := c.ip, netmask := c.netmask, gateway := c.gateway, mgmtPort := c.mgmtPort }
  let s := if stored opUdpMbSet = [] then s else s.setUdp (stored opUdpMbSet)
  { s with mb.engine := 1, mb.spi := spiStrap r.bootMode profile, sys.boot.bank := 0xFF, sys.boot.profile := profile,
           ports.off := true, net.eth := s.net.eth.set 0 { s.net.eth[(0 : Fin 4)] with cfg := eth },
           spans := s.spans.map fun (x : Span) => { x with cfg := { x.cfg with mode := 0 } } }

/-- What the end of a boot does: secure hold where a tamper cause stands, else ready or the recovery ROM (R497 to R504). -/
def State.boot (s : State) (r : BootRead) : State :=
  let s := { s with sys.bootMode := BitVec.ofNat 8 r.bootMode.val }
  match s.box.cause 0 with
  | some cause => s.tamper cause
  | none =>
    let c := s.chooseBank r
    let s := { s with flash := c.1 }
    match c.2 with
    | some b => s.bootBank r b
    | none => s.recovery r

/-- BOOT_READY: the boot in progress ends; the operand is what it read of the flash and the straps (R497). -/
def execBootReady (dt : Nat) (r : BootRead) (s : State) : Host.Outcome State Fault Refusal :=
  let s := s.elapse dt
  .next (if s.mb.engine = 0 ∧ s.pwr.mode = .run ∧ s.sys.resetN = true then s.boot r else s)

/-- BOOT_WATCHDOG_EXPIRY: the engine is not ready 10 s after t0; its bank fails, and the boot begins again from the other bank
or ends in the recovery ROM (R502). -/
def execBootWatchdogExpiry (dt : Nat) (bootMode : Fin 4) (s : State) : Host.Outcome State Fault Refusal :=
  let s := s.elapse dt
  .next (if s.mb.engine = 0 ∧ s.pwr.mode = .run ∧ s.sys.resetN = true ∧ s.fwExpired (s.sys.bootAt + 10000000000) = true then
      let f := s.flash.bankFails s.flash.bootRec.bank 1 true
      let s := { s with flash := f.1 }
      match f.2 with
      | some _ => { s with sys.bootAt := s.now }
      | none => s.recovery { bootMode := bootMode, fail := .replicate 2 none, partVer := .replicate 8 0, settingsFormat := 0,
                             radioMac := false, fwVersion := 0, drivers := [] }
    else s)

end Sys2Proof.Machine
end

