-- ==== Sys2Proof/Machine/Frames.lean ====
section
/-! DEFINITION. Machine/Frames.lean: the frame boundary: tick 0 of a frame, and the settings that wait for it (R15, R39 to R45,
R52, R280, R304, R491). -/
namespace Sys2Proof.Machine
open Sys2Proof

/-- Pairs and radio interfaces whose bank is powered drive their pins again (R280, R491). -/
def State.pinsResume (s : State) : State :=
  let s := { s with ports.pair := s.ports.pair.map fun (x : Pair) => { x with undriven := false } }
  ((List.finRange 4).filter fun i => decide (1620 ≤ s.pwr.vddio[(⟨i.val / 2, by omega⟩ : Fin 2)])).foldl State.radioResume s

/-- E has come: the grid runs (R66). -/
def State.firstFrame (s : State) : State :=
  if s.running = true ∧ s.grid.cur = none ∧ (s.grid.v.p s.grid.v.n0 : Int) ≤ s.full then
    { s with grid.st := 2, grid.cur := some s.grid.v.n0, grid.tick := 0 }
  else s

/-- Settings accepted since the last boundary apply in the order of take-up (R15, R447). -/
def State.boundarySettings (s : State) : State :=
  s.mb.atBoundary.foldl State.applyBoundary { s with mb.atBoundary := [] }

/-- The cut-off lead K: in a running grid the recomputed value, else the lead of the domain as it stands (R45). Once a LATCH
of a swap's frames is in hand, its K serves those frames too (R78). -/
def State.boundaryLead (s : State) : State :=
  let k := if s.grid.st = 2 then s.grid.kNext.getD s.grid.k else s.domainLead s.others
  { s with grid.k := k, grid.kNext := none,
           grid.kFrom := s.grid.kFrom.filter fun e => decide (sdiff32 s.grid.nextLatch e.1 ≤ 0) }

/-- The epoch moves forward (R40). -/
def State.epochStep (s : State) : State :=
  match s.grid.cur with
  | some m => { s with grid := s.grid.moveEpoch m }
  | none => s

/-- What a frame boundary does, in order. -/
def State.frameBoundary (s : State) : State :=
  if s.grid.fbDue = false then s
  else
    let s := { s with grid.fbDue := false }
    let s := ((s.pinsResume.stopStep).firstFrame).boundarySettings
    let s := ((s.applyLeads.boundaryLead).epochStep).applyQuantum
    (List.finRange 4).foldl State.sacnTerminate s

/-- FRAME_BOUNDARY (R41). -/
def execFrameBoundary (dt : Nat) (s : State) : Host.Outcome State Fault Refusal := .next (s.elapse dt).frameBoundary

end Sys2Proof.Machine
end

