-- ==== Sys2Proof/Machine/House.lean ====
section
/-! DEFINITION. Machine/House.lean: HOUSE_N, the application of an assertion, and HOUSE messages (R94 to R98, R379). -/
namespace Sys2Proof.Machine
open Sys2Proof

/-- HOUSE_N has been low for PIN_FILTER_US (R95). -/
def State.houseAssert (s : State) : State :=
  let s := State.houseChange { s with sys.houseN := false } fun h => { h with pin := true }
  if s.sh.house.cfg.pinEnable then s.houseWake 3 else s

/-- HOUSE_N has been high for RELEASE_HOLD_MS (R97). -/
def State.houseRelease (s : State) : State :=
  State.houseChange { s with sys.houseN := true } fun h => { h with pin := false }

/-- The house values of newly covered groups go out for immediate application (R96, R160, R369). -/
def State.houseNow (s : State) (new : U32) : State :=
  let s := match s.gateImage with
    | none => s
    | some im =>
      let r := s.recomputeKin im
      r.1.immediateAll (fun f _ => inHouse new f) r.2.1 r.2.2 true
  s.laurelUrgent new

/-- R96: at the first tick boundary after an assertion, house values go out for immediate application, steps not latched are
made again (R160), Laurel zones are carried next (R369), and the engine's own assertion is flooded where FLOOD is set. -/
def State.houseApply (s : State) : State :=
  let h := s.sh.house
  if h.due = false ∨ h.tickCame = false then s
  else
    let new := h.mask &&& ~~~h.applied
    let own := h.own &&& ~~~h.ownApplied
    let s := { s with sh.house := { h with applied := h.applied ||| h.mask, ownApplied := h.own, due := false,
                                           tickCame := false } }
    let s := if new = 0 then s else s.houseNow new
    if h.cfg.flood ∧ own ≠ 0 then s.flood 0x0011 (houseMsg h.own) else s

/-- HOUSE_N_ASSERT (R95, R496). -/
def execHouseNAssert (dt : Nat) (s : State) : Host.Outcome State Fault Refusal := .next (s.elapse dt).houseAssert

/-- HOUSE_N_RELEASE (R97). -/
def execHouseNRelease (dt : Nat) (s : State) : Host.Outcome State Fault Refusal := .next (s.elapse dt).houseRelease

/-- HOUSE_ASSERT_APPLY (R96). -/
def execHouseAssertApply (dt : Nat) (s : State) : Host.Outcome State Fault Refusal := .next (s.elapse dt).houseApply

/-- A flooded HOUSE message of engine `src` (R96): an assertion gives its mask, a release ends it. -/
def House.take (h : House) (src : U32) (p : List U8) : House :=
  let mask := BitVec.ofNat 32 (rdBE p 0 4)
  let l := h.flooded.filter fun e => e.1 != src
  { h with flooded := if rdBE p 4 1 = 1 ∧ mask ≠ 0 then l ++ [(src, mask)] else l }

/-- A HOUSE message of the partner (R379): its mask is one further source, and no Privet source that a resync brought stands
beyond it. -/
def House.takePartner (h : House) (p : List U8) : House :=
  let mask := if rdBE p 4 1 = 1 then BitVec.ofNat 32 (rdBE p 0 4) else 0#32
  { h with partner := mask, privet := (h.privet.map fun e => (e.1, e.2 &&& mask)).filter fun e => e.2 != 0 }

/-- HOUSE_MSG: flooded, or from the partner over the pier link (R96, R379). -/
def execHouseMsg (dt : Nat) (span : Fin 12) (m : Msg) (s : State) : Host.Outcome State Fault Refusal :=
  .next ((s.elapse dt).consume span m fun s =>
    if m.dest = floodDest then s.houseChange fun h => h.take m.src m.payload
    else if s.paired ∧ m.src = s.pier.cfg.partnerId ∧ s.holds = false then s.houseChange fun h => h.takePartner m.payload
    else s)

end Sys2Proof.Machine
end

