-- ==== Sys2Proof/Machine/Links.lean ====
section
/-! DEFINITION. Machine/Links.lean: the blocks and timers of the link layer (R200 to R214). -/
namespace Sys2Proof.Machine
open Sys2Proof

/-- A codeword boundary: the first due block is sent (R202). -/
def execCodewordTransmit (dt : Nat) (sp : Fin 12) (s : State) : Host.Outcome State Fault Refusal :=
  .next ((s.elapse dt).codewordBoundary sp)

/-- A codeword sent with a block comes in; a block that is delivered takes its effect `f`. -/
def State.onBlock (s : State) (sp : Fin 12) (errs : List SymErr) (block : List U8) (f : State → State) : State :=
  let r := s.codewordIn sp block errs
  if r.2 then f r.1 else r.1

/-- The same of a block whose effect is that of a link that is up. -/
def State.onUp (s : State) (sp : Fin 12) (errs : List SymErr) (block : List U8) (f : State → State) : State :=
  s.onBlock sp errs block fun s => if s.links[sp].st = 2 then f s else s

/-- An IDLE block (R202). -/
def execIdleBlock (dt : Nat) (sp : Fin 12) (errs : List SymErr) (s : State) : Host.Outcome State Fault Refusal :=
  .next ((s.elapse dt).onBlock sp errs idleBytes fun s => s)

/-- A DATA block (R203, R206). -/
def execDataBlock (dt : Nat) (sp : Fin 12) (errs : List SymErr) (b : Block) (s : State) : Host.Outcome State Fault Refusal :=
  .next ((s.elapse dt).onUp sp errs (dataBytes b) fun s => s.dataBlock sp b)

/-- A CREDIT block (R204). -/
def execCreditBlock (dt : Nat) (sp : Fin 12) (errs : List SymErr) (freed : Vector U16 5) (s : State) : Host.Outcome State Fault Refusal :=
  .next ((s.elapse dt).onUp sp errs (blockBytes 2 0 false false (creditPayload freed)) fun s =>
    s.modLink sp fun l => { l with freedTx := freed }.stalls s.now)

/-- An ACK block (R206). -/
def execAckBlock (dt : Nat) (sp : Fin 12) (errs : List SymErr) (lseq : U16) (s : State) : Host.Outcome State Fault Refusal :=
  .next ((s.elapse dt).onUp sp errs (blockBytes 3 0 false false (be 2 lseq.toNat)) fun s =>
    s.modLink sp fun l => l.ack lseq s.now)

/-- A NAK block (R206). -/
def execNakBlock (dt : Nat) (sp : Fin 12) (errs : List SymErr) (lseq : U16) (s : State) : Host.Outcome State Fault Refusal :=
  .next ((s.elapse dt).onUp sp errs (blockBytes 4 0 false false (be 2 lseq.toNat)) fun s => s.vc1Resend sp (some lseq))

/-- A TIME block (R213). -/
def execTimeBlock (dt : Nat) (sp : Fin 12) (errs : List SymErr) (t : TimeBlock) (s : State) : Host.Outcome State Fault Refusal :=
  .next ((s.elapse dt).onUp sp errs (blockBytes 5 0 false false t.payload) fun s => s.timeBlock sp t)

/-- A HELLO block (R200). -/
def execHelloBlock (dt : Nat) (sp : Fin 12) (errs : List SymErr) (h : Hello) (s : State) : Host.Outcome State Fault Refusal :=
  .next ((s.elapse dt).onBlock sp errs (blockBytes 6 0 false false h.payload) fun s => s.helloBlock sp h)

/-- A block of reserved TYPE is discarded and counted (R201); what it carries is nothing to the engine, and the operand `errs` is
taken against one of TYPE 7 with an empty payload. -/
def execReservedBlock (dt : Nat) (sp : Fin 12) (errs : List SymErr) (s : State) : Host.Outcome State Fault Refusal :=
  .next ((s.elapse dt).onBlock sp errs (blockBytes 7 0 false false []) fun s =>
    s.modLink sp fun l => { l with badBlocks := l.badBlocks.inc })

/-- A CREDIT block falls due (R204). -/
def execCreditSendDue (dt : Nat) (sp : Fin 12) (s : State) : Host.Outcome State Fault Refusal :=
  let s := s.elapse dt
  .next (if s.links[sp].st = 2 then s.modLink sp fun l =>
      if s.cycExpired (l.creditAt + 10000) then { l with creditDue := true } else l else s)

/-- A HELLO falls due every 100 us (R202), on a link that is up or a span that has passed LOCK (Table 7.5). -/
def execHelloDue (dt : Nat) (sp : Fin 12) (s : State) : Host.Outcome State Fault Refusal :=
  let s := s.elapse dt
  let x := s.spans[sp]
  .next (if (s.links[sp].st = 2 ∧ s.cycExpired (s.links[sp].helloAt + 100000) = true) ∨
      ((x.st = 2 ∨ x.st = 7) ∧ x.train.step = 9) then s.modLink sp fun l => { l with helloDue := true }
    else s)

/-- 16 ticks have passed since a TIME block was last due on the span; the first falls due once the link is up (R212). -/
def State.timeBlockDue (s : State) (sp : Fin 12) : Bool :=
  let l := s.links[sp]
  l.st == 2 && l.cfg.timeEn && (match l.timeAt with
    | some t => decide (t + s.grid.ticksNs 16 ≤ s.now)
    | none => true)

/-- A TIME block falls due, every 16 ticks (R212). -/
def execTimeBlockDue (dt : Nat) (sp : Fin 12) (s : State) : Host.Outcome State Fault Refusal :=
  let s := s.elapse dt
  .next (if s.timeBlockDue sp then s.modLink sp fun l => { l with timeDue := true, timeAt := some s.now } else s)

/-- A channel has waited CREDIT_STALL_US without credit (R205). -/
def execCreditStallTimeout (dt : Nat) (sp : Fin 12) (vc : Fin 5) (s : State) : Host.Outcome State Fault Refusal :=
  let s := s.elapse dt
  .next (match s.links[sp].stall[vc] with
    | none => s
    | some t =>
      if s.links[sp].stalled[vc] = false ∧ s.cycExpired (t + s.tre.cfg.creditStallUs.toNat * 1000) = true then
        (s.modLink sp fun l => { l with stalled := l.stalled.set vc true, creditStalls := l.creditStalls.inc }).raiseF 70
          [fN 0 1 sp.val, fN 1 1 vc.val]
      else s)

/-- A stall on VC0 or VC1 has lasted 1 ms (R205). -/
def execCreditStallLinkDown (dt : Nat) (sp : Fin 12) (vc : Fin 2) (s : State) : Host.Outcome State Fault Refusal :=
  let s := s.elapse dt
  .next (match (s.links[sp].stall.toList.getD vc.val none) with
    | none => s
    | some t => if s.cycExpired (t + 1000000) then s.linkDown sp 3 else s)

/-- ACK_TIMEOUT_US has passed for the oldest block (R206). -/
def execAckTimeout (dt : Nat) (sp : Fin 12) (s : State) : Host.Outcome State Fault Refusal :=
  let s := s.elapse dt
  .next (if s.links[sp].replay ≠ [] ∧ s.cycExpired (s.links[sp].ackWait + s.tre.cfg.ackTimeoutUs.toNat * 1000) = true then
      s.vc1Resend sp none
    else s)

/-- No codeword has passed FEC for 2 us, a calibration gap apart (R200, R259). -/
def execFecFailTimeout (dt : Nat) (sp : Fin 12) (s : State) : Host.Outcome State Fault Refusal :=
  let s := s.elapse dt
  let inGap := match s.spans[sp].gapRx with
    | some (.open_ t) => decide (s.now < t + 8000)
    | _ => false
  .next (if inGap = false ∧ s.fwExpired (s.links[sp].fecAt + 2000) = true then s.linkDown sp 2 else s)

end Sys2Proof.Machine
end

