-- ==== Sys2Proof/Machine/System.lean ====
section
/-! DEFINITION. Machine/System.lean: the system and diagnostic commands (R476 to R484). -/
namespace Sys2Proof.Machine
open Sys2Proof

/-! ### Identity and status (R476, R477) -/

/-- SYS_INFO (Table 14.5). -/
def execSysInfo (q : Req) (s : State) : Host.Outcome State Fault Refusal :=
  .next (serve opSysInfo 0 q s fun s =>
    let y := s.sys
    answer s (pack 48 ([fN 0 4 0x00009640, f8 4 y.fuses.grade, f8 5 y.fuses.silicon, f8 6 y.boot.profile, f8 7 y.boot.bank, f32 8 s.tre.nodeId,
      f32 12 y.boot.fwVersion] ++ ((List.finRange 8).map fun k => f16 (16 + 2 * k.val) y.boot.partVer[k]) ++
      [f64 32 y.fuses.serial, f8 40 y.boot.bootCause, f8 41 s.mb.engine, fB 42 0 y.boot.debugBoot, fN 44 4 ((s.now - y.bootAt) / 1000000000)])))

/-- SYS_STATUS (Table 14.6). -/
def execSysStatus (q : Req) (s : State) : Host.Outcome State Fault Refusal :=
  .next (serve opSysStatus 0 q s fun s =>
    answer s (pack 24 [fN 0 1 (if s.pwr.mode = .standby then 1 else 0), fN 1 1 s.grid.st, fN 2 1 s.pier.st,
      fN 3 1 s.pwr.thermal.level, fN 4 1 s.ks.st.code, fB 5 0 s.box.lock, fB 5 1 (s.sh.house.mask != 0),
      fB 5 2 (s.ks.faultHold || s.ks.faultOffset), fB 5 3 s.sh.active.isSome, fN 6 2 s.mb.ev.unread.length,
      f32 8 s.grid.lastFrameNo, fN 12 3 s.grid.slip, f32 16 s.mb.ev.lost]))

/-! ### Reset and stored settings (R478, R479) -/

/-- SYS_RESET: accepted; what follows the response is `State.afterResponse` (R478). -/
def execSysReset (q : Req) (s : State) : Host.Outcome State Fault Refusal :=
  .next (serve opSysReset 4 q s fun s =>
    require (p16 q.payload 0 == 0x5345) .denied (.ok { st := s, post := some (opSysReset, []) }))

/-- SYS_RESET_EXECUTE: the engine resets itself as if RESET_N were asserted; a boot-record write completes first (R478,
R517). -/
def execSysResetExecute (dt : Nat) (s : State) : Host.Outcome State Fault Refusal :=
  let s := s.elapse dt
  .next (match s.sys.reset with
    | .at t => if t ≤ s.now ∧ s.flash.update.recording = false then s.reborn 2 else s
    | _ => s)

/-- SETTINGS_SAVE (R479). -/
def execSettingsSave (q : Req) (s : State) : Host.Outcome State Fault Refusal :=
  .next (serve opSettingsSave 4 q s fun s =>
    let next := (p8 q.payload 0).toNat
    let erase := pbit q.payload 1 0
    let b : Fin 2 := if s.sys.boot.bank = 1 then 1 else 0
    require (decide (next ≤ 2)) .denied
      (let s := s.saveSettings b next erase
       let seq : U32 := match newerCopy (·.seq) s.flash.stored[b] with
         | some x => x.seq
         | none => 0
       answer (s.raiseF 1 [f32 0 seq, fN 4 1 next, fB 5 0 erase]) (pack 4 [f32 0 seq])))

/-! ### Diagnostics (R481 to R483) -/

/-- DIAG_ECHO (R481). -/
def execDiagEcho (q : Req) (s : State) : Host.Outcome State Fault Refusal :=
  .next (serve opDiagEcho 0 q s fun s =>
    require (decide (q.payload.length ≤ 3008)) .badLength (answer s q.payload))

/-- DIAG_PIN_READ (R481): levels that nothing in the engine decides are free. -/
def execDiagPinRead (q : Req) (s : State) : Host.Outcome State Fault Refusal :=
  .next (serve opDiagPinRead 0 q s fun s =>
    let out : Bool := match s.pier.actOut with
      | some b => b
      | none => Config.pinLevel (s.fresh + 1)
    let data := pack 16 [fB 0 0 s.sys.houseN, fB 0 1 s.pier.actIn, fB 0 2 out, fB 0 3 (!s.eventNAsserted), fB 0 4 s.tc.ppsIn,
      fB 0 5 s.tc.frameRefIn, fB 0 6 s.tc.ltcInLevel, fN 1 1 (s.sys.bootMode.toNat % 4 + 4 * (s.sys.radioIrq.toNat % 16)),
      f64 4 (Config.portLevels s.fresh)]
    answer s.draw.draw data)

/-- DIAG_SELFTEST (R482, R483). -/
def execDiagSelftest (q : Req) (s : State) : Host.Outcome State Fault Refusal :=
  .next (serve opDiagSelftest 8 q s fun s =>
    let tests := pbits q.payload 0 0 4
    require (decide (tests ≠ 0)) .denied
      (require (!s.running) .notReady
        (require s.sys.selfTest.isNone .busy
          (done { s with sys.selfTest := some { tests := BitVec.ofNat 8 tests, tag := p32 q.payload 4 } }))))

/-- The Deck test has run: the pixel and parameter regions are zero, and the show-image region was read once (R482). -/
def State.deckTested (s : State) : State :=
  let d := (s.deck.clear 0 0x0C000000).clear 0x0F000000 0x01000000
  State.deckRead { s with deck := { d with valid := .replicate 2 [], nextFrame := none } } s.sched.gateFrame 0x0C000000 0x03000000 10

/-- SELFTEST_COMPLETE: E002, and cores that failed are excluded (R134, R482). `failed`: the tests that failed, of those run;
`first`: a Deck byte address or a core; `cores`: the cores that failed. -/
def execSelftestComplete (dt : Nat) (failed : BitVec 4) (first : U32) (cores : List (Fin 64)) (s : State) :
    Host.Outcome State Fault Refusal :=
  let s := s.elapse dt
  .next (match s.sys.selfTest with
    | none => s
    | some t =>
      let s := { s with sys.selfTest := none }
      let s := if t.tests.getLsbD 0 then s.deckTested else s
      let s := if t.tests.getLsbD 1 ∧ failed.getLsbD 1 then
          cores.foldl (fun (s : State) k => s.excludeCore k s.grid.lastFrameNo) s else s
      s.raiseF 2 [f32 0 t.tag, f8 4 t.tests, fN 5 1 (failed.toNat &&& t.tests.toNat), f32 8 first])

/-- DIAG_EVENT_RAISE: E003 with the 16 bytes given (R481). -/
def execDiagEventRaise (q : Req) (s : State) : Host.Outcome State Fault Refusal :=
  .next (serve opDiagEventRaise 16 q s fun s => done (s.raise 3 (bytesAt q.payload 0 16)))

/-! ### Fault injection (R484, Table 14.9) -/

/-- A double-bit error: the stored word is not what was written, and stays uncorrected (R171). -/
def Deck.flipWord (d : Deck) (a : Nat) : Deck :=
  let w := leVal (d.mem.reads 0 a 8) ^^^ (Config.flipMask (a / 8)).toNat
  { d with mem := d.mem.writes 0 a (le 8 w), ecc := d.ecc.set 0 (a / 8) 2 }

/-- ARG and COUNT lie in the range of their KIND (Table 14.9). -/
def injectOk (kind count arg : Nat) : Bool :=
  match kind with
  | 1 => decide (arg < 0x10000000) && arg % 8 == 0
  | 2 => decide (arg < 0x10000000) && arg % 8 == 0
  | 3 => decide (arg < 64)
  | 4 => arg == 0
  | 5 => inRange 1 6 arg && inRange 1 255 count
  | 6 => decide (arg < 4096)
  | _ => false

/-- The injection of a KIND (Table 14.9). -/
def State.inject (s : State) (kind count arg : Nat) (apply : U32) : State :=
  match kind with
  | 1 => if s.deck.ecc.get 0 (arg / 8) = 0 then { s with deck.ecc := s.deck.ecc.set 0 (arg / 8) 1 } else s
  | 2 => { s with deck := s.deck.flipWord arg }
  | 3 => { s with sys.inject := { s.sys.inject with core := ⟨arg % 64, Nat.mod_lt _ (by decide)⟩ :: s.sys.inject.core } }
  | 4 => { s with sys.inject := { s.sys.inject with digest := apply :: s.sys.inject.digest } }
  | 5 => { s with sys.inject := { s.sys.inject with check := s.sys.inject.check ++ [{ code := arg, first := apply, count := count }] } }
  | _ => { s with sys.inject := { s.sys.inject with flow := (BitVec.ofNat 16 arg, apply) :: s.sys.inject.flow } }

/-- DIAG_FAULT_INJECT (R484): E008 reports each. -/
def faultInject (q : Req) (s : State) : State :=
  serve opDiagFaultInject 20 q s fun s =>
    let p := q.payload
    let kind := (p8 p 4).toNat
    let count := (p8 p 5).toNat
    let arg := rd p 8 4
    let apply := p32 p 12
    require (p32 p 0 == 0x4A4E4946 && injectOk kind count arg && s.mb.ch[q.ch].bind == 0) .denied
      (require (!(decide (4 ≤ kind) && s.running && s.changeLate apply)) .late
        (done ((s.inject kind count arg apply).raiseF 8 [fN 0 1 kind, fN 4 4 arg, f32 8 apply])))

/-- KIND 1. -/
def execFaultInjectDeckSingle (q : Req) (s : State) : Host.Outcome State Fault Refusal := .next (faultInject q s)

/-- KIND 2. -/
def execFaultInjectDeckDouble (q : Req) (s : State) : Host.Outcome State Fault Refusal := .next (faultInject q s)

/-- KIND 3. -/
def execFaultInjectCore (q : Req) (s : State) : Host.Outcome State Fault Refusal := .next (faultInject q s)

/-- KIND 4. -/
def execFaultInjectDigest (q : Req) (s : State) : Host.Outcome State Fault Refusal := .next (faultInject q s)

/-- KIND 5. -/
def execFaultInjectCheck (q : Req) (s : State) : Host.Outcome State Fault Refusal := .next (faultInject q s)

/-- KIND 6. -/
def execFaultInjectFlowTrap (q : Req) (s : State) : Host.Outcome State Fault Refusal := .next (faultInject q s)

end Sys2Proof.Machine
end

