-- ==== Sys2Proof/Machine/Tasks.lean ====
section
/-! DEFINITION. Machine/Tasks.lean: the course of a frame's tasks, its commit, and the activation of an image (R81 to R84,
R100, R123, R127, R133, R134). -/
namespace Sys2Proof.Machine
open Sys2Proof

/-- TASK_DISPATCH: one cycle of an issue port (R112, R125, R127, R175). -/
def execTaskDispatch (dt : Nat) (port : Fin 4) (s : State) : Host.Outcome State Fault Refusal :=
  .next ((s.elapse dt).dispatch port)

/-- TASK_END: a program returns, and what it wrote stands (R81, R111, R114, R123). -/
def execTaskEnd (dt : Nat) (n : Fin 8192) (s : State) : Host.Outcome State Fault Refusal :=
  .next ((s.elapse dt).taskEnd n)

/-- TASK_TRAP: a program traps (R84). -/
def execTaskTrap (dt : Nat) (n : Fin 8192) (s : State) : Host.Outcome State Fault Refusal :=
  let s := s.elapse dt
  .next (if (s.sched.at n).st = TaskState.running ∧ s.loaded (s.sched.at n) = true then (s.trap n 1).renderCheck else s)

/-- The run limit of a task has passed; an end in the same scheduler cycle stands (R6, R133). -/
def State.overran (s : State) (n : Nat) : Bool :=
  let d := s.sched.at n
  let limit := s.sched.cfg.runLimitUs.toNat
  let k : Fin 64 := ⟨d.core.toNat, d.core.isLt⟩
  d.st == .running && limit != 0 && s.schedExpired (s.sched.cores[k].startedAt + limit * 1000)

/-- TASK_WATCHDOG_EXPIRY: E041 beside E039; a frame it touches is marked (R84, R133, R381). -/
def execTaskWatchdogExpiry (dt : Nat) (n : Fin 8192) (s : State) : Host.Outcome State Fault Refusal :=
  let s := s.elapse dt
  .next (if s.overran n then
      let d := s.sched.at n
      let s := State.raiseF { s with sched.watchdog := s.sched.watchdog.inc } 41
        [fN 0 2 d.flow.toNat, fN 2 1 d.core.toNat, f32 4 d.frame]
      let s := if d.source = 1 then s else s.flagFrame d.frame 0
      (s.trap n 2).renderCheck
    else s)

/-- CORE_MEMORY_ECC_ERROR: corrected and counted, or the core is excluded and its task traps (R134). -/
def execCoreMemoryEccError (dt : Nat) (core : Fin 64) (double : Bool) (s : State) : Host.Outcome State Fault Refusal :=
  let s := s.elapse dt
  let k := s.sched.cores[core]
  .next (if !double then
      { s with sched.cores := s.sched.cores.set core { k with correctedErrors := k.correctedErrors.inc } }
    else match k.task with
      | some n => ((s.excludeCore core (s.sched.at n).frame).trap n 3).renderCheck
      | none => s.excludeCore core s.sched.gateFrame)

/-- FRAME_COMMIT (R47, R48, R83). -/
def execFrameCommit (dt : Nat) (s : State) : Host.Outcome State Fault Refusal := .next (s.elapse dt).commitStep

/-- HEDGEROW_RELEASE (R83). -/
def execHedgerowRelease (dt : Nat) (s : State) : Host.Outcome State Fault Refusal := .next (s.elapse dt).hedgerowRelease

/-! ### SHOW_ACTIVATE (R100, R172) -/

/-- The first frame whose render start leaves 2 ms (R100). -/
def State.firstActivation (s : State) : U32 :=
  let m := s.grid.nextRender
  let ok := fun (x : U32) => decide ((s.full : Int) + 2000000 ≤ s.grid.s x)
  ((List.range 16).map fun i => m + BitVec.ofNat 32 i).find? ok |>.getD (m + 16)

/-- SHOW_ACTIVATE (R100, R172, R482). With the grid stopped the image becomes active at once. DESIGN CHOICE: a second one
before the first's frame takes its place (log entry 114). -/
def execShowActivate (q : Req) (s : State) : Host.Outcome State Fault Refusal :=
  .next (serve opShowActivate 4 q s fun s =>
    let f := p32 q.payload 0
    let v := s.grid.v
    let im := if s.sh.staged.st = 3 then s.sh.staged.image else none
    let px := (im.map (·.pixelCount)).getD 0
    require (decide (px ≤ pixelCapacity v.n v.d) &&
        !(f == 0xFFFFFFFF && s.running && (s.paired || !s.others.isEmpty))) .denied <|
      match im with
      | none => .error .notReady
      | some im =>
        require (!s.deckTest) .busy <|
          if s.running then
            let m := if f = 0xFFFFFFFF then s.firstActivation else f
            require (decide (0 ≤ sdiff32 m s.grid.nextRender) && decide ((s.full : Int) + 2000000 ≤ s.grid.s m)) .late
              (done { s with sh.next := some (im, m) })
          else done (s.activateNow im))

end Sys2Proof.Machine
end

