-- ==== Sys2Proof/Machine/Dispatch.lean ====
section
/-! DEFINITION. Machine/Dispatch.lean: the meaning of every command, one arm per constructor of Instr. -/
namespace Sys2Proof.Machine
open Sys2Proof

/-- A command's effect on everything but the queue. -/
def exec (i : Instr) (s : State) : Host.Outcome State Fault Refusal :=
  match i with
  | .sysInfo q => Sys2Proof.Machine.execSysInfo q s
  | .sysStatus q => Sys2Proof.Machine.execSysStatus q s
  | .sysReset q => Sys2Proof.Machine.execSysReset q s
  | .sysResetExecute dt => Sys2Proof.Machine.execSysResetExecute dt s
  | .settingsSave q => Sys2Proof.Machine.execSettingsSave q s
  | .eventRead q => Sys2Proof.Machine.execEventRead q s
  | .mbConfig q => Sys2Proof.Machine.execMbConfig q s
  | .mbStatus q => Sys2Proof.Machine.execMbStatus q s
  | .eventSet q => Sys2Proof.Machine.execEventSet q s
  | .transportStatus q => Sys2Proof.Machine.execTransportStatus q s
  | .udpMbSet q => Sys2Proof.Machine.execUdpMbSet q s
  | .relay q => Sys2Proof.Machine.execRelay q s
  | .timeGet q => Sys2Proof.Machine.execTimeGet q s
  | .servoSet q => Sys2Proof.Machine.execServoSet q s
  | .clockModelSet q => Sys2Proof.Machine.execClockModelSet q s
  | .timeStep q => Sys2Proof.Machine.execTimeStep q s
  | .gridSetStart q => Sys2Proof.Machine.execGridSetStart q s
  | .gridSetChange q => Sys2Proof.Machine.execGridSetChange q s
  | .gridSetStop q => Sys2Proof.Machine.execGridSetStop q s
  | .gridGet q => Sys2Proof.Machine.execGridGet q s
  | .slotArm q => Sys2Proof.Machine.execSlotArm q s
  | .slotCancel q => Sys2Proof.Machine.execSlotCancel q s
  | .slotStatus q => Sys2Proof.Machine.execSlotStatus q s
  | .timecodeSet q => Sys2Proof.Machine.execTimecodeSet q s
  | .ppsInEdge dt => Sys2Proof.Machine.execPpsInEdge dt s
  | .frameRefInEdge dt => Sys2Proof.Machine.execFrameRefInEdge dt s
  | .ltcInSyncWord dt h m sec f user => Sys2Proof.Machine.execLtcInSyncWord dt h m sec f user s
  | .sourceLossTimeout dt code => Sys2Proof.Machine.execSourceLossTimeout dt code s
  | .holdoverLimitExpiry dt => Sys2Proof.Machine.execHoldoverLimitExpiry dt s
  | .ref10mLoss dt => Sys2Proof.Machine.execRef10mLoss dt s
  | .ref10mReturn dt => Sys2Proof.Machine.execRef10mReturn dt s
  | .tickBoundary dt => Sys2Proof.Machine.execTickBoundary dt s
  | .frameBoundary dt => Sys2Proof.Machine.execFrameBoundary dt s
  | .presentationInstant dt => Sys2Proof.Machine.execPresentationInstant dt s
  | .slotFire dt => Sys2Proof.Machine.execSlotFire dt s
  | .ppsOutPulse dt => Sys2Proof.Machine.execPpsOutPulse dt s
  | .ltcOutFrame dt => Sys2Proof.Machine.execLtcOutFrame dt s
  | .renderStart dt => Sys2Proof.Machine.execRenderStart dt s
  | .renderStallTimeout dt => Sys2Proof.Machine.execRenderStallTimeout dt s
  | .slipLimitStop dt => Sys2Proof.Machine.execSlipLimitStop dt s
  | .descriptorAlloc dt => Sys2Proof.Machine.execDescriptorAlloc dt s
  | .taskEntry dt => Sys2Proof.Machine.execTaskEntry dt s
  | .taskDispatch dt port => Sys2Proof.Machine.execTaskDispatch dt port s
  | .affinityWaitExpiry dt n => Sys2Proof.Machine.execAffinityWaitExpiry dt n s
  | .taskEnd dt n => Sys2Proof.Machine.execTaskEnd dt n s
  | .taskTrap dt n => Sys2Proof.Machine.execTaskTrap dt n s
  | .taskWatchdogExpiry dt n => Sys2Proof.Machine.execTaskWatchdogExpiry dt n s
  | .coreMemoryEccError dt core double => Sys2Proof.Machine.execCoreMemoryEccError dt core double s
  | .sourceHoldEvent dt src => Sys2Proof.Machine.execSourceHoldEvent dt src s
  | .cmuPassComplete dt => Sys2Proof.Machine.execCmuPassComplete dt s
  | .kineticPassComplete dt => Sys2Proof.Machine.execKineticPassComplete dt s
  | .frameCommit dt => Sys2Proof.Machine.execFrameCommit dt s
  | .hedgerowRelease dt => Sys2Proof.Machine.execHedgerowRelease dt s
  | .showLoadBegin q => Sys2Proof.Machine.execShowLoadBegin q s
  | .showLoadBlock q => Sys2Proof.Machine.execShowLoadBlock q s
  | .showLoadEnd q => Sys2Proof.Machine.execShowLoadEnd q s
  | .imageChecksComplete dt => Sys2Proof.Machine.execImageChecksComplete dt s
  | .blobWaitExpiry dt => Sys2Proof.Machine.execBlobWaitExpiry dt s
  | .showActivate q => Sys2Proof.Machine.execShowActivate q s
  | .showUnloadStaged q => Sys2Proof.Machine.execShowUnloadStaged q s
  | .showUnloadActive q => Sys2Proof.Machine.execShowUnloadActive q s
  | .showStatus q => Sys2Proof.Machine.execShowStatus q s
  | .cueGo q => Sys2Proof.Machine.execCueGo q s
  | .cueListStatus q => Sys2Proof.Machine.execCueListStatus q s
  | .tapSet q => Sys2Proof.Machine.execTapSet q s
  | .tapRead q => Sys2Proof.Machine.execTapRead q s
  | .houseSet q => Sys2Proof.Machine.execHouseSet q s
  | .triggerMsg dt span m => Sys2Proof.Machine.execTriggerMsg dt span m s
  | .aes67Packet dt p => Sys2Proof.Machine.execAes67Packet dt p s
  | .tapWindowClose dt k => Sys2Proof.Machine.execTapWindowClose dt k s
  | .houseNAssert dt => Sys2Proof.Machine.execHouseNAssert dt s
  | .houseNRelease dt => Sys2Proof.Machine.execHouseNRelease dt s
  | .houseAssertApply dt => Sys2Proof.Machine.execHouseAssertApply dt s
  | .houseMsg dt span m => Sys2Proof.Machine.execHouseMsg dt span m s
  | .schedConfig q => Sys2Proof.Machine.execSchedConfig q s
  | .schedStatus q => Sys2Proof.Machine.execSchedStatus q s
  | .schedCounters q => Sys2Proof.Machine.execSchedCounters q s
  | .schedTaskRead q => Sys2Proof.Machine.execSchedTaskRead q s
  | .schedCores q => Sys2Proof.Machine.execSchedCores q s
  | .cmuConfig q => Sys2Proof.Machine.execCmuConfig q s
  | .cmuStatus q => Sys2Proof.Machine.execCmuStatus q s
  | .loopResetIntegrators q => Sys2Proof.Machine.execLoopResetIntegrators q s
  | .loopDisable q => Sys2Proof.Machine.execLoopDisable q s
  | .loopEnable q => Sys2Proof.Machine.execLoopEnable q s
  | .loopRead q => Sys2Proof.Machine.execLoopRead q s
  | .fixtureSolveRead q => Sys2Proof.Machine.execFixtureSolveRead q s
  | .kineticStopHold q => Sys2Proof.Machine.execKineticStopHold q s
  | .kineticStopBlackout q => Sys2Proof.Machine.execKineticStopBlackout q s
  | .kineticStopRelease q => Sys2Proof.Machine.execKineticStopRelease q s
  | .kineticRead q => Sys2Proof.Machine.execKineticRead q s
  | .kineticStopStep dt => Sys2Proof.Machine.execKineticStopStep dt s
  | .deckScrubRead dt => Sys2Proof.Machine.execDeckScrubRead dt s
  | .deckStatus q => Sys2Proof.Machine.execDeckStatus q s
  | .ingestSet q => Sys2Proof.Machine.execIngestSet q s
  | .ingestStatus q => Sys2Proof.Machine.execIngestStatus q s
  | .st2110Packet dt p => Sys2Proof.Machine.execSt2110Packet dt p s
  | .rasterSet q => Sys2Proof.Machine.execRasterSet q s
  | .layerSet q => Sys2Proof.Machine.execLayerSet q s
  | .rasterCommit q => Sys2Proof.Machine.execRasterCommit q s
  | .rasterStatus q => Sys2Proof.Machine.execRasterStatus q s
  | .rasterStart dt re => Sys2Proof.Machine.execRasterStart dt re s
  | .rasterLine dt re under bad => Sys2Proof.Machine.execRasterLine dt re under bad s
  | .verticalBlankingStart dt re => Sys2Proof.Machine.execVerticalBlankingStart dt re s
  | .codewordTransmit dt sp => Sys2Proof.Machine.execCodewordTransmit dt sp s
  | .idleBlock dt sp errs => Sys2Proof.Machine.execIdleBlock dt sp errs s
  | .dataBlock dt sp errs b => Sys2Proof.Machine.execDataBlock dt sp errs b s
  | .creditBlock dt sp errs freed => Sys2Proof.Machine.execCreditBlock dt sp errs freed s
  | .ackBlock dt sp errs lseq => Sys2Proof.Machine.execAckBlock dt sp errs lseq s
  | .nakBlock dt sp errs lseq => Sys2Proof.Machine.execNakBlock dt sp errs lseq s
  | .timeBlock dt sp errs t => Sys2Proof.Machine.execTimeBlock dt sp errs t s
  | .helloBlock dt sp errs h => Sys2Proof.Machine.execHelloBlock dt sp errs h s
  | .reservedBlock dt sp errs => Sys2Proof.Machine.execReservedBlock dt sp errs s
  | .creditSendDue dt sp => Sys2Proof.Machine.execCreditSendDue dt sp s
  | .helloDue dt sp => Sys2Proof.Machine.execHelloDue dt sp s
  | .timeBlockDue dt sp => Sys2Proof.Machine.execTimeBlockDue dt sp s
  | .creditStallTimeout dt sp vc => Sys2Proof.Machine.execCreditStallTimeout dt sp vc s
  | .creditStallLinkDown dt sp vc => Sys2Proof.Machine.execCreditStallLinkDown dt sp vc s
  | .ackTimeout dt sp => Sys2Proof.Machine.execAckTimeout dt sp s
  | .fecFailTimeout dt sp => Sys2Proof.Machine.execFecFailTimeout dt sp s
  | .latchMsg dt span m => Sys2Proof.Machine.execLatchMsg dt span m s
  | .reportMsg dt span m => Sys2Proof.Machine.execReportMsg dt span m s
  | .latchIssue dt => Sys2Proof.Machine.execLatchIssue dt s
  | .latchRepeat dt => Sys2Proof.Machine.execLatchRepeat dt s
  | .memberMsg dt span m => Sys2Proof.Machine.execMemberMsg dt span m s
  | .memberFlood dt => Sys2Proof.Machine.execMemberFlood dt s
  | .memberTimeout dt => Sys2Proof.Machine.execMemberTimeout dt s
  | .partitionWaitExpiry dt => Sys2Proof.Machine.execPartitionWaitExpiry dt s
  | .mergeMsg dt span m => Sys2Proof.Machine.execMergeMsg dt span m s
  | .linkEventMsg dt span m => Sys2Proof.Machine.execLinkEventMsg dt span m s
  | .routeAgeExpiry dt => Sys2Proof.Machine.execRouteAgeExpiry dt s
  | .updateMsg dt span m => Sys2Proof.Machine.execUpdateMsg dt span m s
  | .returnMsg dt span m => Sys2Proof.Machine.execReturnMsg dt span m s
  | .pathProbeDue dt => Sys2Proof.Machine.execPathProbeDue dt s
  | .pathProbeMsg dt span m turn => Sys2Proof.Machine.execPathProbeMsg dt span m turn s
  | .pathEchoMsg dt span m => Sys2Proof.Machine.execPathEchoMsg dt span m s
  | .rasterFrameMsg dt span m => Sys2Proof.Machine.execRasterFrameMsg dt span m s
  | .rasterLineMsg dt span m => Sys2Proof.Machine.execRasterLineMsg dt span m s
  | .trestleSet q => Sys2Proof.Machine.execTrestleSet q s
  | .trestleStatus q => Sys2Proof.Machine.execTrestleStatus q s
  | .memberRead q => Sys2Proof.Machine.execMemberRead q s
  | .routeRead q => Sys2Proof.Machine.execRouteRead q s
  | .linkSet q => Sys2Proof.Machine.execLinkSet q s
  | .linkCounters q => Sys2Proof.Machine.execLinkCounters q s
  | .destStatus q => Sys2Proof.Machine.execDestStatus q s
  | .laneLos dt sp lane => Sys2Proof.Machine.execLaneLos dt sp lane s
  | .laneLosClear dt sp lane => Sys2Proof.Machine.execLaneLosClear dt sp lane s
  | .laneLol dt sp lane => Sys2Proof.Machine.execLaneLol dt sp lane s
  | .trainingAttemptStart dt sp => Sys2Proof.Machine.execTrainingAttemptStart dt sp s
  | .trainingFrameRx dt sp f => Sys2Proof.Machine.execTrainingFrameRx dt sp f s
  | .trainingStepWindowEnd dt sp r => Sys2Proof.Machine.execTrainingStepWindowEnd dt sp r s
  | .trainingTimeout dt sp => Sys2Proof.Machine.execTrainingTimeout dt sp s
  | .quietPeriodEnd dt sp => Sys2Proof.Machine.execQuietPeriodEnd dt sp s
  | .trainingRetryTimer dt sp => Sys2Proof.Machine.execTrainingRetryTimer dt sp s
  | .calibrationNeeded dt sp lane ppt => Sys2Proof.Machine.execCalibrationNeeded dt sp lane ppt s
  | .rotationTimer dt sp => Sys2Proof.Machine.execRotationTimer dt sp s
  | .spareSweepEnd dt sp t => Sys2Proof.Machine.execSpareSweepEnd dt sp t s
  | .duplicateCompareEnd dt sp equal => Sys2Proof.Machine.execDuplicateCompareEnd dt sp equal s
  | .laneSwapCodeword dt sp => Sys2Proof.Machine.execLaneSwapCodeword dt sp s
  | .calGapStart dt sp tx taps => Sys2Proof.Machine.execCalGapStart dt sp tx taps s
  | .calGapLockTimeout dt sp => Sys2Proof.Machine.execCalGapLockTimeout dt sp s
  | .calGapDeferral dt sp => Sys2Proof.Machine.execCalGapDeferral dt sp s
  | .laneCtlSpareOn dt sp m => Sys2Proof.Machine.execLaneCtlSpareOn dt sp m s
  | .laneCtlDuplicate dt sp m => Sys2Proof.Machine.execLaneCtlDuplicate dt sp m s
  | .laneCtlRelease dt sp m => Sys2Proof.Machine.execLaneCtlRelease dt sp m s
  | .laneCtlSpareIdle dt sp m => Sys2Proof.Machine.execLaneCtlSpareIdle dt sp m s
  | .laneCtlLaneFault dt sp m => Sys2Proof.Machine.execLaneCtlLaneFault dt sp m s
  | .laneCtlCalGap dt sp m => Sys2Proof.Machine.execLaneCtlCalGap dt sp m s
  | .laneCtlSleep dt sp m => Sys2Proof.Machine.execLaneCtlSleep dt sp m s
  | .laneCtlAck dt sp m => Sys2Proof.Machine.execLaneCtlAck dt sp m s
  | .laneCtlNak dt sp m => Sys2Proof.Machine.execLaneCtlNak dt sp m s
  | .laneCtlAnswerTimeout dt sp => Sys2Proof.Machine.execLaneCtlAnswerTimeout dt sp s
  | .sleepWake dt sp => Sys2Proof.Machine.execSleepWake dt sp s
  | .wakeDriftTimeout dt sp => Sys2Proof.Machine.execWakeDriftTimeout dt sp s
  | .spanHealthDownTimeout dt sp => Sys2Proof.Machine.execSpanHealthDownTimeout dt sp s
  | .spanHealthRecover dt sp => Sys2Proof.Machine.execSpanHealthRecover dt sp s
  | .spanSet q => Sys2Proof.Machine.execSpanSet q s
  | .spanStatus q => Sys2Proof.Machine.execSpanStatus q s
  | .laneStatus q => Sys2Proof.Machine.execLaneStatus q s
  | .spanTrain q => Sys2Proof.Machine.execSpanTrain q s
  | .spanCal q => Sys2Proof.Machine.execSpanCal q s
  | .prbsSet q => Sys2Proof.Machine.execPrbsSet q s
  | .prbsRead q seen => Sys2Proof.Machine.execPrbsRead q seen s
  | .errorInject q => Sys2Proof.Machine.execErrorInject q s
  | .bitSlip q => Sys2Proof.Machine.execBitSlip q s
  | .laneTapsSet q => Sys2Proof.Machine.execLaneTapsSet q s
  | .spanSleep q => Sys2Proof.Machine.execSpanSleep q s
  | .portSet q => Sys2Proof.Machine.execPortSet q s
  | .portStatus q => Sys2Proof.Machine.execPortStatus q s
  | .inputSet q => Sys2Proof.Machine.execInputSet q s
  | .inputRead q => Sys2Proof.Machine.execInputRead q s
  | .sacnSet q => Sys2Proof.Machine.execSacnSet q s
  | .sacnStatus q => Sys2Proof.Machine.execSacnStatus q s
  | .rdmDiscover q => Sys2Proof.Machine.execRdmDiscover q s
  | .rdmUidRead q => Sys2Proof.Machine.execRdmUidRead q s
  | .rdmRequest q => Sys2Proof.Machine.execRdmRequest q s
  | .rdmResultRead q => Sys2Proof.Machine.execRdmResultRead q s
  | .dmxPacketStart dt p => Sys2Proof.Machine.execDmxPacketStart dt p s
  | .rdmTransactionStart dt p => Sys2Proof.Machine.execRdmTransactionStart dt p s
  | .rdmResponse dt p r => Sys2Proof.Machine.execRdmResponse dt p r s
  | .rdmResponseTimeout dt p => Sys2Proof.Machine.execRdmResponseTimeout dt p s
  | .rdmDiscoveryTimer dt p => Sys2Proof.Machine.execRdmDiscoveryTimer dt p s
  | .rdmSensorPoll dt p => Sys2Proof.Machine.execRdmSensorPoll dt p s
  | .dmxInputPacket dt p x => Sys2Proof.Machine.execDmxInputPacket dt p x s
  | .inputLossTimeout dt entry => Sys2Proof.Machine.execInputLossTimeout dt entry s
  | .sacnDataPacket dt x => Sys2Proof.Machine.execSacnDataPacket dt x s
  | .sacnSourceLoss dt entry cid => Sys2Proof.Machine.execSacnSourceLoss dt entry cid s
  | .pixelStringSend dt pin => Sys2Proof.Machine.execPixelStringSend dt pin s
  | .clockedStringSend dt pin => Sys2Proof.Machine.execClockedStringSend dt pin s
  | .pwmSubslotStart dt pin => Sys2Proof.Machine.execPwmSubslotStart dt pin s
  | .sacnDataSend dt n => Sys2Proof.Machine.execSacnDataSend dt n s
  | .sacnSyncSend dt n => Sys2Proof.Machine.execSacnSyncSend dt n s
  | .sacnDiscoverySend dt n => Sys2Proof.Machine.execSacnDiscoverySend dt n s
  | .ethFrameRx dt x => Sys2Proof.Machine.execEthFrameRx dt x s
  | .ethFrameTx dt n => Sys2Proof.Machine.execEthFrameTx dt n s
  | .pauseRx dt n quanta => Sys2Proof.Machine.execPauseRx dt n quanta s
  | .pauseHoldEnd dt n => Sys2Proof.Machine.execPauseHoldEnd dt n s
  | .pauseLongTimeout dt n => Sys2Proof.Machine.execPauseLongTimeout dt n s
  | .pauseRefresh dt n => Sys2Proof.Machine.execPauseRefresh dt n s
  | .preemptVerifyTimeout dt n => Sys2Proof.Machine.execPreemptVerifyTimeout dt n s
  | .ethLinkChange dt n up speed => Sys2Proof.Machine.execEthLinkChange dt n up speed s
  | .hostRxPlace dt n descs => Sys2Proof.Machine.execHostRxPlace dt n descs s
  | .hostTxFrame dt n descs => Sys2Proof.Machine.execHostTxFrame dt n descs s
  | .ptpSync dt m => Sys2Proof.Machine.execPtpSync dt m s
  | .ptpFollowUp dt m => Sys2Proof.Machine.execPtpFollowUp dt m s
  | .ptpAnnounce dt m a => Sys2Proof.Machine.execPtpAnnounce dt m a s
  | .ptpDelayReq dt m => Sys2Proof.Machine.execPtpDelayReq dt m s
  | .ptpDelayResp dt m => Sys2Proof.Machine.execPtpDelayResp dt m s
  | .ptpPdelayReq dt m => Sys2Proof.Machine.execPtpPdelayReq dt m s
  | .ptpPdelayResp dt m follow => Sys2Proof.Machine.execPtpPdelayResp dt m follow s
  | .ptpMessageDue dt n kind => Sys2Proof.Machine.execPtpMessageDue dt n kind s
  | .ptpAnnounceTimeout dt n => Sys2Proof.Machine.execPtpAnnounceTimeout dt n s
  | .igmpQuery dt n => Sys2Proof.Machine.execIgmpQuery dt n s
  | .arpRequest dt n target mac sender => Sys2Proof.Machine.execArpRequest dt n target mac sender s
  | .streamLossTimeout dt video ix => Sys2Proof.Machine.execStreamLossTimeout dt video ix s
  | .ethSet q => Sys2Proof.Machine.execEthSet q s
  | .ethStatus q => Sys2Proof.Machine.execEthStatus q s
  | .queueSet q => Sys2Proof.Machine.execQueueSet q s
  | .queueStatus q => Sys2Proof.Machine.execQueueStatus q s
  | .hostchSet q => Sys2Proof.Machine.execHostchSet q s
  | .hostchStatus q => Sys2Proof.Machine.execHostchStatus q s
  | .txtsRead q => Sys2Proof.Machine.execTxtsRead q s
  | .ptpSet q => Sys2Proof.Machine.execPtpSet q s
  | .ptpStatus q => Sys2Proof.Machine.execPtpStatus q s
  | .streamSet q => Sys2Proof.Machine.execStreamSet q s
  | .streamStatus q => Sys2Proof.Machine.execStreamStatus q s
  | .dmaCompletion dt user addr ok => Sys2Proof.Machine.execDmaCompletion dt user addr ok s
  | .dmaCompletionTimeout dt user addr => Sys2Proof.Machine.execDmaCompletionTimeout dt user addr s
  | .pcieEndpointReset dt cause => Sys2Proof.Machine.execPcieEndpointReset dt cause s
  | .beaconBuild dt ri => Sys2Proof.Machine.execBeaconBuild dt ri s
  | .beaconStb dt ri => Sys2Proof.Machine.execBeaconStb dt ri s
  | .radioSlotGrant dt ri => Sys2Proof.Machine.execRadioSlotGrant dt ri s
  | .assocRequest dt ri ext sleepy => Sys2Proof.Machine.execAssocRequest dt ri ext sleepy s
  | .disassocNotify dt ri src => Sys2Proof.Machine.execDisassocNotify dt ri src s
  | .dataRequest dt ri src ext => Sys2Proof.Machine.execDataRequest dt ri src ext s
  | .radioDataFrame dt ri f => Sys2Proof.Machine.execRadioDataFrame dt ri f s
  | .privetFrame dt ri f => Sys2Proof.Machine.execPrivetFrame dt ri f s
  | .radioAck dt ri dsn => Sys2Proof.Machine.execRadioAck dt ri dsn s
  | .ackWaitExpiry dt ri => Sys2Proof.Machine.execAckWaitExpiry dt ri s
  | .indirectPersistExpiry dt ri => Sys2Proof.Machine.execIndirectPersistExpiry dt ri s
  | .parentBeacon dt ri pan ago => Sys2Proof.Machine.execParentBeacon dt ri pan ago s
  | .coordRealignment dt ri => Sys2Proof.Machine.execCoordRealignment dt ri s
  | .parentBeaconMiss dt ri => Sys2Proof.Machine.execParentBeaconMiss dt ri s
  | .xcvrIdentify dt ri resp => Sys2Proof.Machine.execXcvrIdentify dt ri resp s
  | .xcvrRetry dt ri resp => Sys2Proof.Machine.execXcvrRetry dt ri resp s
  | .radioSet q => Sys2Proof.Machine.execRadioSet q s
  | .radioStatus q => Sys2Proof.Machine.execRadioStatus q s
  | .nodeRead q => Sys2Proof.Machine.execNodeRead q s
  | .nodeDisassociate q => Sys2Proof.Machine.execNodeDisassociate q s
  | .nodeAllow q => Sys2Proof.Machine.execNodeAllow q s
  | .nodeDisallow q => Sys2Proof.Machine.execNodeDisallow q s
  | .privetSet q => Sys2Proof.Machine.execPrivetSet q s
  | .radioSend q => Sys2Proof.Machine.execRadioSend q s
  | .radioRecv q => Sys2Proof.Machine.execRadioRecv q s
  | .radioXcvrRead q => Sys2Proof.Machine.execRadioXcvrRead q s
  | .heartbeatSend dt => Sys2Proof.Machine.execHeartbeatSend dt s
  | .pierHeartbeatMsg dt span m => Sys2Proof.Machine.execPierHeartbeatMsg dt span m s
  | .partnerSilence dt => Sys2Proof.Machine.execPartnerSilence dt s
  | .trestleWitnessLoss dt => Sys2Proof.Machine.execTrestleWitnessLoss dt s
  | .pierActInFall dt => Sys2Proof.Machine.execPierActInFall dt s
  | .pierActInRise dt => Sys2Proof.Machine.execPierActInRise dt s
  | .holdCircuitExpiry dt => Sys2Proof.Machine.execHoldCircuitExpiry dt s
  | .pierReleaseMsg dt span m => Sys2Proof.Machine.execPierReleaseMsg dt span m s
  | .pierClaimMsg dt span m => Sys2Proof.Machine.execPierClaimMsg dt span m s
  | .pierDigestMsg dt span m => Sys2Proof.Machine.execPierDigestMsg dt span m s
  | .sealSend dt => Sys2Proof.Machine.execSealSend dt s
  | .pierSealMsg dt span m => Sys2Proof.Machine.execPierSealMsg dt span m s
  | .sealMissingAtCutoff dt => Sys2Proof.Machine.execSealMissingAtCutoff dt s
  | .revertRequest dt => Sys2Proof.Machine.execRevertRequest dt s
  | .pierRevertMsg dt span m => Sys2Proof.Machine.execPierRevertMsg dt span m s
  | .handoverAtCutoff dt => Sys2Proof.Machine.execHandoverAtCutoff dt s
  | .pierResyncMsg dt span m => Sys2Proof.Machine.execPierResyncMsg dt span m s
  | .partnerWaitExpiry dt => Sys2Proof.Machine.execPartnerWaitExpiry dt s
  | .pierSet q => Sys2Proof.Machine.execPierSet q s
  | .pierStatus q => Sys2Proof.Machine.execPierStatus q s
  | .pierControlHandover q => Sys2Proof.Machine.execPierControlHandover q s
  | .pierControlResync q => Sys2Proof.Machine.execPierControlResync q s
  | .pierControlRevertHold q => Sys2Proof.Machine.execPierControlRevertHold q s
  | .pierControlRevertAllow q => Sys2Proof.Machine.execPierControlRevertAllow q s
  | .pierCounters q => Sys2Proof.Machine.execPierCounters q s
  | .tamperInputAssert dt n => Sys2Proof.Machine.execTamperInputAssert dt n s
  | .tamperMonitorTrip dt n => Sys2Proof.Machine.execTamperMonitorTrip dt n s
  | .proposalLapse dt => Sys2Proof.Machine.execProposalLapse dt s
  | .boxStatus q => Sys2Proof.Machine.execBoxStatus q s
  | .slotInfo q => Sys2Proof.Machine.execSlotInfo q s
  | .keyLoad q => Sys2Proof.Machine.execKeyLoad q s
  | .wkStatus q => Sys2Proof.Machine.execWkStatus q s
  | .challenge q => Sys2Proof.Machine.execChallenge q s
  | .propose q => Sys2Proof.Machine.execPropose q s
  | .approve q writeFails => Sys2Proof.Machine.execApprove q writeFails s
  | .proposalCancel q => Sys2Proof.Machine.execProposalCancel q s
  | .officerRead q => Sys2Proof.Machine.execOfficerRead q s
  | .identityRead q => Sys2Proof.Machine.execIdentityRead q s
  | .reqTailWrite dt c tail => Sys2Proof.Machine.execReqTailWrite dt c tail s
  | .requestTakeUp dt => Sys2Proof.Machine.execRequestTakeUp dt s
  | .messageWaitTimeout dt c => Sys2Proof.Machine.execMessageWaitTimeout dt c s
  | .responseWrite dt c => Sys2Proof.Machine.execResponseWrite dt c s
  | .rspHeadWrite dt c head => Sys2Proof.Machine.execRspHeadWrite dt c head s
  | .rspStallTimeout dt c => Sys2Proof.Machine.execRspStallTimeout dt c s
  | .evtHeadWrite dt head => Sys2Proof.Machine.execEvtHeadWrite dt head s
  | .hcRxTailWrite dt n tail => Sys2Proof.Machine.execHcRxTailWrite dt n tail s
  | .hcTxTailWrite dt n tail => Sys2Proof.Machine.execHcTxTailWrite dt n tail s
  | .w0OtherWrite dt w2 addr data => Sys2Proof.Machine.execW0OtherWrite dt w2 addr data s
  | .irqModerationTimer dt => Sys2Proof.Machine.execIrqModerationTimer dt s
  | .spiWrite dt addr data part => Sys2Proof.Machine.execSpiWrite dt addr data part s
  | .spiRead dt addr n part => Sys2Proof.Machine.execSpiRead dt addr n part s
  | .spiQwrite dt addr data part => Sys2Proof.Machine.execSpiQwrite dt addr data part s
  | .spiQread dt addr n part => Sys2Proof.Machine.execSpiQread dt addr n part s
  | .spiStatus dt => Sys2Proof.Machine.execSpiStatus dt s
  | .spiUnknownInstruction dt ins => Sys2Proof.Machine.execSpiUnknownInstruction dt ins s
  | .spiIdleTimeout dt idle => Sys2Proof.Machine.execSpiIdleTimeout dt idle s
  | .udpMailboxDatagram dt d => Sys2Proof.Machine.execUdpMailboxDatagram dt d s
  | .mgmtMsg dt span m => Sys2Proof.Machine.execMgmtMsg dt span m s
  | .relayWaitExpiry dt => Sys2Proof.Machine.execRelayWaitExpiry dt s
  | .bulkMsg dt span m => Sys2Proof.Machine.execBulkMsg dt span m s
  | .bulkAckTimeout dt => Sys2Proof.Machine.execBulkAckTimeout dt s
  | .diagEcho q => Sys2Proof.Machine.execDiagEcho q s
  | .diagPinRead q => Sys2Proof.Machine.execDiagPinRead q s
  | .diagSelftest q => Sys2Proof.Machine.execDiagSelftest q s
  | .selftestComplete dt failed first cores => Sys2Proof.Machine.execSelftestComplete dt failed first cores s
  | .diagEventRaise q => Sys2Proof.Machine.execDiagEventRaise q s
  | .faultInjectDeckSingle q => Sys2Proof.Machine.execFaultInjectDeckSingle q s
  | .faultInjectDeckDouble q => Sys2Proof.Machine.execFaultInjectDeckDouble q s
  | .faultInjectCore q => Sys2Proof.Machine.execFaultInjectCore q s
  | .faultInjectDigest q => Sys2Proof.Machine.execFaultInjectDigest q s
  | .faultInjectCheck q => Sys2Proof.Machine.execFaultInjectCheck q s
  | .faultInjectFlowTrap q => Sys2Proof.Machine.execFaultInjectFlowTrap q s
  | .vinRise dt mv => Sys2Proof.Machine.execVinRise dt mv s
  | .vinLowWarning dt mv => Sys2Proof.Machine.execVinLowWarning dt mv s
  | .vinShutdown dt mv => Sys2Proof.Machine.execVinShutdown dt mv s
  | .vbatOutOfRange dt mv => Sys2Proof.Machine.execVbatOutOfRange dt mv s
  | .vbatReturn dt mv => Sys2Proof.Machine.execVbatReturn dt mv s
  | .vddioRise dt bank mv => Sys2Proof.Machine.execVddioRise dt bank mv s
  | .vddioFall dt bank => Sys2Proof.Machine.execVddioFall dt bank s
  | .resetNAssert dt => Sys2Proof.Machine.execResetNAssert dt s
  | .resetNRelease dt => Sys2Proof.Machine.execResetNRelease dt s
  | .bootReady dt r => Sys2Proof.Machine.execBootReady dt r s
  | .bootWatchdogExpiry dt bootMode => Sys2Proof.Machine.execBootWatchdogExpiry dt bootMode s
  | .scheduledWake dt => Sys2Proof.Machine.execScheduledWake dt s
  | .thermalEvaluation dt r => Sys2Proof.Machine.execThermalEvaluation dt r s
  | .throttleStepDown dt => Sys2Proof.Machine.execThrottleStepDown dt s
  | .throttleStepUp dt => Sys2Proof.Machine.execThrottleStepUp dt s
  | .orderlyPowerDown dt => Sys2Proof.Machine.execOrderlyPowerDown dt s
  | .hardwareThermalTrip dt reading => Sys2Proof.Machine.execHardwareThermalTrip dt reading s
  | .thermalRestart dt die => Sys2Proof.Machine.execThermalRestart dt die s
  | .powerStatus q => Sys2Proof.Machine.execPowerStatus q s
  | .powerModeRun q => Sys2Proof.Machine.execPowerModeRun q s
  | .powerModeStandby q => Sys2Proof.Machine.execPowerModeStandby q s
  | .thermalStatus q => Sys2Proof.Machine.execThermalStatus q s
  | .thermalSet q => Sys2Proof.Machine.execThermalSet q s
  | .wakeScheduleSet q => Sys2Proof.Machine.execWakeScheduleSet q s
  | .updateBegin q => Sys2Proof.Machine.execUpdateBegin q s
  | .updateBlock q => Sys2Proof.Machine.execUpdateBlock q s
  | .flashProgramComplete dt => Sys2Proof.Machine.execFlashProgramComplete dt s
  | .updateIdleTimeout dt => Sys2Proof.Machine.execUpdateIdleTimeout dt s
  | .updateEnd q => Sys2Proof.Machine.execUpdateEnd q s
  | .updateCheckComplete dt readBack => Sys2Proof.Machine.execUpdateCheckComplete dt readBack s
  | .updateStatus q => Sys2Proof.Machine.execUpdateStatus q s
  | .updateActivate q => Sys2Proof.Machine.execUpdateActivate q s
  | .bootRecordWriteComplete dt => Sys2Proof.Machine.execBootRecordWriteComplete dt s
  | .updateAbort q => Sys2Proof.Machine.execUpdateAbort q s
  | .codewordUncorrectable dt sp => Sys2Proof.Machine.execCodewordUncorrectable dt sp s
  | .perstNRelease dt width gen => Sys2Proof.Machine.execPerstNRelease dt width gen s
  | .tamperInputRelease dt n => Sys2Proof.Machine.execTamperInputRelease dt n s
  | .vinRangeReturn dt mv => Sys2Proof.Machine.execVinRangeReturn dt mv s

end Sys2Proof.Machine
end

