-- ==== Sys2Proof/WellFormed.lean ====
section
/-! DEFINITION. WellFormed.lean: what a command must satisfy to be one that the engine's interfaces can carry. -/
namespace Sys2Proof

/-- A host message carries at most 4,032 bytes of payload (R442); only a bulk transfer brings bytes from host memory. -/
def Req.wf (q : Req) : Bool := decide (q.payload.length ≤ 4032) && (q.bulk || q.host.isNone)

/-- LENGTH of a Viaduct message counts at most 65,519 bytes (Table 6.4). -/
def Msg.wf (m : Msg) : Bool := decide (m.payload.length ≤ 65519)

/-- A DATA block carries at most 126 bytes, and LSEQ on VC1 only (Table 6.1, R206). -/
def Block.wf (b : Block) : Bool := decide (b.data.length ≤ 126) && (b.vc == 1 || b.lseq == 0)

/-- The wrong symbols of a codeword: of the 272 places of a lane's portion, none twice (R243). -/
def errsWf (errs : List SymErr) : Bool :=
  errs.all (fun e => decide (e.at_ < 272)) && decide (errs.map fun e => (e.lane, e.at_)).Nodup

/-- WAKE's nanoseconds lie below a second (Table 7.7). -/
def LaneCtl.wf (m : LaneCtl) : Bool := decide (m.wakeS < 2 ^ 48) && decide (m.wakeNs ≤ 999999999)

/-- The two full times of a TIME block fit their 80 bits (Table 6.7). -/
def TimeBlock.wf (t : TimeBlock) : Bool :=
  decide (t.prevTx < 2 ^ 48 * 1000000000) && decide (t.peerRx < 2 ^ 48 * 1000000000)

/-- At most 512 slots, and a CID of 16 bytes (R298). -/
def SacnPacket.wf (x : SacnPacket) : Bool := decide (x.slots.length ≤ 512) && x.cid.length == 16

/-- At most 512 slots follow the start code (R296). -/
def DmxPacket.wf (x : DmxPacket) : Bool := decide (x.slots.length ≤ 512)

/-- An RDM response carries at most 231 bytes of parameter data, and a UID has 48 bits (R290). -/
def RdmResp.wf : RdmResp → Bool
  | .ack d | .overflow d => decide (d.length ≤ 231)
  | .uid u => decide (u < 2 ^ 48)
  | .timer _ | .nack _ | .garbled | .sensorDef _ _ _ | .sensorValue _ => true

/-- A received frame holds its addresses and its EtherType. -/
def EthRx.wf (f : EthRx) : Bool := decide (14 ≤ f.data.length)

/-- The frame of an Ethernet port is well formed. -/
def EthIn.wf : EthIn → Bool
  | .frame f => f.wf
  | .verify _ | .respond _ => true

/-- 29 sensors and ten domains (R505). -/
def ThermalRead.wf (r : ThermalRead) : Bool := r.reading.length == 29 && r.domainMw.length == 10

/-- A checker sees no more errors than bits (R264). -/
def PrbsSeen.wf (p : PrbsSeen) : Bool :=
  p.errors.all (fun e => decide (e < p.bits)) && decide (p.errors.Pairwise (· < ·))

/-- An AES67 stream has at most eight channels (R340). -/
def AesPacket.wf (p : AesPacket) : Bool := p.samples.all fun x => decide (x.length ≤ 8)

/-- A UDP datagram's data fit an IPv4 packet. -/
def Datagram.wf (d : Datagram) : Bool := decide (d.data.length ≤ 65507)

/-- A radio frame has at most 125 bytes beside its FCS (R355). -/
def RadioFrame.wf (f : RadioFrame) : Bool := decide (f.bytes.length ≤ 125)

/-- A command that the engine's interfaces can carry. -/
def Instr.wf : Instr → Bool
  | .sysInfo q => q.wf
  | .sysStatus q => q.wf
  | .sysReset q => q.wf
  | .sysResetExecute _ => true
  | .settingsSave q => q.wf
  | .eventRead q => q.wf
  | .mbConfig q => q.wf
  | .mbStatus q => q.wf
  | .eventSet q => q.wf
  | .transportStatus q => q.wf
  | .udpMbSet q => q.wf
  | .relay q => q.wf
  | .timeGet q => q.wf
  | .servoSet q => q.wf
  | .clockModelSet q => q.wf
  | .timeStep q => q.wf
  | .gridSetStart q => q.wf
  | .gridSetChange q => q.wf
  | .gridSetStop q => q.wf
  | .gridGet q => q.wf
  | .slotArm q => q.wf
  | .slotCancel q => q.wf
  | .slotStatus q => q.wf
  | .timecodeSet q => q.wf
  | .ppsInEdge _ => true
  | .frameRefInEdge _ => true
  | .ltcInSyncWord _ h m sec f _ => decide (h < 40) && decide (m < 80) && decide (sec < 80) && decide (f < 40)
  | .sourceLossTimeout _ _ => true
  | .holdoverLimitExpiry _ => true
  | .ref10mLoss _ => true
  | .ref10mReturn _ => true
  | .tickBoundary _ => true
  | .frameBoundary _ => true
  | .presentationInstant _ => true
  | .slotFire _ => true
  | .ppsOutPulse _ => true
  | .ltcOutFrame _ => true
  | .renderStart _ => true
  | .renderStallTimeout _ => true
  | .slipLimitStop _ => true
  | .descriptorAlloc _ => true
  | .taskEntry _ => true
  | .taskDispatch _ _ => true
  | .affinityWaitExpiry _ _ => true
  | .taskEnd _ _ => true
  | .taskTrap _ _ => true
  | .taskWatchdogExpiry _ _ => true
  | .coreMemoryEccError _ _ _ => true
  | .sourceHoldEvent _ _ => true
  | .cmuPassComplete _ => true
  | .kineticPassComplete _ => true
  | .frameCommit _ => true
  | .hedgerowRelease _ => true
  | .showLoadBegin q => q.wf
  | .showLoadBlock q => q.wf
  | .showLoadEnd q => q.wf
  | .imageChecksComplete _ => true
  | .blobWaitExpiry _ => true
  | .showActivate q => q.wf
  | .showUnloadStaged q => q.wf
  | .showUnloadActive q => q.wf
  | .showStatus q => q.wf
  | .cueGo q => q.wf
  | .cueListStatus q => q.wf
  | .tapSet q => q.wf
  | .tapRead q => q.wf
  | .houseSet q => q.wf
  | .triggerMsg _ _ m => m.wf
  | .aes67Packet _ p => p.wf
  | .tapWindowClose _ _ => true
  | .houseNAssert _ => true
  | .houseNRelease _ => true
  | .houseAssertApply _ => true
  | .houseMsg _ _ m => m.wf
  | .schedConfig q => q.wf
  | .schedStatus q => q.wf
  | .schedCounters q => q.wf
  | .schedTaskRead q => q.wf
  | .schedCores q => q.wf
  | .cmuConfig q => q.wf
  | .cmuStatus q => q.wf
  | .loopResetIntegrators q => q.wf
  | .loopDisable q => q.wf
  | .loopEnable q => q.wf
  | .loopRead q => q.wf
  | .fixtureSolveRead q => q.wf
  | .kineticStopHold q => q.wf
  | .kineticStopBlackout q => q.wf
  | .kineticStopRelease q => q.wf
  | .kineticRead q => q.wf
  | .kineticStopStep _ => true
  | .deckScrubRead _ => true
  | .deckStatus q => q.wf
  | .ingestSet q => q.wf
  | .ingestStatus q => q.wf
  | .st2110Packet _ _ => true
  | .rasterSet q => q.wf
  | .layerSet q => q.wf
  | .rasterCommit q => q.wf
  | .rasterStatus q => q.wf
  | .rasterStart _ _ => true
  | .rasterLine _ _ _ _ => true
  | .verticalBlankingStart _ _ => true
  | .codewordTransmit _ _ => true
  | .idleBlock _ _ errs => errsWf errs
  | .dataBlock _ _ errs b => errsWf errs && b.wf
  | .creditBlock _ _ errs _ => errsWf errs
  | .ackBlock _ _ errs _ => errsWf errs
  | .nakBlock _ _ errs _ => errsWf errs
  | .timeBlock _ _ errs t => errsWf errs && t.wf
  | .helloBlock _ _ errs _ => errsWf errs
  | .reservedBlock _ _ errs => errsWf errs
  | .creditSendDue _ _ => true
  | .helloDue _ _ => true
  | .timeBlockDue _ _ => true
  | .creditStallTimeout _ _ _ => true
  | .creditStallLinkDown _ _ _ => true
  | .ackTimeout _ _ => true
  | .fecFailTimeout _ _ => true
  | .latchMsg _ _ m => m.wf
  | .reportMsg _ _ m => m.wf
  | .latchIssue _ => true
  | .latchRepeat _ => true
  | .memberMsg _ _ m => m.wf
  | .memberFlood _ => true
  | .memberTimeout _ => true
  | .partitionWaitExpiry _ => true
  | .mergeMsg _ _ m => m.wf
  | .linkEventMsg _ _ m => m.wf
  | .routeAgeExpiry _ => true
  | .updateMsg _ _ m => m.wf
  | .returnMsg _ _ m => m.wf
  | .pathProbeDue _ => true
  | .pathProbeMsg _ _ m _ => m.wf
  | .pathEchoMsg _ _ m => m.wf
  | .rasterFrameMsg _ _ m => m.wf
  | .rasterLineMsg _ _ m => m.wf
  | .trestleSet q => q.wf
  | .trestleStatus q => q.wf
  | .memberRead q => q.wf
  | .routeRead q => q.wf
  | .linkSet q => q.wf
  | .linkCounters q => q.wf
  | .destStatus q => q.wf
  | .laneLos _ _ _ => true
  | .laneLosClear _ _ _ => true
  | .laneLol _ _ _ => true
  | .trainingAttemptStart _ _ => true
  | .trainingFrameRx _ _ _ => true
  | .trainingStepWindowEnd _ _ _ => true
  | .trainingTimeout _ _ => true
  | .quietPeriodEnd _ _ => true
  | .trainingRetryTimer _ _ => true
  | .calibrationNeeded _ _ _ _ => true
  | .rotationTimer _ _ => true
  | .spareSweepEnd _ _ _ => true
  | .duplicateCompareEnd _ _ _ => true
  | .laneSwapCodeword _ _ => true
  | .calGapStart _ _ _ _ => true
  | .calGapLockTimeout _ _ => true
  | .calGapDeferral _ _ => true
  | .laneCtlSpareOn _ _ m => m.wf
  | .laneCtlDuplicate _ _ m => m.wf
  | .laneCtlRelease _ _ m => m.wf
  | .laneCtlSpareIdle _ _ m => m.wf
  | .laneCtlLaneFault _ _ m => m.wf
  | .laneCtlCalGap _ _ m => m.wf
  | .laneCtlSleep _ _ m => m.wf
  | .laneCtlAck _ _ m => m.wf
  | .laneCtlNak _ _ m => m.wf
  | .laneCtlAnswerTimeout _ _ => true
  | .sleepWake _ _ => true
  | .wakeDriftTimeout _ _ => true
  | .spanHealthDownTimeout _ _ => true
  | .spanHealthRecover _ _ => true
  | .spanSet q => q.wf
  | .spanStatus q => q.wf
  | .laneStatus q => q.wf
  | .spanTrain q => q.wf
  | .spanCal q => q.wf
  | .prbsSet q => q.wf
  | .prbsRead q seen => q.wf && seen.wf
  | .errorInject q => q.wf
  | .bitSlip q => q.wf
  | .laneTapsSet q => q.wf
  | .spanSleep q => q.wf
  | .portSet q => q.wf
  | .portStatus q => q.wf
  | .inputSet q => q.wf
  | .inputRead q => q.wf
  | .sacnSet q => q.wf
  | .sacnStatus q => q.wf
  | .rdmDiscover q => q.wf
  | .rdmUidRead q => q.wf
  | .rdmRequest q => q.wf
  | .rdmResultRead q => q.wf
  | .dmxPacketStart _ _ => true
  | .rdmTransactionStart _ _ => true
  | .rdmResponse _ _ r => r.wf
  | .rdmResponseTimeout _ _ => true
  | .rdmDiscoveryTimer _ _ => true
  | .rdmSensorPoll _ _ => true
  | .dmxInputPacket _ _ x => x.wf
  | .inputLossTimeout _ _ => true
  | .sacnDataPacket _ x => x.wf
  | .sacnSourceLoss _ _ cid => cid.length == 16
  | .pixelStringSend _ _ => true
  | .clockedStringSend _ _ => true
  | .pwmSubslotStart _ _ => true
  | .sacnDataSend _ _ => true
  | .sacnSyncSend _ _ => true
  | .sacnDiscoverySend _ _ => true
  | .ethFrameRx _ x => x.wf
  | .ethFrameTx _ _ => true
  | .pauseRx _ _ _ => true
  | .pauseHoldEnd _ _ => true
  | .pauseLongTimeout _ _ => true
  | .pauseRefresh _ _ => true
  | .preemptVerifyTimeout _ _ => true
  | .ethLinkChange _ _ _ speed => decide (speed ≤ 5)
  | .hostRxPlace _ _ _ => true
  | .hostTxFrame _ _ _ => true
  | .ptpSync _ _ => true
  | .ptpFollowUp _ _ => true
  | .ptpAnnounce _ _ _ => true
  | .ptpDelayReq _ _ => true
  | .ptpDelayResp _ _ => true
  | .ptpPdelayReq _ _ => true
  | .ptpPdelayResp _ _ _ => true
  | .ptpMessageDue _ _ _ => true
  | .ptpAnnounceTimeout _ _ => true
  | .igmpQuery _ _ => true
  | .arpRequest _ _ _ mac _ => decide (mac < 2 ^ 48)
  | .streamLossTimeout _ _ _ => true
  | .ethSet q => q.wf
  | .ethStatus q => q.wf
  | .queueSet q => q.wf
  | .queueStatus q => q.wf
  | .hostchSet q => q.wf
  | .hostchStatus q => q.wf
  | .txtsRead q => q.wf
  | .ptpSet q => q.wf
  | .ptpStatus q => q.wf
  | .streamSet q => q.wf
  | .streamStatus q => q.wf
  | .dmaCompletion _ _ _ _ => true
  | .dmaCompletionTimeout _ _ _ => true
  | .pcieEndpointReset _ _ => true
  | .beaconBuild _ _ => true
  | .beaconStb _ _ => true
  | .radioSlotGrant _ _ => true
  | .assocRequest _ _ _ _ => true
  | .disassocNotify _ _ _ => true
  | .dataRequest _ _ _ _ => true
  | .radioDataFrame _ _ f => f.wf
  | .privetFrame _ _ f => f.wf
  | .radioAck _ _ _ => true
  | .ackWaitExpiry _ _ => true
  | .indirectPersistExpiry _ _ => true
  | .parentBeacon _ _ _ _ => true
  | .coordRealignment _ _ => true
  | .parentBeaconMiss _ _ => true
  | .xcvrIdentify _ _ resp => decide (resp.length ≤ 255)
  | .xcvrRetry _ _ resp => decide (resp.length ≤ 255)
  | .radioSet q => q.wf
  | .radioStatus q => q.wf
  | .nodeRead q => q.wf
  | .nodeDisassociate q => q.wf
  | .nodeAllow q => q.wf
  | .nodeDisallow q => q.wf
  | .privetSet q => q.wf
  | .radioSend q => q.wf
  | .radioRecv q => q.wf
  | .radioXcvrRead q => q.wf
  | .heartbeatSend _ => true
  | .pierHeartbeatMsg _ _ m => m.wf
  | .partnerSilence _ => true
  | .trestleWitnessLoss _ => true
  | .pierActInFall _ => true
  | .pierActInRise _ => true
  | .holdCircuitExpiry _ => true
  | .pierReleaseMsg _ _ m => m.wf
  | .pierClaimMsg _ _ m => m.wf
  | .pierDigestMsg _ _ m => m.wf
  | .sealSend _ => true
  | .pierSealMsg _ _ m => m.wf
  | .sealMissingAtCutoff _ => true
  | .revertRequest _ => true
  | .pierRevertMsg _ _ m => m.wf
  | .handoverAtCutoff _ => true
  | .pierResyncMsg _ _ m => m.wf
  | .partnerWaitExpiry _ => true
  | .pierSet q => q.wf
  | .pierStatus q => q.wf
  | .pierControlHandover q => q.wf
  | .pierControlResync q => q.wf
  | .pierControlRevertHold q => q.wf
  | .pierControlRevertAllow q => q.wf
  | .pierCounters q => q.wf
  | .tamperInputAssert _ _ => true
  | .tamperMonitorTrip _ _ => true
  | .proposalLapse _ => true
  | .boxStatus q => q.wf
  | .slotInfo q => q.wf
  | .keyLoad q => q.wf
  | .wkStatus q => q.wf
  | .challenge q => q.wf
  | .propose q => q.wf
  | .approve q _ => q.wf
  | .proposalCancel q => q.wf
  | .officerRead q => q.wf
  | .identityRead q => q.wf
  | .reqTailWrite _ _ _ => true
  | .requestTakeUp _ => true
  | .messageWaitTimeout _ _ => true
  | .responseWrite _ _ => true
  | .rspHeadWrite _ _ _ => true
  | .rspStallTimeout _ _ => true
  | .evtHeadWrite _ _ => true
  | .hcRxTailWrite _ _ _ => true
  | .hcTxTailWrite _ _ _ => true
  | .w0OtherWrite _ w2 addr data => decide (addr + data.length ≤ (if w2 then 0x400000 else 0x10000))
  | .irqModerationTimer _ => true
  | .spiWrite _ _ _ _ => true
  | .spiRead _ _ _ _ => true
  | .spiQwrite _ _ _ _ => true
  | .spiQread _ _ _ _ => true
  | .spiStatus _ => true
  | .spiUnknownInstruction _ _ => true
  | .spiIdleTimeout _ _ => true
  | .udpMailboxDatagram _ d => d.wf
  | .mgmtMsg _ _ m => m.wf
  | .relayWaitExpiry _ => true
  | .bulkMsg _ _ m => m.wf
  | .bulkAckTimeout _ => true
  | .diagEcho q => q.wf
  | .diagPinRead q => q.wf
  | .diagSelftest q => q.wf
  | .selftestComplete _ _ _ _ => true
  | .diagEventRaise q => q.wf
  | .faultInjectDeckSingle q => q.wf
  | .faultInjectDeckDouble q => q.wf
  | .faultInjectCore q => q.wf
  | .faultInjectDigest q => q.wf
  | .faultInjectCheck q => q.wf
  | .faultInjectFlowTrap q => q.wf
  | .vinRise _ _ => true
  | .vinLowWarning _ _ => true
  | .vinShutdown _ _ => true
  | .vbatOutOfRange _ _ => true
  | .vbatReturn _ _ => true
  | .vddioRise _ _ _ => true
  | .vddioFall _ _ => true
  | .resetNAssert _ => true
  | .resetNRelease _ => true
  | .bootReady _ _ => true
  | .bootWatchdogExpiry _ _ => true
  | .scheduledWake _ => true
  | .thermalEvaluation _ r => r.wf
  | .throttleStepDown _ => true
  | .throttleStepUp _ => true
  | .orderlyPowerDown _ => true
  | .hardwareThermalTrip _ reading => reading.length == 29
  | .thermalRestart _ _ => true
  | .powerStatus q => q.wf
  | .powerModeRun q => q.wf
  | .powerModeStandby q => q.wf
  | .thermalStatus q => q.wf
  | .thermalSet q => q.wf
  | .wakeScheduleSet q => q.wf
  | .updateBegin q => q.wf
  | .updateBlock q => q.wf
  | .flashProgramComplete _ => true
  | .updateIdleTimeout _ => true
  | .updateEnd q => q.wf
  | .updateCheckComplete _ _ => true
  | .updateStatus q => q.wf
  | .updateActivate q => q.wf
  | .bootRecordWriteComplete _ => true
  | .updateAbort q => q.wf
  | .codewordUncorrectable _ _ => true
  | .perstNRelease _ _ _ => true
  | .tamperInputRelease _ _ => true
  | .vinRangeReturn _ _ => true

end Sys2Proof
end

