-- ==== Sys2Proof/Safety.lean ====
section
/-! DEFINITION. Safety.lean: the terms statements about the engine are made in: a command that is carried out, an engine that
takes host messages, the answer to one, and the windows in canonical form. -/
namespace Sys2Proof.Machine
open Sys2Proof

/-- A command is carried out: it answers a next state, takes nothing from the queue and leaves the identity of the engine
(R476) as it was. -/
def Answers (s : State) (o : Host.Outcome State Fault Refusal) : Prop :=
  ∃ t, o = .next t ∧ t.pending = s.pending ∧ t.sys.fuses = s.sys.fuses

/-- A command is carried out, and what the boot fixed (R476) stands as well. -/
def Steady (s : State) (o : Host.Outcome State Fault Refusal) : Prop :=
  ∃ t, o = .next t ∧ t.pending = s.pending ∧ t.sys.fuses = s.sys.fuses ∧ t.sys.boot = s.sys.boot

/-- Windows W0 and W2 hold their contents in canonical form: addresses rise, and no byte listed is zero. -/
def Canon (w0 w2 : Tab U8) : Prop := w0.wf 0 = true ∧ w2.wf 0 = true

/-- The engine is ready, in mode Run, the message is the request it took up on its channel, which no tamper aborted, and the
payload holds the bytes its opcode needs (R13, R443, R475, R495). -/
abbrev Takes (op need : Nat) (q : Req) (s : State) : Prop :=
  s.mb.engine = 2 ∧ s.pwr.mode = .run ∧ need ≤ q.payload.length ∧ s.asked op q = true ∧
    s.mb.ch[q.ch].svc.any (·.abort) = false

/-- `P` holds of every message of opcode `op` that the engine takes, of the state before it and of that state once the
message's time has passed. -/
abbrev HostCase (op : Nat) (need : Req → Nat) (P : Req → State → State → Prop) : Prop :=
  ∀ (q : Req) (s₀ : State), Takes op (need q) q s₀ → P q s₀ (s₀.elapse q.dt)

/-- `P` holds of every time in ns that passes before an event, of the state before it and of that state once the time has
passed. -/
abbrev EventCase (P : Nat → State → State → Prop) : Prop := ∀ (dt : Nat) (s₀ : State), P dt s₀ (s₀.elapse dt)

/-- `P` holds of every message of the Trestle that a span delivers and the engine accepts (R209), of the state before it
and of that state once the message has been accepted. -/
abbrev MsgCase (P : Nat → Fin 12 → Msg → State → State → Prop) : Prop :=
  ∀ (dt : Nat) (span : Fin 12) (m : Msg) (s₀ : State), ((s₀.elapse dt).acceptMsg span m).2 = true →
    P dt span m s₀ ((s₀.elapse dt).acceptMsg span m).1

/-- `P` holds of every codeword of a block that a span decodes and delivers (R242, R244), of the state before it and of that
state once the codeword has been counted. -/
abbrev BlockCase (block : List U8) (P : Nat → Fin 12 → List SymErr → State → State → Prop) : Prop :=
  ∀ (dt : Nat) (sp : Fin 12) (errs : List SymErr) (s₀ s : State), (s₀.elapse dt).codewordIn sp block errs = (s, true) →
    P dt sp errs s₀ s

/-- The same of a codeword received on a span whose link is up (R200). -/
abbrev LinkCase (block : List U8) (P : Nat → Fin 12 → List SymErr → State → State → Prop) : Prop :=
  BlockCase block fun dt sp errs s₀ s => s.links[sp].st = 2 → P dt sp errs s₀ s

/-- `s` with the answer ST_OK and data `b` to the message `q` of opcode `op`. -/
def State.ok (s : State) (q : Req) (op : Nat) (b : List U8) : State := s.respond q.ch op q.tag .ok b none

/-- The commands that begin or end a boot, or remove and restore the supply: what a boot fixes (R476) may change at these. -/
def bootsOrEnds : Instr → Bool
  | .bootReady _ _ | .bootWatchdogExpiry _ _ | .hardwareThermalTrip _ _ | .orderlyPowerDown _ | .resetNAssert _
  | .sysResetExecute _ | .thermalRestart _ _ | .vinRise _ _ | .vinShutdown _ _ => true
  | _ => false

/-- The host command that a row is: its opcode, the bytes of payload it needs, and the message; none for an event. -/
def hostCommand : Instr → Option (Nat × Nat × Req)
  | .sysInfo q => some (opSysInfo, 0, q)
  | .sysStatus q => some (opSysStatus, 0, q)
  | .sysReset q => some (opSysReset, 4, q)
  | .sysResetExecute _ => none
  | .settingsSave q => some (opSettingsSave, 4, q)
  | .eventRead q => some (opEventRead, 1, q)
  | .mbConfig q => some (opMbConfig, 8, q)
  | .mbStatus q => some (opMbStatus, 1, q)
  | .eventSet q => some (opEventSet, 48, q)
  | .transportStatus q => some (opTransportStatus, 0, q)
  | .udpMbSet q => some (opUdpMbSet, 8, q)
  | .relay q => some (opRelay, (72 + rd q.payload 12 2), q)
  | .timeGet q => some (opTimeGet, 0, q)
  | .servoSet q => some (opServoSet, 32, q)
  | .clockModelSet q => some (opClockModelSet, 1, q)
  | .timeStep q => some (opTimeStep, 8, q)
  | .gridSetStart q => some (opGridSet, 32, q)
  | .gridSetChange q => some (opGridSet, 32, q)
  | .gridSetStop q => some (opGridSet, 32, q)
  | .gridGet q => some (opGridGet, 0, q)
  | .slotArm q => some (opSlotArm, 20, q)
  | .slotCancel q => some (opSlotCancel, 1, q)
  | .slotStatus q => some (opSlotStatus, 1, q)
  | .timecodeSet q => some (opTimecodeSet, 24, q)
  | .ppsInEdge _ => none
  | .frameRefInEdge _ => none
  | .ltcInSyncWord _ _ _ _ _ _ => none
  | .sourceLossTimeout _ _ => none
  | .holdoverLimitExpiry _ => none
  | .ref10mLoss _ => none
  | .ref10mReturn _ => none
  | .tickBoundary _ => none
  | .frameBoundary _ => none
  | .presentationInstant _ => none
  | .slotFire _ => none
  | .ppsOutPulse _ => none
  | .ltcOutFrame _ => none
  | .renderStart _ => none
  | .renderStallTimeout _ => none
  | .slipLimitStop _ => none
  | .descriptorAlloc _ => none
  | .taskEntry _ => none
  | .taskDispatch _ _ => none
  | .affinityWaitExpiry _ _ => none
  | .taskEnd _ _ => none
  | .taskTrap _ _ => none
  | .taskWatchdogExpiry _ _ => none
  | .coreMemoryEccError _ _ _ => none
  | .sourceHoldEvent _ _ => none
  | .cmuPassComplete _ => none
  | .kineticPassComplete _ => none
  | .frameCommit _ => none
  | .hedgerowRelease _ => none
  | .showLoadBegin q => some (opShowLoadBegin, 8, q)
  | .showLoadBlock q => some (opShowLoadBlock, (max 8 (needBulk q 8 (rd q.payload 4 2))), q)
  | .showLoadEnd q => some (opShowLoadEnd, 0, q)
  | .imageChecksComplete _ => none
  | .blobWaitExpiry _ => none
  | .showActivate q => some (opShowActivate, 4, q)
  | .showUnloadStaged q => some (opShowUnload, 1, q)
  | .showUnloadActive q => some (opShowUnload, 1, q)
  | .showStatus q => some (opShowStatus, 0, q)
  | .cueGo q => some (opCueGo, 16, q)
  | .cueListStatus q => some (opCueListStatus, 1, q)
  | .tapSet q => some (opTapSet, 12, q)
  | .tapRead q => some (opTapRead, 1, q)
  | .houseSet q => some (opHouseSet, 12, q)
  | .triggerMsg _ _ _ => none
  | .aes67Packet _ _ => none
  | .tapWindowClose _ _ => none
  | .houseNAssert _ => none
  | .houseNRelease _ => none
  | .houseAssertApply _ => none
  | .houseMsg _ _ _ => none
  | .schedConfig q => some (opSchedConfig, 44, q)
  | .schedStatus q => some (opSchedStatus, 0, q)
  | .schedCounters q => some (opSchedCounters, 1, q)
  | .schedTaskRead q => some (opSchedTaskRead, 2, q)
  | .schedCores q => some (opSchedCores, 8, q)
  | .cmuConfig q => some (opCmuConfig, 16, q)
  | .cmuStatus q => some (opCmuStatus, 0, q)
  | .loopResetIntegrators q => some (opLoopControl, 8, q)
  | .loopDisable q => some (opLoopControl, 8, q)
  | .loopEnable q => some (opLoopControl, 8, q)
  | .loopRead q => some (opLoopRead, 4, q)
  | .fixtureSolveRead q => some (opFixtureSolveRead, 4, q)
  | .kineticStopHold q => some (opKineticStop, 20, q)
  | .kineticStopBlackout q => some (opKineticStop, 20, q)
  | .kineticStopRelease q => some (opKineticStop, 20, q)
  | .kineticRead q => some (opKineticRead, 2, q)
  | .kineticStopStep _ => none
  | .deckScrubRead _ => none
  | .deckStatus q => some (opDeckStatus, 0, q)
  | .ingestSet q => some (opIngestSet, 24, q)
  | .ingestStatus q => some (opIngestStatus, 1, q)
  | .st2110Packet _ _ => none
  | .rasterSet q => some (opRasterSet, 32, q)
  | .layerSet q => some (opLayerSet, 32, q)
  | .rasterCommit q => some (opRasterCommit, 1, q)
  | .rasterStatus q => some (opRasterStatus, 1, q)
  | .rasterStart _ _ => none
  | .rasterLine _ _ _ _ => none
  | .verticalBlankingStart _ _ => none
  | .codewordTransmit _ _ => none
  | .idleBlock _ _ _ => none
  | .dataBlock _ _ _ _ => none
  | .creditBlock _ _ _ _ => none
  | .ackBlock _ _ _ _ => none
  | .nakBlock _ _ _ _ => none
  | .timeBlock _ _ _ _ => none
  | .helloBlock _ _ _ _ => none
  | .reservedBlock _ _ _ => none
  | .creditSendDue _ _ => none
  | .helloDue _ _ => none
  | .timeBlockDue _ _ => none
  | .creditStallTimeout _ _ _ => none
  | .creditStallLinkDown _ _ _ => none
  | .ackTimeout _ _ => none
  | .fecFailTimeout _ _ => none
  | .latchMsg _ _ _ => none
  | .reportMsg _ _ _ => none
  | .latchIssue _ => none
  | .latchRepeat _ => none
  | .memberMsg _ _ _ => none
  | .memberFlood _ => none
  | .memberTimeout _ => none
  | .partitionWaitExpiry _ => none
  | .mergeMsg _ _ _ => none
  | .linkEventMsg _ _ _ => none
  | .routeAgeExpiry _ => none
  | .updateMsg _ _ _ => none
  | .returnMsg _ _ _ => none
  | .pathProbeDue _ => none
  | .pathProbeMsg _ _ _ _ => none
  | .pathEchoMsg _ _ _ => none
  | .rasterFrameMsg _ _ _ => none
  | .rasterLineMsg _ _ _ => none
  | .trestleSet q => some (opTrestleSet, 32, q)
  | .trestleStatus q => some (opTrestleStatus, 0, q)
  | .memberRead q => some (opMemberRead, 2, q)
  | .routeRead q => some (opRouteRead, 4, q)
  | .linkSet q => some (opLinkSet, 16, q)
  | .linkCounters q => some (opLinkCounters, 2, q)
  | .destStatus q => some (opDestStatus, 4, q)
  | .laneLos _ _ _ => none
  | .laneLosClear _ _ _ => none
  | .laneLol _ _ _ => none
  | .trainingAttemptStart _ _ => none
  | .trainingFrameRx _ _ _ => none
  | .trainingStepWindowEnd _ _ _ => none
  | .trainingTimeout _ _ => none
  | .quietPeriodEnd _ _ => none
  | .trainingRetryTimer _ _ => none
  | .calibrationNeeded _ _ _ _ => none
  | .rotationTimer _ _ => none
  | .spareSweepEnd _ _ _ => none
  | .duplicateCompareEnd _ _ _ => none
  | .laneSwapCodeword _ _ => none
  | .calGapStart _ _ _ _ => none
  | .calGapLockTimeout _ _ => none
  | .calGapDeferral _ _ => none
  | .laneCtlSpareOn _ _ _ => none
  | .laneCtlDuplicate _ _ _ => none
  | .laneCtlRelease _ _ _ => none
  | .laneCtlSpareIdle _ _ _ => none
  | .laneCtlLaneFault _ _ _ => none
  | .laneCtlCalGap _ _ _ => none
  | .laneCtlSleep _ _ _ => none
  | .laneCtlAck _ _ _ => none
  | .laneCtlNak _ _ _ => none
  | .laneCtlAnswerTimeout _ _ => none
  | .sleepWake _ _ => none
  | .wakeDriftTimeout _ _ => none
  | .spanHealthDownTimeout _ _ => none
  | .spanHealthRecover _ _ => none
  | .spanSet q => some (opSpanSet, 16, q)
  | .spanStatus q => some (opSpanStatus, 1, q)
  | .laneStatus q => some (opLaneStatus, 2, q)
  | .spanTrain q => some (opSpanTrain, 1, q)
  | .spanCal q => some (opSpanCal, 2, q)
  | .prbsSet q => some (opPrbsSet, 4, q)
  | .prbsRead q _ => some (opPrbsRead, 3, q)
  | .errorInject q => some (opErrorInject, 12, q)
  | .bitSlip q => some (opBitSlip, 4, q)
  | .laneTapsSet q => some (opLaneTapsSet, 8, q)
  | .spanSleep q => some (opSpanSleep, 20, q)
  | .portSet q => some (opPortSet, 44, q)
  | .portStatus q => some (opPortStatus, 1, q)
  | .inputSet q => some (opInputSet, 16, q)
  | .inputRead q => some (opInputRead, 6, q)
  | .sacnSet q => some (opSacnSet, 104, q)
  | .sacnStatus q => some (opSacnStatus, 1, q)
  | .rdmDiscover q => some (opRdmDiscover, 2, q)
  | .rdmUidRead q => some (opRdmUidRead, 4, q)
  | .rdmRequest q => some (opRdmRequest, (17 + (p8 q.payload 16).toNat), q)
  | .rdmResultRead q => some (opRdmResultRead, 4, q)
  | .dmxPacketStart _ _ => none
  | .rdmTransactionStart _ _ => none
  | .rdmResponse _ _ _ => none
  | .rdmResponseTimeout _ _ => none
  | .rdmDiscoveryTimer _ _ => none
  | .rdmSensorPoll _ _ => none
  | .dmxInputPacket _ _ _ => none
  | .inputLossTimeout _ _ => none
  | .sacnDataPacket _ _ => none
  | .sacnSourceLoss _ _ _ => none
  | .pixelStringSend _ _ => none
  | .clockedStringSend _ _ => none
  | .pwmSubslotStart _ _ => none
  | .sacnDataSend _ _ => none
  | .sacnSyncSend _ _ => none
  | .sacnDiscoverySend _ _ => none
  | .ethFrameRx _ _ => none
  | .ethFrameTx _ _ => none
  | .pauseRx _ _ _ => none
  | .pauseHoldEnd _ _ => none
  | .pauseLongTimeout _ _ => none
  | .pauseRefresh _ _ => none
  | .preemptVerifyTimeout _ _ => none
  | .ethLinkChange _ _ _ _ => none
  | .hostRxPlace _ _ _ => none
  | .hostTxFrame _ _ _ => none
  | .ptpSync _ _ => none
  | .ptpFollowUp _ _ => none
  | .ptpAnnounce _ _ _ => none
  | .ptpDelayReq _ _ => none
  | .ptpDelayResp _ _ => none
  | .ptpPdelayReq _ _ => none
  | .ptpPdelayResp _ _ _ => none
  | .ptpMessageDue _ _ _ => none
  | .ptpAnnounceTimeout _ _ => none
  | .igmpQuery _ _ => none
  | .arpRequest _ _ _ _ _ => none
  | .streamLossTimeout _ _ _ => none
  | .ethSet q => some (opEthSet, 64, q)
  | .ethStatus q => some (opEthStatus, 2, q)
  | .queueSet q => some (opQueueSet, 4, q)
  | .queueStatus q => some (opQueueStatus, 2, q)
  | .hostchSet q => some (opHostchSet, 32, q)
  | .hostchStatus q => some (opHostchStatus, 1, q)
  | .txtsRead q => some (opTxtsRead, 1, q)
  | .ptpSet q => some (opPtpSet, 16, q)
  | .ptpStatus q => some (opPtpStatus, 0, q)
  | .streamSet q => some (opStreamSet, 32, q)
  | .streamStatus q => some (opStreamStatus, 2, q)
  | .dmaCompletion _ _ _ _ => none
  | .dmaCompletionTimeout _ _ _ => none
  | .pcieEndpointReset _ _ => none
  | .beaconBuild _ _ => none
  | .beaconStb _ _ => none
  | .radioSlotGrant _ _ => none
  | .assocRequest _ _ _ _ => none
  | .disassocNotify _ _ _ => none
  | .dataRequest _ _ _ _ => none
  | .radioDataFrame _ _ _ => none
  | .privetFrame _ _ _ => none
  | .radioAck _ _ _ => none
  | .ackWaitExpiry _ _ => none
  | .indirectPersistExpiry _ _ => none
  | .parentBeacon _ _ _ _ => none
  | .coordRealignment _ _ => none
  | .parentBeaconMiss _ _ => none
  | .xcvrIdentify _ _ _ => none
  | .xcvrRetry _ _ _ => none
  | .radioSet q => some (opRadioSet, 56, q)
  | .radioStatus q => some (opRadioStatus, 2, q)
  | .nodeRead q => some (opNodeRead, 4, q)
  | .nodeDisassociate q => some (opNodeControl, 12, q)
  | .nodeAllow q => some (opNodeControl, 12, q)
  | .nodeDisallow q => some (opNodeControl, 12, q)
  | .privetSet q => some (opPrivetSet, 20, q)
  | .radioSend q => some (opRadioSend, (9 + (p8 q.payload 8).toNat), q)
  | .radioRecv q => some (opRadioRecv, 1, q)
  | .radioXcvrRead q => some (opRadioXcvrRead, 1, q)
  | .heartbeatSend _ => none
  | .pierHeartbeatMsg _ _ _ => none
  | .partnerSilence _ => none
  | .trestleWitnessLoss _ => none
  | .pierActInFall _ => none
  | .pierActInRise _ => none
  | .holdCircuitExpiry _ => none
  | .pierReleaseMsg _ _ _ => none
  | .pierClaimMsg _ _ _ => none
  | .pierDigestMsg _ _ _ => none
  | .sealSend _ => none
  | .pierSealMsg _ _ _ => none
  | .sealMissingAtCutoff _ => none
  | .revertRequest _ => none
  | .pierRevertMsg _ _ _ => none
  | .handoverAtCutoff _ => none
  | .pierResyncMsg _ _ _ => none
  | .partnerWaitExpiry _ => none
  | .pierSet q => some (opPierSet, 20, q)
  | .pierStatus q => some (opPierStatus, 0, q)
  | .pierControlHandover q => some (opPierControl, 8, q)
  | .pierControlResync q => some (opPierControl, 4, q)
  | .pierControlRevertHold q => some (opPierControl, 4, q)
  | .pierControlRevertAllow q => some (opPierControl, 4, q)
  | .pierCounters q => some (opPierCounters, 1, q)
  | .tamperInputAssert _ _ => none
  | .tamperMonitorTrip _ _ => none
  | .proposalLapse _ => none
  | .boxStatus q => some (opBoxStatus, 0, q)
  | .slotInfo q => some (opSlotInfo, 1, q)
  | .keyLoad q => some (opKeyLoad, 72, q)
  | .wkStatus q => some (opWkStatus, 1, q)
  | .challenge q => some (opChallenge, 36, q)
  | .propose q => some (opPropose, (4 + rd q.payload 2 2), q)
  | .approve q _ => some (opApprove, 208, q)
  | .proposalCancel q => some (opProposalCancel, 4, q)
  | .officerRead q => some (opOfficerRead, 1, q)
  | .identityRead q => some (opIdentityRead, 0, q)
  | .reqTailWrite _ _ _ => none
  | .requestTakeUp _ => none
  | .messageWaitTimeout _ _ => none
  | .responseWrite _ _ => none
  | .rspHeadWrite _ _ _ => none
  | .rspStallTimeout _ _ => none
  | .evtHeadWrite _ _ => none
  | .hcRxTailWrite _ _ _ => none
  | .hcTxTailWrite _ _ _ => none
  | .w0OtherWrite _ _ _ _ => none
  | .irqModerationTimer _ => none
  | .spiWrite _ _ _ _ => none
  | .spiRead _ _ _ _ => none
  | .spiQwrite _ _ _ _ => none
  | .spiQread _ _ _ _ => none
  | .spiStatus _ => none
  | .spiUnknownInstruction _ _ => none
  | .spiIdleTimeout _ _ => none
  | .udpMailboxDatagram _ _ => none
  | .mgmtMsg _ _ _ => none
  | .relayWaitExpiry _ => none
  | .bulkMsg _ _ _ => none
  | .bulkAckTimeout _ => none
  | .diagEcho q => some (opDiagEcho, 0, q)
  | .diagPinRead q => some (opDiagPinRead, 0, q)
  | .diagSelftest q => some (opDiagSelftest, 8, q)
  | .selftestComplete _ _ _ _ => none
  | .diagEventRaise q => some (opDiagEventRaise, 16, q)
  | .faultInjectDeckSingle q => some (opDiagFaultInject, 20, q)
  | .faultInjectDeckDouble q => some (opDiagFaultInject, 20, q)
  | .faultInjectCore q => some (opDiagFaultInject, 20, q)
  | .faultInjectDigest q => some (opDiagFaultInject, 20, q)
  | .faultInjectCheck q => some (opDiagFaultInject, 20, q)
  | .faultInjectFlowTrap q => some (opDiagFaultInject, 20, q)
  | .vinRise _ _ => none
  | .vinLowWarning _ _ => none
  | .vinShutdown _ _ => none
  | .vbatOutOfRange _ _ => none
  | .vbatReturn _ _ => none
  | .vddioRise _ _ _ => none
  | .vddioFall _ _ => none
  | .resetNAssert _ => none
  | .resetNRelease _ => none
  | .bootReady _ _ => none
  | .bootWatchdogExpiry _ _ => none
  | .scheduledWake _ => none
  | .thermalEvaluation _ _ => none
  | .throttleStepDown _ => none
  | .throttleStepUp _ => none
  | .orderlyPowerDown _ => none
  | .hardwareThermalTrip _ _ => none
  | .thermalRestart _ _ => none
  | .powerStatus q => some (opPowerStatus, 0, q)
  | .powerModeRun q => some (opPowerModeSet, 4, q)
  | .powerModeStandby q => some (opPowerModeSet, 4, q)
  | .thermalStatus q => some (opThermalStatus, 0, q)
  | .thermalSet q => some (opThermalSet, 8, q)
  | .wakeScheduleSet q => some (opWakeScheduleSet, 72, q)
  | .updateBegin q => some (opUpdateBegin, 4, q)
  | .updateBlock q => some (opUpdateBlock, (max 8 (needBulk q 8 (rd q.payload 4 2))), q)
  | .flashProgramComplete _ => none
  | .updateIdleTimeout _ => none
  | .updateEnd q => some (opUpdateEnd, 0, q)
  | .updateCheckComplete _ _ => none
  | .updateStatus q => some (opUpdateStatus, 0, q)
  | .updateActivate q => some (opUpdateActivate, 0, q)
  | .bootRecordWriteComplete _ => none
  | .updateAbort q => some (opUpdateAbort, 0, q)
  | .codewordUncorrectable _ _ => none
  | .perstNRelease _ _ _ => none
  | .tamperInputRelease _ _ => none
  | .vinRangeReturn _ _ => none

end Sys2Proof.Machine
end

