-- ==== Sys2Proof/Certificates/Slice0/Obligations.lean ====
section
/-! DEFINITION. Certificates/Slice0/Obligations.lean: the statements for the provers. A statement of completion gives, for
each command it names, the conditions on the state and the operands under which the command has its own effect, and the
next state in full: everything that state does not name is as it was. -/
open Sys2Proof Sys2Proof.Machine

/-- TIME_GET, GRID_GET and SLOT_STATUS return their tables; SERVO_SET, CLOCK_MODEL_SET and TIMECODE_SET take their values;
TIME_STEP steps a stopped grid's time; SLOT_ARM arms a host slot and SLOT_CANCEL cancels it (R26, R27, R53 to R58, R64,
R65). -/
def Obligations.KeystoneCommandsComplete : Prop :=
  (HostCase opTimeGet (fun _ => 0) fun q s₀ s => exec (.timeGet q) s₀ = .next (s.ok q opTimeGet s.timeData)) ∧
  (HostCase opGridGet (fun _ => 0) fun q s₀ s =>
    exec (.gridGet q) s₀ = .next (s.ok q opGridGet (pack 44 (s.gridFields ++
      [f16 32 s.grid.k, fN 34 1 s.grid.st, f32 36 s.grid.lastFrameNo, fN 40 3 s.grid.slip])))) ∧
  (HostCase opSlotStatus (fun _ => 1) fun q s₀ s =>
    32 ≤ (p8 q.payload 0).toNat →
      let n := (p8 q.payload 0).toNat
      let k := s.slots.get {} n
      exec (.slotStatus q) s₀ = .next (s.ok q opSlotStatus
        (pack 20 [fN 0 1 n, fN 1 1 k.st, fB 2 0 k.late, f32 4 k.lateness, fN 8 6 k.fireS, fN 16 4 k.fireNs]))) ∧
  (HostCase opServoSet (fun _ => 32) fun q s₀ s =>
    (servoCfg q.payload).ki.toNat ≤ 0x8000 → (∀ x ∈ (servoCfg q.payload).priority.toList, x.toNat ≤ 5) →
      exec (.servoSet q) s₀ = .next (((s.remember opServoSet 0 q.payload).setServo q.payload).ok q opServoSet [])) ∧
  (HostCase opClockModelSet (fun _ => 1) fun q s₀ s =>
    (p8 q.payload 0 = 0 ∨ (p8 q.payload 0 = 1 ∧ s.sys.boot.profile ≠ 1)) → s.running = false →
      exec (.clockModelSet q) s₀ =
        .next (((s.remember opClockModelSet 0 q.payload).setClockModel q.payload).ok q opClockModelSet [])) ∧
  (HostCase opTimeStep (fun _ => 8) fun q s₀ s =>
    s.running = false →
      exec (.timeStep q) s₀ =
        .next ((State.stepTime { s with ks.taiSet := true } (pInt q.payload 0 8)).ok q opTimeStep [])) ∧
  (HostCase opTimecodeSet (fun _ => 24) fun q s₀ s =>
    (p8 q.payload 0).toNat ≤ 6 → (p8 q.payload 1).toNat ≤ 6 → rd q.payload 20 2 ≤ 1000 →
      exec (.timecodeSet q) s₀ =
        .next (((s.remember opTimecodeSet 0 q.payload).setTimecode q.payload).ok q opTimecodeSet [])) ∧
  (HostCase opSlotArm (fun _ => 20) fun q s₀ s =>
    let n := (p8 q.payload 0).toNat
    let k := slotOf q.payload
    let k := s.convertSlot { k with passed := decide (0 < s.slotPast k) }
    32 ≤ (p8 q.payload 0).toNat → (p8 q.payload 1).toNat ≤ 1 → inRange 1 2 (p8 q.payload 2).toNat = true →
      (p8 q.payload 1 = 1 ∨ rd q.payload 16 4 ≤ 999999999) →
      exec (.slotArm q) s₀ = .next (State.ok { s with slots := s.slots.set {} n k } q opSlotArm [])) ∧
  (HostCase opSlotCancel (fun _ => 1) fun q s₀ s =>
    let n := (p8 q.payload 0).toNat
    let k := s.slots.get {} n
    32 ≤ n →
      (k.st = 1 →
        exec (.slotCancel q) s₀ = .next (State.ok { s with slots := s.slots.set {} n { k with st := 3 } } q opSlotCancel [])) ∧
      (k.st ≠ 1 → k.begins = some (s.now / 4) →
        exec (.slotCancel q) s₀ = .next (State.ok { s with slots := s.slots.set {} n k.unfired } q opSlotCancel [])) ∧
      (k.st ≠ 1 → k.begins ≠ some (s.now / 4) → exec (.slotCancel q) s₀ = .next (s.ok q opSlotCancel [])))

/-- The events of time sources, of compare slots and of the PPS and LTC outputs have their effects (R28, R30, R31, R36, R54,
R58, R61 to R63). -/
def Obligations.TimeSourceEventsComplete : Prop :=
  (EventCase fun dt s₀ s =>
    exec (.ppsInEdge dt) s₀ = .next (State.sample { s with tc.ppsIn := true } 3
      (roundDiv s.full 1000000000 * 1000000000 - s.full : Int) 1000000000)) ∧
  (EventCase fun dt s₀ s =>
    exec (.frameRefInEdge dt) s₀ = .next (State.sample { s with tc.frameRefIn := true } 5
      (s.grid.v.refTheta s.ks.cfg.refPhaseNs.toInt s.full) s.grid.v.period)) ∧
  (EventCase fun dt s₀ s => ∀ (h m sec f : Nat) (user : U32),
    s.tc.ltcIn ≠ 0 → ltcLabelOk s.tc.ltcIn h m sec f = true →
      let c := s.tc.ltcIn
      let n := ltcFrames c h m sec f
      let t := { s with
        tc := { s.tc with ltcLabel := n, ltcUser := user, ltcInLevel := !s.tc.ltcInLevel }, sh.trigUser := user }
      exec (.ltcInSyncWord dt h m sec f user) s₀ = .next
        ((t.sample 4 ((t.tc.frameAt c (n + 1) : Int) - t.full) (1000000000 * (ltcRate c).2 / (ltcRate c).1)).observeAll
          (fun tr => tr.source == 2 && tr.condA.toNat == n) s.full)) ∧
  (EventCase fun dt s₀ s => ∀ code : Fin 6,
    code ≠ 0 → (s.ks.source code).valid = true →
      s.tickExpired ((s.ks.source code).lastAt + 3 * (s.ks.source code).nominal) = true →
      exec (.sourceLossTimeout dt code) s₀ = .next (s.invalidate code)) ∧
  (EventCase fun dt s₀ s =>
    s.ks.st = .holdover → s.ks.cfg.holdoverLimitS.toNat ≠ 0 → s.pwr.mode ≠ .standby →
      s.fwExpired (s.ks.holdSince + s.ks.cfg.holdoverLimitS.toNat * 1000000000) = true →
      exec (.holdoverLimitExpiry dt) s₀ = .next (s.setFaults true s.ks.faultOffset)) ∧
  (EventCase fun dt s₀ s =>
    s.ks.ref10mPresent = true →
      exec (.ref10mLoss dt) s₀ =
        .next (State.raiseF { s with ks.ref10mPresent := false, ks.ref10mActive := false } 19 [fN 0 1 1])) ∧
  (EventCase fun dt s₀ s =>
    s.ks.ref10mPresent = false →
      exec (.ref10mReturn dt) s₀ =
        .next (State.raiseF { s with ks.ref10mPresent := true, ks.ref10mActive := s.ks.cfg.ref10mEn } 19 [fN 0 1 2])) ∧
  (EventCase fun dt s₀ s => exec (.slotFire dt) s₀ = .next (s.fireSlots s.slotDue s.slotPast).slotTurn) ∧
  (EventCase fun dt s₀ s =>
    s.tc.ppsWidthUs ≠ 0 → (s.ks.st ≠ .free ∨ s.tc.ppsForce = true) → s.full % 1000000000 < 5 →
      s.tc.ppsLast ≠ some (s.full / 1000000000) →
      exec (.ppsOutPulse dt) s₀ = .next (State.emit { s with tc.ppsLast := some (s.full / 1000000000) }
        (.pps (s.full / 1000000000) s.tc.ppsWidthUs.toNat))) ∧
  (EventCase fun dt s₀ s =>
    let t := s.tc
    let j := ((s.full - t.origin + 1) * (ltcRate t.ltcOut).1 - 1) / (1000000000 * (ltcRate t.ltcOut).2)
    let l := ltcLabelOf t.ltcOut j
    t.ltcOut ≠ 0 → t.origin ≤ s.full → t.ltcFrame ≠ some j → s.full ≤ t.frameAt t.ltcOut j + 1000 →
      exec (.ltcOutFrame dt) s₀ =
        .next (State.emit { s with tc.ltcFrame := some j, tc.ltcOutLabel := l } (.ltc l.1 l.2.1 l.2.2.1 l.2.2.2)))

/-- GRID_SET starts, changes and stops the grid, and the instants of the grid have their effects (R41, R43, R49, R51, R66). -/
def Obligations.GridCommandsComplete : Prop :=
  (HostCase opGridSet (fun _ => 32) fun q s₀ s =>
    let v := gridVals q.payload
    gridOk q.payload = true → pbit q.payload 31 0 = true → s.box.lock = false → s.fitsRate v = true → s.deckTest = false →
      s.running = false → s.startLate v = false →
      exec (.gridSetStart q) s₀ =
        .next (((s.remember opGridSet 0 q.payload).gridStart v (p32 q.payload 24)).ok q opGridSet [])) ∧
  (HostCase opGridSet (fun _ => 32) fun q s₀ s =>
    let v := gridVals q.payload
    gridOk q.payload = true → pbit q.payload 31 0 = true → s.box.lock = false → s.fitsRate v = true → s.deckTest = false →
      s.running = true → s.changeLate (p32 q.payload 24) = false →
      exec (.gridSetChange q) s₀ =
        .next (((s.remember opGridSet 0 q.payload).gridChange v (p32 q.payload 24)).ok q opGridSet [])) ∧
  (HostCase opGridSet (fun _ => 32) fun q s₀ s =>
    let a := p32 q.payload 24
    let m := if a = 0xFFFFFFFF then s.grid.nextLatch else a
    gridOk q.payload = true → pbit q.payload 31 0 = false → s.running = true →
      (a ≠ 0xFFFFFFFF ∨ s.paired = false ∧ s.others = []) → s.latchInHand m = false →
      exec (.gridSetStop q) s₀ =
        .next ((State.gridStopAt { s.remember opGridSet 0 q.payload with grid.applyFrame := a } m).ok q opGridSet [])) ∧
  (EventCase fun dt s₀ s =>
    s.grid.nextTickAt ≤ (s.full : Int) →
      exec (.tickBoundary dt) s₀ = .next (State.fireSlots
        { s with grid := s.grid.beginTick, sched := s.sched.tickRelease s.grid.beginTick.tickCount
                 sh.house.tickCame := s.sh.house.tickCame || s.sh.house.due }
        (fun k => k.st == 1 && k.passed) fun _ => (s.full : Int) - s.grid.nextTickAt)) ∧
  (EventCase fun dt s₀ s =>
    s.grid.fbDue = true →
      exec (.frameBoundary dt) s₀ = .next ((List.finRange 4).foldl State.sacnTerminate
        ((State.pinsResume { s with grid.fbDue := false }).stopStep.firstFrame.boundarySettings.applyLeads.boundaryLead
          |>.epochStep |>.applyQuantum))) ∧
  (EventCase fun dt s₀ s => ∀ m : U32,
    s.grid.toPresent = some m → s.presents m = true → s.latchReached m = true →
      exec (.presentationInstant dt) s₀ = .next (s.present m)) ∧
  (EventCase fun dt s₀ s =>
    let m := s.grid.nextRender
    let t := if s.grid.startsAt m then { s with tre.startSet := s.others } else s
    s.renderDue m = true →
      exec (.renderStart dt) s₀ = .next (State.renderCheck
        { (((t.forceChecks m).activateAt m).inputsAt m).sequence m with grid.nextRender := m + 1 })) ∧
  (EventCase fun dt s₀ s =>
    s.presents s.grid.nextCommit = true → sdiff32 s.grid.nextCommit s.grid.nextRender < 0 → s.grid.stallRaised = false →
      s.grid.cutoff s.grid.nextCommit + 60000000000 ≤ s.full →
      exec (.renderStallTimeout dt) s₀ =
        .next ((State.raiseF { s with grid.stallRaised := true } 26 [f32 0 s.grid.nextCommit, fN 4 1 1]).checkFail 1 false)) ∧
  (EventCase fun dt s₀ s =>
    let m := s.grid.nextLatch
    s.presents m = true → s.grid.cutoff m + (s.grid.vals m).sigma 16776960 ≤ s.full →
      exec (.slipLimitStop dt) s₀ =
        .next ((State.acceptStop { s with grid.applyFrame := m } m).raiseF 26 [f32 0 m, fN 4 1 2]).stopStep)

/-- A show image is opened, filled, closed, checked, activated and discarded, and SHOW_STATUS reports (R76, R99, R100, R102,
R103). -/
def Obligations.ShowLoadingCompletes : Prop :=
  (HostCase opShowLoadBegin (fun _ => 8) fun q s₀ s =>
    let n := rd q.payload 0 4
    s.box.lock = false → n + s.sh.activeBytes ≤ 0x3000000 → s.sh.staged.st ≠ 1 → s.sh.staged.st ≠ 2 →
      exec (.showLoadBegin q) s₀ = .next (State.ok
        { s with sh.staged := { st := 1, size := n, base := stagedBase s.sh.active n }, sh.next := none } q opShowLoadBegin
        [])) ∧
  (HostCase opShowLoadBlock (fun q => max 8 (needBulk q 8 (rd q.payload 4 2))) fun q s₀ s => ∀ b : List U8,
    let n := rd q.payload 4 2
    let off := rd q.payload 0 4
    let x := s.sh.staged
    1 ≤ n → n ≤ (if q.bulk then 4096 else 4024) → (q.bulk = true → q.payload.length = 24 ∧ bulkDenied q 8 n s = false ∧
      s.mb.bulkFault.getLsbD q.ch.val = false) → bulkBytes q 8 n s = some b → x.st = 1 → off + n ≤ x.size → s.deckTest = false →
      exec (.showLoadBlock q) s₀ = .next (State.ok (State.deckWrite
        { s with sh.staged := { x with data := x.data.writes 0 off b, got := (off, n) :: x.got } } (imageRegion + x.base + off) b)
        q opShowLoadBlock [])) ∧
  (HostCase opShowLoadEnd (fun _ => 0) fun q s₀ s =>
    s.sh.staged.st = 1 →
      exec (.showLoadEnd q) s₀ = .next (State.ok { s with sh.staged.st := 2, sh.staged.tag := q.tag } q opShowLoadEnd [])) ∧
  (EventCase fun dt s₀ s =>
    let x := s.sh.staged
    let b := x.bytes
    let kept := fun (t : State) (p : List U8) => State.raiseF { t.deckWrite (imageRegion + x.base) p with
      sh.staged := { t.sh.staged with st := 3, reason := 0, image := some { readImage p with base := t.sh.staged.base } } } 32
        [fN 0 8 (leVal (t.sh.staged.data.reads 0 0x10 8))]
    x.st = 2 → x.blob = none →
      (checkHeader b x.size = false → exec (.imageChecksComplete dt) s₀ = .next (s.rejectImage 1)) ∧
      (checkHeader b x.size = true → x.covers 0 x.size = true → imageSigned b = true → s.signerOk b = true →
        (hasEncrypted b = false → imageReason b x.size true (some b) = 0 →
          exec (.imageChecksComplete dt) s₀ = .next (kept s b)) ∧
        (∀ (t : State × List U8) (p : List U8), hasEncrypted b = true → s.sectionKey b = .ok (.inl t) →
          openImage t.2 b = some p → imageReason b x.size true (some p) = 0 → t.1.sh.staged = x →
          exec (.imageChecksComplete dt) s₀ = .next (kept t.1 p)))) ∧
  (EventCase fun dt s₀ s => ∀ k : U32 × U8 × U8 × Nat,
    s.sh.staged.blob = some k → s.fwExpired (k.2.2.2 + 10000000000) = true →
      exec (.blobWaitExpiry dt) s₀ = .next (s.rejectImage 3)) ∧
  (HostCase opShowActivate (fun _ => 4) fun q s₀ s => ∀ im : Image,
    let f := p32 q.payload 0
    let m := if f = 0xFFFFFFFF then s.firstActivation else f
    s.sh.staged.st = 3 → s.sh.staged.image = some im → im.pixelCount ≤ pixelCapacity s.grid.v.n s.grid.v.d →
      s.deckTest = false →
      (s.running = false → exec (.showActivate q) s₀ = .next ((s.activateNow im).ok q opShowActivate [])) ∧
      (s.running = true → (f ≠ 0xFFFFFFFF ∨ s.paired = false ∧ s.others = []) → 0 ≤ sdiff32 m s.grid.nextRender →
        (s.full : Int) + 2000000 ≤ s.grid.s m →
        exec (.showActivate q) s₀ = .next (State.ok { s with sh.next := some (im, m) } q opShowActivate []))) ∧
  (HostCase opShowUnload (fun _ => 1) fun q s₀ s =>
    p8 q.payload 0 = 0 →
      exec (.showUnloadStaged q) s₀ = .next (State.ok { s with sh.staged := {}, sh.next := none } q opShowUnload [])) ∧
  (HostCase opShowUnload (fun _ => 1) fun q s₀ s =>
    p8 q.payload 0 = 1 → s.running = false →
      exec (.showUnloadActive q) s₀ = .next (s.unloadActive.ok q opShowUnload [])) ∧
  (HostCase opShowStatus (fun _ => 0) fun q s₀ s =>
    exec (.showStatus q) s₀ = .next (State.ok { s with sh.worstMargin := none } q opShowStatus s.showData))

/-- Cue commands, audio taps, trigger messages and AES67 packets have their effects (R86 to R93, R103 to R105, R341). -/
def Obligations.CueAndTapCommandsComplete : Prop :=
  (HostCase opCueGo (fun _ => 16) fun q s₀ s =>
    let p := q.payload
    let f := p32 p 8
    1 ≤ (p8 p 1).toNat → (p8 p 1).toNat ≤ 5 → (f = 0xFFFFFFFF → s.paired = false ∧ s.memberIds.length ≤ 1) →
      (f = 0xFFFFFFFF ∨ s.running = false ∨ 0 ≤ sdiff32 f s.grid.nextRender) →
      exec (.cueGo q) s₀ =
        .next (State.ok { s with sh.goes := s.sh.goes ++ [⟨p8 p 0, p8 p 1, p32 p 4, f⟩] } q opCueGo [])) ∧
  (HostCase opCueListStatus (fun _ => 1) fun q s₀ s =>
    let l := s.sh.list (p8 q.payload 0).toNat
    (l.cue = none → exec (.cueListStatus q) s₀ =
      .next (s.ok q opCueListStatus (pack 12 [fN 0 4 0xFFFFFFFF, fN 8 4 0xFFFFFFFF]))) ∧
    (∀ c, l.cue = some c → exec (.cueListStatus q) s₀ = .next (s.ok q opCueListStatus
      (pack 12 [fN 0 4 c, fN 4 1 (if l.paused then 2 else 1), fN 6 2 l.fadeLevel, f32 8 l.goFrame])))) ∧
  (HostCase opTapSet (fun _ => 12) fun q s₀ s =>
    (p8 q.payload 0).toNat < 16 → (p8 q.payload 2).toNat < 16 → rd q.payload 4 2 ≤ 20000 → 1 ≤ rd q.payload 8 2 →
      rd q.payload 8 2 ≤ 1000 →
      exec (.tapSet q) s₀ = .next ((s.defer opTapSet (p8 q.payload 0).toNat q.payload).ok q opTapSet [])) ∧
  (HostCase opTapRead (fun _ => 1) fun q s₀ s => ∀ k : Fin 16,
    (p8 q.payload 0).toNat = k.val →
      exec (.tapRead q) s₀ = .next (s.ok q opTapRead s.sh.taps[k].feat.bytes)) ∧
  (HostCase opHouseSet (fun _ => 12) fun q s₀ s =>
    1 ≤ rd q.payload 2 2 → rd q.payload 2 2 ≤ 1000 → 1 ≤ rd q.payload 8 2 → rd q.payload 8 2 ≤ 10000 →
      exec (.houseSet q) s₀ = .next ((s.defer opHouseSet 0 q.payload).ok q opHouseSet [])) ∧
  (MsgCase fun dt span m s₀ s =>
    exec (.triggerMsg dt span m) s₀ = .next (s.takeTrigger (BitVec.ofNat 32 (rdBE m.payload 0 4))
      (BitVec.ofNat 32 (rdBE m.payload 4 4)))) ∧
  (EventCase fun dt s₀ s => ∀ p : AesPacket,
    let t := s.rxTake p.eth (0x48 + p.stream.val)
    let m := t.net.aes[p.stream]
    let r := m.take 16 p.eth.val p.seq.toNat t.now
    let rate : Nat := if m.cfg.rate96 then 96000 else 48000
    let u := ((t.modAes p.stream fun _ => r.1).modAes p.stream fun x => { x with present := true, lostRun := false }).streamBack
      false p.stream.val m
    let k := nearestCount (p.rtp - m.cfg.clkOffset) (s.rxTime p.eth (0x48 + p.stream.val) / 65536 * rate / 1000000000)
    (r.2 = true → exec (.aes67Packet dt p) s₀ =
      .next ((p.samples.zipIdx).foldl (fun (a : State) v => a.tapSample p.stream rate (k + v.2).toNat v.1) u)) ∧
    (r.2 = false → exec (.aes67Packet dt p) s₀ = .next (t.modAes p.stream fun _ => r.1))) ∧
  (EventCase fun dt s₀ s => ∀ k : Fin 16,
    let x := s.sh.taps[k]
    let g := s.windowEnd x x.nextFrame
    let from_ := g - s.grid.v.period
    let xs := x.buf.filter fun v => decide (from_ ≤ v.1) && decide ((v.1 : Int) < g)
    let y := Tap.close { x with buf := x.buf.filter fun v => decide (g ≤ v.1) } x.nextFrame g xs (x.window from_ g xs)
    let t := State.raiseIf { s with sh.taps := s.sh.taps.set k y } (y.feat.stale && !x.staleRun) 37
      [fN 0 1 k.val, f32 4 x.nextFrame]
    s.running = true → x.cfg.enable = true → g ≤ s.full →
      (y.feat.onset = false → exec (.tapWindowClose dt k) s₀ = .next t) ∧
      (y.feat.onset = true → exec (.tapWindowClose dt k) s₀ = .next (t.observeAll (fun tr => tr.source == 3 &&
        tr.condA.toNat == k.val && decide (tr.condB.toNat % 65536 ≤ y.feat.envelope.toNat)) ((y.lastOnset.getD 0 : Nat) : Int))))

/-- HOUSE_N, HOUSE messages and the application of an assertion have their effects (R94 to R97, R160, R369, R379). -/
def Obligations.HouseEventsComplete : Prop :=
  (EventCase fun dt s₀ s =>
    let t := State.houseChange { s with sys.houseN := false } fun h => { h with pin := true }
    (t.sh.house.cfg.pinEnable = true → exec (.houseNAssert dt) s₀ = .next (t.houseWake 3)) ∧
    (t.sh.house.cfg.pinEnable = false → exec (.houseNAssert dt) s₀ = .next t)) ∧
  (EventCase fun dt s₀ s =>
    exec (.houseNRelease dt) s₀ = .next (State.houseChange { s with sys.houseN := true } fun h => { h with pin := false })) ∧
  (MsgCase fun dt span m s₀ s =>
    (m.dest = floodDest →
      exec (.houseMsg dt span m) s₀ = .next (s.houseChange fun h => h.take m.src m.payload)) ∧
    (m.dest ≠ floodDest → s.paired = true → m.src = s.pier.cfg.partnerId → s.holds = false →
      exec (.houseMsg dt span m) s₀ = .next (s.houseChange fun h => h.takePartner m.payload))) ∧
  (EventCase fun dt s₀ s =>
    let h := s.sh.house
    let new := h.mask &&& ~~~h.applied
    let own := h.own &&& ~~~h.ownApplied
    let t := { s with sh.house := { h with applied := h.applied ||| h.mask, ownApplied := h.own, due := false, tickCame := false } }
    let u := if new = 0 then t else t.houseNow new
    h.due = true → h.tickCame = true →
      ((h.cfg.flood = false ∨ own = 0) → exec (.houseAssertApply dt) s₀ = .next u) ∧
      (h.cfg.flood = true → own ≠ 0 → exec (.houseAssertApply dt) s₀ = .next (u.flood 0x0011 (houseMsg h.own))))

/-- SCHED_CONFIG, SCHED_STATUS, SCHED_COUNTERS, SCHED_TASK_READ and SCHED_CORES have their effects (R113, R135 to R137). -/
def Obligations.SchedulerCommandsComplete : Prop :=
  (HostCase opSchedConfig (fun _ => 44) fun q s₀ s =>
    let c := schedCfg q.payload
    (∀ x ∈ c.limit.toList, 1 ≤ x.toNat ∧ x.toNat ≤ 8192) → (∀ x ∈ c.priority.toList, x.toNat ≤ 7) →
      exec (.schedConfig q) s₀ = .next ((if s.running then s.defer opSchedConfig 0 q.payload
        else State.setSched q.payload (s.remember opSchedConfig 0 q.payload)).ok q opSchedConfig [])) ∧
  (HostCase opSchedStatus (fun _ => 0) fun q s₀ s =>
    let c := s.sched.settle s.now
    let inState := fun (p : Desc → Bool) => (c.desc.filter fun e => p e.2).length
    exec (.schedStatus q) s₀ = .next (State.ok { s with sched := { c with minFree := c.freeCount } } q opSchedStatus
      (pack 64 ([fN 0 2 c.freeCount, fN 2 2 c.minFree, fN 12 1 (bitsOf fun i : Fin 4 => c.hold[i].isSome),
        fN 13 1 (c.cores.toList.filter Core.idle).length, f32 16 c.gateFrame, fN 20 4 (c.pendingOf c.gateFrame),
        fN 24 4 (c.pendingOf (c.gateFrame + 1)), fN 52 2 (inState fun d => d.st == .parked), fN 54 2 c.slotHeld.length,
        fN 56 8 (bitsOf fun i : Fin 64 => c.cores[i].excluded)] ++
        (List.finRange 4).map (fun i => fN (4 + 2 * i.val) 2 c.inUse[i]) ++
        (List.finRange 8).map (fun i => fN (28 + 2 * i.val) 2 c.ready[i].length) ++
        (List.finRange 4).map fun i => fN (44 + 2 * i.val) 2 (inState fun d => d.st == .delayed && d.delayList == i))))) ∧
  (HostCase opSchedCounters (fun _ => 1) fun q s₀ s =>
    let c := s.sched
    exec (.schedCounters q) s₀ = .next ((if pbit q.payload 0 0 then { s with sched := c.clear s.now } else s).ok q opSchedCounters
      (pack 96 ((List.finRange 8).map (fun i => f32 (4 * i.val) c.dispatched[i]) ++
        [f32 32 c.affHit, f32 36 c.affExpired, f32 40 c.affNone, f32 44 c.cancelBefore, f32 48 c.cancelAfter, f32 52 c.traps,
          f32 56 c.watchdog, f32 60 c.lateRelease] ++
        (List.finRange 4).map (fun i => fN (64 + 4 * i.val) 4 (sat32 (c.heldNs i s.now / 1000))) ++
        (List.finRange 4).map fun i => f32 (80 + 4 * i.val) c.submitted[i])))) ∧
  (HostCase opSchedTaskRead (fun _ => 2) fun q s₀ s =>
    rd q.payload 0 2 < 8192 →
      exec (.schedTaskRead q) s₀ = .next (s.ok q opSchedTaskRead ((s.sched.settle s.now).at (rd q.payload 0 2)).bytes)) ∧
  (HostCase opSchedCores (fun _ => 8) fun q s₀ s =>
    let m := p64 q.payload 0
    m ≠ 0 → (∀ i : Fin 64, m.getLsbD i.val = true → s.sched.cores[i].excluded = false) →
      exec (.schedCores q) s₀ =
        .next ((State.setCores q.payload (s.remember opSchedCores 0 q.payload)).ok q opSchedCores []))

/-- The scheduler's cycles, the ends of tasks and the faults of cores have their effects (R84, R110, R115, R116, R121, R123,
R124, R127, R133, R134). -/
def Obligations.SchedulerEventsComplete : Prop :=
  (EventCase fun dt s₀ s => exec (.descriptorAlloc dt) s₀ = .next { s with sched := s.sched.alloc s.now }) ∧
  (EventCase fun dt s₀ s =>
    exec (.taskEntry dt) s₀ = .next { s with sched := s.sched.entryCycle s.now s.grid.tickCount }) ∧
  (EventCase fun dt s₀ s => ∀ (port : Fin 4) (n : Nat) (k : Fin 64),
    let o := { s with sched := s.sched.offer s.now s.mayDispatch }
    o.sched.choice port = some (n, k) →
      let d := o.sched.at n
      let t := { o with sched := o.sched.place port n k o.now (o.programMem d) }
      exec (.taskDispatch dt port) s₀ =
        .next (((if d.source = 0 then (t.firstOf d.frame).programRead d k else t).dispatchTrap n k).renderCheck)) ∧
  (EventCase fun dt s₀ s => ∀ n : Fin 8192,
    (s.sched.at n).st = .ready → s.schedExpired (s.sched.waitEnd (s.sched.at n)) = true →
      exec (.affinityWaitExpiry dt n) s₀ = .next (s.modDesc n fun d => { d with waitOver := true })) ∧
  (EventCase fun dt s₀ s => ∀ n : Fin 8192,
    let d := s.sched.at n
    let t := { s with sched := s.sched.endTask n s.now }
    d.st = .running → s.loaded d = true →
      (d.source = 0 → ∀ f : Flow, t.flowOf d = some f →
        exec (.taskEnd dt n) s₀ = .next (((t.taskWrites d f (t.effectOf d)).taskGrant d).trapSettle.renderCheck)) ∧
      (d.source = 1 → exec (.taskEnd dt n) s₀ = .next (t.bandDone d.arg.toNat).renderCheck) ∧
      (d.source = 2 → exec (.taskEnd dt n) s₀ = .next (t.packTask d).renderCheck) ∧
      (d.source = 3 → exec (.taskEnd dt n) s₀ = .next (if d.arg = 1 then t.computeDigest d.frame else t).renderCheck)) ∧
  (EventCase fun dt s₀ s => ∀ n : Fin 8192,
    (s.sched.at n).st = .running → s.loaded (s.sched.at n) = true →
      exec (.taskTrap dt n) s₀ = .next (s.trap n 1).renderCheck) ∧
  (EventCase fun dt s₀ s => ∀ n : Fin 8192,
    let d := s.sched.at n
    let t := State.raiseF { s with sched.watchdog := s.sched.watchdog.inc } 41 [fN 0 2 d.flow.toNat, fN 2 1 d.core.toNat, f32 4 d.frame]
    s.overran n = true →
      exec (.taskWatchdogExpiry dt n) s₀ =
        .next ((if d.source = 1 then t else t.flagFrame d.frame 0).trap n 2).renderCheck) ∧
  (EventCase fun dt s₀ s => ∀ core : Fin 64,
    let k := s.sched.cores[core]
    exec (.coreMemoryEccError dt core false) s₀ =
      .next { s with sched.cores := s.sched.cores.set core { k with correctedErrors := k.correctedErrors.inc } }) ∧
  (EventCase fun dt s₀ s => ∀ core : Fin 64,
    (∀ n : Nat, s.sched.cores[core].task = some n → exec (.coreMemoryEccError dt core true) s₀ =
      .next (((s.excludeCore core (s.sched.at n).frame).trap n 3).renderCheck)) ∧
    (s.sched.cores[core].task = none →
      exec (.coreMemoryEccError dt core true) s₀ = .next (s.excludeCore core s.sched.gateFrame))) ∧
  (EventCase fun dt s₀ s => ∀ (src : Fin 4) (t : Nat),
    s.sched.hold[src] = some t → s.sched.holdRaised[src] = false → t + s.sched.cfg.holdEventUs.toNat * 1000 < s.now →
      exec (.sourceHoldEvent dt src) s₀ = .next
        (State.raiseF { s with sched.holdRaised := s.sched.holdRaised.set src true } 40 [fN 0 1 src.val]))

/-- The CMU and kinetic passes end, a frame commits, Hedgerow releases it, and a stopped grid steps its kinetic parameters
(R83, R145, R156, R161). -/
def Obligations.FramePassesComplete : Prop :=
  (EventCase fun dt s₀ s =>
    s.fix.cmuBusy.isSome = true → s.fix.passAt + s.solveNs (ceilDiv s.fix.passNext.solves.toNat 4) ≤ s.now →
      exec (.cmuPassComplete dt) s₀ =
        .next { s with fix.cmuBusy := none, fix.passNext.cmuNs := BitVec.ofNat 32 (s.now - s.fix.passAt) }) ∧
  (EventCase fun dt s₀ s =>
    s.fix.kinBusy.isSome = true →
      exec (.kineticPassComplete dt) s₀ =
        .next { s with fix.kinBusy := none, fix.passNext.kinNs := BitVec.ofNat 32 (s.now - s.fix.passAt) }) ∧
  (EventCase fun dt s₀ s =>
    s.commitReady = true → exec (.frameCommit dt) s₀ = .next (s.commit s.sched.gateFrame)) ∧
  (EventCase fun dt s₀ s => ∀ e rest,
    let t := s.flushSends
    s.tre.committedUnder = e :: rest → t.tre.released ≠ some e.1 → t.packed e.1 = true →
      exec (.hedgerowRelease dt) s₀ =
        .next (State.renderCheck (State.swapStep { t with tre.released := some e.1 }))) ∧
  (EventCase fun dt s₀ s => ∀ im : Image,
    s.sh.active = some im → s.grid.stopped = true → 256 ≤ (s.grid.tickCount - s.fix.stepTick).toNat →
      let m := s.grid.lastFrameNo
      let t := s.applyStops m
      let kin := t.fix.stopSteps im t.grid.limVals t.sh.house.applied m
      let u := { t with
        fix.kin := kin, fix.outNext := outTable kin, fix.outCur := outTable kin, fix.kinHist := [], fix.kinBase := kin
        fix.stepTick := t.grid.tickCount - (t.grid.tickCount - t.fix.stepTick) % 256 }
      exec (.kineticStopStep dt) s₀ = .next ((if kin ≠ t.fix.kin then
        u.immediateAll isKinetic (fun _ => outTable kin) (outTable kin) false else u).raiseRest im m))

/-- The commands of the fixtures family have their effects (R149, R164, R165). -/
def Obligations.FixtureCommandsComplete : Prop :=
  (HostCase opCmuConfig (fun _ => 16) fun q s₀ s =>
    let c := cmuCfg q.payload
    1 ≤ c.settleFrames.toNat → c.settleFrames.toNat ≤ 15 → 8 ≤ c.updateFrames.toNat → 16 ≤ c.timeoutFrames.toNat →
      1 ≤ c.tempHoldFrames.toNat →
      exec (.cmuConfig q) s₀ = .next ((s.defer opCmuConfig 0 q.payload).ok q opCmuConfig [])) ∧
  (HostCase opCmuStatus (fun _ => 0) fun q s₀ s =>
    let c := s.fix.pass
    exec (.cmuStatus q) s₀ = .next (State.ok { s with fix.deferred := 0 } q opCmuStatus (pack 40
      [f32 0 c.frame, f32 4 c.solves, f32 8 c.cmuNs, f32 12 c.kinNs, f32 16 c.gamut, f32 20 c.limited, fN 24 2 c.run,
        fN 26 2 c.frozen, fN 28 2 c.saturated, f16 30 c.stale, f32 32 s.fix.deferred, fN 36 2 c.stopped]))) ∧
  (HostCase opLoopControl (fun _ => 8) fun q s₀ s => ∀ f : Fixture,
    let fi := rd q.payload 0 4
    let t := (s.modLoop fi fun l => { l with ix := 0, iy := 0, iz := 0 }).dropCorr fi
    s.fixtureAt fi = some f → p8 q.payload 4 = 0 →
      exec (.loopResetIntegrators q) s₀ =
        .next ((t.raiseIf ((s.loop fi).st == 2 && (t.loop fi).st != 2) 50 [f32 0 f.id, fN 4 1 2]).ok q opLoopControl [])) ∧
  (HostCase opLoopControl (fun _ => 8) fun q s₀ s => ∀ f : Fixture,
    let fi := rd q.payload 0 4
    let t := (s.modLoop fi fun l =>
      { l with st := 0, disabled := true, ix := 0, iy := 0, iz := 0, saturated := false, satCount := 0 }).dropCorr fi
    s.fixtureAt fi = some f → p8 q.payload 4 = 1 →
      exec (.loopDisable q) s₀ =
        .next ((t.raiseIf ((s.loop fi).st == 2 && (t.loop fi).st != 2) 50 [f32 0 f.id, fN 4 1 2]).ok q opLoopControl [])) ∧
  (HostCase opLoopControl (fun _ => 8) fun q s₀ s => ∀ f : Fixture,
    let fi := rd q.payload 0 4
    let t := s.modLoop fi fun l => if f.closedLoop then
      { l with st := 1, disabled := false, validAt := if l.st = 1 then l.validAt else s.grid.nextRender } else l
    s.fixtureAt fi = some f → p8 q.payload 4 = 2 →
      exec (.loopEnable q) s₀ =
        .next ((t.raiseIf ((s.loop fi).st == 2 && (t.loop fi).st != 2) 50 [f32 0 f.id, fN 4 1 2]).ok q opLoopControl [])) ∧
  (HostCase opLoopRead (fun _ => 4) fun q s₀ s => ∀ (im : Image) (f : Fixture),
    let l := s.loop (rd q.payload 0 4)
    s.sh.active = some im → s.fixtureAt (rd q.payload 0 4) = some f →
      exec (.loopRead q) s₀ = .next (s.ok q opLoopRead (pack 32 [fN 0 1 l.st, fB 1 0 l.saturated, fI 2 2 (s.tempInUse im f),
        fI 4 2 l.ix, fI 6 2 l.iy, fI 8 2 l.iz, f32 12 (lastFrame l.lastUpdate), f32 16 (lastFrame l.lastSample),
        fI 20 2 l.epsX, fI 22 2 l.epsY, fI 24 2 l.epsZ]))) ∧
  (HostCase opFixtureSolveRead (fun _ => 4) fun q s₀ s => ∀ f : Fixture,
    let v := (s.loop (rd q.payload 0 4)).solve
    s.fixtureAt (rd q.payload 0 4) = some f →
      exec (.fixtureSolveRead q) s₀ = .next (s.ok q opFixtureSolveRead (pack 32 ([f32 0 v.frame, f16 4 v.targetU,
        f16 6 v.targetV, f16 8 v.mappedU, f16 10 v.mappedV, f16 12 v.lum, fB 14 0 v.outOfGamut, fB 14 1 v.lumLimited,
        fB 14 2 v.tempStale] ++ (v.drives.take 8).zipIdx.map fun d => f16 (16 + 2 * d.2) d.1)))) ∧
  (HostCase opKineticStop (fun _ => 20) fun q s₀ s =>
    let k := kstopOf q.payload
    let t := (State.ok { s with fix.stops := s.fix.stops ++ [k] } q opKineticStop [])
    k.scope.toNat ≤ 2 → (k.frame = 0xFFFFFFFF → s.paired = false ∧ s.memberIds.length ≤ 1) →
      (k.frame = 0xFFFFFFFF ∨ s.passBegun k.frame = false) →
      (k.action = 1 → exec (.kineticStopHold q) s₀ = .next t) ∧ (k.action = 2 → exec (.kineticStopBlackout q) s₀ = .next t) ∧
      (k.action = 3 → exec (.kineticStopRelease q) s₀ = .next t)) ∧
  (HostCase opKineticRead (fun _ => 2) fun q s₀ s =>
    rd q.payload 0 2 < 32768 →
      let k := s.fix.kin.get {} (rd q.payload 0 2)
      exec (.kineticRead q) s₀ = .next (s.ok q opKineticRead
        (pack 16 [fN 0 4 k.p, fI 4 4 k.v, f16 8 k.target, fN 10 1 k.mode, f32 12 k.frame])))

/-- The commands of Deck, ingest and the raster engines, and the scrubber's read, have their effects; the status commands
return Tables 5.11 to 5.13 (R171, R182, R183, R191, R195). -/
def Obligations.PixelCommandsComplete : Prop :=
  (HostCase opDeckStatus (fun _ => 0) fun q s₀ s =>
    let d := s.deck
    let used := fun n => exec (.deckStatus q) s₀ = .next (s.ok q opDeckStatus (pack 32 [f32 0 d.eccCorrected,
      f32 4 d.eccUncorrectable, f32 8 d.lastUe, f32 12 d.scrubPasses, fN 16 4 (pixelCapacity s.grid.v.n s.grid.v.d), fN 20 4 n,
      f16 24 d.busy, f32 28 s.lastCommit]))
    (s.sh.active = none → used 0) ∧ (∀ im : Image, s.sh.active = some im → used im.pixelCount)) ∧
  (EventCase fun dt s₀ s =>
    let t := s.deckRead s.sched.gateFrame s.deck.scrubAt 64 11
    let n := (s.deck.scrubAt + 64) % 0x10000000
    exec (.deckScrubRead dt) s₀ = .next { t with
      deck.scrubAt := n, deck.scrubPasses := if n = 0 then t.deck.scrubPasses.inc else t.deck.scrubPasses }) ∧
  (HostCase opIngestSet (fun _ => 24) fun q s₀ s =>
    (p8 q.payload 0).toNat < 8 → (p8 q.payload 2).toNat ≤ 2 → (p8 q.payload 3).toNat ≤ 1 →
      exec (.ingestSet q) s₀ = .next ((s.defer opIngestSet (p8 q.payload 0).toNat q.payload).ok q opIngestSet [])) ∧
  (HostCase opIngestStatus (fun _ => 1) fun q s₀ s => ∀ k : Fin 8,
    let g := s.ingest[k]
    (p8 q.payload 0).toNat = k.val →
      exec (.ingestStatus q) s₀ = .next (s.ok q opIngestStatus (pack 32 ([f32 0 g.capturedFrame, f32 4 g.capturedMedia,
        f32 8 g.written, f32 12 g.dropped, f32 16 g.lateCaptures, f16 20 g.srcW, f16 22 g.srcH, f8 25 g.format] ++
        ((List.finRange 4).map fun c => fB 24 c.val (!g.copies[c].held.isEmpty)) ++
        (List.finRange 4).map fun c => fB 24 (4 + c.val) g.copies[c].complete)))) ∧
  (HostCase opRasterSet (fun _ => 32) fun q s₀ s => ∀ re : Fin 4,
    (p8 q.payload 0).toNat = re.val → (rasterCfg q.payload).ok s.grid.v = true →
      exec (.rasterSet q) s₀ =
        .next ((s.modRaster re fun x => { x with shadow := rasterCfg q.payload }).ok q opRasterSet [])) ∧
  (HostCase opLayerSet (fun _ => 32) fun q s₀ s => ∀ re l : Fin 4,
    let c := layerCfg q.payload
    (p8 q.payload 0).toNat = re.val → (p8 q.payload 1).toNat = l.val → c.blend.toNat ≤ 2 → 1 ≤ c.repX → c.repX ≤ 8 →
      1 ≤ c.repY → c.repY ≤ 8 →
      exec (.layerSet q) s₀ =
        .next ((s.modRaster re fun x => { x with shadowL := x.shadowL.set l c }).ok q opLayerSet [])) ∧
  (HostCase opRasterCommit (fun _ => 1) fun q s₀ s =>
    exec (.rasterCommit q) s₀ = .next (((List.finRange 4).foldl (fun (s : State) (re : Fin 4) =>
      if pbit q.payload 0 re.val then
        if s.raster[re].cfg.enable then s.modRaster re fun x => { x with commit := true } else s.rasterCopy re
      else s) s).ok q opRasterCommit [])) ∧
  (HostCase opRasterStatus (fun _ => 1) fun q s₀ s => ∀ re : Fin 4,
    let x := s.raster[re]
    (p8 q.payload 0).toNat = re.val →
      exec (.rasterStatus q) s₀ = .next (s.ok q opRasterStatus (pack 40 ([fN 0 1 (s.rasterState re), fB 1 0 x.commit,
        f16 2 x.firstBadLine, f32 4 (lastFrame x.lastSent), f32 8 x.repeats, f32 12 x.aborts, f32 16 x.underruns,
        f32 20 x.crcLines, f32 24 x.crcFrames, f32 28 x.resyncs, f32 32 x.applyFrame] ++
        (List.finRange 4).map fun i => fB 1 (1 + i.val) x.underrun[i]))))

/-- A raster frame's start, lines and vertical blanking, ST 2110-20 packets, a stream's loss and the stream commands have
their effects (R183 to R191, R342 to R346). -/
def Obligations.PictureEventsComplete : Prop :=
  (EventCase fun dt s₀ s => ∀ re : Fin 4,
    let x := s.raster[re]
    let r := s.grid.rasterFrame x.cfg.genlock x.nextR s.full
    0 ≤ sdiff32 r x.nextR → s.pwr.mode = .run → exec (.rasterStart dt re) s₀ = .next (s.rasterBegin re r)) ∧
  (EventCase fun dt s₀ s => ∀ (re : Fin 4) (under : List (Nat × BitVec 4)) (bad : Bool) (t : Transfer),
    let c := s.raster[re].cfg
    s.raster[re].xfer = some t → s.grid.rasterAt c.genlock t.r + c.lineAt (s.grid.vals t.r) t.line ≤ s.full →
      exec (.rasterLine dt re under bad) s₀ = .next (s.rasterLine re t under bad)) ∧
  (EventCase fun dt s₀ s => ∀ re : Fin 4,
    let x := s.raster[re]
    let t := s.modRaster re fun x => { x with blanked := true }
    x.blanked = false →
      s.grid.rasterAt x.cfg.genlock (x.nextR - 1) + x.cfg.lineAt (s.grid.vals (x.nextR - 1)) x.cfg.vActive ≤ s.full →
      (x.commit = true → exec (.verticalBlankingStart dt re) s₀ = .next (t.rasterCopy re)) ∧
      (x.commit = false → exec (.verticalBlankingStart dt re) s₀ = .next t)) ∧
  (EventCase fun dt s₀ s => ∀ p : VideoPacket,
    let t := s.rxTake p.eth (0x40 + p.stream.val)
    let m := t.net.st2110[p.stream]
    let r := m.take 32 p.eth.val p.seq.toNat t.now
    let u := t.modVideo p.stream fun _ => r.1
    let v := (u.modVideo p.stream fun x => { x with present := true, lostRun := false }).streamBack true p.stream.val m
    let w := v.modIngest p.stream fun g => { g with
      srcW := m.cfg.width, srcH := m.cfg.height, format := if m.cfg.videoOk then m.cfg.format else 0 }
    (r.2 = false → exec (.st2110Packet dt p) s₀ = .next u) ∧
    (r.2 = true → u.pwr.mode = .run → m.cfg.videoOk = true → w.ingest[p.stream].cfg.enable = true →
      exec (.st2110Packet dt p) s₀ = .next (w.videoPacket p.stream p (s.rxTime p.eth (0x40 + p.stream.val)))) ∧
    (r.2 = true → u.pwr.mode = .run → (m.cfg.videoOk = false ∨ w.ingest[p.stream].cfg.enable = false) →
      exec (.st2110Packet dt p) s₀ = .next w)) ∧
  (EventCase fun dt s₀ s => ∀ (i : Fin 16) (t : Nat),
    let m := s.net.aes[i]
    m.lastAt = some t → m.present = true → s.fwExpired (t + m.cfg.lossMs.toNat * 1000000) = true →
      exec (.streamLossTimeout dt false i) s₀ = .next (State.raiseF
        (s.modAes i fun m => { m with present := false, lostRun := true }) 94 [fN 0 1 1, fN 1 1 i.val, fN 2 1 1])) ∧
  (EventCase fun dt s₀ s => ∀ (k : Fin 8) (t : Nat),
    let m := s.net.st2110[k]
    m.lastAt = some t → m.present = true → s.fwExpired (t + m.cfg.lossMs.toNat * 1000000) = true →
      exec (.streamLossTimeout dt true ⟨k.val, by omega⟩) s₀ = .next (State.raiseF
        (s.modVideo k fun m => { m with present := false, lostRun := true }) 94 [fN 0 1 2, fN 1 1 k.val, fN 2 1 1])) ∧
  (HostCase opStreamSet (fun _ => 32) fun q s₀ s =>
    (streamCfg q.payload).ok (p8 q.payload 0).toNat (p8 q.payload 1).toNat (p8 q.payload 21).toNat = true →
      exec (.streamSet q) s₀ = .next ((s.defer opStreamSet (256 * (p8 q.payload 0).toNat + (p8 q.payload 1).toNat)
        q.payload).ok q opStreamSet [])) ∧
  (HostCase opStreamStatus (fun _ => 2) fun q s₀ s =>
    let table := fun (m : Media) => pack 24 [f32 0 m.packets, f32 4 m.lost, f32 8 m.late, f32 12 m.incomplete,
      f32 16 m.second, fB 20 0 m.present]
    (∀ i : Fin 16, p8 q.payload 0 = 1 → (p8 q.payload 1).toNat = i.val →
      exec (.streamStatus q) s₀ = .next (s.ok q opStreamStatus (table s.net.aes[i]))) ∧
    (∀ i : Fin 8, p8 q.payload 0 = 2 → (p8 q.payload 1).toNat = i.val →
      exec (.streamStatus q) s₀ = .next (s.ok q opStreamStatus (table s.net.st2110[i]))))

/-- A codeword boundary, and blocks of each TYPE delivered by a span, have their effects; those of CREDIT, ACK, NAK, TIME and
DATA blocks are those of a link that is up (R200 to R206, R213, R267). -/
def Obligations.LinkBlocksComplete : Prop :=
  (EventCase fun dt s₀ s => ∀ sp : Fin 12,
    let t := ((s.showRelease sp s.spans[sp]).modSpan sp Span.atBoundary).placeGap sp
    let n := t.boundaryBlock sp
    let u := (t.modLink sp fun _ => n.link.stalls t.now).departed n
    (s.sleeps sp = true → exec (.codewordTransmit dt sp) s₀ = .next (s.sleepNow sp)) ∧
    (s.sleeps sp = false → s.sendsCodewords sp = true → exec (.codewordTransmit dt sp) s₀ =
      .next ((u.modSpan sp fun x => { x with idleLeft := x.idleLeft - 1 }).sendCodeword sp (codewordOf n.bytes)))) ∧
  (BlockCase idleBytes fun dt sp errs s₀ s => exec (.idleBlock dt sp errs) s₀ = .next s) ∧
  (∀ b : Block, LinkCase (dataBytes b) fun dt sp errs s₀ s => exec (.dataBlock dt sp errs b) s₀ = .next (s.dataBlock sp b)) ∧
  (∀ freed : Vector U16 5, LinkCase (blockBytes 2 0 false false (creditPayload freed)) fun dt sp errs s₀ s =>
    exec (.creditBlock dt sp errs freed) s₀ = .next (s.modLink sp fun l => Link.stalls { l with freedTx := freed } s.now)) ∧
  (∀ lseq : U16, LinkCase (blockBytes 3 0 false false (be 2 lseq.toNat)) fun dt sp errs s₀ s =>
    exec (.ackBlock dt sp errs lseq) s₀ = .next (s.modLink sp fun l => l.ack lseq s.now)) ∧
  (∀ lseq : U16, LinkCase (blockBytes 4 0 false false (be 2 lseq.toNat)) fun dt sp errs s₀ s =>
    exec (.nakBlock dt sp errs lseq) s₀ = .next (s.vc1Resend sp (some lseq))) ∧
  (∀ t : TimeBlock, LinkCase (blockBytes 5 0 false false t.payload) fun dt sp errs s₀ s =>
    exec (.timeBlock dt sp errs t) s₀ = .next (s.timeBlock sp t)) ∧
  (∀ h : Hello, BlockCase (blockBytes 6 0 false false h.payload) fun dt sp errs s₀ s =>
    exec (.helloBlock dt sp errs h) s₀ = .next (s.helloBlock sp h)) ∧
  (BlockCase (blockBytes 7 0 false false []) fun dt sp errs s₀ s =>
    exec (.reservedBlock dt sp errs) s₀ = .next (s.modLink sp fun l => { l with badBlocks := l.badBlocks.inc }))

/-- The timers of a link have their effects (R200 to R206, R212, R259). -/
def Obligations.LinkTimersComplete : Prop :=
  (EventCase fun dt s₀ s => ∀ sp : Fin 12,
    s.links[sp].st = 2 → s.cycExpired (s.links[sp].creditAt + 10000) = true →
      exec (.creditSendDue dt sp) s₀ = .next (s.modLink sp fun l => { l with creditDue := true })) ∧
  (EventCase fun dt s₀ s => ∀ sp : Fin 12,
    (s.links[sp].st = 2 ∧ s.cycExpired (s.links[sp].helloAt + 100000) = true ∨
      (s.spans[sp].st = 2 ∨ s.spans[sp].st = 7) ∧ s.spans[sp].train.step = 9) →
      exec (.helloDue dt sp) s₀ = .next (s.modLink sp fun l => { l with helloDue := true })) ∧
  (EventCase fun dt s₀ s => ∀ sp : Fin 12,
    s.links[sp].st = 2 → s.links[sp].cfg.timeEn = true → (∀ t, s.links[sp].timeAt = some t → t + s.grid.ticksNs 16 ≤ s.now) →
      exec (.timeBlockDue dt sp) s₀ = .next (s.modLink sp fun l => { l with timeDue := true, timeAt := some s.now })) ∧
  (EventCase fun dt s₀ s => ∀ (sp : Fin 12) (vc : Fin 5) (t : Nat),
    s.links[sp].stall[vc] = some t → s.links[sp].stalled[vc] = false →
      s.cycExpired (t + s.tre.cfg.creditStallUs.toNat * 1000) = true →
      exec (.creditStallTimeout dt sp vc) s₀ = .next (State.raiseF
        (s.modLink sp fun l => { l with stalled := l.stalled.set vc true, creditStalls := l.creditStalls.inc }) 70
        [fN 0 1 sp.val, fN 1 1 vc.val])) ∧
  (EventCase fun dt s₀ s => ∀ (sp : Fin 12) (vc : Fin 2) (t : Nat),
    s.links[sp].stall.toList.getD vc.val none = some t → s.cycExpired (t + 1000000) = true →
      exec (.creditStallLinkDown dt sp vc) s₀ = .next (s.linkDown sp 3)) ∧
  (EventCase fun dt s₀ s => ∀ sp : Fin 12,
    s.links[sp].replay ≠ [] → s.cycExpired (s.links[sp].ackWait + s.tre.cfg.ackTimeoutUs.toNat * 1000) = true →
      exec (.ackTimeout dt sp) s₀ = .next (s.vc1Resend sp none)) ∧
  (EventCase fun dt s₀ s => ∀ sp : Fin 12,
    (∀ t, s.spans[sp].gapRx = some (.open_ t) → t + 8000 ≤ s.now) → s.fwExpired (s.links[sp].fecAt + 2000) = true →
      exec (.fecFailTimeout dt sp) s₀ = .next (s.linkDown sp 2))

/-- Every message of the Trestle that the engine accepts has its effect (R209 to R228). -/
def Obligations.DomainMessagesComplete : Prop :=
  (MsgCase fun dt span m s₀ s => exec (.latchMsg dt span m) s₀ = .next (s.acceptLatch (Latch.parse m.payload))) ∧
  (MsgCase fun dt span m s₀ s => exec (.reportMsg dt span m) s₀ = .next (s.reportMsg m.payload)) ∧
  (MsgCase fun dt span m s₀ s => exec (.memberMsg dt span m) s₀ = .next (s.memberMsg m.src m.payload)) ∧
  (MsgCase fun dt span m s₀ s => exec (.mergeMsg dt span m) s₀ = .next (s.mergeMsg (parseMerge m.payload))) ∧
  (MsgCase fun dt span m s₀ s =>
    let t := s.raiseF 65 [f32 0 m.src, fN 4 1 (rdBE m.payload 4 1), fN 5 1 (rdBE m.payload 5 1)]
    (rdBE m.payload 5 1 = 2 → exec (.linkEventMsg dt span m) s₀ =
      .next (State.topologyChange { t with tre.sawLinkUp := true, tre.refused := [], tre.absorbed := [] })) ∧
    (rdBE m.payload 5 1 ≠ 2 → exec (.linkEventMsg dt span m) s₀ = .next t.topologyChange)) ∧
  (MsgCase fun dt span m s₀ s => exec (.updateMsg dt span m) s₀ = .next s) ∧
  (MsgCase fun dt span m s₀ s => exec (.returnMsg dt span m) s₀ = .next (s.returnMsg span m)) ∧
  (MsgCase fun dt span m s₀ s => ∀ turn : U32, exec (.pathProbeMsg dt span m turn) s₀ =
    .next (s.unicast m.src 0x0023 (bytesAt m.payload 0 8 ++ be 4 turn.toNat))) ∧
  (MsgCase fun dt span m s₀ s => exec (.pathEchoMsg dt span m) s₀ = .next (s.pathEcho m)) ∧
  (MsgCase fun dt span m s₀ s => exec (.rasterFrameMsg dt span m) s₀ = .next s) ∧
  (MsgCase fun dt span m s₀ s => exec (.rasterLineMsg dt span m) s₀ = .next s)

/-- The timers of a latch domain have their effects (R210, R215, R218, R221). -/
def Obligations.DomainTimersComplete : Prop :=
  (EventCase fun dt s₀ s =>
    let m := s.latchFrame
    let t := s.houseReturn
    let l := t.makeLatch m
    let u := t.flood 0x0001 l.bytes
    s.latchReady m = true →
      (u.tre.cfg.latchRepeat = false → exec (.latchIssue dt) s₀ = .next (u.acceptLatch l)) ∧
      (u.tre.cfg.latchRepeat = true → exec (.latchIssue dt) s₀ = .next (State.acceptLatch
        { u with tre.latchCopy := u.tre.latchCopy ++ [(m, Latch.bytes { l with copy := 1 }, u.now)] } l))) ∧
  (EventCase fun dt s₀ s => ∀ c rest, s.tre.latchCopy = c :: rest → c.2.2 + 4000 ≤ s.now →
    exec (.latchRepeat dt) s₀ = .next (State.flood { s with tre.latchCopy := rest } 0x0001 c.2.1)) ∧
  (EventCase fun dt s₀ s => s.grid.memberDue = true →
    exec (.memberFlood dt) s₀ = .next (State.floodMember { s with grid.memberDue := false })) ∧
  (EventCase fun dt s₀ s =>
    exec (.memberTimeout dt) s₀ = .next (s.dropMembers fun e => s.fwExpired (e.heardAt + s.memberTimeoutNs))) ∧
  (EventCase fun dt s₀ s =>
    exec (.partitionWaitExpiry dt) s₀ =
      .next (s.dropMembers fun e => e.unconfirmed.any fun t => s.fwExpired (t + s.partitionNs))) ∧
  (EventCase fun dt s₀ s => exec (.routeAgeExpiry dt) s₀ = .next { s with
    tre.learned := s.tre.learned.filter fun e => !s.fwExpired (e.at_ + s.tre.cfg.routeAgeS.toNat * 1000000000) }) ∧
  (EventCase fun dt s₀ s => s.fwExpired (s.tre.probeAt + 1000000000) = true →
    exec (.pathProbeDue dt) s₀ = .next (State.probePaths { s with tre.probeAt := s.now }))

/-- TRESTLE_SET, MEMBER_READ, LINK_SET and LINK_COUNTERS have their effects; TRESTLE_STATUS, ROUTE_READ and DEST_STATUS return
their tables (R216, R231). -/
def Obligations.TrestleCommandsComplete : Prop :=
  (HostCase opTrestleSet (fun _ => 32) fun q s₀ s =>
    let c := trestleCfg q.payload
    let node := p32 q.payload 0
    node < 0xFFFFFFF0#32 → 16 ≤ c.hopLimit.toNat → 50 ≤ c.partitionWaitUs.toNat → c.partitionWaitUs.toNat ≤ 10000 →
      2 ≤ c.memberTimeoutFrames.toNat → c.memberTimeoutFrames.toNat ≤ 16 → 1 ≤ c.refreshFrames.toNat →
      c.refreshFrames.toNat ≤ 32 → c.outputMarginUs.toNat ≤ 20000 → 10 ≤ c.creditStallUs.toNat →
      c.creditStallUs.toNat ≤ 10000 → 5 ≤ c.ackTimeoutUs.toNat → c.ackTimeoutUs.toNat ≤ 1000 → 1 ≤ c.routeAgeS.toNat →
      c.routeAgeS.toNat ≤ 3600 → (node = s.tre.nodeId ∨ s.grid.stopped = true) →
      exec (.trestleSet q) s₀ = .next (((s.setNode node).defer opTrestleSet 0 q.payload).ok q opTrestleSet [])) ∧
  (HostCase opTrestleStatus (fun _ => 0) fun q s₀ s =>
    exec (.trestleStatus q) s₀ = .next (s.ok q opTrestleStatus (pack 32 [f32 0 s.tre.nodeId, f32 4 s.memberId, f32 8 s.rootId,
      f16 12 s.tre.gen, fN 14 2 s.memberIds.length, fN 16 1 (if s.isIssuer then 1 else if s.holds then 0 else 2),
      fN 17 1 ((s.tre.timeParent.map Fin.val).getD 255), f16 18 s.tre.rootDist, f32 20 (lastFrame s.tre.latchedEver),
      f16 24 s.grid.k, fN 26 2 s.tre.learned.length,
      f32 28 ((s.tre.merges.head?.map fun g => g.frame).getD 0xFFFFFFFF)]))) ∧
  (HostCase opMemberRead (fun _ => 2) fun q s₀ s => ∀ e, s.memberList[(p16 q.payload 0).toNat]? = some e →
    exec (.memberRead q) s₀ = .next (s.ok q opMemberRead
      (pack 16 [f32 0 e.1.id, f32 4 e.1.holder, f32 8 e.1.lastCommit, f16 12 e.1.kLocal, fN 14 1 e.2]))) ∧
  (HostCase opRouteRead (fun _ => 4) fun q s₀ s =>
    let r := s.tre.learned.find? fun e => e.node == p32 q.payload 0
    (r = none → exec (.routeRead q) s₀ = .next (s.ok q opRouteRead (pack 8 [fN 0 1 255]))) ∧
    (∀ e, r = some e → exec (.routeRead q) s₀ = .next (s.ok q opRouteRead
      (pack 8 [fN 0 1 e.span.val, f16 2 e.hops, fN 4 4 (sat32 ((s.now - e.at_) / 1000000))])))) ∧
  (HostCase opLinkSet (fun _ => 16) fun q s₀ s =>
    (p8 q.payload 0).toNat < 12 → p8 q.payload 2 ≠ 0 → p8 q.payload 3 ≠ 0 →
      exec (.linkSet q) s₀ = .next ((s.defer opLinkSet (p8 q.payload 0).toNat q.payload).ok q opLinkSet [])) ∧
  (HostCase opLinkCounters (fun _ => 2) fun q s₀ s => ∀ sp : Fin 12,
    (p8 q.payload 0).toNat = sp.val →
      exec (.linkCounters q) s₀ = .next (State.ok
        (if pbit q.payload 1 0 then s.modLink sp Link.clear else s) q opLinkCounters s.links[sp].counters)) ∧
  (HostCase opDestStatus (fun _ => 4) fun q s₀ s => ∀ im r,
    let d := s.dest (p32 q.payload 0).toNat
    s.outImage = some im → im.routes[(p32 q.payload 0).toNat]? = some r →
      exec (.destStatus q) s₀ = .next (s.ok q opDestStatus (pack 32 [f16 0 d.lead, f8 2 r.kind, fB 3 0 d.capped,
        fB 3 1 d.needRefresh, f32 4 d.pathNs, f32 8 d.xferNs, f32 12 (lastFrame d.sentEver), f32 16 d.lastLatched,
        f32 20 d.fullRefreshes, f32 24 d.lateSends, f32 28 d.lateLatches])))

/-- Lane signals, training frames, step windows and training timers have their effects (R242, R246 to R255, R271, R496). -/
def Obligations.LaneSignalsComplete : Prop :=
  (EventCase fun dt s₀ s => ∀ (sp : Fin 12) (lane : Fin 6),
    let t := s.modSpan sp fun x => x.markLost lane.val true
    let x := t.spans[sp]
    (x.st = 3 → exec (.laneLos dt sp lane) s₀ = .next (t.laneLost sp lane.val)) ∧
    (x.st = 2 → (lane = 5 ∨ 2 ≤ x.losCount) → x.train.lockAt = none →
      exec (.laneLos dt sp lane) s₀ = .next (t.abortAttempt sp)) ∧
    (∀ e, x.st = 2 → lane ≠ 5 → 2 ≤ x.losCount → x.train.lockAt = some e → s.fwExpired e = false →
      exec (.laneLos dt sp lane) s₀ = .next (t.modSpan sp fun x => { x with losDue := true }))) ∧
  (EventCase fun dt s₀ s => ∀ (sp : Fin 12) (lane : Fin 5),
    exec (.laneLosClear dt sp ⟨lane.val, by omega⟩) s₀ =
      .next (s.modSpan sp fun x => x.modLane lane.val fun l => { l with los := false, lol := false })) ∧
  (EventCase fun dt s₀ s => ∀ sp : Fin 12,
    let t := s.modSpan sp fun x => { x with ckLos := false, ckLol := false }
    (t.peerWakes sp = true → exec (.laneLosClear dt sp 5) s₀ =
      .next (State.beginAttempt (t.modSpan sp fun x => { x with st := 1, sleep := none }) sp)) ∧
    (t.peerWakes sp = false → t.spans[sp].quietUntil ≤ t.now →
      exec (.laneLosClear dt sp 5) s₀ = .next (t.beginAttempt sp))) ∧
  (EventCase fun dt s₀ s => ∀ (sp : Fin 12) (lane : Fin 6),
    let t := s.modSpan sp fun x => x.markLost lane.val false
    t.spans[sp].st = 3 → exec (.laneLol dt sp lane) s₀ = .next (t.laneLost sp lane.val)) ∧
  (EventCase fun dt s₀ s => ∀ sp : Fin 12,
    s.attemptDue sp = true → exec (.trainingAttemptStart dt sp) s₀ = .next (s.beginAttempt sp)) ∧
  (EventCase fun dt s₀ s => ∀ (sp : Fin 12) (f : TrainFrame),
    exec (.trainingFrameRx dt sp f) s₀ = .next (s.trainingFrame sp f)) ∧
  (EventCase fun dt s₀ s => ∀ (sp : Fin 12) (r : StepResult) (t : Nat),
    (s.spans[sp].st = 7 ∨ s.spans[sp].st = 2 ∧ s.spans[sp].train.windowEnd = some t ∧ s.fwExpired t = true) →
      exec (.trainingStepWindowEnd dt sp r) s₀ = .next ((s.stepEnd sp r).showTx sp)) ∧
  (EventCase fun dt s₀ s => ∀ sp : Fin 12,
    s.spans[sp].st = 2 → s.fwExpired (s.spans[sp].train.t0 + 250000000) = true →
      exec (.trainingTimeout dt sp) s₀ =
        .next (s.failAttempt sp (if s.spans[sp].train.seen.isEmpty then 1 else 2))) ∧
  (EventCase fun dt s₀ s => ∀ sp : Fin 12,
    s.fwExpired s.spans[sp].quietUntil = true → s.attemptDue sp = true →
      exec (.quietPeriodEnd dt sp) s₀ = .next (s.beginAttempt sp)) ∧
  (EventCase fun dt s₀ s => ∀ sp : Fin 12,
    s.fwExpired s.spans[sp].nextAttempt = true → s.attemptDue sp = true →
      exec (.trainingRetryTimer dt sp) s₀ = .next (s.beginAttempt sp)) ∧
  (EventCase fun dt s₀ s => ∀ sp : Fin 12, exec (.codewordUncorrectable dt sp) s₀ = .next (s.codewordBad sp))

/-- Rotation, calibration gaps, wake and the health check have their effects (R255 to R270). -/
def Obligations.CalibrationEventsComplete : Prop :=
  (EventCase fun dt s₀ s => ∀ (sp : Fin 12) (lane : Fin 5) (seen : Taps),
    let x := s.spans[sp]
    let n := x.bitErrors s.now (· == lane.val)
    let high := decide (x.laneBits < n * 10 ^ x.cfg.fecWarnExp.toNat)
    let t := State.raiseIf (s.modSpan sp fun x => x.modLane lane.val fun l =>
      { l with taps := { l.taps with eyeW := seen.eyeW, eyeH := seen.eyeH }, warned := high })
      (high && !x.lane[lane].warned) 77 [fN 0 1 sp.val, fN 1 1 lane.val, fN 4 4 (x.ppt n 1)]
    ((x.eyeMoved lane seen || high) = true →
      exec (.calibrationNeeded dt sp lane seen) s₀ = .next (t.needCalibration sp lane.val)) ∧
    ((x.eyeMoved lane seen || high) = false → exec (.calibrationNeeded dt sp lane seen) s₀ = .next t)) ∧
  (EventCase fun dt s₀ s => ∀ sp : Fin 12,
    let x := s.spans[sp]
    x.cfg.calIntervalMs ≠ 0 → s.fwExpired (x.rotatedAt + x.cfg.calIntervalMs.toNat * 1000000) = true →
      exec (.rotationTimer dt sp) s₀ = .next (s.beginRotation sp ((x.lastRotated + 1) % 4))) ∧
  (EventCase fun dt s₀ s => ∀ (sp : Fin 12) (t : Taps) (r : Rotation),
    let u := fun (lane : Nat) => s.modSpan sp fun x => x.modLane lane fun l => { l with taps := t, sweeps := l.sweeps.inc }
    s.spans[sp].rotation = some r → s.cycExpired r.sweepEnd = true →
      (r.phase = 2 → exec (.spareSweepEnd dt sp t) s₀ = .next (((u r.dest).modSpan sp fun x =>
        { x with rotation := some { r with phase := 3 } }).laneAsk sp 2
          { laneCtl0 with logical := BitVec.ofNat 8 r.logical, physical := BitVec.ofNat 8 r.dest })) ∧
      (r.phase = 7 → exec (.spareSweepEnd dt sp t) s₀ = .next (((u r.from_).modSpan sp fun x =>
        { x with rotation := none, rotations := x.rotations.inc, lastRotated := r.logical,
                 rx := { x.rx with spare := some r.from_ } }).laneAsk sp 4
          { laneCtl0 with logical := BitVec.ofNat 8 r.logical, physical := BitVec.ofNat 8 r.from_ }))) ∧
  (EventCase fun dt s₀ s => ∀ (sp : Fin 12) (r : Rotation),
    s.spans[sp].rotation = some r → r.phase = 4 → 1024 ≤ (s.spans[sp].cwRx - r.c1).toInt →
      exec (.duplicateCompareEnd dt sp true) s₀ =
        .next (s.modSpan sp fun x => { x with rotation := some { r with phase := 5 } }) ∧
      exec (.duplicateCompareEnd dt sp false) s₀ =
        .next ((s.abandonRotation sp).laneAsk sp 4 { laneCtl0 with physical := BitVec.ofNat 8 r.dest })) ∧
  (EventCase fun dt s₀ s => ∀ (sp : Fin 12) (r : Rotation),
    s.spans[sp].rotation = some r → r.phase = 5 → 1088 ≤ (s.spans[sp].cwRx - r.c1).toInt →
      exec (.laneSwapCodeword dt sp) s₀ = .next ((s.modSpan sp fun x =>
        { x with rotation := some { r with phase := 6 },
                 rx := { x.rx with lanes := x.rx.lanes.set r.logical r.dest, spare := none } }).laneAsk sp 3
          { laneCtl0 with logical := BitVec.ofNat 8 r.logical, physical := BitVec.ofNat 8 r.from_ })) ∧
  (EventCase fun dt s₀ s => ∀ (sp : Fin 12) (taps : List (Fin 5 × Taps)) (cw : U32),
    (s.spans[sp].gapRx = some (.placed cw) → 0 ≤ (s.spans[sp].cwRx - cw).toInt →
      exec (.calGapStart dt sp false taps) s₀ = .next (State.raiseF (s.modSpan sp fun x =>
        let y := { x with calGaps := x.calGaps.inc }
        { y.setTaps taps with
          gapRx := some (.open_ s.now), lock := false, goodRun := 0, badRun := 0
          lane := (y.setTaps taps).lane.map fun l => { l with preRx := 0, prePeer := 0 } }) 76 [fN 0 1 sp.val, fN 1 1 1])) ∧
    (s.spans[sp].gapTx = some (.placed cw) → 0 ≤ (s.spans[sp].cwTx - cw).toInt →
      exec (.calGapStart dt sp true taps) s₀ = .next (State.raiseF (State.showTx (s.modSpan sp fun x =>
        { x with calGaps := x.calGaps.inc, gapTx := some (.open_ s.now), lane := x.lane.map fun l => { l with pre := 0 } }) sp) 76
          [fN 0 1 sp.val, fN 1 1 1]))) ∧
  (EventCase fun dt s₀ s => ∀ (sp : Fin 12) (t : Nat),
    s.spans[sp].gapRx = some (.open_ t) → s.cycExpired (t + 8000) = true →
      exec (.calGapLockTimeout dt sp) s₀ = .next (s.linkDown sp 7)) ∧
  (EventCase fun dt s₀ s => ∀ (sp : Fin 12) (f : U32),
    (s.spans[sp].cfg.calGapWait.toNat : Int) ≤ sdiff32 (lastFrame s.grid.frame) f →
      (s.spans[sp].gapTx = some (.wait f false) → exec (.calGapDeferral dt sp) s₀ = .next (State.raiseF
        (s.modSpan sp fun x => { x with gapTx := some (.wait f true) }) 76 [fN 0 1 sp.val, fN 1 1 2])) ∧
      (s.spans[sp].gapTx = none → s.spans[sp].gapRx = some (.wait f false) →
        exec (.calGapDeferral dt sp) s₀ = .next (State.raiseF
          (s.modSpan sp fun x => { x with gapRx := some (.wait f true) }) 76 [fN 0 1 sp.val, fN 1 1 2]))) ∧
  (EventCase fun dt s₀ s => ∀ (sp : Fin 12) (w g : Nat),
    s.spans[sp].sleep = some (w, g) → s.spans[sp].st = 5 → w ≤ s.full + g →
      exec (.sleepWake dt sp) s₀ = .next (((s.modSpan sp fun x =>
        { x with st := 7, wokeAt := s.now, downSince := s.now, alignSeen := false, step := 7, lock := false, goodRun := 0,
                 cwTx := 0, lane := x.lane.map (fun l => { l with pre := 0 }),
                 train := { t0 := s.now, step := 7, rAt := some s.now, cfg := x.train.cfg } }).linkState sp 1).showTx sp)) ∧
  (EventCase fun dt s₀ s => ∀ (sp : Fin 12) (w g : Nat),
    s.spans[sp].sleep = some (w, g) → s.spans[sp].st = 7 → s.spans[sp].alignSeen = false →
      s.fwExpired (s.spans[sp].wokeAt + 4 * g) = true →
      exec (.wakeDriftTimeout dt sp) s₀ = .next (State.beginAttempt (State.raiseF
        (s.modSpan sp fun x => { x with st := 1, sleep := none, wakeDrifts := x.wakeDrifts.inc }) 74 [fN 0 1 sp.val]) sp)) ∧
  (EventCase fun dt s₀ s => ∀ sp : Fin 12,
    s.downTooLong sp = true → exec (.spanHealthDownTimeout dt sp) s₀ = .next (s.spanFail sp 1)) ∧
  (EventCase fun dt s₀ s => ∀ sp : Fin 12,
    s.spans[sp].healthFail = true → s.downTooLong sp = false →
      s.fwExpired (s.spans[sp].healthAt + 1000000000) = true →
      exec (.spanHealthRecover dt sp) s₀ = .next (State.spanCheck
        (State.raiseF (s.modSpan sp fun x => { x with healthFail := false }) 78 [fN 0 1 sp.val, fN 1 1 2])))

/-- The nine kinds of LANE_CTL and the answer timeout have their effects on a link that is up (R255 to R267). -/
def Obligations.LaneControlComplete : Prop :=
  (EventCase fun dt s₀ s => ∀ (sp : Fin 12) (m : LaneCtl),
    let x := s.spans[sp]
    let cw := s.chooseCw sp
    s.links[sp].st = 2 → x.sleepDue = false → x.gapTx = none →
      (x.txPhase = 0 → x.tx.spare = some m.physical.toNat → x.spareDriven = false →
        exec (.laneCtlSpareOn dt sp m) s₀ =
          .next (((s.modSpan sp fun x => { x with txPhase := 1 }).laneAnswer sp true m m.startCw).emit
            (.spanTx sp.val (.pattern x.rate.toNat [(m.physical.toNat, 4)])))) ∧
      (x.txPhase = 1 → m.logical.toNat < 4 → exec (.laneCtlDuplicate dt sp m) s₀ =
        .next ((s.draw.modSpan sp fun x => { x with txPhase := 2, txDup := some (m.logical.toNat, cw) }).laneAnswer sp true m cw)) ∧
      (∀ j c k, x.txPhase = 2 → x.txDup = some (j, c) → x.tx.spare = some k → exec (.laneCtlRelease dt sp m) s₀ =
        .next ((s.draw.modSpan sp fun x => { x with txPhase := 3, txMove := some ⟨j, k, cw, true⟩ }).laneAnswer sp true m cw)) ∧
      (exec (.laneCtlSpareIdle dt sp m) s₀ =
        .next (((s.modSpan sp fun x => { x with txPhase := 0, txDup := none }).laneAnswer sp true m m.startCw).emit
          (.spanTx sp.val (.pattern x.rate.toNat [])))) ∧
      (m.logical.toNat < 4 → x.tx.spare = some m.physical.toNat → exec (.laneCtlLaneFault dt sp m) s₀ =
        .next (((s.draw.modSpan sp fun x => { x with
          tx := { x.tx with spare := none }, txMove := some ⟨m.logical.toNat, m.physical.toNat, cw, false⟩, txPhase := 0
          txDup := none }).laneAnswer sp true m cw).raiseLane sp 1 (x.tx.physical m.logical.toNat) m.logical.toNat)) ∧
      (x.txPhase = 0 →
        let g : Gap := if m.startCw = 0xFFFFFFFF then .wait (lastFrame s.grid.frame) false else .placed m.startCw
        exec (.laneCtlCalGap dt sp m) s₀ = .next (State.placeGap
          ((s.modSpan sp fun x => { x with gapTx := some g, gapTag := m.tag }).laneAnswer sp true m m.startCw) sp)) ∧
      (x.rotation = none → x.gapRx = none → x.txPhase = 0 → (∀ c, x.ctl = some c → c.op ≠ 7) →
        exec (.laneCtlSleep dt sp m) s₀ = .next (s.acceptSleep sp m))) ∧
  (EventCase fun dt s₀ s => ∀ (sp : Fin 12) (m : LaneCtl) (c : CtlReq),
    let t := s.modSpan sp fun x => { x with ctl := none }
    s.links[sp].st = 2 → s.spans[sp].ctl = some c → c.msg.tag = m.tag →
      (c.op = 4 → exec (.laneCtlAck dt sp m) s₀ = .next (t.nextCalibration sp)) ∧
      (c.op = 5 → exec (.laneCtlAck dt sp m) s₀ = .next (t.modSpan sp fun x => Span.moveRx
        { x with rxMove := some ⟨c.msg.logical.toNat, c.msg.physical.toNat, m.startCw, false⟩ })) ∧
      (c.op = 6 → m.startCw ≠ 0xFFFFFFFF →
        exec (.laneCtlAck dt sp m) s₀ = .next (t.modSpan sp fun x => { x with gapRx := some (.placed m.startCw) })) ∧
      (c.op = 7 → exec (.laneCtlAck dt sp m) s₀ = .next (t.modSpan sp fun x => { x with
        sleep := some (c.msg.wakeS * 1000000000 + c.msg.wakeNs, c.msg.guardUs.toNat * 1000), sleepDue := true })) ∧
      (∀ r, c.op < 4 → s.spans[sp].rotation = some r →
        exec (.laneCtlAck dt sp m) s₀ = .next (t.rotationAck sp r c.op m.startCw)) ∧
      exec (.laneCtlNak dt sp m) s₀ = .next (s.giveUp sp c)) ∧
  (EventCase fun dt s₀ s => ∀ (sp : Fin 12) (c : CtlReq),
    s.spans[sp].ctl = some c → s.cycExpired (c.sentAt + 20000) = true →
      (c.again = false → exec (.laneCtlAnswerTimeout dt sp) s₀ = .next
        ((s.modSpan sp fun x => { x with ctl := some { c with sentAt := s.now, again := true } }).laneSend sp c.op c.msg)) ∧
      (c.again = true → exec (.laneCtlAnswerTimeout dt sp) s₀ =
        .next ((s.modSpan sp fun x => { x with ctlAbandoned := x.ctlAbandoned.inc }).giveUp sp c)))

/-- SPAN_SET, SPAN_STATUS, LANE_STATUS, SPAN_TRAIN, SPAN_CAL, PRBS_SET, PRBS_READ, ERROR_INJECT, BIT_SLIP, LANE_TAPS_SET
and SPAN_SLEEP have their effects (R263 to R273). -/
def Obligations.SpanCommandsComplete : Prop :=
  (HostCase opSpanSet (fun _ => 16) fun q s₀ s =>
    let c := spanCfg q.payload
    (p8 q.payload 0).toNat < 12 → c.mode ≤ 2 → 1000 ≤ c.rateMbd.toNat → c.rateMbd.toNat ≤ 8000 →
      c.rateMbd.toNat % 125 = 0 → (c.calIntervalMs = 0 ∨ 100 ≤ c.calIntervalMs.toNat ∧ c.calIntervalMs.toNat ≤ 60000) →
      1 ≤ c.calTrim.toNat → c.calTrim.toNat ≤ 16 → 1 ≤ c.calGapWait.toNat → 100 ≤ c.healthDownUs.toNat →
      c.healthDownUs.toNat ≤ 60000 → 1 ≤ c.healthUe.toNat → 4 ≤ c.fecWarnExp.toNat → c.fecWarnExp.toNat ≤ 12 →
      exec (.spanSet q) s₀ = .next (State.ok
        (State.setSpan q.payload (s.remember opSpanSet (p8 q.payload 0).toNat q.payload)) q opSpanSet [])) ∧
  (HostCase opSpanStatus (fun _ => 1) fun q s₀ s => ∀ sp : Fin 12, (p8 q.payload 0).toNat = sp.val →
    exec (.spanStatus q) s₀ = .next (s.ok q opSpanStatus (s.spanData sp))) ∧
  (HostCase opLaneStatus (fun _ => 2) fun q s₀ s => ∀ (sp : Fin 12) (p : Fin 5),
    (p8 q.payload 0).toNat = sp.val → (p8 q.payload 1).toNat = p.val →
      exec (.laneStatus q) s₀ = .next (s.ok q opLaneStatus (s.laneData sp p))) ∧
  (HostCase opSpanTrain (fun _ => 1) fun q s₀ s => ∀ sp : Fin 12,
    let d := s.linkDown sp 8
    let t := d.raiseIf d.spans[sp].dormant 73 [fN 0 1 sp.val, fN 1 1 2]
    (p8 q.payload 0).toNat = sp.val →
      (d.spans[sp].cfg.mode = 1 → exec (.spanTrain q) s₀ = .next (State.ok (State.linkState (t.modSpan sp fun x =>
        { x with st := 1, failCount := 0, dormant := false, sleep := none, quietUntil := t.now + 10000000,
                 nextAttempt := t.now + 10000000 }) sp 0) q opSpanTrain [])) ∧
      (d.spans[sp].cfg.mode ≠ 1 → exec (.spanTrain q) s₀ = .next (State.ok (State.linkState (t.modSpan sp fun x =>
        { x with failCount := 0, dormant := false }) sp 0) q opSpanTrain []))) ∧
  (HostCase opSpanCal (fun _ => 2) fun q s₀ s => ∀ sp : Fin 12,
    let j := p8 q.payload 1
    let x := s.spans[sp]
    (p8 q.payload 0).toNat = sp.val → (j.toNat < 4 ∨ j = 0xFF) → s.links[sp].st = 2 → x.calBusy = false →
      (x.rx.spare.isSome = true → exec (.spanCal q) s₀ =
        .next ((s.beginRotation sp (if j = 0xFF then (x.lastRotated + 1) % 4 else j.toNat)).ok q opSpanCal [])) ∧
      (x.rx.spare = none → exec (.spanCal q) s₀ = .next ((s.askGap sp).ok q opSpanCal []))) ∧
  (HostCase opPrbsSet (fun _ => 4) fun q s₀ s => ∀ (sp : Fin 12) (p : Fin 5),
    let g := pbits q.payload 2 0 4
    let c := pbits q.payload 2 4 4
    let x := s.spans[sp]
    (p8 q.payload 0).toNat = sp.val → (p8 q.payload 1).toNat = p.val → g ≤ 4 → c ≤ 4 →
      s.prbsAllowed sp p (g != 0) (c != 0) = true →
      exec (.prbsSet q) s₀ = .next (State.ok ((s.modSpan sp fun x => x.modLane p.val fun l => { l with
        gen := g, check := c, chk := if l.check = c then l.chk else { l.chk with lock := false, run := 0, recent := [] } }).emit
        (.spanTx sp.val (.pattern (if x.cfg.mode = 2 then x.cfg.rateMbd else x.rate).toNat [(p.val, g)]))) q opPrbsSet [])) ∧
  (HostCase opPrbsRead (fun _ => 3) fun q s₀ s => ∀ (sp : Fin 12) (p : Fin 5) (seen : PrbsSeen),
    let old := s.spans[sp].lane[p].chk
    let new := if s.spans[sp].lane[p].check = 0 then old else old.take seen.bits 0 seen.errors
    let t := (List.range (new.runs - old.runs)).foldl (fun (s : State) _ => s.raiseF 79 [fN 0 1 sp.val, fN 1 1 p.val]) s
    (p8 q.payload 0).toNat = sp.val → (p8 q.payload 1).toNat = p.val →
      exec (.prbsRead q seen) s₀ = .next (State.ok (t.modSpan sp fun x => x.modLane p.val fun l =>
        { l with chk := if pbit q.payload 2 0 then { new with bits := 0, errors := 0, losses := 0 } else new }) q opPrbsRead
        (pack 20 [fN 0 6 new.bits, fN 8 6 new.errors, fB 14 0 new.lock, f32 16 new.losses]))) ∧
  (HostCase opErrorInject (fun _ => 12) fun q s₀ s => ∀ (sp : Fin 12) (p : Fin 5),
    let burst := pbit q.payload 2 1
    let len := rd q.payload 4 2
    let n := rd q.payload 6 2
    (p8 q.payload 0).toNat = sp.val → (p8 q.payload 1).toNat = p.val → (burst = true → 2 ≤ len ∧ len ≤ 256) →
      1 ≤ rd q.payload 8 4 →
      exec (.errorInject q) s₀ = .next (State.ok (s.modSpan sp fun x => x.modLane p.val fun l =>
        { l with inject := if n = 0 then none else some ⟨pbit q.payload 2 0, if burst then len else 1, n, rd q.payload 8 4, 1⟩ })
        q opErrorInject [])) ∧
  (HostCase opBitSlip (fun _ => 4) fun q s₀ s => ∀ (sp : Fin 12) (p : Fin 5),
    (p8 q.payload 0).toNat = sp.val → (p8 q.payload 1).toNat = p.val → s.spans[sp].cfg.mode = 2 →
      1 ≤ (p8 q.payload 2).toNat →
      exec (.bitSlip q) s₀ = .next (State.ok (s.modSpan sp fun x => x.modLane p.val fun l =>
        { l with slip := l.slip + (p8 q.payload 2).toNat }) q opBitSlip [])) ∧
  (HostCase opLaneTapsSet (fun _ => 8) fun q s₀ s => ∀ (sp : Fin 12) (p : Fin 5),
    let pk := (p8 q.payload 2).toNat
    let dl := (p8 q.payload 3).toNat
    let th := fun i => (p8 q.payload (4 + i)).toInt
    (p8 q.payload 0).toNat = sp.val → (p8 q.payload 1).toNat = p.val → s.spans[sp].cfg.mode = 2 →
      (pk = 0xFF ∨ pk ≤ 15) → (dl = 0xFF ∨ dl ≤ 63) → (∀ i < 3, th i = -128 ∨ -32 ≤ th i ∧ th i ≤ 31) →
      exec (.laneTapsSet q) s₀ = .next (State.ok (s.modSpan sp fun x => x.modLane p.val fun l =>
        let t := l.taps
        { l with taps := { t with peak := if pk = 0xFF then t.peak else BitVec.ofNat 4 pk,
                                  delay := if dl = 0xFF then t.delay else BitVec.ofNat 6 dl,
                                  lo := tapOr (th 0 == -128) t.lo (th 0), mid := tapOr (th 1 == -128) t.mid (th 1),
                                  hi := tapOr (th 2 == -128) t.hi (th 2) } }) q opLaneTapsSet [])) ∧
  (HostCase opSpanSleep (fun _ => 20) fun q s₀ s =>
    let n := (p8 q.payload 0).toNat
    let g := rd q.payload 2 2
    let w := rd q.payload 4 6 * 1000000000 + rd q.payload 12 4
    let sps := s.sleepSpans n
    (n < 12 ∨ n = 0xFF) → 500 ≤ g → g ≤ 50000 → rd q.payload 12 4 ≤ 999999999 → sps ≠ [] →
      (∀ sp ∈ sps, s.links[sp].st = 2 ∧ s.spans[sp].calBusy = false) → s.full + 10000000 + g * 1000 ≤ w →
      exec (.spanSleep q) s₀ = .next ((sps.foldl (fun (s : State) sp => s.laneAsk sp 7
        { laneCtl0 with guardUs := BitVec.ofNat 16 g, wakeS := rd q.payload 4 6, wakeNs := rd q.payload 12 4 }) s).ok q opSpanSleep
        []))

/-- PORT_SET, INPUT_SET, SACN_SET, RDM_DISCOVER and RDM_REQUEST have their effects; PORT_STATUS, INPUT_READ, SACN_STATUS,
RDM_UID_READ and RDM_RESULT_READ return their tables (R280, R290 to R295, R307). -/
def Obligations.PortCommandsComplete : Prop :=
  (HostCase opPortSet (fun _ => 44) fun q s₀ s =>
    let n := (p8 q.payload 0).toNat
    let c := pairCfg q.payload
    n < 32 → c.ok = true → (s.mb.spi = true → n < 29) → (c.mode = 0 ∨ s.bankUp (pairOf (2 * n)) = true) →
      exec (.portSet q) s₀ = .next ((s.defer opPortSet n q.payload).ok q opPortSet [])) ∧
  (HostCase opPortStatus (fun _ => 1) fun q s₀ s => ∀ p : Fin 32,
    let x := s.ports.pair[p]
    let r := s.pairRoute p
    (p8 q.payload 0).toNat = p.val →
      exec (.portStatus q) s₀ = .next (s.ok q opPortStatus (pack 32 [f8 0 x.cfg.mode,
        fB 1 0 (x.cfg.mode == 2 && s.ports.input.any fun e =>
          e.2.cfg.kind == 2 && e.2.cfg.source.toNat == p.val && !e.2.lost),
        fN 2 1 (match r with
          | some e => if e.2.kind = 5 then 1 else s.grid.v.divider (s.portXD e.2).1
          | none => 1),
        f16 4 (match r with
          | some e => (s.dest e.1).lead
          | none => 0),
        fN 6 2 x.uids.length, f32 8 x.lastFrame, f32 12 x.packets, f32 16 x.late, f32 20 x.inputErrors, f32 24 x.rdmTimeouts,
        f32 28 x.ignored]))) ∧
  (HostCase opInputSet (fun _ => 16) fun q s₀ s =>
    let n := rd q.payload 0 2
    let c := inputCfg q.payload
    n < 1024 → (c.kind = 0 ∨ c.kind = 1 ∧ c.source.toNat < 16 ∨ c.kind = 2 ∧ c.source.toNat < 32) → 1 ≤ c.uni.toNat →
      c.uni.toNat ≤ 63999 → 100 ≤ c.lossMs.toNat → c.lossMs.toNat ≤ 10000 → 50 ≤ c.idleUs.toNat → c.idleUs.toNat ≤ 10000 →
      exec (.inputSet q) s₀ = .next ((s.defer opInputSet n q.payload).ok q opInputSet [])) ∧
  (HostCase opInputRead (fun _ => 6) fun q s₀ s =>
    let n := rd q.payload 0 2
    let first := rd q.payload 2 2
    let c := rd q.payload 4 2
    let e := s.input n
    n < 1024 → 1 ≤ c → c ≤ 512 → first + c ≤ 512 →
      exec (.inputRead q) s₀ = .next (s.ok q opInputRead (pack 8 [f32 0 e.lastShort, fN 4 1 e.sourceCount, f8 5 e.prio,
        fB 6 0 e.lost] ++ bytesAt e.slots first c))) ∧
  (HostCase opSacnSet (fun _ => 104) fun q s₀ s =>
    let p := q.payload
    (p8 p 0).toNat < 4 → (p8 p 2).toNat ≤ 200 → rd p 4 2 ≤ 63999 → rd p 6 2 ≤ 10000 → rd p 8 2 ≤ 20000 →
      exec (.sacnSet q) s₀ =
        .next (State.ok (State.setSacnNow p (s.defer opSacnSet (p8 p 0).toNat p)) q opSacnSet [])) ∧
  (HostCase opSacnStatus (fun _ => 1) fun q s₀ s => ∀ n : Fin 4,
    let x := s.ports.sacn[n]
    let rs := s.sacnRoutes n
    (p8 q.payload 0).toNat = n.val →
      exec (.sacnStatus q) s₀ = .next (s.ok q opSacnStatus (pack 16 [f32 0 x.dataSent, f32 4 x.syncSent, f32 8 x.late,
        fN 12 2 rs.length, fN 14 2 (rs.foldl (fun m r => max m (s.dest r.1).lead.toNat) 0)]))) ∧
  (HostCase opRdmDiscover (fun _ => 2) fun q s₀ s => ∀ p : Fin 32,
    (p8 q.payload 0).toNat = p.val → s.rdmStandby = false → s.ports.pair[p].rdmOn = true → s.ports.pair[p].disc = none →
      exec (.rdmDiscover q) s₀ = .next ((s.discover p (pbit q.payload 1 0)).ok q opRdmDiscover [])) ∧
  (HostCase opRdmUidRead (fun _ => 4) fun q s₀ s => ∀ (p : Fin 32) (u : Nat),
    (p8 q.payload 0).toNat = p.val → s.ports.pair[p].uids[rd q.payload 2 2]? = some u →
      exec (.rdmUidRead q) s₀ = .next (s.ok q opRdmUidRead (pack 8 [fN 0 6 u,
        fB 6 0 (match s.sh.active with
          | none => false
          | some im => im.fixtures.any fun f => f.rdmUid == u)]))) ∧
  (HostCase opRdmRequest (fun q => 17 + (p8 q.payload 16).toNat) fun q s₀ s => ∀ k : Fin 32,
    let p := q.payload
    let n := (p8 p 16).toNat
    (p8 p 0).toNat = k.val → (p8 p 1 = 0x20 ∨ p8 p 1 = 0x30) → n ≤ 231 → s.rdmStandby = false →
      s.ports.pair[k].rdmOn = true →
      exec (.rdmRequest q) s₀ = .next (State.ok (s.modPair k fun x =>
        { x with queue := x.queue ++ [({ use := .host (p32 p 12), dest := rd p 4 6, cls := p8 p 1, pid := p16 p 2,
                                         sub := p16 p 10, data := bytesAt p 17 n } : RdmReq)] }) q opRdmRequest [])) ∧
  (HostCase opRdmResultRead (fun _ => 4) fun q s₀ s => ∀ r,
    s.ports.results.find? (·.1 == p32 q.payload 0) = some r →
      exec (.rdmResultRead q) s₀ = .next (s.ok q opRdmResultRead
        (pack 6 [f8 0 r.2.outcome, f16 2 r.2.nack, fN 4 2 r.2.data.length] ++ r.2.data)))

/-- DMX packets, pixel strings, PWM sub-slots, RDM transactions with their responses, timeouts, discovery and sensor polls,
and sACN output have their effects (R96, R154, R155, R283 to R305). -/
def Obligations.PortEventsComplete : Prop :=
  (EventCase fun dt s₀ s => ∀ (p : Fin 32) (route : Nat) (r : Route),
    let y := s.ports.pair[p]
    let ns := (s.portXD r).1
    s.pairIn p 1 = true → s.dmxRoute p = some (route, r) → y.lineFree s.now = true →
      (∀ x : Due, s.grid.stopped = false → s.portDue route r ns y.sent = some x →
        exec (.dmxPacketStart dt p) s₀ = .next ((s.pairSent p x.frame (x.late || y.delayed)).dmxBegin p
          (some x.frame) (bytesAt x.slots 0 r.slots.toNat))) ∧
      (s.grid.stopped = true → s.grid.idleBoundary % (s.grid.v.divider ns : Int) = 0 → y.idleAt ≠ s.grid.idleBoundary →
        s.grid.st ≠ 2 →
        exec (.dmxPacketStart dt p) s₀ = .next ((s.modPair p fun x => { x with
          idleAt := s.grid.idleBoundary, packets := x.packets.inc }).dmxBegin p none
            (bytesAt y.last 0 r.slots.toNat)))) ∧
  (EventCase fun dt s₀ s => ∀ (p : Fin 32) (q : RdmReq),
    let pr := s.ports.pair[p]
    s.pairIn p 1 = true → pr.cfg.rdmEn = true → s.rdmStandby = false → pr.rdm = none → pr.idleFrom ≤ s.now →
      (pr.tx.any fun t => t.busy s.now) = false →
      pr.queue.find? (fun q => decide (q.notBefore ≤ s.now)) = some q →
      (s.nextBreak p = none ∨ ∃ b, s.nextBreak p = some b ∧
        (s.full : Int) + (pr.cfg.requestNs q + 2800000 + q.responseNs : Nat) + 12000 ≤ b) →
      exec (.rdmTransactionStart dt p) s₀ = .next (s.rdmBegin p q)) ∧
  (EventCase fun dt s₀ s => ∀ (p : Fin 32) (q : RdmReq) (e : Nat),
    let t := s.modPair p fun x => { x with rdm := none, idleFrom := s.now + 12000 }
    s.ports.pair[p].rdm = some (q, e) →
      (∀ ns, exec (.rdmResponse dt p (.timer ns)) s₀ =
        .next (t.rdmFirst p [{ q with notBefore := s.now + ns, again := false }])) ∧
      (∀ d, exec (.rdmResponse dt p (.overflow d)) s₀ = .next (t.rdmFirst p [{ q with
        parts := (q.parts ++ d).take 1024, truncated := q.truncated || decide (1024 < (q.parts ++ d).length),
        again := false }])) ∧
      (∀ r, (∀ ns, r ≠ .timer ns) → (∀ d, r ≠ .overflow d) →
        exec (.rdmResponse dt p r) s₀ = .next (t.rdmEnd p q (some r)))) ∧
  (EventCase fun dt s₀ s => ∀ (p : Fin 32) (q : RdmReq) (e : Nat),
    let t := s.modPair p fun x => { x with rdm := none }
    s.ports.pair[p].rdm = some (q, e) → s.cycExpired (e + 2800000) = true →
      (q.again = false → exec (.rdmResponseTimeout dt p) s₀ = .next (t.rdmFirst p [{ q with again := true }])) ∧
      (q.again = true → exec (.rdmResponseTimeout dt p) s₀ =
        .next ((t.modPair p fun x => { x with rdmTimeouts := x.rdmTimeouts.inc }).rdmEnd p q none))) ∧
  (EventCase fun dt s₀ s => ∀ p : Fin 32,
    let x := s.ports.pair[p]
    x.rdmOn = true → x.cfg.discoveryS ≠ 0 → x.disc = none → s.rdmStandby = false →
      s.fwExpired (x.discAt.getD 0 + x.cfg.discoveryS.toNat * 1000000000) = true →
      exec (.rdmDiscoveryTimer dt p) s₀ = .next (s.discover p true)) ∧
  (EventCase fun dt s₀ s => ∀ (p : Fin 32) (e : Nat × Fixture),
    let x := s.ports.pair[p]
    let due := (s.rdmFixtures p).filter fun e => !x.badSensor.contains e.1 &&
      (match x.polled.find? (·.1 == e.1) with
        | none => true
        | some y => decide ((x.cfg.pollFrames.toNat : Int) ≤ sdiff32 (lastFrame s.grid.frame) y.2))
    x.rdmOn = true → s.rdmStandby = false → x.reading = [] → x.disc = none →
      (∀ q ∈ x.queue, ∀ fi i, q.use ≠ .value fi i) →
      (due.find? fun e => decide ((x.polled.head?.map (·.1)).getD 0 < e.1)).or due.head? = some e →
      exec (.rdmSensorPoll dt p) s₀ = .next (s.modPair p fun x => { x with
        polled := (e.1, lastFrame s.grid.frame) :: x.polled.filter (·.1 != e.1),
        queue := x.queue ++ (List.finRange 4).map fun i => rdmValue e.1 e.2.rdmUid (x.cfg.sensorBase.toNat + i.val) i })) ∧
  (EventCase fun dt s₀ s => ∀ (pin : Fin 64) (mode : U8) (route : Nat) (r : Route) (u : Due),
    let ns := (s.portXD r).1
    let stop := s.ports.strStop[pin]
    let t := (s.pairSent (pairOf pin.val) u.frame u.late).stringShift pin r ns u.slots
    let w := .next { t with ports.strFrame := t.ports.strFrame.set pin (some u.frame) }
    s.pairIn (pairOf pin.val) mode = true → s.grid.stopped = false → s.stringRoute pin.val = some (route, r) →
      s.portDue route r ns s.ports.strFrame[pin] = some u → stop + (if stop = 0 then 0 else 12000) ≤ s.now →
      (mode = 3 → exec (.pixelStringSend dt pin) s₀ = w) ∧
      (mode = 4 → pin.val % 2 = 0 → exec (.clockedStringSend dt pin) s₀ = w)) ∧
  (EventCase fun dt s₀ s => ∀ (pin : Fin 64) (mode : U8) (route : Nat) (r : Route),
    let ns := (s.portXD r).1
    let w := .next (s.stringShift pin r ns s.ports.strLast[pin])
    s.pairIn (pairOf pin.val) mode = true → s.stringRoute pin.val = some (route, r) →
      (s.grid.stopped = true ∨ s.portDue route r ns s.ports.strFrame[pin] = none) → s.ports.strHouse[pin] = true →
      s.ports.strStop[pin] ≤ s.now →
      (mode = 3 → exec (.pixelStringSend dt pin) s₀ = w) ∧
      (mode = 4 → pin.val % 2 = 0 → exec (.clockedStringSend dt pin) s₀ = w)) ∧
  (EventCase fun dt s₀ s => ∀ (pin : Fin 64) (k : Nat),
    let c := s.ports.pair[pairOf pin.val].cfg
    let t := s.pwmLatch pin
    s.pairIn (pairOf pin.val) 5 = true → s.subSlotNow c (pin.val % 2 == 1) = some k →
      exec (.pwmSubslotStart dt pin) s₀ = .next (t.setPwm pin.val fun x =>
        match pwmPulse x.value c.pwmPeriod.toNat c.subpulses.toNat c.minPulseNs.toNat k with
        | some h => { x with at_ := t.full, high := h, hold := pwmHolds x.value c.pwmPeriod.toNat }
        | none => if x.hold then { x with at_ := t.full, high := 0, hold := false } else x)) ∧
  (EventCase fun dt s₀ s => ∀ (n : Fin 4) (r : Nat × Route) (rs : List (Nat × Route)) (m : U32) (late : Bool),
    s.sacnRoutes n = r :: rs → s.grid.stopped = false → s.sacnDue n r.1 r.2 = some (m, late) → s.sacnHolds m = true →
      exec (.sacnDataSend dt n) s₀ = .next ((r :: rs).foldl (fun (s : State) r =>
        s.sacnPacket n 0 r.2.address.toNat (BitVec.ofNat 8 m.toNat) (bytesAt ((s.packedOf m r.1).getD []) 0 r.2.slots.toNat))
          (s.sacnSent n m late false))) ∧
  (EventCase fun dt s₀ s => ∀ (n : Fin 4) (r : Nat × Route) (rs : List (Nat × Route)),
    let x := s.ports.sacn[n]
    s.sacnRoutes n = r :: rs → s.grid.stopped = true → x.idleAt ≠ s.grid.idleBoundary → s.sacnHolds 0 = true →
      exec (.sacnDataSend dt n) s₀ = .next ((r :: rs).foldl (fun (s : State) r =>
        s.sacnPacket n 0 r.2.address.toNat
          (((x.seqs.find? (·.1 == r.2.address.toNat)).map (·.2)).getD 0xFF + 1)
          (bytesAt (((x.last.find? (·.1 == r.2.address.toNat)).map (·.2)).getD []) 0 r.2.slots.toNat))
          (s.modSacn n fun x => { x with idleAt := s.grid.idleBoundary }))) ∧
  (EventCase fun dt s₀ s => ∀ (n : Fin 4) (r : Nat × Route) (rs : List (Nat × Route)) (m : U32) (l : U32 × Nat),
    let x := s.ports.sacn[n]
    let at_ := s.sacnSyncAt n r.1 m
    let q := BitVec.ofNat 8 m.toNat
    x.lastFrame = some m → s.sacnRoutes n = r :: rs → s.tre.latchAt.find? (·.1 == m) = some l → x.cfg.syncUniverse ≠ 0 →
      x.lastSync ≠ some m → at_ ≤ (s.full : Int) → s.grid.stopped = false → s.sacnHolds m = true →
      exec (.sacnSyncSend dt n) s₀ = .next (((s.sacnSent n m (decide (at_ < l.2)) true).emit
        (.sacn 2 n.val x.cfg.syncUniverse.toNat q [])).ethUdp n 2 (sacnGroup x.cfg.syncUniverse.toNat) (Config.srcPort 2) 5568
          (e131Sync x.cfg.cid q x.cfg.syncUniverse))) ∧
  (EventCase fun dt s₀ s => ∀ n : Fin 4,
    let x := s.ports.sacn[n]
    let us := (s.sacnRoutes n).map fun r => r.2.address.toNat
    let pages := chunk 512 (us.length + 1) us
    x.cfg.discoveryEn = true → (∀ t, x.discoveredAt = some t → s.fwExpired (t + 10000000000) = true) →
      s.sacnHolds s.grid.nextPresent = true →
      exec (.sacnDiscoverySend dt n) s₀ = .next (pages.zipIdx.foldl (fun (s : State) c =>
        (s.emit (.sacn 3 n.val 64214 0 (c.1.flatMap (be 2 ·)))).ethUdp n 3 (sacnGroup 64214) (Config.srcPort 3) 5568
          (e131Discovery x.cfg.cid x.cfg.name c.2 (pages.length - 1) c.1))
        (s.modSacn n fun x => { x with discoveredAt := some s.now })))

/-- DMX input packets, an input's loss, sACN data packets and an sACN source's loss have their effects (R295 to R299). -/
def Obligations.InputEventsComplete : Prop :=
  (EventCase fun dt s₀ s => ∀ (p : Fin 32) (x : DmxPacket),
    let y := s.ports.pair[p]
    let entry := s.ports.input.find? fun e => e.2.cfg.kind == 2 && e.2.cfg.source.toNat == p.val
    s.pairIn p 2 = true → dmxEnded x ((entry.map fun e => e.2.cfg.idleUs.toNat).getD 100) = true →
      (dmxError x = true → exec (.dmxInputPacket dt p x) s₀ = .next
        ((s.modPair p fun y => { y with inputErrors := y.inputErrors.inc, errorRun := true }).raiseIf (!y.errorRun) 82
          [fN 0 1 p.val])) ∧
      (dmxError x = false → x.startCode ≠ 0 → exec (.dmxInputPacket dt p x) s₀ =
        .next (s.modPair p fun y => { y with ignored := y.ignored.inc, errorRun := false })) ∧
      (dmxError x = false → x.startCode = 0 →
        let t := s.modPair p fun y => { y with packets := y.packets.inc, errorRun := false,
                                               lastFrame := s.short - BitVec.ofNat 32 x.since, last := x.slots }
        (entry = none → exec (.dmxInputPacket dt p x) s₀ = .next t) ∧
        (∀ e, entry = some e → exec (.dmxInputPacket dt p x) s₀ =
          .next (t.inputAccept e.1 ((x.slots ++ e.2.slots.drop x.slots.length).take 512) x.since id)))) ∧
  (EventCase fun dt s₀ s => ∀ (n : Fin 1024) (t : Nat),
    let e := s.input n
    e.lastAt = some t → e.cfg.kind ≠ 0 → e.lost = false → s.fwExpired (t + e.cfg.lossMs.toNat * 1000000) = true →
      exec (.inputLossTimeout dt n) s₀ = .next (State.raiseF (s.modInput n fun y => { y.keep s.full with
        lost := true, slots := if e.cfg.lossAction then blankSlots else y.slots }) 81 [fN 0 2 n.val, fN 2 1 1])) ∧
  (EventCase fun dt s₀ s => ∀ x : SacnPacket,
    let t := s.rxTake x.eth (rxQueue x.eth.val 2)
    exec (.sacnDataPacket dt x) s₀ = .next (((t.ports.input.filter fun e =>
      e.2.cfg.kind == 1 && e.2.cfg.source.getLsbD x.eth.val && e.2.cfg.uni == x.uni).map (·.1)).foldl
        (fun (s : State) n => s.sacnEntry n x) t)) ∧
  (EventCase fun dt s₀ s => ∀ (n : Fin 1024) (cid : List U8) (x : SacnSource),
    let e := s.input n
    (e.sources.find? fun y => y.cid == cid) = some x → s.fwExpired (x.lastAt + e.cfg.lossMs.toNat * 1000000) = true →
      exec (.sacnSourceLoss dt n cid) s₀ = .next (s.removeSource n cid))

/-- ETH_SET, QUEUE_SET, HOSTCH_SET and PTP_SET take their values; ETH_STATUS, QUEUE_STATUS, HOSTCH_STATUS, TXTS_READ and
PTP_STATUS return Tables 9.12, 9.10, 9.7 and 9.15 (R322, R329, R333, R346). -/
def Obligations.EthernetCommandsComplete : Prop :=
  (HostCase opEthSet (fun _ => 64) fun q s₀ s =>
    (p8 q.payload 0).toNat < 4 → (ethCfg q.payload).ok = true →
      exec (.ethSet q) s₀ = .next (State.ok
        (State.setEth q.payload (s.remember opEthSet (p8 q.payload 0).toNat q.payload)) q opEthSet [])) ∧
  (HostCase opEthStatus (fun _ => 2) fun q s₀ s => ∀ n : Fin 4,
    let e := s.net.eth[n]
    (p8 q.payload 0).toNat = n.val →
      exec (.ethStatus q) s₀ = .next (State.ok (if pbit q.payload 1 0 then s.modEth n Eth.clear else s) q opEthStatus
        (pack 64 [fB 0 0 e.link, fN 1 1 e.speed, fN 2 1 e.preempt, fB 3 0 (e.heldNow s.nowPs), fB 3 1 e.xoff,
          f32 4 e.framesTx, f32 8 e.framesRx, f32 12 e.fcsErrors, f32 16 e.csumErrors, f32 20 e.preemptions,
          f32 24 e.pauseRx, f32 28 e.pauseTx, f32 32 e.heldUs, f32 36 e.expressHeld, f32 40 e.unclassified,
          f32 44 e.hc.noBuffer, f32 48 e.txtsLost, f32 52 e.rxDiscarded, f32 56 e.tooLong]))) ∧
  (HostCase opQueueSet (fun _ => 4) fun q s₀ s =>
    let n := rd q.payload 0 2
    let lim := rd q.payload 2 2
    n < 0x58 → 1 ≤ lim → lim ≤ 32768 →
      exec (.queueSet q) s₀ = .next (State.ok ((s.remember opQueueSet n q.payload).modQueue n fun x =>
        { x with limit := some lim }) q opQueueSet [])) ∧
  (HostCase opQueueStatus (fun _ => 2) fun q s₀ s =>
    let n := rd q.payload 0 2
    let x := s.queue n
    n < 0x58 →
      exec (.queueStatus q) s₀ = .next (State.ok (s.modQueue n fun x => { x with overrun := false }) q opQueueStatus
        (pack 16 [fN 0 2 x.count, fN 2 2 (s.queueLimit n), fB 4 0 (s.queueFull n), fB 4 1 x.overrun,
          fN 6 2 (if s.poolFree = 32768 then 32767 else s.poolFree), f32 8 x.packets, f32 12 x.discarded]))) ∧
  (HostCase opHostchSet (fun _ => 32) fun q s₀ s => ∀ n : Fin 4,
    let c := hostchCfg q.payload
    (p8 q.payload 0).toNat = n.val → c.vector.toNat < 8 → ringSize c.rxEntries.toNat = true →
      ringSize c.txEntries.toNat = true → 1 ≤ c.irqFrames.toNat → c.irqFrames.toNat ≤ 4096 → c.rxBase.toNat % 16 = 0 →
      c.txBase.toNat % 16 = 0 → s.mb.spi = false → s.net.eth[n].hc.cfg.moves c = false →
      exec (.hostchSet q) s₀ = .next ((s.setHostch n c).ok q opHostchSet [])) ∧
  (HostCase opHostchStatus (fun _ => 1) fun q s₀ s => ∀ n : Fin 4,
    let c := s.net.eth[n].hc
    (p8 q.payload 0).toNat = n.val →
      exec (.hostchStatus q) s₀ = .next (s.ok q opHostchStatus (pack 24 [f16 0 c.rxHead, f16 2 c.rxTail, f16 4 c.txHead,
        f16 6 c.txTail, f32 8 c.rxFrames, f32 12 c.txFrames, f32 16 c.noBuffer, f32 20 c.txErrors]))) ∧
  (HostCase opTxtsRead (fun _ => 1) fun q s₀ s => ∀ n : Fin 4,
    let e := s.net.eth[n]
    let t := s.modEth n fun e => { e with txts := e.txts.drop 1, txtsOver := false }
    (p8 q.payload 0).toNat = n.val →
      (e.txts = [] → exec (.txtsRead q) s₀ = .next (t.ok q opTxtsRead (pack 16 [fB 2 2 e.txtsOver]))) ∧
      (∀ x r, e.txts = x :: r → exec (.txtsRead q) s₀ = .next (t.ok q opTxtsRead (pack 16 [f16 0 x.id, fB 2 0 true,
        fB 2 1 x.discarded, fB 2 2 e.txtsOver, fN 3 1 r.length, fN 4 6 x.s, fN 10 2 x.subns, fN 12 4 x.ns])))) ∧
  (HostCase opPtpSet (fun _ => 16) fun q s₀ s => (ptpCfg q.payload).ok = true →
    exec (.ptpSet q) s₀ =
      .next (State.ok (State.setPtp q.payload (s.remember opPtpSet 0 q.payload)) q opPtpSet [])) ∧
  (HostCase opPtpStatus (fun _ => 0) fun q s₀ s =>
    let p := s.net.ptp
    let slave := ((List.finRange 4).find? fun n => p.ports[n].state == 9).map Fin.val
    let par := (p.parent.map fun x => (x.1, x.2.1)).getD (s.clockIdentity, 0)
    let gm := (p.parent.map fun x => x.2.2).getD s.ownData
    exec (.ptpStatus q) s₀ = .next (s.ok q opPtpStatus (pack 48 ([fN 4 1 (slave.getD 0xFF), f8 5 gm.cls,
      f16 6 s.advertised.steps, f64 8 gm.gm, f64 16 par.1, f16 24 par.2, fB 26 0 (p.parent.isSome && gm.utcValid),
      fB 26 1 (p.parent.isSome && gm.ptpTimescale), fI 28 4 (satS 32 (roundDiv (p.meanPath.getD 0) 65536)),
      fI 32 4 (satS 32 p.lastOffset), f32 36 p.syncRx, f32 40 p.outliers, f32 44 p.timeouts] ++
      (List.finRange 4).map fun n => fN n.val 1 p.ports[n].state))))

/-- Frames received and transmitted, PAUSE received, held, long and refreshed, the verify handshake, link changes, IGMP and
ARP, and the rings of the host channels have their effects (R311 to R333, R346). -/
def Obligations.EthernetEventsComplete : Prop :=
  (EventCase fun dt s₀ s => ∀ x : EthRx,
    let e := s.net.eth[x.eth]
    let len := x.data.length + 4
    let t := s.modEth x.eth fun e => { e with framesRx := e.framesRx.inc }
    let c := frameChecks x.data
    e.link = true → 64 ≤ len → len ≤ e.cfg.maxFrame.toNat → x.fcsOk = true → s.ethAccepts x.eth (rdBE x.data 0 6) = true →
      (∀ q own, t.classify x = some (q, own) → (own && c.1 && !(c.2.1 && c.2.2)) = false →
        exec (.ethFrameRx dt (.frame x)) s₀ = .next (t.rxPut x.eth q
          { len := len, bytes := x.data, ts := t.rxStamp x.eth x.ago, csum := c.1, ipOk := c.2.1, l4Ok := c.2.2 })) ∧
      (∀ q own, t.classify x = some (q, own) → (own && c.1 && !(c.2.1 && c.2.2)) = true →
        exec (.ethFrameRx dt (.frame x)) s₀ = .next (t.modEth x.eth fun e => { e with csumErrors := e.csumErrors.inc })) ∧
      (t.classify x = none → t.arpForUs x = true → exec (.ethFrameRx dt (.frame x)) s₀ = .next t) ∧
      (t.classify x = none → t.arpForUs x = false → exec (.ethFrameRx dt (.frame x)) s₀ =
        .next (t.modEth x.eth fun e => { e with unclassified := e.unclassified.inc }))) ∧
  (EventCase fun dt s₀ s => ∀ n : Fin 4,
    (s.net.eth[n].link = true → s.net.eth[n].cfg.preemptEn = true →
      exec (.ethFrameRx dt (.verify n)) s₀ = .next (s.emit (.verify n.val true))) ∧
    (s.net.eth[n].preempt = 1 → exec (.ethFrameRx dt (.respond n)) s₀ =
      .next (State.raiseF (s.modEth n fun e => { e with preempt := 2 }) 89 [fN 0 1 n.val, fN 1 1 2]))) ∧
  (EventCase fun dt s₀ s => ∀ n : Fin 4,
    let e := s.net.eth[n]
    let bt := bytePs e.speed
    e.link = true → e.heldNow s.nowPs = false → (∀ t, e.tx = some t → t.ends bt ≤ s.nowPs) →
      (∀ c f, s.txPick n = some (.express c f) → exec (.ethFrameTx dt n) s₀ = .next (s.beginFrame n c f)) ∧
      (∀ t, s.txPick n = some (.remainder t) → exec (.ethFrameTx dt n) s₀ =
        .next (s.modEth n fun e => { e with tx := some { t with start := s.nowPs }, held := none })) ∧
      (∀ c f d i, s.txPick n = some (.shared c f d i) → exec (.ethFrameTx dt n) s₀ =
        .next ((s.modEth n fun e => { e with
          deficit := .ofFn fun (j : Fin 3) => d.getD j.val 0,
          drrAt := ⟨i % 3, Nat.mod_lt _ (by decide)⟩ }).beginFrame n c f))) ∧
  (EventCase fun dt s₀ s => ∀ (n : Fin 4) (quanta : U16), s.net.eth[n].link = true →
    exec (.pauseRx dt n quanta) s₀ = .next (s.pauseRx n quanta.toNat)) ∧
  (EventCase fun dt s₀ s => ∀ (n : Fin 4) (t : Nat), s.net.eth[n].holdPs = some t → t ≤ s.nowPs →
    exec (.pauseHoldEnd dt n) s₀ = .next (s.endHold n t)) ∧
  (EventCase fun dt s₀ s => ∀ n : Fin 4,
    let e := s.net.eth[n]
    e.heldNow s.nowPs = true → e.holdRaised = false →
      s.cycExpired (e.holdFrom + e.cfg.pauseEventUs.toNat * 1000) = true →
      exec (.pauseLongTimeout dt n) s₀ =
        .next (State.raiseF (s.modEth n fun e => { e with holdRaised := true }) 95 [fN 0 1 n.val])) ∧
  (EventCase fun dt s₀ s => ∀ n : Fin 4,
    let e := s.net.eth[n]
    e.xoff = true → 1000 * e.xoffAt + quantaPs e.speed e.cfg.pauseQuanta.toNat / 2 ≤ s.nowPs →
      exec (.pauseRefresh dt n) s₀ =
        .next (s.sendPause n (if e.cfg.xonCells.toNat ≤ s.rxCells n then e.cfg.pauseQuanta.toNat else 0))) ∧
  (EventCase fun dt s₀ s => ∀ n : Fin 4,
    let e := s.net.eth[n]
    e.preempt = 1 → s.fwExpired (e.verifyAt + 10000000) = true →
      (e.verifyTries < 3 → exec (.preemptVerifyTimeout dt n) s₀ = .next ((s.modEth n fun e =>
        { e with verifyTries := e.verifyTries + 1, verifyAt := s.now }).emit (.verify n.val false))) ∧
      (3 ≤ e.verifyTries → exec (.preemptVerifyTimeout dt n) s₀ =
        .next (State.raiseF (s.modEth n fun e => { e with preempt := 3 }) 89 [fN 0 1 n.val, fN 1 1 3]))) ∧
  (EventCase fun dt s₀ s => ∀ (n : Fin 4) (speed : Nat),
    exec (.ethLinkChange dt n true speed) s₀ = .next (s.ethUp n speed) ∧
    exec (.ethLinkChange dt n false speed) s₀ = .next (s.ethDown n)) ∧
  (EventCase fun dt s₀ s => ∀ n : Fin 4, s.net.eth[n].link = true → s.groups n ≠ [] →
    exec (.igmpQuery dt n) s₀ = .next (State.draw (s.ethPut n 4
      (s.net.eth[n].cfg.igmpReport (Config.ipFree s.fresh) ((s.groups n).map fun g => (2, g)))))) ∧
  (EventCase fun dt s₀ s => ∀ (n : Fin 4) (target : U32) (mac : Nat) (sender : U32),
    let e := s.net.eth[n]
    e.link = true → target = e.cfg.ip → e.cfg.ip ≠ 0 →
      exec (.arpRequest dt n target mac sender) s₀ = .next (s.ethPut n 4 (e.cfg.arpReply mac sender))) ∧
  (EventCase fun dt s₀ s => ∀ (n : Fin 4) (descs : List RxDesc) (f : PoolFrame),
    let h := s.net.eth[n].hc
    let t := s.rxTake n (rxQueue n.val 3)
    let r := fillBuffers (descs.take (ringCount h.rxHead h.rxTail)) f.bytes
    s.queueHead (rxQueue n.val 3) = some f → h.cfg.rxEn = true →
      (∀ parts, r = some parts → exec (.hostRxPlace dt n descs) s₀ = .next ((t.placeFrame n f parts).hostchIrq n)) ∧
      (r = none → exec (.hostRxPlace dt n descs) s₀ = .next (((t.modEth n fun e =>
        { e with hc := { h with noBuffer := h.noBuffer.inc, noBufRun := true } }).raiseIf (!h.noBufRun) 91
          [fN 0 1 n.val]).hostchIrq n))) ∧
  (EventCase fun dt s₀ s => ∀ (n : Fin 4) (descs ds : List TxDesc),
    let e := s.net.eth[n]
    let bytes := ds.flatMap (·.data)
    let f : PoolFrame := { len := max 64 (bytes.length + 4), bytes := bytes, csum := ds.any (·.csum),
                           tsReq := (ds.find? (·.tsReq)).map (·.tsId) }
    e.hc.cfg.txEn = true → frameDescs (descs.take (ringCount e.hc.txHead e.hc.txTail)) = some ds →
      (e.cfg.maxFrame.toNat < bytes.length + 4 → exec (.hostTxFrame dt n descs) s₀ =
        .next ((s.txWriteBack n ds true).modEth n fun e => { e with
          tooLong := e.tooLong.inc, hc := { e.hc with txErrors := e.hc.txErrors.inc } })) ∧
      (bytes.length + 4 ≤ e.cfg.maxFrame.toNat → s.queueRoom (txQueue n.val 5) f = true →
        exec (.hostTxFrame dt n descs) s₀ = .next (((s.queuePut (txQueue n.val 5) f).txWriteBack n ds false).modEth n fun e =>
          { e with hc := { e.hc with txFrames := e.hc.txFrames.inc } })))

/-- Each PTP message that a port takes, each message due and the announce-receipt timeout has its effect (R334 to R337). -/
def Obligations.PtpEventsComplete : Prop :=
  (EventCase fun dt s₀ s => ∀ m : PtpMsg,
    let at_ := s.rxTime m.eth (rxQueue m.eth.val 0)
    let t := s.rxTake m.eth (rxQueue m.eth.val 0)
    let c := t.net.ptp.cfg
    let p := t.net.ptp.ports[m.eth]
    c.on m.eth = true →
    (t.fromParent m = true → m.twoStep = true →
      exec (.ptpSync dt m) s₀ = .next (t.modPtp m.eth fun x => { x with sync := some (m.seq, at_, m.correction) })) ∧
    (t.fromParent m = true → m.twoStep = false →
      exec (.ptpSync dt m) s₀ = .next (t.ptpSample m.eth (m.time + m.correction) at_)) ∧
    (∀ t2 k, p.sync = some (m.seq, t2, k) → t.fromParent m = true →
      exec (.ptpFollowUp dt m) s₀ = .next
        ((t.modPtp m.eth fun x => { x with sync := none }).ptpSample m.eth (m.time + k + m.correction) t2)) ∧
    (∀ a : PtpAnnounce, m.domain = c.domainNo → m.identity ≠ t.clockIdentity → a.steps.toNat < 255 →
      exec (.ptpAnnounce dt m a) s₀ = .next (State.bmca (t.modPtp m.eth fun x => { x with
        announceAt := if (x.state = 8 ∨ x.state = 9) ∧ t.fromParent m = false then x.announceAt else t.now,
        foreign := ⟨m.identity, m.port, announceData a, t.now,
            (p.foreign.find? fun f => f.identity == m.identity && f.port == m.port).map (·.last)⟩ ::
          x.foreign.filter fun o => !(o.identity == m.identity && o.port == m.port) }))) ∧
    (m.domain = c.domainNo → p.state = 6 → c.p2p = false →
      exec (.ptpDelayReq dt m) s₀ = .next (t.ptpSend m.eth
        { kind := 4, seq := m.seq, time := at_, reqCorr := m.correction, reqId := m.identity, reqPort := m.port })) ∧
    (∀ t3 t1 t2, p.delay = some (m.seq, t3) → p.lastSync = some (t1, t2) → t.fromParent m = true →
      asksPort m t.clockIdentity = true →
      exec (.ptpDelayResp dt m) s₀ = .next (State.ptpDelay (t.modPtp m.eth fun x => { x with delay := none })
        (((t2 - t1) + (m.time - m.correction - t3)) / 2))) ∧
    (m.domain = c.domainNo → c.p2p = true →
      exec (.ptpPdelayReq dt m) s₀ = .next (t.ptpSend m.eth
        { kind := 6, seq := m.seq, time := at_, reqCorr := m.correction, reqId := m.identity, reqPort := m.port })) ∧
    (∀ t1, p.pdelay = some (m.seq, t1) → m.domain = c.domainNo → asksPort m t.clockIdentity = true →
      (m.twoStep = true → exec (.ptpPdelayResp dt m false) s₀ =
        .next (t.modPtp m.eth fun x => { x with presp := some (m.seq, at_, m.time, m.correction) })) ∧
      (m.twoStep = false → exec (.ptpPdelayResp dt m false) s₀ = .next (t.peerDelay m.eth t1 at_ 0 m.correction)) ∧
      (∀ q t4 t2 k, p.presp = some (q, t4, t2, k) → exec (.ptpPdelayResp dt m true) s₀ =
        .next (t.peerDelay m.eth t1 t4 (m.time - t2) (k + m.correction))))) ∧
  (EventCase fun dt s₀ s => ∀ n kind : Fin 4,
    let c := s.net.ptp.cfg
    let p := s.net.ptp.ports[n]
    c.on n = true → (kind.val < 2 → p.state = 6) → (kind = 2 → (p.state = 9 ∨ p.state = 8) ∧ c.p2p = false) →
      (kind = 3 → c.p2p = true) → p.sentAt[kind] + logNs (c.log kind) ≤ s.now →
      exec (.ptpMessageDue dt n kind) s₀ = .next ((s.modPtp n fun x =>
        { x with sentAt := x.sentAt.set kind s.now, seqs := x.seqs.set kind (x.seqs[kind] + 1) }).ptpSend n
          { kind := [0, 2, 3, 5].getD kind.val 0, seq := p.seqs[kind] })) ∧
  (EventCase fun dt s₀ s => ∀ n : Fin 4,
    let c := s.net.ptp.cfg
    let p := s.net.ptp.ports[n]
    let wait := c.announceTimeout.toNat * logNs (c.log 1)
    c.on n = true → p.state ≠ 6 → s.fwExpired (p.announceAt + wait) = true →
      exec (.ptpAnnounceTimeout dt n) s₀ = .next (State.bmca ((State.modPtp
        { s with net.ptp.timeouts := s.net.ptp.timeouts.inc } n fun x => { x with
          foreign := x.foreign.filter fun f => decide (s.now < f.last + wait), announceAt := s.now }).ptpTo n
          (if c.slaveOnly then 4 else 6))))

/-- Beacons, transmit opportunities, acknowledgements, association, data requests and the expiry of held frames have their
effects (R353 to R367). -/
def Obligations.RadioEventsComplete : Prop :=
  (EventCase fun dt s₀ s => ∀ (i : Fin 4) (tb : Int),
    let r := s.radio.ri[i]
    r.nextTb = some tb → r.built = none → tb - 500000 ≤ s.full →
      (r.next = none → exec (.beaconBuild dt i) s₀ = .next (s.buildBeacon i tb)) ∧
      (∀ c tb', let t := s.radioApply i c
        r.next = some c → t.radio.ri[i].nextTb = some tb' → t.radio.ri[i].built = none → tb' - 500000 ≤ (t.full : Int) →
          exec (.beaconBuild dt i) s₀ = .next (t.buildBeacon i tb'))) ∧
  (EventCase fun dt s₀ s => ∀ (i : Fin 4) (tb : Int) (b : Beacon),
    let r := s.radio.ri[i]
    r.nextTb = some tb → r.built = some (some b) → tb - r.cfg.stbToSfdNs.toNat ≤ (s.full : Int) → r.active = true →
      s.quiet = false →
      exec (.beaconStb dt i) s₀ = .next (State.emit ((s.modRi i fun r => { r with
        nextTb := some (r.nextInstant tb), built := none }).modRi i fun r => { r with
          beaconsSent := r.beaconsSent.inc, laurelCarried := r.laurelCarried.add b.laurel.length })
        (.beacon i.val r.bsn r.cfg.superframe b.pending b.laurel))) ∧
  (EventCase fun dt s₀ s => ∀ (i : Fin 4) (c : Nat) (f : RadioTx),
    let r := s.radio.ri[i]
    let head := fun (k : Nat) => r.queue.find? fun f => f.cls.val == k
    let reqs := (List.range 4).filter fun k => (head k).any fun f => s.radioFits i (f.airNs + if f.ack then ackWaitNs else 0)
    let lost : Nat → Vector Nat 4 := fun c =>
      .ofFn fun k => if k.val = c then 0 else if reqs.contains k.val then r.losses[k] + 1 else r.losses[k]
    r.active = true → r.wait = none → s.quiet = false → arbitrate reqs (fun k => r.losses.toList.getD k 0) = some c →
      head c = some f →
      exec (.radioSlotGrant dt i) s₀ = .next (State.transmit (s.modRi i fun x => { x with losses := lost c }) i f)) ∧
  (EventCase fun dt s₀ s => ∀ (i : Fin 4) (dsn : U8) (w : RadioTx × U8 × Nat),
    s.radio.ri[i].wait = some w → w.2.1 = dsn → s.fwExpired w.2.2 = false →
      exec (.radioAck dt i dsn) s₀ = .next (((s.modRi i fun r => { r with wait := none }).unhold i w.1).txDone w.1 0)) ∧
  (EventCase fun dt s₀ s => ∀ (i : Fin 4) (w : RadioTx × U8 × Nat),
    let t := s.modRi i fun r => { r with wait := none }
    let u := t.modRi i fun r => { r with ackTimeouts := r.ackTimeouts.inc }
    s.radio.ri[i].wait = some w → s.fwExpired w.2.2 = true →
      (w.1.tries < 3 → exec (.ackWaitExpiry dt i) s₀ = .next (t.modRi i fun r =>
        { r with queue := { w.1 with tries := w.1.tries + 1 } :: r.queue })) ∧
      (3 ≤ w.1.tries → (u.radio.ri[i].held.any fun h => h.id == w.1.id) = true →
        exec (.ackWaitExpiry dt i) s₀ = .next u) ∧
      (3 ≤ w.1.tries → (u.radio.ri[i].held.any fun h => h.id == w.1.id) = false →
        exec (.ackWaitExpiry dt i) s₀ = .next (u.txDone w.1 1))) ∧
  (EventCase fun dt s₀ s => ∀ (i : Fin 4) (ext : U64) (sleepy : Bool),
    s.radio.ri[i].active = true → exec (.assocRequest dt i ext sleepy) s₀ = .next (s.associate i ext sleepy)) ∧
  (EventCase fun dt s₀ s => ∀ (i : Fin 4) (src : U16) (n : Node),
    s.radio.ri[i].node src = some n → s.radio.ri[i].active = true →
      exec (.disassocNotify dt i src) s₀ = .next (s.disassociate i n)) ∧
  (EventCase fun dt s₀ s => ∀ (i : Fin 4) (src : U16) (ext : U64),
    let r := s.radio.ri[i]
    let t := s.modNode i src fun n => { n with lastRx := BitVec.ofInt 32 (s.recvTime i 0) }
    let held := r.held.find? fun h => if src = 0xFFFF then h.cls == 0 && h.ext == ext else h.dest == src && h.cls != 0
    r.active = true → s.quiet = false →
      (held = none → exec (.dataRequest dt i src ext) s₀ = .next (t.emit (.radioAck i.val false))) ∧
      (∀ f, held = some f → r.queue.any (fun x => x.id == f.id) = false → (∀ w, r.wait = some w → w.1.id ≠ f.id) →
        exec (.dataRequest dt i src ext) s₀ = .next ((t.emit (.radioAck i.val true)).modRi i fun r =>
          { r with queue := r.queue ++ [{ f with tries := 0, dsn := none }] })) ∧
      (∀ f, held = some f → (r.queue.any (fun x => x.id == f.id) = true ∨ ∃ w, r.wait = some w ∧ w.1.id = f.id) →
        exec (.dataRequest dt i src ext) s₀ = .next (t.emit (.radioAck i.val true)))) ∧
  (EventCase fun dt s₀ s => ∀ i : Fin 4,
    let r := s.radio.ri[i]
    r.active = true →
      exec (.indirectPersistExpiry dt i) s₀ = .next ((r.held.filter fun f => !(r.queue.any (fun x => x.id == f.id) ||
          (r.wait.any fun w => w.1.id == f.id)) && s.fwExpired (f.since + r.cfg.persistBi.toNat * r.cfg.bi)).foldl
        (fun (s : State) f =>
          let t := s.modRi i fun r => { r with held := r.held.filter (fun h => h.id != f.id), expireRun := true,
                                               indirectExpired := r.indirectExpired.inc }
          ((t.radioChange i.val 5 f.dest f.id []).txDone f 3).raiseIf (!s.radio.ri[i].expireRun) 99
            [fN 0 1 i.val, f16 2 f.dest]) s))

/-- Data and Privet frames received, a parent's beacons, realignment and misses, and the identification of transceivers have
their effects (R353 to R364). -/
def Obligations.RadioFramesComplete : Prop :=
  (EventCase fun dt s₀ s => ∀ (i : Fin 4) (f : RadioFrame) (n : Node),
    let r := s.radio.ri[i]
    r.st ≠ 4 → r.active = true → r.node (frameSrc f) = some n → frameSupported f = true →
      n.isDup (frameDsn f) 1 = false →
      (∀ x, inRange 1 32 n.short.toNat = false → s.radioOpen i n f = some x →
        exec (.radioDataFrame dt i f) s₀ = .next (x.1.takeData i f x.2)) ∧
      (∀ x, inRange 1 32 n.short.toNat = true → s.privetCheck i f = .ok x →
        exec (.radioDataFrame dt i f) s₀ = .next (x.1.takeData i f x.2)) ∧
      (∀ e, inRange 1 32 n.short.toNat = true → s.privetCheck i f = .error e →
        exec (.radioDataFrame dt i f) s₀ = .next (s.privetReject i f e))) ∧
  (EventCase fun dt s₀ s => ∀ (i : Fin 4) (f : RadioFrame) (n : Node) (x : State × List U8),
    let r := s.radio.ri[i]
    r.st = 4 → r.node (frameSrc f) = some n → frameSupported f = true → s.radioOpen i n f = some x →
      onlyRecords x.2 = true →
      exec (.radioDataFrame dt i f) s₀ = .next (x.1.feedRecords (x.1.recvTime i f.ago) x.2)) ∧
  (EventCase fun dt s₀ s => ∀ (i : Fin 4) (f : RadioFrame) (n : Node),
    let r := s.radio.ri[i]
    r.active = true → frameSupported f = true → r.node (frameSrc f) = some n → n.isDup (frameDsn f) 1 = false →
      inRange 1 32 (frameSrc f).toNat = true →
      (∀ x, s.privetCheck i f = .ok x →
        exec (.privetFrame dt i f) s₀ = .next ((x.1.acceptFrame i f 1).privetCommand i f x.2)) ∧
      (∀ e, s.privetCheck i f = .error e → exec (.privetFrame dt i f) s₀ = .next (s.privetReject i f e))) ∧
  (EventCase fun dt s₀ s => ∀ (i : Fin 4) (pan : U16) (ago : Nat),
    let r := s.radio.ri[i]
    let t := s.recvTime i ago
    r.cfg.child = true → r.driver.isSome = true → pan = r.cfg.parentPan →
      (∀ p, r.parentNext = some p → r.lost = true ∨ (t - p).natAbs ≤ r.cfg.parentWindowUs.toNat * 1000) →
      exec (.parentBeacon dt i pan ago) s₀ = .next ((s.alignChild i t).regainSync i)) ∧
  (EventCase fun dt s₀ s => ∀ i : Fin 4,
    let r := s.radio.ri[i]
    r.cfg.child = true → r.driver.isSome = true →
      exec (.coordRealignment dt i) s₀ = .next (State.regainSync (s.modRi i fun x => { x with
        parentNext := r.parentNext.map fun p => if p < (s.full : Int) then
          p + ((s.full - p) / (r.cfg.bi : Int) + 1) * (r.cfg.bi : Int) else p }) i)) ∧
  (EventCase fun dt s₀ s => ∀ (i : Fin 4) (p : Int),
    let r := s.radio.ri[i]
    let past := (s.full : Int) - (p + r.cfg.parentWindowUs.toNat * 1000)
    let t := s.modRi i fun r => { r with
      parentMisses := r.parentMisses.inc, missRun := r.missRun + 1, parentNext := some (p + r.cfg.bi),
      lost := decide (3 ≤ r.missRun + 1) }
    r.parentNext = some p → r.cfg.child = true → r.lost = false → 0 ≤ past → s.fwExpired (s.now - past.toNat) = true →
      (r.missRun < 2 → exec (.parentBeaconMiss dt i) s₀ = .next t) ∧
      (2 ≤ r.missRun → exec (.parentBeaconMiss dt i) s₀ =
        .next (State.raiseF (t.radioTo i (t.radioSt t.radio.ri[i])) 97 [fN 0 1 i.val, fN 1 1 1]))) ∧
  (EventCase fun dt s₀ s => ∀ (i : Fin 4) (resp : List U32),
    let r := s.radio.ri[i]
    r.rstN = true → r.driver = none → r.st ≠ 5 → s.fwExpired (r.rstAt + 1000000) = true →
      exec (.xcvrIdentify dt i resp) s₀ = .next (s.identifyRadio i resp)) ∧
  (EventCase fun dt s₀ s => ∀ (i : Fin 4) (resp : List U32),
    s.radio.ri[i].st = 5 → s.fwExpired (s.radio.ri[i].faultAt + 1000000000) = true →
      exec (.xcvrRetry dt i resp) s₀ = .next (s.identifyRadio i resp))

/-- RADIO_SET, NODE_CONTROL, PRIVET_SET and RADIO_SEND have their effects; RADIO_STATUS, NODE_READ, RADIO_RECV and
RADIO_XCVR_READ return their tables (R354, R359 to R363, R372). -/
def Obligations.RadioCommandsComplete : Prop :=
  (HostCase opRadioSet (fun _ => 56) fun q s₀ s =>
    let p := q.payload
    let i := riOf p
    radioOk p = true → (pbit p 1 0 = true → s.radioBank i = true ∧ s.sys.boot.radioMac = true) →
      exec (.radioSet q) s₀ = .next (State.ok (State.setRadio p (s.remember opRadioSet i.val p)) q opRadioSet [])) ∧
  (HostCase opRadioStatus (fun _ => 2) fun q s₀ s =>
    let i := riOf q.payload
    let r := s.radio.ri[i]
    let lead := (s.laurelRoutes i).foldl (fun n x => max n (s.dest x.1).lead.toNat) 0
    (p8 q.payload 0).toNat < 4 →
      exec (.radioStatus q) s₀ = .next (State.ok (if pbit q.payload 1 0 then s.modRi i Radio.clear else s) q opRadioStatus
        (pack 48 [fN 0 1 r.st, f8 1 r.bsn, fN 2 2 r.nodes.length, fN 4 2 r.held.length, fN 6 2 lead, f32 8 r.beaconsSent,
          f32 0x0C r.laurelCarried, f32 0x10 r.laurelLate, f32 0x14 r.rxFrames, f32 0x18 r.rxDiscarded, f32 0x1C r.duplicates,
          f32 0x20 r.secFailures, f32 0x24 r.ackTimeouts, f32 0x28 r.indirectExpired, f32 0x2C r.parentMisses]))) ∧
  (HostCase opNodeRead (fun _ => 4) fun q s₀ s =>
    let r := s.radio.ri[riOf q.payload]
    let short := p16 q.payload 2
    (p8 q.payload 0).toNat < 4 →
      (∀ n, r.node short = some n → exec (.nodeRead q) s₀ = .next (s.ok q opNodeRead (pack 16 [f64 0 n.ext, fB 8 0 true,
        fB 8 1 n.sleepy, fB 8 2 (inRange 1 32 short.toNat), f8 9 n.lqi, fN 10 1 (r.held.filter fun h => h.dest == short).length,
        f8 11 ((n.dsn.map (·.1)).getD 0), f32 12 n.lastRx]))) ∧
      (r.node short = none → exec (.nodeRead q) s₀ = .next (s.ok q opNodeRead (pack 16 [])))) ∧
  (HostCase opNodeControl (fun _ => 12) fun q s₀ s => ∀ n : Node,
    let i := riOf q.payload
    let t := s.disassociate i n
    (p8 q.payload 0).toNat < 4 → p8 q.payload 1 = 1 →
      (s.radio.ri[i].nodes.find? fun n => n.ext == p64 q.payload 4) = some n →
      exec (.nodeDisassociate q) s₀ = .next (State.ok
        (if s.radio.ri[i].active then
          t.sendTo i n.sleepy { id := 0, cls := 3, dest := n.short, data := [0x03, 0x01] } else t) q opNodeControl [])) ∧
  (HostCase opNodeControl (fun _ => 12) fun q s₀ s =>
    let i := riOf q.payload
    let e := p64 q.payload 4
    let a := s.radio.ri[i].allowed
    (p8 q.payload 0).toNat < 4 → p8 q.payload 1 = 2 →
      (a.contains e = true → exec (.nodeAllow q) s₀ = .next (s.ok q opNodeControl [])) ∧
      (a.contains e = false → a.length < 1023 → exec (.nodeAllow q) s₀ =
        .next (State.ok (s.modRi i fun r => { r with allowed := r.allowed ++ [e] }) q opNodeControl []))) ∧
  (HostCase opNodeControl (fun _ => 12) fun q s₀ s =>
    (p8 q.payload 0).toNat < 4 → p8 q.payload 1 = 3 →
      exec (.nodeDisallow q) s₀ = .next (State.ok (s.modRi (riOf q.payload) fun r =>
        { r with allowed := r.allowed.filter (· != p64 q.payload 4) }) q opNodeControl [])) ∧
  (HostCase opPrivetSet (fun _ => 20) fun q s₀ s =>
    let p := q.payload
    (p8 p 0).toNat < 4 → (p8 p 1).toNat < 32 →
      exec (.privetSet q) s₀ = .next (State.ok (State.setStation p
        (s.remember opPrivetSet (32 * (p8 p 0).toNat + (p8 p 1).toNat) p)) q opPrivetSet [])) ∧
  (HostCase opRadioSend (fun q => 9 + (p8 q.payload 8).toNat) fun q s₀ s => ∀ x : Node,
    let p := q.payload
    let i := riOf p
    let r := s.radio.ri[i]
    let n := (p8 p 8).toNat
    let f : RadioTx := { id := 0, cls := 3, dest := p16 p 2, ack := pbit p 1 0, level := if pbit p 1 1 then 5 else 0,
                         tag := some (p32 p 4), data := bytesAt p 9 n }
    r.node (p16 p 2) = some x → (p8 p 0).toNat < 4 → 1 ≤ n → n ≤ 100 → r.active = true →
      (x.sleepy = true → (r.held.filter fun h => h.dest == p16 p 2).length < 4 ∧ r.held.length < 256) →
      (pbit p 1 1 = false → exec (.radioSend q) s₀ = .next (State.ok (s.sendTo i x.sleepy f) q opRadioSend [])) ∧
      (∀ k, pbit p 1 1 = true → s.derive r.cfg.privetSlot.toNat 0 (nodeLabel i) 128 = .ok k →
        exec (.radioSend q) s₀ = .next (State.ok ((k.1.modRi i Radio.nextCounter).sendTo i x.sleepy f) q opRadioSend []))) ∧
  (HostCase opRadioRecv (fun _ => 1) fun q s₀ s =>
    let i := riOf q.payload
    (p8 q.payload 0).toNat < 4 →
      (s.radio.ri[i].rxq = [] → exec (.radioRecv q) s₀ = .next (s.ok q opRadioRecv (pack 8 []))) ∧
      (∀ x rest, s.radio.ri[i].rxq = x :: rest → exec (.radioRecv q) s₀ = .next (State.ok
        (s.modRi i fun r => { r with rxq := rest }) q opRadioRecv
          (pack 8 [f16 0 x.src, f8 2 x.lqi, fN 3 1 x.data.length, f32 4 x.short] ++ x.data)))) ∧
  (HostCase opRadioXcvrRead (fun _ => 1) fun q s₀ s =>
    let k := (p8 q.payload 0).toNat
    k < 16 →
      (∀ d, s.radio.drivers[k]? = some d → exec (.radioXcvrRead q) s₀ = .next (s.ok q opRadioXcvrRead (pack 32
        ([fB 0 0 true, fN 1 1 (bitsOf fun i : Fin 4 => s.radio.ri[i].driver == some k), f16 2 d.version, f32 4 d.mask,
          f32 8 d.value] ++ fBytes 12 (bytesAt d.read 0 4) ++ fBytes 16 (bytesAt d.name 0 16))))) ∧
      (s.radio.drivers[k]? = none → exec (.radioXcvrRead q) s₀ = .next (s.ok q opRadioXcvrRead (pack 32 []))))

/-- Every message that a partner sends has its effect; a digest of a frame already compared is not compared again (R378 to R393). -/
def Obligations.PierMessagesComplete : Prop :=
  MsgCase fun dt span m s₀ s => s.fromPartner m = true →
    exec (.pierHeartbeatMsg dt span m) s₀ = .next (s.heartbeatMsg m.payload) ∧
    exec (.pierReleaseMsg dt span m) s₀ = .next (s.releaseIn m.payload) ∧
    exec (.pierClaimMsg dt span m) s₀ = .next (s.claimIn m.payload) ∧
    (let p := m.payload
     let f : U32 := BitVec.ofNat 32 (rdBE p 4 4)
     let d : DigestRec := ⟨f, BitVec.ofNat 64 (rdBE p 8 8), BitVec.ofNat 64 (rdBE p 16 8), BitVec.ofNat 8 (rdBE p 24 1 % 16),
       BitVec.ofNat 16 (rdBE p 26 2)⟩
     let seen := s.pier.partner.any fun x => x.frame == f
     (seen = true → exec (.pierDigestMsg dt span m) s₀ = .next s) ∧
     (seen = false → exec (.pierDigestMsg dt span m) s₀ =
       .next (State.compareFrame { s with pier.partner := d :: keepDigests f s.pier.partner } f))) ∧
    exec (.pierSealMsg dt span m) s₀ = .next (s.sealMsg m.payload).renderCheck ∧
    exec (.pierRevertMsg dt span m) s₀ = .next (s.revertIn m.payload) ∧
    exec (.pierResyncMsg dt span m) s₀ = .next (s.resyncIn m.payload)

/-- Heartbeats, witnesses, pins, seals, handover and the partner wait have their effects (R375 to R398). -/
def Obligations.PierTimersComplete : Prop :=
  (EventCase fun dt s₀ s => s.heartbeatDue = true → exec (.heartbeatSend dt) s₀ = .next s.sendHeartbeat) ∧
  (EventCase fun dt s₀ s => s.silenceDue = true → exec (.partnerSilence dt) s₀ = .next s.silence) ∧
  (EventCase fun dt s₀ s => ∀ t : Nat,
    s.pier.hb1 = some t → s.paired = true → s.pier.cfg.witnessTrestle = true → s.pier.lostWitness = false →
      s.fwExpired (t + s.silenceNs) = true →
      exec (.trestleWitnessLoss dt) s₀ = .next (State.raisePath { s with pier.lostWitness := true } 1 1)) ∧
  (EventCase fun dt s₀ s =>
    let t := { s with pier.actIn := false }
    exec (.pierActInFall dt) s₀ = .next (if t.silenceDue then t.silence else t)) ∧
  (EventCase fun dt s₀ s =>
    let t := { s with pier.actIn := true }
    exec (.pierActInRise dt) s₀ = .next (if t.pier.lostPin then State.raisePath { t with pier.lostPin := false } 2 2 else t)) ∧
  (EventCase fun dt s₀ s =>
    s.pier.actOut = some true → s.cycExpired (s.pier.refreshAt + 2 * s.grid.ticksNs 16) = true →
      exec (.holdCircuitExpiry dt) s₀ = .next { s with pier.actOut := some false }) ∧
  (EventCase fun dt s₀ s => exec (.sealSend dt) s₀ = .next s.sendSeal) ∧
  (EventCase fun dt s₀ s => exec (.sealMissingAtCutoff dt) s₀ = .next (s.resolveSeals 16).renderCheck) ∧
  (EventCase fun dt s₀ s => s.revertDue = true → exec (.revertRequest dt) s₀ =
    .next { s.sendRevert s.planFrame 1 with pier.revertAsked := some s.planFrame }) ∧
  (EventCase fun dt s₀ s => ∀ h, s.pier.pend = some h → s.handoverDue h = true →
    exec (.handoverAtCutoff dt) s₀ = .next (s.handover h)) ∧
  (EventCase fun dt s₀ s => ∀ t : Nat,
    s.pier.waitFrom = some t → s.paired = true → s.fwExpired (t + s.pier.cfg.partnerWaitMs.toNat * 1000000) = true →
      exec (.partnerWaitExpiry dt) s₀ =
        .next (State.startupClaim { s with pier.waitFrom := none, pier.waitOver := true }))

/-- PIER_SET and PIER_CONTROL have their effects; PIER_STATUS and PIER_COUNTERS return Tables 11.15 and 11.13 (R392 to R401). -/
def Obligations.PierCommandsComplete : Prop :=
  (HostCase opPierSet (fun _ => 20) fun q s₀ s =>
    let c := pierCfg q.payload
    c.ok = true → (s.running = true → c.fixed = s.pier.cfg.fixed) →
      exec (.pierSet q) s₀ = .next (State.ok (State.defer (s.setPairing q.payload) opPierSet 0 q.payload) q opPierSet [])) ∧
  (HostCase opPierStatus (fun _ => 0) fun q s₀ s =>
    let x := s.pier
    let seen := (x.hb1.map fun t => decide (s.now ≤ t + s.silenceNs)).getD false
    let epoch := if x.epoch.toNat < x.partnerEpoch.toNat then x.partnerEpoch else x.epoch
    exec (.pierStatus q) s₀ = .next (s.ok q opPierStatus (pack 32 [fN 0 1 x.st, fB 1 0 x.cfg.roleB, f8 2 x.checks,
      f8 3 x.partnerChecks, f8 4 x.partnerState, fB 5 0 (s.paired && s.pierLinkUp), fB 5 1 seen, fB 5 2 x.actIn,
      fB 5 3 (x.actOut == some true), f16 6 x.clean, f32 8 epoch, f32 12 (lastFrame x.digestFrame), f64 16 x.digest,
      f32 24 (lastFrame (x.pend.map (·.frame))), f32 28 x.hbShort]))) ∧
  (HostCase opPierControl (fun _ => 8) fun q s₀ s =>
    let m := p32 q.payload 4
    s.paired = true → s.running = true → s.holds = true → s.pier.partnerState = 5 → s.partnerSilent = false →
      s.pierBusy = false → s.pier.revertAsked = none → 0 ≤ sdiff32 m s.planFrame →
      exec (.pierControlHandover q) s₀ = .next (State.ok
        (State.plannedStep { s with pier.pend := some ⟨m, 0x10, true, false⟩ }) q opPierControl [])) ∧
  (HostCase opPierControl (fun _ => 4) fun q s₀ s =>
    s.isStandby = true → s.pierBusy = false → s.pier.revertAsked = none →
      exec (.pierControlResync q) s₀ = .next (State.ok
        (State.askResync { s with pier.resyncGivenUp := false, pier.resyncTries := 0 }) q opPierControl [])) ∧
  (HostCase opPierControl (fun _ => 4) fun q s₀ s => s.pierBusy = false → s.pier.revertAsked = none →
    exec (.pierControlRevertHold q) s₀ = .next (State.ok { s with pier.revertHold := true } q opPierControl []) ∧
    exec (.pierControlRevertAllow q) s₀ = .next (State.ok { s with pier.revertHold := false } q opPierControl [])) ∧
  (HostCase opPierCounters (fun _ => 1) fun q s₀ s =>
    let x := s.pier
    exec (.pierCounters q) s₀ = .next (State.ok (if pbit q.payload 0 0 then
      { s with pier := { x with claims := 0, releases := 0, handovers := 0, divergences := 0, resyncs := 0,
                                resyncsAbandoned := 0, hbMissed := 0, witnessOnly := 0 } } else s) q opPierCounters
      (pack 32 [f32 0 x.claims, f32 4 x.releases, f32 8 x.handovers, f32 12 x.divergences, f32 16 x.resyncs,
        f32 20 x.resyncsAbandoned, f32 24 x.hbMissed, f32 28 x.witnessOnly])))

/-- KEY_LOAD, CHALLENGE, PROPOSE, APPROVE and PROPOSAL_CANCEL have their effects; BOX_STATUS, SLOT_INFO, WK_STATUS,
OFFICER_READ and IDENTITY_READ return their tables (R405 to R433). -/
def Obligations.BoxwoodCommandsComplete : Prop :=
  (HostCase opBoxStatus (fun _ => 0) fun q s₀ s =>
    let b := s.box
    exec (.boxStatus q) s₀ = .next (s.ok q opBoxStatus (pack 32 [fB 0 0 b.lock, fB 0 1 s.sys.boot.debugBoot,
      fB 0 2 b.debugNext, fB 0 3 b.proposal.isSome, fN 1 1 s.tamperResponse, fN 2 1 s.officers.length, fN 3 1 b.wk.length,
      fN 4 4 (s.slotBits 1), fN 8 4 (s.slotBits 2), f8 0x0C b.lastCause, fN 0x0D 1 b.level.toNat, fN 0x10 6 b.lastS,
      fN 0x18 4 b.lastNs, f32 0x1C ((b.proposal.map (·.id)).getD 0)]))) ∧
  (HostCase opSlotInfo (fun _ => 1) fun q s₀ s =>
    let n := (p8 q.payload 0).toNat
    n < 32 →
      (∀ c, s.slotSt n = 1 → (s.box.slot.get {} n).best = some c → exec (.slotInfo q) s₀ = .next (s.ok q opSlotInfo
        (pack 32 ([fN 0 1 1, f8 1 c.kind, f8 2 c.uses, f32 4 c.seq, fN 0x10 6 c.writtenS] ++ fBytes 8 c.labelPrefix ++
          fBytes 0x18 c.name)))) ∧
      ((s.slotSt n ≠ 1 ∨ (s.box.slot.get {} n).best = none) → exec (.slotInfo q) s₀ =
        .next (s.ok q opSlotInfo (pack 32 [fN 0 1 (s.slotSt n)])))) ∧
  (HostCase opWkStatus (fun _ => 1) fun q s₀ s =>
    let n := (p8 q.payload 0).toNat
    let r := s.box.wk.find? fun e => e.1 == n
    n < 64 →
      (∀ e, r = some e → exec (.wkStatus q) s₀ = .next (s.ok q opWkStatus (pack 8
        [fN 0 1 (if e.2.blob then 2 else 1), fN 1 1 e.2.root, f8 2 e.2.use, f32 4 e.2.id]))) ∧
      (r = none → exec (.wkStatus q) s₀ = .next (s.ok q opWkStatus (pack 8 [])))) ∧
  (HostCase opOfficerRead (fun _ => 1) fun q s₀ s =>
    let n := (p8 q.payload 0).toNat
    let r := s.officers.find? fun o => o.1 == n
    n < 8 →
      (∀ o, r = some o → exec (.officerRead q) s₀ = .next (s.ok q opOfficerRead
        (pack 48 ([fN 0 1 1] ++ fBytes 8 o.2.name ++ fBytes 0x10 o.2.keyHash)))) ∧
      (r = none → exec (.officerRead q) s₀ = .next (s.ok q opOfficerRead (pack 48 [])))) ∧
  (HostCase opIdentityRead (fun _ => 0) fun q s₀ s =>
    exec (.identityRead q) s₀ = .next (s.ok q opIdentityRead
      (publicKey s.identityScalar ++ [if s.sys.boot.debugBoot then 1 else 0, 0, 0]))) ∧
  (HostCase opKeyLoad (fun _ => 72) fun q s₀ s => ∀ (w : State × List U8) (p : List U8),
    let b := q.payload
    let id := p32 b 4
    let root := (p8 b 8).toNat
    let r := w.1.keep { blob := true, root := root, use := p8 b 9, id := id,
                        key := bytesAt p 0 (if p8 p 37 = 1 then 16 else 32), used := 0 }
    rd b 0 4 = 0x4258424C → root < 32 → (p8 b 9 = 1 ∨ p8 b 9 = 2) → s.box.lock = false →
      s.derive root 1 (ascii "WRAP" ++ be 4 (rd b 0x0C 4)) 256 = .ok w → keyUnwrap w.2 (bytesAt b 0x10 56) = some p →
      p32 p 32 = id → p8 p 36 = p8 b 9 → (rd p 40 8 = 0 ∨ w.1.seconds ≤ rd p 40 8) →
      (∀ x, r.1.sh.staged.blob = some x → x.1 = id → x.2.1.toNat = root → x.2.2.1 = p8 b 9 →
        exec (.keyLoad q) s₀ = .next (State.ok { r.1 with sh.staged := { r.1.sh.staged with blob := none } } q opKeyLoad
          [BitVec.ofNat 8 r.2])) ∧
      ((∀ x, r.1.sh.staged.blob = some x → ¬(x.1 = id ∧ x.2.1.toNat = root ∧ x.2.2.1 = p8 b 9)) →
        exec (.keyLoad q) s₀ = .next (r.1.ok q opKeyLoad [BitVec.ofNat 8 r.2]))) ∧
  (HostCase opChallenge (fun _ => 36) fun q s₀ s => ∀ c : SlotCopy,
    let n := (p8 q.payload 0x20).toNat
    let k := s.box.counter
    n < 32 → s.slotFor n = .ok c → c.kind = 1 → c.may 4 = true →
      exec (.challenge q) s₀ = .next (State.ok { s with
        box.counter := k + 1, box.reserved := if s.box.reserved ≤ k then (k / 4096 + 1) * 4096 else s.box.reserved } q opChallenge
        (le 8 k ++ hmac c.value (bytesAt q.payload 0 32 ++ be 4 s.tre.nodeId.toNat ++ be 8 k)))) ∧
  (HostCase opPropose (fun q => 4 + rd q.payload 2 2) fun q s₀ s =>
    let kind := (p8 q.payload 0).toNat
    let body := bytesAt q.payload 4 (rd q.payload 2 2)
    let plain := if kind = 1 then s.slotWritePlain body else none
    let p : Proposal := { id := s.box.proposalSeq + 1, kind := kind, body := body, nonce := Config.nonce s.fresh,
                          plain := plain.getD [], openedAt := s.now }
    let t := State.raiseProposal { s.draw with box.proposal := some p, box.proposalSeq := p.id } p 1 0xFF
    s.proposalCheck kind body plain = .ok → s.box.proposal = none →
      exec (.propose q) s₀ = .next (t.ok q opPropose
        (pack 40 ([f32 0 p.id, f32 0x24 t.tre.nodeId] ++ fBytes 4 (be 32 p.nonce.toNat))))) ∧
  (HostCase opApprove (fun _ => 208) fun q s₀ s => ∀ (writeFails : Nat) (p : Proposal) (o : Officer),
    let i := (p8 q.payload 4).toNat
    let key := bytesAt q.payload 8 97
    let t := s.raiseProposal p 2 i
    s.box.proposal = some p → i < 8 → (p.kind = 8 → s.box.tampered = false) → p.id = p32 q.payload 0 →
      s.fwExpired p.lapseAt = false → s.approver p i = some o → o.keyHash = sha256 key →
      ecdsaVerify key (s.approvalMessage p) (rdBE q.payload 0x70 48) (rdBE q.payload 0xA0 48) = true →
      (p.approvals = [] → exec (.approve q writeFails) s₀ = .next (State.respond
        { t with box.proposal := some { p with approvals := [i], firstAt := t.now } }
        q.ch opApprove q.tag .needSecondOfficer [] none)) ∧
      (i ∈ p.approvals → exec (.approve q writeFails) s₀ =
        .next (s.respond q.ch opApprove q.tag .needSecondOfficer [] none)) ∧
      (∀ u, p.approvals ≠ [] → i ∉ p.approvals →
        let v := { t with box.proposal := none }
        v.proposalCheck p.kind p.body (if p.kind = 1 then some p.plain else none) = .ok → v.applyProposal p writeFails = some u →
        exec (.approve q writeFails) s₀ = .next (State.ok (((u.raiseProposal p 3 0xFF).raiseF 117
          [fN 0 1 p.kind, fN 1 1 p.target]).tripEnabled v.box.tamper.en) q opApprove []))) ∧
  (HostCase opProposalCancel (fun _ => 4) fun q s₀ s => ∀ p : Proposal,
    s.box.proposal = some p → p.id = p32 q.payload 0 →
      exec (.proposalCancel q) s₀ =
        .next (State.ok (State.raiseProposal { s with box.proposal := none } p 5 0xFF) q opProposalCancel []))

/-- The assertion and release of tamper inputs, the trips of monitors and the lapse of a proposal have their effects (R420, R425,
R431). -/
def Obligations.TamperEventsComplete : Prop :=
  (EventCase fun dt s₀ s => ∀ n : Fin 4,
    let t := { s with box.level := s.box.level ||| BitVec.ofNat 4 (2 ^ n.val) }
    s.sys.fuses.grade = 2 →
      (s.box.tamper.en.getLsbD n.val = true → exec (.tamperInputAssert dt n) s₀ = .next (t.tamper (n.val + 1))) ∧
      (s.box.tamper.en.getLsbD n.val = false → exec (.tamperInputAssert dt n) s₀ = .next t)) ∧
  (EventCase fun dt s₀ s => ∀ n : Fin 3, exec (.tamperMonitorTrip dt n) s₀ =
    .next (State.tamper { s with box.tripped := s.box.tripped ||| BitVec.ofNat 3 (2 ^ n.val) } (n.val + 5))) ∧
  (EventCase fun dt s₀ s =>
    (∀ n : Fin 4, exec (.tamperInputRelease dt ⟨n.val, by omega⟩) s₀ =
      .next { s with box.level := s.box.level &&& ~~~(BitVec.ofNat 4 (2 ^ n.val)) }) ∧
    (∀ n : Fin 3, exec (.tamperInputRelease dt ⟨n.val + 4, by omega⟩) s₀ =
      .next { s with box.tripped := s.box.tripped &&& ~~~(BitVec.ofNat 3 (2 ^ n.val)) })) ∧
  (EventCase fun dt s₀ s => ∀ p : Proposal,
    s.box.proposal = some p → s.fwExpired p.lapseAt = true →
      exec (.proposalLapse dt) s₀ = .next (State.raiseProposal { s with box.proposal := none } p 4 0xFF))

/-- Doorbells, the take-up, responses, stalls, DMA completions and endpoint resets have their effects (R439 to R465). -/
def Obligations.TransportEventsComplete : Prop :=
  (EventCase fun dt s₀ s =>
    (∀ (c : Fin 8) (tail : U16), exec (.reqTailWrite dt c tail) s₀ = .next (s.doorbell c tail)) ∧
    (∀ (c : Fin 8) (head : U16), exec (.rspHeadWrite dt c head) s₀ = .next (s.rspHead c head)) ∧
    (∀ head : U16, exec (.evtHeadWrite dt head) s₀ = .next (s.evtHead head)) ∧
    (∀ (n : Fin 4) (tail : U16), exec (.hcRxTailWrite dt n tail) s₀ = .next (if s.net.eth[n].hc.cfg.rxEn then
      s.modEth n fun e => { e with hc := { e.hc with rxTail := tail } } else s)) ∧
    (∀ (n : Fin 4) (tail : U16), exec (.hcTxTailWrite dt n tail) s₀ = .next (if s.net.eth[n].hc.cfg.txEn then
      s.modEth n fun e => { e with hc := { e.hc with txTail := tail } } else s))) ∧
  (EventCase fun dt s₀ s => (s.mb.engine = 1 ∨ s.mb.engine = 2) → exec (.requestTakeUp dt) s₀ = .next s.takeNext) ∧
  (EventCase fun dt s₀ s => ∀ c f t,
    s.mb.ch[c].msgWait = some t → s.front c = some f → s.fwExpired (t + 1000000) = true →
      exec (.messageWaitTimeout dt c) s₀ = .next (s.takeUp c f (some .badLength))) ∧
  (EventCase fun dt s₀ s => ∀ (c : Fin 8) (r : Rsp),
    let ch := s.mb.ch[c]
    let b := s.signed c r
    let t := (s.writeUnits c ch.rspTail b.2).modCh c fun ch => { ch with rspTail := ch.rspTail + BitVec.ofNat 16 r.units }
    ch.rsp = some r →
      (ch.discard = true → exec (.responseWrite dt c) s₀ = .next (s.responseDone c r)) ∧
      (ch.discard = false → r.via = .ring → ch.room r = true → exec (.responseWrite dt c) s₀ =
        .next (State.responseDone (if ch.rspIrq && !t.mb.spi then t.msix ch.vector.toNat else t) c r)) ∧
      (ch.discard = false → r.via = .ring → ch.room r = false → exec (.responseWrite dt c) s₀ =
        .next (s.modCh c fun ch => { ch with st := 2, stall := some (ch.stall.getD s.now) })) ∧
      (ch.discard = false → r.via ≠ .ring → exec (.responseWrite dt c) s₀ =
        .next (((b.1.modCh c fun ch => { ch with cached := some b.2 }).sendBack r.via b.2).responseDone c r))) ∧
  (EventCase fun dt s₀ s => ∀ (c : Fin 8) (t : Nat),
    let ch := s.mb.ch[c]
    ch.stall = some t → s.fwExpired (t + ch.rspStallMs.toNat * 1000000) = true → ch.stallRaised = false →
      exec (.rspStallTimeout dt c) s₀ = .next (State.raiseF
        (s.modCh c fun ch => { ch with stallRaised := true, rspStalls := ch.rspStalls.inc }) 5 [fN 0 1 c.val])) ∧
  (EventCase fun dt s₀ s => ∀ (addr : Nat) (data : List U8),
    exec (.w0OtherWrite dt true addr data) s₀ = .next (s.w2Bytes addr data) ∧
    exec (.w0OtherWrite dt false addr data) s₀ = .next (s.w0Bytes addr data)) ∧
  (EventCase fun dt s₀ s => exec (.irqModerationTimer dt) s₀ = .next ((List.finRange 4).foldl
    (fun (s : State) n => s.hostchIrq n) (if s.mb.ev.irqPend then s.signalEvents else s))) ∧
  (EventCase fun dt s₀ s => ∀ (user : DmaUser) (addr : Nat),
    exec (.dmaCompletion dt user addr true) s₀ = .next { s with mb.dmaRun := false } ∧
    (s.dmaActive user = true → exec (.dmaCompletion dt user addr false) s₀ = .next (s.dmaFails user addr)) ∧
    (s.dmaOverdue user = true → exec (.dmaCompletionTimeout dt user addr) s₀ = .next (s.dmaFails user addr))) ∧
  (EventCase fun dt s₀ s =>
    let t := s.endpointReset
    exec (.pcieEndpointReset dt .perst) s₀ =
      .next { t with mb.perstCount := t.mb.perstCount.inc, mb.pcieWidth := 0, mb.pcieGen := 0 } ∧
    exec (.pcieEndpointReset dt .functionLevel) s₀ = .next t ∧
    exec (.pcieEndpointReset dt .linkLoss) s₀ = .next { t with mb.pcieWidth := 0, mb.pcieGen := 0 }) ∧
  (EventCase fun dt s₀ s => ∀ width gen : Fin 3, exec (.perstNRelease dt width gen) s₀ =
    .next { s with mb.pcieWidth := BitVec.ofNat 8 (2 ^ width.val), mb.pcieGen := BitVec.ofNat 8 (gen.val + 1) })

/-- SPI transactions, datagrams, relays and BULK messages have their effects (R454 to R461). -/
def Obligations.SerialAndRelayComplete : Prop :=
  (EventCase fun dt s₀ s => ∀ (addr : BitVec 24) (data : List U8) (n : Nat) (part : Bool),
    exec (.spiWrite dt addr data part) s₀ = .next (s.spiWrite addr.toNat data part) ∧
    exec (.spiQwrite dt addr data part) s₀ = .next (s.spiWrite addr.toNat data part) ∧
    exec (.spiRead dt addr n part) s₀ = .next (s.spiRead addr.toNat n part) ∧
    exec (.spiQread dt addr n part) s₀ = .next (s.spiRead addr.toNat n part)) ∧
  (EventCase fun dt s₀ s => s.mb.spi = true →
    exec (.spiStatus dt) s₀ = .next (State.spiGood { s.emit (.spi (pack 1 [fB 0 0 (s.mb.engine == 2),
      fB 0 1 s.eventNAsserted, fB 0 2 s.mb.spiFrameError])) with mb.spiFrameError := false }) ∧
    (∀ ins : U8, [0x02#8, 0x0B#8, 0x38#8, 0xEB#8, 0x05#8].contains ins = false →
      exec (.spiUnknownInstruction dt ins) s₀ = .next (s.spiError 3)) ∧
    (∀ idle : Nat, 10000000 ≤ idle → s.cycExpired (s.now - (idle - 10000000)) = true →
      exec (.spiIdleTimeout dt idle) s₀ = .next (s.spiError 4))) ∧
  (EventCase fun dt s₀ s => ∀ d : Datagram,
    let t := s.rxTake d.eth (rxQueue d.eth.val 1)
    (t.mb.engine = 1 ∧ d.eth = 0 ∧ p8 d.data 7 = 6 ∨
      t.mb.engine = 2 ∧ (t.pwr.mode ≠ .standby ∨ t.pwr.keepEth.getLsbD d.eth.val = true)) →
    t.mb.udp.portMask.getLsbD d.eth.val = true →
    (d.fragmented = true → exec (.udpMailboxDatagram dt d) s₀ = .next { t with mb.udpFragments := t.mb.udpFragments.inc }) ∧
    (d.fragmented = false → exec (.udpMailboxDatagram dt d) s₀ = .next (t.arrive (.udp d.eth d.ip d.port) d.data))) ∧
  (MsgCase fun dt span m s₀ s =>
    ((msgHead m.payload).response = true → exec (.mgmtMsg dt span m) s₀ = .next (s.relayReply m.src m.payload)) ∧
    ((msgHead m.payload).response = false → s.mb.engine = 2 →
      exec (.mgmtMsg dt span m) s₀ = .next (s.arrive (.relay m.src) m.payload))) ∧
  (EventCase fun dt s₀ s => ∀ r,
    s.mb.relay = some r → s.fwExpired (r.since + s.mb.udp.relayWaitMs.toNat * 1000000) = true →
      exec (.relayWaitExpiry dt) s₀ =
        .next (State.respond { s with mb.relay := none } r.ch opRelay r.tag .late [] none)) ∧
  (MsgCase fun dt span m s₀ s =>
    (rdBE m.payload 10 1 = 0 → exec (.bulkMsg dt span m) s₀ = .next
      ((s.bulkAck m.src (BitVec.ofNat 32 (rdBE m.payload 0 4)) (rdBE m.payload 4 4)).resyncDone).bulkOver) ∧
    (rdBE m.payload 10 1 ≠ 0 → exec (.bulkMsg dt span m) s₀ = .next (s.bulkData m.src m.payload))) ∧
  (EventCase fun dt s₀ s => exec (.bulkAckTimeout dt) s₀ = .next (s.bulkDue.foldl State.bulkTimeout s))

/-- MB_CONFIG, EVENT_SET, UDP_MB_SET and RELAY have their effects; MB_STATUS, TRANSPORT_STATUS and EVENT_READ return Tables
13.11 and 14.7 (R460, R462, R467, R480). -/
def Obligations.TransportCommandsComplete : Prop :=
  (HostCase opMbConfig (fun _ => 8) fun q s₀ s =>
    let p := q.payload
    let carrier := s.mb.ch[q.ch].bind
    (p8 p 0).toNat < 8 → (p8 p 2).toNat < 8 → 10 ≤ rd p 4 2 → rd p 4 2 ≤ 60000 →
      (BitVec.ofNat 8 (pbits p 1 0 2) = carrier ∨ ∃ x : Fin 8, x.val ≠ (p8 p 0).toNat ∧ s.mb.ch[x].bind = carrier) →
      exec (.mbConfig q) s₀ = .next (State.respond (s.remember opMbConfig (p8 p 0).toNat p) q.ch opMbConfig q.tag .ok []
        (some (opMbConfig, p)))) ∧
  (HostCase opMbStatus (fun _ => 1) fun q s₀ s => ∀ x : Fin 8,
    let c := s.mb.ch[x]
    (p8 q.payload 0).toNat = x.val →
      exec (.mbStatus q) s₀ = .next (s.ok q opMbStatus (pack 28 [f8 0 c.bind, f8 1 c.st, f32 4 c.taken, f32 8 c.badLength,
        f32 12 c.expired, f32 16 c.authFails, f32 20 c.rspStalls, f32 24 c.dupResends]))) ∧
  (HostCase opEventSet (fun _ => 48) fun q s₀ s =>
    let c := eventCfg q.payload
    c.vector.toNat < 8 → ringEntries c.entries.toNat = true → 1 ≤ c.irqUs.toNat → c.irqUs.toNat ≤ 10000 →
      c.base.toNat % 32 = 0 → (c.ringHost = true → s.mb.spi = false) →
      exec (.eventSet q) s₀ =
        .next (State.ok (State.setEvent q.payload (s.remember opEventSet 0 q.payload)) q opEventSet [])) ∧
  (HostCase opTransportStatus (fun _ => 0) fun q s₀ s =>
    let m := s.mb
    exec (.transportStatus q) s₀ = .next (s.ok q opTransportStatus (pack 28 [fB 0 0 m.spi, f8 1 m.pcieWidth, f8 2 m.pcieGen,
      f32 4 m.dmaFaults, f32 8 m.spiFrameErrors, f32 12 m.spiAddrErrors, f32 16 m.udpFragments, f32 20 m.perstCount,
      f32 24 m.ev.lost]))) ∧
  (HostCase opUdpMbSet (fun _ => 8) fun q s₀ s =>
    let p := q.payload
    (p8 p 0).toNat < 32 → rd p 2 2 ≤ 1000 → 10 ≤ rd p 4 2 → rd p 4 2 ≤ 2000 →
      exec (.udpMbSet q) s₀ = .next (State.respond (s.remember opUdpMbSet 0 p) q.ch opUdpMbSet q.tag .ok []
        (some (opUdpMbSet, p)))) ∧
  (HostCase opEventRead (fun _ => 1) fun q s₀ s =>
    let n := (p8 q.payload 0).toNat
    let l := s.mb.ev.unread.take n
    let t := s.evtHead (s.mb.ev.head + BitVec.ofNat 16 l.length)
    1 ≤ n → n ≤ 64 → s.mb.ev.cfg.ringHost = false →
      exec (.eventRead q) s₀ = .next (t.ok q opEventRead
        (pack 8 [fN 0 2 l.length, fN 2 2 t.mb.ev.unread.length, f32 4 t.mb.ev.lost] ++ l.flatMap (·.2)))) ∧
  (HostCase opRelay (fun q => 72 + rd q.payload 12 2) fun q s₀ s =>
    let len := rd q.payload 12 2
    let msg := bytesAt q.payload 8 (64 + len)
    let bulk := (msgHead (bytesAt q.payload 8 64)).bulk
    let off := 8 + 64 + len - 16
    let n := rd q.payload (off + 8) 4
    let b := { q with bulk := true }
    s.mb.relay = none →
      (bulk = false → exec (.relay q) s₀ = .next ((s.relaySend q msg []).waitOn q.ch)) ∧
      (∀ data, bulk = true → 16 ≤ len → s.mb.ch[q.ch].bind = 0 → 1 ≤ n → n ≤ 4096 → bulkDenied b off n s = false →
        s.mb.bulkFault.getLsbD q.ch.val = false → bulkBytes b off n s = some data →
        exec (.relay q) s₀ = .next ((s.relaySend q msg data).waitOn q.ch)))

/-- SYS_RESET and its execution, SETTINGS_SAVE, DIAG_ECHO, DIAG_SELFTEST and its end, DIAG_EVENT_RAISE and DIAG_FAULT_INJECT have
their effects; SYS_INFO, SYS_STATUS and DIAG_PIN_READ return their tables (R476 to R484). -/
def Obligations.SystemCommandsComplete : Prop :=
  (HostCase opSysInfo (fun _ => 0) fun q s₀ s =>
    let y := s.sys
    exec (.sysInfo q) s₀ = .next (s.ok q opSysInfo (pack 48 ([fN 0 4 0x00009640, f8 4 y.fuses.grade, f8 5 y.fuses.silicon,
      f8 6 y.boot.profile, f8 7 y.boot.bank, f32 8 s.tre.nodeId, f32 12 y.boot.fwVersion] ++
      ((List.finRange 8).map fun k => f16 (16 + 2 * k.val) y.boot.partVer[k]) ++ [f64 32 y.fuses.serial,
      f8 40 y.boot.bootCause, f8 41 s.mb.engine, fB 42 0 y.boot.debugBoot, fN 44 4 ((s.now - y.bootAt) / 1000000000)])))) ∧
  (HostCase opSysStatus (fun _ => 0) fun q s₀ s =>
    exec (.sysStatus q) s₀ = .next (s.ok q opSysStatus (pack 24 [fN 0 1 (if s.pwr.mode = .standby then 1 else 0),
      fN 1 1 s.grid.st, fN 2 1 s.pier.st, fN 3 1 s.pwr.thermal.level, fN 4 1 s.ks.st.code, fB 5 0 s.box.lock,
      fB 5 1 (s.sh.house.mask != 0), fB 5 2 (s.ks.faultHold || s.ks.faultOffset), fB 5 3 s.sh.active.isSome,
      fN 6 2 s.mb.ev.unread.length, f32 8 s.grid.lastFrameNo, fN 12 3 s.grid.slip, f32 16 s.mb.ev.lost]))) ∧
  (HostCase opSysReset (fun _ => 4) fun q s₀ s => p16 q.payload 0 = 0x5345 →
    exec (.sysReset q) s₀ = .next (s.respond q.ch opSysReset q.tag .ok [] (some (opSysReset, [])))) ∧
  (EventCase fun dt s₀ s => ∀ t : Nat,
    s.sys.reset = .at t → t ≤ s.now → s.flash.update.recording = false →
      exec (.sysResetExecute dt) s₀ = .next (s.reborn 2)) ∧
  (HostCase opSettingsSave (fun _ => 4) fun q s₀ s => ∀ x : Stored,
    let next := (p8 q.payload 0).toNat
    let b : Fin 2 := if s.sys.boot.bank = 1 then 1 else 0
    let t := s.saveSettings b next (pbit q.payload 1 0)
    next ≤ 2 → newerCopy (·.seq) t.flash.stored[b] = some x →
      exec (.settingsSave q) s₀ = .next (State.ok
        (t.raiseF 1 [f32 0 x.seq, fN 4 1 next, fB 5 0 (pbit q.payload 1 0)]) q opSettingsSave (pack 4 [f32 0 x.seq]))) ∧
  (HostCase opDiagEcho (fun _ => 0) fun q s₀ s => q.payload.length ≤ 3008 →
    exec (.diagEcho q) s₀ = .next (s.ok q opDiagEcho q.payload)) ∧
  (HostCase opDiagPinRead (fun _ => 0) fun q s₀ s =>
    exec (.diagPinRead q) s₀ = .next (s.draw.draw.ok q opDiagPinRead (pack 16 [fB 0 0 s.sys.houseN, fB 0 1 s.pier.actIn,
      fB 0 2 (s.pier.actOut.getD (Config.pinLevel (s.fresh + 1))), fB 0 3 (!s.eventNAsserted), fB 0 4 s.tc.ppsIn,
      fB 0 5 s.tc.frameRefIn, fB 0 6 s.tc.ltcInLevel,
      fN 1 1 (s.sys.bootMode.toNat % 4 + 4 * (s.sys.radioIrq.toNat % 16)), f64 4 (Config.portLevels s.fresh)]))) ∧
  (HostCase opDiagSelftest (fun _ => 8) fun q s₀ s =>
    let tests := pbits q.payload 0 0 4
    tests ≠ 0 → s.running = false → s.sys.selfTest = none →
      exec (.diagSelftest q) s₀ = .next (State.ok
        { s with sys.selfTest := some { tests := BitVec.ofNat 8 tests, tag := p32 q.payload 4 } } q opDiagSelftest [])) ∧
  (EventCase fun dt s₀ s => ∀ (t : SelfTest) (failed : BitVec 4) (first : U32) (cores : List (Fin 64)),
    let d := if t.tests.getLsbD 0 then State.deckTested { s with sys.selfTest := none } else { s with sys.selfTest := none }
    let c := if t.tests.getLsbD 1 ∧ failed.getLsbD 1 then
        cores.foldl (fun (s : State) k => s.excludeCore k s.grid.lastFrameNo) d else d
    s.sys.selfTest = some t →
      exec (.selftestComplete dt failed first cores) s₀ = .next (State.raiseF c 2
        [f32 0 t.tag, f8 4 t.tests, fN 5 1 (failed.toNat &&& t.tests.toNat), f32 8 first])) ∧
  (HostCase opDiagEventRaise (fun _ => 16) fun q s₀ s =>
    exec (.diagEventRaise q) s₀ = .next ((s.raise 3 (bytesAt q.payload 0 16)).ok q opDiagEventRaise [])) ∧
  (HostCase opDiagFaultInject (fun _ => 20) fun q s₀ s =>
    let kind := (p8 q.payload 4).toNat
    let count := (p8 q.payload 5).toNat
    let arg := rd q.payload 8 4
    let apply := p32 q.payload 12
    let t := ((s.inject kind count arg apply).raiseF 8 [fN 0 1 kind, fN 4 4 arg, f32 8 apply]).ok q opDiagFaultInject []
    p32 q.payload 0 = 0x4A4E4946 → injectOk kind count arg = true → s.mb.ch[q.ch].bind = 0 →
      (kind < 4 ∨ s.running = false ∨ s.changeLate apply = false) →
      exec (.faultInjectDeckSingle q) s₀ = .next t ∧ exec (.faultInjectDeckDouble q) s₀ = .next t ∧
      exec (.faultInjectCore q) s₀ = .next t ∧ exec (.faultInjectDigest q) s₀ = .next t ∧
      exec (.faultInjectCheck q) s₀ = .next t ∧ exec (.faultInjectFlowTrap q) s₀ = .next t)

/-- Supplies, RESET_N, the end of a boot, the boot watchdog and a scheduled wake have their effects (R489 to R502). -/
def Obligations.SupplyEventsComplete : Prop :=
  (EventCase fun dt s₀ s => ∀ mv : Nat,
    (s.pwr.mode = .off → exec (.vinRise dt mv) s₀ =
      .next (State.reborn { s with
      pwr.vinMv := BitVec.ofNat 16 mv, pwr.vinLow := false, pwr.vbatSwitched := !s.pwr.vbatOk } 0)) ∧
    (s.pwr.mode ≠ .off → s.pwr.vinLow = false → exec (.vinLowWarning dt mv) s₀ = .next (State.raiseF
      { s with pwr.vinMv := BitVec.ofNat 16 mv, pwr.vinLow := true } 123 [fN 0 1 0, fN 1 1 1, fN 2 2 mv])) ∧
    (s.pwr.mode ≠ .off → s.pwr.vinLow = true → exec (.vinRangeReturn dt mv) s₀ = .next (State.raiseF
      { s with pwr.vinMv := BitVec.ofNat 16 mv, pwr.vinLow := false } 123 [fN 0 1 0, fN 1 1 2, fN 2 2 mv])) ∧
    exec (.vinShutdown dt mv) s₀ =
      .next (State.powerOff { s with pwr.vinMv := BitVec.ofNat 16 mv, pwr.vbatSwitched := false } false).blankBox ∧
    (exec (.vbatOutOfRange dt mv) s₀ = .next (State.raiseIf (State.blankBox { s with
      pwr.vbatMv := BitVec.ofNat 16 mv, pwr.vbatOk := false, pwr.vbatSwitched := !s.vinGone }) (s.pwr.vbatOk && s.pwr.mode != .off)
        123 [fN 0 1 1, fN 1 1 1, fN 2 2 mv])) ∧
    (exec (.vbatReturn dt mv) s₀ = .next (State.raiseIf
      { s with pwr.vbatMv := BitVec.ofNat 16 mv, pwr.vbatOk := true, pwr.vbatSwitched := false }
        (!s.pwr.vbatOk && s.pwr.mode != .off) 123 [fN 0 1 1, fN 1 1 2, fN 2 2 mv]))) ∧
  (EventCase fun dt s₀ s => ∀ (bank : Fin 2) (mv : Nat),
    let was := s.pwr.vddio[bank]
    (was < 1620 → 1620 ≤ mv → exec (.vddioRise dt bank mv) s₀ = .next (State.bankPairs
      { s with pwr.vddio := s.pwr.vddio.set bank mv } bank fun x => { x with undriven := true })) ∧
    (1620 ≤ was → exec (.vddioRise dt bank mv) s₀ = .next { s with pwr.vddio := s.pwr.vddio.set bank mv }) ∧
    exec (.vddioFall dt bank) s₀ = .next (((List.finRange 4).filter fun i => ofBank bank i.val 2).foldl State.radioDown
      (State.bankPairs { s with pwr.vddio := s.pwr.vddio.set bank 0 } bank fun x => { x with tx := none }))) ∧
  (EventCase fun dt s₀ s =>
    let t := { s with sys.resetN := false }
    (t.vinGone = false → exec (.resetNAssert dt) s₀ = .next { t.reborn 1 with sys.resetN := false }) ∧
    (t.vinGone = true → exec (.resetNAssert dt) s₀ = .next t) ∧
    (s.sys.resetN = false → exec (.resetNRelease dt) s₀ = .next { s with sys.resetN := true, sys.bootAt := s.now })) ∧
  (EventCase fun dt s₀ s => ∀ r : BootRead,
    s.mb.engine = 0 → s.pwr.mode = .run → s.sys.resetN = true → exec (.bootReady dt r) s₀ = .next (s.boot r)) ∧
  (EventCase fun dt s₀ s => ∀ bootMode : Fin 4,
    let f := s.flash.bankFails s.flash.bootRec.bank 1 true
    s.mb.engine = 0 → s.pwr.mode = .run → s.sys.resetN = true → s.fwExpired (s.sys.bootAt + 10000000000) = true →
      (f.2.isSome = true → exec (.bootWatchdogExpiry dt bootMode) s₀ = .next { s with flash := f.1, sys.bootAt := s.now }) ∧
      (f.2 = none → exec (.bootWatchdogExpiry dt bootMode) s₀ = .next (State.recovery { s with flash := f.1 }
        { bootMode := bootMode, fail := .replicate 2 none, partVer := .replicate 8 0, settingsFormat := 0, radioMac := false,
          fwVersion := 0, drivers := [] }))) ∧
  (EventCase fun dt s₀ s => s.wakeDue = true → exec (.scheduledWake dt) s₀ = .next (s.wake 1))

/-- POWER_MODE_SET, WAKE_SCHEDULE_SET and THERMAL_SET, thermal evaluation, throttling, the orderly stop, the trip and the restart
have their effects; POWER_STATUS and THERMAL_STATUS return Tables 15.16 and 15.17 (R494 to R519). -/
def Obligations.PowerCommandsComplete : Prop :=
  (∀ (q : Req) (s₀ : State),
    let s := s₀.elapse q.dt
    s₀.mb.engine = 2 → s₀.asked opPowerModeSet q = true → s₀.mb.ch[q.ch].svc.any (·.abort) = false →
      4 ≤ q.payload.length → p8 q.payload 0 = 0 →
      exec (.powerModeRun q) s₀ = .next ((s.wake (if s.wakeDue then 1 else 2)).ok q opPowerModeSet [])) ∧
  (HostCase opPowerModeSet (fun _ => 4) fun q s₀ s =>
    p8 q.payload 0 = 1 → s.wakeAhead = true → s.running = false → s.flash.update.st ≠ 1 → s.flash.update.st ≠ 2 →
      s.sys.selfTest = none →
      exec (.powerModeStandby q) s₀ =
        .next ((s.standby (BitVec.ofNat 4 (pbits q.payload 1 0 4)) (pbit q.payload 1 4)).ok q opPowerModeSet [])) ∧
  (HostCase opWakeScheduleSet (fun _ => 72) fun q s₀ s =>
    (p8 q.payload 0).toNat ≤ 8 → 500 ≤ rd q.payload 2 2 → rd q.payload 2 2 ≤ 50000 →
      exec (.wakeScheduleSet q) s₀ = .next (State.ok
        (State.setWake q.payload (s.remember opWakeScheduleSet 0 q.payload)) q opWakeScheduleSet [])) ∧
  (HostCase opPowerStatus (fun _ => 0) fun q s₀ s =>
    let x := s.pwr
    exec (.powerStatus q) s₀ = .next (s.ok q opPowerStatus (pack 32 ([fN 0 1 (if x.mode = .standby then 1 else 0),
      fN 1 1 x.wakeCause, fN 2 1 (vddioCode x.vddio[0] + 4 * vddioCode x.vddio[1]), fB 2 4 x.vbatOk, fB 2 5 x.vbatSwitched,
      f16 4 x.vinMv, f16 6 x.vbatMv, f32 8 x.powerMw] ++
      (List.range 10).map fun d => fN (12 + 2 * d) 2 (min 65535 (x.domainMw.getD d 0)))))) ∧
  (EventCase fun dt s₀ s => ∀ r : ThermalRead,
    s.pwr.mode ≠ .off → exec (.thermalEvaluation dt r) s₀ = .next (s.thermalEvaluate r)) ∧
  (EventCase fun dt s₀ s =>
    let x := s.pwr.thermal
    (x.level = 2 → x.stepAt + 100000000 ≤ s.now → deg x.cfg.throttleC.toNat ≤ x.tj → x.cfg.floor < x.eighths →
      exec (.throttleStepDown dt) s₀ =
        .next { s with pwr.thermal := { x with eighths := x.eighths - 1, stepAt := s.now } }) ∧
    (x.level = 2 → x.stepAt + 1000000000 ≤ s.now → x.tj < deg ((x.cfg.throttleC.toNat : Int) - 5) → x.eighths < 8 →
      exec (.throttleStepUp dt) s₀ =
        .next { s with pwr.thermal := { x with eighths := x.eighths + 1, stepAt := s.now } }) ∧
    (s.powerDownDue = true → exec (.orderlyPowerDown dt) s₀ = .next (s.powerOff true))) ∧
  (EventCase fun dt s₀ s => ∀ reading : List Int,
    2 ≤ ((List.range 29).filter fun i => decide (deg 125 ≤ readingAt reading i)).length → s.pwr.mode ≠ .off →
      exec (.hardwareThermalTrip dt reading) s₀ = .next (s.powerOff true)) ∧
  (EventCase fun dt s₀ s => ∀ (die : Int) (t : Nat),
    let c := s.pwr.thermal.cfg
    s.pwr.tripAt = some t → s.pwr.mode = .off → c.restartEn = true → t + c.restartS.toNat * 1000000000 ≤ s.now →
      die ≤ deg ((c.warnC.toNat : Int) - 10) → exec (.thermalRestart dt die) s₀ = .next (s.reborn 3)) ∧
  (HostCase opThermalStatus (fun _ => 0) fun q s₀ s =>
    let x := s.pwr.thermal
    exec (.thermalStatus q) s₀ = .next (s.ok q opThermalStatus (pack 76 ([fN 0 1 x.level, fN 1 1 x.eighths, fI 2 2 x.tj,
      fN 4 1 x.tjSource, fN 5 1 x.excluded.length, fN 8 4 (x.excluded.foldl (fun m i => m + 2 ^ i) 0), f32 12 x.throttleMs] ++
      (List.range 29).map fun i => fI (16 + 2 * i) 2 (readingAt x.reading i))))) ∧
  (HostCase opThermalSet (fun _ => 8) fun q s₀ s =>
    let c := thermalCfg q.payload
    60 ≤ c.warnC.toNat → c.warnC.toNat < c.throttleC.toNat → c.throttleC.toNat ≤ 110 → 70 ≤ c.throttleC.toNat →
      c.warnC.toNat ≤ 100 → c.throttleC.toNat < c.stopC.toNat → 75 ≤ c.stopC.toNat → c.stopC.toNat ≤ 115 → 4 ≤ c.floor → c.floor ≤ 7 →
      10 ≤ c.restartS.toNat → c.restartS.toNat ≤ 3600 →
      exec (.thermalSet q) s₀ =
        .next (State.ok (State.setThermal q.payload (s.remember opThermalSet 0 q.payload)) q opThermalSet []))

/-- The commands and events of a firmware update have their effects, and UPDATE_STATUS returns Table 15.19 (R514 to R519). -/
def Obligations.UpdateCompletes : Prop :=
  (HostCase opUpdateBegin (fun _ => 4) fun q s₀ s =>
    let n := rd q.payload 0 4
    let b := (s.flash.rec_.map fun r => 1 - r.active).getD 0
    let f := (s.flash.markBank b 0).setBank b []
    s.box.lock = false → n ≤ 0x1E00000 → s.flash.update.open_ = false → s.flash.update.recording = false →
      exec (.updateBegin q) s₀ = .next (State.ok
        { s with flash := { f with update := { st := 1, bank := b, bytes := n, lastAt := s.now } } } q opUpdateBegin
          [BitVec.ofNat 8 b])) ∧
  (HostCase opUpdateBlock (fun q => max 8 (needBulk q 8 (rd q.payload 4 2))) fun q s₀ s => ∀ b : List U8,
    let n := rd q.payload 4 2
    let off := rd q.payload 0 4
    let u := s.flash.update
    let gs := granulesOf off b
    let new := gs.filter fun g => u.granules.get [] g.1 == []
    s.box.lock = false → 1 ≤ n → n ≤ (if q.bulk then 4096 else 4024) →
      (q.bulk = true → q.payload.length = 24 ∧ bulkDenied q 8 n s = false ∧ s.mb.bulkFault.getLsbD q.ch.val = false) →
      bulkBytes q 8 n s = some b → u.st = 1 → off % 64 = 0 → off + n ≤ u.bytes → (n % 64 = 0 ∨ off + n = u.bytes) →
      (∀ g ∈ gs, u.granules.get [] g.1 = [] ∨ u.granules.get [] g.1 = g.2) →
      (64 * (u.buffered.length + new.length) ≤ 0x40000 ∨ new = []) →
      exec (.updateBlock q) s₀ = .next (State.ok { s with flash.update := { u with
        granules := new.foldl (fun (t : Tab (List U8)) g => t.set [] g.1 g.2) u.granules
        buffered := u.buffered ++ new.map (·.1), written := u.written + (new.map (·.2.length)).sum
        lastAt := s.now } } q opUpdateBlock [])) ∧
  (EventCase fun dt s₀ s =>
    let u := s.flash.update
    let bank := if u.bank = 0 then s.flash.bank[(0 : Fin 2)] else s.flash.bank[(1 : Fin 2)]
    u.open_ = true → exec (.flashProgramComplete dt) s₀ = .next { s with flash := { (s.flash.setBank u.bank
      (u.buffered.foldl (fun (t : Tab (List U8)) g => t.set [] g (u.granules.get [] g)) bank)) with
        update := { u with buffered := [] } } }) ∧
  (EventCase fun dt s₀ s =>
    let u := s.flash.update
    u.st = 1 → s.fwExpired (u.lastAt + 600000000000) = true →
      exec (.updateIdleTimeout dt) s₀ = .next { s with flash := { (s.flash.setBank u.bank []) with
        update := { u with st := 4, reason := 9, buffered := [], granules := [] } } }) ∧
  (HostCase opUpdateEnd (fun _ => 0) fun q s₀ s => s.box.lock = false → s.flash.update.st = 1 →
    exec (.updateEnd q) s₀ = .next (State.ok { s with flash.update.st := 2 } q opUpdateEnd [])) ∧
  (EventCase fun dt s₀ s => ∀ readBack : Bool,
    let u := s.flash.update
    let ver : U32 := BitVec.ofNat 32 (pkgNum u.granules 8 4)
    let r := s.updateReason readBack
    let f := s.flash.write fun x => { x with
      state := if u.bank = 0 then x.state.set 0 1 else x.state.set 1 1
      version := if u.bank = 0 then x.version.set 0 ver else x.version.set 1 ver }
    u.st = 2 → u.buffered = [] →
      (r.1 = 0 → exec (.updateCheckComplete dt readBack) s₀ = .next (State.raiseF
        { s with flash := { f with update := { u with st := 3, reason := 0, part := r.2, version := ver } } } 124
        [fN 0 1 1, fN 1 1 u.bank, fN 2 1 0, fN 3 1 r.2, f32 4 ver])) ∧
      (r.1 ≠ 0 → exec (.updateCheckComplete dt readBack) s₀ = .next (State.raiseF
        { s with flash := { s.flash with update := { u with st := 4, reason := r.1, part := r.2, version := ver } } } 124
        [fN 0 1 2, fN 1 1 u.bank, fN 2 1 r.1, fN 3 1 r.2, f32 4 ver]))) ∧
  (HostCase opUpdateActivate (fun _ => 0) fun q s₀ s =>
    s.box.lock = false → s.flash.update.st = 3 → s.flash.update.recording = false →
      exec (.updateActivate q) s₀ = .next (State.ok { s with flash.update.recording := true } q opUpdateActivate [])) ∧
  (EventCase fun dt s₀ s =>
    let u := s.flash.update
    let f := s.flash.write fun r => { r with active := u.bank, trial := true, trialBoots := 0 }
    u.recording = true → exec (.bootRecordWriteComplete dt) s₀ =
      .next { s with flash := { f with update := { u with st := 5, recording := false }, takeOther := true } }) ∧
  (HostCase opUpdateAbort (fun _ => 0) fun q s₀ s =>
    let u := s.flash.update
    s.box.lock = false → (u.open_ = true ∨ u.st = 3) → u.recording = false →
      exec (.updateAbort q) s₀ = .next (State.ok
        { s with flash := { ((s.flash.markBank u.bank 0).setBank u.bank []) with update := { bank := u.bank } } }
        q opUpdateAbort [])) ∧
  (HostCase opUpdateStatus (fun _ => 0) fun q s₀ s =>
    let u := s.flash.update
    let r := s.flash.rec_.getD {}
    s.box.lock = false →
      exec (.updateStatus q) s₀ = .next (s.ok q opUpdateStatus (pack 24 [fN 0 1 u.st, fN 1 1 u.bank, fN 2 1 u.reason,
        fN 3 1 u.part, fN 4 4 u.bytes, fN 8 4 u.written, f32 12 u.version, fN 16 1 r.active, fB 17 0 r.trial,
        fN 18 1 r.trialBoots,
        f32 20 (if s.sys.boot.bank = 0 then r.version[0] else if s.sys.boot.bank = 1 then r.version[1] else 0)])))

/-- A step takes the command at the front of the queue and carries it out on the state with the queue's rest. The queue is
the model's (log entry 1). -/
def Obligations.StepRunsTheFront : Prop :=
  ∀ (c : Instr) (rest : List Instr) (s : State), step { s with pending := c :: rest } = exec c { s with pending := rest }

/-- With no command waiting a step changes nothing: the model's choice (log entry 1), since every passing of time is an
operand of a command. -/
def Obligations.EmptyQueueIdles : Prop := ∀ s : State, s.pending = [] → step s = .next s

/-- In every state every command answers a next state and takes nothing from the queue. -/
def Obligations.EveryCommandCompletes : Prop := ∀ (c : Instr) (s : State), ∃ t, exec c s = .next t ∧ t.pending = s.pending

/-- R476: what is read from fuses never changes; what a boot fixes changes only with a command that begins or ends a boot;
SYS_INFO returns Table 14.5. -/
def Obligations.IdentityKept : Prop :=
  (∀ (c : Instr) (s t : State), exec c s = .next t → t.sys.fuses = s.sys.fuses) ∧
  (∀ (c : Instr) (s t : State), bootsOrEnds c = false → exec c s = .next t → t.sys.boot = s.sys.boot) ∧
  (HostCase opSysInfo (fun _ => 0) fun q s₀ s =>
    let f := s.sys.fuses
    let b := s.sys.boot
    exec (.sysInfo q) s₀ = .next (s.ok q opSysInfo (pack 48 ([fN 0 4 0x00009640, f8 4 f.grade, f8 5 f.silicon, f8 6 b.profile,
      f8 7 b.bank, f32 8 s.tre.nodeId, f32 12 b.fwVersion] ++
      ((List.finRange 8).map fun k => f16 (16 + 2 * k.val) b.partVer[k]) ++
      [f64 32 f.serial, f8 40 b.bootCause, f8 41 s.mb.engine, fB 42 0 b.debugBoot,
        fN 44 4 ((s.now - s.sys.bootAt) / 1000000000)]))))

/-- Windows W0 and W2 keep their canonical form under every step. -/
def Obligations.WindowsStayCanonical : Prop :=
  ∀ s t : State, Canon s.mb.w0 s.mb.w2 → step s = .next t → Canon t.mb.w0 t.mb.w2

/-- After reset windows W0 and W2 list nothing, the engine boots and no command waits. -/
def Obligations.ResetWindowsCanonical : Prop :=
  Canon State.reset.mb.w0 State.reset.mb.w2 ∧ State.reset.mb.engine = 0 ∧ State.reset.pending = []

/-- While the engine boots and in secure hold no host message has an effect or an answer (R473, R499, Table 12.9). -/
def Obligations.NoAnswerBeforeReady : Prop :=
  ∀ (i : Instr) (op need : Nat) (q : Req) (s : State), hostCommand i = some (op, need, q) →
    (s.mb.engine = 0 ∨ s.mb.engine = 3) → exec i s = .next (s.elapse q.dt)

/-- The checks that every host command taken up passes first: the recovery ROM's opcodes (R473), the length (R475) and venue standby's
opcodes (R495). -/
def Obligations.HostMessagesAreGated : Prop :=
  ∀ (i : Instr) (op need : Nat) (q : Req) (s : State), hostCommand i = some (op, need, q) → s.asked op q = true →
    (s.mb.engine = 1 → servedInRecovery op = false →
      exec i s = .next ((s.elapse q.dt).respond q.ch op q.tag .notReady [] none)) ∧
    (s.mb.engine = 2 → q.payload.length < need →
      exec i s = .next ((s.elapse q.dt).respond q.ch op q.tag .badLength [] none)) ∧
    (s.mb.engine = 2 → need ≤ q.payload.length → s.pwr.mode = .standby → servedInStandby op = false →
      exec i s = .next ((s.elapse q.dt).respond q.ch op q.tag .notReady [] none))

/-- R480: EVENT_READ returns up to COUNT of the oldest records and advances EVT_HEAD past them; with RING_HOST = 1,
ST_NOT_READY. An EVT_HEAD that makes room writes the events that a full ring refused in that very count cycle (R466); with none
the records left are those after the ones returned. -/
def Obligations.EventReadTakesTheOldest : Prop :=
  HostCase opEventRead (fun _ => 1) fun q s₀ s =>
    let n := (p8 q.payload 0).toNat
    let v := s.mb.ev
    let l := v.unread.take n
    let t := s.evtHead (v.head + BitVec.ofNat 16 l.length)
    1 ≤ n → n ≤ 64 →
      (v.cfg.ringHost = true → exec (.eventRead q) s₀ = .next (s.respond q.ch opEventRead q.tag .notReady [] none)) ∧
      (v.cfg.ringHost = false → exec (.eventRead q) s₀ = .next (t.ok q opEventRead
        (pack 8 [fN 0 2 l.length, fN 2 2 t.mb.ev.unread.length, f32 4 t.mb.ev.lost] ++ l.flatMap (·.2)))) ∧
      t.mb.ev.head = v.head + BitVec.ofNat 16 l.length ∧
      (v.refused = [] ∨ v.refusedAt ≠ s.now / 4 → t =
        { s with mb.ev := { v with head := v.head + BitVec.ofNat 16 l.length, unread := v.unread.drop l.length } })

/-- R481: DIAG_ECHO returns its payload, DIAG_PIN_READ the pins, and DIAG_EVENT_RAISE raises E003. The levels of PORT_LEVELS,
and of PIER_ACT_OUT at high impedance, are free values. -/
def Obligations.DiagnosticsReturn : Prop :=
  (HostCase opDiagEcho (fun _ => 0) fun q s₀ s =>
    (q.payload.length ≤ 3008 → exec (.diagEcho q) s₀ = .next (s.ok q opDiagEcho q.payload)) ∧
    (3008 < q.payload.length →
      exec (.diagEcho q) s₀ = .next (s.respond q.ch opDiagEcho q.tag .badLength [] none))) ∧
  (HostCase opDiagPinRead (fun _ => 0) fun q s₀ s =>
    exec (.diagPinRead q) s₀ = .next (s.draw.draw.ok q opDiagPinRead (pack 16 [fB 0 0 s.sys.houseN, fB 0 1 s.pier.actIn,
      fB 0 2 (s.pier.actOut.getD (Config.pinLevel (s.fresh + 1))), fB 0 3 (!s.eventNAsserted), fB 0 4 s.tc.ppsIn,
      fB 0 5 s.tc.frameRefIn, fB 0 6 s.tc.ltcInLevel, fN 1 1 (s.sys.bootMode.toNat % 4 + 4 * (s.sys.radioIrq.toNat % 16)),
      f64 4 (Config.portLevels s.fresh)]))) ∧
  (HostCase opDiagEventRaise (fun _ => 16) fun q s₀ s =>
    let d := bytesAt q.payload 0 16
    let v := s.mb.ev
    let j := v.after (s.now / 4) 3
    ∃ t : State, exec (.diagEventRaise q) s₀ = .next (t.ok q opDiagEventRaise []) ∧
      (v.cfg.mask.getLsbD 3 = false → t = s) ∧
      (v.cfg.mask.getLsbD 3 = true → v.fill < v.size → t.mb.ev.unread = v.unread.take (v.unread.length - j) ++
        (3, eventRecord 3 v.lostPend (v.seq - BitVec.ofNat 16 j) (lastFrame s.grid.frame) s.short d) ::
          ((v.unread.drop (v.unread.length - j)).map fun x => (x.1, laterRecord x.2))) ∧
      (v.cfg.mask.getLsbD 3 = true → v.size ≤ v.fill → t.mb.ev.unread = v.unread ∧ t.mb.ev.lost = v.lost.inc))

/-- A write within W2 is read back byte by byte, every other byte stays, and only W2 changes. -/
def Obligations.HostWindowWriteReadsBack : Prop :=
  EventCase fun dt s₀ s => ∀ (addr : Nat) (data : List U8),
    s₀.mb.w2.wf 0 = true → addr + data.length ≤ 0x400000 →
      ∃ w : Tab U8, exec (.w0OtherWrite dt true addr data) s₀ = .next { s with mb.w2 := w } ∧ w.wf 0 = true ∧
        ∀ a : Nat, w.get 0 a = if addr ≤ a ∧ a < addr + data.length then data.getD (a - addr) 0 else s₀.mb.w2.get 0 a

/-- R462, R463: an event is left out by MASK, written to the ring, or counted in EVENTS_LOST. Of the events of one count cycle
the ring holds the lower numbers first, so a record stands before the `j` records of its cycle that have higher numbers; with
none of them it is the newest. -/
def Obligations.EventsAreWrittenOrLost : Prop :=
  ∀ (s : State) (e : Nat) (data : List U8), s.mb.engine = 2 →
    let v := s.mb.ev
    let t := s.raise e data
    let j := v.after (s.now / 4) e
    eventClass e = e / 16 ∧
    (v.cfg.mask.getLsbD e = false → t = s) ∧
    (v.cfg.mask.getLsbD e = true → v.fill < v.size →
      t.mb.ev.unread = v.unread.take (v.unread.length - j) ++
        (e, eventRecord e v.lostPend (v.seq - BitVec.ofNat 16 j) (lastFrame s.grid.frame) s.short data) ::
          ((v.unread.drop (v.unread.length - j)).map fun x => (x.1, laterRecord x.2)) ∧
      t.mb.ev.tail = v.tail + 1 ∧ t.mb.ev.seq = v.seq + 1 ∧ t.mb.ev.lostPend = false ∧ t.mb.ev.lost = v.lost ∧
      (v.cycle ≠ s.now / 4 → j = 0)) ∧
    (v.cfg.mask.getLsbD e = true → v.size ≤ v.fill →
      t = { s with mb.ev := { v with
        lost := v.lost.inc, lostPend := true, refusedAt := s.now / 4
        refused := (if v.refusedAt = s.now / 4 then v.refused else []) ++ [(e, data)]
        pendBefore := if v.refusedAt = s.now / 4 ∧ v.refused ≠ [] then v.pendBefore else v.lostPend } })

/-- R22: each count cycle adds INC to a count of 10^9 ns per second with a 40-bit fraction, and nothing is lost. -/
def Obligations.KeystoneAddsExactly : Prop :=
  ∀ (k : Keystone) (c : Nat), k.nsec < 1000000000 → k.frac < 2 ^ 40 → k.sec < 2 ^ 48 →
    let t := k.addCycles c
    let all := fun (x : Keystone) => (x.sec * 1000000000 + x.nsec) * 2 ^ 40 + x.frac
    all t = (all k + c * k.inc) % (2 ^ 48 * 1000000000 * 2 ^ 40) ∧ t.nsec < 1000000000 ∧ t.frac < 2 ^ 40 ∧ t.sec < 2 ^ 48 ∧
      k.addCycles (c + 1) = t.addCycles 1

/-- R25: a new correction never steps the time that is read: Y and the rate change, and the compatibility model takes OFFSET and
BASE anew at the time that is read. -/
def Obligations.CorrectionNeverStepsTime : Prop :=
  ∀ (k : Keystone) (y : Rat), (k.setY y).full = k.full ∧ (k.setY y).y = y ∧
    (k.compat = true → (k.setY y).offset = k.full ∧ (k.setY y).base = k.count ∧ (k.setY y).rate = rateOf y) ∧
    (k.compat = false → (k.setY y).inc = incOf y)

/-- R38, R39: N frames last exactly D s. R41: sigma rises. R40: a move of the epoch changes no presentation time, and it moves at
the first frame after the one at distance 2^24 whose instant is a whole number of ns. -/
def Obligations.FrameTimesAreExact : Prop :=
  (∀ (v : GridVals) (n : U32), v.n.toNat ≠ 0 →
    (n - v.n0).toNat + v.n.toNat < (if v.moved = true then 2 ^ 31 else 2 ^ 32) →
    v.p (n + BitVec.ofNat 32 v.n.toNat) = v.p n + 1000000000 * v.d.toNat) ∧
  (∀ (v : GridVals) (j k : Int), j ≤ k → v.sigma j ≤ v.sigma k) ∧
  (∀ (g : Grid) (m x : U32), (m - g.v.n0).toNat < 2 ^ 31 → (x - g.v.n0).toNat < 2 ^ 31 →
    let n := (m - g.v.n0).toNat
    (g.moveEpoch m).v.p x = g.v.p x ∧
    (2 ^ 24 < n → n * 1000000000 * g.v.d.toNat % g.v.den = 0 →
      (g.moveEpoch m).v.n0 = m ∧ ((g.moveEpoch m).v.e : Int) = g.v.p m) ∧
    (¬ (2 ^ 24 < n ∧ n * 1000000000 * g.v.d.toNat % g.v.den = 0) → g.moveEpoch m = g))

/-- R8, R9: the lowest-numbered requester is granted, but one that has lost 16 times goes first. -/
def Obligations.ArbitrationGrantsInOrder : Prop :=
  ∀ (reqs : List Nat) (loss : Nat → Nat), reqs.Pairwise (· < ·) →
    (arbitrate reqs loss = none ↔ reqs = []) ∧
    ∀ w, arbitrate reqs loss = some w → w ∈ reqs ∧
      ((∃ r ∈ reqs, 16 ≤ loss r) → 16 ≤ loss w ∧ ∀ r ∈ reqs, 16 ≤ loss r → w ≤ r) ∧
      ((∀ r ∈ reqs, loss r < 16) → ∀ r ∈ reqs, w ≤ r)

/-- A command that only reports changes nothing but the channel it answers on. -/
def Obligations.StatusCommandsOnlyAnswer : Prop :=
  ∀ (q : Req) (s₀ : State), ∀ i ∈ [Instr.sysInfo q, .sysStatus q, .mbStatus q, .transportStatus q, .timeGet q, .gridGet q,
      .cueListStatus q, .tapRead q, .schedTaskRead q, .loopRead q, .fixtureSolveRead q, .kineticRead q, .ingestStatus q,
      .rasterStatus q, .trestleStatus q, .memberRead q, .routeRead q, .destStatus q, .laneStatus q, .portStatus q, .inputRead q,
      .sacnStatus q, .rdmUidRead q, .rdmResultRead q, .hostchStatus q, .ptpStatus q, .streamStatus q, .nodeRead q,
      .radioXcvrRead q, .pierStatus q, .boxStatus q, .slotInfo q, .wkStatus q, .officerRead q, .identityRead q, .powerStatus q,
      .thermalStatus q, .updateStatus q, .diagEcho q],
    ∃ t, exec i s₀ = .next t ∧ t = { s₀.elapse q.dt with mb.ch := t.mb.ch } ∧
      ∀ c : Fin 8, c ≠ q.ch → t.mb.ch[c] = s₀.mb.ch[c]

/-- R426: a tamper cause in mode Run zeroises every working slot and sets the lock, under which these commands are denied. Of the
causes of one count cycle the first does so; those after it only settle which cause is recorded. -/
def Obligations.TamperZeroisesAndRefuses : Prop :=
  (∀ (s : State) (cause : Nat), s.pwr.mode = .run →
    (¬ (s.box.lock = true ∧ s.box.lastAt = some (s.now / 4)) →
      (s.tamper cause).box.wk = [] ∧ (s.tamper cause).box.lock = true) ∧
    (s.box.lock = true → (s.tamper cause).box.lock = true) ∧ (s.box.wk = [] → (s.tamper cause).box.wk = [])) ∧
  (∀ (q : Req) (s₀ : State), ∀ e ∈ [(Instr.showLoadBegin q, opShowLoadBegin, 8), (.keyLoad q, opKeyLoad, 72),
      (.challenge q, opChallenge, 36), (.updateBegin q, opUpdateBegin, 4), (.updateEnd q, opUpdateEnd, 0),
      (.updateActivate q, opUpdateActivate, 0), (.updateAbort q, opUpdateAbort, 0), (.updateStatus q, opUpdateStatus, 0)],
    Takes e.2.1 e.2.2 q s₀ → s₀.box.lock = true →
      exec e.1 s₀ = .next ((s₀.elapse q.dt).respond q.ch e.2.1 q.tag .denied [] none))
end

