-- ==== Sys2Proof/Laws/Bytes.lean ====
section
/-! SUPPORT. Laws/Bytes.lean: the lengths of the byte strings that records and fields make. -/
namespace Sys2Proof

@[simp] theorem pack_length (n : Nat) (fs : List Fld) : (pack n fs).length = n := by simp [pack]

end Sys2Proof
end

