-- ==== Sys2Proof/Laws/Tab.lean ====
section
/-! SUPPORT. Laws/Tab.lean: the sparse tables that hold the engine's windows, buffers and tables: every operation keeps the
canonical form, and a read after a write gives the value written. -/
namespace Sys2Proof

variable {α : Type}

theorem Tab.wfFrom_mono [DecidableEq α] {d : α} {t : Tab α} {lo hi : Nat} (h : t.wfFrom d hi = true) (l : lo ≤ hi) :
    t.wfFrom d lo = true := by
  cases t with
  | nil => rfl
  | cons e t =>
    simp only [Tab.wfFrom, Bool.and_eq_true, decide_eq_true_eq] at h ⊢
    exact ⟨⟨by omega, h.1.2⟩, h.2⟩

theorem Tab.wfFrom_del [DecidableEq α] {d : α} (t : Tab α) (k lo : Nat) (h : t.wfFrom d lo = true) :
    (t.del k).wfFrom d lo = true := by
  induction t generalizing lo with
  | nil => rfl
  | cons e t ih =>
    simp only [Tab.wfFrom, Bool.and_eq_true, decide_eq_true_eq] at h
    simp only [Tab.del]
    split
    · exact Tab.wfFrom_mono h.2 (by omega)
    · simp only [Tab.wfFrom, Bool.and_eq_true, decide_eq_true_eq]
      exact ⟨h.1, ih _ h.2⟩

theorem Tab.wfFrom_put [DecidableEq α] {d v : α} (hv : v ≠ d) (t : Tab α) (k lo : Nat) (hk : lo ≤ k)
    (h : t.wfFrom d lo = true) : (t.put k v).wfFrom d lo = true := by
  induction t generalizing lo with
  | nil => simp [Tab.put, Tab.wfFrom, hk, hv]
  | cons e t ih =>
    simp only [Tab.wfFrom, Bool.and_eq_true, decide_eq_true_eq] at h
    simp only [Tab.put]
    split
    · simp only [Tab.wfFrom, Bool.and_eq_true, decide_eq_true_eq]
      exact ⟨⟨hk, hv⟩, ⟨⟨by omega, h.1.2⟩, h.2⟩⟩
    · split
      · simp only [Tab.wfFrom, Bool.and_eq_true, decide_eq_true_eq]
        exact ⟨⟨hk, hv⟩, by subst_vars; exact h.2⟩
      · simp only [Tab.wfFrom, Bool.and_eq_true, decide_eq_true_eq]
        exact ⟨h.1, ih _ (by omega) h.2⟩

/-- Writing one entry keeps the canonical form. -/
theorem Tab.wf_set [DecidableEq α] {d : α} (t : Tab α) (k : Nat) (v : α) (h : t.wf d = true) : (t.set d k v).wf d = true := by
  unfold Tab.set Tab.wf at *
  split
  · exact Tab.wfFrom_del t k 0 h
  · exact Tab.wfFrom_put ‹_› t k 0 (Nat.zero_le k) h

/-- Changing one entry keeps the canonical form. -/
theorem Tab.wf_upd [DecidableEq α] {d : α} (t : Tab α) (k : Nat) (f : α → α) (h : t.wf d = true) :
    (t.upd d k f).wf d = true := Tab.wf_set t k _ h

/-- Writing consecutive entries keeps the canonical form. -/
theorem Tab.wf_writes [DecidableEq α] {d : α} (t : Tab α) (k : Nat) (vs : List α) (h : t.wf d = true) :
    (t.writes d k vs).wf d = true := by
  induction vs generalizing t k with
  | nil => exact h
  | cons v vs ih => exact ih _ _ (Tab.wf_set t k v h)

theorem Tab.wfFrom_keep [DecidableEq α] {d : α} (p : Nat → α → Bool) (t : Tab α) (lo : Nat) (h : t.wfFrom d lo = true) :
    (t.keep p).wfFrom d lo = true := by
  induction t generalizing lo with
  | nil => rfl
  | cons e t ih =>
    simp only [Tab.wfFrom, Bool.and_eq_true, decide_eq_true_eq] at h
    have ih' := ih _ h.2
    unfold Tab.keep at ih' ⊢
    rw [List.filter_cons]
    split
    · simp only [Tab.wfFrom, Bool.and_eq_true, decide_eq_true_eq]
      exact ⟨h.1, ih'⟩
    · exact Tab.wfFrom_mono ih' (by omega)

/-- Keeping some entries keeps the canonical form. -/
theorem Tab.wf_keep [DecidableEq α] {d : α} (p : Nat → α → Bool) (t : Tab α) (h : t.wf d = true) :
    (t.keep p).wf d = true := Tab.wfFrom_keep p t 0 h

/-! ### Reads after writes -/

theorem Tab.get_below [DecidableEq α] {d : α} (t : Tab α) (k lo : Nat) (h : t.wfFrom d lo = true) (l : k < lo) :
    t.get d k = d := by
  induction t generalizing lo with
  | nil => rfl
  | cons e t ih =>
    simp only [Tab.wfFrom, Bool.and_eq_true, decide_eq_true_eq] at h
    simp only [Tab.get]
    split
    · omega
    · exact ih _ h.2 (by omega)

theorem Tab.get_del [DecidableEq α] {d : α} (t : Tab α) (k j lo : Nat) (h : t.wfFrom d lo = true) :
    (t.del k).get d j = if j = k then d else t.get d j := by
  induction t generalizing lo with
  | nil => simp [Tab.del, Tab.get]
  | cons e t ih =>
    obtain ⟨k', v⟩ := e
    simp only [Tab.wfFrom, Bool.and_eq_true, decide_eq_true_eq] at h
    simp only [Tab.del]
    split
    · subst_vars
      split
      · subst_vars
        exact Tab.get_below t _ _ h.2 (by omega)
      · simp [Tab.get, *]
    · simp only [Tab.get, ih _ h.2]
      by_cases h1 : j = k' <;> by_cases h2 : j = k <;> simp_all

theorem Tab.get_put {d : α} (t : Tab α) (k j : Nat) (v : α) : (t.put k v).get d j = if j = k then v else t.get d j := by
  induction t with
  | nil => simp [Tab.put, Tab.get]
  | cons e t ih =>
    simp only [Tab.put]
    split
    · simp [Tab.get]
    · split
      · subst_vars
        simp only [Tab.get]
        split <;> rfl
      · simp only [Tab.get, ih]
        split
        · rw [if_neg (by omega)]
        · rfl

/-- A read after a write gives the value written at the key written, and what it gave before at every other. -/
theorem Tab.get_set [DecidableEq α] {d : α} (t : Tab α) (k j : Nat) (v : α) (h : t.wf d = true) :
    (t.set d k v).get d j = if j = k then v else t.get d j := by
  unfold Tab.set
  split
  · subst_vars
    exact Tab.get_del t k j 0 h
  · exact Tab.get_put t k j v

/-- A read after a write of consecutive entries gives the value written there, and elsewhere what it gave before. -/
theorem Tab.get_writes [DecidableEq α] {d : α} (t : Tab α) (k a : Nat) (vs : List α) (h : t.wf d = true) :
    (t.writes d k vs).get d a = if k ≤ a ∧ a < k + vs.length then vs.getD (a - k) d else t.get d a := by
  induction vs generalizing t k with
  | nil => rw [if_neg (by simp only [List.length_nil]; omega)]; rfl
  | cons v vs ih =>
    simp only [Tab.writes]
    rw [ih _ _ (Tab.wf_set t k v h), Tab.get_set t k a v h]
    simp only [List.length_cons]
    by_cases h1 : a = k
    · subst h1; rw [if_neg (by omega), if_pos rfl, if_pos (by omega), Nat.sub_self]; rfl
    · by_cases h2 : k + 1 ≤ a ∧ a < k + 1 + vs.length
      · rw [if_pos h2, if_pos (by omega)]
        have : a - k = (a - (k + 1)) + 1 := by omega
        rw [this]; rfl
      · rw [if_neg h2, if_neg h1, if_neg (by omega)]

end Sys2Proof
end

