-- ==== Sys2Proof/Laws/Canon.lean ====
section
/-! SUPPORT. Laws/Canon.lean: windows W0 and W2 stay in canonical form under every operation. -/
namespace Sys2Proof.Machine
open Sys2Proof

@[simp] theorem canon_set (w0 w2 : Tab U8) (k : Nat) (v : U8) (h : Canon w0 w2) :
    Canon (w0.set 0 k v) w2 := ⟨Tab.wf_set _ _ _ h.1, h.2⟩

@[simp] theorem canon_writes (w0 w2 : Tab U8) (k : Nat) (v : List U8) (h : Canon w0 w2) :
    Canon (w0.writes 0 k v) w2 := ⟨Tab.wf_writes _ _ _ h.1, h.2⟩

@[simp] theorem canon_writes2 (w0 w2 : Tab U8) (k : Nat) (v : List U8) (h : Canon w0 w2) :
    Canon w0 (w2.writes 0 k v) := ⟨h.1, Tab.wf_writes _ _ _ h.2⟩

@[simp] theorem canon_keep (w0 w2 : Tab U8) (p : Nat → U8 → Bool) (h : Canon w0 w2) :
    Canon (w0.keep p) w2 := ⟨Tab.wf_keep _ _ h.1, h.2⟩

@[simp] theorem canon_nil : Canon [] [] := ⟨rfl, rfl⟩

@[simp] theorem canon_ite (c : Prop) [Decidable c] (a b : State) (ha : Canon a.mb.w0 a.mb.w2) (hb : Canon b.mb.w0 b.mb.w2) :
    Canon (if c then a else b).mb.w0 (if c then a else b).mb.w2 := by split <;> assumption

theorem ite_canon {c : Prop} [Decidable c] {a b : State} (ha : Canon a.mb.w0 a.mb.w2) (hb : Canon b.mb.w0 b.mb.w2) :
    Canon (if c then a else b).mb.w0 (if c then a else b).mb.w2 := by split <;> assumption

theorem foldl_canon {α : Type} (f : State → α → State) (s : State) (l : List α)
    (h : ∀ s a, Canon s.mb.w0 s.mb.w2 → Canon (f s a).mb.w0 (f s a).mb.w2) (hs : Canon s.mb.w0 s.mb.w2) :
    Canon (l.foldl f s).mb.w0 (l.foldl f s).mb.w2 := by
  induction l generalizing s with
  | nil => exact hs
  | cons a l ih => exact ih _ (h _ _ hs)

theorem foldl_canon1 {α β : Type} (f : State × β → α → State × β) (l : List α) (x : State × β)
    (h : ∀ x a, Canon x.1.mb.w0 x.1.mb.w2 → Canon (f x a).1.mb.w0 (f x a).1.mb.w2) (hx : Canon x.1.mb.w0 x.1.mb.w2) :
    Canon (l.foldl f x).1.mb.w0 (l.foldl f x).1.mb.w2 := by
  induction l generalizing x with
  | nil => exact hx
  | cons a l ih => exact ih _ (h _ _ hx)

/-- The state a body gives, where it gives one, keeps the windows canonical. -/
def CanonE (e : Except Status Done) : Prop := ∀ d, e = .ok d → Canon d.st.mb.w0 d.st.mb.w2

@[simp] theorem canonE_error (e : Status) : CanonE (.error e) := by intro d h; cases h

@[simp] theorem canonE_ok (d : Done) : CanonE (.ok d) ↔ Canon d.st.mb.w0 d.st.mb.w2 :=
  ⟨fun h => h d rfl, fun h d' e => by cases e; exact h⟩

@[simp] theorem canonE_answer (t : State) (b : List U8) : CanonE (answer t b) ↔ Canon t.mb.w0 t.mb.w2 := by simp [answer]

@[simp] theorem canonE_done (t : State) : CanonE (done t) ↔ Canon t.mb.w0 t.mb.w2 := by simp [done]

@[simp] theorem canonE_require (c : Bool) (e : Status) (k : Except Status Done) (h : CanonE k) :
    CanonE (require c e k) := by
  unfold require; split <;> simp [h]

/-- A command that answers a next state keeps the windows canonical. -/
def Tidy (o : Host.Outcome State Fault Refusal) : Prop := ∀ t, o = .next t → Canon t.mb.w0 t.mb.w2

theorem tidy_next {t : State} (h : Canon t.mb.w0 t.mb.w2) : Tidy (.next t) := by intro u e; cases e; exact h

@[simp] theorem State.elapse_canon (s : State) (dt : Nat) (h : Canon s.mb.w0 s.mb.w2) :
    Canon (State.elapse s dt).mb.w0 (State.elapse s dt).mb.w2 := by simp [State.elapse, h]

@[simp] theorem State.draw_canon (s : State) (h : Canon s.mb.w0 s.mb.w2) :
    Canon (State.draw s).mb.w0 (State.draw s).mb.w2 := by simp [State.draw, h]

@[simp] theorem State.emit_canon (s : State) (o : Out) (h : Canon s.mb.w0 s.mb.w2) :
    Canon (State.emit s o).mb.w0 (State.emit s o).mb.w2 := by simp [State.emit, h]

@[simp] theorem State.msix_canon (s : State) (v : Nat) (h : Canon s.mb.w0 s.mb.w2) :
    Canon (State.msix s v).mb.w0 (State.msix s v).mb.w2 := by simp [State.msix, h]

@[simp] theorem State.signalEvents_canon (s : State) (h : Canon s.mb.w0 s.mb.w2) :
    Canon (State.signalEvents s).mb.w0 (State.signalEvents s).mb.w2 := by simp [State.signalEvents, h]

@[simp] theorem State.storeRecord_canon (s : State) (i : U16) (r : List U8) (h : Canon s.mb.w0 s.mb.w2) :
    Canon (State.storeRecord s i r).mb.w0 (State.storeRecord s i r).mb.w2 := by
  unfold State.storeRecord
  repeat' (first | exact h | exact canon_writes _ _ _ _ h | (simp [h]; done) | split | dsimp only)

@[simp] theorem State.writeEvent_canon (s : State) (e : Nat) (data : List U8) (h : Canon s.mb.w0 s.mb.w2) :
    Canon (State.writeEvent s e data).mb.w0 (State.writeEvent s e data).mb.w2 := by
  unfold State.writeEvent
  repeat' (first | exact h | (refine State.signalEvents_canon _ ?_) | (refine foldl_canon _ _ _ (fun _ _ h => ?_) ?_) |
    (exact State.storeRecord_canon _ _ _ h) | split | dsimp only)

@[simp] theorem State.raise_canon (s : State) (e : Nat) (data : List U8) (h : Canon s.mb.w0 s.mb.w2) :
    Canon (State.raise s e data).mb.w0 (State.raise s e data).mb.w2 := by simp [State.raise, h]

@[simp] theorem State.amend_canon (s : State) (e : Nat) (a b : List U8) (h : Canon s.mb.w0 s.mb.w2) :
    Canon (State.amend s e a b).mb.w0 (State.amend s e a b).mb.w2 := by
  unfold State.amend
  dsimp only
  repeat' (first | (simp [h]; done) | (refine foldl_canon _ _ _ (fun _ _ h => ?_) ?_) | exact h | split)

@[simp] theorem State.raiseF_canon (s : State) (e : Nat) (fs : List Fld) (h : Canon s.mb.w0 s.mb.w2) :
    Canon (State.raiseF s e fs).mb.w0 (State.raiseF s e fs).mb.w2 := by simp [State.raiseF, h]

@[simp] theorem State.raiseIf_canon (s : State) (c : Bool) (e : Nat) (fs : List Fld) (h : Canon s.mb.w0 s.mb.w2) :
    Canon (State.raiseIf s c e fs).mb.w0 (State.raiseIf s c e fs).mb.w2 := by simp [State.raiseIf, h]

@[simp] theorem State.respond_canon (s : State) (c : Fin 8) (op : Nat) (tag : U32) (status : Status) (data : List U8)
    (post : Option (Nat × List U8)) (h : Canon s.mb.w0 s.mb.w2) :
        Canon (State.respond s c op tag status data post).mb.w0
            (State.respond s c op tag status data post).mb.w2 := by simp [State.respond, h]

@[simp] theorem State.waitOn_canon (s : State) (c : Fin 8) (h : Canon s.mb.w0 s.mb.w2) :
    Canon (State.waitOn s c).mb.w0 (State.waitOn s c).mb.w2 := by
  unfold State.waitOn
  dsimp only
  repeat' (first | (simp [h]; done) | (refine foldl_canon _ _ _ (fun _ _ h => ?_) ?_) | exact h | split)

theorem serve_canon (op need : Nat) (q : Req) (s : State) (body : State → Except Status Done) (h : Canon s.mb.w0 s.mb.w2)
    (hb : ∀ t, Canon t.mb.w0 t.mb.w2 → CanonE (body t)) :
    Canon (serve op need q s body).mb.w0 (serve op need q s body).mb.w2 := by
  have he : Canon (s.elapse q.dt).mb.w0 (s.elapse q.dt).mb.w2 := by simp [h]
  have hb' := hb _ he
  unfold serve
  dsimp only
  repeat' (first | (simp [h]; done) | (simp [hb' _ ‹_›]; done) | split)

@[simp] theorem State.remember_canon (s : State) (op : Nat) (idx : Nat) (pl : List U8) (h : Canon s.mb.w0 s.mb.w2) :
    Canon (State.remember s op idx pl).mb.w0 (State.remember s op idx pl).mb.w2 := by simp [State.remember, h]

@[simp] theorem State.defer_canon (s : State) (op : Nat) (idx : Nat) (pl : List U8) (h : Canon s.mb.w0 s.mb.w2) :
    Canon (State.defer s op idx pl).mb.w0 (State.defer s op idx pl).mb.w2 := by simp [State.defer, h]

@[simp] theorem State.dmaFault_canon (s : State) (user : Nat) (idx : Nat) (addr : Nat) (h : Canon s.mb.w0 s.mb.w2) :
    Canon (State.dmaFault s user idx addr).mb.w0 (State.dmaFault s user idx addr).mb.w2 := by simp [State.dmaFault, h]

@[simp] theorem State.modLink_canon (s : State) (sp : Fin 12) (f : Link → Link) (h : Canon s.mb.w0 s.mb.w2) :
    Canon (State.modLink s sp f).mb.w0 (State.modLink s sp f).mb.w2 := by simp [State.modLink, h]

@[simp] theorem State.queueMsg_canon (s : State) (sp : Fin 12) (m : Msg) (note : Option (U32 × Nat) := none) (h : Canon s.mb.w0 s.mb.w2) :
    Canon (State.queueMsg s sp m note).mb.w0 (State.queueMsg s sp m note).mb.w2 := by
  unfold State.queueMsg
  (try simp only [])
  repeat' first
    | (simp +contextual (maxDischargeDepth := 30) [h, foldl_canon, -List.foldl_reverse]; done)
    | split
    | (refine foldl_canon _ _ _ (fun _ _ h => ?_) ?_)
    | (dsimp only)

@[simp] theorem State.queueOn_canon (s : State) (p : Fin 12 → Bool) (m : Msg) (note : Option (U32 × Nat) := none) (h : Canon s.mb.w0 s.mb.w2) :
    Canon (State.queueOn s p m note).mb.w0 (State.queueOn s p m note).mb.w2 := by
  unfold State.queueOn
  (try simp only [])
  repeat' first
    | (simp +contextual (maxDischargeDepth := 30) [h, foldl_canon, -List.foldl_reverse]; done)
    | split
    | (refine foldl_canon _ _ _ (fun _ _ h => ?_) ?_)
    | (dsimp only)

@[simp] theorem State.sendOn_canon (s : State) (p : Fin 12 → Bool) (dest : U32) (type : U16) (payload : List U8) (note : Option (U32 × Nat) := none) (h : Canon s.mb.w0 s.mb.w2) :
    Canon (State.sendOn s p dest type payload note).mb.w0 (State.sendOn s p dest type payload note).mb.w2 := by
  unfold State.sendOn
  (try simp only [])
  repeat' first
    | (simp +contextual (maxDischargeDepth := 30) [h, foldl_canon, -List.foldl_reverse]; done)
    | split
    | (refine foldl_canon _ _ _ (fun _ _ h => ?_) ?_)
    | (dsimp only)

@[simp] theorem State.flood_canon (s : State) (type : U16) (payload : List U8) (h : Canon s.mb.w0 s.mb.w2) :
    Canon (State.flood s type payload).mb.w0 (State.flood s type payload).mb.w2 := by simp [State.flood, h]

@[simp] theorem State.unicast_canon (s : State) (dest : U32) (type : U16) (payload : List U8) (note : Option (U32 × Nat) := none) (h : Canon s.mb.w0 s.mb.w2) :
    Canon (State.unicast s dest type payload note).mb.w0 (State.unicast s dest type payload note).mb.w2 := by
  unfold State.unicast
  (try simp only [])
  repeat' first
    | (simp +contextual (maxDischargeDepth := 30) [h, foldl_canon, -List.foldl_reverse]; done)
    | split
    | (refine foldl_canon _ _ _ (fun _ _ h => ?_) ?_)
    | (dsimp only)

@[simp] theorem State.toPartner_canon (s : State) (type : U16) (payload : List U8) (h : Canon s.mb.w0 s.mb.w2) :
    Canon (State.toPartner s type payload).mb.w0 (State.toPartner s type payload).mb.w2 := by simp [State.toPartner, h]

@[simp] theorem State.releaseAll_canon (s : State) (bs : List TxBlk) (h : Canon s.mb.w0 s.mb.w2) :
    Canon (State.releaseAll s bs).mb.w0 (State.releaseAll s bs).mb.w2 := by
  unfold State.releaseAll
  (try simp only [])
  repeat' first
    | (simp +contextual (maxDischargeDepth := 30) [h, foldl_canon, -List.foldl_reverse]; done)
    | split
    | (refine foldl_canon _ _ _ (fun _ _ h => ?_) ?_)
    | (dsimp only)

@[simp] theorem State.dropMsgs_canon (s : State) (sp : Fin 12) (v : Fin 5) (p : TxMsg → Bool) (h : Canon s.mb.w0 s.mb.w2) :
    Canon (State.dropMsgs s sp v p).mb.w0 (State.dropMsgs s sp v p).mb.w2 := by
  unfold State.dropMsgs
  dsimp only
  repeat' (first | (simp [h]; done) | (refine foldl_canon _ _ _ (fun _ _ h => ?_) ?_) | exact h | split)

@[simp] theorem State.firstArrival_canon (s : State) (sp : Fin 12) (v : Fin 5) (m : Msg) (h : Canon s.mb.w0 s.mb.w2) :
    Canon (State.firstArrival s sp v m).1.mb.w0 (State.firstArrival s sp v m).1.mb.w2 := by
  unfold State.firstArrival
  dsimp only
  repeat' (first | (simp [h]; done) | (refine foldl_canon _ _ _ (fun _ _ h => ?_) ?_) | exact h | split)

@[simp] theorem State.takePlace_canon (s : State) (a : Arrival) (sp : Fin 12) (m : Msg) (h : Canon s.mb.w0 s.mb.w2) :
    Canon (State.takePlace s a sp m).1.mb.w0 (State.takePlace s a sp m).1.mb.w2 := by
  unfold State.takePlace
  (try simp only [])
  repeat' first
    | (simp +contextual (maxDischargeDepth := 30) [h, foldl_canon, -List.foldl_reverse]; done)
    | split
    | (refine foldl_canon _ _ _ (fun _ _ h => ?_) ?_)
    | (dsimp only)

@[simp] theorem State.msgArrive_canon (s : State) (sp : Fin 12) (v : Fin 5) (m : Msg) (h : Canon s.mb.w0 s.mb.w2) :
    Canon (State.msgArrive s sp v m).1.mb.w0 (State.msgArrive s sp v m).1.mb.w2 := by
  unfold State.msgArrive
  dsimp only
  repeat' (first | (simp [h]; done) | (refine foldl_canon _ _ _ (fun _ _ h => ?_) ?_) | exact h | split)

@[simp] theorem State.acceptMsg_canon (s : State) (sp : Fin 12) (m : Msg) (h : Canon s.mb.w0 s.mb.w2) :
    Canon ((s.acceptMsg sp m).1).mb.w0 ((s.acceptMsg sp m).1).mb.w2 := by
  unfold State.acceptMsg
  repeat' first
    | (simp +contextual (maxDischargeDepth := 30) [h, foldl_canon, -List.foldl_reverse]; done)
    | split
    | (refine foldl_canon _ _ _ (fun _ _ h => ?_) ?_)
    | (dsimp only)

@[simp] theorem State.consume_canon (s : State) (sp : Fin 12) (m : Msg) (f : State → State) (h :
    Canon s.mb.w0 s.mb.w2) (hf : ∀ t, Canon t.mb.w0 t.mb.w2 → Canon (f t).mb.w0 (f t).mb.w2) :
    Canon (s.consume sp m f).mb.w0 (s.consume sp m f).mb.w2 := by
  unfold State.consume
  dsimp only
  split <;> simp [hf, h]

@[simp] theorem State.floodMember_canon (s : State) (h : Canon s.mb.w0 s.mb.w2) :
    Canon (State.floodMember s).mb.w0 (State.floodMember s).mb.w2 := by simp [State.floodMember, h]

@[simp] theorem State.topologyChange_canon (s : State) (h : Canon s.mb.w0 s.mb.w2) :
    Canon (State.topologyChange s).mb.w0 (State.topologyChange s).mb.w2 := by simp [State.topologyChange, h]

@[simp] theorem State.floodLinkEvent_canon (s : State) (sp : Fin 12) (peer : U32) (kind : Nat) (h : Canon s.mb.w0 s.mb.w2) :
    Canon (State.floodLinkEvent s sp peer kind).mb.w0 (State.floodLinkEvent s sp peer kind).mb.w2 := by
  unfold State.floodLinkEvent
  (try simp only [])
  repeat' first
    | (simp +contextual (maxDischargeDepth := 30) [h, foldl_canon, -List.foldl_reverse]; done)
    | split
    | (refine foldl_canon _ _ _ (fun _ _ h => ?_) ?_)
    | (dsimp only)

@[simp] theorem State.raiseDomain_canon (s : State) (h : Canon s.mb.w0 s.mb.w2) :
    Canon (State.raiseDomain s).mb.w0 (State.raiseDomain s).mb.w2 := by simp [State.raiseDomain, h]

@[simp] theorem State.domainChange_canon (s : State) (h : Canon s.mb.w0 s.mb.w2) :
    Canon (State.domainChange s).mb.w0 (State.domainChange s).mb.w2 := by simp [State.domainChange, h]

@[simp] theorem State.issuerChange_canon (s : State) (h : Canon s.mb.w0 s.mb.w2) :
    Canon (State.issuerChange s).mb.w0 (State.issuerChange s).mb.w2 := by simp [State.issuerChange, h]

@[simp] theorem State.modDesc_canon (s : State) (n : Nat) (f : Desc → Desc) (h : Canon s.mb.w0 s.mb.w2) :
    Canon (State.modDesc s n f).mb.w0 (State.modDesc s n f).mb.w2 := by simp [State.modDesc, h]

@[simp] theorem State.submit_canon (s : State) (d : Desc) (h : Canon s.mb.w0 s.mb.w2) :
    Canon (State.submit s d).mb.w0 (State.submit s d).mb.w2 := by simp [State.submit, h]

@[simp] theorem State.eccRead_canon (s : State) (a : Nat) (n : Nat) (requester : Nat) (h : Canon s.mb.w0 s.mb.w2) :
    Canon (State.eccRead s a n requester).mb.w0 (State.eccRead s a n requester).mb.w2 := foldl_canon _ _ _
        (fun _ _ h => by simp [h]) h

@[simp] theorem State.deckGrant_canon (s : State) (n : Nat) (h : Canon s.mb.w0 s.mb.w2) :
    Canon (State.deckGrant s n).mb.w0 (State.deckGrant s n).mb.w2 := by
  unfold State.deckGrant
  dsimp only
  repeat' (first | (simp [h]; done) | (refine foldl_canon _ _ _ (fun _ _ h => ?_) ?_) | exact h | split)

@[simp] theorem State.deckWrite_canon (s : State) (a : Nat) (b : List U8) (h : Canon s.mb.w0 s.mb.w2) :
    Canon (State.deckWrite s a b).mb.w0 (State.deckWrite s a b).mb.w2 := by
  unfold State.deckWrite
  dsimp only
  repeat' (first | (simp [h]; done) | (refine foldl_canon _ _ _ (fun _ _ h => ?_) ?_) | exact h | split)

@[simp] theorem State.modDest_canon (s : State) (route : Nat) (f : Dest → Dest) (h : Canon s.mb.w0 s.mb.w2) :
    Canon (State.modDest s route f).mb.w0 (State.modDest s route f).mb.w2 := by simp [State.modDest, h]

@[simp] theorem State.leadResult_canon (s : State) (route : Nat) (r : U16 × Bool) (now10 : Bool) (h :
    Canon s.mb.w0 s.mb.w2) :
        Canon (State.leadResult s route r now10).mb.w0
            (State.leadResult s route r now10).mb.w2 := by simp [State.leadResult, h]

@[simp] theorem State.applyLeads_canon (s : State) (h : Canon s.mb.w0 s.mb.w2) :
    Canon (State.applyLeads s).mb.w0 (State.applyLeads s).mb.w2 := by simp [State.applyLeads, h]

@[simp] theorem State.spanLead_canon (s : State) (route : Nat) (r : Route) (h : Canon s.mb.w0 s.mb.w2) :
    Canon (State.spanLead s route r).mb.w0 (State.spanLead s route r).mb.w2 := by simp [State.spanLead, h]

@[simp] theorem State.sendUpdate_canon (s : State) (node frame base : U32) (fl : UpdFlags) (space : Nat) (runs : List (Int × Run)) (note : Option (U32 × Nat) := none) (h : Canon s.mb.w0 s.mb.w2) :
    Canon (State.sendUpdate s node frame base fl space runs note).mb.w0 (State.sendUpdate s node frame base fl space runs note).mb.w2 := by
  unfold State.sendUpdate
  (try simp only [])
  repeat' first
    | (simp +contextual (maxDischargeDepth := 30) [h, foldl_canon, -List.foldl_reverse]; done)
    | split
    | (refine foldl_canon _ _ _ (fun _ _ h => ?_) ?_)
    | (dsimp only)

@[simp] theorem State.sendSpan_canon (s : State) (im : Image) (route : Nat) (r : Route) (m : U32) (slots : List U8)
    (h : Canon s.mb.w0 s.mb.w2) :
        Canon (State.sendSpan s im route r m slots).mb.w0
            (State.sendSpan s im route r m slots).mb.w2 := by simp [State.sendSpan, h]

@[simp] theorem State.hedgerowSend_canon (s : State) (m : U32) (h : Canon s.mb.w0 s.mb.w2) :
    Canon (State.hedgerowSend s m).mb.w0 (State.hedgerowSend s m).mb.w2 := by
  unfold State.hedgerowSend
  (try simp only [])
  repeat' first
    | (simp +contextual (maxDischargeDepth := 30) [h, foldl_canon, -List.foldl_reverse]; done)
    | split
    | (refine foldl_canon _ _ _ (fun _ _ h => ?_) ?_)
    | (dsimp only)

@[simp] theorem State.immediateSpan_canon (s : State) (im : Image) (route : Nat) (r : Route) (cells : List (Nat × U8))
    (of : U32 → List (Nat × U8)) (replace : Bool) (h : Canon s.mb.w0 s.mb.w2) :
        Canon (State.immediateSpan s im route r cells of replace).mb.w0
            (State.immediateSpan s im route r cells of replace).mb.w2 := by
  unfold State.immediateSpan
  (try simp only [])
  repeat' first
    | (simp +contextual (maxDischargeDepth := 30) [h, foldl_canon, -List.foldl_reverse]; done)
    | split
    | (refine foldl_canon _ _ _ (fun _ _ h => ?_) ?_)
    | (dsimp only)

@[simp] theorem State.setPwm_canon (s : State) (pin : Nat) (f : PwmPin → PwmPin) (h : Canon s.mb.w0 s.mb.w2) :
    Canon (State.setPwm s pin f).mb.w0 (State.setPwm s pin f).mb.w2 := by
  unfold State.setPwm
  split <;> simp [h]

@[simp] theorem State.pwmFrom_canon (s : State) (pin : Nat) (cells : List (Nat × U8)) (k : Nat) (h :
    Canon s.mb.w0 s.mb.w2) : Canon (State.pwmFrom s pin cells k).mb.w0 (State.pwmFrom s pin cells k).mb.w2 := by
  unfold State.pwmFrom
  split <;> simp [h]

@[simp] theorem State.driveNow_canon (s : State) (pin : Nat) (m : U8 → Bool) (h : Canon s.mb.w0 s.mb.w2) :
    Canon (State.driveNow s pin m).mb.w0 (State.driveNow s pin m).mb.w2 := by
  unfold State.driveNow
  (try simp only [])
  repeat' first
    | (simp +contextual (maxDischargeDepth := 30) [h, foldl_canon, -List.foldl_reverse]; done)
    | split
    | (refine foldl_canon _ _ _ (fun _ _ h => ?_) ?_)
    | (dsimp only)

@[simp] theorem State.immediateString_canon (s : State) (pin : Nat) (cells : List (Nat × U8)) (h : Canon s.mb.w0 s.mb.w2) :
    Canon (State.immediateString s pin cells).mb.w0 (State.immediateString s pin cells).mb.w2 := by
  unfold State.immediateString
  dsimp only
  repeat' (first | (simp [h]; done) | (refine foldl_canon _ _ _ (fun _ _ h => ?_) ?_) | exact h | split)

@[simp] theorem State.immediateDmx_canon (s : State) (p : Fin 32) (slots : Nat) (cells : List (Nat × U8)) (house : Bool)
    (h : Canon s.mb.w0 s.mb.w2) :
        Canon (State.immediateDmx s p slots cells house).mb.w0 (State.immediateDmx s p slots cells house).mb.w2 := by
  unfold State.immediateDmx
  split <;> simp [h]

@[simp] theorem State.immediateRoute_canon (s : State) (im : Image) (route : Nat) (r : Route) (cells : List (Nat × U8))
    (of : U32 → List (Nat × U8)) (replace : Bool) (h : Canon s.mb.w0 s.mb.w2) :
        Canon (State.immediateRoute s im route r cells of replace).mb.w0
            (State.immediateRoute s im route r cells of replace).mb.w2 := by
  unfold State.immediateRoute
  (try simp only [])
  repeat' first
    | (simp +contextual (maxDischargeDepth := 30) [h, foldl_canon, -List.foldl_reverse]; done)
    | split
    | (refine foldl_canon _ _ _ (fun _ _ h => ?_) ?_)
    | (dsimp only)

@[simp] theorem State.immediateAll_canon (s : State) (pick : Fixture → ParamDesc → Bool) (outs : U32 → Tab Nat) (first : Tab Nat) (replace : Bool) (h : Canon s.mb.w0 s.mb.w2) :
    Canon (State.immediateAll s pick outs first replace).mb.w0 (State.immediateAll s pick outs first replace).mb.w2 := by
  unfold State.immediateAll
  (try simp only [])
  repeat' first
    | (simp +contextual (maxDischargeDepth := 30) [h, foldl_canon, -List.foldl_reverse]; done)
    | split
    | (refine foldl_canon _ _ _ (fun _ _ h => ?_) ?_)
    | (dsimp only)

@[simp] theorem State.takeTrigger_canon (s : State) (id : U32) (m : U32) (h : Canon s.mb.w0 s.mb.w2) :
    Canon (State.takeTrigger s id m).mb.w0 (State.takeTrigger s id m).mb.w2 := by simp [State.takeTrigger, h]

@[simp] theorem State.observe_canon (s : State) (tr : Trigger) (t : Int) (h : Canon s.mb.w0 s.mb.w2) :
    Canon (State.observe s tr t).mb.w0 (State.observe s tr t).mb.w2 := by
  unfold State.observe
  repeat' split
  all_goals simp [h]

@[simp] theorem State.observeAll_canon (s : State) (p : Trigger → Bool) (t : Int) (h : Canon s.mb.w0 s.mb.w2) :
    Canon (State.observeAll s p t).mb.w0 (State.observeAll s p t).mb.w2 := by
  unfold State.observeAll
  (try simp only [])
  repeat' first
    | (simp +contextual (maxDischargeDepth := 30) [h, foldl_canon, -List.foldl_reverse]; done)
    | split
    | (refine foldl_canon _ _ _ (fun _ _ h => ?_) ?_)
    | (dsimp only)

@[simp] theorem State.inputChanged_canon (s : State) (uni : U16) (old : List U8) (new : List U8) (t : Int) (h :
    Canon s.mb.w0 s.mb.w2) :
        Canon (State.inputChanged s uni old new t).mb.w0
            (State.inputChanged s uni old new t).mb.w2 := by simp [State.inputChanged, h]

@[simp] theorem State.toCue_canon (s : State) (im : Image) (l : Nat) (ci : Nat) (m : U32) (h :
    Canon s.mb.w0 s.mb.w2) : Canon (State.toCue s im l ci m).mb.w0 (State.toCue s im l ci m).mb.w2 := by
  unfold State.toCue
  split <;> simp [h]

@[simp] theorem State.cueAction_canon (s : State) (l : Nat) (action : U8) (cue : U32) (m : U32) (h :
    Canon s.mb.w0 s.mb.w2) : Canon (State.cueAction s l action cue m).mb.w0 (State.cueAction s l action cue m).mb.w2 := by
  unfold State.cueAction
  dsimp only
  repeat' split
  all_goals simp [h]

@[simp] theorem State.applyTriggers_canon (s : State) (m : U32) (h : Canon s.mb.w0 s.mb.w2) :
    Canon (State.applyTriggers s m).mb.w0 (State.applyTriggers s m).mb.w2 := by
  unfold State.applyTriggers
  (try simp only [])
  repeat' first
    | (simp +contextual (maxDischargeDepth := 30) [h, foldl_canon, -List.foldl_reverse]; done)
    | split
    | (refine foldl_canon _ _ _ (fun _ _ h => ?_) ?_)
    | (dsimp only)

@[simp] theorem State.applyGoes_canon (s : State) (m : U32) (h : Canon s.mb.w0 s.mb.w2) :
    Canon (State.applyGoes s m).mb.w0 (State.applyGoes s m).mb.w2 := foldl_canon _ _ _ (fun _ _ h => by simp [h]) h

@[simp] theorem State.applyFollows_canon (s : State) (m : U32) (h : Canon s.mb.w0 s.mb.w2) :
    Canon (State.applyFollows s m).mb.w0 (State.applyFollows s m).mb.w2 := by
  unfold State.applyFollows
  (try simp only [])
  repeat' first
    | (simp +contextual (maxDischargeDepth := 30) [h, foldl_canon, -List.foldl_reverse]; done)
    | split
    | (refine foldl_canon _ _ _ (fun _ _ h => ?_) ?_)
    | (dsimp only)

@[simp] theorem State.issueTasks_canon (s : State) (m : U32) (h : Canon s.mb.w0 s.mb.w2) :
    Canon (State.issueTasks s m).mb.w0 (State.issueTasks s m).mb.w2 := by
  unfold State.issueTasks
  (try simp only [])
  repeat' first
    | (simp +contextual (maxDischargeDepth := 30) [h, foldl_canon, -List.foldl_reverse]; done)
    | split
    | (refine foldl_canon _ _ _ (fun _ _ h => ?_) ?_)
    | (dsimp only)

@[simp] theorem State.sequence_canon (s : State) (m : U32) (h : Canon s.mb.w0 s.mb.w2) :
    Canon (State.sequence s m).mb.w0 (State.sequence s m).mb.w2 := by
  unfold State.sequence
  (try simp only [])
  repeat' first
    | (simp +contextual (maxDischargeDepth := 30) [h, foldl_canon, -List.foldl_reverse]; done)
    | split
    | (refine foldl_canon _ _ _ (fun _ _ h => ?_) ?_)
    | (dsimp only)

@[simp] theorem State.startCues_canon (s : State) (im : Image) (h : Canon s.mb.w0 s.mb.w2) :
    Canon (State.startCues s im).mb.w0 (State.startCues s im).mb.w2 := foldl_canon _ _ _
        (fun _ _ h => by split <;> simp [h]) h

@[simp] theorem State.houseChange_canon (s : State) (f : House → House) (h : Canon s.mb.w0 s.mb.w2) :
    Canon (State.houseChange s f).mb.w0 (State.houseChange s f).mb.w2 := by
  unfold State.houseChange
  (try simp only [])
  repeat' first
    | (simp +contextual (maxDischargeDepth := 30) [h, foldl_canon, -List.foldl_reverse]; done)
    | split
    | (refine foldl_canon _ _ _ (fun _ _ h => ?_) ?_)
    | (dsimp only)

@[simp] theorem State.radioTo_canon (s : State) (i : Fin 4) (st : Nat) (h : Canon s.mb.w0 s.mb.w2) :
    Canon (State.radioTo s i st).mb.w0 (State.radioTo s i st).mb.w2 := by simp [State.radioTo, h]

@[simp] theorem State.radioFollow_canon (s : State) (h : Canon s.mb.w0 s.mb.w2) :
    Canon (State.radioFollow s).mb.w0 (State.radioFollow s).mb.w2 := by
  unfold State.radioFollow
  (try simp only [])
  repeat' first
    | (simp +contextual (maxDischargeDepth := 30) [h, foldl_canon, -List.foldl_reverse]; done)
    | split
    | (refine foldl_canon _ _ _ (fun _ _ h => ?_) ?_)
    | (dsimp only)

@[simp] theorem State.pierTo_canon (s : State) (st : Nat) (h : Canon s.mb.w0 s.mb.w2) :
    Canon (State.pierTo s st).mb.w0 (State.pierTo s st).mb.w2 := by
  unfold State.pierTo
  split <;> simp [h]

@[simp] theorem State.holderState_canon (s : State) (h : Canon s.mb.w0 s.mb.w2) :
    Canon (State.holderState s).mb.w0 (State.holderState s).mb.w2 := by simp [State.holderState, h]

@[simp] theorem State.standbyState_canon (s : State) (h : Canon s.mb.w0 s.mb.w2) :
    Canon (State.standbyState s).mb.w0 (State.standbyState s).mb.w2 := by
  unfold State.standbyState
  split <;> simp [h]

@[simp] theorem State.askResync_canon (s : State) (h : Canon s.mb.w0 s.mb.w2) :
    Canon (State.askResync s).mb.w0 (State.askResync s).mb.w2 := by
  unfold State.askResync
  (try simp only [])
  repeat' first
    | (simp +contextual (maxDischargeDepth := 30) [h, foldl_canon, -List.foldl_reverse]; done)
    | split
    | (refine foldl_canon _ _ _ (fun _ _ h => ?_) ?_)
    | (dsimp only)

@[simp] theorem State.pierSend_canon (s : State) (type : U16) (payload : List U8) (h : Canon s.mb.w0 s.mb.w2) :
    Canon (State.pierSend s type payload).mb.w0 (State.pierSend s type payload).mb.w2 := by
  unfold State.pierSend
  (try simp only [])
  repeat' first
    | (simp +contextual (maxDischargeDepth := 30) [h, foldl_canon, -List.foldl_reverse]; done)
    | split
    | (refine foldl_canon _ _ _ (fun _ _ h => ?_) ?_)
    | (dsimp only)

@[simp] theorem State.sendReport_canon (s : State) (m : U32) (t : Nat) (h : Canon s.mb.w0 s.mb.w2) :
    Canon (State.sendReport s m t).mb.w0 (State.sendReport s m t).mb.w2 := by simp [State.sendReport, h]

@[simp] theorem State.release_canon (s : State) (cause : Nat) (h : Canon s.mb.w0 s.mb.w2) :
    Canon (State.release s cause).mb.w0 (State.release s cause).mb.w2 := by
  unfold State.release
  dsimp only
  split
  · exact State.askResync_canon _ (State.pierTo_canon _ _ (State.raiseF_canon _ _ _ (State.pierSend_canon s _ _ h)))
  · exact State.pierTo_canon _ _ (State.raiseF_canon _ _ _ (State.pierSend_canon s _ _ h))

@[simp] theorem State.resendFrame_canon (s : State) (m : U32) (h : Canon s.mb.w0 s.mb.w2) :
    Canon (State.resendFrame s m).mb.w0 (State.resendFrame s m).mb.w2 := by
  unfold State.resendFrame
  (try simp only [])
  repeat' first
    | (simp +contextual (maxDischargeDepth := 30) [h, foldl_canon, -List.foldl_reverse]; done)
    | split
    | (refine foldl_canon _ _ _ (fun _ _ h => ?_) ?_)
    | (dsimp only)

@[simp] theorem State.resendReport_canon (s : State) (m : U32) (h : Canon s.mb.w0 s.mb.w2) :
    Canon (State.resendReport s m).mb.w0 (State.resendReport s m).mb.w2 := by
  unfold State.resendReport
  split <;> simp [h]

@[simp] theorem State.forceFull_canon (s : State) (h : Canon s.mb.w0 s.mb.w2) :
    Canon (State.forceFull s).mb.w0 (State.forceFull s).mb.w2 := by
  unfold State.forceFull
  dsimp only
  repeat' (first | (simp [h]; done) | (refine foldl_canon _ _ _ (fun _ _ h => ?_) ?_) | exact h | split)

@[simp] theorem State.claimFrom_canon (s : State) (cause : Nat) (f : U32) (h : Canon s.mb.w0 s.mb.w2) :
    Canon (State.claimFrom s cause f).mb.w0 (State.claimFrom s cause f).mb.w2 := by
  unfold State.claimFrom
  (try simp only [])
  repeat' first
    | (simp +contextual (maxDischargeDepth := 30) [h, foldl_canon, -List.foldl_reverse]; done)
    | split
    | (refine foldl_canon _ _ _ (fun _ _ h => ?_) ?_)
    | (dsimp only)

@[simp] theorem State.claim_canon (s : State) (cause : Nat) (h : Canon s.mb.w0 s.mb.w2) :
    Canon (State.claim s cause).mb.w0 (State.claim s cause).mb.w2 := by simp [State.claim, h]

@[simp] theorem State.sendPlanned_canon (s : State) (h : Handover) (hc : Canon s.mb.w0 s.mb.w2) :
    Canon (State.sendPlanned s h).mb.w0 (State.sendPlanned s h).mb.w2 := by
  unfold State.sendPlanned
  (try simp only [])
  repeat' first
    | (simp +contextual (maxDischargeDepth := 30) [hc, foldl_canon, -List.foldl_reverse]; done)
    | split
    | (refine foldl_canon _ _ _ (fun _ _ hc => ?_) ?_)
    | (dsimp only)

@[simp] theorem State.plannedStep_canon (s : State) (h : Canon s.mb.w0 s.mb.w2) :
    Canon (State.plannedStep s).mb.w0 (State.plannedStep s).mb.w2 := by
  unfold State.plannedStep
  (try simp only [])
  repeat' first
    | (simp +contextual (maxDischargeDepth := 30) [h, foldl_canon, -List.foldl_reverse]; done)
    | split
    | (refine foldl_canon _ _ _ (fun _ _ h => ?_) ?_)
    | (dsimp only)

@[simp] theorem State.claimPlanned_canon (s : State) (f : U32) (cause : U8) (h : Canon s.mb.w0 s.mb.w2) :
    Canon (State.claimPlanned s f cause).mb.w0 (State.claimPlanned s f cause).mb.w2 := by
  unfold State.claimPlanned
  (try simp only [])
  repeat' first
    | (simp +contextual (maxDischargeDepth := 30) [h, foldl_canon, -List.foldl_reverse]; done)
    | split
    | (refine foldl_canon _ _ _ (fun _ _ h => ?_) ?_)
    | (dsimp only)

@[simp] theorem State.cancelPlanned_canon (s : State) (h : Handover) (hc : Canon s.mb.w0 s.mb.w2) :
    Canon (State.cancelPlanned s h).mb.w0 (State.cancelPlanned s h).mb.w2 := by
  unfold State.cancelPlanned
  (try simp only [])
  repeat' first
    | (simp +contextual (maxDischargeDepth := 30) [hc, foldl_canon, -List.foldl_reverse]; done)
    | split
    | (refine foldl_canon _ _ _ (fun _ _ hc => ?_) ?_)
    | (dsimp only)

@[simp] theorem State.sendRevert_canon (s : State) (frame : U32) (kind : Nat) (h : Canon s.mb.w0 s.mb.w2) :
    Canon (State.sendRevert s frame kind).mb.w0 (State.sendRevert s frame kind).mb.w2 := by simp [State.sendRevert, h]

@[simp] theorem State.checkFail_canon (s : State) (n : Nat) (always : Bool) (h : Canon s.mb.w0 s.mb.w2) :
    Canon (State.checkFail s n always).mb.w0 (State.checkFail s n always).mb.w2 := by
  unfold State.checkFail
  (try simp only [])
  repeat' first
    | (simp +contextual (maxDischargeDepth := 30) [h, foldl_canon, -List.foldl_reverse]; done)
    | split
    | (refine foldl_canon _ _ _ (fun _ _ h => ?_) ?_)
    | (dsimp only)

@[simp] theorem State.checkClear_canon (s : State) (n : Nat) (h : Canon s.mb.w0 s.mb.w2) :
    Canon (State.checkClear s n).mb.w0 (State.checkClear s n).mb.w2 := by
  unfold State.checkClear
  split <;> simp [h]

@[simp] theorem State.forceChecks_canon (s : State) (m : U32) (h : Canon s.mb.w0 s.mb.w2) :
    Canon (State.forceChecks s m).mb.w0 (State.forceChecks s m).mb.w2 := by
  unfold State.forceChecks
  (try simp only [])
  repeat' first
    | (simp +contextual (maxDischargeDepth := 30) [h, foldl_canon, -List.foldl_reverse]; done)
    | split
    | (refine foldl_canon _ _ _ (fun _ _ h => ?_) ?_)
    | (dsimp only)

@[simp] theorem State.checkSet_canon (s : State) (n : Nat) (b : Bool) (h : Canon s.mb.w0 s.mb.w2) :
    Canon (State.checkSet s n b).mb.w0 (State.checkSet s n b).mb.w2 := by simp [State.checkSet, h]

@[simp] theorem State.flagFrame_canon (s : State) (m : U32) (bit : Nat) (h : Canon s.mb.w0 s.mb.w2) :
    Canon (State.flagFrame s m bit).mb.w0 (State.flagFrame s m bit).mb.w2 := by simp [State.flagFrame, h]

@[simp] theorem State.raisePath_canon (s : State) (path : Nat) (kind : Nat) (h : Canon s.mb.w0 s.mb.w2) :
    Canon (State.raisePath s path kind).mb.w0 (State.raisePath s path kind).mb.w2 := by simp [State.raisePath, h]

@[simp] theorem State.pierLinkLost_canon (s : State) (sp : Fin 12) (h : Canon s.mb.w0 s.mb.w2) :
    Canon (State.pierLinkLost s sp).mb.w0 (State.pierLinkLost s sp).mb.w2 := by simp [State.pierLinkLost, h]

@[simp] theorem State.modSpan_canon (s : State) (sp : Fin 12) (f : Span → Span) (h : Canon s.mb.w0 s.mb.w2) :
    Canon (State.modSpan s sp f).mb.w0 (State.modSpan s sp f).mb.w2 := by simp [State.modSpan, h]

@[simp] theorem State.spanFail_canon (s : State) (sp : Fin 12) (case_ : Nat) (h : Canon s.mb.w0 s.mb.w2) :
    Canon (State.spanFail s sp case_).mb.w0 (State.spanFail s sp case_).mb.w2 := by
  unfold State.spanFail
  dsimp only
  split
  · simp [h]
  · exact State.checkFail_canon _ _ _ (by simp [h])

@[simp] theorem State.spanCheck_canon (s : State) (h : Canon s.mb.w0 s.mb.w2) :
    Canon (State.spanCheck s).mb.w0 (State.spanCheck s).mb.w2 := by simp [State.spanCheck, h]

@[simp] theorem State.pierLinkBack_canon (s : State) (sp : Fin 12) (h : Canon s.mb.w0 s.mb.w2) :
    Canon (State.pierLinkBack s sp).mb.w0 (State.pierLinkBack s sp).mb.w2 := by
  unfold State.pierLinkBack
  dsimp only
  repeat' split
  all_goals simp [h]

@[simp] theorem State.judge_canon (s : State) (m : U32) (own : U16) (partner : U16) (h : Canon s.mb.w0 s.mb.w2) :
    Canon (State.judge s m own partner).mb.w0 (State.judge s m own partner).mb.w2 := by
  unfold State.judge
  (try simp only [])
  repeat' first
    | (simp +contextual (maxDischargeDepth := 30) [h, foldl_canon, -List.foldl_reverse]; done)
    | split
    | (refine foldl_canon _ _ _ (fun _ _ h => ?_) ?_)
    | (dsimp only)

@[simp] theorem State.compareFrame_canon (s : State) (m : U32) (h : Canon s.mb.w0 s.mb.w2) :
    Canon (State.compareFrame s m).mb.w0 (State.compareFrame s m).mb.w2 := by
  unfold State.compareFrame
  dsimp only
  repeat' split
  all_goals simp [h]

@[simp] theorem State.computeDigest_canon (s : State) (m : U32) (h : Canon s.mb.w0 s.mb.w2) :
    Canon (State.computeDigest s m).mb.w0 (State.computeDigest s m).mb.w2 := by
  unfold State.computeDigest
  (try simp only [])
  repeat' first
    | (simp +contextual (maxDischargeDepth := 30) [h, foldl_canon, -List.foldl_reverse]; done)
    | split
    | (refine foldl_canon _ _ _ (fun _ _ h => ?_) ?_)
    | (dsimp only)

@[simp] theorem State.askDigest_canon (s : State) (m : U32) (h : Canon s.mb.w0 s.mb.w2) :
    Canon (State.askDigest s m).mb.w0 (State.askDigest s m).mb.w2 := by simp [State.askDigest, h]

@[simp] theorem State.startupClaim_canon (s : State) (h : Canon s.mb.w0 s.mb.w2) :
    Canon (State.startupClaim s).mb.w0 (State.startupClaim s).mb.w2 := by
  unfold State.startupClaim
  dsimp only
  repeat' split
  all_goals simp [h]

@[simp] theorem State.pierGridStart_canon (s : State) (h : Canon s.mb.w0 s.mb.w2) :
    Canon (State.pierGridStart s).mb.w0 (State.pierGridStart s).mb.w2 := by
  unfold State.pierGridStart
  dsimp only
  repeat' split
  all_goals simp [h]

@[simp] theorem State.pierGridStop_canon (s : State) (h : Canon s.mb.w0 s.mb.w2) :
    Canon (State.pierGridStop s).mb.w0 (State.pierGridStop s).mb.w2 := by simp [State.pierGridStop, h]

@[simp] theorem State.reconvert_canon (s : State) (h : Canon s.mb.w0 s.mb.w2) :
    Canon (State.reconvert s).mb.w0 (State.reconvert s).mb.w2 := by simp [State.reconvert, h]

@[simp] theorem State.fireSlots_canon (s : State) (p : KtSlot → Bool) (past : KtSlot → Int) (h : Canon s.mb.w0 s.mb.w2) :
    Canon (State.fireSlots s p past).mb.w0 (State.fireSlots s p past).mb.w2 := by
  unfold State.fireSlots
  (try simp only [])
  repeat' first
    | (simp +contextual (maxDischargeDepth := 30) [h, foldl_canon, -List.foldl_reverse]; done)
    | split
    | (refine foldl_canon _ _ _ (fun _ _ h => ?_) ?_)
    | (dsimp only)

@[simp] theorem State.beginAction_canon (s : State) (n : Nat) (h : Canon s.mb.w0 s.mb.w2) :
    Canon (State.beginAction s n).mb.w0 (State.beginAction s n).mb.w2 := by
  unfold State.beginAction
  dsimp only
  repeat' (first | (simp [h]; done) | (refine foldl_canon _ _ _ (fun _ _ h => ?_) ?_) | exact h | split)

@[simp] theorem State.slotTurn_canon (s : State) (h : Canon s.mb.w0 s.mb.w2) :
    Canon (State.slotTurn s).mb.w0 (State.slotTurn s).mb.w2 := by
  unfold State.slotTurn
  dsimp only
  repeat' (first | (simp [h]; done) | (refine foldl_canon _ _ _ (fun _ _ h => ?_) ?_) | exact h | split)

@[simp] theorem State.raiseLock_canon (s : State) (prev : LockState) (h : Canon s.mb.w0 s.mb.w2) :
    Canon (State.raiseLock s prev).mb.w0 (State.raiseLock s prev).mb.w2 := by simp [State.raiseLock, h]

@[simp] theorem State.setFaults_canon (s : State) (h o : Bool) (hc : Canon s.mb.w0 s.mb.w2) :
    Canon (State.setFaults s h o).mb.w0 (State.setFaults s h o).mb.w2 := by
  unfold State.setFaults
  (try simp only [])
  repeat' first
    | (simp +contextual (maxDischargeDepth := 30) [hc, foldl_canon, -List.foldl_reverse]; done)
    | split
    | (refine foldl_canon _ _ _ (fun _ _ hc => ?_) ?_)
    | (dsimp only)

@[simp] theorem State.lockTo_canon (s : State) (st : LockState) (h : Canon s.mb.w0 s.mb.w2) :
    Canon (State.lockTo s st).mb.w0 (State.lockTo s st).mb.w2 := by
  unfold State.lockTo
  repeat' first
    | (simp (maxDischargeDepth := 30) [h]; done)
    | split
    | (dsimp only)

@[simp] theorem State.holdover_canon (s : State) (h : Canon s.mb.w0 s.mb.w2) :
    Canon (State.holdover s).mb.w0 (State.holdover s).mb.w2 := by
  unfold State.holdover
  (try simp only [])
  repeat' first
    | (simp +contextual (maxDischargeDepth := 30) [h, foldl_canon, -List.foldl_reverse]; done)
    | split
    | (refine foldl_canon _ _ _ (fun _ _ h => ?_) ?_)
    | (dsimp only)

@[simp] theorem State.reselect_canon (s : State) (h : Canon s.mb.w0 s.mb.w2) :
    Canon (State.reselect s).mb.w0 (State.reselect s).mb.w2 := by
  unfold State.reselect
  dsimp only
  repeat' split
  all_goals simp [h]

@[simp] theorem State.invalidate_canon (s : State) (code : Nat) (h : Canon s.mb.w0 s.mb.w2) :
    Canon (State.invalidate s code).mb.w0 (State.invalidate s code).mb.w2 := by simp [State.invalidate, h]

@[simp] theorem State.lockSample_canon (s : State) (theta : Rat) (h : Canon s.mb.w0 s.mb.w2) :
    Canon (State.lockSample s theta).mb.w0 (State.lockSample s theta).mb.w2 := by
  unfold State.lockSample
  (try simp only [])
  repeat' first
    | (simp +contextual (maxDischargeDepth := 30) [h, foldl_canon, -List.foldl_reverse]; done)
    | split
    | (refine foldl_canon _ _ _ (fun _ _ h => ?_) ?_)
    | (dsimp only)

@[simp] theorem State.stepTime_canon (s : State) (d : Rat) (h : Canon s.mb.w0 s.mb.w2) :
    Canon (State.stepTime s d).mb.w0 (State.stepTime s d).mb.w2 := by
  unfold State.stepTime
  (try simp only [])
  repeat' first
    | (simp +contextual (maxDischargeDepth := 30) [h, foldl_canon, -List.foldl_reverse]; done)
    | split
    | (refine foldl_canon _ _ _ (fun _ _ h => ?_) ?_)
    | (dsimp only)

@[simp] theorem State.servoSample_canon (s : State) (code : Nat) (theta : Rat) (dt : Nat) (h : Canon s.mb.w0 s.mb.w2) :
    Canon (State.servoSample s code theta dt).mb.w0 (State.servoSample s code theta dt).mb.w2 := by
  unfold State.servoSample
  (try simp only [])
  repeat' first
    | (simp +contextual (maxDischargeDepth := 30) [h, foldl_canon, -List.foldl_reverse]; done)
    | split
    | (refine foldl_canon _ _ _ (fun _ _ h => ?_) ?_)
    | (dsimp only)

@[simp] theorem State.sample_canon (s : State) (code : Nat) (theta : Rat) (nominal : Nat) (h : Canon s.mb.w0 s.mb.w2) :
    Canon (State.sample s code theta nominal).mb.w0 (State.sample s code theta nominal).mb.w2 := by
  unfold State.sample
  (try simp only [])
  repeat' first
    | (simp +contextual (maxDischargeDepth := 30) [h, foldl_canon, -List.foldl_reverse]; done)
    | split
    | (refine foldl_canon _ _ _ (fun _ _ h => ?_) ?_)
    | (dsimp only)

@[simp] theorem State.setServo_canon (p : List U8) (s : State) (h : Canon s.mb.w0 s.mb.w2) :
    Canon (State.setServo p s).mb.w0 (State.setServo p s).mb.w2 := by simp [State.setServo, h]

@[simp] theorem State.setClockModel_canon (p : List U8) (s : State) (h : Canon s.mb.w0 s.mb.w2) :
    Canon (State.setClockModel p s).mb.w0 (State.setClockModel p s).mb.w2 := by simp [State.setClockModel, h]

@[simp] theorem State.setTimecode_canon (p : List U8) (s : State) (h : Canon s.mb.w0 s.mb.w2) :
    Canon (State.setTimecode p s).mb.w0 (State.setTimecode p s).mb.w2 := by simp [State.setTimecode, h]

@[simp] theorem State.setSched_canon (p : List U8) (s : State) (h : Canon s.mb.w0 s.mb.w2) :
    Canon (State.setSched p s).mb.w0 (State.setSched p s).mb.w2 := by simp [State.setSched, h]

@[simp] theorem State.setCores_canon (p : List U8) (s : State) (h : Canon s.mb.w0 s.mb.w2) :
    Canon (State.setCores p s).mb.w0 (State.setCores p s).mb.w2 := by simp [State.setCores, h]

@[simp] theorem canonE_bulkLength (q : Req) (n : Nat) (k : Except Status Done) (h : CanonE k) :
    CanonE (bulkLength q n k) := by
  unfold bulkLength; split <;> simp [h]

@[simp] theorem canonE_withBulk (q : Req) (off n : Nat) (s : State) (k : List U8 → Except Status Done) (hs :
    Canon s.mb.w0 s.mb.w2) (h : ∀ b, CanonE (k b)) :
    CanonE (withBulk q off n s k) := by
  unfold withBulk
  split
  · exact (canonE_ok _).2 hs
  · split
    · exact h _
    · exact (canonE_ok _).2 (State.dmaFault_canon _ _ _ _ hs)

@[simp] theorem State.unloadActive_canon (s : State) (h : Canon s.mb.w0 s.mb.w2) :
    Canon (State.unloadActive s).mb.w0 (State.unloadActive s).mb.w2 := by simp [State.unloadActive, h]

@[simp] theorem showUnload_canon (q : Req) (s : State) (h : Canon s.mb.w0 s.mb.w2) :
    Canon (showUnload q s).mb.w0 (showUnload q s).mb.w2 := by
  unfold showUnload
  refine serve_canon _ _ _ _ _ h (fun s h => ?_)
  repeat' first
    | (refine canonE_require _ _ _ ?_)
    | (refine canonE_bulkLength _ _ _ ?_)
    | (refine canonE_withBulk _ _ _ _ _ (by simp [h]) (fun _ => ?_))
    | (refine canonE_onSpan _ _ (fun _ => ?_))
    | (refine canonE_onLane _ _ (fun _ _ => ?_))
    | (refine canonE_onRdm _ _ _ (fun _ => ?_))
    | (refine canonE_pierControl _ _ _ _ ?_)
    | (exact State.settle_canon _ _ _ (by simp [h]))
    | (simp (maxDischargeDepth := 30) [h]; done)
    | split
    | (simp (maxDischargeDepth := 30) [h, foldl_canon, -List.foldl_reverse]; done)
    | (dsimp only)

@[simp] theorem State.setTap_canon (p : List U8) (s : State) (h : Canon s.mb.w0 s.mb.w2) :
    Canon (State.setTap p s).mb.w0 (State.setTap p s).mb.w2 := by
  unfold State.setTap
  split <;> simp [h]

@[simp] theorem State.setHouse_canon (p : List U8) (s : State) (h : Canon s.mb.w0 s.mb.w2) :
    Canon (State.setHouse p s).mb.w0 (State.setHouse p s).mb.w2 := by simp [State.setHouse, h]

@[simp] theorem State.modLoop_canon (s : State) (fi : Nat) (f : Loop → Loop) (h : Canon s.mb.w0 s.mb.w2) :
    Canon (State.modLoop s fi f).mb.w0 (State.modLoop s fi f).mb.w2 := by simp [State.modLoop, h]

@[simp] theorem State.loopState_canon (s : State) (fi : Nat) (f : Fixture) (m : U32) (got : Bool) (h :
    Canon s.mb.w0 s.mb.w2) : Canon (State.loopState s fi f m got).mb.w0 (State.loopState s fi f m got).mb.w2 := by
  unfold State.loopState
  dsimp only
  repeat' split
  all_goals simp [h]

@[simp] theorem State.loopAt_canon (s : State) (m : U32) (fresh : List Reading) (swap : Bool) (x : State × Nat)
    (e : Nat × Fixture) (h : Canon x.1.mb.w0 x.1.mb.w2) : Canon (State.loopAt s m fresh swap x e).1.mb.w0 (State.loopAt s m fresh swap x e).1.mb.w2 := by
  unfold State.loopAt
  dsimp only
  repeat' (first | (simp (maxDischargeDepth := 30) [h]; done) | split)

@[simp] theorem State.sensorsAt_canon (s : State) (im : Image) (m : U32) (fresh : List Reading) (swap : Bool) (h : Canon s.mb.w0 s.mb.w2) :
    Canon (State.sensorsAt s im m fresh swap).mb.w0 (State.sensorsAt s im m fresh swap).mb.w2 := by
  unfold State.sensorsAt
  exact foldl_canon1 _ _ _ (fun x a hx => State.loopAt_canon _ m fresh swap x a hx) h

@[simp] theorem State.keepInputs_canon (s : State) (m : U32) (h : Canon s.mb.w0 s.mb.w2) :
    Canon (State.keepInputs s m).mb.w0 (State.keepInputs s m).mb.w2 := by
  unfold State.keepInputs
  dsimp only
  repeat' (first | (simp [h]; done) | (refine foldl_canon _ _ _ (fun _ _ h => ?_) ?_) | exact h | split)

@[simp] theorem State.dropCorr_canon (s : State) (fi : Nat) (h : Canon s.mb.w0 s.mb.w2) :
    Canon (State.dropCorr s fi).mb.w0 (State.dropCorr s fi).mb.w2 := by
  unfold State.dropCorr
  dsimp only
  repeat' (first | (simp [h]; done) | (refine foldl_canon _ _ _ (fun _ _ h => ?_) ?_) | exact h | split)

@[simp] theorem State.takePosition_canon (s : State) (p : PosRec) (h : Canon s.mb.w0 s.mb.w2) :
    Canon (State.takePosition s p).mb.w0 (State.takePosition s p).mb.w2 := foldl_canon _ _ _ (fun _ _ h => by simp [h]) h

@[simp] theorem State.solveHouse_canon (s : State) (im : Image) (m : U32) (e : Nat × Fixture) (h :
    Canon s.mb.w0 s.mb.w2) : Canon (State.solveHouse s im m e).mb.w0 (State.solveHouse s im m e).mb.w2 := by
  unfold State.solveHouse
  split <;> simp [h]

@[simp] theorem State.houseJoin_canon (s : State) (h : Canon s.mb.w0 s.mb.w2) :
    Canon (State.houseJoin s).mb.w0 (State.houseJoin s).mb.w2 := by
  unfold State.houseJoin
  dsimp only
  repeat' (first | (simp [h]; done) | (refine foldl_canon _ _ _ (fun _ _ h => ?_) ?_) | exact h | split)

@[simp] theorem State.passHouse_canon (s : State) (im : Image) (m : U32) (e : Nat × Fixture) (h : Canon s.mb.w0 s.mb.w2) :
    Canon (State.passHouse s im m e).mb.w0 (State.passHouse s im m e).mb.w2 := by
  unfold State.passHouse
  dsimp only
  repeat' (first | (simp [h]; done) | (refine foldl_canon _ _ _ (fun _ _ h => ?_) ?_) | exact h | split)

@[simp] theorem State.solveFixture_canon (s : State) (im : Image) (m : U32) (e : Nat × Fixture) (h :
    Canon s.mb.w0 s.mb.w2) : Canon (State.solveFixture s im m e).mb.w0 (State.solveFixture s im m e).mb.w2 := by
  unfold State.solveFixture
  split <;> simp [h]

@[simp] theorem State.cmuPass_canon (s : State) (im : Image) (m : U32) (h : Canon s.mb.w0 s.mb.w2) :
    Canon (State.cmuPass s im m).mb.w0 (State.cmuPass s im m).mb.w2 := by
  unfold State.cmuPass
  (try simp only [])
  repeat' first
    | (simp +contextual (maxDischargeDepth := 30) [h, foldl_canon, -List.foldl_reverse]; done)
    | split
    | (refine foldl_canon _ _ _ (fun _ _ h => ?_) ?_)
    | (dsimp only)

@[simp] theorem State.raiseStop_canon (s : State) (c : Bool) (cause : Nat) (kind : Nat) (m : U32) (h :
    Canon s.mb.w0 s.mb.w2) :
        Canon (State.raiseStop s c cause kind m).mb.w0
            (State.raiseStop s c cause kind m).mb.w2 := by simp [State.raiseStop, h]

@[simp] theorem State.restSettle_canon (s : State) (h : Canon s.mb.w0 s.mb.w2) :
    Canon (State.restSettle s).mb.w0 (State.restSettle s).mb.w2 := by
  unfold State.restSettle
  dsimp only
  repeat' (first | (simp [h]; done) | (refine foldl_canon _ _ _ (fun _ _ h => ?_) ?_) | exact h | split)

@[simp] theorem State.applyStop_canon (s : State) (m : U32) (k : KStop) (h : Canon s.mb.w0 s.mb.w2) :
    Canon (State.applyStop s m k).mb.w0 (State.applyStop s m k).mb.w2 := by
  unfold State.applyStop
  (try simp only [])
  repeat' first
    | (simp +contextual (maxDischargeDepth := 30) [h, foldl_canon, -List.foldl_reverse]; done)
    | split
    | (refine foldl_canon _ _ _ (fun _ _ h => ?_) ?_)
    | (dsimp only)

@[simp] theorem State.applyStops_canon (s : State) (m : U32) (h : Canon s.mb.w0 s.mb.w2) :
    Canon (State.applyStops s m).mb.w0 (State.applyStops s m).mb.w2 := foldl_canon _ _ _ (fun _ _ h => by simp [h]) h

@[simp] theorem State.beginCause_canon (s : State) (cause : Nat) (m : U32) (h : Canon s.mb.w0 s.mb.w2) :
    Canon (State.beginCause s cause m).mb.w0 (State.beginCause s cause m).mb.w2 := by simp [State.beginCause, h]

@[simp] theorem State.endCause_canon (s : State) (cause : Nat) (m : U32) (h : Canon s.mb.w0 s.mb.w2) :
    Canon (State.endCause s cause m).mb.w0 (State.endCause s cause m).mb.w2 := by simp [State.endCause, h]

@[simp] theorem State.atRest_canon (s : State) (h : Canon s.mb.w0 s.mb.w2) :
    Canon (State.atRest s).mb.w0 (State.atRest s).mb.w2 := by simp [State.atRest, h]

@[simp] theorem State.raiseRest_canon (s : State) (im : Image) (m : U32) (h : Canon s.mb.w0 s.mb.w2) :
    Canon (State.raiseRest s im m).mb.w0 (State.raiseRest s im m).mb.w2 := by
  unfold State.raiseRest
  split <;> simp [h]

@[simp] theorem State.kinPass_canon (s : State) (im : Image) (m : U32) (h : Canon s.mb.w0 s.mb.w2) :
    Canon (State.kinPass s im m).mb.w0 (State.kinPass s im m).mb.w2 := by simp [State.kinPass, h]

@[simp] theorem State.renderEnd_canon (s : State) (m : U32) (h : Canon s.mb.w0 s.mb.w2) :
    Canon (State.renderEnd s m).mb.w0 (State.renderEnd s m).mb.w2 := by
  unfold State.renderEnd
  split <;> simp [h]

@[simp] theorem State.placeKin_canon (s : State) (im : Image) (keep : Nat → Nat → Option Kin) (h :
    Canon s.mb.w0 s.mb.w2) :
        Canon (State.placeKin s im keep).mb.w0 (State.placeKin s im keep).mb.w2 := by simp [State.placeKin, h]

@[simp] theorem State.recomputeKin_canon (s : State) (im : Image) (h : Canon s.mb.w0 s.mb.w2) :
    Canon ((s.recomputeKin im).1).mb.w0 ((s.recomputeKin im).1).mb.w2 := by simp [State.recomputeKin, h]

@[simp] theorem State.setCmu_canon (p : List U8) (s : State) (h : Canon s.mb.w0 s.mb.w2) :
    Canon (State.setCmu p s).mb.w0 (State.setCmu p s).mb.w2 := by simp [State.setCmu, h]

@[simp] theorem loopControl_canon (q : Req) (s : State) (h : Canon s.mb.w0 s.mb.w2) :
    Canon (loopControl q s).mb.w0 (loopControl q s).mb.w2 := by
  unfold loopControl
  refine serve_canon _ _ _ _ _ h (fun s h => ?_)
  repeat' first
    | (refine canonE_require _ _ _ ?_)
    | (refine canonE_bulkLength _ _ _ ?_)
    | (refine canonE_withBulk _ _ _ _ _ (by simp [h]) (fun _ => ?_))
    | (refine canonE_onSpan _ _ (fun _ => ?_))
    | (refine canonE_onLane _ _ (fun _ _ => ?_))
    | (refine canonE_onRdm _ _ _ (fun _ => ?_))
    | (refine canonE_pierControl _ _ _ _ ?_)
    | (exact State.settle_canon _ _ _ (by simp [h]))
    | (simp (maxDischargeDepth := 30) [h]; done)
    | split
    | (simp (maxDischargeDepth := 30) [h, foldl_canon, -List.foldl_reverse]; done)
    | (dsimp only)

@[simp] theorem kineticStop_canon (q : Req) (s : State) (h : Canon s.mb.w0 s.mb.w2) :
    Canon (kineticStop q s).mb.w0 (kineticStop q s).mb.w2 := by
  unfold kineticStop
  refine serve_canon _ _ _ _ _ h (fun s h => ?_)
  repeat' first
    | (refine canonE_require _ _ _ ?_)
    | (refine canonE_bulkLength _ _ _ ?_)
    | (refine canonE_withBulk _ _ _ _ _ (by simp [h]) (fun _ => ?_))
    | (refine canonE_onSpan _ _ (fun _ => ?_))
    | (refine canonE_onLane _ _ (fun _ _ => ?_))
    | (refine canonE_onRdm _ _ _ (fun _ => ?_))
    | (refine canonE_pierControl _ _ _ _ ?_)
    | (exact State.settle_canon _ _ _ (by simp [h]))
    | (simp (maxDischargeDepth := 30) [h]; done)
    | split
    | (simp (maxDischargeDepth := 30) [h, foldl_canon, -List.foldl_reverse]; done)
    | (dsimp only)

@[simp] theorem State.deckRead_canon (s : State) (f : U32) (a n requester : Nat) (h : Canon s.mb.w0 s.mb.w2) :
    Canon (State.deckRead s f a n requester).mb.w0 (State.deckRead s f a n requester).mb.w2 := by
  unfold State.deckRead
  (try simp only [])
  repeat' first
    | (simp +contextual (maxDischargeDepth := 30) [h, foldl_canon, -List.foldl_reverse]; done)
    | split
    | (refine foldl_canon _ _ _ (fun _ _ h => ?_) ?_)
    | (dsimp only)

@[simp] theorem State.deckBoundary_canon (s : State) (h : Canon s.mb.w0 s.mb.w2) :
    Canon (State.deckBoundary s).mb.w0 (State.deckBoundary s).mb.w2 := by
  unfold State.deckBoundary
  dsimp only
  repeat' (first | (simp [h]; done) | (refine foldl_canon _ _ _ (fun _ _ h => ?_) ?_) | exact h | split)

@[simp] theorem State.cmuReads_canon (s : State) (im : Image) (f : U32) (h : Canon s.mb.w0 s.mb.w2) :
    Canon (State.cmuReads s im f).mb.w0 (State.cmuReads s im f).mb.w2 := by
  unfold State.cmuReads
  (try simp only [])
  repeat' first
    | (simp +contextual (maxDischargeDepth := 30) [h, foldl_canon, -List.foldl_reverse]; done)
    | split
    | (refine foldl_canon _ _ _ (fun _ _ h => ?_) ?_)
    | (dsimp only)

@[simp] theorem State.packReads_canon (s : State) (im : Image) (route : Nat) (r : Route) (f : U32) (h : Canon s.mb.w0 s.mb.w2) :
    Canon (State.packReads s im route r f).mb.w0 (State.packReads s im route r f).mb.w2 := by
  unfold State.packReads
  (try simp only [])
  repeat' first
    | (simp +contextual (maxDischargeDepth := 30) [h, foldl_canon, -List.foldl_reverse]; done)
    | split
    | (refine foldl_canon _ _ _ (fun _ _ h => ?_) ?_)
    | (dsimp only)

@[simp] theorem State.modIngest_canon (s : State) (k : Fin 8) (f : Ingest → Ingest) (h : Canon s.mb.w0 s.mb.w2) :
    Canon (State.modIngest s k f).mb.w0 (State.modIngest s k f).mb.w2 := by simp [State.modIngest, h]

@[simp] theorem State.sourceBegin_canon (s : State) (k : Fin 8) (rtp : U32) (media : Int) (h :
    Canon s.mb.w0 s.mb.w2) : Canon (State.sourceBegin s k rtp media).mb.w0 (State.sourceBegin s k rtp media).mb.w2 := by
  unfold State.sourceBegin
  dsimp only
  split <;> simp [h]

@[simp] theorem State.sourceLines_canon (s : State) (k : Fin 8) (lines : Nat) (last : Bool) (h :
    Canon s.mb.w0 s.mb.w2) : Canon (State.sourceLines s k lines last).mb.w0 (State.sourceLines s k lines last).mb.w2 := by
  unfold State.sourceLines
  (try simp only [])
  repeat' first
    | (simp +contextual (maxDischargeDepth := 30) [h, foldl_canon, -List.foldl_reverse]; done)
    | split
    | (refine foldl_canon _ _ _ (fun _ _ h => ?_) ?_)
    | (dsimp only)

@[simp] theorem State.sourceRows_canon (s : State) (k : Fin 8) (rows : List VideoRow) (h : Canon s.mb.w0 s.mb.w2) :
    Canon (State.sourceRows s k rows).mb.w0 (State.sourceRows s k rows).mb.w2 := by
  unfold State.sourceRows
  dsimp only
  repeat' (first | (simp [h]; done) | (refine foldl_canon _ _ _ (fun _ _ h => ?_) ?_) | exact h | split)

@[simp] theorem State.sourceAbandon_canon (s : State) (k : Fin 8) (h : Canon s.mb.w0 s.mb.w2) :
    Canon (State.sourceAbandon s k).mb.w0 (State.sourceAbandon s k).mb.w2 := by
  unfold State.sourceAbandon
  split <;> simp [h]

@[simp] theorem State.bandDone_canon (s : State) (arg : Nat) (h : Canon s.mb.w0 s.mb.w2) :
    Canon (State.bandDone s arg).mb.w0 (State.bandDone s arg).mb.w2 := by
  unfold State.bandDone
  (try simp only [])
  repeat' first
    | (simp +contextual (maxDischargeDepth := 30) [h, foldl_canon, -List.foldl_reverse]; done)
    | split
    | (refine foldl_canon _ _ _ (fun _ _ h => ?_) ?_)
    | (dsimp only)

@[simp] theorem State.captureOne_canon (s : State) (m : U32) (k : Fin 8) (h : Canon s.mb.w0 s.mb.w2) :
    Canon (State.captureOne s m k).mb.w0 (State.captureOne s m k).mb.w2 := by
  unfold State.captureOne
  dsimp only
  repeat' split
  all_goals simp [h]

@[simp] theorem State.capture_canon (s : State) (m : U32) (h : Canon s.mb.w0 s.mb.w2) :
    Canon (State.capture s m).mb.w0 (State.capture s m).mb.w2 := by
  unfold State.capture
  (try simp only [])
  repeat' first
    | (simp +contextual (maxDischargeDepth := 30) [h, foldl_canon, -List.foldl_reverse]; done)
    | split
    | (refine foldl_canon _ _ _ (fun _ _ h => ?_) ?_)
    | (dsimp only)

@[simp] theorem State.modRaster_canon (s : State) (re : Fin 4) (f : Raster → Raster) (h : Canon s.mb.w0 s.mb.w2) :
    Canon (State.modRaster s re f).mb.w0 (State.modRaster s re f).mb.w2 := by simp [State.modRaster, h]

@[simp] theorem State.rasterSend_canon (s : State) (re : Fin 4) (f : U32) (type : U16) (payload : List U8) (h :
    Canon s.mb.w0 s.mb.w2) :
        Canon (State.rasterSend s re f type payload).mb.w0 (State.rasterSend s re f type payload).mb.w2 := by
  unfold State.rasterSend
  split <;> simp [h]

@[simp] theorem State.releaseCopies_canon (s : State) (h : Canon s.mb.w0 s.mb.w2) :
    Canon (State.releaseCopies s).mb.w0 (State.releaseCopies s).mb.w2 := by
  unfold State.releaseCopies
  (try simp only [])
  repeat' first
    | (simp +contextual (maxDischargeDepth := 30) [h, foldl_canon, -List.foldl_reverse]; done)
    | split
    | (refine foldl_canon _ _ _ (fun _ _ h => ?_) ?_)
    | (dsimp only)

@[simp] theorem State.rasterBegin_canon (s : State) (re : Fin 4) (r : U32) (h : Canon s.mb.w0 s.mb.w2) :
    Canon (State.rasterBegin s re r).mb.w0 (State.rasterBegin s re r).mb.w2 := by
  unfold State.rasterBegin
  (try simp only [])
  repeat' first
    | (simp +contextual (maxDischargeDepth := 30) [h, foldl_canon, -List.foldl_reverse]; done)
    | split
    | (refine foldl_canon _ _ _ (fun _ _ h => ?_) ?_)
    | (dsimp only)

@[simp] theorem State.abortRasters_canon (s : State) (d : U32) (h : Canon s.mb.w0 s.mb.w2) :
    Canon (State.abortRasters s d).mb.w0 (State.abortRasters s d).mb.w2 := by
  unfold State.abortRasters
  dsimp only
  refine State.releaseCopies_canon _ ?_
  refine foldl_canon _ _ _ (fun _ _ h => ?_) h
  repeat' first
    | (simp +contextual (maxDischargeDepth := 30) [h, foldl_canon, -List.foldl_reverse]; done)
    | split
    | (refine foldl_canon _ _ _ (fun _ _ h => ?_) ?_)
    | (dsimp only)

@[simp] theorem State.lineReads_canon (s : State) (im : Image) (re : Fin 4) (f : U32) (half1 : Bool) (y : Nat) (h : Canon s.mb.w0 s.mb.w2) :
    Canon (State.lineReads s im re f half1 y).mb.w0 (State.lineReads s im re f half1 y).mb.w2 := by
  unfold State.lineReads
  (try simp only [])
  repeat' first
    | (simp +contextual (maxDischargeDepth := 30) [h, foldl_canon, -List.foldl_reverse]; done)
    | split
    | (refine foldl_canon _ _ _ (fun _ _ h => ?_) ?_)
    | (dsimp only)

@[simp] theorem State.underImage_canon (s : State) (m : U32) (f : State → State) (h :
    Canon s.mb.w0 s.mb.w2) (hf : ∀ t, Canon t.mb.w0 t.mb.w2 → Canon (f t).mb.w0 (f t).mb.w2) :
    Canon (s.underImage m f).mb.w0 (s.underImage m f).mb.w2 := by
  simp [State.underImage, hf, h]

@[simp] theorem State.layerUnderrun_canon (s : State) (re : Fin 4) (mask : BitVec 4) (f : U32) (h :
    Canon s.mb.w0 s.mb.w2) : Canon (State.layerUnderrun s re mask f).mb.w0 (State.layerUnderrun s re mask f).mb.w2 := by
  unfold State.layerUnderrun
  refine foldl_canon _ _ _ (fun _ _ h => ?_) h
  dsimp only
  split
  · exact State.raiseF_canon _ _ _ h
  · exact h

@[simp] theorem State.rasterEnd_canon (s : State) (re : Fin 4) (t : Transfer) (h : Canon s.mb.w0 s.mb.w2) :
    Canon (State.rasterEnd s re t).mb.w0 (State.rasterEnd s re t).mb.w2 := by
  unfold State.rasterEnd
  (try simp only [])
  repeat' first
    | (simp +contextual (maxDischargeDepth := 30) [h, foldl_canon, -List.foldl_reverse]; done)
    | split
    | (refine foldl_canon _ _ _ (fun _ _ h => ?_) ?_)
    | (dsimp only)

@[simp] theorem State.lineSend_canon (s : State) (re : Fin 4) (t : Transfer) (p : List U8) (h :
    Canon s.mb.w0 s.mb.w2) :
        Canon (State.lineSend s re t p).mb.w0 (State.lineSend s re t p).mb.w2 := by simp [State.lineSend, h]

@[simp] theorem State.lineOf_canon (s : State) (re : Fin 4) (t : Transfer) (under : List (Nat × BitVec 4)) (f : U32) (h : Canon s.mb.w0 s.mb.w2) :
    Canon (State.lineOf s re t under f).mb.w0 (State.lineOf s re t under f).mb.w2 := by
  unfold State.lineOf
  (try simp only [])
  repeat' first
    | (simp +contextual (maxDischargeDepth := 30) [h, foldl_canon, -List.foldl_reverse]; done)
    | split
    | (refine foldl_canon _ _ _ (fun _ _ h => ?_) ?_)
    | (dsimp only)

@[simp] theorem State.rasterLine_canon (s : State) (re : Fin 4) (t : Transfer) (under : List (Nat × BitVec 4)) (bad : Bool) (h : Canon s.mb.w0 s.mb.w2) :
    Canon (State.rasterLine s re t under bad).mb.w0 (State.rasterLine s re t under bad).mb.w2 := by
  unfold State.rasterLine
  (try simp only [])
  repeat' first
    | (simp +contextual (maxDischargeDepth := 30) [h, foldl_canon, -List.foldl_reverse]; done)
    | split
    | (refine foldl_canon _ _ _ (fun _ _ h => ?_) ?_)
    | (dsimp only)

@[simp] theorem State.rasterCopy_canon (s : State) (re : Fin 4) (h : Canon s.mb.w0 s.mb.w2) :
    Canon (State.rasterCopy s re).mb.w0 (State.rasterCopy s re).mb.w2 := by simp [State.rasterCopy, h]

@[simp] theorem State.setIngest_canon (p : List U8) (s : State) (h : Canon s.mb.w0 s.mb.w2) :
    Canon (State.setIngest p s).mb.w0 (State.setIngest p s).mb.w2 := by
  unfold State.setIngest
  split <;> simp [h]

@[simp] theorem State.modQueue_canon (s : State) (n : Nat) (f : Queue → Queue) (h : Canon s.mb.w0 s.mb.w2) :
    Canon (State.modQueue s n f).mb.w0 (State.modQueue s n f).mb.w2 := by simp [State.modQueue, h]

@[simp] theorem State.queuePut_canon (s : State) (n : Nat) (f : PoolFrame) (h : Canon s.mb.w0 s.mb.w2) :
    Canon (State.queuePut s n f).mb.w0 (State.queuePut s n f).mb.w2 := by simp [State.queuePut, h]

@[simp] theorem State.queueDrop_canon (s : State) (n : Nat) (h : Canon s.mb.w0 s.mb.w2) :
    Canon (State.queueDrop s n).mb.w0 (State.queueDrop s n).mb.w2 := by simp [State.queueDrop, h]

@[simp] theorem State.modEth_canon (s : State) (n : Fin 4) (f : Eth → Eth) (h : Canon s.mb.w0 s.mb.w2) :
    Canon (State.modEth s n f).mb.w0 (State.modEth s n f).mb.w2 := by simp [State.modEth, h]

@[simp] theorem State.ethSend_canon (s : State) (n : Fin 4) (cls : Nat) (f : PoolFrame) (h : Canon s.mb.w0 s.mb.w2) :
    Canon (State.ethSend s n cls f).mb.w0 (State.ethSend s n cls f).mb.w2 := by
  unfold State.ethSend
  dsimp only
  repeat' split
  all_goals simp [h]

@[simp] theorem State.drainWait_canon (s : State) (n : Fin 4) (h : Canon s.mb.w0 s.mb.w2) :
    Canon (State.drainWait s n).mb.w0 (State.drainWait s n).mb.w2 := by
  unfold State.drainWait
  (try simp only [])
  repeat' first
    | (simp +contextual (maxDischargeDepth := 30) [h, foldl_canon, -List.foldl_reverse]; done)
    | split
    | (refine foldl_canon _ _ _ (fun _ _ h => ?_) ?_)
    | (dsimp only)

@[simp] theorem State.ethPut_canon (s : State) (n : Fin 4) (cls : Nat) (bytes : List U8) (h : Canon s.mb.w0 s.mb.w2) :
    Canon (State.ethPut s n cls bytes).mb.w0 (State.ethPut s n cls bytes).mb.w2 := by
  unfold State.ethPut
  (try simp only [])
  repeat' first
    | (simp +contextual (maxDischargeDepth := 30) [h, foldl_canon, -List.foldl_reverse]; done)
    | split
    | (refine foldl_canon _ _ _ (fun _ _ h => ?_) ?_)
    | (dsimp only)

@[simp] theorem State.ethUdp_canon (s : State) (n : Fin 4) (cls : Nat) (dst : U32) (sport dport : U16) (body : List U8) (h : Canon s.mb.w0 s.mb.w2) :
    Canon (State.ethUdp s n cls dst sport dport body).mb.w0 (State.ethUdp s n cls dst sport dport body).mb.w2 := by
  unfold State.ethUdp
  (try simp only [])
  repeat' first
    | (simp +contextual (maxDischargeDepth := 30) [h, foldl_canon, -List.foldl_reverse]; done)
    | split
    | (refine foldl_canon _ _ _ (fun _ _ h => ?_) ?_)
    | (dsimp only)

@[simp] theorem State.closeFragment_canon (s : State) (n : Fin 4) (h : Canon s.mb.w0 s.mb.w2) :
    Canon (State.closeFragment s n).mb.w0 (State.closeFragment s n).mb.w2 := by
  unfold State.closeFragment
  dsimp only
  repeat' split
  all_goals simp [h]

@[simp] theorem State.txtsPut_canon (s : State) (n : Fin 4) (t : Txts) (h : Canon s.mb.w0 s.mb.w2) :
    Canon (State.txtsPut s n t).mb.w0 (State.txtsPut s n t).mb.w2 := by
  unfold State.txtsPut
  split <;> simp [h]

@[simp] theorem State.stampFrame_canon (s : State) (n : Fin 4) (f : PoolFrame) (h : Canon s.mb.w0 s.mb.w2) :
    Canon (State.stampFrame s n f).mb.w0 (State.stampFrame s n f).mb.w2 := by
  unfold State.stampFrame
  split <;> simp [h]

@[simp] theorem State.modPtp_canon (s : State) (n : Fin 4) (f : PtpPort → PtpPort) (h : Canon s.mb.w0 s.mb.w2) :
    Canon (State.modPtp s n f).mb.w0 (State.modPtp s n f).mb.w2 := by simp [State.modPtp, h]

@[simp] theorem State.ptpSend_canon (s : State) (n : Fin 4) (m : PtpOut) (h : Canon s.mb.w0 s.mb.w2) :
    Canon (State.ptpSend s n m).mb.w0 (State.ptpSend s n m).mb.w2 := by
  unfold State.ptpSend
  (try simp only [])
  repeat' first
    | (simp +contextual (maxDischargeDepth := 30) [h, foldl_canon, -List.foldl_reverse]; done)
    | split
    | (refine foldl_canon _ _ _ (fun _ _ h => ?_) ?_)
    | (dsimp only)

@[simp] theorem State.ptpLeft_canon (s : State) (n : Fin 4) (f : PoolFrame) (h : Canon s.mb.w0 s.mb.w2) :
    Canon (State.ptpLeft s n f).mb.w0 (State.ptpLeft s n f).mb.w2 := by
  unfold State.ptpLeft
  (try simp only [])
  repeat' first
    | (simp +contextual (maxDischargeDepth := 30) [h, foldl_canon, -List.foldl_reverse]; done)
    | split
    | (refine foldl_canon _ _ _ (fun _ _ h => ?_) ?_)
    | (dsimp only)

@[simp] theorem State.beginFrame_canon (s : State) (n : Fin 4) (cls : Nat) (f : PoolFrame) (h :
    Canon s.mb.w0 s.mb.w2) : Canon (State.beginFrame s n cls f).mb.w0 (State.beginFrame s n cls f).mb.w2 := by
  unfold State.beginFrame
  (try simp only [])
  repeat' first
    | (simp +contextual (maxDischargeDepth := 30) [h, foldl_canon, -List.foldl_reverse]; done)
    | split
    | (refine foldl_canon _ _ _ (fun _ _ h => ?_) ?_)
    | (dsimp only)

@[simp] theorem State.ethTransmit_canon (s : State) (n : Fin 4) (h : Canon s.mb.w0 s.mb.w2) :
    Canon (State.ethTransmit s n).mb.w0 (State.ethTransmit s n).mb.w2 := by
  unfold State.ethTransmit
  dsimp only
  repeat' split
  all_goals simp [h]

@[simp] theorem State.endHold_canon (s : State) (n : Fin 4) (end_ : Nat) (h : Canon s.mb.w0 s.mb.w2) :
    Canon (State.endHold s n end_).mb.w0 (State.endHold s n end_).mb.w2 := by simp [State.endHold, h]

@[simp] theorem State.pauseRx_canon (s : State) (n : Fin 4) (q : Nat) (h : Canon s.mb.w0 s.mb.w2) :
    Canon (State.pauseRx s n q).mb.w0 (State.pauseRx s n q).mb.w2 := by
  unfold State.pauseRx
  (try simp only [])
  repeat' first
    | (simp +contextual (maxDischargeDepth := 30) [h, foldl_canon, -List.foldl_reverse]; done)
    | split
    | (refine foldl_canon _ _ _ (fun _ _ h => ?_) ?_)
    | (dsimp only)

@[simp] theorem State.sendPause_canon (s : State) (n : Fin 4) (q : Nat) (h : Canon s.mb.w0 s.mb.w2) :
    Canon (State.sendPause s n q).mb.w0 (State.sendPause s n q).mb.w2 := by simp [State.sendPause, h]

@[simp] theorem State.pauseCheck_canon (s : State) (n : Fin 4) (h : Canon s.mb.w0 s.mb.w2) :
    Canon (State.pauseCheck s n).mb.w0 (State.pauseCheck s n).mb.w2 := by
  unfold State.pauseCheck
  dsimp only
  repeat' split
  all_goals simp [h]

@[simp] theorem State.rxPut_canon (s : State) (n : Fin 4) (q : Nat) (f : PoolFrame) (h : Canon s.mb.w0 s.mb.w2) :
    Canon (State.rxPut s n q f).mb.w0 (State.rxPut s n q f).mb.w2 := by
  unfold State.rxPut
  (try simp only [])
  repeat' first
    | (simp +contextual (maxDischargeDepth := 30) [h, foldl_canon, -List.foldl_reverse]; done)
    | split
    | (refine foldl_canon _ _ _ (fun _ _ h => ?_) ?_)
    | (dsimp only)

@[simp] theorem State.rxTake_canon (s : State) (n : Fin 4) (q : Nat) (h : Canon s.mb.w0 s.mb.w2) :
    Canon (State.rxTake s n q).mb.w0 (State.rxTake s n q).mb.w2 := by simp [State.rxTake, h]

@[simp] theorem State.igmpUpdate_canon (s : State) (n : Fin 4) (h : Canon s.mb.w0 s.mb.w2) :
    Canon (State.igmpUpdate s n).mb.w0 (State.igmpUpdate s n).mb.w2 := by
  unfold State.igmpUpdate
  (try simp only [])
  repeat' first
    | (simp +contextual (maxDischargeDepth := 30) [h, foldl_canon, -List.foldl_reverse]; done)
    | split
    | (refine foldl_canon _ _ _ (fun _ _ h => ?_) ?_)
    | (dsimp only)

@[simp] theorem State.igmpAll_canon (s : State) (h : Canon s.mb.w0 s.mb.w2) :
    Canon (State.igmpAll s).mb.w0 (State.igmpAll s).mb.w2 := by
  unfold State.igmpAll
  (try simp only [])
  repeat' first
    | (simp +contextual (maxDischargeDepth := 30) [h, foldl_canon, -List.foldl_reverse]; done)
    | split
    | (refine foldl_canon _ _ _ (fun _ _ h => ?_) ?_)
    | (dsimp only)

@[simp] theorem State.ethReceive_canon (s : State) (x : EthRx) (h : Canon s.mb.w0 s.mb.w2) :
    Canon (State.ethReceive s x).mb.w0 (State.ethReceive s x).mb.w2 := by
  unfold State.ethReceive
  dsimp only
  repeat' split
  all_goals simp [h]

@[simp] theorem State.dropTx_canon (s : State) (n : Fin 4) (cls : Nat) (h : Canon s.mb.w0 s.mb.w2) :
    Canon (State.dropTx s n cls).mb.w0 (State.dropTx s n cls).mb.w2 := foldl_canon _ _ _ (fun _ _ h => by simp [h]) h

@[simp] theorem State.startVerify_canon (s : State) (n : Fin 4) (h : Canon s.mb.w0 s.mb.w2) :
    Canon (State.startVerify s n).mb.w0 (State.startVerify s n).mb.w2 := by
  unfold State.startVerify
  dsimp only
  split <;> simp [h]

@[simp] theorem State.ethDown_canon (s : State) (n : Fin 4) (h : Canon s.mb.w0 s.mb.w2) :
    Canon (State.ethDown s n).mb.w0 (State.ethDown s n).mb.w2 := by
  unfold State.ethDown
  (try simp only [])
  repeat' first
    | (simp +contextual (maxDischargeDepth := 30) [h, foldl_canon, -List.foldl_reverse]; done)
    | split
    | (refine foldl_canon _ _ _ (fun _ _ h => ?_) ?_)
    | (dsimp only)

@[simp] theorem State.ethUp_canon (s : State) (n : Fin 4) (speed : Nat) (h : Canon s.mb.w0 s.mb.w2) :
    Canon (State.ethUp s n speed).mb.w0 (State.ethUp s n speed).mb.w2 := by
  unfold State.ethUp
  (try simp only [])
  repeat' first
    | (simp +contextual (maxDischargeDepth := 30) [h, foldl_canon, -List.foldl_reverse]; done)
    | split
    | (refine foldl_canon _ _ _ (fun _ _ h => ?_) ?_)
    | (dsimp only)

@[simp] theorem State.setEth_canon (p : List U8) (s : State) (h : Canon s.mb.w0 s.mb.w2) :
    Canon (State.setEth p s).mb.w0 (State.setEth p s).mb.w2 := by
  unfold State.setEth
  (try simp only [])
  repeat' first
    | (simp +contextual (maxDischargeDepth := 30) [h, foldl_canon, -List.foldl_reverse]; done)
    | split
    | (refine foldl_canon _ _ _ (fun _ _ h => ?_) ?_)
    | (dsimp only)

@[simp] theorem State.setHostch_canon (s : State) (n : Fin 4) (c : HostchCfg) (h : Canon s.mb.w0 s.mb.w2) :
    Canon (State.setHostch s n c).mb.w0 (State.setHostch s n c).mb.w2 := by
  unfold State.setHostch
  dsimp only
  split <;> simp [h]

@[simp] theorem State.hcRxTail_canon (s : State) (n : Fin 4) (tail : U16) (h : Canon s.mb.w0 s.mb.w2) :
    Canon (State.hcRxTail s n tail).mb.w0 (State.hcRxTail s n tail).mb.w2 := by simp [State.hcRxTail, h]

@[simp] theorem State.hcTxTail_canon (s : State) (n : Fin 4) (tail : U16) (h : Canon s.mb.w0 s.mb.w2) :
    Canon (State.hcTxTail s n tail).mb.w0 (State.hcTxTail s n tail).mb.w2 := by simp [State.hcTxTail, h]

@[simp] theorem State.hostchIrq_canon (s : State) (n : Fin 4) (h : Canon s.mb.w0 s.mb.w2) :
    Canon (State.hostchIrq s n).mb.w0 (State.hostchIrq s n).mb.w2 := by
  unfold State.hostchIrq
  dsimp only
  repeat' split
  all_goals simp [h]

@[simp] theorem State.placeFrame_canon (s : State) (n : Fin 4) (f : PoolFrame) (parts : List (RxDesc × List U8)) (h :
    Canon s.mb.w0 s.mb.w2) : Canon (State.placeFrame s n f parts).mb.w0 (State.placeFrame s n f parts).mb.w2 := by
  unfold State.placeFrame
  (try simp only [])
  repeat' first
    | (simp +contextual (maxDischargeDepth := 30) [h, foldl_canon, -List.foldl_reverse]; done)
    | split
    | (refine foldl_canon _ _ _ (fun _ _ h => ?_) ?_)
    | (dsimp only)

@[simp] theorem State.txWriteBack_canon (s : State) (n : Fin 4) (ds : List TxDesc) (error : Bool) (h :
    Canon s.mb.w0 s.mb.w2) :
        Canon (State.txWriteBack s n ds error).mb.w0 (State.txWriteBack s n ds error).mb.w2 := foldl_canon _ _ _
            (fun _ _ h => by simp [h]) h

@[simp] theorem State.raisePtp_canon (s : State) (n : Fin 4) (h : Canon s.mb.w0 s.mb.w2) :
    Canon (State.raisePtp s n).mb.w0 (State.raisePtp s n).mb.w2 := by simp [State.raisePtp, h]

@[simp] theorem State.ptpTo_canon (s : State) (n : Fin 4) (st : Nat) (h : Canon s.mb.w0 s.mb.w2) :
    Canon (State.ptpTo s n st).mb.w0 (State.ptpTo s n st).mb.w2 := by
  unfold State.ptpTo
  split <;> simp [h]

@[simp] theorem State.setParent_canon (s : State) (p : Option (U64 × U16 × PtpData)) (n : Fin 4) (h :
    Canon s.mb.w0 s.mb.w2) : Canon (State.setParent s p n).mb.w0 (State.setParent s p n).mb.w2 := by
  unfold State.setParent
  dsimp only
  repeat' split
  all_goals simp [h]

@[simp] theorem State.takeRecommendation_canon (best : Option (Fin 4 × Foreign)) (s : State) (n : Fin 4) (h :
    Canon s.mb.w0 s.mb.w2) : Canon (State.takeRecommendation best s n).mb.w0 (State.takeRecommendation best s n).mb.w2 := by
  unfold State.takeRecommendation
  split <;> simp [h]

@[simp] theorem State.bmca_canon (s : State) (h : Canon s.mb.w0 s.mb.w2) :
    Canon (State.bmca s).mb.w0 (State.bmca s).mb.w2 := by
  unfold State.bmca
  (try simp only [])
  repeat' first
    | (simp +contextual (maxDischargeDepth := 30) [h, foldl_canon, -List.foldl_reverse]; done)
    | split
    | (refine foldl_canon _ _ _ (fun _ _ h => ?_) ?_)
    | (dsimp only)

@[simp] theorem State.ptpSample_canon (s : State) (n : Fin 4) (t1 : Int) (t2 : Int) (h : Canon s.mb.w0 s.mb.w2) :
    Canon (State.ptpSample s n t1 t2).mb.w0 (State.ptpSample s n t1 t2).mb.w2 := by
  unfold State.ptpSample
  (try simp only [])
  repeat' first
    | (simp +contextual (maxDischargeDepth := 30) [h, foldl_canon, -List.foldl_reverse]; done)
    | split
    | (refine foldl_canon _ _ _ (fun _ _ h => ?_) ?_)
    | (dsimp only)

@[simp] theorem State.ptpDelay_canon (s : State) (d : Int) (h : Canon s.mb.w0 s.mb.w2) :
    Canon (State.ptpDelay s d).mb.w0 (State.ptpDelay s d).mb.w2 := by simp [State.ptpDelay, h]

@[simp] theorem State.peerDelay_canon (s : State) (n : Fin 4) (t1 : Int) (t4 : Int) (turn : Int) (corr : Int) (h :
    Canon s.mb.w0 s.mb.w2) :
        Canon (State.peerDelay s n t1 t4 turn corr).mb.w0
            (State.peerDelay s n t1 t4 turn corr).mb.w2 := by simp [State.peerDelay, h]

@[simp] theorem State.setPtp_canon (p : List U8) (s : State) (h : Canon s.mb.w0 s.mb.w2) :
    Canon (State.setPtp p s).mb.w0 (State.setPtp p s).mb.w2 := by
  unfold State.setPtp
  (try simp only [])
  repeat' first
    | (simp +contextual (maxDischargeDepth := 30) [h, foldl_canon, -List.foldl_reverse]; done)
    | split
    | (refine foldl_canon _ _ _ (fun _ _ h => ?_) ?_)
    | (dsimp only)

theorem State.ptpRead_canon (s : State) (n : Fin 4) (f : Int → State → State)
    (hf : ∀ t2 t, Canon t.mb.w0 t.mb.w2 → Canon (f t2 t).mb.w0 (f t2 t).mb.w2) (h : Canon s.mb.w0 s.mb.w2) :
    Canon (s.ptpRead n f).mb.w0 (s.ptpRead n f).mb.w2 := by
  unfold State.ptpRead
  dsimp only
  split
  · exact hf _ _ (by simp [h])
  · simp [h]

@[simp] theorem State.streamBack_canon (s : State) (video : Bool) (i : Nat) (was : Media) (h :
    Canon s.mb.w0 s.mb.w2) :
        Canon (State.streamBack s video i was).mb.w0 (State.streamBack s video i was).mb.w2 := by simp [State.streamBack, h]

@[simp] theorem State.modAes_canon (s : State) (i : Fin 16) (f : Media → Media) (h : Canon s.mb.w0 s.mb.w2) :
    Canon (State.modAes s i f).mb.w0 (State.modAes s i f).mb.w2 := by simp [State.modAes, h]

@[simp] theorem State.tapSample_canon (s : State) (i : Fin 16) (rate : Nat) (k : Nat) (vals : List Int) (h :
    Canon s.mb.w0 s.mb.w2) : Canon (State.tapSample s i rate k vals).mb.w0 (State.tapSample s i rate k vals).mb.w2 := by
  unfold State.tapSample
  (try simp only [])
  repeat' first
    | (simp +contextual (maxDischargeDepth := 30) [h, foldl_canon, -List.foldl_reverse]; done)
    | split
    | (refine foldl_canon _ _ _ (fun _ _ h => ?_) ?_)
    | (dsimp only)

@[simp] theorem State.modVideo_canon (s : State) (i : Fin 8) (f : Media → Media) (h : Canon s.mb.w0 s.mb.w2) :
    Canon (State.modVideo s i f).mb.w0 (State.modVideo s i f).mb.w2 := by simp [State.modVideo, h]

@[simp] theorem State.videoAbandon_canon (s : State) (i : Fin 8) (h : Canon s.mb.w0 s.mb.w2) :
    Canon (State.videoAbandon s i).mb.w0 (State.videoAbandon s i).mb.w2 := by simp [State.videoAbandon, h]

@[simp] theorem State.videoBegin_canon (s : State) (i : Fin 8) (p : VideoPacket) (at_ : Int) (h : Canon s.mb.w0 s.mb.w2) :
    Canon (State.videoBegin s i p at_).mb.w0 (State.videoBegin s i p at_).mb.w2 := by
  unfold State.videoBegin
  (try simp only [])
  repeat' first
    | (simp +contextual (maxDischargeDepth := 30) [h, foldl_canon, -List.foldl_reverse]; done)
    | split
    | (refine foldl_canon _ _ _ (fun _ _ h => ?_) ?_)
    | (dsimp only)

@[simp] theorem State.videoPacket_canon (s : State) (i : Fin 8) (p : VideoPacket) (at_ : Int) (h : Canon s.mb.w0 s.mb.w2) :
    Canon (State.videoPacket s i p at_).mb.w0 (State.videoPacket s i p at_).mb.w2 := by
  unfold State.videoPacket
  (try simp only [])
  repeat' first
    | (simp +contextual (maxDischargeDepth := 30) [h, foldl_canon, -List.foldl_reverse]; done)
    | split
    | (refine foldl_canon _ _ _ (fun _ _ h => ?_) ?_)
    | (dsimp only)

@[simp] theorem State.setStream_canon (p : List U8) (s : State) (h : Canon s.mb.w0 s.mb.w2) :
    Canon (State.setStream p s).mb.w0 (State.setStream p s).mb.w2 := by
  unfold State.setStream
  (try simp only [])
  repeat' first
    | (simp +contextual (maxDischargeDepth := 30) [h, foldl_canon, -List.foldl_reverse]; done)
    | split
    | (refine foldl_canon _ _ _ (fun _ _ h => ?_) ?_)
    | (dsimp only)

@[simp] theorem State.modPair_canon (s : State) (p : Fin 32) (f : Pair → Pair) (h : Canon s.mb.w0 s.mb.w2) :
    Canon (State.modPair s p f).mb.w0 (State.modPair s p f).mb.w2 := by simp [State.modPair, h]

@[simp] theorem State.portLeads_canon (s : State) (h : Canon s.mb.w0 s.mb.w2) :
    Canon (State.portLeads s).mb.w0 (State.portLeads s).mb.w2 := by
  unfold State.portLeads
  (try simp only [])
  repeat' first
    | (simp +contextual (maxDischargeDepth := 30) [h, foldl_canon, -List.foldl_reverse]; done)
    | split
    | (refine foldl_canon _ _ _ (fun _ _ h => ?_) ?_)
    | (dsimp only)

@[simp] theorem State.pairSent_canon (s : State) (p : Fin 32) (m : U32) (late : Bool) (n : Nat := 1) (h : Canon s.mb.w0 s.mb.w2) :
    Canon (State.pairSent s p m late n).mb.w0 (State.pairSent s p m late n).mb.w2 := by
  unfold State.pairSent
  (try simp only [])
  repeat' first
    | (simp +contextual (maxDischargeDepth := 30) [h, foldl_canon, -List.foldl_reverse]; done)
    | split
    | (refine foldl_canon _ _ _ (fun _ _ h => ?_) ?_)
    | (dsimp only)

@[simp] theorem State.dmxBegin_canon (s : State) (p : Fin 32) (frame : Option U32) (slots : List U8) (h :
    Canon s.mb.w0 s.mb.w2) :
        Canon (State.dmxBegin s p frame slots).mb.w0 (State.dmxBegin s p frame slots).mb.w2 := by simp [State.dmxBegin, h]

@[simp] theorem State.dmxIdle_canon (s : State) (p : Fin 32) (r : Route) (d : Nat) (h : Canon s.mb.w0 s.mb.w2) :
    Canon (State.dmxIdle s p r d).mb.w0 (State.dmxIdle s p r d).mb.w2 := by
  unfold State.dmxIdle
  dsimp only
  split <;> simp [h]

@[simp] theorem State.dmxStart_canon (s : State) (p : Fin 32) (h : Canon s.mb.w0 s.mb.w2) :
    Canon (State.dmxStart s p).mb.w0 (State.dmxStart s p).mb.w2 := by
  unfold State.dmxStart
  dsimp only
  repeat' split
  all_goals simp [h]

@[simp] theorem State.stringShift_canon (s : State) (pin : Fin 64) (r : Route) (x : Nat) (slots : List U8) (h : Canon s.mb.w0 s.mb.w2) :
    Canon (State.stringShift s pin r x slots).mb.w0 (State.stringShift s pin r x slots).mb.w2 := by
  unfold State.stringShift
  dsimp only
  repeat' (first | (simp [h]; done) | (refine foldl_canon _ _ _ (fun _ _ h => ?_) ?_) | exact h | split)

@[simp] theorem State.stringSend_canon (s : State) (pin : Fin 64) (mode : U8) (h : Canon s.mb.w0 s.mb.w2) :
    Canon (State.stringSend s pin mode).mb.w0 (State.stringSend s pin mode).mb.w2 := by
  unfold State.stringSend
  dsimp only
  repeat' split
  all_goals simp [h]

@[simp] theorem State.pwmLatch_canon (s : State) (pin : Fin 64) (h : Canon s.mb.w0 s.mb.w2) :
    Canon (State.pwmLatch s pin).mb.w0 (State.pwmLatch s pin).mb.w2 := by
  unfold State.pwmLatch
  (try simp only [])
  repeat' first
    | (simp +contextual (maxDischargeDepth := 30) [h, foldl_canon, -List.foldl_reverse]; done)
    | split
    | (refine foldl_canon _ _ _ (fun _ _ h => ?_) ?_)
    | (dsimp only)

@[simp] theorem State.pwmStart_canon (s : State) (pin : Fin 64) (h : Canon s.mb.w0 s.mb.w2) :
    Canon (State.pwmStart s pin).mb.w0 (State.pwmStart s pin).mb.w2 := by
  unfold State.pwmStart
  (try simp only [])
  repeat' first
    | (simp +contextual (maxDischargeDepth := 30) [h, foldl_canon, -List.foldl_reverse]; done)
    | split
    | (refine foldl_canon _ _ _ (fun _ _ h => ?_) ?_)
    | (dsimp only)

@[simp] theorem State.discover_canon (s : State) (p : Fin 32) (full : Bool) (h : Canon s.mb.w0 s.mb.w2) :
    Canon (State.discover s p full).mb.w0 (State.discover s p full).mb.w2 := by simp [State.discover, h]

@[simp] theorem State.discovered_canon (s : State) (p : Fin 32) (h : Canon s.mb.w0 s.mb.w2) :
    Canon (State.discovered s p).mb.w0 (State.discovered s p).mb.w2 := by
  unfold State.discovered
  (try simp only [])
  repeat' first
    | (simp +contextual (maxDischargeDepth := 30) [h, foldl_canon, -List.foldl_reverse]; done)
    | split
    | (refine foldl_canon _ _ _ (fun _ _ h => ?_) ?_)
    | (dsimp only)

@[simp] theorem State.discoveryCheck_canon (s : State) (p : Fin 32) (h : Canon s.mb.w0 s.mb.w2) :
    Canon (State.discoveryCheck s p).mb.w0 (State.discoveryCheck s p).mb.w2 := by simp [State.discoveryCheck, h]

@[simp] theorem State.rdmFirst_canon (s : State) (p : Fin 32) (qs : List RdmReq) (h : Canon s.mb.w0 s.mb.w2) :
    Canon (State.rdmFirst s p qs).mb.w0 (State.rdmFirst s p qs).mb.w2 := by simp [State.rdmFirst, h]

@[simp] theorem State.rdmResult_canon (s : State) (tag : U32) (r : RdmResult) (h : Canon s.mb.w0 s.mb.w2) :
    Canon (State.rdmResult s tag r).mb.w0 (State.rdmResult s tag r).mb.w2 := by simp [State.rdmResult, h]

@[simp] theorem State.badSensor_canon (s : State) (p : Fin 32) (fi : Nat) (i : Fin 4) (h : Canon s.mb.w0 s.mb.w2) :
    Canon (State.badSensor s p fi i).mb.w0 (State.badSensor s p fi i).mb.w2 := by simp [State.badSensor, h]

@[simp] theorem State.dropReading_canon (s : State) (p : Fin 32) (fi : Nat) (h : Canon s.mb.w0 s.mb.w2) :
    Canon (State.dropReading s p fi).mb.w0 (State.dropReading s p fi).mb.w2 := by simp [State.dropReading, h]

@[simp] theorem State.addReading_canon (s : State) (p : Fin 32) (fi : Nat) (v : Int) (h : Canon s.mb.w0 s.mb.w2) :
    Canon (State.addReading s p fi v).mb.w0 (State.addReading s p fi v).mb.w2 := by
  unfold State.addReading
  dsimp only
  repeat' split
  all_goals simp [h]

@[simp] theorem State.rdmEnd_canon (s : State) (p : Fin 32) (q : RdmReq) (r : Option RdmResp) (h :
    Canon s.mb.w0 s.mb.w2) : Canon (State.rdmEnd s p q r).mb.w0 (State.rdmEnd s p q r).mb.w2 := by
  unfold State.rdmEnd
  repeat' split
  all_goals simp [h]

@[simp] theorem State.rdmResponse_canon (s : State) (p : Fin 32) (r : RdmResp) (h : Canon s.mb.w0 s.mb.w2) :
    Canon (State.rdmResponse s p r).mb.w0 (State.rdmResponse s p r).mb.w2 := by
  unfold State.rdmResponse
  repeat' split
  all_goals simp [h]

@[simp] theorem State.rdmTimeout_canon (s : State) (p : Fin 32) (h : Canon s.mb.w0 s.mb.w2) :
    Canon (State.rdmTimeout s p).mb.w0 (State.rdmTimeout s p).mb.w2 := by
  unfold State.rdmTimeout
  (try simp only [])
  repeat' first
    | (simp +contextual (maxDischargeDepth := 30) [h, foldl_canon, -List.foldl_reverse]; done)
    | split
    | (refine foldl_canon _ _ _ (fun _ _ h => ?_) ?_)
    | (dsimp only)

@[simp] theorem State.rdmBegin_canon (s : State) (p : Fin 32) (q : RdmReq) (h : Canon s.mb.w0 s.mb.w2) :
    Canon (State.rdmBegin s p q).mb.w0 (State.rdmBegin s p q).mb.w2 := by
  unfold State.rdmBegin
  (try simp only [])
  repeat' first
    | (simp +contextual (maxDischargeDepth := 30) [h, foldl_canon, -List.foldl_reverse]; done)
    | split
    | (refine foldl_canon _ _ _ (fun _ _ h => ?_) ?_)
    | (dsimp only)

@[simp] theorem State.rdmStart_canon (s : State) (p : Fin 32) (h : Canon s.mb.w0 s.mb.w2) :
    Canon (State.rdmStart s p).mb.w0 (State.rdmStart s p).mb.w2 := by
  unfold State.rdmStart
  dsimp only
  repeat' split
  all_goals simp [h]

@[simp] theorem State.rdmPoll_canon (s : State) (p : Fin 32) (h : Canon s.mb.w0 s.mb.w2) :
    Canon (State.rdmPoll s p).mb.w0 (State.rdmPoll s p).mb.w2 := by
  unfold State.rdmPoll
  dsimp only
  repeat' split
  all_goals simp [h]

@[simp] theorem State.modInput_canon (s : State) (n : Nat) (f : InputEntry → InputEntry) (h : Canon s.mb.w0 s.mb.w2) :
    Canon (State.modInput s n f).mb.w0 (State.modInput s n f).mb.w2 := by simp [State.modInput, h]

@[simp] theorem State.inputAccept_canon (s : State) (n : Nat) (slots : List U8) (ago : Nat) (f : InputEntry → InputEntry) (h : Canon s.mb.w0 s.mb.w2) :
    Canon (State.inputAccept s n slots ago f).mb.w0 (State.inputAccept s n slots ago f).mb.w2 := by
  unfold State.inputAccept
  (try simp only [])
  repeat' first
    | (simp +contextual (maxDischargeDepth := 30) [h, foldl_canon, -List.foldl_reverse]; done)
    | split
    | (refine foldl_canon _ _ _ (fun _ _ h => ?_) ?_)
    | (dsimp only)

@[simp] theorem State.removeSource_canon (s : State) (n : Nat) (cid : List U8) (h : Canon s.mb.w0 s.mb.w2) :
    Canon (State.removeSource s n cid).mb.w0 (State.removeSource s n cid).mb.w2 := by simp [State.removeSource, h]

@[simp] theorem State.sacnEntry_canon (s : State) (n : Nat) (x : SacnPacket) (h : Canon s.mb.w0 s.mb.w2) :
    Canon (State.sacnEntry s n x).mb.w0 (State.sacnEntry s n x).mb.w2 := by
  unfold State.sacnEntry
  dsimp only
  repeat' split
  all_goals simp [h]

@[simp] theorem State.modSacn_canon (s : State) (n : Fin 4) (f : Sacn → Sacn) (h : Canon s.mb.w0 s.mb.w2) :
    Canon (State.modSacn s n f).mb.w0 (State.modSacn s n f).mb.w2 := by simp [State.modSacn, h]

@[simp] theorem State.sacnPacket_canon (s : State) (n : Fin 4) (kind : Nat) (uni : Nat) (seq : U8) (slots : List U8)
    (h : Canon s.mb.w0 s.mb.w2) :
        Canon (State.sacnPacket s n kind uni seq slots).mb.w0 (State.sacnPacket s n kind uni seq slots).mb.w2 := by
  unfold State.sacnPacket
  (try simp only [])
  repeat' first
    | (simp +contextual (maxDischargeDepth := 30) [h, foldl_canon, -List.foldl_reverse]; done)
    | split
    | (refine foldl_canon _ _ _ (fun _ _ h => ?_) ?_)
    | (dsimp only)

@[simp] theorem State.sacnSent_canon (s : State) (n : Fin 4) (m : U32) (late : Bool) (sync : Bool) (h :
    Canon s.mb.w0 s.mb.w2) :
        Canon (State.sacnSent s n m late sync).mb.w0 (State.sacnSent s n m late sync).mb.w2 := by simp [State.sacnSent, h]

@[simp] theorem State.sacnData_canon (s : State) (n : Fin 4) (h : Canon s.mb.w0 s.mb.w2) :
    Canon (State.sacnData s n).mb.w0 (State.sacnData s n).mb.w2 := by
  unfold State.sacnData
  (try simp only [])
  repeat' first
    | (simp +contextual (maxDischargeDepth := 30) [h, foldl_canon, -List.foldl_reverse]; done)
    | split
    | (refine foldl_canon _ _ _ (fun _ _ h => ?_) ?_)
    | (dsimp only)

@[simp] theorem State.sacnSync_canon (s : State) (n : Fin 4) (h : Canon s.mb.w0 s.mb.w2) :
    Canon (State.sacnSync s n).mb.w0 (State.sacnSync s n).mb.w2 := by
  unfold State.sacnSync
  (try simp only [])
  repeat' first
    | (simp +contextual (maxDischargeDepth := 30) [h, foldl_canon, -List.foldl_reverse]; done)
    | split
    | (refine foldl_canon _ _ _ (fun _ _ h => ?_) ?_)
    | (dsimp only)

@[simp] theorem State.sacnDiscovery_canon (s : State) (n : Fin 4) (h : Canon s.mb.w0 s.mb.w2) :
    Canon (State.sacnDiscovery s n).mb.w0 (State.sacnDiscovery s n).mb.w2 := by
  unfold State.sacnDiscovery
  (try simp only [])
  repeat' first
    | (simp +contextual (maxDischargeDepth := 30) [h, foldl_canon, -List.foldl_reverse]; done)
    | split
    | (refine foldl_canon _ _ _ (fun _ _ h => ?_) ?_)
    | (dsimp only)

@[simp] theorem State.sacnTerminate_canon (s : State) (n : Fin 4) (h : Canon s.mb.w0 s.mb.w2) :
    Canon (State.sacnTerminate s n).mb.w0 (State.sacnTerminate s n).mb.w2 := by
  unfold State.sacnTerminate
  (try simp only [])
  repeat' first
    | (simp +contextual (maxDischargeDepth := 30) [h, foldl_canon, -List.foldl_reverse]; done)
    | split
    | (refine foldl_canon _ _ _ (fun _ _ h => ?_) ?_)
    | (dsimp only)

@[simp] theorem State.setPort_canon (pl : List U8) (s : State) (h : Canon s.mb.w0 s.mb.w2) :
    Canon (State.setPort pl s).mb.w0 (State.setPort pl s).mb.w2 := by
  unfold State.setPort
  (try simp only [])
  repeat' first
    | (simp +contextual (maxDischargeDepth := 30) [h, foldl_canon, -List.foldl_reverse]; done)
    | split
    | (refine foldl_canon _ _ _ (fun _ _ h => ?_) ?_)
    | (dsimp only)

@[simp] theorem State.setInput_canon (pl : List U8) (s : State) (h : Canon s.mb.w0 s.mb.w2) :
    Canon (State.setInput pl s).mb.w0 (State.setInput pl s).mb.w2 := by
  unfold State.setInput
  (try simp only [])
  repeat' first
    | (simp +contextual (maxDischargeDepth := 30) [h, foldl_canon, -List.foldl_reverse]; done)
    | split
    | (refine foldl_canon _ _ _ (fun _ _ h => ?_) ?_)
    | (dsimp only)

@[simp] theorem State.setSacnNow_canon (p : List U8) (s : State) (h : Canon s.mb.w0 s.mb.w2) :
    Canon (State.setSacnNow p s).mb.w0 (State.setSacnNow p s).mb.w2 := by
  unfold State.setSacnNow
  split <;> simp [h]

@[simp] theorem State.setSacn_canon (p : List U8) (s : State) (h : Canon s.mb.w0 s.mb.w2) :
    Canon (State.setSacn p s).mb.w0 (State.setSacn p s).mb.w2 := by
  unfold State.setSacn
  split <;> simp [h]

@[simp] theorem canonE_onRdm (s : State) (n : Nat) (k : Fin 32 → Except Status Done) (h : ∀ i, CanonE (k i)) :
    CanonE (onRdm s n k) := by
  unfold onRdm
  repeat' (first | (refine canonE_require _ _ _ ?_) | split | (simp [h]; done))

@[simp] theorem State.showTx_canon (s : State) (sp : Fin 12) (h : Canon s.mb.w0 s.mb.w2) :
    Canon (State.showTx s sp).mb.w0 (State.showTx s sp).mb.w2 := by
  unfold State.showTx
  (try simp only [])
  repeat' first
    | (simp +contextual (maxDischargeDepth := 30) [h, foldl_canon, -List.foldl_reverse]; done)
    | split
    | (refine foldl_canon _ _ _ (fun _ _ h => ?_) ?_)
    | (dsimp only)

@[simp] theorem State.linkState_canon (s : State) (sp : Fin 12) (n : Nat) (h : Canon s.mb.w0 s.mb.w2) :
    Canon (State.linkState s sp n).mb.w0 (State.linkState s sp n).mb.w2 := by simp [State.linkState, h]

@[simp] theorem State.timeSelect_canon (s : State) (h : Canon s.mb.w0 s.mb.w2) :
    Canon (State.timeSelect s).mb.w0 (State.timeSelect s).mb.w2 := by simp [State.timeSelect, h]

@[simp] theorem State.dropOpen_canon (s : State) (sp : Fin 12) (v : Fin 5) (h : Canon s.mb.w0 s.mb.w2) :
    Canon (State.dropOpen s sp v).mb.w0 (State.dropOpen s sp v).mb.w2 := by
  unfold State.dropOpen
  (try simp only [])
  repeat' first
    | (simp +contextual (maxDischargeDepth := 30) [h, foldl_canon, -List.foldl_reverse]; done)
    | split
    | (refine foldl_canon _ _ _ (fun _ _ h => ?_) ?_)
    | (dsimp only)

@[simp] theorem State.loseTraffic_canon (s : State) (sp : Fin 12) (h : Canon s.mb.w0 s.mb.w2) :
    Canon (State.loseTraffic s sp).mb.w0 (State.loseTraffic s sp).mb.w2 := by
  unfold State.loseTraffic
  (try simp only [])
  repeat' first
    | (simp +contextual (maxDischargeDepth := 30) [h, foldl_canon, -List.foldl_reverse]; done)
    | split
    | (refine foldl_canon _ _ _ (fun _ _ h => ?_) ?_)
    | (dsimp only)

@[simp] theorem State.downCause_canon (s : State) (sp : Fin 12) (cause : Nat) (h : Canon s.mb.w0 s.mb.w2) :
    Canon (State.downCause s sp cause).mb.w0 (State.downCause s sp cause).mb.w2 := by
  unfold State.downCause
  (try simp only [])
  repeat' first
    | (simp +contextual (maxDischargeDepth := 30) [h, foldl_canon, -List.foldl_reverse]; done)
    | split
    | (refine foldl_canon _ _ _ (fun _ _ h => ?_) ?_)
    | (dsimp only)

@[simp] theorem State.linkDown_canon (s : State) (sp : Fin 12) (cause : Nat) (h : Canon s.mb.w0 s.mb.w2) :
    Canon (State.linkDown s sp cause).mb.w0 (State.linkDown s sp cause).mb.w2 := by
  unfold State.linkDown
  (try simp only [])
  repeat' first
    | (simp +contextual (maxDischargeDepth := 30) [h, foldl_canon, -List.foldl_reverse]; done)
    | split
    | (refine foldl_canon _ _ _ (fun _ _ h => ?_) ?_)
    | (dsimp only)

@[simp] theorem State.linkUp_canon (s : State) (sp : Fin 12) (h : Hello) (hc : Canon s.mb.w0 s.mb.w2) :
    Canon (State.linkUp s sp h).mb.w0 (State.linkUp s sp h).mb.w2 := by
  unfold State.linkUp
  (try simp only [])
  repeat' first
    | (simp +contextual (maxDischargeDepth := 30) [hc, foldl_canon, -List.foldl_reverse]; done)
    | split
    | (refine foldl_canon _ _ _ (fun _ _ hc => ?_) ?_)
    | (dsimp only)

@[simp] theorem State.updateLeft_canon (s : State) (m : U32) (route : Nat) (h : Canon s.mb.w0 s.mb.w2) :
    Canon (State.updateLeft s m route).mb.w0 (State.updateLeft s m route).mb.w2 := by
  unfold State.updateLeft
  dsimp only
  repeat' (first | (simp [h]; done) | (refine foldl_canon _ _ _ (fun _ _ h => ?_) ?_) | exact h | split)

@[simp] theorem State.departed_canon (s : State) (d : Departure) (h : Canon s.mb.w0 s.mb.w2) :
    Canon (State.departed s d).mb.w0 (State.departed s d).mb.w2 := by
  unfold State.departed
  dsimp only
  repeat' (first | (simp [h]; done) | (refine foldl_canon _ _ _ (fun _ _ h => ?_) ?_) | exact h | split)

@[simp] theorem State.sendCodeword_canon (s : State) (sp : Fin 12) (cw : List U8) (h : Canon s.mb.w0 s.mb.w2) :
    Canon (State.sendCodeword s sp cw).mb.w0 (State.sendCodeword s sp cw).mb.w2 := by
  unfold State.sendCodeword
  dsimp only
  repeat' (first | (simp [h]; done) | (refine foldl_canon _ _ _ (fun _ _ h => ?_) ?_) | exact h | split)

@[simp] theorem State.injectIdle_canon (s : State) (sp : Fin 12) (h : Canon s.mb.w0 s.mb.w2) :
    Canon (State.injectIdle s sp).mb.w0 (State.injectIdle s sp).mb.w2 := by
  unfold State.injectIdle
  dsimp only
  repeat' (first | (simp [h]; done) | (refine foldl_canon _ _ _ (fun _ _ h => ?_) ?_) | exact h | split)

@[simp] theorem State.laneSend_canon (s : State) (sp : Fin 12) (op : Nat) (m : LaneCtl) (h : Canon s.mb.w0 s.mb.w2) :
    Canon (State.laneSend s sp op m).mb.w0 (State.laneSend s sp op m).mb.w2 := by simp [State.laneSend, h]

@[simp] theorem State.laneAsk_canon (s : State) (sp : Fin 12) (op : Nat) (m : LaneCtl) (h : Canon s.mb.w0 s.mb.w2) :
    Canon (State.laneAsk s sp op m).mb.w0 (State.laneAsk s sp op m).mb.w2 := by simp [State.laneAsk, h]

@[simp] theorem State.laneAnswer_canon (s : State) (sp : Fin 12) (ack : Bool) (m : LaneCtl) (cw : U32) (h :
    Canon s.mb.w0 s.mb.w2) :
        Canon (State.laneAnswer s sp ack m cw).mb.w0 (State.laneAnswer s sp ack m cw).mb.w2 := by simp [State.laneAnswer, h]

@[simp] theorem State.placeGap_canon (s : State) (sp : Fin 12) (h : Canon s.mb.w0 s.mb.w2) :
    Canon (State.placeGap s sp).mb.w0 (State.placeGap s sp).mb.w2 := by
  unfold State.placeGap
  (try simp only [])
  repeat' first
    | (simp +contextual (maxDischargeDepth := 30) [h, foldl_canon, -List.foldl_reverse]; done)
    | split
    | (refine foldl_canon _ _ _ (fun _ _ h => ?_) ?_)
    | (dsimp only)

@[simp] theorem State.sleepNow_canon (s : State) (sp : Fin 12) (h : Canon s.mb.w0 s.mb.w2) :
    Canon (State.sleepNow s sp).mb.w0 (State.sleepNow s sp).mb.w2 := by simp [State.sleepNow, h]

@[simp] theorem State.showRelease_canon (s : State) (sp : Fin 12) (x : Span) (h : Canon s.mb.w0 s.mb.w2) :
    Canon (State.showRelease s sp x).mb.w0 (State.showRelease s sp x).mb.w2 := by
  unfold State.showRelease
  (try simp only [])
  repeat' first
    | (simp +contextual (maxDischargeDepth := 30) [h, foldl_canon, -List.foldl_reverse]; done)
    | split
    | (refine foldl_canon _ _ _ (fun _ _ h => ?_) ?_)
    | (dsimp only)

@[simp] theorem State.codewordBoundary_canon (s : State) (sp : Fin 12) (h : Canon s.mb.w0 s.mb.w2) :
    Canon (State.codewordBoundary s sp).mb.w0 (State.codewordBoundary s sp).mb.w2 := by
  unfold State.codewordBoundary
  (try simp only [])
  repeat' first
    | (simp +contextual (maxDischargeDepth := 30) [h, foldl_canon, -List.foldl_reverse]; done)
    | split
    | (refine foldl_canon _ _ _ (fun _ _ h => ?_) ?_)
    | (dsimp only)

@[simp] theorem State.codewordRx_canon (s : State) (sp : Fin 12) (fixed : List (Nat × U8)) (h : Canon s.mb.w0 s.mb.w2) :
    Canon (State.codewordRx s sp fixed).mb.w0 (State.codewordRx s sp fixed).mb.w2 := by
  unfold State.codewordRx
  (try simp only [])
  repeat' first
    | (simp +contextual (maxDischargeDepth := 30) [h, foldl_canon, -List.foldl_reverse]; done)
    | split
    | (refine foldl_canon _ _ _ (fun _ _ h => ?_) ?_)
    | (dsimp only)

@[simp] theorem State.codewordBad_canon (s : State) (sp : Fin 12) (h : Canon s.mb.w0 s.mb.w2) :
    Canon (State.codewordBad s sp).mb.w0 (State.codewordBad s sp).mb.w2 := by
  unfold State.codewordBad
  dsimp only
  split <;> simp [h]

@[simp] theorem State.codewordIn_canon (s : State) (sp : Fin 12) (block : List U8) (errs : List SymErr) (h : Canon s.mb.w0 s.mb.w2) :
    Canon (State.codewordIn s sp block errs).1.mb.w0 (State.codewordIn s sp block errs).1.mb.w2 := by
  unfold State.codewordIn
  dsimp only
  repeat' (first | (simp [h]; done) | (refine foldl_canon _ _ _ (fun _ _ h => ?_) ?_) | exact h | split)

@[simp] theorem State.passBlock_canon (s : State) (sp : Fin 12) (v : Fin 5) (b : Block) (r : RxMsg) (h : Canon s.mb.w0 s.mb.w2) :
    Canon (State.passBlock s sp v b r).mb.w0 (State.passBlock s sp v b r).mb.w2 := by
  unfold State.passBlock
  dsimp only
  repeat' (first | (simp [h]; done) | (refine foldl_canon _ _ _ (fun _ _ h => ?_) ?_) | exact h | split)

@[simp] theorem State.takeIn_canon (s : State) (sp : Fin 12) (v : Fin 5) (b : Block) (h : Canon s.mb.w0 s.mb.w2) :
    Canon (State.takeIn s sp v b).mb.w0 (State.takeIn s sp v b).mb.w2 := by
  unfold State.takeIn
  (try simp only [])
  repeat' first
    | (simp +contextual (maxDischargeDepth := 30) [h, foldl_canon, -List.foldl_reverse]; done)
    | split
    | (refine foldl_canon _ _ _ (fun _ _ h => ?_) ?_)
    | (dsimp only)

@[simp] theorem State.dataBlock_canon (s : State) (sp : Fin 12) (b : Block) (h : Canon s.mb.w0 s.mb.w2) :
    Canon (State.dataBlock s sp b).mb.w0 (State.dataBlock s sp b).mb.w2 := by
  unfold State.dataBlock
  (try simp only [])
  repeat' first
    | (simp +contextual (maxDischargeDepth := 30) [h, foldl_canon, -List.foldl_reverse]; done)
    | split
    | (refine foldl_canon _ _ _ (fun _ _ h => ?_) ?_)
    | (dsimp only)

@[simp] theorem State.vc1Resend_canon (s : State) (sp : Fin 12) (lseq : Option U16) (h : Canon s.mb.w0 s.mb.w2) :
    Canon (State.vc1Resend s sp lseq).mb.w0 (State.vc1Resend s sp lseq).mb.w2 := by
  unfold State.vc1Resend
  dsimp only
  repeat' split
  all_goals simp [h]

@[simp] theorem State.parentCheck_canon (s₀ : State) (sp : Fin 12) (dist : U16) (h : Canon s₀.mb.w0 s₀.mb.w2) :
    Canon (State.parentCheck s₀ sp dist).mb.w0 (State.parentCheck s₀ sp dist).mb.w2 := by
  unfold State.parentCheck
  (try simp only [])
  repeat' first
    | (simp +contextual (maxDischargeDepth := 30) [h, foldl_canon, -List.foldl_reverse]; done)
    | split
    | (refine foldl_canon _ _ _ (fun _ _ h => ?_) ?_)
    | (dsimp only)

@[simp] theorem State.timeBlock_canon (s : State) (sp : Fin 12) (t : TimeBlock) (h : Canon s.mb.w0 s.mb.w2) :
    Canon (State.timeBlock s sp t).mb.w0 (State.timeBlock s sp t).mb.w2 := by
  unfold State.timeBlock
  (try simp only [])
  repeat' first
    | (simp +contextual (maxDischargeDepth := 30) [h, foldl_canon, -List.foldl_reverse]; done)
    | split
    | (refine foldl_canon _ _ _ (fun _ _ h => ?_) ?_)
    | (dsimp only)

@[simp] theorem State.beginAttempt_canon (s : State) (sp : Fin 12) (h : Canon s.mb.w0 s.mb.w2) :
    Canon (State.beginAttempt s sp).mb.w0 (State.beginAttempt s sp).mb.w2 := by
  unfold State.beginAttempt
  (try simp only [])
  repeat' first
    | (simp +contextual (maxDischargeDepth := 30) [h, foldl_canon, -List.foldl_reverse]; done)
    | split
    | (refine foldl_canon _ _ _ (fun _ _ h => ?_) ?_)
    | (dsimp only)

@[simp] theorem State.failAttempt_canon (s : State) (sp : Fin 12) (cause : Nat) (h : Canon s.mb.w0 s.mb.w2) :
    Canon (State.failAttempt s sp cause).mb.w0 (State.failAttempt s sp cause).mb.w2 := by
  unfold State.failAttempt
  (try simp only [])
  repeat' first
    | (simp +contextual (maxDischargeDepth := 30) [h, foldl_canon, -List.foldl_reverse]; done)
    | split
    | (refine foldl_canon _ _ _ (fun _ _ h => ?_) ?_)
    | (dsimp only)

@[simp] theorem State.abortAttempt_canon (s : State) (sp : Fin 12) (h : Canon s.mb.w0 s.mb.w2) :
    Canon (State.abortAttempt s sp).mb.w0 (State.abortAttempt s sp).mb.w2 := by
  unfold State.abortAttempt
  (try simp only [])
  repeat' first
    | (simp +contextual (maxDischargeDepth := 30) [h, foldl_canon, -List.foldl_reverse]; done)
    | split
    | (refine foldl_canon _ _ _ (fun _ _ h => ?_) ?_)
    | (dsimp only)

@[simp] theorem State.trainingFrame_canon (s : State) (sp : Fin 12) (f : TrainFrame) (h : Canon s.mb.w0 s.mb.w2) :
    Canon (State.trainingFrame s sp f).mb.w0 (State.trainingFrame s sp f).mb.w2 := by
  unfold State.trainingFrame
  (try simp only [])
  repeat' first
    | (simp +contextual (maxDischargeDepth := 30) [h, foldl_canon, -List.foldl_reverse]; done)
    | split
    | (refine foldl_canon _ _ _ (fun _ _ h => ?_) ?_)
    | (dsimp only)

@[simp] theorem State.stepPass_canon (s : State) (sp : Fin 12) (h : Canon s.mb.w0 s.mb.w2) :
    Canon (State.stepPass s sp).mb.w0 (State.stepPass s sp).mb.w2 := by simp [State.stepPass, h]

@[simp] theorem State.stepEnd_canon (s : State) (sp : Fin 12) (r : StepResult) (h : Canon s.mb.w0 s.mb.w2) :
    Canon (State.stepEnd s sp r).mb.w0 (State.stepEnd s sp r).mb.w2 := by
  unfold State.stepEnd
  (try simp only [])
  repeat' first
    | (simp +contextual (maxDischargeDepth := 30) [h, foldl_canon, -List.foldl_reverse]; done)
    | split
    | (refine foldl_canon _ _ _ (fun _ _ h => ?_) ?_)
    | (dsimp only)

@[simp] theorem State.helloBlock_canon (s : State) (sp : Fin 12) (h : Hello) (hc : Canon s.mb.w0 s.mb.w2) :
    Canon (State.helloBlock s sp h).mb.w0 (State.helloBlock s sp h).mb.w2 := by
  unfold State.helloBlock
  (try simp only [])
  repeat' first
    | (simp +contextual (maxDischargeDepth := 30) [hc, foldl_canon, -List.foldl_reverse]; done)
    | split
    | (refine foldl_canon _ _ _ (fun _ _ hc => ?_) ?_)
    | (dsimp only)

@[simp] theorem State.abandonRotation_canon (s : State) (sp : Fin 12) (h : Canon s.mb.w0 s.mb.w2) :
    Canon (State.abandonRotation s sp).mb.w0 (State.abandonRotation s sp).mb.w2 := by
  unfold State.abandonRotation
  split <;> simp [h]

@[simp] theorem State.beginRotation_canon (s : State) (sp : Fin 12) (j : Nat) (h : Canon s.mb.w0 s.mb.w2) :
    Canon (State.beginRotation s sp j).mb.w0 (State.beginRotation s sp j).mb.w2 := by
  unfold State.beginRotation
  dsimp only
  repeat' split
  all_goals simp [h]

@[simp] theorem State.askGap_canon (s : State) (sp : Fin 12) (h : Canon s.mb.w0 s.mb.w2) :
    Canon (State.askGap s sp).mb.w0 (State.askGap s sp).mb.w2 := by
  unfold State.askGap
  dsimp only
  repeat' split
  all_goals simp [h]

@[simp] theorem State.nextCalibration_canon (s : State) (sp : Fin 12) (h : Canon s.mb.w0 s.mb.w2) :
    Canon (State.nextCalibration s sp).mb.w0 (State.nextCalibration s sp).mb.w2 := by
  unfold State.nextCalibration
  dsimp only
  repeat' (first | (simp [h]; done) | (refine foldl_canon _ _ _ (fun _ _ h => ?_) ?_) | exact h | split)

@[simp] theorem State.needCalibration_canon (s : State) (sp : Fin 12) (p : Nat) (h : Canon s.mb.w0 s.mb.w2) :
    Canon (State.needCalibration s sp p).mb.w0 (State.needCalibration s sp p).mb.w2 := by
  unfold State.needCalibration
  (try simp only [])
  repeat' first
    | (simp +contextual (maxDischargeDepth := 30) [h, foldl_canon, -List.foldl_reverse]; done)
    | split
    | (refine foldl_canon _ _ _ (fun _ _ h => ?_) ?_)
    | (dsimp only)

@[simp] theorem State.receiverGap_canon (s : State) (sp : Fin 12) (h : Canon s.mb.w0 s.mb.w2) :
    Canon (State.receiverGap s sp).mb.w0 (State.receiverGap s sp).mb.w2 := by
  unfold State.receiverGap
  (try simp only [])
  repeat' first
    | (simp +contextual (maxDischargeDepth := 30) [h, foldl_canon, -List.foldl_reverse]; done)
    | split
    | (refine foldl_canon _ _ _ (fun _ _ h => ?_) ?_)
    | (dsimp only)

@[simp] theorem State.rotationAck_canon (s : State) (sp : Fin 12) (r : Rotation) (op : Nat) (cw : U32) (h :
    Canon s.mb.w0 s.mb.w2) : Canon (State.rotationAck s sp r op cw).mb.w0 (State.rotationAck s sp r op cw).mb.w2 := by
  unfold State.rotationAck
  repeat' split
  all_goals simp [h]

@[simp] theorem State.sweepDone_canon (s : State) (sp : Fin 12) (t : Taps) (h : Canon s.mb.w0 s.mb.w2) :
    Canon (State.sweepDone s sp t).mb.w0 (State.sweepDone s sp t).mb.w2 := by
  unfold State.sweepDone
  (try simp only [])
  repeat' first
    | (simp +contextual (maxDischargeDepth := 30) [h, foldl_canon, -List.foldl_reverse]; done)
    | split
    | (refine foldl_canon _ _ _ (fun _ _ h => ?_) ?_)
    | (dsimp only)

@[simp] theorem State.compareDone_canon (s : State) (sp : Fin 12) (equal : Bool) (h : Canon s.mb.w0 s.mb.w2) :
    Canon (State.compareDone s sp equal).mb.w0 (State.compareDone s sp equal).mb.w2 := by
  unfold State.compareDone
  repeat' split
  all_goals simp [h]

@[simp] theorem State.swapLane_canon (s : State) (sp : Fin 12) (h : Canon s.mb.w0 s.mb.w2) :
    Canon (State.swapLane s sp).mb.w0 (State.swapLane s sp).mb.w2 := by
  unfold State.swapLane
  repeat' split
  all_goals simp [h]

@[simp] theorem State.raiseLane_canon (s : State) (sp : Fin 12) (dir : Nat) (lane : Nat) (use : Nat) (h :
    Canon s.mb.w0 s.mb.w2) :
        Canon (State.raiseLane s sp dir lane use).mb.w0
            (State.raiseLane s sp dir lane use).mb.w2 := by simp [State.raiseLane, h]

@[simp] theorem State.laneFault_canon (s : State) (sp : Fin 12) (j : Nat) (p : Nat) (h : Canon s.mb.w0 s.mb.w2) :
    Canon (State.laneFault s sp j p).mb.w0 (State.laneFault s sp j p).mb.w2 := by
  unfold State.laneFault
  (try simp only [])
  repeat' first
    | (simp +contextual (maxDischargeDepth := 30) [h, foldl_canon, -List.foldl_reverse]; done)
    | split
    | (refine foldl_canon _ _ _ (fun _ _ h => ?_) ?_)
    | (dsimp only)

@[simp] theorem State.laneLost_canon (s : State) (sp : Fin 12) (p : Nat) (h : Canon s.mb.w0 s.mb.w2) :
    Canon (State.laneLost s sp p).mb.w0 (State.laneLost s sp p).mb.w2 := by
  unfold State.laneLost
  (try simp only [])
  repeat' first
    | (simp +contextual (maxDischargeDepth := 30) [h, foldl_canon, -List.foldl_reverse]; done)
    | split
    | (refine foldl_canon _ _ _ (fun _ _ h => ?_) ?_)
    | (dsimp only)

@[simp] theorem State.acceptSleep_canon (s : State) (sp : Fin 12) (m : LaneCtl) (h : Canon s.mb.w0 s.mb.w2) :
    Canon (State.acceptSleep s sp m).mb.w0 (State.acceptSleep s sp m).mb.w2 := by simp [State.acceptSleep, h]

@[simp] theorem State.sleepRequest_canon (s : State) (sp : Fin 12) (m : LaneCtl) (h : Canon s.mb.w0 s.mb.w2) :
    Canon (State.sleepRequest s sp m).mb.w0 (State.sleepRequest s sp m).mb.w2 := by
  unfold State.sleepRequest
  dsimp only
  repeat' split
  all_goals simp [h]

@[simp] theorem State.txRequest_canon (s : State) (sp : Fin 12) (m : LaneCtl) (ok : Bool) (cw : Bool)
    (f : U32 → Span → Span) (h : Canon s.mb.w0 s.mb.w2) :
        Canon (State.txRequest s sp m ok cw f).mb.w0 (State.txRequest s sp m ok cw f).mb.w2 := by
  unfold State.txRequest
  (try simp only [])
  repeat' first
    | (simp +contextual (maxDischargeDepth := 30) [h, foldl_canon, -List.foldl_reverse]; done)
    | split
    | (refine foldl_canon _ _ _ (fun _ _ h => ?_) ?_)
    | (dsimp only)

@[simp] theorem State.txLaneFault_canon (s : State) (sp : Fin 12) (m : LaneCtl) (h : Canon s.mb.w0 s.mb.w2) :
    Canon (State.txLaneFault s sp m).mb.w0 (State.txLaneFault s sp m).mb.w2 := by
  unfold State.txLaneFault
  dsimp only
  split <;> simp [h]

@[simp] theorem State.txCalGap_canon (s : State) (sp : Fin 12) (m : LaneCtl) (h : Canon s.mb.w0 s.mb.w2) :
    Canon (State.txCalGap s sp m).mb.w0 (State.txCalGap s sp m).mb.w2 := by
  unfold State.txCalGap
  (try simp only [])
  repeat' first
    | (simp +contextual (maxDischargeDepth := 30) [h, foldl_canon, -List.foldl_reverse]; done)
    | split
    | (refine foldl_canon _ _ _ (fun _ _ h => ?_) ?_)
    | (dsimp only)

@[simp] theorem State.laneAck_canon (s : State) (sp : Fin 12) (m : LaneCtl) (h : Canon s.mb.w0 s.mb.w2) :
    Canon (State.laneAck s sp m).mb.w0 (State.laneAck s sp m).mb.w2 := by
  unfold State.laneAck
  (try simp only [])
  repeat' first
    | (simp +contextual (maxDischargeDepth := 30) [h, foldl_canon, -List.foldl_reverse]; done)
    | split
    | (refine foldl_canon _ _ _ (fun _ _ h => ?_) ?_)
    | (dsimp only)

@[simp] theorem State.giveUp_canon (s : State) (sp : Fin 12) (c : CtlReq) (h : Canon s.mb.w0 s.mb.w2) :
    Canon (State.giveUp s sp c).mb.w0 (State.giveUp s sp c).mb.w2 := by
  unfold State.giveUp
  (try simp only [])
  repeat' first
    | (simp +contextual (maxDischargeDepth := 30) [h, foldl_canon, -List.foldl_reverse]; done)
    | split
    | (refine foldl_canon _ _ _ (fun _ _ h => ?_) ?_)
    | (dsimp only)

@[simp] theorem State.laneNak_canon (s : State) (sp : Fin 12) (m : LaneCtl) (h : Canon s.mb.w0 s.mb.w2) :
    Canon (State.laneNak s sp m).mb.w0 (State.laneNak s sp m).mb.w2 := by
  unfold State.laneNak
  repeat' split
  all_goals simp [h]

@[simp] theorem State.laneTimeout_canon (s : State) (sp : Fin 12) (h : Canon s.mb.w0 s.mb.w2) :
    Canon (State.laneTimeout s sp).mb.w0 (State.laneTimeout s sp).mb.w2 := by
  unfold State.laneTimeout
  repeat' split
  all_goals simp [h]

@[simp] theorem State.gapStart_canon (s : State) (sp : Fin 12) (tx : Bool) (taps : List (Fin 5 × Taps)) (h : Canon s.mb.w0 s.mb.w2) :
    Canon (State.gapStart s sp tx taps).mb.w0 (State.gapStart s sp tx taps).mb.w2 := by
  unfold State.gapStart
  (try simp only [])
  repeat' first
    | (simp +contextual (maxDischargeDepth := 30) [h, foldl_canon, -List.foldl_reverse]; done)
    | split
    | (refine foldl_canon _ _ _ (fun _ _ h => ?_) ?_)
    | (dsimp only)

@[simp] theorem State.gapDefer_canon (s : State) (sp : Fin 12) (h : Canon s.mb.w0 s.mb.w2) :
    Canon (State.gapDefer s sp).mb.w0 (State.gapDefer s sp).mb.w2 := by
  unfold State.gapDefer
  dsimp only
  repeat' split
  all_goals simp [h]

@[simp] theorem State.spanWake_canon (s : State) (sp : Fin 12) (h : Canon s.mb.w0 s.mb.w2) :
    Canon (State.spanWake s sp).mb.w0 (State.spanWake s sp).mb.w2 := by
  unfold State.spanWake
  (try simp only [])
  repeat' first
    | (simp +contextual (maxDischargeDepth := 30) [h, foldl_canon, -List.foldl_reverse]; done)
    | split
    | (refine foldl_canon _ _ _ (fun _ _ h => ?_) ?_)
    | (dsimp only)

@[simp] theorem State.wakeDrift_canon (s : State) (sp : Fin 12) (h : Canon s.mb.w0 s.mb.w2) :
    Canon (State.wakeDrift s sp).mb.w0 (State.wakeDrift s sp).mb.w2 := by
  unfold State.wakeDrift
  (try simp only [])
  repeat' first
    | (simp +contextual (maxDischargeDepth := 30) [h, foldl_canon, -List.foldl_reverse]; done)
    | split
    | (refine foldl_canon _ _ _ (fun _ _ h => ?_) ?_)
    | (dsimp only)

@[simp] theorem State.spanMode_canon (s : State) (sp : Fin 12) (old : Nat) (h : Canon s.mb.w0 s.mb.w2) :
    Canon (State.spanMode s sp old).mb.w0 (State.spanMode s sp old).mb.w2 := by
  unfold State.spanMode
  (try simp only [])
  repeat' first
    | (simp +contextual (maxDischargeDepth := 30) [h, foldl_canon, -List.foldl_reverse]; done)
    | split
    | (refine foldl_canon _ _ _ (fun _ _ h => ?_) ?_)
    | (dsimp only)

theorem State.onBlock_canon (s : State) (sp : Fin 12) (errs : List SymErr) (block : List U8) (f : State → State)
    (hf : ∀ t, Canon t.mb.w0 t.mb.w2 → Canon (f t).mb.w0 (f t).mb.w2) (h : Canon s.mb.w0 s.mb.w2) :
    Canon (s.onBlock sp errs block f).mb.w0 (s.onBlock sp errs block f).mb.w2 := by
  unfold State.onBlock
  dsimp only
  split
  · exact hf _ (by simp [h])
  · simp [h]

theorem State.onUp_canon (s : State) (sp : Fin 12) (errs : List SymErr) (block : List U8) (f : State → State)
    (hf : ∀ t, Canon t.mb.w0 t.mb.w2 → Canon (f t).mb.w0 (f t).mb.w2) (h : Canon s.mb.w0 s.mb.w2) :
    Canon (s.onUp sp errs block f).mb.w0 (s.onUp sp errs block f).mb.w2 := by
  unfold State.onUp
  exact State.onBlock_canon _ _ _ _ _ (fun t ht => by split <;> simp [hf, ht]) h

@[simp] theorem State.laneCtl_canon (s : State) (sp : Fin 12) (f : State → State) (h :
    Canon s.mb.w0 s.mb.w2) (hf : ∀ t, Canon t.mb.w0 t.mb.w2 → Canon (f t).mb.w0 (f t).mb.w2) :
    Canon (s.laneCtl sp f).mb.w0 (s.laneCtl sp f).mb.w2 := by
  unfold State.laneCtl
  split <;> simp [hf, h]

@[simp] theorem canonE_onSpan (n : Nat) (k : Fin 12 → Except Status Done) (h : ∀ i, CanonE (k i)) :
    CanonE (onSpan n k) := by
  unfold onSpan; split <;> simp [h]

@[simp] theorem State.setSpan_canon (p : List U8) (s : State) (h : Canon s.mb.w0 s.mb.w2) :
    Canon (State.setSpan p s).mb.w0 (State.setSpan p s).mb.w2 := by
  unfold State.setSpan
  split <;> simp [h]

@[simp] theorem canonE_onLane (p : List U8) (k : Fin 12 → Fin 5 → Except Status Done) (h : ∀ i j, CanonE (k i j)) :
    CanonE (onLane p k) := by
  unfold onLane
  refine canonE_onSpan _ _ fun i => ?_
  split <;> simp [h]

@[simp] theorem State.fixRoot_canon (s : State) (h : Canon s.mb.w0 s.mb.w2) :
    Canon (State.fixRoot s).mb.w0 (State.fixRoot s).mb.w2 := by simp [State.fixRoot, h]

theorem State.memberChange_canon (s : State) (f : State → State)
    (hf : ∀ t, Canon t.mb.w0 t.mb.w2 → Canon (f t).mb.w0 (f t).mb.w2) (h : Canon s.mb.w0 s.mb.w2) :
    Canon (s.memberChange f).mb.w0 (s.memberChange f).mb.w2 := by
  have k := hf s h
  unfold State.memberChange
  dsimp only
  repeat' (first | (simp (maxDischargeDepth := 30) [k]; done) | split)

@[simp] theorem State.dropMembers_canon (s : State) (p : Member → Bool) (h : Canon s.mb.w0 s.mb.w2) :
    Canon (State.dropMembers s p).mb.w0 (State.dropMembers s p).mb.w2 := by
  unfold State.dropMembers
  repeat' first
    | split
    | exact h
    | (simp (maxDischargeDepth := 30) [h]; done)
    | (dsimp only)
    | (refine foldl_canon _ _ _ (fun _ _ h => ?_) ?_)

@[simp] theorem State.raiseMerge_canon (s : State) (a : U32) (b : U32) (frame : U32) (kind : Nat) (h :
    Canon s.mb.w0 s.mb.w2) :
        Canon (State.raiseMerge s a b frame kind).mb.w0
            (State.raiseMerge s a b frame kind).mb.w2 := by simp [State.raiseMerge, h]

@[simp] theorem State.takeRoot_canon (s : State) (low high : U32) (gen : U16) (h : Canon s.mb.w0 s.mb.w2) :
    Canon (State.takeRoot s low high gen).mb.w0 (State.takeRoot s low high gen).mb.w2 := by
  unfold State.takeRoot
  (try simp only [])
  repeat' first
    | (simp +contextual (maxDischargeDepth := 30) [h, foldl_canon, -List.foldl_reverse]; done)
    | split
    | (refine foldl_canon _ _ _ (fun _ _ h => ?_) ?_)
    | (dsimp only)

@[simp] theorem State.joinRoots_canon (s : State) (low high : U32) (gen : U16) (h : Canon s.mb.w0 s.mb.w2) :
    Canon (State.joinRoots s low high gen).mb.w0 (State.joinRoots s low high gen).mb.w2 :=
  State.floodMember_canon _ (State.raiseDomain_canon _ (State.raiseMerge_canon _ _ _ _ _ (State.takeRoot_canon _ _ _ _ h)))

@[simp] theorem State.seeDomain_canon (s : State) (e : Member) (h : Canon s.mb.w0 s.mb.w2) :
    Canon (State.seeDomain s e).mb.w0 (State.seeDomain s e).mb.w2 := by
  unfold State.seeDomain
  simp only []
  repeat' first
    | (simp [h]; done)
    | split

@[simp] theorem State.mergeMsg_canon (s : State) (g : Merge) (h : Canon s.mb.w0 s.mb.w2) :
    Canon (State.mergeMsg s g).mb.w0 (State.mergeMsg s g).mb.w2 := by
  unfold State.mergeMsg
  (try simp only [])
  repeat' first
    | (simp +contextual (maxDischargeDepth := 30) [h, foldl_canon, -List.foldl_reverse]; done)
    | split
    | (refine foldl_canon _ _ _ (fun _ _ h => ?_) ?_)
    | (dsimp only)

@[simp] theorem State.applyMerges_canon (s : State) (m : U32) (h : Canon s.mb.w0 s.mb.w2) :
    Canon (State.applyMerges s m).mb.w0 (State.applyMerges s m).mb.w2 := by
  unfold State.applyMerges
  (try simp only [])
  repeat' first
    | (simp +contextual (maxDischargeDepth := 30) [h, foldl_canon, -List.foldl_reverse]; done)
    | split
    | (refine foldl_canon _ _ _ (fun _ _ h => ?_) ?_)
    | (dsimp only)

@[simp] theorem State.memberMsg_canon (s : State) (src : U32) (p : List U8) (h : Canon s.mb.w0 s.mb.w2) :
    Canon (State.memberMsg s src p).mb.w0 (State.memberMsg s src p).mb.w2 := by
  unfold State.memberMsg
  repeat' first
    | split
    | exact h
    | (simp (maxDischargeDepth := 30) [h]; done)
    | (dsimp only)
    | (refine foldl_canon _ _ _ (fun _ _ h => ?_) ?_)

@[simp] theorem State.keepReport_canon (s : State) (m : U32) (member : U32) (t : Nat) (h : Canon s.mb.w0 s.mb.w2) :
    Canon (State.keepReport s m member t).mb.w0 (State.keepReport s m member t).mb.w2 := by simp [State.keepReport, h]

@[simp] theorem State.reportMsg_canon (s : State) (p : List U8) (h : Canon s.mb.w0 s.mb.w2) :
    Canon (State.reportMsg s p).mb.w0 (State.reportMsg s p).mb.w2 := by simp [State.reportMsg, h]

@[simp] theorem State.replaceSpan_canon (s : State) (im : Image) (route : Nat) (r : Route) (un : List U32)
    (of : U32 → List (Nat × U8)) (h : Canon s.mb.w0 s.mb.w2) :
        Canon (State.replaceSpan s im route r un of).mb.w0 (State.replaceSpan s im route r un of).mb.w2 := by
  unfold State.replaceSpan
  (try simp only [])
  repeat' first
    | (simp +contextual (maxDischargeDepth := 30) [h, foldl_canon, -List.foldl_reverse]; done)
    | split
    | (refine foldl_canon _ _ _ (fun _ _ h => ?_) ?_)
    | (dsimp only)

@[simp] theorem State.houseReturn_canon (s : State) (h : Canon s.mb.w0 s.mb.w2) :
    Canon (State.houseReturn s).mb.w0 (State.houseReturn s).mb.w2 := by
  unfold State.houseReturn
  (try simp only [])
  repeat' first
    | (simp +contextual (maxDischargeDepth := 30) [h, foldl_canon, -List.foldl_reverse]; done)
    | split
    | (refine foldl_canon _ _ _ (fun _ _ h => ?_) ?_)
    | (dsimp only)

@[simp] theorem State.latchIp_canon (s : State) (l : Latch) (h : Canon s.mb.w0 s.mb.w2) :
    Canon (State.latchIp s l).mb.w0 (State.latchIp s l).mb.w2 := by
  unfold State.latchIp
  (try simp only [])
  repeat' first
    | (simp +contextual (maxDischargeDepth := 30) [h, foldl_canon, -List.foldl_reverse]; done)
    | split
    | (refine foldl_canon _ _ _ (fun _ _ h => ?_) ?_)
    | (dsimp only)

@[simp] theorem State.slipEvents_canon (s : State) (m : U32) (slip : Nat) (h : Canon s.mb.w0 s.mb.w2) :
    Canon (State.slipEvents s m slip).mb.w0 (State.slipEvents s m slip).mb.w2 := by
  unfold State.slipEvents
  dsimp only
  repeat' split
  all_goals simp [h]

@[simp] theorem State.acceptLatch_canon (s : State) (l : Latch) (h : Canon s.mb.w0 s.mb.w2) :
    Canon (State.acceptLatch s l).mb.w0 (State.acceptLatch s l).mb.w2 := by
  unfold State.acceptLatch
  (try simp only [])
  repeat' first
    | (simp +contextual (maxDischargeDepth := 30) [h, foldl_canon, -List.foldl_reverse]; done)
    | split
    | (refine foldl_canon _ _ _ (fun _ _ h => ?_) ?_)
    | (dsimp only)

@[simp] theorem State.issueLatch_canon (s : State) (h : Canon s.mb.w0 s.mb.w2) :
    Canon (State.issueLatch s).mb.w0 (State.issueLatch s).mb.w2 := by
  unfold State.issueLatch
  (try simp only [])
  repeat' first
    | (simp +contextual (maxDischargeDepth := 30) [h, foldl_canon, -List.foldl_reverse]; done)
    | split
    | (refine foldl_canon _ _ _ (fun _ _ h => ?_) ?_)
    | (dsimp only)

@[simp] theorem State.reportCommit_canon (s : State) (m : U32) (t : Nat) (h : Canon s.mb.w0 s.mb.w2) :
    Canon (State.reportCommit s m t).mb.w0 (State.reportCommit s m t).mb.w2 := by
  unfold State.reportCommit
  dsimp only
  split <;> simp [h]

@[simp] theorem State.returnRecord_canon (s : State) (dests : List DestKey) (at_ : Int) (r : List U8) (h : Canon s.mb.w0 s.mb.w2) :
    Canon (State.returnRecord s dests at_ r).mb.w0 (State.returnRecord s dests at_ r).mb.w2 := by
  unfold State.returnRecord
  (try simp only [])
  repeat' first
    | (simp +contextual (maxDischargeDepth := 30) [h, foldl_canon, -List.foldl_reverse]; done)
    | split
    | (refine foldl_canon _ _ _ (fun _ _ h => ?_) ?_)
    | (dsimp only)

@[simp] theorem State.returnMsg_canon (s : State) (sp : Fin 12) (m : Msg) (h : Canon s.mb.w0 s.mb.w2) :
    Canon (State.returnMsg s sp m).mb.w0 (State.returnMsg s sp m).mb.w2 := by
  unfold State.returnMsg
  (try simp only [])
  repeat' first
    | (simp +contextual (maxDischargeDepth := 30) [h, foldl_canon, -List.foldl_reverse]; done)
    | split
    | (refine foldl_canon _ _ _ (fun _ _ h => ?_) ?_)
    | (dsimp only)

@[simp] theorem State.probePaths_canon (s : State) (h : Canon s.mb.w0 s.mb.w2) :
    Canon (State.probePaths s).mb.w0 (State.probePaths s).mb.w2 := by
  unfold State.probePaths
  (try simp only [])
  repeat' first
    | (simp +contextual (maxDischargeDepth := 30) [h, foldl_canon, -List.foldl_reverse]; done)
    | split
    | (refine foldl_canon _ _ _ (fun _ _ h => ?_) ?_)
    | (dsimp only)

@[simp] theorem State.pathEcho_canon (s : State) (m : Msg) (h : Canon s.mb.w0 s.mb.w2) :
    Canon (State.pathEcho s m).mb.w0 (State.pathEcho s m).mb.w2 := by
  unfold State.pathEcho
  (try simp only [])
  repeat' first
    | (simp +contextual (maxDischargeDepth := 30) [h, foldl_canon, -List.foldl_reverse]; done)
    | split
    | (refine foldl_canon _ _ _ (fun _ _ h => ?_) ?_)
    | (dsimp only)

@[simp] theorem State.setTrestle_canon (p : List U8) (s : State) (h : Canon s.mb.w0 s.mb.w2) :
    Canon (State.setTrestle p s).mb.w0 (State.setTrestle p s).mb.w2 := by simp [State.setTrestle, h]

@[simp] theorem State.setNode_canon (s : State) (node : U32) (h : Canon s.mb.w0 s.mb.w2) : Canon (State.setNode s node).mb.w0 (State.setNode s node).mb.w2 := by
  unfold State.setNode
  split
  · exact h
  · exact State.memberChange_canon _ _ (fun t ht => by simp [ht]) h

@[simp] theorem State.setLink_canon (p : List U8) (s : State) (h : Canon s.mb.w0 s.mb.w2) :
    Canon (State.setLink p s).mb.w0 (State.setLink p s).mb.w2 := by
  unfold State.setLink
  repeat' split
  all_goals simp [h]

@[simp] theorem State.ownInputs_canon (s : State) (m : U32) (h : Canon s.mb.w0 s.mb.w2) :
    Canon ((s.ownInputs m).1).mb.w0 ((s.ownInputs m).1).mb.w2 := by simp [State.ownInputs, h]

@[simp] theorem State.takeInputs_canon (s : State) (x : OwnInputs) (h : Canon s.mb.w0 s.mb.w2) :
    Canon (State.takeInputs s x).mb.w0 (State.takeInputs s x).mb.w2 := by
  unfold State.takeInputs
  (try simp only [])
  repeat' first
    | (simp +contextual (maxDischargeDepth := 30) [h, foldl_canon, -List.foldl_reverse]; done)
    | split
    | (refine foldl_canon _ _ _ (fun _ _ h => ?_) ?_)
    | (dsimp only)

@[simp] theorem State.sealFrame_canon (s : State) (x : OwnInputs) (h : Canon s.mb.w0 s.mb.w2) :
    Canon (State.sealFrame s x).mb.w0 (State.sealFrame s x).mb.w2 := by simp [State.sealFrame, h]

@[simp] theorem State.sealCaptures_canon (s : State) (m : U32) (h : Canon s.mb.w0 s.mb.w2) :
    Canon (State.sealCaptures s m).mb.w0 (State.sealCaptures s m).mb.w2 := by simp [State.sealCaptures, h]

@[simp] theorem State.sendSeal_canon (s : State) (h : Canon s.mb.w0 s.mb.w2) :
    Canon (State.sendSeal s).mb.w0 (State.sendSeal s).mb.w2 := by
  unfold State.sendSeal
  (try simp only [])
  repeat' first
    | (simp +contextual (maxDischargeDepth := 30) [h, foldl_canon, -List.foldl_reverse]; done)
    | split
    | (refine foldl_canon _ _ _ (fun _ _ h => ?_) ?_)
    | (dsimp only)

@[simp] theorem State.radioChange_canon (s : State) (ri : Nat) (kind : Nat) (short : U16) (value : Nat) (data : List U8)
    (h : Canon s.mb.w0 s.mb.w2) :
        Canon (State.radioChange s ri kind short value data).mb.w0
            (State.radioChange s ri kind short value data).mb.w2 := by simp [State.radioChange, h]

@[simp] theorem State.modRi_canon (s : State) (i : Fin 4) (f : Radio → Radio) (h : Canon s.mb.w0 s.mb.w2) :
    Canon (State.modRi s i f).mb.w0 (State.modRi s i f).mb.w2 := by simp [State.modRi, h]

@[simp] theorem State.followRadio_canon (s : State) (r : List U8) (h : Canon s.mb.w0 s.mb.w2) :
    Canon (State.followRadio s r).mb.w0 (State.followRadio s r).mb.w2 := by
  unfold State.followRadio
  split <;> simp [h]

@[simp] theorem State.captureSealed_canon (s : State) (m : U32) (k : Fin 8) (media : U32) (h :
    Canon s.mb.w0 s.mb.w2) : Canon (State.captureSealed s m k media).mb.w0 (State.captureSealed s m k media).mb.w2 := by
  unfold State.captureSealed
  dsimp only
  split <;> simp [h]

@[simp] theorem State.sealRecord_canon (s : State) (m : U32) (r : List U8) (h : Canon s.mb.w0 s.mb.w2) :
    Canon (State.sealRecord s m r).mb.w0 (State.sealRecord s m r).mb.w2 := by
  unfold State.sealRecord
  dsimp only
  repeat' split
  all_goals simp [h]

@[simp] theorem State.takeSeal_canon (s : State) (m : U32) (recs : List (List U8)) (h : Canon s.mb.w0 s.mb.w2) :
    Canon (State.takeSeal s m recs).mb.w0 (State.takeSeal s m recs).mb.w2 := by
  unfold State.takeSeal
  (try simp only [])
  repeat' first
    | (simp +contextual (maxDischargeDepth := 30) [h, foldl_canon, -List.foldl_reverse]; done)
    | split
    | (refine foldl_canon _ _ _ (fun _ _ h => ?_) ?_)
    | (dsimp only)

@[simp] theorem State.takeLocal_canon (s : State) (x : OwnInputs) (h : Canon s.mb.w0 s.mb.w2) :
    Canon (State.takeLocal s x).mb.w0 (State.takeLocal s x).mb.w2 := by
  unfold State.takeLocal
  (try simp only [])
  repeat' first
    | (simp +contextual (maxDischargeDepth := 30) [h, foldl_canon, -List.foldl_reverse]; done)
    | split
    | (refine foldl_canon _ _ _ (fun _ _ h => ?_) ?_)
    | (dsimp only)

@[simp] theorem State.resolveSeals_canon (n : Nat) (s : State) (h : Canon s.mb.w0 s.mb.w2) :
    Canon (State.resolveSeals n s).mb.w0 (State.resolveSeals n s).mb.w2 := by
  induction n generalizing s with
  | zero => simp [State.resolveSeals, h]
  | succ n ih =>
    unfold State.resolveSeals
    repeat' (first | (simp +contextual (maxDischargeDepth := 30) [ih, h]; done) | split)

@[simp] theorem State.inputsAt_canon (s : State) (m : U32) (h : Canon s.mb.w0 s.mb.w2) :
    Canon (State.inputsAt s m).mb.w0 (State.inputsAt s m).mb.w2 := by
  unfold State.inputsAt
  (try simp only [])
  repeat' first
    | (simp +contextual (maxDischargeDepth := 30) [h, foldl_canon, -List.foldl_reverse]; done)
    | split
    | (refine foldl_canon _ _ _ (fun _ _ h => ?_) ?_)
    | (dsimp only)

@[simp] theorem State.sealMsg_canon (s : State) (p : List U8) (h : Canon s.mb.w0 s.mb.w2) :
    Canon (State.sealMsg s p).mb.w0 (State.sealMsg s p).mb.w2 := by
  unfold State.sealMsg
  (try simp only [])
  repeat' first
    | (simp +contextual (maxDischargeDepth := 30) [h, foldl_canon, -List.foldl_reverse]; done)
    | split
    | (refine foldl_canon _ _ _ (fun _ _ h => ?_) ?_)
    | (dsimp only)

@[simp] theorem State.endUniverses_canon (s : State) (old : Image) (new : Image) (h : Canon s.mb.w0 s.mb.w2) :
    Canon (State.endUniverses s old new).mb.w0 (State.endUniverses s old new).mb.w2 := foldl_canon _ _ _
        (fun _ _ h => by split <;> simp [h]) h

@[simp] theorem State.setStage_canon (s : State) (w : Swap) (n : Nat) (h : Canon s.mb.w0 s.mb.w2) :
    Canon (State.setStage s w n).mb.w0 (State.setStage s w n).mb.w2 := by
  unfold State.setStage
  dsimp only
  repeat' (first | (simp [h]; done) | (refine foldl_canon _ _ _ (fun _ _ h => ?_) ?_) | exact h | split)

@[simp] theorem State.swapGate_canon (s : State) (w : Swap) (m : U32) (h : Canon s.mb.w0 s.mb.w2) :
    Canon (State.swapGate s w m).mb.w0 (State.swapGate s w m).mb.w2 := by
  unfold State.swapGate
  (try simp only [])
  repeat' first
    | (simp +contextual (maxDischargeDepth := 30) [h, foldl_canon, -List.foldl_reverse]; done)
    | split
    | (refine foldl_canon _ _ _ (fun _ _ h => ?_) ?_)
    | (dsimp only)

@[simp] theorem State.swapOutputs_canon (s : State) (w : Swap) (m : U32) (h : Canon s.mb.w0 s.mb.w2) :
    Canon (State.swapOutputs s w m).mb.w0 (State.swapOutputs s w m).mb.w2 := by
  unfold State.swapOutputs
  (try simp only [])
  repeat' first
    | (simp +contextual (maxDischargeDepth := 30) [h, foldl_canon, -List.foldl_reverse]; done)
    | split
    | (refine foldl_canon _ _ _ (fun _ _ h => ?_) ?_)
    | (dsimp only)

@[simp] theorem State.becomeActive_canon (s : State) (im : Image) (m : U32) (h : Canon s.mb.w0 s.mb.w2) :
    Canon (State.becomeActive s im m).mb.w0 (State.becomeActive s im m).mb.w2 := by simp [State.becomeActive, h]

@[simp] theorem State.swapAll_canon (s : State) (m : U32) (h : Canon s.mb.w0 s.mb.w2) :
    Canon (State.swapAll s m).mb.w0 (State.swapAll s m).mb.w2 := by
  unfold State.swapAll
  dsimp only
  repeat' (first | (simp [h]; done) | (refine foldl_canon _ _ _ (fun _ _ h => ?_) ?_) | exact h | split)

@[simp] theorem State.activateNow_canon (s : State) (im : Image) (h : Canon s.mb.w0 s.mb.w2) :
    Canon (State.activateNow s im).mb.w0 (State.activateNow s im).mb.w2 := by
  unfold State.activateNow
  (try simp only [])
  repeat' first
    | (simp +contextual (maxDischargeDepth := 30) [h, foldl_canon, -List.foldl_reverse]; done)
    | split
    | (refine foldl_canon _ _ _ (fun _ _ h => ?_) ?_)
    | (dsimp only)

@[simp] theorem State.swapStep_canon (s : State) (h : Canon s.mb.w0 s.mb.w2) :
    Canon (State.swapStep s).mb.w0 (State.swapStep s).mb.w2 := by
  unfold State.swapStep
  dsimp only
  repeat' split
  all_goals simp [h]

@[simp] theorem State.activateAt_canon (s : State) (m : U32) (h : Canon s.mb.w0 s.mb.w2) :
    Canon (State.activateAt s m).mb.w0 (State.activateAt s m).mb.w2 := by
  unfold State.activateAt
  repeat' split
  all_goals simp [h]

@[simp] theorem State.acceptStop_canon (s : State) (m : U32) (h : Canon s.mb.w0 s.mb.w2) :
    Canon (State.acceptStop s m).mb.w0 (State.acceptStop s m).mb.w2 := by simp [State.acceptStop, h]

@[simp] theorem State.portsStop_canon (s : State) (h : Canon s.mb.w0 s.mb.w2) :
    Canon (State.portsStop s).mb.w0 (State.portsStop s).mb.w2 := by simp [State.portsStop, h]

@[simp] theorem State.gridStop_canon (s : State) (h : Canon s.mb.w0 s.mb.w2) :
    Canon (State.gridStop s).mb.w0 (State.gridStop s).mb.w2 := by
  unfold State.gridStop
  (try simp only [])
  repeat' first
    | (simp +contextual (maxDischargeDepth := 30) [h, foldl_canon, -List.foldl_reverse]; done)
    | split
    | (refine foldl_canon _ _ _ (fun _ _ h => ?_) ?_)
    | (dsimp only)

@[simp] theorem State.stopStep_canon (s : State) (h : Canon s.mb.w0 s.mb.w2) :
    Canon (State.stopStep s).mb.w0 (State.stopStep s).mb.w2 := by simp [State.stopStep, h]

@[simp] theorem State.freshFrames_canon (s : State) (n0 : U32) (h : Canon s.mb.w0 s.mb.w2) :
    Canon (State.freshFrames s n0).mb.w0 (State.freshFrames s n0).mb.w2 := by simp [State.freshFrames, h]

@[simp] theorem State.gridStart_canon (s : State) (v : GridVals) (apply : U32) (h : Canon s.mb.w0 s.mb.w2) :
    Canon (State.gridStart s v apply).mb.w0 (State.gridStart s v apply).mb.w2 := by
  unfold State.gridStart
  (try simp only [])
  repeat' first
    | (simp +contextual (maxDischargeDepth := 30) [h, foldl_canon, -List.foldl_reverse]; done)
    | split
    | (refine foldl_canon _ _ _ (fun _ _ h => ?_) ?_)
    | (dsimp only)

@[simp] theorem State.gridChange_canon (s : State) (v : GridVals) (apply : U32) (h : Canon s.mb.w0 s.mb.w2) :
    Canon (State.gridChange s v apply).mb.w0 (State.gridChange s v apply).mb.w2 := by simp [State.gridChange, h]

@[simp] theorem State.applyChange_canon (s : State) (m : U32) (h : Canon s.mb.w0 s.mb.w2) :
    Canon (State.applyChange s m).mb.w0 (State.applyChange s m).mb.w2 := by
  unfold State.applyChange
  split <;> simp [h]

@[simp] theorem State.applyQuantum_canon (s : State) (h : Canon s.mb.w0 s.mb.w2) :
    Canon (State.applyQuantum s).mb.w0 (State.applyQuantum s).mb.w2 := by
  unfold State.applyQuantum
  split <;> simp [h]

@[simp] theorem State.zeroiseFrom_canon (s : State) (n : Nat) (h : Canon s.mb.w0 s.mb.w2) :
    Canon (State.zeroiseFrom s n).mb.w0 (State.zeroiseFrom s n).mb.w2 := by simp [State.zeroiseFrom, h]

@[simp] theorem State.writeSlot_canon (s : State) (n : Nat) (c : SlotCopy) (fails : Nat) (h : Canon s.mb.w0 s.mb.w2) :
    Canon (State.writeSlot s n c fails).mb.w0 (State.writeSlot s n c fails).mb.w2 := by simp [State.writeSlot, h]

@[simp] theorem State.keep_canon (s : State) (k : WorkKey) (h : Canon s.mb.w0 s.mb.w2) :
    Canon ((s.keep k).1).mb.w0 ((s.keep k).1).mb.w2 := by simp [State.keep, h]

@[simp] theorem State.touch_canon (s : State) (blob : Bool) (root : Nat) (id : U32) (label : List U8) (h : Canon s.mb.w0 s.mb.w2) :
    Canon (State.touch s blob root id label).mb.w0 (State.touch s blob root id label).mb.w2 := by
  unfold State.touch
  dsimp only
  repeat' (first | (simp [h]; done) | (refine foldl_canon _ _ _ (fun _ _ h => ?_) ?_) | exact h | split)

@[simp] theorem State.keyFail_canon (s : State) (cause : Nat) (id : Nat) (h : Canon s.mb.w0 s.mb.w2) :
    Canon (State.keyFail s cause id).mb.w0 (State.keyFail s cause id).mb.w2 := by simp [State.keyFail, h]

theorem State.derive_canon (s : State) (n b : Nat) (label : List U8) (bits : Nat) (r : State × List U8)
    (e : s.derive n b label bits = .ok r)
    (h : Canon s.mb.w0 s.mb.w2) : Canon r.1.mb.w0 r.1.mb.w2 := by
  unfold State.derive at e
  split at e
  · cases e
  · split at e <;> cases e
    simp [h]

@[simp] theorem State.keyNeeded_canon (s : State) (id : U32) (root : Nat) (use : Nat) (h : Canon s.mb.w0 s.mb.w2) :
    Canon (State.keyNeeded s id root use).mb.w0 (State.keyNeeded s id root use).mb.w2 := by simp [State.keyNeeded, h]

@[simp] theorem State.raiseProposal_canon (s : State) (p : Proposal) (step : Nat) (officer : Nat) (h :
    Canon s.mb.w0 s.mb.w2) :
        Canon (State.raiseProposal s p step officer).mb.w0
            (State.raiseProposal s p step officer).mb.w2 := by simp [State.raiseProposal, h]

@[simp] theorem State.tamperClear_canon (s : State) (h : Canon s.mb.w0 s.mb.w2) :
    Canon (State.tamperClear s).mb.w0 (State.tamperClear s).mb.w2 := by simp [State.tamperClear, h]

theorem State.applyProposal_canon (s : State) (p : Proposal) (fails : Nat) (t : State)
    (e : s.applyProposal p fails = some t)
    (h : Canon s.mb.w0 s.mb.w2) : Canon t.mb.w0 t.mb.w2 := by
  unfold State.applyProposal at e
  repeat' first
    | contradiction
    | (cases e; simp +contextual (maxDischargeDepth := 30) [h]; done)
    | split at e
    | (dsimp only at e)

@[simp] theorem State.failedWrite_canon (s : State) (p : Proposal) (h : Canon s.mb.w0 s.mb.w2) :
    Canon (State.failedWrite s p).mb.w0 (State.failedWrite s p).mb.w2 := by simp [State.failedWrite, h]

@[simp] theorem State.raiseTamper_canon (s : State) (cause : Nat) (mode : Nat) (h : Canon s.mb.w0 s.mb.w2) :
    Canon (State.raiseTamper s cause mode).mb.w0 (State.raiseTamper s cause mode).mb.w2 := by simp [State.raiseTamper, h]

@[simp] theorem State.strictStop_canon (s : State) (h : Canon s.mb.w0 s.mb.w2) :
    Canon (State.strictStop s).mb.w0 (State.strictStop s).mb.w2 := by
  unfold State.strictStop
  (try simp only [])
  repeat' first
    | (simp +contextual (maxDischargeDepth := 30) [h, foldl_canon, -List.foldl_reverse]; done)
    | split
    | (refine foldl_canon _ _ _ (fun _ _ h => ?_) ?_)
    | (dsimp only)

@[simp] theorem State.zeroise_canon (s : State) (cause : Nat) (h : Canon s.mb.w0 s.mb.w2) :
    Canon (State.zeroise s cause).mb.w0 (State.zeroise s cause).mb.w2 := by
  unfold State.zeroise
  (try simp only [])
  repeat' first
    | (simp +contextual (maxDischargeDepth := 30) [h, foldl_canon, -List.foldl_reverse]; done)
    | split
    | (refine foldl_canon _ _ _ (fun _ _ h => ?_) ?_)
    | (dsimp only)

@[simp] theorem State.secureHold_canon (s : State) (h : Canon s.mb.w0 s.mb.w2) :
    Canon (State.secureHold s).mb.w0 (State.secureHold s).mb.w2 := by simp [State.secureHold, h]

@[simp] theorem State.tamper_canon (s : State) (cause : Nat) (h : Canon s.mb.w0 s.mb.w2) :
    Canon (State.tamper s cause).mb.w0 (State.tamper s cause).mb.w2 := by
  unfold State.tamper
  (try simp only [])
  repeat' first
    | (simp +contextual (maxDischargeDepth := 30) [h, foldl_canon, -List.foldl_reverse]; done)
    | split
    | (refine foldl_canon _ _ _ (fun _ _ h => ?_) ?_)
    | (dsimp only)

@[simp] theorem State.tripEnabled_canon (s : State) (was : BitVec 4) (h : Canon s.mb.w0 s.mb.w2) :
    Canon (State.tripEnabled s was).mb.w0 (State.tripEnabled s was).mb.w2 := by
  unfold State.tripEnabled
  split <;> simp [h]

@[simp] theorem State.foundLatched_canon (s : State) (h : Canon s.mb.w0 s.mb.w2) :
    Canon (State.foundLatched s).mb.w0 (State.foundLatched s).mb.w2 := by simp [State.foundLatched, h]

theorem State.settle_canon (s : State) (p : Proposal) (fails : Nat) (h : Canon s.mb.w0 s.mb.w2) :
    CanonE (s.settle p fails) := by
  unfold State.settle
  dsimp only
  split
  · split
    · rename_i t e
      have h' := State.applyProposal_canon _ _ _ _ e h
      exact (canonE_done _).2 (State.tripEnabled_canon _ _ (by simp [h']))
    · simp [h]
  · simp [h]

@[simp] theorem State.rejectImage_canon (s : State) (reason : Nat) (h : Canon s.mb.w0 s.mb.w2) :
    Canon (State.rejectImage s reason).mb.w0 (State.rejectImage s reason).mb.w2 := by simp [State.rejectImage, h]

theorem State.sectionKey_canon (s : State) (b : List U8) (t : State × List U8) (e : s.sectionKey b = .ok (.inl t)) (h : Canon s.mb.w0 s.mb.w2) :
    Canon t.1.mb.w0 t.1.mb.w2 := by
  unfold State.sectionKey at e
  dsimp only at e
  split at e
  · split at e <;> cases e
    simp [h]
  · cases e1 : s.derive (rd b 0x29 1) 0 (ascii "IMGK" ++ be 4 (p32 b 0x2C).toNat) 256 with
    | error x => rw [e1] at e; cases e
    | ok r => rw [e1] at e; cases e; exact State.derive_canon _ _ _ _ _ _ e1 h

@[simp] theorem State.finishImage_canon (s : State) (b : List U8) (size : Nat) (plain : Option (List U8)) (h : Canon s.mb.w0 s.mb.w2) :
    Canon (State.finishImage s b size plain).mb.w0 (State.finishImage s b size plain).mb.w2 := by
  unfold State.finishImage
  (try simp only [])
  repeat' first
    | (simp +contextual (maxDischargeDepth := 30) [h, foldl_canon, -List.foldl_reverse]; done)
    | split
    | (refine foldl_canon _ _ _ (fun _ _ h => ?_) ?_)
    | (dsimp only)

@[simp] theorem State.sleepAll_canon (s : State) (w : Nat) (h : Canon s.mb.w0 s.mb.w2) :
    Canon (State.sleepAll s w).mb.w0 (State.sleepAll s w).mb.w2 := foldl_canon _ _ _ (fun _ _ h => by simp [h]) h

@[simp] theorem State.raiseMode_canon (s : State) (mode : Nat) (prev : Nat) (h : Canon s.mb.w0 s.mb.w2) :
    Canon (State.raiseMode s mode prev).mb.w0 (State.raiseMode s mode prev).mb.w2 := by simp [State.raiseMode, h]

@[simp] theorem State.standby_canon (s : State) (keep : BitVec 4) (onHouse : Bool) (h : Canon s.mb.w0 s.mb.w2) :
    Canon (State.standby s keep onHouse).mb.w0 (State.standby s keep onHouse).mb.w2 := by
  unfold State.standby
  (try simp only [])
  repeat' first
    | (simp +contextual (maxDischargeDepth := 30) [h, foldl_canon, -List.foldl_reverse]; done)
    | split
    | (refine foldl_canon _ _ _ (fun _ _ h => ?_) ?_)
    | (dsimp only)

@[simp] theorem State.trainAsleep_canon (s : State) (sp : Fin 12) (h : Canon s.mb.w0 s.mb.w2) :
    Canon (State.trainAsleep s sp).mb.w0 (State.trainAsleep s sp).mb.w2 := by
  unfold State.trainAsleep
  split <;> simp [h]

@[simp] theorem State.wake_canon (s : State) (cause : Nat) (h : Canon s.mb.w0 s.mb.w2) :
    Canon (State.wake s cause).mb.w0 (State.wake s cause).mb.w2 := by
  unfold State.wake
  (try simp only [])
  repeat' first
    | (simp +contextual (maxDischargeDepth := 30) [h, foldl_canon, -List.foldl_reverse]; done)
    | split
    | (refine foldl_canon _ _ _ (fun _ _ h => ?_) ?_)
    | (dsimp only)

@[simp] theorem State.houseWake_canon (s : State) (cause : Nat) (h : Canon s.mb.w0 s.mb.w2) :
    Canon (State.houseWake s cause).mb.w0 (State.houseWake s cause).mb.w2 := by simp [State.houseWake, h]

@[simp] theorem State.radioSchedule_canon (s : State) (i : Fin 4) (h : Canon s.mb.w0 s.mb.w2) :
    Canon (State.radioSchedule s i).mb.w0 (State.radioSchedule s i).mb.w2 := by simp [State.radioSchedule, h]

@[simp] theorem State.txDone_canon (s : State) (f : RadioTx) (outcome : Nat) (h : Canon s.mb.w0 s.mb.w2) :
    Canon (State.txDone s f outcome).mb.w0 (State.txDone s f outcome).mb.w2 := by
  unfold State.txDone
  split <;> simp [h]

@[simp] theorem State.unhold_canon (s : State) (i : Fin 4) (f : RadioTx) (h : Canon s.mb.w0 s.mb.w2) :
    Canon (State.unhold s i f).mb.w0 (State.unhold s i f).mb.w2 := by
  unfold State.unhold
  split <;> simp [h]

@[simp] theorem State.newTx_canon (s : State) (i : Fin 4) (f : RadioTx) (h : Canon s.mb.w0 s.mb.w2) :
    Canon ((s.newTx i f).1).mb.w0 ((s.newTx i f).1).mb.w2 := by simp [State.newTx, h]

@[simp] theorem State.hold_canon (s : State) (i : Fin 4) (f : RadioTx) (h : Canon s.mb.w0 s.mb.w2) :
    Canon (State.hold s i f).mb.w0 (State.hold s i f).mb.w2 := by
  unfold State.hold
  (try simp only [])
  repeat' first
    | (simp +contextual (maxDischargeDepth := 30) [h, foldl_canon, -List.foldl_reverse]; done)
    | split
    | (refine foldl_canon _ _ _ (fun _ _ h => ?_) ?_)
    | (dsimp only)

@[simp] theorem State.queueTx_canon (s : State) (i : Fin 4) (f : RadioTx) (h : Canon s.mb.w0 s.mb.w2) :
    Canon (State.queueTx s i f).mb.w0 (State.queueTx s i f).mb.w2 := by simp [State.queueTx, h]

@[simp] theorem State.sendTo_canon (s : State) (i : Fin 4) (sleepy : Bool) (f : RadioTx) (h : Canon s.mb.w0 s.mb.w2) :
    Canon (State.sendTo s i sleepy f).mb.w0 (State.sendTo s i sleepy f).mb.w2 := by simp [State.sendTo, h]

@[simp] theorem State.dropQueue_canon (s : State) (i : Fin 4) (h : Canon s.mb.w0 s.mb.w2) :
    Canon (State.dropQueue s i).mb.w0 (State.dropQueue s i).mb.w2 := foldl_canon _ _ _ (fun _ _ h => by simp [h]) h

@[simp] theorem State.radioApply_canon (s : State) (i : Fin 4) (c : RadioCfg) (h : Canon s.mb.w0 s.mb.w2) :
    Canon (State.radioApply s i c).mb.w0 (State.radioApply s i c).mb.w2 := by
  unfold State.radioApply
  (try simp only [])
  repeat' first
    | (simp +contextual (maxDischargeDepth := 30) [h, foldl_canon, -List.foldl_reverse]; done)
    | split
    | (refine foldl_canon _ _ _ (fun _ _ h => ?_) ?_)
    | (dsimp only)

@[simp] theorem State.radioDown_canon (s : State) (i : Fin 4) (h : Canon s.mb.w0 s.mb.w2) :
    Canon (State.radioDown s i).mb.w0 (State.radioDown s i).mb.w2 := by
  unfold State.radioDown
  dsimp only
  split <;> simp [h]

@[simp] theorem State.radioResume_canon (s : State) (i : Fin 4) (h : Canon s.mb.w0 s.mb.w2) :
    Canon (State.radioResume s i).mb.w0 (State.radioResume s i).mb.w2 := by simp [State.radioResume, h]

@[simp] theorem State.setRadio_canon (p : List U8) (s : State) (h : Canon s.mb.w0 s.mb.w2) :
    Canon (State.setRadio p s).mb.w0 (State.setRadio p s).mb.w2 := by simp [State.setRadio, h]

@[simp] theorem State.identifyRadio_canon (s : State) (i : Fin 4) (resp : List U32) (h : Canon s.mb.w0 s.mb.w2) :
    Canon (State.identifyRadio s i resp).mb.w0 (State.identifyRadio s i resp).mb.w2 := by
  unfold State.identifyRadio
  (try simp only [])
  repeat' first
    | (simp +contextual (maxDischargeDepth := 30) [h, foldl_canon, -List.foldl_reverse]; done)
    | split
    | (refine foldl_canon _ _ _ (fun _ _ h => ?_) ?_)
    | (dsimp only)

@[simp] theorem State.laurelBuild_canon (s : State) (i : Fin 4) (tb : Int) (h : Canon s.mb.w0 s.mb.w2) :
    Canon ((s.laurelBuild i tb).1).mb.w0 ((s.laurelBuild i tb).1).mb.w2 := by
  unfold State.laurelBuild
  refine foldl_canon1 _ _ _ (fun x b h => ?_) (by simp [h])
  dsimp only
  repeat' first
    | (simp +contextual (maxDischargeDepth := 30) [h, foldl_canon, -List.foldl_reverse]; done)
    | split
    | (refine foldl_canon _ _ _ (fun _ _ h => ?_) ?_)
    | (dsimp only)

@[simp] theorem State.laurelUrgent_canon (s : State) (mask : U32) (h : Canon s.mb.w0 s.mb.w2) :
    Canon (State.laurelUrgent s mask).mb.w0 (State.laurelUrgent s mask).mb.w2 := by
  unfold State.laurelUrgent
  (try simp only [])
  repeat' first
    | (simp +contextual (maxDischargeDepth := 30) [h, foldl_canon, -List.foldl_reverse]; done)
    | split
    | (refine foldl_canon _ _ _ (fun _ _ h => ?_) ?_)
    | (dsimp only)

@[simp] theorem State.modNode_canon (s : State) (i : Fin 4) (short : U16) (f : Node → Node) (h :
    Canon s.mb.w0 s.mb.w2) :
        Canon (State.modNode s i short f).mb.w0 (State.modNode s i short f).mb.w2 := by simp [State.modNode, h]

@[simp] theorem State.modStation_canon (s : State) (i : Fin 4) (n : Nat) (f : Station → Station) (h :
    Canon s.mb.w0 s.mb.w2) :
        Canon (State.modStation s i n f).mb.w0 (State.modStation s i n f).mb.w2 := by simp [State.modStation, h]

@[simp] theorem State.assocResponse_canon (s : State) (i : Fin 4) (ext : U64) (short : U16) (status : Nat) (h :
    Canon s.mb.w0 s.mb.w2) :
        Canon (State.assocResponse s i ext short status).mb.w0
            (State.assocResponse s i ext short status).mb.w2 := by simp [State.assocResponse, h]

@[simp] theorem State.associate_canon (s : State) (i : Fin 4) (ext : U64) (sleepy : Bool) (h :
    Canon s.mb.w0 s.mb.w2) : Canon (State.associate s i ext sleepy).mb.w0 (State.associate s i ext sleepy).mb.w2 := by
  unfold State.associate
  (try simp only [])
  repeat' first
    | (simp +contextual (maxDischargeDepth := 30) [h, foldl_canon, -List.foldl_reverse]; done)
    | split
    | (refine foldl_canon _ _ _ (fun _ _ h => ?_) ?_)
    | (dsimp only)

@[simp] theorem State.disassociate_canon (s : State) (i : Fin 4) (n : Node) (h : Canon s.mb.w0 s.mb.w2) :
    Canon (State.disassociate s i n).mb.w0 (State.disassociate s i n).mb.w2 := by
  unfold State.disassociate
  (try simp only [])
  repeat' first
    | (simp +contextual (maxDischargeDepth := 30) [h, foldl_canon, -List.foldl_reverse]; done)
    | split
    | (refine foldl_canon _ _ _ (fun _ _ h => ?_) ?_)
    | (dsimp only)

@[simp] theorem State.acceptFrame_canon (s : State) (i : Fin 4) (f : RadioFrame) (t : Nat) (h :
    Canon s.mb.w0 s.mb.w2) : Canon (State.acceptFrame s i f t).mb.w0 (State.acceptFrame s i f t).mb.w2 := by
  unfold State.acceptFrame
  (try simp only [])
  repeat' first
    | (simp +contextual (maxDischargeDepth := 30) [h, foldl_canon, -List.foldl_reverse]; done)
    | split
    | (refine foldl_canon _ _ _ (fun _ _ h => ?_) ?_)
    | (dsimp only)

@[simp] theorem State.privetHouse_canon (s : State) (i : Fin 4) (st : Nat) (mask : U32) (h : Canon s.mb.w0 s.mb.w2) :
    Canon (State.privetHouse s i st mask).mb.w0 (State.privetHouse s i st mask).mb.w2 := by
  unfold State.privetHouse
  dsimp only
  repeat' split
  all_goals simp [h]

@[simp] theorem State.journalStation_canon (s : State) (key : Nat) (gen : U16) (c : U32) (h : Canon s.mb.w0 s.mb.w2) :
    Canon (State.journalStation s key gen c).mb.w0
        (State.journalStation s key gen c).mb.w2 := by simp [State.journalStation, h]

theorem State.radioKey_canon (s : State) (i : Fin 4) (label : List U8) (t : State × List U8) (e : s.radioKey i label = some t)
    (h : Canon s.mb.w0 s.mb.w2) : Canon t.1.mb.w0 t.1.mb.w2 := by
  unfold State.radioKey at e
  split at e <;> cases e
  exact State.derive_canon _ _ _ _ _ _ ‹_› h

theorem State.radioOpen_canon (s : State) (i : Fin 4) (x : Node) (f : RadioFrame) (t : State × List U8)
    (e : s.radioOpen i x f = some t) (h : Canon s.mb.w0 s.mb.w2) : Canon t.1.mb.w0 t.1.mb.w2 := by
  simp only [State.radioOpen] at e
  repeat' split at e
  all_goals first
    | (cases e; done)
    | (cases e; exact h)
    | (obtain ⟨d, -, rfl⟩ := Option.map_eq_some_iff.1 e
       have k := State.radioKey_canon _ _ _ _ ‹s.radioKey _ _ = some _› h
       exact k)

@[simp] theorem State.takeCounter_canon (s : State) (i : Fin 4) (src : U16) (c : U32) (h : Canon s.mb.w0 s.mb.w2) :
    Canon (State.takeCounter s i src c).mb.w0 (State.takeCounter s i src c).mb.w2 := by
  unfold State.takeCounter
  (try simp only [])
  repeat' first
    | (simp +contextual (maxDischargeDepth := 30) [h, foldl_canon, -List.foldl_reverse]; done)
    | split
    | (refine foldl_canon _ _ _ (fun _ _ h => ?_) ?_)
    | (dsimp only)

theorem State.privetCheck_canon (s : State) (i : Fin 4) (f : RadioFrame) (t : State × List U8) (e : s.privetCheck i f = .ok t)
    (h : Canon s.mb.w0 s.mb.w2) : Canon t.1.mb.w0 t.1.mb.w2 := by
  unfold State.privetCheck at e
  dsimp only at e
  repeat' (split at e)
  all_goals first | (cases e; done) | (cases e; simp [State.radioOpen_canon _ _ _ _ _ ‹_› h])

@[simp] theorem State.privetReject_canon (s : State) (i : Fin 4) (f : RadioFrame) (cause : Nat) (h :
    Canon s.mb.w0 s.mb.w2) :
        Canon (State.privetReject s i f cause).mb.w0
            (State.privetReject s i f cause).mb.w2 := by simp [State.privetReject, h]

@[simp] theorem State.privetReply_canon (s : State) (i : Fin 4) (dest : U16) (cmd : U8) (result : Nat) (arg : U32)
    (h : Canon s.mb.w0 s.mb.w2) :
        Canon (State.privetReply s i dest cmd result arg).mb.w0
            (State.privetReply s i dest cmd result arg).mb.w2 := by simp [State.privetReply, h]

@[simp] theorem State.privetCommand_canon (s : State) (i : Fin 4) (f : RadioFrame) (data : List U8) (h : Canon s.mb.w0 s.mb.w2) :
    Canon (State.privetCommand s i f data).mb.w0 (State.privetCommand s i f data).mb.w2 := by
  unfold State.privetCommand
  (try simp only [])
  repeat' first
    | (simp +contextual (maxDischargeDepth := 30) [h, foldl_canon, -List.foldl_reverse]; done)
    | split
    | (refine foldl_canon _ _ _ (fun _ _ h => ?_) ?_)
    | (dsimp only)

@[simp] theorem State.feedRecords_canon (s : State) (at_ : Int) (d : List U8) (h : Canon s.mb.w0 s.mb.w2) :
    Canon (State.feedRecords s at_ d).mb.w0 (State.feedRecords s at_ d).mb.w2 := by
  unfold State.feedRecords
  (try simp only [])
  repeat' first
    | (simp +contextual (maxDischargeDepth := 30) [h, foldl_canon, -List.foldl_reverse]; done)
    | split
    | (refine foldl_canon _ _ _ (fun _ _ h => ?_) ?_)
    | (dsimp only)

@[simp] theorem State.queueRx_canon (s : State) (i : Fin 4) (f : RadioFrame) (data : List U8) (h : Canon s.mb.w0 s.mb.w2) :
    Canon (State.queueRx s i f data).mb.w0 (State.queueRx s i f data).mb.w2 := by
  unfold State.queueRx
  (try simp only [])
  repeat' first
    | (simp +contextual (maxDischargeDepth := 30) [h, foldl_canon, -List.foldl_reverse]; done)
    | split
    | (refine foldl_canon _ _ _ (fun _ _ h => ?_) ?_)
    | (dsimp only)

@[simp] theorem State.takeData_canon (s : State) (i : Fin 4) (f : RadioFrame) (data : List U8) (h : Canon s.mb.w0 s.mb.w2) :
    Canon (State.takeData s i f data).mb.w0 (State.takeData s i f data).mb.w2 := by
  unfold State.takeData
  (try simp only [])
  repeat' first
    | (simp +contextual (maxDischargeDepth := 30) [h, foldl_canon, -List.foldl_reverse]; done)
    | split
    | (refine foldl_canon _ _ _ (fun _ _ h => ?_) ?_)
    | (dsimp only)

@[simp] theorem State.alignChild_canon (s : State) (i : Fin 4) (t : Int) (h : Canon s.mb.w0 s.mb.w2) :
    Canon (State.alignChild s i t).mb.w0 (State.alignChild s i t).mb.w2 := by simp [State.alignChild, h]

@[simp] theorem State.regainSync_canon (s : State) (i : Fin 4) (h : Canon s.mb.w0 s.mb.w2) :
    Canon (State.regainSync s i).mb.w0 (State.regainSync s i).mb.w2 := by
  unfold State.regainSync
  (try simp only [])
  repeat' first
    | (simp +contextual (maxDischargeDepth := 30) [h, foldl_canon, -List.foldl_reverse]; done)
    | split
    | (refine foldl_canon _ _ _ (fun _ _ h => ?_) ?_)
    | (dsimp only)

@[simp] theorem State.buildBeacon_canon (s : State) (i : Fin 4) (tb : Int) (h : Canon s.mb.w0 s.mb.w2) :
    Canon (State.buildBeacon s i tb).mb.w0 (State.buildBeacon s i tb).mb.w2 := by
  unfold State.buildBeacon
  (try simp only [])
  repeat' first
    | (simp +contextual (maxDischargeDepth := 30) [h, foldl_canon, -List.foldl_reverse]; done)
    | split
    | (refine foldl_canon _ _ _ (fun _ _ h => ?_) ?_)
    | (dsimp only)

@[simp] theorem State.transmit_canon (s : State) (i : Fin 4) (f : RadioTx) (h : Canon s.mb.w0 s.mb.w2) :
    Canon (State.transmit s i f).mb.w0 (State.transmit s i f).mb.w2 := by
  unfold State.transmit
  (try simp only [])
  repeat' first
    | (simp +contextual (maxDischargeDepth := 30) [h, foldl_canon, -List.foldl_reverse]; done)
    | split
    | (refine foldl_canon _ _ _ (fun _ _ h => ?_) ?_)
    | (dsimp only)

@[simp] theorem nodeControl_canon (q : Req) (s : State) (h : Canon s.mb.w0 s.mb.w2) :
    Canon (nodeControl q s).mb.w0 (nodeControl q s).mb.w2 := by
  unfold nodeControl
  refine serve_canon _ _ _ _ _ h (fun s h => ?_)
  repeat' first
    | (refine canonE_require _ _ _ ?_)
    | (refine canonE_bulkLength _ _ _ ?_)
    | (refine canonE_withBulk _ _ _ _ _ (by simp [h]) (fun _ => ?_))
    | (refine canonE_onSpan _ _ (fun _ => ?_))
    | (refine canonE_onLane _ _ (fun _ _ => ?_))
    | (refine canonE_onRdm _ _ _ (fun _ => ?_))
    | (refine canonE_pierControl _ _ _ _ ?_)
    | (exact State.settle_canon _ _ _ (by simp [h]))
    | (simp (maxDischargeDepth := 30) [h]; done)
    | split
    | (simp (maxDischargeDepth := 30) [h, foldl_canon, -List.foldl_reverse]; done)
    | (dsimp only)

@[simp] theorem State.setStation_canon (p : List U8) (s : State) (h : Canon s.mb.w0 s.mb.w2) :
    Canon (State.setStation p s).mb.w0 (State.setStation p s).mb.w2 := by
  unfold State.setStation
  dsimp only
  split <;> simp [h]

@[simp] theorem State.sendBulk_canon (s : State) (kind : U8) (peer : U32) (payload : List U8) (h :
    Canon s.mb.w0 s.mb.w2) :
        Canon (State.sendBulk s kind peer payload).mb.w0
            (State.sendBulk s kind peer payload).mb.w2 := by simp [State.sendBulk, h]

@[simp] theorem State.bulkPump_canon (n k : Nat) (s : State) (h : Canon s.mb.w0 s.mb.w2) :
    Canon (State.bulkPump n k s).mb.w0 (State.bulkPump n k s).mb.w2 := by
  induction n generalizing s with
  | zero => simp [State.bulkPump, h]
  | succ n ih =>
    unfold State.bulkPump
    dsimp only
    split <;> simp [ih, h]

@[simp] theorem State.bulkStart_canon (s : State) (kind : U8) (id : U32) (peer : U32) (bytes : List U8) (h :
    Canon s.mb.w0 s.mb.w2) :
        Canon (State.bulkStart s kind id peer bytes).mb.w0
            (State.bulkStart s kind id peer bytes).mb.w2 := by simp [State.bulkStart, h]

@[simp] theorem State.bulkDrop_canon (s : State) (key : Nat) (h : Canon s.mb.w0 s.mb.w2) :
    Canon (State.bulkDrop s key).mb.w0 (State.bulkDrop s key).mb.w2 := by simp [State.bulkDrop, h]

@[simp] theorem State.bulkAck_canon (s : State) (src : U32) (id : U32) (off : Nat) (h : Canon s.mb.w0 s.mb.w2) :
    Canon (State.bulkAck s src id off).mb.w0 (State.bulkAck s src id off).mb.w2 := foldl_canon _ _ _
        (fun _ _ h => by simp [h]) h

@[simp] theorem State.bulkData_canon (s : State) (src : U32) (p : List U8) (h : Canon s.mb.w0 s.mb.w2) :
    Canon (State.bulkData s src p).mb.w0 (State.bulkData s src p).mb.w2 := by
  unfold State.bulkData
  dsimp only
  split <;> simp [h]

@[simp] theorem State.bulkResend_canon (s : State) (key : Nat) (h : Canon s.mb.w0 s.mb.w2) :
    Canon (State.bulkResend s key).mb.w0 (State.bulkResend s key).mb.w2 := by simp [State.bulkResend, h]

@[simp] theorem State.trapSettle_canon (s : State) (h : Canon s.mb.w0 s.mb.w2) :
    Canon (State.trapSettle s).mb.w0 (State.trapSettle s).mb.w2 := foldl_canon _ _ _ (fun _ _ h => by split <;> simp [h]) h

@[simp] theorem State.leaveOut_canon (s : State) (f : Nat) (m : U32) (h : Canon s.mb.w0 s.mb.w2) :
    Canon (State.leaveOut s f m).mb.w0 (State.leaveOut s f m).mb.w2 := by simp [State.leaveOut, h]

@[simp] theorem State.trap_canon (s : State) (n : Nat) (cause : Nat) (h : Canon s.mb.w0 s.mb.w2) :
    Canon (State.trap s n cause).mb.w0 (State.trap s n cause).mb.w2 := by
  unfold State.trap
  (try simp only [])
  repeat' first
    | (simp +contextual (maxDischargeDepth := 30) [h, foldl_canon, -List.foldl_reverse]; done)
    | split
    | (refine foldl_canon _ _ _ (fun _ _ h => ?_) ?_)
    | (dsimp only)

@[simp] theorem State.excludeCore_canon (s : State) (k : Fin 64) (m : U32) (h : Canon s.mb.w0 s.mb.w2) :
    Canon (State.excludeCore s k m).mb.w0 (State.excludeCore s k m).mb.w2 := by simp [State.excludeCore, h]

@[simp] theorem State.sendResync_canon (s : State) (kind : Nat) (r : U32) (bytes : Nat) (h : Canon s.mb.w0 s.mb.w2) :
    Canon (State.sendResync s kind r bytes).mb.w0 (State.sendResync s kind r bytes).mb.w2 := by simp [State.sendResync, h]

@[simp] theorem State.resyncBegin_canon (s : State) (r : U32) (h : Canon s.mb.w0 s.mb.w2) :
    Canon (State.resyncBegin s r).mb.w0 (State.resyncBegin s r).mb.w2 := by
  unfold State.resyncBegin
  split <;> simp [h]

@[simp] theorem State.resyncAbandon_canon (s : State) (h : Canon s.mb.w0 s.mb.w2) :
    Canon (State.resyncAbandon s).mb.w0 (State.resyncAbandon s).mb.w2 := by
  unfold State.resyncAbandon
  (try simp only [])
  repeat' first
    | (simp +contextual (maxDischargeDepth := 30) [h, foldl_canon, -List.foldl_reverse]; done)
    | split
    | (refine foldl_canon _ _ _ (fun _ _ h => ?_) ?_)
    | (dsimp only)

@[simp] theorem State.resyncReadable_canon (s : State) (h : Canon s.mb.w0 s.mb.w2) :
    Canon (State.resyncReadable s).mb.w0 (State.resyncReadable s).mb.w2 := by
  unfold State.resyncReadable
  split <;> simp [h]

@[simp] theorem State.resyncDone_canon (s : State) (h : Canon s.mb.w0 s.mb.w2) :
    Canon (State.resyncDone s).mb.w0 (State.resyncDone s).mb.w2 := by
  unfold State.resyncDone
  repeat' split
  all_goals simp [h]

@[simp] theorem State.discardAfter_canon (s : State) (r : U32) (h : Canon s.mb.w0 s.mb.w2) :
    Canon (State.discardAfter s r).mb.w0 (State.discardAfter s r).mb.w2 := by simp [State.discardAfter, h]

@[simp] theorem State.resyncInstall_canon (s : State) (r : U32) (x : ResyncState) (h : Canon s.mb.w0 s.mb.w2) :
    Canon (State.resyncInstall s r x).mb.w0 (State.resyncInstall s r x).mb.w2 := by
  unfold State.resyncInstall
  (try simp only [])
  repeat' first
    | (simp +contextual (maxDischargeDepth := 30) [h, foldl_canon, -List.foldl_reverse]; done)
    | split
    | (refine foldl_canon _ _ _ (fun _ _ h => ?_) ?_)
    | (dsimp only)

@[simp] theorem State.firstOf_canon (s : State) (m : U32) (h : Canon s.mb.w0 s.mb.w2) :
    Canon (State.firstOf s m).mb.w0 (State.firstOf s m).mb.w2 := by
  unfold State.firstOf
  dsimp only
  repeat' split
  all_goals simp [h]

@[simp] theorem State.renderCheck_canon (s : State) (h : Canon s.mb.w0 s.mb.w2) : Canon (State.renderCheck s).mb.w0 (State.renderCheck s).mb.w2 := by
  unfold State.renderCheck
  dsimp only
  split
  · exact State.underImage_canon _ _ _ (by simp [h]) (fun t ht => by split <;> simp [ht])
  · exact h

@[simp] theorem State.dispatchTrap_canon (s : State) (n : Nat) (k : Fin 64) (h : Canon s.mb.w0 s.mb.w2) :
    Canon (State.dispatchTrap s n k).mb.w0 (State.dispatchTrap s n k).mb.w2 := by
  unfold State.dispatchTrap
  dsimp only
  repeat' split
  all_goals simp [h]

@[simp] theorem State.programRead_canon (s : State) (d : Desc) (k : Fin 64) (h : Canon s.mb.w0 s.mb.w2) :
    Canon (State.programRead s d k).mb.w0 (State.programRead s d k).mb.w2 := by
  unfold State.programRead
  (try simp only [])
  repeat' first
    | (simp +contextual (maxDischargeDepth := 30) [h, foldl_canon, -List.foldl_reverse]; done)
    | split
    | (refine foldl_canon _ _ _ (fun _ _ h => ?_) ?_)
    | (dsimp only)

@[simp] theorem State.dispatch_canon (s : State) (port : Fin 4) (h : Canon s.mb.w0 s.mb.w2) :
    Canon (State.dispatch s port).mb.w0 (State.dispatch s port).mb.w2 := by
  unfold State.dispatch
  (try simp only [])
  repeat' first
    | (simp +contextual (maxDischargeDepth := 30) [h, foldl_canon, -List.foldl_reverse]; done)
    | split
    | (refine foldl_canon _ _ _ (fun _ _ h => ?_) ?_)
    | (dsimp only)

@[simp] theorem State.taskWrites_canon (s : State) (d : Desc) (f : Flow) (r : TaskOut) (h : Canon s.mb.w0 s.mb.w2) :
    Canon (State.taskWrites s d f r).mb.w0 (State.taskWrites s d f r).mb.w2 := by simp [State.taskWrites, h]

@[simp] theorem State.packOf_canon (s : State) (route : Nat) (m : U32) (h : Canon s.mb.w0 s.mb.w2) :
    Canon (State.packOf s route m).mb.w0 (State.packOf s route m).mb.w2 := by
  unfold State.packOf
  repeat' split
  all_goals simp [h]

@[simp] theorem State.sendPacked_canon (s : State) (e : SendSlot) (h : Canon s.mb.w0 s.mb.w2) : Canon (State.sendPacked s e).mb.w0 (State.sendPacked s e).mb.w2 := by
  unfold State.sendPacked
  split
  · exact h
  · exact State.underImage_canon _ _ _ h (fun t ht => by split <;> simp [ht])

@[simp] theorem State.sendReady_canon (n : Nat) (s : State) (h : Canon s.mb.w0 s.mb.w2) : Canon (State.sendReady n s).mb.w0 (State.sendReady n s).mb.w2 := by
  induction n generalizing s with
  | zero => exact h
  | succ n ih =>
    unfold State.sendReady
    repeat' (first | (simp [ih, h]; done) | split)

@[simp] theorem State.flushSends_canon (s : State) (h : Canon s.mb.w0 s.mb.w2) :
    Canon (State.flushSends s).mb.w0 (State.flushSends s).mb.w2 := by
  unfold State.flushSends
  (try simp only [])
  repeat' first
    | (simp +contextual (maxDischargeDepth := 30) [h, foldl_canon, -List.foldl_reverse]; done)
    | split
    | (refine foldl_canon _ _ _ (fun _ _ h => ?_) ?_)
    | (dsimp only)

@[simp] theorem State.packTask_canon (s : State) (d : Desc) (h : Canon s.mb.w0 s.mb.w2) :
    Canon (State.packTask s d).mb.w0 (State.packTask s d).mb.w2 := by
  unfold State.packTask
  (try simp only [])
  repeat' first
    | (simp +contextual (maxDischargeDepth := 30) [h, foldl_canon, -List.foldl_reverse]; done)
    | split
    | (refine foldl_canon _ _ _ (fun _ _ h => ?_) ?_)
    | (dsimp only)

@[simp] theorem State.taskGrant_canon (s : State) (d : Desc) (h : Canon s.mb.w0 s.mb.w2) :
    Canon (State.taskGrant s d).mb.w0 (State.taskGrant s d).mb.w2 := by
  unfold State.taskGrant
  (try simp only [])
  repeat' first
    | (simp +contextual (maxDischargeDepth := 30) [h, foldl_canon, -List.foldl_reverse]; done)
    | split
    | (refine foldl_canon _ _ _ (fun _ _ h => ?_) ?_)
    | (dsimp only)

@[simp] theorem State.taskEnd_canon (s : State) (n : Nat) (h : Canon s.mb.w0 s.mb.w2) :
    Canon (State.taskEnd s n).mb.w0 (State.taskEnd s n).mb.w2 := by
  unfold State.taskEnd
  (try simp only [])
  repeat' first
    | (simp +contextual (maxDischargeDepth := 30) [h, foldl_canon, -List.foldl_reverse]; done)
    | split
    | (refine foldl_canon _ _ _ (fun _ _ h => ?_) ?_)
    | (dsimp only)

@[simp] theorem State.hedgerowRelease_canon (s : State) (h : Canon s.mb.w0 s.mb.w2) :
    Canon (State.hedgerowRelease s).mb.w0 (State.hedgerowRelease s).mb.w2 := by
  unfold State.hedgerowRelease
  (try simp only [])
  repeat' first
    | (simp +contextual (maxDischargeDepth := 30) [h, foldl_canon, -List.foldl_reverse]; done)
    | split
    | (refine foldl_canon _ _ _ (fun _ _ h => ?_) ?_)
    | (dsimp only)

@[simp] theorem State.askPack_canon (s : State) (m : U32) (h : Canon s.mb.w0 s.mb.w2) :
    Canon (State.askPack s m).mb.w0 (State.askPack s m).mb.w2 := by
  unfold State.askPack
  (try simp only [])
  repeat' first
    | (simp +contextual (maxDischargeDepth := 30) [h, foldl_canon, -List.foldl_reverse]; done)
    | split
    | (refine foldl_canon _ _ _ (fun _ _ h => ?_) ?_)
    | (dsimp only)

@[simp] theorem State.commitStats_canon (s : State) (m : U32) (t : Nat) (h : Canon s.mb.w0 s.mb.w2) :
    Canon (State.commitStats s m t).mb.w0 (State.commitStats s m t).mb.w2 := by simp [State.commitStats, h]

@[simp] theorem State.commit_canon (s : State) (m : U32) (h : Canon s.mb.w0 s.mb.w2) :
    Canon (State.commit s m).mb.w0 (State.commit s m).mb.w2 := by
  unfold State.commit
  (try simp only [])
  repeat' first
    | (simp +contextual (maxDischargeDepth := 30) [h, foldl_canon, -List.foldl_reverse]; done)
    | split
    | (refine foldl_canon _ _ _ (fun _ _ h => ?_) ?_)
    | (dsimp only)

@[simp] theorem State.commitStep_canon (s : State) (h : Canon s.mb.w0 s.mb.w2) :
    Canon (State.commitStep s).mb.w0 (State.commitStep s).mb.w2 := by simp [State.commitStep, h]

@[simp] theorem State.sendHeartbeat_canon (s : State) (h : Canon s.mb.w0 s.mb.w2) :
    Canon (State.sendHeartbeat s).mb.w0 (State.sendHeartbeat s).mb.w2 := by
  unfold State.sendHeartbeat
  dsimp only
  split <;> simp [h]

@[simp] theorem State.partnerShown_canon (s : State) (p : List U8) (h : Canon s.mb.w0 s.mb.w2) :
    Canon (State.partnerShown s p).mb.w0 (State.partnerShown s p).mb.w2 := by
  unfold State.partnerShown
  dsimp only
  repeat' split
  all_goals simp [h]

@[simp] theorem State.judgePin_canon (s : State) (h : Canon s.mb.w0 s.mb.w2) :
    Canon (State.judgePin s).mb.w0 (State.judgePin s).mb.w2 := by
  unfold State.judgePin
  repeat' split
  all_goals simp [h]

@[simp] theorem State.judgeRender_canon (s : State) (m : U32) (h : Canon s.mb.w0 s.mb.w2) :
    Canon (State.judgeRender s m).mb.w0 (State.judgeRender s m).mb.w2 := by simp [State.judgeRender, h]

@[simp] theorem State.planHeal_canon (s : State) (h : Canon s.mb.w0 s.mb.w2) :
    Canon (State.planHeal s).mb.w0 (State.planHeal s).mb.w2 := by simp [State.planHeal, h]

@[simp] theorem State.holderHears_canon (s : State) (h : Canon s.mb.w0 s.mb.w2) :
    Canon (State.holderHears s).mb.w0 (State.holderHears s).mb.w2 := by
  unfold State.holderHears
  (try simp only [])
  repeat' first
    | (simp +contextual (maxDischargeDepth := 30) [h, foldl_canon, -List.foldl_reverse]; done)
    | split
    | (refine foldl_canon _ _ _ (fun _ _ h => ?_) ?_)
    | (dsimp only)

@[simp] theorem State.heartbeatMsg_canon (s : State) (p : List U8) (h : Canon s.mb.w0 s.mb.w2) :
    Canon (State.heartbeatMsg s p).mb.w0 (State.heartbeatMsg s p).mb.w2 := by
  unfold State.heartbeatMsg
  (try simp only [])
  repeat' first
    | (simp +contextual (maxDischargeDepth := 30) [h, foldl_canon, -List.foldl_reverse]; done)
    | split
    | (refine foldl_canon _ _ _ (fun _ _ h => ?_) ?_)
    | (dsimp only)

@[simp] theorem State.silence_canon (s : State) (h : Canon s.mb.w0 s.mb.w2) :
    Canon (State.silence s).mb.w0 (State.silence s).mb.w2 := by
  unfold State.silence
  (try simp only [])
  repeat' first
    | (simp +contextual (maxDischargeDepth := 30) [h, foldl_canon, -List.foldl_reverse]; done)
    | split
    | (refine foldl_canon _ _ _ (fun _ _ h => ?_) ?_)
    | (dsimp only)

@[simp] theorem State.seeEpoch_canon (s : State) (e : U32) (h : Canon s.mb.w0 s.mb.w2) :
    Canon (State.seeEpoch s e).mb.w0 (State.seeEpoch s e).mb.w2 := by simp [State.seeEpoch, h]

@[simp] theorem State.releaseIn_canon (s : State) (p : List U8) (h : Canon s.mb.w0 s.mb.w2) :
    Canon (State.releaseIn s p).mb.w0 (State.releaseIn s p).mb.w2 := by
  unfold State.releaseIn
  (try simp only [])
  repeat' first
    | (simp +contextual (maxDischargeDepth := 30) [h, foldl_canon, -List.foldl_reverse]; done)
    | split
    | (refine foldl_canon _ _ _ (fun _ _ h => ?_) ?_)
    | (dsimp only)

@[simp] theorem State.claimIn_canon (s : State) (p : List U8) (h : Canon s.mb.w0 s.mb.w2) :
    Canon (State.claimIn s p).mb.w0 (State.claimIn s p).mb.w2 := by
  unfold State.claimIn
  (try simp only [])
  repeat' first
    | (simp +contextual (maxDischargeDepth := 30) [h, foldl_canon, -List.foldl_reverse]; done)
    | split
    | (refine foldl_canon _ _ _ (fun _ _ h => ?_) ?_)
    | (dsimp only)

@[simp] theorem State.revertIn_canon (s : State) (p : List U8) (h : Canon s.mb.w0 s.mb.w2) :
    Canon (State.revertIn s p).mb.w0 (State.revertIn s p).mb.w2 := by
  unfold State.revertIn
  (try simp only [])
  repeat' first
    | (simp +contextual (maxDischargeDepth := 30) [h, foldl_canon, -List.foldl_reverse]; done)
    | split
    | (refine foldl_canon _ _ _ (fun _ _ h => ?_) ?_)
    | (dsimp only)

@[simp] theorem State.handover_canon (s : State) (h : Handover) (hc : Canon s.mb.w0 s.mb.w2) :
    Canon (State.handover s h).mb.w0 (State.handover s h).mb.w2 := by
  unfold State.handover
  (try simp only [])
  repeat' first
    | (simp +contextual (maxDischargeDepth := 30) [hc, foldl_canon, -List.foldl_reverse]; done)
    | split
    | (refine foldl_canon _ _ _ (fun _ _ hc => ?_) ?_)
    | (dsimp only)

@[simp] theorem State.resyncIn_canon (s : State) (p : List U8) (h : Canon s.mb.w0 s.mb.w2) :
    Canon (State.resyncIn s p).mb.w0 (State.resyncIn s p).mb.w2 := by
  unfold State.resyncIn
  (try simp only [])
  repeat' first
    | (simp +contextual (maxDischargeDepth := 30) [h, foldl_canon, -List.foldl_reverse]; done)
    | split
    | (refine foldl_canon _ _ _ (fun _ _ h => ?_) ?_)
    | (dsimp only)

@[simp] theorem State.setPier_canon (p : List U8) (s : State) (h : Canon s.mb.w0 s.mb.w2) :
    Canon (State.setPier p s).mb.w0 (State.setPier p s).mb.w2 := by simp [State.setPier, h]

@[simp] theorem State.setPairing_canon (p : List U8) (s : State) (h : Canon s.mb.w0 s.mb.w2) : Canon (State.setPairing p s).mb.w0 (State.setPairing p s).mb.w2 := by
  have key : ∀ t : State, Canon t.mb.w0 t.mb.w2 →
      let u := if t.running then t else if (pierCfg p).enable then (if t.pier.st = 0 then t.pierTo 1 else t) else t.pierTo 0
      Canon u.mb.w0 u.mb.w2 := by
    intro t ht
    dsimp only
    repeat' split
    all_goals simp [ht]
  refine key _ ?_
  split
  · exact h
  · exact State.memberChange_canon _ _ (fun t ht => ht) h

@[simp] theorem canonE_pierControl (s : State) (a b : Bool) (f : State → State) (h : Canon (f s).mb.w0 (f s).mb.w2) :
    CanonE (s.pierControl a b f) := by
  unfold State.pierControl
  exact canonE_require _ _ _ (canonE_require _ _ _ (canonE_require _ _ _ (by simp [h])))

@[simp] theorem State.gridStopAt_canon (s : State) (m : U32) (h : Canon s.mb.w0 s.mb.w2) :
    Canon (State.gridStopAt s m).mb.w0 (State.gridStopAt s m).mb.w2 := by
  unfold State.gridStopAt
  split <;> simp [h]

@[simp] theorem gridSet_canon (q : Req) (s : State) (h : Canon s.mb.w0 s.mb.w2) :
    Canon (gridSet q s).mb.w0 (gridSet q s).mb.w2 := by
  unfold gridSet
  refine serve_canon _ _ _ _ _ h (fun s h => ?_)
  refine canonE_require _ _ _ ?_
  split
  · refine canonE_require _ _ _ ?_
    split <;> exact canonE_require _ _ _ (by simp [h])
  · split
    · exact canonE_require _ _ _ (by simp [h])
    · simp [h]

@[simp] theorem State.tickBoundary_canon (s : State) (h : Canon s.mb.w0 s.mb.w2) :
    Canon (State.tickBoundary s).mb.w0 (State.tickBoundary s).mb.w2 := by simp [State.tickBoundary, h]

@[simp] theorem State.present_canon (s : State) (m : U32) (h : Canon s.mb.w0 s.mb.w2) :
    Canon (State.present s m).mb.w0 (State.present s m).mb.w2 := by
  unfold State.present
  (try simp only [])
  repeat' first
    | (simp +contextual (maxDischargeDepth := 30) [h, foldl_canon, -List.foldl_reverse]; done)
    | split
    | (refine foldl_canon _ _ _ (fun _ _ h => ?_) ?_)
    | (dsimp only)

@[simp] theorem State.houseAssert_canon (s : State) (h : Canon s.mb.w0 s.mb.w2) :
    Canon (State.houseAssert s).mb.w0 (State.houseAssert s).mb.w2 := by
  unfold State.houseAssert
  dsimp only
  split <;> simp [h]

@[simp] theorem State.houseRelease_canon (s : State) (h : Canon s.mb.w0 s.mb.w2) :
    Canon (State.houseRelease s).mb.w0 (State.houseRelease s).mb.w2 := by simp [State.houseRelease, h]

@[simp] theorem State.houseNow_canon (s : State) (new : U32) (h : Canon s.mb.w0 s.mb.w2) :
    Canon (State.houseNow s new).mb.w0 (State.houseNow s new).mb.w2 := by
  unfold State.houseNow
  (try simp only [])
  repeat' first
    | (simp +contextual (maxDischargeDepth := 30) [h, foldl_canon, -List.foldl_reverse]; done)
    | split
    | (refine foldl_canon _ _ _ (fun _ _ h => ?_) ?_)
    | (dsimp only)

@[simp] theorem State.houseApply_canon (s : State) (h : Canon s.mb.w0 s.mb.w2) :
    Canon (State.houseApply s).mb.w0 (State.houseApply s).mb.w2 := by
  unfold State.houseApply
  (try simp only [])
  repeat' first
    | (simp +contextual (maxDischargeDepth := 30) [h, foldl_canon, -List.foldl_reverse]; done)
    | split
    | (refine foldl_canon _ _ _ (fun _ _ h => ?_) ?_)
    | (dsimp only)

@[simp] theorem State.excludeSensors_canon (s : State) (h : Canon s.mb.w0 s.mb.w2) :
    Canon (State.excludeSensors s).mb.w0 (State.excludeSensors s).mb.w2 := foldl_canon _ _ _ (fun _ _ h => by simp [h]) h

@[simp] theorem State.orderlyStop_canon (s : State) (h : Canon s.mb.w0 s.mb.w2) :
    Canon (State.orderlyStop s).mb.w0 (State.orderlyStop s).mb.w2 := by
  unfold State.orderlyStop
  (try simp only [])
  repeat' first
    | (simp +contextual (maxDischargeDepth := 30) [h, foldl_canon, -List.foldl_reverse]; done)
    | split
    | (refine foldl_canon _ _ _ (fun _ _ h => ?_) ?_)
    | (dsimp only)

@[simp] theorem State.levelChanged_canon (s : State) (prev : Nat) (h : Canon s.mb.w0 s.mb.w2) :
    Canon (State.levelChanged s prev).mb.w0 (State.levelChanged s prev).mb.w2 := by
  unfold State.levelChanged
  (try simp only [])
  repeat' first
    | (simp +contextual (maxDischargeDepth := 30) [h, foldl_canon, -List.foldl_reverse]; done)
    | split
    | (refine foldl_canon _ _ _ (fun _ _ h => ?_) ?_)
    | (dsimp only)

@[simp] theorem State.thermalEvaluate_canon (s : State) (r : ThermalRead) (h : Canon s.mb.w0 s.mb.w2) :
    Canon (State.thermalEvaluate s r).mb.w0 (State.thermalEvaluate s r).mb.w2 := by
  unfold State.thermalEvaluate
  dsimp only
  repeat' split
  all_goals simp [h]

@[simp] theorem State.reborn_canon (s : State) (cause : Nat) (h : Canon s.mb.w0 s.mb.w2) :
    Canon (State.reborn s cause).mb.w0 (State.reborn s cause).mb.w2 := by
  exact canon_nil

@[simp] theorem State.powerOff_canon (s : State) (heat : Bool) (h : Canon s.mb.w0 s.mb.w2) :
    Canon (State.powerOff s heat).mb.w0 (State.powerOff s heat).mb.w2 := by
  unfold State.powerOff
  (try simp only [])
  repeat' first
    | (simp +contextual (maxDischargeDepth := 30) [h, foldl_canon, -List.foldl_reverse]; done)
    | split
    | (refine foldl_canon _ _ _ (fun _ _ h => ?_) ?_)
    | (dsimp only)

@[simp] theorem State.blankBox_canon (s : State) (h : Canon s.mb.w0 s.mb.w2) :
    Canon (State.blankBox s).mb.w0 (State.blankBox s).mb.w2 := by simp [State.blankBox, h]

@[simp] theorem State.bankPairs_canon (s : State) (bank : Fin 2) (f : Pair → Pair) (h : Canon s.mb.w0 s.mb.w2) :
    Canon (State.bankPairs s bank f).mb.w0 (State.bankPairs s bank f).mb.w2 := by simp [State.bankPairs, h]

@[simp] theorem powerModeSet_canon (q : Req) (s : State) (h : Canon s.mb.w0 s.mb.w2) :
    Canon (powerModeSet q s).mb.w0 (powerModeSet q s).mb.w2 := by
  unfold powerModeSet
  refine serve_canon _ _ _ _ _ h (fun s h => ?_)
  repeat' first
    | (refine canonE_require _ _ _ ?_)
    | (refine canonE_bulkLength _ _ _ ?_)
    | (refine canonE_withBulk _ _ _ _ _ (by simp [h]) (fun _ => ?_))
    | (refine canonE_onSpan _ _ (fun _ => ?_))
    | (refine canonE_onLane _ _ (fun _ _ => ?_))
    | (refine canonE_onRdm _ _ _ (fun _ => ?_))
    | (refine canonE_pierControl _ _ _ _ ?_)
    | (exact State.settle_canon _ _ _ (by simp [h]))
    | (simp (maxDischargeDepth := 30) [h]; done)
    | split
    | (simp (maxDischargeDepth := 30) [h, foldl_canon, -List.foldl_reverse]; done)
    | (dsimp only)

@[simp] theorem State.setWake_canon (p : List U8) (s : State) (h : Canon s.mb.w0 s.mb.w2) :
    Canon (State.setWake p s).mb.w0 (State.setWake p s).mb.w2 := by simp [State.setWake, h]

@[simp] theorem State.setThermal_canon (p : List U8) (s : State) (h : Canon s.mb.w0 s.mb.w2) :
    Canon (State.setThermal p s).mb.w0 (State.setThermal p s).mb.w2 := by simp [State.setThermal, h]

@[simp] theorem State.modCh_canon (s : State) (c : Fin 8) (f : Chan → Chan) (h : Canon s.mb.w0 s.mb.w2) :
    Canon (State.modCh s c f).mb.w0 (State.modCh s c f).mb.w2 := by simp [State.modCh, h]

@[simp] theorem State.writeUnits_canon (s : State) (c : Fin 8) (k : U16) (bytes : List U8) (h :
    Canon s.mb.w0 s.mb.w2) : Canon (State.writeUnits s c k bytes).mb.w0 (State.writeUnits s c k bytes).mb.w2 := by
  unfold State.writeUnits
  exact foldl_canon _ _ _ (fun _ _ h => canon_writes _ _ _ _ h) h

theorem State.messageKey_canon (s : State) (i : U32) (r : State × List U8) (e : s.messageKey i = .ok r) (h : Canon s.mb.w0 s.mb.w2) :
    Canon r.1.mb.w0 r.1.mb.w2 := by
  simp only [State.messageKey] at e
  repeat' split at e
  all_goals first
    | (cases e; done)
    | (cases e; simp [h]; done)
    | (cases e; exact State.derive_canon _ _ _ _ _ _ ‹_› h)

@[simp] theorem State.signed_canon (s : State) (c : Fin 8) (r : Rsp) (h : Canon s.mb.w0 s.mb.w2) :
    Canon ((s.signed c r).1).mb.w0 ((s.signed c r).1).mb.w2 := by
  unfold State.signed
  dsimp only
  split
  · exact h
  · split
    · rename_i k e
      exact State.messageKey_canon _ _ k e h
    · exact h

@[simp] theorem State.sendBack_canon (s : State) (v : Via) (bytes : List U8) (h : Canon s.mb.w0 s.mb.w2) :
    Canon (State.sendBack s v bytes).mb.w0 (State.sendBack s v bytes).mb.w2 := by
  unfold State.sendBack
  split <;> simp [h]

@[simp] theorem State.authFail_canon (s : State) (v : Via) (chan : Nat) (key : U32) (h : Canon s.mb.w0 s.mb.w2) :
    Canon (State.authFail s v chan key).mb.w0 (State.authFail s v chan key).mb.w2 := by
  unfold State.authFail
  dsimp only
  repeat' split
  all_goals simp [h]

@[simp] theorem State.authPass_canon (s : State) (v : Via) (chan : Nat) (h : Canon s.mb.w0 s.mb.w2) :
    Canon (State.authPass s v chan).mb.w0 (State.authPass s v chan).mb.w2 := by simp [State.authPass, h]

@[simp] theorem State.answerNow_canon (s : State) (v : Via) (h : MsgHead) (e : Status) (hc : Canon s.mb.w0 s.mb.w2) :
    Canon (State.answerNow s v h e).mb.w0 (State.answerNow s v h e).mb.w2 := by
  unfold State.answerNow
  (try simp only [])
  repeat' first
    | (simp +contextual (maxDischargeDepth := 30) [hc, foldl_canon, -List.foldl_reverse]; done)
    | split
    | (refine foldl_canon _ _ _ (fun _ _ hc => ?_) ?_)
    | (dsimp only)

@[simp] theorem State.deny_canon (s : State) (v : Via) (h : MsgHead) (hc : Canon s.mb.w0 s.mb.w2) :
    Canon (State.deny s v h).mb.w0 (State.deny s v h).mb.w2 := by
  unfold State.deny
  (try simp only [])
  repeat' first
    | (simp +contextual (maxDischargeDepth := 30) [hc, foldl_canon, -List.foldl_reverse]; done)
    | split
    | (refine foldl_canon _ _ _ (fun _ _ hc => ?_) ?_)
    | (dsimp only)

@[simp] theorem State.arrive_canon (s : State) (v : Via) (b : List U8) (h : Canon s.mb.w0 s.mb.w2) :
    Canon (s.arrive v b).mb.w0 (s.arrive v b).mb.w2 := by
  unfold State.arrive
  dsimp only
  split
  · split
    · exact State.deny_canon _ _ _ (State.authFail_canon _ _ _ _ h)
    · split
      · exact State.answerNow_canon _ _ _ _ (State.keyNeeded_canon _ _ _ _ h)
      · exact State.deny_canon _ _ _ (State.authFail_canon _ _ _ _ h)
      · rename_i t k e
        have h' := State.messageKey_canon _ _ _ e h
        split
        · exact State.deny_canon _ _ _ (State.authFail_canon _ _ _ _ h')
        · split
          · exact State.authPass_canon _ v (msgHead b).chan h'
          · split
            · split
              · exact h'
              · exact State.sendBack_canon _ _ _ h'
            · exact State.deny_canon _ _ _ (State.authFail_canon _ _ _ _ h')
  · exact State.deny_canon _ _ _ (State.authFail_canon _ _ _ _ h)

@[simp] theorem State.takeUp_canon (s : State) (c : Fin 8) (f : Front) (e : Option Status) (h :
    Canon s.mb.w0 s.mb.w2) : Canon (State.takeUp s c f e).mb.w0 (State.takeUp s c f e).mb.w2 := by
  unfold State.takeUp
  (try simp only [])
  repeat' first
    | (simp +contextual (maxDischargeDepth := 30) [h, foldl_canon, -List.foldl_reverse]; done)
    | split
    | (refine foldl_canon _ _ _ (fun _ _ h => ?_) ?_)
    | (dsimp only)

@[simp] theorem State.countLosses_canon (s : State) (w : Fin 8) (h : Canon s.mb.w0 s.mb.w2) :
    Canon (State.countLosses s w).mb.w0 (State.countLosses s w).mb.w2 := by simp [State.countLosses, h]

@[simp] theorem State.takeNext_canon (s : State) (h : Canon s.mb.w0 s.mb.w2) :
    Canon (State.takeNext s).mb.w0 (State.takeNext s).mb.w2 := by
  unfold State.takeNext
  dsimp only
  repeat' split
  all_goals simp [h]

@[simp] theorem State.doorbell_canon (s : State) (c : Fin 8) (v : U16) (h : Canon s.mb.w0 s.mb.w2) :
    Canon (State.doorbell s c v).mb.w0 (State.doorbell s c v).mb.w2 := by simp [State.doorbell, h]

@[simp] theorem State.rspHead_canon (s : State) (c : Fin 8) (v : U16) (h : Canon s.mb.w0 s.mb.w2) :
    Canon (State.rspHead s c v).mb.w0 (State.rspHead s c v).mb.w2 := by simp [State.rspHead, h]

@[simp] theorem State.evtHead_canon (s : State) (v : U16) (h : Canon s.mb.w0 s.mb.w2) :
    Canon (State.evtHead s v).mb.w0 (State.evtHead s v).mb.w2 := by
  unfold State.evtHead
  (try simp only [])
  repeat' first
    | (simp +contextual (maxDischargeDepth := 30) [h, foldl_canon, -List.foldl_reverse]; done)
    | split
    | (refine foldl_canon _ _ _ (fun _ _ h => ?_) ?_)
    | (dsimp only)

@[simp] theorem State.msixMask_canon (s : State) (v : Nat) (masked : Bool) (h : Canon s.mb.w0 s.mb.w2) :
    Canon (State.msixMask s v masked).mb.w0 (State.msixMask s v masked).mb.w2 := by
  unfold State.msixMask
  split <;> simp [h]

@[simp] theorem State.w0Bytes_canon (s : State) (a : Nat) (b : List U8) (h : Canon s.mb.w0 s.mb.w2) :
    Canon (State.w0Bytes s a b).mb.w0 (State.w0Bytes s a b).mb.w2 := by
  unfold State.w0Bytes
  refine foldl_canon _ _ _ (fun _ _ h => ?_) h
  dsimp only
  split
  · split
    · exact State.msixMask_canon _ _ _ (canon_set _ _ _ _ h)
    · exact canon_set _ _ _ _ h
  · exact h

@[simp] theorem State.w2Bytes_canon (s : State) (a : Nat) (b : List U8) (h : Canon s.mb.w0 s.mb.w2) :
    Canon (State.w2Bytes s a b).mb.w0 (State.w2Bytes s a b).mb.w2 := by
  unfold State.w2Bytes
  split
  · exact canon_writes2 _ _ _ _ h
  · exact h

@[simp] theorem State.setMb_canon (p : List U8) (s : State) (h : Canon s.mb.w0 s.mb.w2) :
    Canon (State.setMb p s).mb.w0 (State.setMb p s).mb.w2 := by
  unfold State.setMb
  split <;> simp [h]

@[simp] theorem State.setUdp_canon (p : List U8) (s : State) (h : Canon s.mb.w0 s.mb.w2) :
    Canon (State.setUdp p s).mb.w0 (State.setUdp p s).mb.w2 := by simp [State.setUdp, h]

@[simp] theorem State.setEvent_canon (p : List U8) (s : State) (h : Canon s.mb.w0 s.mb.w2) :
    Canon (State.setEvent p s).mb.w0 (State.setEvent p s).mb.w2 := by simp [State.setEvent, h]

@[simp] theorem State.dmaFails_canon (s : State) (u : DmaUser) (addr : Nat) (h : Canon s.mb.w0 s.mb.w2) :
    Canon (State.dmaFails s u addr).mb.w0 (State.dmaFails s u addr).mb.w2 := by
  unfold State.dmaFails
  split <;> simp [h]

@[simp] theorem State.endpointReset_canon (s : State) (h : Canon s.mb.w0 s.mb.w2) :
    Canon (State.endpointReset s).mb.w0 (State.endpointReset s).mb.w2 := by
  unfold State.endpointReset
  (try simp only [])
  repeat' first
    | (simp +contextual (maxDischargeDepth := 30) [h, foldl_canon, -List.foldl_reverse]; done)
    | split
    | (refine foldl_canon _ _ _ (fun _ _ h => ?_) ?_)
    | (dsimp only)

@[simp] theorem State.spiError_canon (s : State) (case : Nat) (h : Canon s.mb.w0 s.mb.w2) :
    Canon (State.spiError s case).mb.w0 (State.spiError s case).mb.w2 := by simp [State.spiError, h]

@[simp] theorem State.spiRange_canon (s : State) (a : Nat) (n : Nat) (h : Canon s.mb.w0 s.mb.w2) :
    Canon (State.spiRange s a n).mb.w0 (State.spiRange s a n).mb.w2 := by simp [State.spiRange, h]

@[simp] theorem State.spiGood_canon (s : State) (h : Canon s.mb.w0 s.mb.w2) :
    Canon (State.spiGood s).mb.w0 (State.spiGood s).mb.w2 := by simp [State.spiGood, h]

@[simp] theorem State.spiWord_canon (s : State) (a : Nat) (b : List U8) (h : Canon s.mb.w0 s.mb.w2) :
    Canon (State.spiWord s a b).mb.w0 (State.spiWord s a b).mb.w2 := by
  unfold State.spiWord
  dsimp only
  repeat' split
  all_goals simp [h]

@[simp] theorem State.spiBell_canon (s : State) (a : Nat) (b : List U8) (h : Canon s.mb.w0 s.mb.w2) :
    Canon (State.spiBell s a b).mb.w0 (State.spiBell s a b).mb.w2 := by simp [State.spiBell, h]

@[simp] theorem State.spiWrite_canon (s : State) (a : Nat) (data : List U8) (part : Bool) (h :
    Canon s.mb.w0 s.mb.w2) : Canon (State.spiWrite s a data part).mb.w0 (State.spiWrite s a data part).mb.w2 := by
  unfold State.spiWrite
  (try simp only [])
  repeat' first
    | (simp +contextual (maxDischargeDepth := 30) [h, foldl_canon, -List.foldl_reverse]; done)
    | split
    | (refine foldl_canon _ _ _ (fun _ _ h => ?_) ?_)
    | (dsimp only)

@[simp] theorem State.spiRead_canon (s : State) (a : Nat) (n : Nat) (part : Bool) (h : Canon s.mb.w0 s.mb.w2) :
    Canon (State.spiRead s a n part).mb.w0 (State.spiRead s a n part).mb.w2 := by
  unfold State.spiRead
  (try simp only [])
  repeat' first
    | (simp +contextual (maxDischargeDepth := 30) [h, foldl_canon, -List.foldl_reverse]; done)
    | split
    | (refine foldl_canon _ _ _ (fun _ _ h => ?_) ?_)
    | (dsimp only)

@[simp] theorem State.afterResponse_canon (s : State) (x : Nat × List U8) (h : Canon s.mb.w0 s.mb.w2) :
    Canon (State.afterResponse s x).mb.w0 (State.afterResponse s x).mb.w2 := by
  unfold State.afterResponse
  repeat' split
  all_goals simp [h]

@[simp] theorem State.responseDone_canon (s : State) (c : Fin 8) (r : Rsp) (h : Canon s.mb.w0 s.mb.w2) :
    Canon (State.responseDone s c r).mb.w0 (State.responseDone s c r).mb.w2 := by
  unfold State.responseDone
  split <;> simp [h]

@[simp] theorem State.ringResponse_canon (s : State) (c : Fin 8) (r : Rsp) (h : Canon s.mb.w0 s.mb.w2) :
    Canon (State.ringResponse s c r).mb.w0 (State.ringResponse s c r).mb.w2 := by
  unfold State.ringResponse
  (try simp only [])
  repeat' first
    | (simp +contextual (maxDischargeDepth := 30) [h, foldl_canon, -List.foldl_reverse]; done)
    | split
    | (refine foldl_canon _ _ _ (fun _ _ h => ?_) ?_)
    | (dsimp only)

@[simp] theorem State.relayReply_canon (s : State) (node : U32) (b : List U8) (h : Canon s.mb.w0 s.mb.w2) :
    Canon (State.relayReply s node b).mb.w0 (State.relayReply s node b).mb.w2 := by
  unfold State.relayReply
  repeat' split
  all_goals simp [h]

@[simp] theorem State.bulkOver_canon (s : State) (h : Canon s.mb.w0 s.mb.w2) :
    Canon (State.bulkOver s).mb.w0 (State.bulkOver s).mb.w2 := foldl_canon _ _ _ (fun _ _ h => by simp [h]) h

@[simp] theorem State.bulkTimeout_canon (s : State) (e : Nat × Stream) (h : Canon s.mb.w0 s.mb.w2) :
    Canon (State.bulkTimeout s e).mb.w0 (State.bulkTimeout s e).mb.w2 := by
  unfold State.bulkTimeout
  repeat' split
  all_goals simp [h]

@[simp] theorem State.relaySend_canon (s : State) (q : Req) (msg : List U8) (data : List U8) (h :
    Canon s.mb.w0 s.mb.w2) : Canon (State.relaySend s q msg data).mb.w0 (State.relaySend s q msg data).mb.w2 := by
  unfold State.relaySend
  dsimp only
  split <;> simp [h]

@[simp] theorem State.applyBoundary_canon (s : State) (x : Nat × List U8) (h : Canon s.mb.w0 s.mb.w2) :
    Canon (State.applyBoundary s x).mb.w0 (State.applyBoundary s x).mb.w2 := by
  unfold State.applyBoundary
  (try simp only [])
  repeat' first
    | (simp +contextual (maxDischargeDepth := 30) [h, foldl_canon, -List.foldl_reverse]; done)
    | split
    | (refine foldl_canon _ _ _ (fun _ _ h => ?_) ?_)
    | (dsimp only)

@[simp] theorem State.saveSettings_canon (s : State) (bank : Fin 2) (next : Nat) (erase : Bool) (h :
    Canon s.mb.w0 s.mb.w2) :
        Canon (State.saveSettings s bank next erase).mb.w0
            (State.saveSettings s bank next erase).mb.w2 := by simp [State.saveSettings, h]

@[simp] theorem State.setGrid_canon (p : List U8) (s : State) (h : Canon s.mb.w0 s.mb.w2) :
    Canon (State.setGrid p s).mb.w0 (State.setGrid p s).mb.w2 := by simp [State.setGrid, h]

@[simp] theorem State.applyStored_canon (s : State) (op : Nat) (p : List U8) (h : Canon s.mb.w0 s.mb.w2) :
    Canon (State.applyStored s op p).mb.w0 (State.applyStored s op p).mb.w2 := by
  unfold State.applyStored
  repeat' (first | split | exact h | (simp (maxDischargeDepth := 30) [h]; done))

@[simp] theorem State.applySettings_canon (s : State) (x : Stored) (h : Canon s.mb.w0 s.mb.w2) :
    Canon (State.applySettings s x).mb.w0 (State.applySettings s x).mb.w2 := foldl_canon _ _ _ (fun _ _ h => by simp [h]) h

@[simp] theorem State.stationFloors_canon (s : State) (h : Canon s.mb.w0 s.mb.w2) :
    Canon (State.stationFloors s).mb.w0 (State.stationFloors s).mb.w2 := by simp [State.stationFloors, h]

@[simp] theorem State.pinsResume_canon (s : State) (h : Canon s.mb.w0 s.mb.w2) :
    Canon (State.pinsResume s).mb.w0 (State.pinsResume s).mb.w2 := foldl_canon _ _ _ (fun _ _ h => by simp [h]) h

@[simp] theorem State.firstFrame_canon (s : State) (h : Canon s.mb.w0 s.mb.w2) :
    Canon (State.firstFrame s).mb.w0 (State.firstFrame s).mb.w2 := by simp [State.firstFrame, h]

@[simp] theorem State.boundarySettings_canon (s : State) (h : Canon s.mb.w0 s.mb.w2) :
    Canon (State.boundarySettings s).mb.w0 (State.boundarySettings s).mb.w2 := foldl_canon _ _ _
        (fun _ _ h => by simp [h]) h

@[simp] theorem State.boundaryLead_canon (s : State) (h : Canon s.mb.w0 s.mb.w2) :
    Canon (State.boundaryLead s).mb.w0 (State.boundaryLead s).mb.w2 := by simp [State.boundaryLead, h]

@[simp] theorem State.epochStep_canon (s : State) (h : Canon s.mb.w0 s.mb.w2) :
    Canon (State.epochStep s).mb.w0 (State.epochStep s).mb.w2 := by
  unfold State.epochStep
  split <;> simp [h]

@[simp] theorem State.frameBoundary_canon (s : State) (h : Canon s.mb.w0 s.mb.w2) :
    Canon (State.frameBoundary s).mb.w0 (State.frameBoundary s).mb.w2 := by
  unfold State.frameBoundary
  (try simp only [])
  repeat' first
    | (simp +contextual (maxDischargeDepth := 30) [h, foldl_canon, -List.foldl_reverse]; done)
    | split
    | (refine foldl_canon _ _ _ (fun _ _ h => ?_) ?_)
    | (dsimp only)

@[simp] theorem State.profileDefaults_canon (s : State) (profile : U8) (h : Canon s.mb.w0 s.mb.w2) :
    Canon (State.profileDefaults s profile).mb.w0
        (State.profileDefaults s profile).mb.w2 := by simp [State.profileDefaults, h]

@[simp] theorem State.bootSettings_canon (s : State) (x : Option Stored) (h : Canon s.mb.w0 s.mb.w2) :
    Canon (State.bootSettings s x).mb.w0 (State.bootSettings s x).mb.w2 := by
  unfold State.bootSettings
  repeat' split
  all_goals simp [h]

@[simp] theorem State.bootBox_canon (s : State) (h : Canon s.mb.w0 s.mb.w2) :
    Canon (State.bootBox s).mb.w0 (State.bootBox s).mb.w2 := by
  unfold State.bootBox
  (try simp only [])
  repeat' first
    | (simp +contextual (maxDischargeDepth := 30) [h, foldl_canon, -List.foldl_reverse]; done)
    | split
    | (refine foldl_canon _ _ _ (fun _ _ h => ?_) ?_)
    | (dsimp only)

@[simp] theorem State.reportReady_canon (s : State) (bank : Fin 2) (h : Canon s.mb.w0 s.mb.w2) :
    Canon (State.reportReady s bank).mb.w0 (State.reportReady s bank).mb.w2 := by
  unfold State.reportReady
  (try simp only [])
  repeat' first
    | (simp +contextual (maxDischargeDepth := 30) [h, foldl_canon, -List.foldl_reverse]; done)
    | split
    | (refine foldl_canon _ _ _ (fun _ _ h => ?_) ?_)
    | (dsimp only)

@[simp] theorem State.bootBank_canon (s : State) (r : BootRead) (b : Fin 2) (h : Canon s.mb.w0 s.mb.w2) :
    Canon (State.bootBank s r b).mb.w0 (State.bootBank s r b).mb.w2 := by
  unfold State.bootBank
  (try simp only [])
  repeat' first
    | (simp +contextual (maxDischargeDepth := 30) [h, foldl_canon, -List.foldl_reverse]; done)
    | split
    | (refine foldl_canon _ _ _ (fun _ _ h => ?_) ?_)
    | (dsimp only)

@[simp] theorem State.recovery_canon (s : State) (r : BootRead) (h : Canon s.mb.w0 s.mb.w2) :
    Canon (State.recovery s r).mb.w0 (State.recovery s r).mb.w2 := by simp [State.recovery, h]

@[simp] theorem State.boot_canon (s : State) (r : BootRead) (h : Canon s.mb.w0 s.mb.w2) :
    Canon (State.boot s r).mb.w0 (State.boot s r).mb.w2 := by
  unfold State.boot
  dsimp only
  repeat' split
  all_goals simp [h]

@[simp] theorem State.deckTested_canon (s : State) (h : Canon s.mb.w0 s.mb.w2) :
    Canon (State.deckTested s).mb.w0 (State.deckTested s).mb.w2 := by simp [State.deckTested, h]

@[simp] theorem State.inject_canon (s : State) (kind : Nat) (count : Nat) (arg : Nat) (apply : U32) (h :
    Canon s.mb.w0 s.mb.w2) :
        Canon (State.inject s kind count arg apply).mb.w0 (State.inject s kind count arg apply).mb.w2 := by
  unfold State.inject
  split <;> simp [h]

@[simp] theorem faultInject_canon (q : Req) (s : State) (h : Canon s.mb.w0 s.mb.w2) :
    Canon (faultInject q s).mb.w0 (faultInject q s).mb.w2 := by
  unfold faultInject
  refine serve_canon _ _ _ _ _ h (fun s h => ?_)
  repeat' first
    | (refine canonE_require _ _ _ ?_)
    | (refine canonE_bulkLength _ _ _ ?_)
    | (refine canonE_withBulk _ _ _ _ _ (by simp [h]) (fun _ => ?_))
    | (refine canonE_onSpan _ _ (fun _ => ?_))
    | (refine canonE_onLane _ _ (fun _ _ => ?_))
    | (refine canonE_onRdm _ _ _ (fun _ => ?_))
    | (refine canonE_pierControl _ _ _ _ ?_)
    | (exact State.settle_canon _ _ _ (by simp [h]))
    | (simp (maxDischargeDepth := 30) [h]; done)
    | split
    | (simp (maxDischargeDepth := 30) [h, foldl_canon, -List.foldl_reverse]; done)
    | (dsimp only)

end Sys2Proof.Machine
end

