-- ==== Sys2Proof/Laws/CanonRows.lean ====
section
/-! SUPPORT. Laws/CanonRows.lean: windows W0 and W2 stay in canonical form under every command, one lemma per command. -/
namespace Sys2Proof.Machine
open Sys2Proof

theorem execTimeGet_canon (q : Req) (s : State) (h :
    Canon s.mb.w0 s.mb.w2) : Tidy (execTimeGet q s) := tidy_next (serve_canon _ _ _ _ _ h fun _ h => by simp [h])

theorem execServoSet_canon (q : Req) (s : State) (h :
    Canon s.mb.w0 s.mb.w2) : Tidy (execServoSet q s) := tidy_next
        (serve_canon _ _ _ _ _ h fun _ h => canonE_require _ _ _ (by simp [h]))

theorem execClockModelSet_canon (q : Req) (s : State) (h : Canon s.mb.w0 s.mb.w2) : Tidy (execClockModelSet q s) := by
  unfold execClockModelSet
  refine tidy_next (serve_canon _ _ _ _ _ h (fun s h => ?_))
  repeat' first
    | (refine canonE_require _ _ _ ?_)
    | (refine canonE_bulkLength _ _ _ ?_)
    | (refine canonE_withBulk _ _ _ _ _ (by simp [h]) (fun _ => ?_))
    | (refine canonE_onSpan _ _ (fun _ => ?_))
    | (refine canonE_onLane _ _ (fun _ _ => ?_))
    | (refine canonE_onRdm _ _ _ (fun _ => ?_))
    | (refine canonE_pierControl _ _ _ _ ?_)
    | (exact State.settle_canon _ _ _ (by simp [h]))
    | (simp (maxDischargeDepth := 30) [h]; done)
    | split
    | (simp (maxDischargeDepth := 30) [h, foldl_canon, -List.foldl_reverse]; done)
    | (dsimp only)

theorem execTimeStep_canon (q : Req) (s : State) (h :
    Canon s.mb.w0 s.mb.w2) : Tidy (execTimeStep q s) := tidy_next (serve_canon _ _ _ _ _ h fun _ h => by simp [h])

theorem execGridGet_canon (q : Req) (s : State) (h :
    Canon s.mb.w0 s.mb.w2) : Tidy (execGridGet q s) := tidy_next (serve_canon _ _ _ _ _ h fun _ h => by simp [h])

theorem execSlotArm_canon (q : Req) (s : State) (h :
    Canon s.mb.w0 s.mb.w2) : Tidy (execSlotArm q s) := tidy_next (serve_canon _ _ _ _ _ h fun _ h => by simp [h])

theorem execSlotCancel_canon (q : Req) (s : State) (h : Canon s.mb.w0 s.mb.w2) : Tidy (execSlotCancel q s) := by
  unfold execSlotCancel
  refine tidy_next (serve_canon _ _ _ _ _ h (fun s h => ?_))
  repeat' first
    | (refine canonE_require _ _ _ ?_)
    | (refine canonE_bulkLength _ _ _ ?_)
    | (refine canonE_withBulk _ _ _ _ _ (by simp [h]) (fun _ => ?_))
    | (refine canonE_onSpan _ _ (fun _ => ?_))
    | (refine canonE_onLane _ _ (fun _ _ => ?_))
    | (refine canonE_onRdm _ _ _ (fun _ => ?_))
    | (refine canonE_pierControl _ _ _ _ ?_)
    | (exact State.settle_canon _ _ _ (by simp [h]))
    | (simp (maxDischargeDepth := 30) [h]; done)
    | split
    | (simp (maxDischargeDepth := 30) [h, foldl_canon, -List.foldl_reverse]; done)
    | (dsimp only)

theorem execSlotStatus_canon (q : Req) (s : State) (h :
    Canon s.mb.w0 s.mb.w2) : Tidy (execSlotStatus q s) := tidy_next (serve_canon _ _ _ _ _ h fun _ h => by simp [h])

theorem execTimecodeSet_canon (q : Req) (s : State) (h :
    Canon s.mb.w0 s.mb.w2) : Tidy (execTimecodeSet q s) := tidy_next
        (serve_canon _ _ _ _ _ h fun _ h => canonE_require _ _ _ (by simp [h]))

theorem execPpsInEdge_canon (dt : Nat) (s : State) (h :
    Canon s.mb.w0 s.mb.w2) : Tidy (execPpsInEdge dt s) := tidy_next (by simp [h])

theorem execFrameRefInEdge_canon (dt : Nat) (s : State) (h :
    Canon s.mb.w0 s.mb.w2) : Tidy (execFrameRefInEdge dt s) := tidy_next (by simp [h])

theorem execLtcInSyncWord_canon (dt : Nat) (a1 : Nat) (m : Nat) (sec : Nat) (f : Nat) (user : U32) (s : State) (h :
    Canon s.mb.w0 s.mb.w2) : Tidy (execLtcInSyncWord dt a1 m sec f user s) := by
  unfold execLtcInSyncWord
  try dsimp only
  repeat' first
    | (refine tidy_next ?_)
    | (simp +contextual (maxDischargeDepth := 30) [h, foldl_canon, -List.foldl_reverse]; done)
    | (refine State.consume_canon _ _ _ _ (by simp [h]) (fun _ h => ?_))
    | (refine State.ptpRead_canon _ _ _ (by simp [h]) (fun _ h => ?_))
    | split
    | (refine foldl_canon _ _ _ (fun _ _ h => ?_) ?_)

theorem execSourceLossTimeout_canon (dt : Nat) (code : Fin 6) (s : State) (h :
    Canon s.mb.w0 s.mb.w2) : Tidy (execSourceLossTimeout dt code s) := by
  unfold execSourceLossTimeout
  dsimp only
  split <;> exact tidy_next (by simp [h])

theorem execHoldoverLimitExpiry_canon (dt : Nat) (s : State) (h :
    Canon s.mb.w0 s.mb.w2) : Tidy (execHoldoverLimitExpiry dt s) := by
  unfold execHoldoverLimitExpiry
  dsimp only
  split <;> exact tidy_next (by simp [h])

theorem execRef10mLoss_canon (dt : Nat) (s : State) (h : Canon s.mb.w0 s.mb.w2) : Tidy (execRef10mLoss dt s) := by
  refine tidy_next ?_
  dsimp only
  split <;> simp [h]

theorem execRef10mReturn_canon (dt : Nat) (s : State) (h : Canon s.mb.w0 s.mb.w2) : Tidy (execRef10mReturn dt s) := by
  refine tidy_next ?_
  dsimp only
  split <;> simp [h]

theorem execSlotFire_canon (dt : Nat) (s : State) (h : Canon s.mb.w0 s.mb.w2) : Tidy (execSlotFire dt s) := by
  unfold execSlotFire
  try dsimp only
  repeat' first
    | (refine tidy_next ?_)
    | (simp +contextual (maxDischargeDepth := 30) [h, foldl_canon, -List.foldl_reverse]; done)
    | (refine State.consume_canon _ _ _ _ (by simp [h]) (fun _ h => ?_))
    | (refine State.ptpRead_canon _ _ _ (fun _ _ h => ?_) (by simp [h]))
    | (refine State.onBlock_canon _ _ _ _ _ (fun _ h => ?_) (by simp [h]))
    | (refine State.onUp_canon _ _ _ _ _ (fun _ h => ?_) (by simp [h]))
    | (refine foldl_canon _ _ _ (fun _ _ h => ?_) ?_)
    | split

theorem execPpsOutPulse_canon (dt : Nat) (s : State) (h : Canon s.mb.w0 s.mb.w2) : Tidy (execPpsOutPulse dt s) := by
  unfold execPpsOutPulse
  try dsimp only
  repeat' first
    | (refine tidy_next ?_)
    | (simp +contextual (maxDischargeDepth := 30) [h, foldl_canon, -List.foldl_reverse]; done)
    | (refine State.consume_canon _ _ _ _ (by simp [h]) (fun _ h => ?_))
    | (refine State.ptpRead_canon _ _ _ (fun _ _ h => ?_) (by simp [h]))
    | (refine State.onBlock_canon _ _ _ _ _ (fun _ h => ?_) (by simp [h]))
    | (refine State.onUp_canon _ _ _ _ _ (fun _ h => ?_) (by simp [h]))
    | (refine foldl_canon _ _ _ (fun _ _ h => ?_) ?_)
    | split

theorem execLtcOutFrame_canon (dt : Nat) (s : State) (h : Canon s.mb.w0 s.mb.w2) : Tidy (execLtcOutFrame dt s) := by
  unfold execLtcOutFrame
  try dsimp only
  repeat' first
    | (refine tidy_next ?_)
    | (simp +contextual (maxDischargeDepth := 30) [h, foldl_canon, -List.foldl_reverse]; done)
    | (refine State.consume_canon _ _ _ _ (by simp [h]) (fun _ h => ?_))
    | (refine State.ptpRead_canon _ _ _ (fun _ _ h => ?_) (by simp [h]))
    | (refine State.onBlock_canon _ _ _ _ _ (fun _ h => ?_) (by simp [h]))
    | (refine State.onUp_canon _ _ _ _ _ (fun _ h => ?_) (by simp [h]))
    | (refine foldl_canon _ _ _ (fun _ _ h => ?_) ?_)
    | split

theorem execDescriptorAlloc_canon (dt : Nat) (s : State) (h :
    Canon s.mb.w0 s.mb.w2) : Tidy (execDescriptorAlloc dt s) := tidy_next (by simp [h])

theorem execTaskEntry_canon (dt : Nat) (s : State) (h :
    Canon s.mb.w0 s.mb.w2) : Tidy (execTaskEntry dt s) := tidy_next (by simp [h])

theorem execAffinityWaitExpiry_canon (dt : Nat) (n : Fin 8192) (s : State) (h :
    Canon s.mb.w0 s.mb.w2) : Tidy (execAffinityWaitExpiry dt n s) := by
  unfold execAffinityWaitExpiry
  dsimp only
  split <;> exact tidy_next (by simp [h])

theorem execSourceHoldEvent_canon (dt : Nat) (src : Fin 4) (s : State) (h :
    Canon s.mb.w0 s.mb.w2) : Tidy (execSourceHoldEvent dt src s) := by
  refine tidy_next ?_
  dsimp only
  repeat' split
  all_goals simp [h]

theorem execSchedConfig_canon (q : Req) (s : State) (h : Canon s.mb.w0 s.mb.w2) : Tidy (execSchedConfig q s) := by
  unfold execSchedConfig
  refine tidy_next (serve_canon _ _ _ _ _ h (fun s h => ?_))
  repeat' first
    | (refine canonE_require _ _ _ ?_)
    | (refine canonE_bulkLength _ _ _ ?_)
    | (refine canonE_withBulk _ _ _ _ _ (by simp [h]) (fun _ => ?_))
    | (refine canonE_onSpan _ _ (fun _ => ?_))
    | (refine canonE_onLane _ _ (fun _ _ => ?_))
    | (refine canonE_onRdm _ _ _ (fun _ => ?_))
    | (refine canonE_pierControl _ _ _ _ ?_)
    | (exact State.settle_canon _ _ _ (by simp [h]))
    | (simp (maxDischargeDepth := 30) [h]; done)
    | split
    | (simp (maxDischargeDepth := 30) [h, foldl_canon, -List.foldl_reverse]; done)
    | (dsimp only)

theorem execSchedStatus_canon (q : Req) (s : State) (h :
    Canon s.mb.w0 s.mb.w2) : Tidy (execSchedStatus q s) := tidy_next (serve_canon _ _ _ _ _ h fun _ h => by simp [h])

theorem execSchedCounters_canon (q : Req) (s : State) (h :
    Canon s.mb.w0 s.mb.w2) : Tidy (execSchedCounters q s) := tidy_next (serve_canon _ _ _ _ _ h fun _ h => by simp [h])

theorem execSchedTaskRead_canon (q : Req) (s : State) (h :
    Canon s.mb.w0 s.mb.w2) : Tidy (execSchedTaskRead q s) := tidy_next (serve_canon _ _ _ _ _ h fun _ h => by simp [h])

theorem execSchedCores_canon (q : Req) (s : State) (h :
    Canon s.mb.w0 s.mb.w2) : Tidy (execSchedCores q s) := tidy_next
        (serve_canon _ _ _ _ _ h fun _ h => canonE_require _ _ _ (by simp [h]))

theorem execShowLoadBegin_canon (q : Req) (s : State) (h :
    Canon s.mb.w0 s.mb.w2) : Tidy (execShowLoadBegin q s) := tidy_next
        (serve_canon _ _ _ _ _ h fun _ h => canonE_require _ _ _ (by simp [h]))

theorem execShowLoadBlock_canon (q : Req) (s : State) (h : Canon s.mb.w0 s.mb.w2) : Tidy (execShowLoadBlock q s) := by
  unfold execShowLoadBlock
  refine tidy_next (serve_canon _ _ _ _ _ h (fun s h => ?_))
  repeat' first
    | (refine canonE_require _ _ _ ?_)
    | (refine canonE_bulkLength _ _ _ ?_)
    | (refine canonE_withBulk _ _ _ _ _ (by simp [h]) (fun _ => ?_))
    | (refine canonE_onSpan _ _ (fun _ => ?_))
    | (refine canonE_onLane _ _ (fun _ _ => ?_))
    | (refine canonE_onRdm _ _ _ (fun _ => ?_))
    | (refine canonE_pierControl _ _ _ _ ?_)
    | (exact State.settle_canon _ _ _ (by simp [h]))
    | (simp (maxDischargeDepth := 30) [h]; done)
    | split
    | (simp (maxDischargeDepth := 30) [h, foldl_canon, -List.foldl_reverse]; done)
    | (dsimp only)

theorem execShowLoadEnd_canon (q : Req) (s : State) (h :
    Canon s.mb.w0 s.mb.w2) : Tidy (execShowLoadEnd q s) := tidy_next (serve_canon _ _ _ _ _ h fun _ h => by simp [h])

theorem execShowUnloadStaged_canon (q : Req) (s : State) (h :
    Canon s.mb.w0 s.mb.w2) : Tidy (execShowUnloadStaged q s) := tidy_next (by simp [h])

theorem execShowUnloadActive_canon (q : Req) (s : State) (h :
    Canon s.mb.w0 s.mb.w2) : Tidy (execShowUnloadActive q s) := tidy_next (by simp [h])

theorem execShowStatus_canon (q : Req) (s : State) (h :
    Canon s.mb.w0 s.mb.w2) : Tidy (execShowStatus q s) := tidy_next (serve_canon _ _ _ _ _ h fun _ h => by simp [h])

theorem execCueGo_canon (q : Req) (s : State) (h :
    Canon s.mb.w0 s.mb.w2) : Tidy (execCueGo q s) := tidy_next (serve_canon _ _ _ _ _ h fun _ h => by simp [h])

theorem execCueListStatus_canon (q : Req) (s : State) (h :
    Canon s.mb.w0 s.mb.w2) : Tidy (execCueListStatus q s) := tidy_next (serve_canon _ _ _ _ _ h fun _ h => by simp [h])

theorem execTriggerMsg_canon (dt : Nat) (span : Fin 12) (m : Msg) (s : State) (h :
    Canon s.mb.w0 s.mb.w2) : Tidy (execTriggerMsg dt span m s) := by
  unfold execTriggerMsg
  try dsimp only
  repeat' first
    | (refine tidy_next ?_)
    | (simp +contextual (maxDischargeDepth := 30) [h, foldl_canon, -List.foldl_reverse]; done)
    | (refine State.consume_canon _ _ _ _ (by simp [h]) (fun _ h => ?_))
    | (refine State.ptpRead_canon _ _ _ (by simp [h]) (fun _ h => ?_))
    | split
    | (refine foldl_canon _ _ _ (fun _ _ h => ?_) ?_)

theorem execTapSet_canon (q : Req) (s : State) (h :
    Canon s.mb.w0 s.mb.w2) : Tidy (execTapSet q s) := tidy_next (serve_canon _ _ _ _ _ h fun _ h => by simp [h])

theorem execTapRead_canon (q : Req) (s : State) (h : Canon s.mb.w0 s.mb.w2) : Tidy (execTapRead q s) := by
  unfold execTapRead
  refine tidy_next (serve_canon _ _ _ _ _ h (fun s h => ?_))
  repeat' first
    | (refine canonE_require _ _ _ ?_)
    | (refine canonE_bulkLength _ _ _ ?_)
    | (refine canonE_withBulk _ _ _ _ _ (by simp [h]) (fun _ => ?_))
    | (refine canonE_onSpan _ _ (fun _ => ?_))
    | (refine canonE_onLane _ _ (fun _ _ => ?_))
    | (refine canonE_onRdm _ _ _ (fun _ => ?_))
    | (refine canonE_pierControl _ _ _ _ ?_)
    | (exact State.settle_canon _ _ _ (by simp [h]))
    | (simp (maxDischargeDepth := 30) [h]; done)
    | split
    | (simp (maxDischargeDepth := 30) [h, foldl_canon, -List.foldl_reverse]; done)
    | (dsimp only)

theorem execTapWindowClose_canon (dt : Nat) (k : Fin 16) (s : State) (h :
    Canon s.mb.w0 s.mb.w2) : Tidy (execTapWindowClose dt k s) := by
  unfold execTapWindowClose
  try dsimp only
  repeat' first
    | (refine tidy_next ?_)
    | (simp +contextual (maxDischargeDepth := 30) [h, foldl_canon, -List.foldl_reverse]; done)
    | (refine State.consume_canon _ _ _ _ (by simp [h]) (fun _ h => ?_))
    | (refine State.ptpRead_canon _ _ _ (by simp [h]) (fun _ h => ?_))
    | split
    | (refine foldl_canon _ _ _ (fun _ _ h => ?_) ?_)

theorem execHouseSet_canon (q : Req) (s : State) (h :
    Canon s.mb.w0 s.mb.w2) : Tidy (execHouseSet q s) := tidy_next (serve_canon _ _ _ _ _ h fun _ h => by simp [h])

theorem execCmuConfig_canon (q : Req) (s : State) (h :
    Canon s.mb.w0 s.mb.w2) : Tidy (execCmuConfig q s) := tidy_next (serve_canon _ _ _ _ _ h fun _ h => by simp [h])

theorem execCmuStatus_canon (q : Req) (s : State) (h :
    Canon s.mb.w0 s.mb.w2) : Tidy (execCmuStatus q s) := tidy_next (serve_canon _ _ _ _ _ h fun _ h => by simp [h])

theorem execLoopResetIntegrators_canon (q : Req) (s : State) (h :
    Canon s.mb.w0 s.mb.w2) : Tidy (execLoopResetIntegrators q s) := tidy_next (by simp [h])

theorem execLoopDisable_canon (q : Req) (s : State) (h :
    Canon s.mb.w0 s.mb.w2) : Tidy (execLoopDisable q s) := tidy_next (by simp [h])

theorem execLoopEnable_canon (q : Req) (s : State) (h :
    Canon s.mb.w0 s.mb.w2) : Tidy (execLoopEnable q s) := tidy_next (by simp [h])

theorem execLoopRead_canon (q : Req) (s : State) (h : Canon s.mb.w0 s.mb.w2) : Tidy (execLoopRead q s) := by
  refine tidy_next (serve_canon _ _ _ _ _ h fun _ h => ?_)
  dsimp only
  split <;> simp [h]

theorem execFixtureSolveRead_canon (q : Req) (s : State) (h : Canon s.mb.w0 s.mb.w2) : Tidy (execFixtureSolveRead q s) := by
  refine tidy_next (serve_canon _ _ _ _ _ h fun _ h => ?_)
  dsimp only
  split <;> simp [h]

theorem execKineticStopHold_canon (q : Req) (s : State) (h :
    Canon s.mb.w0 s.mb.w2) : Tidy (execKineticStopHold q s) := tidy_next (by simp [h])

theorem execKineticStopBlackout_canon (q : Req) (s : State) (h :
    Canon s.mb.w0 s.mb.w2) : Tidy (execKineticStopBlackout q s) := tidy_next (by simp [h])

theorem execKineticStopRelease_canon (q : Req) (s : State) (h :
    Canon s.mb.w0 s.mb.w2) : Tidy (execKineticStopRelease q s) := tidy_next (by simp [h])

theorem execKineticRead_canon (q : Req) (s : State) (h :
    Canon s.mb.w0 s.mb.w2) : Tidy (execKineticRead q s) := tidy_next (serve_canon _ _ _ _ _ h fun _ h => by simp [h])

theorem execCmuPassComplete_canon (dt : Nat) (s : State) (h :
    Canon s.mb.w0 s.mb.w2) : Tidy (execCmuPassComplete dt s) := tidy_next (by simp [h])

theorem execKineticPassComplete_canon (dt : Nat) (s : State) (h :
    Canon s.mb.w0 s.mb.w2) : Tidy (execKineticPassComplete dt s) := tidy_next (by simp [h])

theorem execKineticStopStep_canon (dt : Nat) (s : State) (h : Canon s.mb.w0 s.mb.w2) : Tidy (execKineticStopStep dt s) := by
  unfold execKineticStopStep
  try dsimp only
  repeat' first
    | (refine tidy_next ?_)
    | (simp +contextual (maxDischargeDepth := 30) [h, foldl_canon, -List.foldl_reverse]; done)
    | (refine State.consume_canon _ _ _ _ (by simp [h]) (fun _ h => ?_))
    | (refine State.ptpRead_canon _ _ _ (by simp [h]) (fun _ h => ?_))
    | split
    | (refine foldl_canon _ _ _ (fun _ _ h => ?_) ?_)

theorem execDeckStatus_canon (q : Req) (s : State) (h :
    Canon s.mb.w0 s.mb.w2) : Tidy (execDeckStatus q s) := tidy_next (serve_canon _ _ _ _ _ h fun _ h => by simp [h])

theorem execDeckScrubRead_canon (dt : Nat) (s : State) (h :
    Canon s.mb.w0 s.mb.w2) : Tidy (execDeckScrubRead dt s) := tidy_next (by simp [h])

theorem execIngestSet_canon (q : Req) (s : State) (h :
    Canon s.mb.w0 s.mb.w2) : Tidy (execIngestSet q s) := tidy_next (serve_canon _ _ _ _ _ h fun _ h => by simp [h])

theorem execIngestStatus_canon (q : Req) (s : State) (h : Canon s.mb.w0 s.mb.w2) : Tidy (execIngestStatus q s) := by
  refine tidy_next (serve_canon _ _ _ _ _ h fun _ h => ?_)
  dsimp only
  split <;> simp [h]

theorem execRasterSet_canon (q : Req) (s : State) (h : Canon s.mb.w0 s.mb.w2) : Tidy (execRasterSet q s) := by
  refine tidy_next (serve_canon _ _ _ _ _ h fun _ h => ?_)
  dsimp only
  split <;> simp [h]

theorem execLayerSet_canon (q : Req) (s : State) (h : Canon s.mb.w0 s.mb.w2) : Tidy (execLayerSet q s) := by
  refine tidy_next (serve_canon _ _ _ _ _ h fun _ h => ?_)
  dsimp only
  split <;> simp [h]

theorem execRasterCommit_canon (q : Req) (s : State) (h : Canon s.mb.w0 s.mb.w2) : Tidy (execRasterCommit q s) := by
  unfold execRasterCommit
  refine tidy_next (serve_canon _ _ _ _ _ h (fun s h => (canonE_done _).2 (foldl_canon _ _ _ (fun _ _ h => ?_) h)))
  repeat' (first | exact h | split | (simp (maxDischargeDepth := 30) [h]; done))

theorem execRasterStatus_canon (q : Req) (s : State) (h : Canon s.mb.w0 s.mb.w2) : Tidy (execRasterStatus q s) := by
  refine tidy_next (serve_canon _ _ _ _ _ h fun _ h => ?_)
  dsimp only
  split <;> simp [h]

theorem execRasterStart_canon (dt : Nat) (re : Fin 4) (s : State) (h :
    Canon s.mb.w0 s.mb.w2) : Tidy (execRasterStart dt re s) := by
  unfold execRasterStart
  dsimp only
  split <;> exact tidy_next (by simp [h])

theorem execRasterLine_canon (dt : Nat) (re : Fin 4) (under : List (Nat × BitVec 4)) (bad : Bool) (s : State) (h : Canon s.mb.w0 s.mb.w2) : Tidy (execRasterLine dt re under bad s) := by
  unfold execRasterLine
  try dsimp only
  repeat' first
    | (refine tidy_next ?_)
    | (simp +contextual (maxDischargeDepth := 30) [h, foldl_canon, -List.foldl_reverse]; done)
    | (refine State.consume_canon _ _ _ _ (by simp [h]) (fun _ h => ?_))
    | (refine State.ptpRead_canon _ _ _ (fun _ _ h => ?_) (by simp [h]))
    | (refine State.onBlock_canon _ _ _ _ _ (fun _ h => ?_) (by simp [h]))
    | (refine State.onUp_canon _ _ _ _ _ (fun _ h => ?_) (by simp [h]))
    | (refine foldl_canon _ _ _ (fun _ _ h => ?_) ?_)
    | split

theorem execVerticalBlankingStart_canon (dt : Nat) (re : Fin 4) (s : State) (h :
    Canon s.mb.w0 s.mb.w2) : Tidy (execVerticalBlankingStart dt re s) := by
  unfold execVerticalBlankingStart
  try dsimp only
  repeat' first
    | (refine tidy_next ?_)
    | (simp +contextual (maxDischargeDepth := 30) [h, foldl_canon, -List.foldl_reverse]; done)
    | (refine State.consume_canon _ _ _ _ (by simp [h]) (fun _ h => ?_))
    | (refine State.ptpRead_canon _ _ _ (by simp [h]) (fun _ h => ?_))
    | split
    | (refine foldl_canon _ _ _ (fun _ _ h => ?_) ?_)

theorem execEthSet_canon (q : Req) (s : State) (h :
    Canon s.mb.w0 s.mb.w2) : Tidy (execEthSet q s) := tidy_next (serve_canon _ _ _ _ _ h fun _ h => canonE_require _ _ _
        (by simp [h]))

theorem execEthStatus_canon (q : Req) (s : State) (h : Canon s.mb.w0 s.mb.w2) : Tidy (execEthStatus q s) := by
  refine tidy_next (serve_canon _ _ _ _ _ h fun _ h => ?_)
  dsimp only
  split <;> simp [h]

theorem execQueueSet_canon (q : Req) (s : State) (h :
    Canon s.mb.w0 s.mb.w2) : Tidy (execQueueSet q s) := tidy_next
        (serve_canon _ _ _ _ _ h fun _ h => canonE_require _ _ _ (by simp [h]))

theorem execQueueStatus_canon (q : Req) (s : State) (h :
    Canon s.mb.w0 s.mb.w2) : Tidy (execQueueStatus q s) := tidy_next (serve_canon _ _ _ _ _ h fun _ h => by simp [h])

theorem execHostchSet_canon (q : Req) (s : State) (h : Canon s.mb.w0 s.mb.w2) : Tidy (execHostchSet q s) := by
  unfold execHostchSet
  refine tidy_next (serve_canon _ _ _ _ _ h (fun s h => ?_))
  repeat' first
    | (refine canonE_require _ _ _ ?_)
    | (refine canonE_bulkLength _ _ _ ?_)
    | (refine canonE_withBulk _ _ _ _ _ (by simp [h]) (fun _ => ?_))
    | (refine canonE_onSpan _ _ (fun _ => ?_))
    | (refine canonE_onLane _ _ (fun _ _ => ?_))
    | (refine canonE_onRdm _ _ _ (fun _ => ?_))
    | (refine canonE_pierControl _ _ _ _ ?_)
    | (exact State.settle_canon _ _ _ (by simp [h]))
    | (simp (maxDischargeDepth := 30) [h]; done)
    | split
    | (simp (maxDischargeDepth := 30) [h, foldl_canon, -List.foldl_reverse]; done)
    | (dsimp only)

theorem execHostchStatus_canon (q : Req) (s : State) (h : Canon s.mb.w0 s.mb.w2) : Tidy (execHostchStatus q s) := by
  refine tidy_next (serve_canon _ _ _ _ _ h fun _ h => ?_)
  dsimp only
  split <;> simp [h]

theorem execTxtsRead_canon (q : Req) (s : State) (h : Canon s.mb.w0 s.mb.w2) : Tidy (execTxtsRead q s) := by
  refine tidy_next (serve_canon _ _ _ _ _ h fun _ h => ?_)
  dsimp only
  split <;> simp [h]

theorem execHcRxTailWrite_canon (dt : Nat) (n : Fin 4) (tail : U16) (s : State) (h :
    Canon s.mb.w0 s.mb.w2) : Tidy (execHcRxTailWrite dt n tail s) := tidy_next (by simp [h])

theorem execHcTxTailWrite_canon (dt : Nat) (n : Fin 4) (tail : U16) (s : State) (h :
    Canon s.mb.w0 s.mb.w2) : Tidy (execHcTxTailWrite dt n tail s) := tidy_next (by simp [h])

theorem execHostRxPlace_canon (dt : Nat) (n : Fin 4) (descs : List RxDesc) (s : State) (h :
    Canon s.mb.w0 s.mb.w2) : Tidy (execHostRxPlace dt n descs s) := by
  unfold execHostRxPlace
  try dsimp only
  repeat' first
    | (refine tidy_next ?_)
    | (simp +contextual (maxDischargeDepth := 30) [h, foldl_canon, -List.foldl_reverse]; done)
    | (refine State.consume_canon _ _ _ _ (by simp [h]) (fun _ h => ?_))
    | (refine State.ptpRead_canon _ _ _ (by simp [h]) (fun _ h => ?_))
    | split
    | (refine foldl_canon _ _ _ (fun _ _ h => ?_) ?_)

theorem execHostTxFrame_canon (dt : Nat) (n : Fin 4) (descs : List TxDesc) (s : State) (h :
    Canon s.mb.w0 s.mb.w2) : Tidy (execHostTxFrame dt n descs s) := by
  unfold execHostTxFrame
  try dsimp only
  repeat' first
    | (refine tidy_next ?_)
    | (simp +contextual (maxDischargeDepth := 30) [h, foldl_canon, -List.foldl_reverse]; done)
    | (refine State.consume_canon _ _ _ _ (by simp [h]) (fun _ h => ?_))
    | (refine State.ptpRead_canon _ _ _ (by simp [h]) (fun _ h => ?_))
    | split
    | (refine foldl_canon _ _ _ (fun _ _ h => ?_) ?_)

theorem execEthFrameRx_canon (dt : Nat) (x : EthIn) (s : State) (h :
    Canon s.mb.w0 s.mb.w2) : Tidy (execEthFrameRx dt x s) := by
  unfold execEthFrameRx
  try dsimp only
  repeat' first
    | (refine tidy_next ?_)
    | (simp +contextual (maxDischargeDepth := 30) [h, foldl_canon, -List.foldl_reverse]; done)
    | (refine State.consume_canon _ _ _ _ (by simp [h]) (fun _ h => ?_))
    | (refine State.ptpRead_canon _ _ _ (by simp [h]) (fun _ h => ?_))
    | split
    | (refine foldl_canon _ _ _ (fun _ _ h => ?_) ?_)

theorem execEthFrameTx_canon (dt : Nat) (n : Fin 4) (s : State) (h :
    Canon s.mb.w0 s.mb.w2) : Tidy (execEthFrameTx dt n s) := tidy_next (by simp [h])

theorem execPauseRx_canon (dt : Nat) (n : Fin 4) (quanta : U16) (s : State) (h :
    Canon s.mb.w0 s.mb.w2) : Tidy (execPauseRx dt n quanta s) := by
  unfold execPauseRx
  dsimp only
  split <;> exact tidy_next (by simp [h])

theorem execPauseHoldEnd_canon (dt : Nat) (n : Fin 4) (s : State) (h :
    Canon s.mb.w0 s.mb.w2) : Tidy (execPauseHoldEnd dt n s) := by
  unfold execPauseHoldEnd
  try dsimp only
  repeat' first
    | (refine tidy_next ?_)
    | (simp +contextual (maxDischargeDepth := 30) [h, foldl_canon, -List.foldl_reverse]; done)
    | (refine State.consume_canon _ _ _ _ (by simp [h]) (fun _ h => ?_))
    | (refine State.ptpRead_canon _ _ _ (by simp [h]) (fun _ h => ?_))
    | split
    | (refine foldl_canon _ _ _ (fun _ _ h => ?_) ?_)

theorem execPauseLongTimeout_canon (dt : Nat) (n : Fin 4) (s : State) (h :
    Canon s.mb.w0 s.mb.w2) : Tidy (execPauseLongTimeout dt n s) := by
  unfold execPauseLongTimeout
  try dsimp only
  repeat' first
    | (refine tidy_next ?_)
    | (simp +contextual (maxDischargeDepth := 30) [h, foldl_canon, -List.foldl_reverse]; done)
    | (refine State.consume_canon _ _ _ _ (by simp [h]) (fun _ h => ?_))
    | (refine State.ptpRead_canon _ _ _ (by simp [h]) (fun _ h => ?_))
    | split
    | (refine foldl_canon _ _ _ (fun _ _ h => ?_) ?_)

theorem execPauseRefresh_canon (dt : Nat) (n : Fin 4) (s : State) (h :
    Canon s.mb.w0 s.mb.w2) : Tidy (execPauseRefresh dt n s) := by
  unfold execPauseRefresh
  try dsimp only
  repeat' first
    | (refine tidy_next ?_)
    | (simp +contextual (maxDischargeDepth := 30) [h, foldl_canon, -List.foldl_reverse]; done)
    | (refine State.consume_canon _ _ _ _ (by simp [h]) (fun _ h => ?_))
    | (refine State.ptpRead_canon _ _ _ (by simp [h]) (fun _ h => ?_))
    | split
    | (refine foldl_canon _ _ _ (fun _ _ h => ?_) ?_)

theorem execPreemptVerifyTimeout_canon (dt : Nat) (n : Fin 4) (s : State) (h :
    Canon s.mb.w0 s.mb.w2) : Tidy (execPreemptVerifyTimeout dt n s) := by
  unfold execPreemptVerifyTimeout
  try dsimp only
  repeat' first
    | (refine tidy_next ?_)
    | (simp +contextual (maxDischargeDepth := 30) [h, foldl_canon, -List.foldl_reverse]; done)
    | (refine State.consume_canon _ _ _ _ (by simp [h]) (fun _ h => ?_))
    | (refine State.ptpRead_canon _ _ _ (by simp [h]) (fun _ h => ?_))
    | split
    | (refine foldl_canon _ _ _ (fun _ _ h => ?_) ?_)

theorem execEthLinkChange_canon (dt : Nat) (n : Fin 4) (up : Bool) (speed : Nat) (s : State) (h :
    Canon s.mb.w0 s.mb.w2) : Tidy (execEthLinkChange dt n up speed s) := by
  unfold execEthLinkChange
  dsimp only
  split <;> exact tidy_next (by simp [h])

theorem execIgmpQuery_canon (dt : Nat) (n : Fin 4) (s : State) (h :
    Canon s.mb.w0 s.mb.w2) : Tidy (execIgmpQuery dt n s) := by
  unfold execIgmpQuery
  try dsimp only
  repeat' first
    | (refine tidy_next ?_)
    | (simp +contextual (maxDischargeDepth := 30) [h, foldl_canon, -List.foldl_reverse]; done)
    | (refine State.consume_canon _ _ _ _ (by simp [h]) (fun _ h => ?_))
    | (refine State.ptpRead_canon _ _ _ (by simp [h]) (fun _ h => ?_))
    | split
    | (refine foldl_canon _ _ _ (fun _ _ h => ?_) ?_)

theorem execArpRequest_canon (dt : Nat) (n : Fin 4) (target : U32) (mac : Nat) (sender : U32) (s : State) (h : Canon s.mb.w0 s.mb.w2) : Tidy (execArpRequest dt n target mac sender s) := by
  unfold execArpRequest
  try dsimp only
  repeat' first
    | (refine tidy_next ?_)
    | (simp +contextual (maxDischargeDepth := 30) [h, foldl_canon, -List.foldl_reverse]; done)
    | (refine State.consume_canon _ _ _ _ (by simp [h]) (fun _ h => ?_))
    | (refine State.ptpRead_canon _ _ _ (fun _ _ h => ?_) (by simp [h]))
    | (refine State.onBlock_canon _ _ _ _ _ (fun _ h => ?_) (by simp [h]))
    | (refine State.onUp_canon _ _ _ _ _ (fun _ h => ?_) (by simp [h]))
    | (refine foldl_canon _ _ _ (fun _ _ h => ?_) ?_)
    | split

theorem execPtpSet_canon (q : Req) (s : State) (h :
    Canon s.mb.w0 s.mb.w2) : Tidy (execPtpSet q s) := tidy_next (serve_canon _ _ _ _ _ h fun _ h => canonE_require _ _ _
        (by simp [h]))

theorem execPtpStatus_canon (q : Req) (s : State) (h :
    Canon s.mb.w0 s.mb.w2) : Tidy (execPtpStatus q s) := tidy_next (serve_canon _ _ _ _ _ h fun _ h => by simp [h])

theorem execPtpSync_canon (dt : Nat) (m : PtpMsg) (s : State) (h : Canon s.mb.w0 s.mb.w2) : Tidy (execPtpSync dt m s) := by
  unfold execPtpSync
  try dsimp only
  repeat' first
    | (refine tidy_next ?_)
    | (simp +contextual (maxDischargeDepth := 30) [h, foldl_canon, -List.foldl_reverse]; done)
    | (refine State.consume_canon _ _ _ _ (by simp [h]) (fun _ h => ?_))
    | (refine State.ptpRead_canon _ _ _ (fun _ _ h => ?_) (by simp [h]))
    | (refine State.onBlock_canon _ _ _ _ _ (fun _ h => ?_) (by simp [h]))
    | (refine State.onUp_canon _ _ _ _ _ (fun _ h => ?_) (by simp [h]))
    | (refine foldl_canon _ _ _ (fun _ _ h => ?_) ?_)
    | split

theorem execPtpFollowUp_canon (dt : Nat) (m : PtpMsg) (s : State) (h : Canon s.mb.w0 s.mb.w2) : Tidy (execPtpFollowUp dt m s) := by
  unfold execPtpFollowUp
  try dsimp only
  repeat' first
    | (refine tidy_next ?_)
    | (simp +contextual (maxDischargeDepth := 30) [h, foldl_canon, -List.foldl_reverse]; done)
    | (refine State.consume_canon _ _ _ _ (by simp [h]) (fun _ h => ?_))
    | (refine State.ptpRead_canon _ _ _ (fun _ _ h => ?_) (by simp [h]))
    | (refine State.onBlock_canon _ _ _ _ _ (fun _ h => ?_) (by simp [h]))
    | (refine State.onUp_canon _ _ _ _ _ (fun _ h => ?_) (by simp [h]))
    | (refine foldl_canon _ _ _ (fun _ _ h => ?_) ?_)
    | split

theorem execPtpAnnounce_canon (dt : Nat) (m : PtpMsg) (a : PtpAnnounce) (s : State) (h : Canon s.mb.w0 s.mb.w2) : Tidy (execPtpAnnounce dt m a s) := by
  unfold execPtpAnnounce
  try dsimp only
  repeat' first
    | (refine tidy_next ?_)
    | (simp +contextual (maxDischargeDepth := 30) [h, foldl_canon, -List.foldl_reverse]; done)
    | (refine State.consume_canon _ _ _ _ (by simp [h]) (fun _ h => ?_))
    | (refine State.ptpRead_canon _ _ _ (fun _ _ h => ?_) (by simp [h]))
    | (refine State.onBlock_canon _ _ _ _ _ (fun _ h => ?_) (by simp [h]))
    | (refine State.onUp_canon _ _ _ _ _ (fun _ h => ?_) (by simp [h]))
    | (refine foldl_canon _ _ _ (fun _ _ h => ?_) ?_)
    | split

theorem execPtpDelayReq_canon (dt : Nat) (m : PtpMsg) (s : State) (h : Canon s.mb.w0 s.mb.w2) : Tidy (execPtpDelayReq dt m s) := by
  unfold execPtpDelayReq
  try dsimp only
  repeat' first
    | (refine tidy_next ?_)
    | (simp +contextual (maxDischargeDepth := 30) [h, foldl_canon, -List.foldl_reverse]; done)
    | (refine State.consume_canon _ _ _ _ (by simp [h]) (fun _ h => ?_))
    | (refine State.ptpRead_canon _ _ _ (fun _ _ h => ?_) (by simp [h]))
    | (refine State.onBlock_canon _ _ _ _ _ (fun _ h => ?_) (by simp [h]))
    | (refine State.onUp_canon _ _ _ _ _ (fun _ h => ?_) (by simp [h]))
    | (refine foldl_canon _ _ _ (fun _ _ h => ?_) ?_)
    | split

theorem execPtpDelayResp_canon (dt : Nat) (m : PtpMsg) (s : State) (h : Canon s.mb.w0 s.mb.w2) : Tidy (execPtpDelayResp dt m s) := by
  unfold execPtpDelayResp
  try dsimp only
  repeat' first
    | (refine tidy_next ?_)
    | (simp +contextual (maxDischargeDepth := 30) [h, foldl_canon, -List.foldl_reverse]; done)
    | (refine State.consume_canon _ _ _ _ (by simp [h]) (fun _ h => ?_))
    | (refine State.ptpRead_canon _ _ _ (fun _ _ h => ?_) (by simp [h]))
    | (refine State.onBlock_canon _ _ _ _ _ (fun _ h => ?_) (by simp [h]))
    | (refine State.onUp_canon _ _ _ _ _ (fun _ h => ?_) (by simp [h]))
    | (refine foldl_canon _ _ _ (fun _ _ h => ?_) ?_)
    | split

theorem execPtpPdelayReq_canon (dt : Nat) (m : PtpMsg) (s : State) (h : Canon s.mb.w0 s.mb.w2) : Tidy (execPtpPdelayReq dt m s) := by
  unfold execPtpPdelayReq
  try dsimp only
  repeat' first
    | (refine tidy_next ?_)
    | (simp +contextual (maxDischargeDepth := 30) [h, foldl_canon, -List.foldl_reverse]; done)
    | (refine State.consume_canon _ _ _ _ (by simp [h]) (fun _ h => ?_))
    | (refine State.ptpRead_canon _ _ _ (fun _ _ h => ?_) (by simp [h]))
    | (refine State.onBlock_canon _ _ _ _ _ (fun _ h => ?_) (by simp [h]))
    | (refine State.onUp_canon _ _ _ _ _ (fun _ h => ?_) (by simp [h]))
    | (refine foldl_canon _ _ _ (fun _ _ h => ?_) ?_)
    | split

theorem execPtpPdelayResp_canon (dt : Nat) (m : PtpMsg) (follow : Bool) (s : State) (h : Canon s.mb.w0 s.mb.w2) : Tidy (execPtpPdelayResp dt m follow s) := by
  unfold execPtpPdelayResp
  try dsimp only
  repeat' first
    | (refine tidy_next ?_)
    | (simp +contextual (maxDischargeDepth := 30) [h, foldl_canon, -List.foldl_reverse]; done)
    | (refine State.consume_canon _ _ _ _ (by simp [h]) (fun _ h => ?_))
    | (refine State.ptpRead_canon _ _ _ (fun _ _ h => ?_) (by simp [h]))
    | (refine State.onBlock_canon _ _ _ _ _ (fun _ h => ?_) (by simp [h]))
    | (refine State.onUp_canon _ _ _ _ _ (fun _ h => ?_) (by simp [h]))
    | (refine foldl_canon _ _ _ (fun _ _ h => ?_) ?_)
    | split

theorem execPtpMessageDue_canon (dt : Nat) (n : Fin 4) (kind : Fin 4) (s : State) (h :
    Canon s.mb.w0 s.mb.w2) : Tidy (execPtpMessageDue dt n kind s) := by
  unfold execPtpMessageDue
  try dsimp only
  repeat' first
    | (refine tidy_next ?_)
    | (simp +contextual (maxDischargeDepth := 30) [h, foldl_canon, -List.foldl_reverse]; done)
    | (refine State.consume_canon _ _ _ _ (by simp [h]) (fun _ h => ?_))
    | (refine State.ptpRead_canon _ _ _ (by simp [h]) (fun _ h => ?_))
    | split
    | (refine foldl_canon _ _ _ (fun _ _ h => ?_) ?_)

theorem execPtpAnnounceTimeout_canon (dt : Nat) (n : Fin 4) (s : State) (h :
    Canon s.mb.w0 s.mb.w2) : Tidy (execPtpAnnounceTimeout dt n s) := by
  unfold execPtpAnnounceTimeout
  try dsimp only
  repeat' first
    | (refine tidy_next ?_)
    | (simp +contextual (maxDischargeDepth := 30) [h, foldl_canon, -List.foldl_reverse]; done)
    | (refine State.consume_canon _ _ _ _ (by simp [h]) (fun _ h => ?_))
    | (refine State.ptpRead_canon _ _ _ (by simp [h]) (fun _ h => ?_))
    | split
    | (refine foldl_canon _ _ _ (fun _ _ h => ?_) ?_)

theorem execAes67Packet_canon (dt : Nat) (p : AesPacket) (s : State) (h :
    Canon s.mb.w0 s.mb.w2) : Tidy (execAes67Packet dt p s) := by
  unfold execAes67Packet
  try dsimp only
  repeat' first
    | (refine tidy_next ?_)
    | (simp +contextual (maxDischargeDepth := 30) [h, foldl_canon, -List.foldl_reverse]; done)
    | (refine State.consume_canon _ _ _ _ (by simp [h]) (fun _ h => ?_))
    | (refine State.ptpRead_canon _ _ _ (by simp [h]) (fun _ h => ?_))
    | split
    | (refine foldl_canon _ _ _ (fun _ _ h => ?_) ?_)

theorem execSt2110Packet_canon (dt : Nat) (p : VideoPacket) (s : State) (h :
    Canon s.mb.w0 s.mb.w2) : Tidy (execSt2110Packet dt p s) := by
  unfold execSt2110Packet
  try dsimp only
  repeat' first
    | (refine tidy_next ?_)
    | (simp +contextual (maxDischargeDepth := 30) [h, foldl_canon, -List.foldl_reverse]; done)
    | (refine State.consume_canon _ _ _ _ (by simp [h]) (fun _ h => ?_))
    | (refine State.ptpRead_canon _ _ _ (by simp [h]) (fun _ h => ?_))
    | split
    | (refine foldl_canon _ _ _ (fun _ _ h => ?_) ?_)

theorem execStreamSet_canon (q : Req) (s : State) (h :
    Canon s.mb.w0 s.mb.w2) : Tidy (execStreamSet q s) := tidy_next (serve_canon _ _ _ _ _ h fun _ h => by simp [h])

theorem execStreamStatus_canon (q : Req) (s : State) (h : Canon s.mb.w0 s.mb.w2) : Tidy (execStreamStatus q s) := by
  refine tidy_next (serve_canon _ _ _ _ _ h fun _ h => ?_)
  dsimp only
  split <;> simp [h]

theorem execStreamLossTimeout_canon (dt : Nat) (video : Bool) (i : Fin 16) (s : State) (h :
    Canon s.mb.w0 s.mb.w2) : Tidy (execStreamLossTimeout dt video i s) := by
  unfold execStreamLossTimeout
  try dsimp only
  repeat' first
    | (refine tidy_next ?_)
    | (simp +contextual (maxDischargeDepth := 30) [h, foldl_canon, -List.foldl_reverse]; done)
    | (refine State.consume_canon _ _ _ _ (by simp [h]) (fun _ h => ?_))
    | (refine State.ptpRead_canon _ _ _ (by simp [h]) (fun _ h => ?_))
    | split
    | (refine foldl_canon _ _ _ (fun _ _ h => ?_) ?_)

theorem execPortSet_canon (q : Req) (s : State) (h :
    Canon s.mb.w0 s.mb.w2) : Tidy (execPortSet q s) := tidy_next
        (serve_canon _ _ _ _ _ h fun _ h => canonE_require _ _ _ (by simp [h]))

theorem execInputSet_canon (q : Req) (s : State) (h :
    Canon s.mb.w0 s.mb.w2) : Tidy (execInputSet q s) := tidy_next (serve_canon _ _ _ _ _ h fun _ h => by simp [h])

theorem execSacnSet_canon (q : Req) (s : State) (h :
    Canon s.mb.w0 s.mb.w2) : Tidy (execSacnSet q s) := tidy_next
        (serve_canon _ _ _ _ _ h fun _ h => canonE_require _ _ _ (by simp [h]))

theorem execPortStatus_canon (q : Req) (s : State) (h : Canon s.mb.w0 s.mb.w2) : Tidy (execPortStatus q s) := by
  unfold execPortStatus
  refine tidy_next (serve_canon _ _ _ _ _ h (fun s h => ?_))
  repeat' first
    | (refine canonE_require _ _ _ ?_)
    | (refine canonE_bulkLength _ _ _ ?_)
    | (refine canonE_withBulk _ _ _ _ _ (by simp [h]) (fun _ => ?_))
    | (refine canonE_onSpan _ _ (fun _ => ?_))
    | (refine canonE_onLane _ _ (fun _ _ => ?_))
    | (refine canonE_onRdm _ _ _ (fun _ => ?_))
    | (refine canonE_pierControl _ _ _ _ ?_)
    | (exact State.settle_canon _ _ _ (by simp [h]))
    | (simp (maxDischargeDepth := 30) [h]; done)
    | split
    | (simp (maxDischargeDepth := 30) [h, foldl_canon, -List.foldl_reverse]; done)
    | (dsimp only)

theorem execInputRead_canon (q : Req) (s : State) (h :
    Canon s.mb.w0 s.mb.w2) : Tidy (execInputRead q s) := tidy_next (serve_canon _ _ _ _ _ h fun _ h => by simp [h])

theorem execSacnStatus_canon (q : Req) (s : State) (h : Canon s.mb.w0 s.mb.w2) : Tidy (execSacnStatus q s) := by
  refine tidy_next (serve_canon _ _ _ _ _ h fun _ h => ?_)
  dsimp only
  split <;> simp [h]

theorem execRdmDiscover_canon (q : Req) (s : State) (h : Canon s.mb.w0 s.mb.w2) : Tidy (execRdmDiscover q s) := by
  unfold execRdmDiscover
  refine tidy_next (serve_canon _ _ _ _ _ h (fun s h => ?_))
  repeat' first
    | (refine canonE_require _ _ _ ?_)
    | (refine canonE_bulkLength _ _ _ ?_)
    | (refine canonE_withBulk _ _ _ _ _ (by simp [h]) (fun _ => ?_))
    | (refine canonE_onSpan _ _ (fun _ => ?_))
    | (refine canonE_onLane _ _ (fun _ _ => ?_))
    | (refine canonE_onRdm _ _ _ (fun _ => ?_))
    | (refine canonE_pierControl _ _ _ _ ?_)
    | (exact State.settle_canon _ _ _ (by simp [h]))
    | (simp (maxDischargeDepth := 30) [h]; done)
    | split
    | (simp (maxDischargeDepth := 30) [h, foldl_canon, -List.foldl_reverse]; done)
    | (dsimp only)

theorem execRdmUidRead_canon (q : Req) (s : State) (h : Canon s.mb.w0 s.mb.w2) : Tidy (execRdmUidRead q s) := by
  unfold execRdmUidRead
  refine tidy_next (serve_canon _ _ _ _ _ h (fun s h => ?_))
  repeat' first
    | (refine canonE_require _ _ _ ?_)
    | (refine canonE_bulkLength _ _ _ ?_)
    | (refine canonE_withBulk _ _ _ _ _ (by simp [h]) (fun _ => ?_))
    | (refine canonE_onSpan _ _ (fun _ => ?_))
    | (refine canonE_onLane _ _ (fun _ _ => ?_))
    | (refine canonE_onRdm _ _ _ (fun _ => ?_))
    | (refine canonE_pierControl _ _ _ _ ?_)
    | (exact State.settle_canon _ _ _ (by simp [h]))
    | (simp (maxDischargeDepth := 30) [h]; done)
    | split
    | (simp (maxDischargeDepth := 30) [h, foldl_canon, -List.foldl_reverse]; done)
    | (dsimp only)

theorem execRdmRequest_canon (q : Req) (s : State) (h :
    Canon s.mb.w0 s.mb.w2) : Tidy (execRdmRequest q s) := tidy_next
        (serve_canon _ _ _ _ _ h fun _ h => canonE_require _ _ _ (by simp [h]))

theorem execRdmResultRead_canon (q : Req) (s : State) (h : Canon s.mb.w0 s.mb.w2) : Tidy (execRdmResultRead q s) := by
  unfold execRdmResultRead
  refine tidy_next (serve_canon _ _ _ _ _ h (fun s h => ?_))
  repeat' first
    | (refine canonE_require _ _ _ ?_)
    | (refine canonE_bulkLength _ _ _ ?_)
    | (refine canonE_withBulk _ _ _ _ _ (by simp [h]) (fun _ => ?_))
    | (refine canonE_onSpan _ _ (fun _ => ?_))
    | (refine canonE_onLane _ _ (fun _ _ => ?_))
    | (refine canonE_onRdm _ _ _ (fun _ => ?_))
    | (refine canonE_pierControl _ _ _ _ ?_)
    | (exact State.settle_canon _ _ _ (by simp [h]))
    | (simp (maxDischargeDepth := 30) [h]; done)
    | split
    | (simp (maxDischargeDepth := 30) [h, foldl_canon, -List.foldl_reverse]; done)
    | (dsimp only)

theorem execDmxPacketStart_canon (dt : Nat) (p : Fin 32) (s : State) (h :
    Canon s.mb.w0 s.mb.w2) : Tidy (execDmxPacketStart dt p s) := tidy_next (by simp [h])

theorem execRdmTransactionStart_canon (dt : Nat) (p : Fin 32) (s : State) (h :
    Canon s.mb.w0 s.mb.w2) : Tidy (execRdmTransactionStart dt p s) := tidy_next (by simp [h])

theorem execRdmResponse_canon (dt : Nat) (p : Fin 32) (r : RdmResp) (s : State) (h :
    Canon s.mb.w0 s.mb.w2) : Tidy (execRdmResponse dt p r s) := tidy_next (by simp [h])

theorem execRdmResponseTimeout_canon (dt : Nat) (p : Fin 32) (s : State) (h :
    Canon s.mb.w0 s.mb.w2) : Tidy (execRdmResponseTimeout dt p s) := tidy_next (by simp [h])

theorem execRdmDiscoveryTimer_canon (dt : Nat) (p : Fin 32) (s : State) (h :
    Canon s.mb.w0 s.mb.w2) : Tidy (execRdmDiscoveryTimer dt p s) := by
  unfold execRdmDiscoveryTimer
  dsimp only
  split <;> exact tidy_next (by simp [h])

theorem execRdmSensorPoll_canon (dt : Nat) (p : Fin 32) (s : State) (h :
    Canon s.mb.w0 s.mb.w2) : Tidy (execRdmSensorPoll dt p s) := tidy_next (by simp [h])

theorem execDmxInputPacket_canon (dt : Nat) (p : Fin 32) (x : DmxPacket) (s : State) (h :
    Canon s.mb.w0 s.mb.w2) : Tidy (execDmxInputPacket dt p x s) := by
  unfold execDmxInputPacket
  try dsimp only
  repeat' first
    | (refine tidy_next ?_)
    | (simp +contextual (maxDischargeDepth := 30) [h, foldl_canon, -List.foldl_reverse]; done)
    | (refine State.consume_canon _ _ _ _ (by simp [h]) (fun _ h => ?_))
    | (refine State.ptpRead_canon _ _ _ (by simp [h]) (fun _ h => ?_))
    | split
    | (refine foldl_canon _ _ _ (fun _ _ h => ?_) ?_)

theorem execInputLossTimeout_canon (dt : Nat) (n : Fin 1024) (s : State) (h :
    Canon s.mb.w0 s.mb.w2) : Tidy (execInputLossTimeout dt n s) := by
  unfold execInputLossTimeout
  try dsimp only
  repeat' first
    | (refine tidy_next ?_)
    | (simp +contextual (maxDischargeDepth := 30) [h, foldl_canon, -List.foldl_reverse]; done)
    | (refine State.consume_canon _ _ _ _ (by simp [h]) (fun _ h => ?_))
    | (refine State.ptpRead_canon _ _ _ (by simp [h]) (fun _ h => ?_))
    | split
    | (refine foldl_canon _ _ _ (fun _ _ h => ?_) ?_)

theorem execSacnDataPacket_canon (dt : Nat) (x : SacnPacket) (s : State) (h :
    Canon s.mb.w0 s.mb.w2) : Tidy (execSacnDataPacket dt x s) := by
  unfold execSacnDataPacket
  try dsimp only
  repeat' first
    | (refine tidy_next ?_)
    | (simp +contextual (maxDischargeDepth := 30) [h, foldl_canon, -List.foldl_reverse]; done)
    | (refine State.consume_canon _ _ _ _ (by simp [h]) (fun _ h => ?_))
    | (refine State.ptpRead_canon _ _ _ (by simp [h]) (fun _ h => ?_))
    | split
    | (refine foldl_canon _ _ _ (fun _ _ h => ?_) ?_)

theorem execSacnSourceLoss_canon (dt : Nat) (n : Fin 1024) (cid : List U8) (s : State) (h :
    Canon s.mb.w0 s.mb.w2) : Tidy (execSacnSourceLoss dt n cid s) := by
  unfold execSacnSourceLoss
  try dsimp only
  repeat' first
    | (refine tidy_next ?_)
    | (simp +contextual (maxDischargeDepth := 30) [h, foldl_canon, -List.foldl_reverse]; done)
    | (refine State.consume_canon _ _ _ _ (by simp [h]) (fun _ h => ?_))
    | (refine State.ptpRead_canon _ _ _ (by simp [h]) (fun _ h => ?_))
    | split
    | (refine foldl_canon _ _ _ (fun _ _ h => ?_) ?_)

theorem execPixelStringSend_canon (dt : Nat) (pin : Fin 64) (s : State) (h :
    Canon s.mb.w0 s.mb.w2) : Tidy (execPixelStringSend dt pin s) := tidy_next (by simp [h])

theorem execClockedStringSend_canon (dt : Nat) (pin : Fin 64) (s : State) (h :
    Canon s.mb.w0 s.mb.w2) : Tidy (execClockedStringSend dt pin s) := tidy_next (by simp [h])

theorem execPwmSubslotStart_canon (dt : Nat) (pin : Fin 64) (s : State) (h :
    Canon s.mb.w0 s.mb.w2) : Tidy (execPwmSubslotStart dt pin s) := tidy_next (by simp [h])

theorem execSacnDataSend_canon (dt : Nat) (n : Fin 4) (s : State) (h :
    Canon s.mb.w0 s.mb.w2) : Tidy (execSacnDataSend dt n s) := tidy_next (by simp [h])

theorem execSacnSyncSend_canon (dt : Nat) (n : Fin 4) (s : State) (h :
    Canon s.mb.w0 s.mb.w2) : Tidy (execSacnSyncSend dt n s) := tidy_next (by simp [h])

theorem execSacnDiscoverySend_canon (dt : Nat) (n : Fin 4) (s : State) (h :
    Canon s.mb.w0 s.mb.w2) : Tidy (execSacnDiscoverySend dt n s) := tidy_next (by simp [h])

theorem execCodewordTransmit_canon (dt : Nat) (sp : Fin 12) (s : State) (h :
    Canon s.mb.w0 s.mb.w2) : Tidy (execCodewordTransmit dt sp s) := tidy_next (by simp [h])

theorem execIdleBlock_canon (dt : Nat) (sp : Fin 12) (errs : List SymErr) (s : State) (h : Canon s.mb.w0 s.mb.w2) : Tidy (execIdleBlock dt sp errs s) := by
  unfold execIdleBlock
  try dsimp only
  repeat' first
    | (refine tidy_next ?_)
    | (simp +contextual (maxDischargeDepth := 30) [h, foldl_canon, -List.foldl_reverse]; done)
    | (refine State.consume_canon _ _ _ _ (by simp [h]) (fun _ h => ?_))
    | (refine State.ptpRead_canon _ _ _ (fun _ _ h => ?_) (by simp [h]))
    | (refine State.onBlock_canon _ _ _ _ _ (fun _ h => ?_) (by simp [h]))
    | (refine State.onUp_canon _ _ _ _ _ (fun _ h => ?_) (by simp [h]))
    | (refine foldl_canon _ _ _ (fun _ _ h => ?_) ?_)
    | split

theorem execDataBlock_canon (dt : Nat) (sp : Fin 12) (errs : List SymErr) (b : Block) (s : State) (h : Canon s.mb.w0 s.mb.w2) : Tidy (execDataBlock dt sp errs b s) := by
  unfold execDataBlock
  try dsimp only
  repeat' first
    | (refine tidy_next ?_)
    | (simp +contextual (maxDischargeDepth := 30) [h, foldl_canon, -List.foldl_reverse]; done)
    | (refine State.consume_canon _ _ _ _ (by simp [h]) (fun _ h => ?_))
    | (refine State.ptpRead_canon _ _ _ (fun _ _ h => ?_) (by simp [h]))
    | (refine State.onBlock_canon _ _ _ _ _ (fun _ h => ?_) (by simp [h]))
    | (refine State.onUp_canon _ _ _ _ _ (fun _ h => ?_) (by simp [h]))
    | (refine foldl_canon _ _ _ (fun _ _ h => ?_) ?_)
    | split

theorem execCreditBlock_canon (dt : Nat) (sp : Fin 12) (errs : List SymErr) (freed : Vector U16 5) (s : State) (h : Canon s.mb.w0 s.mb.w2) : Tidy (execCreditBlock dt sp errs freed s) := by
  unfold execCreditBlock
  try dsimp only
  repeat' first
    | (refine tidy_next ?_)
    | (simp +contextual (maxDischargeDepth := 30) [h, foldl_canon, -List.foldl_reverse]; done)
    | (refine State.consume_canon _ _ _ _ (by simp [h]) (fun _ h => ?_))
    | (refine State.ptpRead_canon _ _ _ (fun _ _ h => ?_) (by simp [h]))
    | (refine State.onBlock_canon _ _ _ _ _ (fun _ h => ?_) (by simp [h]))
    | (refine State.onUp_canon _ _ _ _ _ (fun _ h => ?_) (by simp [h]))
    | (refine foldl_canon _ _ _ (fun _ _ h => ?_) ?_)
    | split

theorem execAckBlock_canon (dt : Nat) (sp : Fin 12) (errs : List SymErr) (lseq : U16) (s : State) (h : Canon s.mb.w0 s.mb.w2) : Tidy (execAckBlock dt sp errs lseq s) := by
  unfold execAckBlock
  try dsimp only
  repeat' first
    | (refine tidy_next ?_)
    | (simp +contextual (maxDischargeDepth := 30) [h, foldl_canon, -List.foldl_reverse]; done)
    | (refine State.consume_canon _ _ _ _ (by simp [h]) (fun _ h => ?_))
    | (refine State.ptpRead_canon _ _ _ (fun _ _ h => ?_) (by simp [h]))
    | (refine State.onBlock_canon _ _ _ _ _ (fun _ h => ?_) (by simp [h]))
    | (refine State.onUp_canon _ _ _ _ _ (fun _ h => ?_) (by simp [h]))
    | (refine foldl_canon _ _ _ (fun _ _ h => ?_) ?_)
    | split

theorem execNakBlock_canon (dt : Nat) (sp : Fin 12) (errs : List SymErr) (lseq : U16) (s : State) (h : Canon s.mb.w0 s.mb.w2) : Tidy (execNakBlock dt sp errs lseq s) := by
  unfold execNakBlock
  try dsimp only
  repeat' first
    | (refine tidy_next ?_)
    | (simp +contextual (maxDischargeDepth := 30) [h, foldl_canon, -List.foldl_reverse]; done)
    | (refine State.consume_canon _ _ _ _ (by simp [h]) (fun _ h => ?_))
    | (refine State.ptpRead_canon _ _ _ (fun _ _ h => ?_) (by simp [h]))
    | (refine State.onBlock_canon _ _ _ _ _ (fun _ h => ?_) (by simp [h]))
    | (refine State.onUp_canon _ _ _ _ _ (fun _ h => ?_) (by simp [h]))
    | (refine foldl_canon _ _ _ (fun _ _ h => ?_) ?_)
    | split

theorem execTimeBlock_canon (dt : Nat) (sp : Fin 12) (errs : List SymErr) (t : TimeBlock) (s : State) (h : Canon s.mb.w0 s.mb.w2) : Tidy (execTimeBlock dt sp errs t s) := by
  unfold execTimeBlock
  try dsimp only
  repeat' first
    | (refine tidy_next ?_)
    | (simp +contextual (maxDischargeDepth := 30) [h, foldl_canon, -List.foldl_reverse]; done)
    | (refine State.consume_canon _ _ _ _ (by simp [h]) (fun _ h => ?_))
    | (refine State.ptpRead_canon _ _ _ (fun _ _ h => ?_) (by simp [h]))
    | (refine State.onBlock_canon _ _ _ _ _ (fun _ h => ?_) (by simp [h]))
    | (refine State.onUp_canon _ _ _ _ _ (fun _ h => ?_) (by simp [h]))
    | (refine foldl_canon _ _ _ (fun _ _ h => ?_) ?_)
    | split

theorem execHelloBlock_canon (dt : Nat) (sp : Fin 12) (errs : List SymErr) (h : Hello) (s : State) (hc : Canon s.mb.w0 s.mb.w2) : Tidy (execHelloBlock dt sp errs h s) := by
  unfold execHelloBlock
  try dsimp only
  repeat' first
    | (refine tidy_next ?_)
    | (simp +contextual (maxDischargeDepth := 30) [hc, foldl_canon, -List.foldl_reverse]; done)
    | (refine State.consume_canon _ _ _ _ (by simp [hc]) (fun _ hc => ?_))
    | (refine State.ptpRead_canon _ _ _ (fun _ _ hc => ?_) (by simp [hc]))
    | (refine State.onBlock_canon _ _ _ _ _ (fun _ hc => ?_) (by simp [hc]))
    | (refine State.onUp_canon _ _ _ _ _ (fun _ hc => ?_) (by simp [hc]))
    | (refine foldl_canon _ _ _ (fun _ _ hc => ?_) ?_)
    | split

theorem execReservedBlock_canon (dt : Nat) (sp : Fin 12) (errs : List SymErr) (s : State) (h : Canon s.mb.w0 s.mb.w2) : Tidy (execReservedBlock dt sp errs s) := by
  unfold execReservedBlock
  try dsimp only
  repeat' first
    | (refine tidy_next ?_)
    | (simp +contextual (maxDischargeDepth := 30) [h, foldl_canon, -List.foldl_reverse]; done)
    | (refine State.consume_canon _ _ _ _ (by simp [h]) (fun _ h => ?_))
    | (refine State.ptpRead_canon _ _ _ (fun _ _ h => ?_) (by simp [h]))
    | (refine State.onBlock_canon _ _ _ _ _ (fun _ h => ?_) (by simp [h]))
    | (refine State.onUp_canon _ _ _ _ _ (fun _ h => ?_) (by simp [h]))
    | (refine foldl_canon _ _ _ (fun _ _ h => ?_) ?_)
    | split

theorem execCreditSendDue_canon (dt : Nat) (sp : Fin 12) (s : State) (h :
    Canon s.mb.w0 s.mb.w2) : Tidy (execCreditSendDue dt sp s) := by
  unfold execCreditSendDue
  dsimp only
  split <;> exact tidy_next (by simp [h])

theorem execHelloDue_canon (dt : Nat) (sp : Fin 12) (s : State) (h :
    Canon s.mb.w0 s.mb.w2) : Tidy (execHelloDue dt sp s) := by
  unfold execHelloDue
  dsimp only
  split <;> exact tidy_next (by simp [h])

theorem execTimeBlockDue_canon (dt : Nat) (sp : Fin 12) (s : State) (h :
    Canon s.mb.w0 s.mb.w2) : Tidy (execTimeBlockDue dt sp s) := by
  unfold execTimeBlockDue
  dsimp only
  split <;> exact tidy_next (by simp [h])

theorem execCreditStallTimeout_canon (dt : Nat) (sp : Fin 12) (vc : Fin 5) (s : State) (h :
    Canon s.mb.w0 s.mb.w2) : Tidy (execCreditStallTimeout dt sp vc s) := by
  unfold execCreditStallTimeout
  try dsimp only
  repeat' first
    | (refine tidy_next ?_)
    | (simp +contextual (maxDischargeDepth := 30) [h, foldl_canon, -List.foldl_reverse]; done)
    | (refine State.consume_canon _ _ _ _ (by simp [h]) (fun _ h => ?_))
    | (refine State.ptpRead_canon _ _ _ (by simp [h]) (fun _ h => ?_))
    | split
    | (refine foldl_canon _ _ _ (fun _ _ h => ?_) ?_)

theorem execCreditStallLinkDown_canon (dt : Nat) (sp : Fin 12) (vc : Fin 2) (s : State) (h :
    Canon s.mb.w0 s.mb.w2) : Tidy (execCreditStallLinkDown dt sp vc s) := by
  unfold execCreditStallLinkDown
  try dsimp only
  repeat' first
    | (refine tidy_next ?_)
    | (simp +contextual (maxDischargeDepth := 30) [h, foldl_canon, -List.foldl_reverse]; done)
    | (refine State.consume_canon _ _ _ _ (by simp [h]) (fun _ h => ?_))
    | (refine State.ptpRead_canon _ _ _ (by simp [h]) (fun _ h => ?_))
    | split
    | (refine foldl_canon _ _ _ (fun _ _ h => ?_) ?_)

theorem execAckTimeout_canon (dt : Nat) (sp : Fin 12) (s : State) (h :
    Canon s.mb.w0 s.mb.w2) : Tidy (execAckTimeout dt sp s) := by
  unfold execAckTimeout
  dsimp only
  split <;> exact tidy_next (by simp [h])

theorem execFecFailTimeout_canon (dt : Nat) (sp : Fin 12) (s : State) (h :
    Canon s.mb.w0 s.mb.w2) : Tidy (execFecFailTimeout dt sp s) := by
  unfold execFecFailTimeout
  try dsimp only
  repeat' first
    | (refine tidy_next ?_)
    | (simp +contextual (maxDischargeDepth := 30) [h, foldl_canon, -List.foldl_reverse]; done)
    | (refine State.consume_canon _ _ _ _ (by simp [h]) (fun _ h => ?_))
    | (refine State.ptpRead_canon _ _ _ (by simp [h]) (fun _ h => ?_))
    | split
    | (refine foldl_canon _ _ _ (fun _ _ h => ?_) ?_)

theorem execLaneLos_canon (dt : Nat) (sp : Fin 12) (lane : Fin 6) (s : State) (h :
    Canon s.mb.w0 s.mb.w2) : Tidy (execLaneLos dt sp lane s) := by
  unfold execLaneLos
  try dsimp only
  repeat' first
    | (refine tidy_next ?_)
    | (simp +contextual (maxDischargeDepth := 30) [h, foldl_canon, -List.foldl_reverse]; done)
    | (refine State.consume_canon _ _ _ _ (by simp [h]) (fun _ h => ?_))
    | (refine State.ptpRead_canon _ _ _ (by simp [h]) (fun _ h => ?_))
    | split
    | (refine foldl_canon _ _ _ (fun _ _ h => ?_) ?_)

theorem execLaneLosClear_canon (dt : Nat) (sp : Fin 12) (lane : Fin 6) (s : State) (h :
    Canon s.mb.w0 s.mb.w2) : Tidy (execLaneLosClear dt sp lane s) := by
  unfold execLaneLosClear
  try dsimp only
  repeat' first
    | (refine tidy_next ?_)
    | (simp +contextual (maxDischargeDepth := 30) [h, foldl_canon, -List.foldl_reverse]; done)
    | (refine State.consume_canon _ _ _ _ (by simp [h]) (fun _ h => ?_))
    | (refine State.ptpRead_canon _ _ _ (by simp [h]) (fun _ h => ?_))
    | split
    | (refine foldl_canon _ _ _ (fun _ _ h => ?_) ?_)

theorem execLaneLol_canon (dt : Nat) (sp : Fin 12) (lane : Fin 6) (s : State) (h :
    Canon s.mb.w0 s.mb.w2) : Tidy (execLaneLol dt sp lane s) := by
  unfold execLaneLol
  try dsimp only
  repeat' first
    | (refine tidy_next ?_)
    | (simp +contextual (maxDischargeDepth := 30) [h, foldl_canon, -List.foldl_reverse]; done)
    | (refine State.consume_canon _ _ _ _ (by simp [h]) (fun _ h => ?_))
    | (refine State.ptpRead_canon _ _ _ (by simp [h]) (fun _ h => ?_))
    | split
    | (refine foldl_canon _ _ _ (fun _ _ h => ?_) ?_)

theorem execTrainingAttemptStart_canon (dt : Nat) (sp : Fin 12) (s : State) (h :
    Canon s.mb.w0 s.mb.w2) : Tidy (execTrainingAttemptStart dt sp s) := by
  unfold execTrainingAttemptStart
  dsimp only
  split <;> exact tidy_next (by simp [h])

theorem execTrainingFrameRx_canon (dt : Nat) (sp : Fin 12) (f : TrainFrame) (s : State) (h :
    Canon s.mb.w0 s.mb.w2) : Tidy (execTrainingFrameRx dt sp f s) := tidy_next (by simp [h])

theorem execTrainingStepWindowEnd_canon (dt : Nat) (sp : Fin 12) (r : StepResult) (s : State) (h :
    Canon s.mb.w0 s.mb.w2) : Tidy (execTrainingStepWindowEnd dt sp r s) := by
  unfold execTrainingStepWindowEnd
  try dsimp only
  repeat' first
    | (refine tidy_next ?_)
    | (simp +contextual (maxDischargeDepth := 30) [h, foldl_canon, -List.foldl_reverse]; done)
    | (refine State.consume_canon _ _ _ _ (by simp [h]) (fun _ h => ?_))
    | (refine State.ptpRead_canon _ _ _ (by simp [h]) (fun _ h => ?_))
    | split
    | (refine foldl_canon _ _ _ (fun _ _ h => ?_) ?_)

theorem execTrainingTimeout_canon (dt : Nat) (sp : Fin 12) (s : State) (h :
    Canon s.mb.w0 s.mb.w2) : Tidy (execTrainingTimeout dt sp s) := by
  unfold execTrainingTimeout
  dsimp only
  split <;> exact tidy_next (by simp [h])

theorem execQuietPeriodEnd_canon (dt : Nat) (sp : Fin 12) (s : State) (h :
    Canon s.mb.w0 s.mb.w2) : Tidy (execQuietPeriodEnd dt sp s) := by
  unfold execQuietPeriodEnd
  dsimp only
  split <;> exact tidy_next (by simp [h])

theorem execTrainingRetryTimer_canon (dt : Nat) (sp : Fin 12) (s : State) (h :
    Canon s.mb.w0 s.mb.w2) : Tidy (execTrainingRetryTimer dt sp s) := by
  unfold execTrainingRetryTimer
  dsimp only
  split <;> exact tidy_next (by simp [h])

theorem execCalibrationNeeded_canon (dt : Nat) (sp : Fin 12) (lane : Fin 5) (seen : Taps) (s : State) (h : Canon s.mb.w0 s.mb.w2) : Tidy (execCalibrationNeeded dt sp lane seen s) := by
  unfold execCalibrationNeeded
  try dsimp only
  repeat' first
    | (refine tidy_next ?_)
    | (simp +contextual (maxDischargeDepth := 30) [h, foldl_canon, -List.foldl_reverse]; done)
    | (refine State.consume_canon _ _ _ _ (by simp [h]) (fun _ h => ?_))
    | (refine State.ptpRead_canon _ _ _ (fun _ _ h => ?_) (by simp [h]))
    | (refine State.onBlock_canon _ _ _ _ _ (fun _ h => ?_) (by simp [h]))
    | (refine State.onUp_canon _ _ _ _ _ (fun _ h => ?_) (by simp [h]))
    | (refine foldl_canon _ _ _ (fun _ _ h => ?_) ?_)
    | split

theorem execRotationTimer_canon (dt : Nat) (sp : Fin 12) (s : State) (h :
    Canon s.mb.w0 s.mb.w2) : Tidy (execRotationTimer dt sp s) := by
  unfold execRotationTimer
  dsimp only
  split <;> exact tidy_next (by simp [h])

theorem execSpareSweepEnd_canon (dt : Nat) (sp : Fin 12) (t : Taps) (s : State) (h :
    Canon s.mb.w0 s.mb.w2) : Tidy (execSpareSweepEnd dt sp t s) := tidy_next (by simp [h])

theorem execDuplicateCompareEnd_canon (dt : Nat) (sp : Fin 12) (equal : Bool) (s : State) (h :
    Canon s.mb.w0 s.mb.w2) : Tidy (execDuplicateCompareEnd dt sp equal s) := tidy_next (by simp [h])

theorem execLaneSwapCodeword_canon (dt : Nat) (sp : Fin 12) (s : State) (h :
    Canon s.mb.w0 s.mb.w2) : Tidy (execLaneSwapCodeword dt sp s) := tidy_next (by simp [h])

theorem execCalGapStart_canon (dt : Nat) (sp : Fin 12) (tx : Bool) (taps : List (Fin 5 × Taps)) (s : State) (h :
    Canon s.mb.w0 s.mb.w2) : Tidy (execCalGapStart dt sp tx taps s) := tidy_next (by simp [h])

theorem execCalGapLockTimeout_canon (dt : Nat) (sp : Fin 12) (s : State) (h :
    Canon s.mb.w0 s.mb.w2) : Tidy (execCalGapLockTimeout dt sp s) := by
  unfold execCalGapLockTimeout
  try dsimp only
  repeat' first
    | (refine tidy_next ?_)
    | (simp +contextual (maxDischargeDepth := 30) [h, foldl_canon, -List.foldl_reverse]; done)
    | (refine State.consume_canon _ _ _ _ (by simp [h]) (fun _ h => ?_))
    | (refine State.ptpRead_canon _ _ _ (by simp [h]) (fun _ h => ?_))
    | split
    | (refine foldl_canon _ _ _ (fun _ _ h => ?_) ?_)

theorem execCalGapDeferral_canon (dt : Nat) (sp : Fin 12) (s : State) (h :
    Canon s.mb.w0 s.mb.w2) : Tidy (execCalGapDeferral dt sp s) := tidy_next (by simp [h])

theorem execLaneCtlSpareOn_canon (dt : Nat) (sp : Fin 12) (m : LaneCtl) (s : State) (h :
    Canon s.mb.w0 s.mb.w2) : Tidy (execLaneCtlSpareOn dt sp m s) := by
  unfold execLaneCtlSpareOn
  try dsimp only
  repeat' first
    | (refine tidy_next ?_)
    | (simp +contextual (maxDischargeDepth := 30) [h, foldl_canon, -List.foldl_reverse]; done)
    | (refine State.consume_canon _ _ _ _ (by simp [h]) (fun _ h => ?_))
    | (refine State.ptpRead_canon _ _ _ (by simp [h]) (fun _ h => ?_))
    | split
    | (refine foldl_canon _ _ _ (fun _ _ h => ?_) ?_)

theorem execLaneCtlDuplicate_canon (dt : Nat) (sp : Fin 12) (m : LaneCtl) (s : State) (h :
    Canon s.mb.w0 s.mb.w2) : Tidy (execLaneCtlDuplicate dt sp m s) := by
  unfold execLaneCtlDuplicate
  try dsimp only
  repeat' first
    | (refine tidy_next ?_)
    | (simp +contextual (maxDischargeDepth := 30) [h, foldl_canon, -List.foldl_reverse]; done)
    | (refine State.consume_canon _ _ _ _ (by simp [h]) (fun _ h => ?_))
    | (refine State.ptpRead_canon _ _ _ (by simp [h]) (fun _ h => ?_))
    | split
    | (refine foldl_canon _ _ _ (fun _ _ h => ?_) ?_)

theorem execLaneCtlRelease_canon (dt : Nat) (sp : Fin 12) (m : LaneCtl) (s : State) (h :
    Canon s.mb.w0 s.mb.w2) : Tidy (execLaneCtlRelease dt sp m s) := by
  unfold execLaneCtlRelease
  try dsimp only
  repeat' first
    | (refine tidy_next ?_)
    | (simp +contextual (maxDischargeDepth := 30) [h, foldl_canon, -List.foldl_reverse]; done)
    | (refine State.consume_canon _ _ _ _ (by simp [h]) (fun _ h => ?_))
    | (refine State.ptpRead_canon _ _ _ (by simp [h]) (fun _ h => ?_))
    | split
    | (refine foldl_canon _ _ _ (fun _ _ h => ?_) ?_)

theorem execLaneCtlSpareIdle_canon (dt : Nat) (sp : Fin 12) (m : LaneCtl) (s : State) (h :
    Canon s.mb.w0 s.mb.w2) : Tidy (execLaneCtlSpareIdle dt sp m s) := by
  unfold execLaneCtlSpareIdle
  try dsimp only
  repeat' first
    | (refine tidy_next ?_)
    | (simp +contextual (maxDischargeDepth := 30) [h, foldl_canon, -List.foldl_reverse]; done)
    | (refine State.consume_canon _ _ _ _ (by simp [h]) (fun _ h => ?_))
    | (refine State.ptpRead_canon _ _ _ (by simp [h]) (fun _ h => ?_))
    | split
    | (refine foldl_canon _ _ _ (fun _ _ h => ?_) ?_)

theorem execLaneCtlLaneFault_canon (dt : Nat) (sp : Fin 12) (m : LaneCtl) (s : State) (h :
    Canon s.mb.w0 s.mb.w2) : Tidy (execLaneCtlLaneFault dt sp m s) := by
  unfold execLaneCtlLaneFault
  try dsimp only
  repeat' first
    | (refine tidy_next ?_)
    | (simp +contextual (maxDischargeDepth := 30) [h, foldl_canon, -List.foldl_reverse]; done)
    | (refine State.consume_canon _ _ _ _ (by simp [h]) (fun _ h => ?_))
    | (refine State.ptpRead_canon _ _ _ (by simp [h]) (fun _ h => ?_))
    | split
    | (refine foldl_canon _ _ _ (fun _ _ h => ?_) ?_)

theorem execLaneCtlCalGap_canon (dt : Nat) (sp : Fin 12) (m : LaneCtl) (s : State) (h :
    Canon s.mb.w0 s.mb.w2) : Tidy (execLaneCtlCalGap dt sp m s) := by
  unfold execLaneCtlCalGap
  try dsimp only
  repeat' first
    | (refine tidy_next ?_)
    | (simp +contextual (maxDischargeDepth := 30) [h, foldl_canon, -List.foldl_reverse]; done)
    | (refine State.consume_canon _ _ _ _ (by simp [h]) (fun _ h => ?_))
    | (refine State.ptpRead_canon _ _ _ (by simp [h]) (fun _ h => ?_))
    | split
    | (refine foldl_canon _ _ _ (fun _ _ h => ?_) ?_)

theorem execLaneCtlSleep_canon (dt : Nat) (sp : Fin 12) (m : LaneCtl) (s : State) (h :
    Canon s.mb.w0 s.mb.w2) : Tidy (execLaneCtlSleep dt sp m s) := by
  unfold execLaneCtlSleep
  try dsimp only
  repeat' first
    | (refine tidy_next ?_)
    | (simp +contextual (maxDischargeDepth := 30) [h, foldl_canon, -List.foldl_reverse]; done)
    | (refine State.consume_canon _ _ _ _ (by simp [h]) (fun _ h => ?_))
    | (refine State.ptpRead_canon _ _ _ (by simp [h]) (fun _ h => ?_))
    | split
    | (refine foldl_canon _ _ _ (fun _ _ h => ?_) ?_)

theorem execLaneCtlAck_canon (dt : Nat) (sp : Fin 12) (m : LaneCtl) (s : State) (h :
    Canon s.mb.w0 s.mb.w2) : Tidy (execLaneCtlAck dt sp m s) := by
  unfold execLaneCtlAck
  try dsimp only
  repeat' first
    | (refine tidy_next ?_)
    | (simp +contextual (maxDischargeDepth := 30) [h, foldl_canon, -List.foldl_reverse]; done)
    | (refine State.consume_canon _ _ _ _ (by simp [h]) (fun _ h => ?_))
    | (refine State.ptpRead_canon _ _ _ (by simp [h]) (fun _ h => ?_))
    | split
    | (refine foldl_canon _ _ _ (fun _ _ h => ?_) ?_)

theorem execLaneCtlNak_canon (dt : Nat) (sp : Fin 12) (m : LaneCtl) (s : State) (h :
    Canon s.mb.w0 s.mb.w2) : Tidy (execLaneCtlNak dt sp m s) := by
  unfold execLaneCtlNak
  try dsimp only
  repeat' first
    | (refine tidy_next ?_)
    | (simp +contextual (maxDischargeDepth := 30) [h, foldl_canon, -List.foldl_reverse]; done)
    | (refine State.consume_canon _ _ _ _ (by simp [h]) (fun _ h => ?_))
    | (refine State.ptpRead_canon _ _ _ (by simp [h]) (fun _ h => ?_))
    | split
    | (refine foldl_canon _ _ _ (fun _ _ h => ?_) ?_)

theorem execLaneCtlAnswerTimeout_canon (dt : Nat) (sp : Fin 12) (s : State) (h :
    Canon s.mb.w0 s.mb.w2) : Tidy (execLaneCtlAnswerTimeout dt sp s) := tidy_next (by simp [h])

theorem execSleepWake_canon (dt : Nat) (sp : Fin 12) (s : State) (h :
    Canon s.mb.w0 s.mb.w2) : Tidy (execSleepWake dt sp s) := tidy_next (by simp [h])

theorem execWakeDriftTimeout_canon (dt : Nat) (sp : Fin 12) (s : State) (h :
    Canon s.mb.w0 s.mb.w2) : Tidy (execWakeDriftTimeout dt sp s) := tidy_next (by simp [h])

theorem execSpanHealthDownTimeout_canon (dt : Nat) (sp : Fin 12) (s : State) (h :
    Canon s.mb.w0 s.mb.w2) : Tidy (execSpanHealthDownTimeout dt sp s) := by
  unfold execSpanHealthDownTimeout
  dsimp only
  split <;> exact tidy_next (by simp [h])

theorem execSpanHealthRecover_canon (dt : Nat) (sp : Fin 12) (s : State) (h :
    Canon s.mb.w0 s.mb.w2) : Tidy (execSpanHealthRecover dt sp s) := by
  unfold execSpanHealthRecover
  try dsimp only
  repeat' first
    | (refine tidy_next ?_)
    | (simp +contextual (maxDischargeDepth := 30) [h, foldl_canon, -List.foldl_reverse]; done)
    | (refine State.consume_canon _ _ _ _ (by simp [h]) (fun _ h => ?_))
    | (refine State.ptpRead_canon _ _ _ (by simp [h]) (fun _ h => ?_))
    | split
    | (refine foldl_canon _ _ _ (fun _ _ h => ?_) ?_)

theorem execCodewordUncorrectable_canon (dt : Nat) (sp : Fin 12) (s : State) (h :
    Canon s.mb.w0 s.mb.w2) : Tidy (execCodewordUncorrectable dt sp s) := tidy_next (by simp [h])

theorem execSpanSet_canon (q : Req) (s : State) (h : Canon s.mb.w0 s.mb.w2) : Tidy (execSpanSet q s) := by
  unfold execSpanSet
  refine tidy_next (serve_canon _ _ _ _ _ h (fun s h => ?_))
  repeat' first
    | (refine canonE_require _ _ _ ?_)
    | (refine canonE_bulkLength _ _ _ ?_)
    | (refine canonE_withBulk _ _ _ _ _ (by simp [h]) (fun _ => ?_))
    | (refine canonE_onSpan _ _ (fun _ => ?_))
    | (refine canonE_onLane _ _ (fun _ _ => ?_))
    | (refine canonE_onRdm _ _ _ (fun _ => ?_))
    | (refine canonE_pierControl _ _ _ _ ?_)
    | (exact State.settle_canon _ _ _ (by simp [h]))
    | (simp (maxDischargeDepth := 30) [h]; done)
    | split
    | (simp (maxDischargeDepth := 30) [h, foldl_canon, -List.foldl_reverse]; done)
    | (dsimp only)

theorem execSpanStatus_canon (q : Req) (s : State) (h :
    Canon s.mb.w0 s.mb.w2) : Tidy (execSpanStatus q s) := tidy_next (serve_canon _ _ _ _ _ h fun _ h => by simp [h])

theorem execLaneStatus_canon (q : Req) (s : State) (h :
    Canon s.mb.w0 s.mb.w2) : Tidy (execLaneStatus q s) := tidy_next (serve_canon _ _ _ _ _ h fun _ h => by simp [h])

theorem execSpanTrain_canon (q : Req) (s : State) (h : Canon s.mb.w0 s.mb.w2) : Tidy (execSpanTrain q s) := by
  unfold execSpanTrain
  refine tidy_next (serve_canon _ _ _ _ _ h (fun s h => ?_))
  repeat' first
    | (refine canonE_require _ _ _ ?_)
    | (refine canonE_bulkLength _ _ _ ?_)
    | (refine canonE_withBulk _ _ _ _ _ (by simp [h]) (fun _ => ?_))
    | (refine canonE_onSpan _ _ (fun _ => ?_))
    | (refine canonE_onLane _ _ (fun _ _ => ?_))
    | (refine canonE_onRdm _ _ _ (fun _ => ?_))
    | (refine canonE_pierControl _ _ _ _ ?_)
    | (exact State.settle_canon _ _ _ (by simp [h]))
    | (simp (maxDischargeDepth := 30) [h]; done)
    | split
    | (simp (maxDischargeDepth := 30) [h, foldl_canon, -List.foldl_reverse]; done)
    | (dsimp only)

theorem execSpanCal_canon (q : Req) (s : State) (h : Canon s.mb.w0 s.mb.w2) : Tidy (execSpanCal q s) := by
  unfold execSpanCal
  refine tidy_next (serve_canon _ _ _ _ _ h (fun s h => ?_))
  repeat' first
    | (refine canonE_require _ _ _ ?_)
    | (refine canonE_bulkLength _ _ _ ?_)
    | (refine canonE_withBulk _ _ _ _ _ (by simp [h]) (fun _ => ?_))
    | (refine canonE_onSpan _ _ (fun _ => ?_))
    | (refine canonE_onLane _ _ (fun _ _ => ?_))
    | (refine canonE_onRdm _ _ _ (fun _ => ?_))
    | (refine canonE_pierControl _ _ _ _ ?_)
    | (exact State.settle_canon _ _ _ (by simp [h]))
    | (simp (maxDischargeDepth := 30) [h]; done)
    | split
    | (simp (maxDischargeDepth := 30) [h, foldl_canon, -List.foldl_reverse]; done)
    | (dsimp only)

theorem execPrbsSet_canon (q : Req) (s : State) (h : Canon s.mb.w0 s.mb.w2) : Tidy (execPrbsSet q s) := by
  unfold execPrbsSet
  refine tidy_next (serve_canon _ _ _ _ _ h (fun s h => ?_))
  repeat' first
    | (refine canonE_require _ _ _ ?_)
    | (refine canonE_bulkLength _ _ _ ?_)
    | (refine canonE_withBulk _ _ _ _ _ (by simp [h]) (fun _ => ?_))
    | (refine canonE_onSpan _ _ (fun _ => ?_))
    | (refine canonE_onLane _ _ (fun _ _ => ?_))
    | (refine canonE_onRdm _ _ _ (fun _ => ?_))
    | (refine canonE_pierControl _ _ _ _ ?_)
    | (exact State.settle_canon _ _ _ (by simp [h]))
    | (simp (maxDischargeDepth := 30) [h]; done)
    | split
    | (simp (maxDischargeDepth := 30) [h, foldl_canon, -List.foldl_reverse]; done)
    | (dsimp only)

theorem execPrbsRead_canon (q : Req) (seen : PrbsSeen) (s : State) (h : Canon s.mb.w0 s.mb.w2) :
    Tidy (execPrbsRead q seen s) := by
  unfold execPrbsRead
  refine tidy_next (serve_canon _ _ _ _ _ h (fun s h => canonE_onLane _ _ (fun sp p => ?_)))
  dsimp only
  rw [canonE_answer]
  exact State.modSpan_canon _ _ _ (foldl_canon _ _ _ (fun _ _ h => State.raiseF_canon _ _ _ h) h)

theorem execErrorInject_canon (q : Req) (s : State) (h : Canon s.mb.w0 s.mb.w2) : Tidy (execErrorInject q s) := by
  unfold execErrorInject
  refine tidy_next (serve_canon _ _ _ _ _ h (fun s h => ?_))
  repeat' first
    | (refine canonE_require _ _ _ ?_)
    | (refine canonE_bulkLength _ _ _ ?_)
    | (refine canonE_withBulk _ _ _ _ _ (by simp [h]) (fun _ => ?_))
    | (refine canonE_onSpan _ _ (fun _ => ?_))
    | (refine canonE_onLane _ _ (fun _ _ => ?_))
    | (refine canonE_onRdm _ _ _ (fun _ => ?_))
    | (refine canonE_pierControl _ _ _ _ ?_)
    | (exact State.settle_canon _ _ _ (by simp [h]))
    | (simp (maxDischargeDepth := 30) [h]; done)
    | split
    | (simp (maxDischargeDepth := 30) [h, foldl_canon, -List.foldl_reverse]; done)
    | (dsimp only)

theorem execBitSlip_canon (q : Req) (s : State) (h : Canon s.mb.w0 s.mb.w2) : Tidy (execBitSlip q s) := by
  unfold execBitSlip
  refine tidy_next (serve_canon _ _ _ _ _ h (fun s h => ?_))
  repeat' first
    | (refine canonE_require _ _ _ ?_)
    | (refine canonE_bulkLength _ _ _ ?_)
    | (refine canonE_withBulk _ _ _ _ _ (by simp [h]) (fun _ => ?_))
    | (refine canonE_onSpan _ _ (fun _ => ?_))
    | (refine canonE_onLane _ _ (fun _ _ => ?_))
    | (refine canonE_onRdm _ _ _ (fun _ => ?_))
    | (refine canonE_pierControl _ _ _ _ ?_)
    | (exact State.settle_canon _ _ _ (by simp [h]))
    | (simp (maxDischargeDepth := 30) [h]; done)
    | split
    | (simp (maxDischargeDepth := 30) [h, foldl_canon, -List.foldl_reverse]; done)
    | (dsimp only)

theorem execLaneTapsSet_canon (q : Req) (s : State) (h : Canon s.mb.w0 s.mb.w2) : Tidy (execLaneTapsSet q s) := by
  unfold execLaneTapsSet
  refine tidy_next (serve_canon _ _ _ _ _ h (fun s h => ?_))
  repeat' first
    | (refine canonE_require _ _ _ ?_)
    | (refine canonE_bulkLength _ _ _ ?_)
    | (refine canonE_withBulk _ _ _ _ _ (by simp [h]) (fun _ => ?_))
    | (refine canonE_onSpan _ _ (fun _ => ?_))
    | (refine canonE_onLane _ _ (fun _ _ => ?_))
    | (refine canonE_onRdm _ _ _ (fun _ => ?_))
    | (refine canonE_pierControl _ _ _ _ ?_)
    | (exact State.settle_canon _ _ _ (by simp [h]))
    | (simp (maxDischargeDepth := 30) [h]; done)
    | split
    | (simp (maxDischargeDepth := 30) [h, foldl_canon, -List.foldl_reverse]; done)
    | (dsimp only)

theorem execSpanSleep_canon (q : Req) (s : State) (h : Canon s.mb.w0 s.mb.w2) : Tidy (execSpanSleep q s) := by
  unfold execSpanSleep
  refine tidy_next (serve_canon _ _ _ _ _ h (fun s h => ?_))
  repeat' first
    | (refine (canonE_done _).2 (foldl_canon _ _ _ (fun _ _ h => State.laneAsk_canon _ _ _ _ h) h))
    | (refine canonE_require _ _ _ ?_)
    | (refine canonE_bulkLength _ _ _ ?_)
    | (refine canonE_withBulk _ _ _ _ _ (by simp [h]) (fun _ => ?_))
    | (refine canonE_onSpan _ _ (fun _ => ?_))
    | (refine canonE_onLane _ _ (fun _ _ => ?_))
    | (refine canonE_onRdm _ _ _ (fun _ => ?_))
    | (refine canonE_pierControl _ _ _ _ ?_)
    | (exact State.settle_canon _ _ _ (by simp [h]))
    | (simp (maxDischargeDepth := 30) [h]; done)
    | split
    | (simp (maxDischargeDepth := 30) [h, foldl_canon, -List.foldl_reverse]; done)
    | (dsimp only)

theorem execLatchMsg_canon (dt : Nat) (span : Fin 12) (m : Msg) (s : State) (h :
    Canon s.mb.w0 s.mb.w2) : Tidy (execLatchMsg dt span m s) := by
  unfold execLatchMsg
  try dsimp only
  repeat' first
    | (refine tidy_next ?_)
    | (simp +contextual (maxDischargeDepth := 30) [h, foldl_canon, -List.foldl_reverse]; done)
    | (refine State.consume_canon _ _ _ _ (by simp [h]) (fun _ h => ?_))
    | (refine State.ptpRead_canon _ _ _ (by simp [h]) (fun _ h => ?_))
    | split
    | (refine foldl_canon _ _ _ (fun _ _ h => ?_) ?_)

theorem execReportMsg_canon (dt : Nat) (span : Fin 12) (m : Msg) (s : State) (h :
    Canon s.mb.w0 s.mb.w2) : Tidy (execReportMsg dt span m s) := by
  unfold execReportMsg
  try dsimp only
  repeat' first
    | (refine tidy_next ?_)
    | (simp +contextual (maxDischargeDepth := 30) [h, foldl_canon, -List.foldl_reverse]; done)
    | (refine State.consume_canon _ _ _ _ (by simp [h]) (fun _ h => ?_))
    | (refine State.ptpRead_canon _ _ _ (by simp [h]) (fun _ h => ?_))
    | split
    | (refine foldl_canon _ _ _ (fun _ _ h => ?_) ?_)

theorem execLatchIssue_canon (dt : Nat) (s : State) (h :
    Canon s.mb.w0 s.mb.w2) : Tidy (execLatchIssue dt s) := tidy_next (by simp [h])

theorem execLatchRepeat_canon (dt : Nat) (s : State) (h : Canon s.mb.w0 s.mb.w2) : Tidy (execLatchRepeat dt s) := by
  refine tidy_next ?_
  dsimp only
  repeat' split
  all_goals simp [h]

theorem execMemberMsg_canon (dt : Nat) (span : Fin 12) (m : Msg) (s : State) (h :
    Canon s.mb.w0 s.mb.w2) : Tidy (execMemberMsg dt span m s) := by
  unfold execMemberMsg
  try dsimp only
  repeat' first
    | (refine tidy_next ?_)
    | (simp +contextual (maxDischargeDepth := 30) [h, foldl_canon, -List.foldl_reverse]; done)
    | (refine State.consume_canon _ _ _ _ (by simp [h]) (fun _ h => ?_))
    | (refine State.ptpRead_canon _ _ _ (by simp [h]) (fun _ h => ?_))
    | split
    | (refine foldl_canon _ _ _ (fun _ _ h => ?_) ?_)

theorem execMemberFlood_canon (dt : Nat) (s : State) (h : Canon s.mb.w0 s.mb.w2) : Tidy (execMemberFlood dt s) := by
  refine tidy_next ?_
  dsimp only
  split <;> simp [h]

theorem execMemberTimeout_canon (dt : Nat) (s : State) (h :
    Canon s.mb.w0 s.mb.w2) : Tidy (execMemberTimeout dt s) := tidy_next (by simp [h])

theorem execPartitionWaitExpiry_canon (dt : Nat) (s : State) (h :
    Canon s.mb.w0 s.mb.w2) : Tidy (execPartitionWaitExpiry dt s) := tidy_next (by simp [h])

theorem execMergeMsg_canon (dt : Nat) (span : Fin 12) (m : Msg) (s : State) (h :
    Canon s.mb.w0 s.mb.w2) : Tidy (execMergeMsg dt span m s) := by
  unfold execMergeMsg
  try dsimp only
  repeat' first
    | (refine tidy_next ?_)
    | (simp +contextual (maxDischargeDepth := 30) [h, foldl_canon, -List.foldl_reverse]; done)
    | (refine State.consume_canon _ _ _ _ (by simp [h]) (fun _ h => ?_))
    | (refine State.ptpRead_canon _ _ _ (by simp [h]) (fun _ h => ?_))
    | split
    | (refine foldl_canon _ _ _ (fun _ _ h => ?_) ?_)

theorem execLinkEventMsg_canon (dt : Nat) (span : Fin 12) (m : Msg) (s : State) (h :
    Canon s.mb.w0 s.mb.w2) : Tidy (execLinkEventMsg dt span m s) := by
  unfold execLinkEventMsg
  try dsimp only
  repeat' first
    | (refine tidy_next ?_)
    | (simp +contextual (maxDischargeDepth := 30) [h, foldl_canon, -List.foldl_reverse]; done)
    | (refine State.consume_canon _ _ _ _ (by simp [h]) (fun _ h => ?_))
    | (refine State.ptpRead_canon _ _ _ (by simp [h]) (fun _ h => ?_))
    | split
    | (refine foldl_canon _ _ _ (fun _ _ h => ?_) ?_)

theorem execRouteAgeExpiry_canon (dt : Nat) (s : State) (h :
    Canon s.mb.w0 s.mb.w2) : Tidy (execRouteAgeExpiry dt s) := tidy_next (by simp [h])

theorem execUpdateMsg_canon (dt : Nat) (span : Fin 12) (m : Msg) (s : State) (h :
    Canon s.mb.w0 s.mb.w2) : Tidy (execUpdateMsg dt span m s) := tidy_next (by simp [h])

theorem execReturnMsg_canon (dt : Nat) (span : Fin 12) (m : Msg) (s : State) (h :
    Canon s.mb.w0 s.mb.w2) : Tidy (execReturnMsg dt span m s) := by
  unfold execReturnMsg
  try dsimp only
  repeat' first
    | (refine tidy_next ?_)
    | (simp +contextual (maxDischargeDepth := 30) [h, foldl_canon, -List.foldl_reverse]; done)
    | (refine State.consume_canon _ _ _ _ (by simp [h]) (fun _ h => ?_))
    | (refine State.ptpRead_canon _ _ _ (by simp [h]) (fun _ h => ?_))
    | split
    | (refine foldl_canon _ _ _ (fun _ _ h => ?_) ?_)

theorem execPathProbeDue_canon (dt : Nat) (s : State) (h : Canon s.mb.w0 s.mb.w2) : Tidy (execPathProbeDue dt s) := by
  refine tidy_next ?_
  dsimp only
  split <;> simp [h]

theorem execPathProbeMsg_canon (dt : Nat) (span : Fin 12) (m : Msg) (turn : U32) (s : State) (h :
    Canon s.mb.w0 s.mb.w2) : Tidy (execPathProbeMsg dt span m turn s) := by
  unfold execPathProbeMsg
  try dsimp only
  repeat' first
    | (refine tidy_next ?_)
    | (simp +contextual (maxDischargeDepth := 30) [h, foldl_canon, -List.foldl_reverse]; done)
    | (refine State.consume_canon _ _ _ _ (by simp [h]) (fun _ h => ?_))
    | (refine State.ptpRead_canon _ _ _ (by simp [h]) (fun _ h => ?_))
    | split
    | (refine foldl_canon _ _ _ (fun _ _ h => ?_) ?_)

theorem execPathEchoMsg_canon (dt : Nat) (span : Fin 12) (m : Msg) (s : State) (h :
    Canon s.mb.w0 s.mb.w2) : Tidy (execPathEchoMsg dt span m s) := by
  unfold execPathEchoMsg
  try dsimp only
  repeat' first
    | (refine tidy_next ?_)
    | (simp +contextual (maxDischargeDepth := 30) [h, foldl_canon, -List.foldl_reverse]; done)
    | (refine State.consume_canon _ _ _ _ (by simp [h]) (fun _ h => ?_))
    | (refine State.ptpRead_canon _ _ _ (by simp [h]) (fun _ h => ?_))
    | split
    | (refine foldl_canon _ _ _ (fun _ _ h => ?_) ?_)

theorem execRasterFrameMsg_canon (dt : Nat) (span : Fin 12) (m : Msg) (s : State) (h :
    Canon s.mb.w0 s.mb.w2) : Tidy (execRasterFrameMsg dt span m s) := tidy_next (by simp [h])

theorem execRasterLineMsg_canon (dt : Nat) (span : Fin 12) (m : Msg) (s : State) (h :
    Canon s.mb.w0 s.mb.w2) : Tidy (execRasterLineMsg dt span m s) := tidy_next (by simp [h])

theorem execTrestleSet_canon (q : Req) (s : State) (h : Canon s.mb.w0 s.mb.w2) : Tidy (execTrestleSet q s) := by
  unfold execTrestleSet
  refine tidy_next (serve_canon _ _ _ _ _ h (fun s h => ?_))
  repeat' first
    | (refine canonE_require _ _ _ ?_)
    | (refine canonE_bulkLength _ _ _ ?_)
    | (refine canonE_withBulk _ _ _ _ _ (by simp [h]) (fun _ => ?_))
    | (refine canonE_onSpan _ _ (fun _ => ?_))
    | (refine canonE_onLane _ _ (fun _ _ => ?_))
    | (refine canonE_onRdm _ _ _ (fun _ => ?_))
    | (refine canonE_pierControl _ _ _ _ ?_)
    | (exact State.settle_canon _ _ _ (by simp [h]))
    | (simp (maxDischargeDepth := 30) [h]; done)
    | split
    | (simp (maxDischargeDepth := 30) [h, foldl_canon, -List.foldl_reverse]; done)
    | (dsimp only)

theorem execTrestleStatus_canon (q : Req) (s : State) (h :
    Canon s.mb.w0 s.mb.w2) : Tidy (execTrestleStatus q s) := tidy_next (serve_canon _ _ _ _ _ h fun _ h => by simp [h])

theorem execMemberRead_canon (q : Req) (s : State) (h : Canon s.mb.w0 s.mb.w2) : Tidy (execMemberRead q s) := by
  unfold execMemberRead
  refine tidy_next (serve_canon _ _ _ _ _ h (fun s h => ?_))
  repeat' first
    | (refine canonE_require _ _ _ ?_)
    | (refine canonE_bulkLength _ _ _ ?_)
    | (refine canonE_withBulk _ _ _ _ _ (by simp [h]) (fun _ => ?_))
    | (refine canonE_onSpan _ _ (fun _ => ?_))
    | (refine canonE_onLane _ _ (fun _ _ => ?_))
    | (refine canonE_onRdm _ _ _ (fun _ => ?_))
    | (refine canonE_pierControl _ _ _ _ ?_)
    | (exact State.settle_canon _ _ _ (by simp [h]))
    | (simp (maxDischargeDepth := 30) [h]; done)
    | split
    | (simp (maxDischargeDepth := 30) [h, foldl_canon, -List.foldl_reverse]; done)
    | (dsimp only)

theorem execRouteRead_canon (q : Req) (s : State) (h :
    Canon s.mb.w0 s.mb.w2) : Tidy (execRouteRead q s) := tidy_next (serve_canon _ _ _ _ _ h fun _ h => by simp [h])

theorem execLinkSet_canon (q : Req) (s : State) (h :
    Canon s.mb.w0 s.mb.w2) : Tidy (execLinkSet q s) := tidy_next (serve_canon _ _ _ _ _ h fun _ h => by simp [h])

theorem execLinkCounters_canon (q : Req) (s : State) (h : Canon s.mb.w0 s.mb.w2) : Tidy (execLinkCounters q s) := by
  refine tidy_next (serve_canon _ _ _ _ _ h fun _ h => ?_)
  dsimp only
  split <;> simp [h]

theorem execDestStatus_canon (q : Req) (s : State) (h : Canon s.mb.w0 s.mb.w2) : Tidy (execDestStatus q s) := by
  refine tidy_next (serve_canon _ _ _ _ _ h fun _ h => ?_)
  dsimp only
  split <;> simp [h]

theorem execTamperInputAssert_canon (dt : Nat) (n : Fin 4) (s : State) (h :
    Canon s.mb.w0 s.mb.w2) : Tidy (execTamperInputAssert dt n s) := by
  refine tidy_next ?_
  dsimp only
  repeat' split
  all_goals simp [h]

theorem execTamperMonitorTrip_canon (dt : Nat) (n : Fin 3) (s : State) (h :
    Canon s.mb.w0 s.mb.w2) : Tidy (execTamperMonitorTrip dt n s) := tidy_next (by simp [h])

theorem execTamperInputRelease_canon (dt : Nat) (n : Fin 7) (s : State) (h :
    Canon s.mb.w0 s.mb.w2) : Tidy (execTamperInputRelease dt n s) := tidy_next (by simp [h])

theorem execProposalLapse_canon (dt : Nat) (s : State) (h : Canon s.mb.w0 s.mb.w2) : Tidy (execProposalLapse dt s) := by
  refine tidy_next ?_
  dsimp only
  repeat' split
  all_goals simp [h]

theorem execPropose_canon (q : Req) (s : State) (h : Canon s.mb.w0 s.mb.w2) : Tidy (execPropose q s) := by
  unfold execPropose
  refine tidy_next (serve_canon _ _ _ _ _ h (fun s h => ?_))
  repeat' first
    | (refine canonE_require _ _ _ ?_)
    | (refine canonE_bulkLength _ _ _ ?_)
    | (refine canonE_withBulk _ _ _ _ _ (by simp [h]) (fun _ => ?_))
    | (refine canonE_onSpan _ _ (fun _ => ?_))
    | (refine canonE_onLane _ _ (fun _ _ => ?_))
    | (refine canonE_onRdm _ _ _ (fun _ => ?_))
    | (refine canonE_pierControl _ _ _ _ ?_)
    | (exact State.settle_canon _ _ _ (by simp [h]))
    | (simp (maxDischargeDepth := 30) [h]; done)
    | split
    | (simp (maxDischargeDepth := 30) [h, foldl_canon, -List.foldl_reverse]; done)
    | (dsimp only)

theorem execApprove_canon (q : Req) (writeFails : Nat) (s : State) (h : Canon s.mb.w0 s.mb.w2) : Tidy (execApprove q writeFails s) := by
  unfold execApprove
  refine tidy_next (serve_canon _ _ _ _ _ h (fun s h => ?_))
  repeat' first
    | (refine canonE_require _ _ _ ?_)
    | (refine canonE_bulkLength _ _ _ ?_)
    | (refine canonE_withBulk _ _ _ _ _ (by simp [h]) (fun _ => ?_))
    | (refine canonE_onSpan _ _ (fun _ => ?_))
    | (refine canonE_onLane _ _ (fun _ _ => ?_))
    | (refine canonE_onRdm _ _ _ (fun _ => ?_))
    | (refine canonE_pierControl _ _ _ _ ?_)
    | (exact State.settle_canon _ _ _ (by simp [h]))
    | (simp (maxDischargeDepth := 30) [h]; done)
    | split
    | (simp (maxDischargeDepth := 30) [h, foldl_canon, -List.foldl_reverse]; done)
    | (dsimp only)

theorem execProposalCancel_canon (q : Req) (s : State) (h : Canon s.mb.w0 s.mb.w2) : Tidy (execProposalCancel q s) := by
  refine tidy_next (serve_canon _ _ _ _ _ h fun _ h => ?_)
  dsimp only
  split <;> simp [h]

theorem execBoxStatus_canon (q : Req) (s : State) (h :
    Canon s.mb.w0 s.mb.w2) : Tidy (execBoxStatus q s) := tidy_next (serve_canon _ _ _ _ _ h fun _ h => by simp [h])

theorem execSlotInfo_canon (q : Req) (s : State) (h :
    Canon s.mb.w0 s.mb.w2) : Tidy (execSlotInfo q s) := tidy_next (serve_canon _ _ _ _ _ h fun _ h => by simp [h])

theorem execKeyLoad_canon (q : Req) (s : State) (h : Canon s.mb.w0 s.mb.w2) : Tidy (execKeyLoad q s) := by
  unfold execKeyLoad
  refine tidy_next (serve_canon _ _ _ _ _ h (fun s h => canonE_require _ _ _ ?_))
  cases hw : s.derive (p8 q.payload 8).toNat 1 (ascii "WRAP" ++ be 4 (rd q.payload 0x0C 4)) 256 with
  | error e => cases e <;> simp [h]
  | ok w =>
    have k := State.derive_canon _ _ _ _ _ _ hw h
    generalize hu : keyUnwrap w.2 (bytesAt q.payload 0x10 56) = u
    dsimp only
    rw [hu]
    cases u with
    | none => simp [k]
    | some p => repeat' (first | (simp [k]; done) | split | dsimp only)

theorem execWkStatus_canon (q : Req) (s : State) (h :
    Canon s.mb.w0 s.mb.w2) : Tidy (execWkStatus q s) := tidy_next (serve_canon _ _ _ _ _ h fun _ h => by simp [h])

theorem execChallenge_canon (q : Req) (s : State) (h : Canon s.mb.w0 s.mb.w2) : Tidy (execChallenge q s) := by
  refine tidy_next (serve_canon _ _ _ _ _ h fun _ h => ?_)
  dsimp only
  split <;> simp [h]

theorem execOfficerRead_canon (q : Req) (s : State) (h :
    Canon s.mb.w0 s.mb.w2) : Tidy (execOfficerRead q s) := tidy_next (serve_canon _ _ _ _ _ h fun _ h => by simp [h])

theorem execIdentityRead_canon (q : Req) (s : State) (h :
    Canon s.mb.w0 s.mb.w2) : Tidy (execIdentityRead q s) := tidy_next (serve_canon _ _ _ _ _ h fun _ h => by simp [h])

theorem execImageChecksComplete_canon (dt : Nat) (s : State) (h : Canon s.mb.w0 s.mb.w2) :
    Tidy (execImageChecksComplete dt s) := by
  have h := State.elapse_canon s dt h
  unfold execImageChecksComplete
  refine tidy_next ?_
  dsimp only
  generalize imageSigned _ = b1
  generalize checkHeader _ _ = b2
  generalize openImage = o
  repeat' (first
    | (simp (maxDischargeDepth := 30) [h]; done)
    | (simp (maxDischargeDepth := 30) [State.sectionKey_canon _ _ _ ‹_› h]; done)
    | split)

theorem execBlobWaitExpiry_canon (dt : Nat) (s : State) (h : Canon s.mb.w0 s.mb.w2) : Tidy (execBlobWaitExpiry dt s) := by
  unfold execBlobWaitExpiry
  try dsimp only
  repeat' first
    | (refine tidy_next ?_)
    | (simp +contextual (maxDischargeDepth := 30) [h, foldl_canon, -List.foldl_reverse]; done)
    | (refine State.consume_canon _ _ _ _ (by simp [h]) (fun _ h => ?_))
    | (refine State.ptpRead_canon _ _ _ (by simp [h]) (fun _ h => ?_))
    | split
    | (refine foldl_canon _ _ _ (fun _ _ h => ?_) ?_)

theorem execBeaconBuild_canon (dt : Nat) (ri : Fin 4) (s : State) (h :
    Canon s.mb.w0 s.mb.w2) : Tidy (execBeaconBuild dt ri s) := by
  unfold execBeaconBuild
  try dsimp only
  repeat' first
    | (refine tidy_next ?_)
    | (simp +contextual (maxDischargeDepth := 30) [h, foldl_canon, -List.foldl_reverse]; done)
    | (refine State.consume_canon _ _ _ _ (by simp [h]) (fun _ h => ?_))
    | (refine State.ptpRead_canon _ _ _ (by simp [h]) (fun _ h => ?_))
    | split
    | (refine foldl_canon _ _ _ (fun _ _ h => ?_) ?_)

theorem execBeaconStb_canon (dt : Nat) (ri : Fin 4) (s : State) (h :
    Canon s.mb.w0 s.mb.w2) : Tidy (execBeaconStb dt ri s) := by
  unfold execBeaconStb
  try dsimp only
  repeat' first
    | (refine tidy_next ?_)
    | (simp +contextual (maxDischargeDepth := 30) [h, foldl_canon, -List.foldl_reverse]; done)
    | (refine State.consume_canon _ _ _ _ (by simp [h]) (fun _ h => ?_))
    | (refine State.ptpRead_canon _ _ _ (by simp [h]) (fun _ h => ?_))
    | split
    | (refine foldl_canon _ _ _ (fun _ _ h => ?_) ?_)

theorem execRadioSlotGrant_canon (dt : Nat) (ri : Fin 4) (s : State) (h :
    Canon s.mb.w0 s.mb.w2) : Tidy (execRadioSlotGrant dt ri s) := by
  unfold execRadioSlotGrant
  try dsimp only
  repeat' first
    | (refine tidy_next ?_)
    | (simp +contextual (maxDischargeDepth := 30) [h, foldl_canon, -List.foldl_reverse]; done)
    | (refine State.consume_canon _ _ _ _ (by simp [h]) (fun _ h => ?_))
    | (refine State.ptpRead_canon _ _ _ (by simp [h]) (fun _ h => ?_))
    | split
    | (refine foldl_canon _ _ _ (fun _ _ h => ?_) ?_)

theorem execRadioAck_canon (dt : Nat) (ri : Fin 4) (dsn : U8) (s : State) (h :
    Canon s.mb.w0 s.mb.w2) : Tidy (execRadioAck dt ri dsn s) := by
  unfold execRadioAck
  try dsimp only
  repeat' first
    | (refine tidy_next ?_)
    | (simp +contextual (maxDischargeDepth := 30) [h, foldl_canon, -List.foldl_reverse]; done)
    | (refine State.consume_canon _ _ _ _ (by simp [h]) (fun _ h => ?_))
    | (refine State.ptpRead_canon _ _ _ (by simp [h]) (fun _ h => ?_))
    | split
    | (refine foldl_canon _ _ _ (fun _ _ h => ?_) ?_)

theorem execAckWaitExpiry_canon (dt : Nat) (ri : Fin 4) (s : State) (h :
    Canon s.mb.w0 s.mb.w2) : Tidy (execAckWaitExpiry dt ri s) := by
  unfold execAckWaitExpiry
  try dsimp only
  repeat' first
    | (refine tidy_next ?_)
    | (simp +contextual (maxDischargeDepth := 30) [h, foldl_canon, -List.foldl_reverse]; done)
    | (refine State.consume_canon _ _ _ _ (by simp [h]) (fun _ h => ?_))
    | (refine State.ptpRead_canon _ _ _ (by simp [h]) (fun _ h => ?_))
    | split
    | (refine foldl_canon _ _ _ (fun _ _ h => ?_) ?_)

theorem execAssocRequest_canon (dt : Nat) (ri : Fin 4) (ext : U64) (sleepy : Bool) (s : State) (h :
    Canon s.mb.w0 s.mb.w2) : Tidy (execAssocRequest dt ri ext sleepy s) := by
  unfold execAssocRequest
  dsimp only
  split <;> exact tidy_next (by simp [h])

theorem execDisassocNotify_canon (dt : Nat) (ri : Fin 4) (src : U16) (s : State) (h :
    Canon s.mb.w0 s.mb.w2) : Tidy (execDisassocNotify dt ri src s) := by
  unfold execDisassocNotify
  try dsimp only
  repeat' first
    | (refine tidy_next ?_)
    | (simp +contextual (maxDischargeDepth := 30) [h, foldl_canon, -List.foldl_reverse]; done)
    | (refine State.consume_canon _ _ _ _ (by simp [h]) (fun _ h => ?_))
    | (refine State.ptpRead_canon _ _ _ (by simp [h]) (fun _ h => ?_))
    | split
    | (refine foldl_canon _ _ _ (fun _ _ h => ?_) ?_)

theorem execDataRequest_canon (dt : Nat) (ri : Fin 4) (src : U16) (ext : U64) (s : State) (h :
    Canon s.mb.w0 s.mb.w2) : Tidy (execDataRequest dt ri src ext s) := by
  unfold execDataRequest
  try dsimp only
  repeat' first
    | (refine tidy_next ?_)
    | (simp +contextual (maxDischargeDepth := 30) [h, foldl_canon, -List.foldl_reverse]; done)
    | (refine State.consume_canon _ _ _ _ (by simp [h]) (fun _ h => ?_))
    | (refine State.ptpRead_canon _ _ _ (by simp [h]) (fun _ h => ?_))
    | split
    | (refine foldl_canon _ _ _ (fun _ _ h => ?_) ?_)

theorem execIndirectPersistExpiry_canon (dt : Nat) (ri : Fin 4) (s : State) (h :
    Canon s.mb.w0 s.mb.w2) : Tidy (execIndirectPersistExpiry dt ri s) := by
  unfold execIndirectPersistExpiry
  try dsimp only
  repeat' first
    | (refine tidy_next ?_)
    | (simp +contextual (maxDischargeDepth := 30) [h, foldl_canon, -List.foldl_reverse]; done)
    | (refine State.consume_canon _ _ _ _ (by simp [h]) (fun _ h => ?_))
    | (refine State.ptpRead_canon _ _ _ (by simp [h]) (fun _ h => ?_))
    | split
    | (refine foldl_canon _ _ _ (fun _ _ h => ?_) ?_)

theorem execRadioDataFrame_canon (dt : Nat) (ri : Fin 4) (f : RadioFrame) (s : State) (h : Canon s.mb.w0 s.mb.w2) :
    Tidy (execRadioDataFrame dt ri f s) := by
  have h := State.elapse_canon s dt h
  unfold execRadioDataFrame
  refine tidy_next ?_
  try dsimp only
  split
  · split
    · rename_i x hx
      split at hx
      · obtain ⟨n, -, hn⟩ := Option.bind_eq_some_iff.1 hx
        have k := State.radioOpen_canon _ _ _ _ _ hn h
        split <;> simp [k, h]
      · cases hx
    · exact h
  · repeat' (first
      | (simp [h]; done)
      | (simp [State.privetCheck_canon _ _ _ _ ‹_› h]; done)
      | (simp [State.radioOpen_canon _ _ _ _ _ ‹_› h]; done)
      | split)

theorem execPrivetFrame_canon (dt : Nat) (ri : Fin 4) (f : RadioFrame) (s : State) (h : Canon s.mb.w0 s.mb.w2) :
    Tidy (execPrivetFrame dt ri f s) := by
  have h := State.elapse_canon s dt h
  unfold execPrivetFrame
  refine tidy_next ?_
  try dsimp only
  repeat' (first
    | (simp [h]; done)
    | (have k := State.privetCheck_canon _ _ _ _ ‹_› h; simp [k]; done)
    | split)

theorem execParentBeacon_canon (dt : Nat) (ri : Fin 4) (pan : U16) (ago : Nat) (s : State) (h : Canon s.mb.w0 s.mb.w2) : Tidy (execParentBeacon dt ri pan ago s) := by
  unfold execParentBeacon
  try dsimp only
  repeat' first
    | (refine tidy_next ?_)
    | (simp +contextual (maxDischargeDepth := 30) [h, foldl_canon, -List.foldl_reverse]; done)
    | (refine State.consume_canon _ _ _ _ (by simp [h]) (fun _ h => ?_))
    | (refine State.ptpRead_canon _ _ _ (fun _ _ h => ?_) (by simp [h]))
    | (refine State.onBlock_canon _ _ _ _ _ (fun _ h => ?_) (by simp [h]))
    | (refine State.onUp_canon _ _ _ _ _ (fun _ h => ?_) (by simp [h]))
    | (refine foldl_canon _ _ _ (fun _ _ h => ?_) ?_)
    | split

theorem execCoordRealignment_canon (dt : Nat) (ri : Fin 4) (s : State) (h :
    Canon s.mb.w0 s.mb.w2) : Tidy (execCoordRealignment dt ri s) := by
  unfold execCoordRealignment
  try dsimp only
  repeat' first
    | (refine tidy_next ?_)
    | (simp +contextual (maxDischargeDepth := 30) [h, foldl_canon, -List.foldl_reverse]; done)
    | (refine State.consume_canon _ _ _ _ (by simp [h]) (fun _ h => ?_))
    | (refine State.ptpRead_canon _ _ _ (by simp [h]) (fun _ h => ?_))
    | split
    | (refine foldl_canon _ _ _ (fun _ _ h => ?_) ?_)

theorem execParentBeaconMiss_canon (dt : Nat) (ri : Fin 4) (s : State) (h :
    Canon s.mb.w0 s.mb.w2) : Tidy (execParentBeaconMiss dt ri s) := by
  unfold execParentBeaconMiss
  try dsimp only
  repeat' first
    | (refine tidy_next ?_)
    | (simp +contextual (maxDischargeDepth := 30) [h, foldl_canon, -List.foldl_reverse]; done)
    | (refine State.consume_canon _ _ _ _ (by simp [h]) (fun _ h => ?_))
    | (refine State.ptpRead_canon _ _ _ (by simp [h]) (fun _ h => ?_))
    | split
    | (refine foldl_canon _ _ _ (fun _ _ h => ?_) ?_)

theorem execXcvrIdentify_canon (dt : Nat) (ri : Fin 4) (resp : List U32) (s : State) (h :
    Canon s.mb.w0 s.mb.w2) : Tidy (execXcvrIdentify dt ri resp s) := by
  unfold execXcvrIdentify
  dsimp only
  split <;> exact tidy_next (by simp [h])

theorem execXcvrRetry_canon (dt : Nat) (ri : Fin 4) (resp : List U32) (s : State) (h :
    Canon s.mb.w0 s.mb.w2) : Tidy (execXcvrRetry dt ri resp s) := by
  unfold execXcvrRetry
  dsimp only
  split <;> exact tidy_next (by simp [h])

theorem execRadioSet_canon (q : Req) (s : State) (h : Canon s.mb.w0 s.mb.w2) : Tidy (execRadioSet q s) := by
  unfold execRadioSet
  refine tidy_next (serve_canon _ _ _ _ _ h (fun s h => ?_))
  repeat' first
    | (refine canonE_require _ _ _ ?_)
    | (refine canonE_bulkLength _ _ _ ?_)
    | (refine canonE_withBulk _ _ _ _ _ (by simp [h]) (fun _ => ?_))
    | (refine canonE_onSpan _ _ (fun _ => ?_))
    | (refine canonE_onLane _ _ (fun _ _ => ?_))
    | (refine canonE_onRdm _ _ _ (fun _ => ?_))
    | (refine canonE_pierControl _ _ _ _ ?_)
    | (exact State.settle_canon _ _ _ (by simp [h]))
    | (simp (maxDischargeDepth := 30) [h]; done)
    | split
    | (simp (maxDischargeDepth := 30) [h, foldl_canon, -List.foldl_reverse]; done)
    | (dsimp only)

theorem execRadioStatus_canon (q : Req) (s : State) (h :
    Canon s.mb.w0 s.mb.w2) : Tidy (execRadioStatus q s) := tidy_next
        (serve_canon _ _ _ _ _ h fun _ h => canonE_require _ _ _ (by simp [h]))

theorem execNodeRead_canon (q : Req) (s : State) (h :
    Canon s.mb.w0 s.mb.w2) : Tidy (execNodeRead q s) := tidy_next (serve_canon _ _ _ _ _ h fun _ h => by simp [h])

theorem execNodeDisassociate_canon (q : Req) (s : State) (h :
    Canon s.mb.w0 s.mb.w2) : Tidy (execNodeDisassociate q s) := tidy_next (by simp [h])

theorem execNodeAllow_canon (q : Req) (s : State) (h :
    Canon s.mb.w0 s.mb.w2) : Tidy (execNodeAllow q s) := tidy_next (by simp [h])

theorem execNodeDisallow_canon (q : Req) (s : State) (h :
    Canon s.mb.w0 s.mb.w2) : Tidy (execNodeDisallow q s) := tidy_next (by simp [h])

theorem execPrivetSet_canon (q : Req) (s : State) (h :
    Canon s.mb.w0 s.mb.w2) : Tidy (execPrivetSet q s) := tidy_next
        (serve_canon _ _ _ _ _ h fun _ h => canonE_require _ _ _ (by simp [h]))

theorem execRadioSend_canon (q : Req) (s : State) (h : Canon s.mb.w0 s.mb.w2) : Tidy (execRadioSend q s) := by
  unfold execRadioSend
  refine tidy_next (serve_canon _ _ _ _ _ h (fun s h => ?_))
  repeat' first
    | (have h' := State.derive_canon _ _ _ _ _ _ (by assumption) h; simp [h']; done)
    | (refine canonE_require _ _ _ ?_)
    | (refine canonE_bulkLength _ _ _ ?_)
    | (refine canonE_withBulk _ _ _ _ _ (by simp [h]) (fun _ => ?_))
    | (refine canonE_onSpan _ _ (fun _ => ?_))
    | (refine canonE_onLane _ _ (fun _ _ => ?_))
    | (refine canonE_onRdm _ _ _ (fun _ => ?_))
    | (refine canonE_pierControl _ _ _ _ ?_)
    | (exact State.settle_canon _ _ _ (by simp [h]))
    | (simp (maxDischargeDepth := 30) [h]; done)
    | split
    | (simp (maxDischargeDepth := 30) [h, foldl_canon, -List.foldl_reverse]; done)
    | (dsimp only)

theorem execRadioRecv_canon (q : Req) (s : State) (h : Canon s.mb.w0 s.mb.w2) : Tidy (execRadioRecv q s) := by
  refine tidy_next (serve_canon _ _ _ _ _ h fun _ h => ?_)
  dsimp only
  split <;> simp [h]

theorem execRadioXcvrRead_canon (q : Req) (s : State) (h :
    Canon s.mb.w0 s.mb.w2) : Tidy (execRadioXcvrRead q s) := tidy_next (serve_canon _ _ _ _ _ h fun _ h => by simp [h])

theorem execHeartbeatSend_canon (dt : Nat) (s : State) (h : Canon s.mb.w0 s.mb.w2) : Tidy (execHeartbeatSend dt s) := by
  unfold execHeartbeatSend
  dsimp only
  split <;> exact tidy_next (by simp [h])

theorem execPierHeartbeatMsg_canon (dt : Nat) (span : Fin 12) (m : Msg) (s : State) (h :
    Canon s.mb.w0 s.mb.w2) : Tidy (execPierHeartbeatMsg dt span m s) := by
  unfold execPierHeartbeatMsg
  try dsimp only
  repeat' first
    | (refine tidy_next ?_)
    | (simp +contextual (maxDischargeDepth := 30) [h, foldl_canon, -List.foldl_reverse]; done)
    | (refine State.consume_canon _ _ _ _ (by simp [h]) (fun _ h => ?_))
    | (refine State.ptpRead_canon _ _ _ (by simp [h]) (fun _ h => ?_))
    | split
    | (refine foldl_canon _ _ _ (fun _ _ h => ?_) ?_)

theorem execPartnerSilence_canon (dt : Nat) (s : State) (h : Canon s.mb.w0 s.mb.w2) : Tidy (execPartnerSilence dt s) := by
  unfold execPartnerSilence
  dsimp only
  split <;> exact tidy_next (by simp [h])

theorem execTrestleWitnessLoss_canon (dt : Nat) (s : State) (h :
    Canon s.mb.w0 s.mb.w2) : Tidy (execTrestleWitnessLoss dt s) := by
  refine tidy_next ?_
  dsimp only
  repeat' split
  all_goals simp [h]

theorem execPierActInFall_canon (dt : Nat) (s : State) (h : Canon s.mb.w0 s.mb.w2) : Tidy (execPierActInFall dt s) := by
  refine tidy_next ?_
  dsimp only
  split <;> simp [h]

theorem execPierActInRise_canon (dt : Nat) (s : State) (h : Canon s.mb.w0 s.mb.w2) : Tidy (execPierActInRise dt s) := by
  refine tidy_next ?_
  dsimp only
  split <;> simp [h]

theorem execHoldCircuitExpiry_canon (dt : Nat) (s : State) (h :
    Canon s.mb.w0 s.mb.w2) : Tidy (execHoldCircuitExpiry dt s) := tidy_next (by simp [h])

theorem execPierReleaseMsg_canon (dt : Nat) (span : Fin 12) (m : Msg) (s : State) (h :
    Canon s.mb.w0 s.mb.w2) : Tidy (execPierReleaseMsg dt span m s) := by
  unfold execPierReleaseMsg
  try dsimp only
  repeat' first
    | (refine tidy_next ?_)
    | (simp +contextual (maxDischargeDepth := 30) [h, foldl_canon, -List.foldl_reverse]; done)
    | (refine State.consume_canon _ _ _ _ (by simp [h]) (fun _ h => ?_))
    | (refine State.ptpRead_canon _ _ _ (by simp [h]) (fun _ h => ?_))
    | split
    | (refine foldl_canon _ _ _ (fun _ _ h => ?_) ?_)

theorem execPierClaimMsg_canon (dt : Nat) (span : Fin 12) (m : Msg) (s : State) (h :
    Canon s.mb.w0 s.mb.w2) : Tidy (execPierClaimMsg dt span m s) := by
  unfold execPierClaimMsg
  try dsimp only
  repeat' first
    | (refine tidy_next ?_)
    | (simp +contextual (maxDischargeDepth := 30) [h, foldl_canon, -List.foldl_reverse]; done)
    | (refine State.consume_canon _ _ _ _ (by simp [h]) (fun _ h => ?_))
    | (refine State.ptpRead_canon _ _ _ (by simp [h]) (fun _ h => ?_))
    | split
    | (refine foldl_canon _ _ _ (fun _ _ h => ?_) ?_)

theorem execPierDigestMsg_canon (dt : Nat) (span : Fin 12) (m : Msg) (s : State) (h :
    Canon s.mb.w0 s.mb.w2) : Tidy (execPierDigestMsg dt span m s) := by
  unfold execPierDigestMsg
  try dsimp only
  repeat' first
    | (refine tidy_next ?_)
    | (simp +contextual (maxDischargeDepth := 30) [h, foldl_canon, -List.foldl_reverse]; done)
    | (refine State.consume_canon _ _ _ _ (by simp [h]) (fun _ h => ?_))
    | (refine State.ptpRead_canon _ _ _ (by simp [h]) (fun _ h => ?_))
    | split
    | (refine foldl_canon _ _ _ (fun _ _ h => ?_) ?_)

theorem execSealSend_canon (dt : Nat) (s : State) (h :
    Canon s.mb.w0 s.mb.w2) : Tidy (execSealSend dt s) := tidy_next (by simp [h])

theorem execPierSealMsg_canon (dt : Nat) (span : Fin 12) (m : Msg) (s : State) (h :
    Canon s.mb.w0 s.mb.w2) : Tidy (execPierSealMsg dt span m s) := by
  unfold execPierSealMsg
  try dsimp only
  repeat' first
    | (refine tidy_next ?_)
    | (simp +contextual (maxDischargeDepth := 30) [h, foldl_canon, -List.foldl_reverse]; done)
    | (refine State.consume_canon _ _ _ _ (by simp [h]) (fun _ h => ?_))
    | (refine State.ptpRead_canon _ _ _ (by simp [h]) (fun _ h => ?_))
    | split
    | (refine foldl_canon _ _ _ (fun _ _ h => ?_) ?_)

theorem execSealMissingAtCutoff_canon (dt : Nat) (s : State) (h :
    Canon s.mb.w0 s.mb.w2) : Tidy (execSealMissingAtCutoff dt s) := by
  unfold execSealMissingAtCutoff
  try dsimp only
  repeat' first
    | (refine tidy_next ?_)
    | (simp +contextual (maxDischargeDepth := 30) [h, foldl_canon, -List.foldl_reverse]; done)
    | (refine State.consume_canon _ _ _ _ (by simp [h]) (fun _ h => ?_))
    | (refine State.ptpRead_canon _ _ _ (by simp [h]) (fun _ h => ?_))
    | split
    | (refine foldl_canon _ _ _ (fun _ _ h => ?_) ?_)

theorem execRevertRequest_canon (dt : Nat) (s : State) (h : Canon s.mb.w0 s.mb.w2) : Tidy (execRevertRequest dt s) := by
  refine tidy_next ?_
  dsimp only
  split <;> simp [h]

theorem execPierRevertMsg_canon (dt : Nat) (span : Fin 12) (m : Msg) (s : State) (h :
    Canon s.mb.w0 s.mb.w2) : Tidy (execPierRevertMsg dt span m s) := by
  unfold execPierRevertMsg
  try dsimp only
  repeat' first
    | (refine tidy_next ?_)
    | (simp +contextual (maxDischargeDepth := 30) [h, foldl_canon, -List.foldl_reverse]; done)
    | (refine State.consume_canon _ _ _ _ (by simp [h]) (fun _ h => ?_))
    | (refine State.ptpRead_canon _ _ _ (by simp [h]) (fun _ h => ?_))
    | split
    | (refine foldl_canon _ _ _ (fun _ _ h => ?_) ?_)

theorem execHandoverAtCutoff_canon (dt : Nat) (s : State) (h :
    Canon s.mb.w0 s.mb.w2) : Tidy (execHandoverAtCutoff dt s) := by
  unfold execHandoverAtCutoff
  try dsimp only
  repeat' first
    | (refine tidy_next ?_)
    | (simp +contextual (maxDischargeDepth := 30) [h, foldl_canon, -List.foldl_reverse]; done)
    | (refine State.consume_canon _ _ _ _ (by simp [h]) (fun _ h => ?_))
    | (refine State.ptpRead_canon _ _ _ (by simp [h]) (fun _ h => ?_))
    | split
    | (refine foldl_canon _ _ _ (fun _ _ h => ?_) ?_)

theorem execPierResyncMsg_canon (dt : Nat) (span : Fin 12) (m : Msg) (s : State) (h :
    Canon s.mb.w0 s.mb.w2) : Tidy (execPierResyncMsg dt span m s) := by
  unfold execPierResyncMsg
  try dsimp only
  repeat' first
    | (refine tidy_next ?_)
    | (simp +contextual (maxDischargeDepth := 30) [h, foldl_canon, -List.foldl_reverse]; done)
    | (refine State.consume_canon _ _ _ _ (by simp [h]) (fun _ h => ?_))
    | (refine State.ptpRead_canon _ _ _ (by simp [h]) (fun _ h => ?_))
    | split
    | (refine foldl_canon _ _ _ (fun _ _ h => ?_) ?_)

theorem execPartnerWaitExpiry_canon (dt : Nat) (s : State) (h :
    Canon s.mb.w0 s.mb.w2) : Tidy (execPartnerWaitExpiry dt s) := by
  refine tidy_next ?_
  dsimp only
  repeat' split
  all_goals simp [h]

theorem execPierSet_canon (q : Req) (s : State) (h : Canon s.mb.w0 s.mb.w2) : Tidy (execPierSet q s) := by
  unfold execPierSet
  refine tidy_next (serve_canon _ _ _ _ _ h (fun s h => ?_))
  repeat' first
    | (refine canonE_require _ _ _ ?_)
    | (refine canonE_bulkLength _ _ _ ?_)
    | (refine canonE_withBulk _ _ _ _ _ (by simp [h]) (fun _ => ?_))
    | (refine canonE_onSpan _ _ (fun _ => ?_))
    | (refine canonE_onLane _ _ (fun _ _ => ?_))
    | (refine canonE_onRdm _ _ _ (fun _ => ?_))
    | (refine canonE_pierControl _ _ _ _ ?_)
    | (exact State.settle_canon _ _ _ (by simp [h]))
    | (simp (maxDischargeDepth := 30) [h]; done)
    | split
    | (simp (maxDischargeDepth := 30) [h, foldl_canon, -List.foldl_reverse]; done)
    | (dsimp only)

theorem execPierStatus_canon (q : Req) (s : State) (h :
    Canon s.mb.w0 s.mb.w2) : Tidy (execPierStatus q s) := tidy_next (serve_canon _ _ _ _ _ h fun _ h => by simp [h])

theorem execPierControlHandover_canon (q : Req) (s : State) (h :
    Canon s.mb.w0 s.mb.w2) : Tidy (execPierControlHandover q s) := tidy_next
        (serve_canon _ _ _ _ _ h fun _ h => by simp [h])

theorem execPierControlResync_canon (q : Req) (s : State) (h :
    Canon s.mb.w0 s.mb.w2) : Tidy (execPierControlResync q s) := tidy_next (serve_canon _ _ _ _ _ h fun _ h => by simp [h])

theorem execPierControlRevertHold_canon (q : Req) (s : State) (h :
    Canon s.mb.w0 s.mb.w2) : Tidy (execPierControlRevertHold q s) := tidy_next
        (serve_canon _ _ _ _ _ h fun _ h => by simp [h])

theorem execPierControlRevertAllow_canon (q : Req) (s : State) (h :
    Canon s.mb.w0 s.mb.w2) : Tidy (execPierControlRevertAllow q s) := tidy_next
        (serve_canon _ _ _ _ _ h fun _ h => by simp [h])

theorem execPierCounters_canon (q : Req) (s : State) (h :
    Canon s.mb.w0 s.mb.w2) : Tidy (execPierCounters q s) := tidy_next (serve_canon _ _ _ _ _ h fun _ h => by simp [h])

theorem execGridSetStart_canon (q : Req) (s : State) (h :
    Canon s.mb.w0 s.mb.w2) : Tidy (execGridSetStart q s) := tidy_next (by simp [h])

theorem execGridSetChange_canon (q : Req) (s : State) (h :
    Canon s.mb.w0 s.mb.w2) : Tidy (execGridSetChange q s) := tidy_next (by simp [h])

theorem execGridSetStop_canon (q : Req) (s : State) (h :
    Canon s.mb.w0 s.mb.w2) : Tidy (execGridSetStop q s) := tidy_next (by simp [h])

theorem execTickBoundary_canon (dt : Nat) (s : State) (h :
    Canon s.mb.w0 s.mb.w2) : Tidy (execTickBoundary dt s) := tidy_next (by simp [h])

theorem execPresentationInstant_canon (dt : Nat) (s : State) (h :
    Canon s.mb.w0 s.mb.w2) : Tidy (execPresentationInstant dt s) := by
  unfold execPresentationInstant
  try dsimp only
  repeat' first
    | (refine tidy_next ?_)
    | (simp +contextual (maxDischargeDepth := 30) [h, foldl_canon, -List.foldl_reverse]; done)
    | (refine State.consume_canon _ _ _ _ (by simp [h]) (fun _ h => ?_))
    | (refine State.ptpRead_canon _ _ _ (by simp [h]) (fun _ h => ?_))
    | split
    | (refine foldl_canon _ _ _ (fun _ _ h => ?_) ?_)

theorem execRenderStart_canon (dt : Nat) (s : State) (h : Canon s.mb.w0 s.mb.w2) : Tidy (execRenderStart dt s) := by
  unfold execRenderStart
  try dsimp only
  repeat' first
    | (refine tidy_next ?_)
    | (simp +contextual (maxDischargeDepth := 30) [h, foldl_canon, -List.foldl_reverse]; done)
    | (refine State.consume_canon _ _ _ _ (by simp [h]) (fun _ h => ?_))
    | (refine State.ptpRead_canon _ _ _ (by simp [h]) (fun _ h => ?_))
    | split
    | (refine foldl_canon _ _ _ (fun _ _ h => ?_) ?_)

theorem execRenderStallTimeout_canon (dt : Nat) (s : State) (h :
    Canon s.mb.w0 s.mb.w2) : Tidy (execRenderStallTimeout dt s) := by
  unfold execRenderStallTimeout
  try dsimp only
  repeat' first
    | (refine tidy_next ?_)
    | (simp +contextual (maxDischargeDepth := 30) [h, foldl_canon, -List.foldl_reverse]; done)
    | (refine State.consume_canon _ _ _ _ (by simp [h]) (fun _ h => ?_))
    | (refine State.ptpRead_canon _ _ _ (by simp [h]) (fun _ h => ?_))
    | split
    | (refine foldl_canon _ _ _ (fun _ _ h => ?_) ?_)

theorem execSlipLimitStop_canon (dt : Nat) (s : State) (h : Canon s.mb.w0 s.mb.w2) : Tidy (execSlipLimitStop dt s) := by
  unfold execSlipLimitStop
  try dsimp only
  repeat' first
    | (refine tidy_next ?_)
    | (simp +contextual (maxDischargeDepth := 30) [h, foldl_canon, -List.foldl_reverse]; done)
    | (refine State.consume_canon _ _ _ _ (by simp [h]) (fun _ h => ?_))
    | (refine State.ptpRead_canon _ _ _ (by simp [h]) (fun _ h => ?_))
    | split
    | (refine foldl_canon _ _ _ (fun _ _ h => ?_) ?_)

theorem execTaskDispatch_canon (dt : Nat) (port : Fin 4) (s : State) (h :
    Canon s.mb.w0 s.mb.w2) : Tidy (execTaskDispatch dt port s) := tidy_next (by simp [h])

theorem execTaskEnd_canon (dt : Nat) (n : Fin 8192) (s : State) (h : Canon s.mb.w0 s.mb.w2) : Tidy (execTaskEnd dt n s) := by
  unfold execTaskEnd
  try dsimp only
  repeat' first
    | (refine tidy_next ?_)
    | (simp +contextual (maxDischargeDepth := 30) [h, foldl_canon, -List.foldl_reverse]; done)
    | (refine State.consume_canon _ _ _ _ (by simp [h]) (fun _ h => ?_))
    | (refine State.ptpRead_canon _ _ _ (fun _ _ h => ?_) (by simp [h]))
    | (refine State.onBlock_canon _ _ _ _ _ (fun _ h => ?_) (by simp [h]))
    | (refine State.onUp_canon _ _ _ _ _ (fun _ h => ?_) (by simp [h]))
    | (refine foldl_canon _ _ _ (fun _ _ h => ?_) ?_)
    | split

theorem execTaskTrap_canon (dt : Nat) (n : Fin 8192) (s : State) (h :
    Canon s.mb.w0 s.mb.w2) : Tidy (execTaskTrap dt n s) := by
  unfold execTaskTrap
  try dsimp only
  repeat' first
    | (refine tidy_next ?_)
    | (simp +contextual (maxDischargeDepth := 30) [h, foldl_canon, -List.foldl_reverse]; done)
    | (refine State.consume_canon _ _ _ _ (by simp [h]) (fun _ h => ?_))
    | (refine State.ptpRead_canon _ _ _ (by simp [h]) (fun _ h => ?_))
    | split
    | (refine foldl_canon _ _ _ (fun _ _ h => ?_) ?_)

theorem execTaskWatchdogExpiry_canon (dt : Nat) (n : Fin 8192) (s : State) (h :
    Canon s.mb.w0 s.mb.w2) : Tidy (execTaskWatchdogExpiry dt n s) := by
  unfold execTaskWatchdogExpiry
  try dsimp only
  repeat' first
    | (refine tidy_next ?_)
    | (simp +contextual (maxDischargeDepth := 30) [h, foldl_canon, -List.foldl_reverse]; done)
    | (refine State.consume_canon _ _ _ _ (by simp [h]) (fun _ h => ?_))
    | (refine State.ptpRead_canon _ _ _ (by simp [h]) (fun _ h => ?_))
    | split
    | (refine foldl_canon _ _ _ (fun _ _ h => ?_) ?_)

theorem execCoreMemoryEccError_canon (dt : Nat) (core : Fin 64) (double : Bool) (s : State) (h :
    Canon s.mb.w0 s.mb.w2) : Tidy (execCoreMemoryEccError dt core double s) := by
  unfold execCoreMemoryEccError
  try dsimp only
  repeat' first
    | (refine tidy_next ?_)
    | (simp +contextual (maxDischargeDepth := 30) [h, foldl_canon, -List.foldl_reverse]; done)
    | (refine State.consume_canon _ _ _ _ (by simp [h]) (fun _ h => ?_))
    | (refine State.ptpRead_canon _ _ _ (by simp [h]) (fun _ h => ?_))
    | split
    | (refine foldl_canon _ _ _ (fun _ _ h => ?_) ?_)

theorem execFrameCommit_canon (dt : Nat) (s : State) (h :
    Canon s.mb.w0 s.mb.w2) : Tidy (execFrameCommit dt s) := tidy_next (by simp [h])

theorem execHedgerowRelease_canon (dt : Nat) (s : State) (h :
    Canon s.mb.w0 s.mb.w2) : Tidy (execHedgerowRelease dt s) := tidy_next (by simp [h])

theorem execShowActivate_canon (q : Req) (s : State) (h : Canon s.mb.w0 s.mb.w2) : Tidy (execShowActivate q s) := by
  unfold execShowActivate
  refine tidy_next (serve_canon _ _ _ _ _ h (fun s h => ?_))
  repeat' (first | (refine canonE_require _ _ _ ?_) | split | (simp [h]; done))

theorem execHouseNAssert_canon (dt : Nat) (s : State) (h :
    Canon s.mb.w0 s.mb.w2) : Tidy (execHouseNAssert dt s) := tidy_next (by simp [h])

theorem execHouseNRelease_canon (dt : Nat) (s : State) (h :
    Canon s.mb.w0 s.mb.w2) : Tidy (execHouseNRelease dt s) := tidy_next (by simp [h])

theorem execHouseAssertApply_canon (dt : Nat) (s : State) (h :
    Canon s.mb.w0 s.mb.w2) : Tidy (execHouseAssertApply dt s) := tidy_next (by simp [h])

theorem execHouseMsg_canon (dt : Nat) (span : Fin 12) (m : Msg) (s : State) (h :
    Canon s.mb.w0 s.mb.w2) : Tidy (execHouseMsg dt span m s) := by
  unfold execHouseMsg
  try dsimp only
  repeat' first
    | (refine tidy_next ?_)
    | (simp +contextual (maxDischargeDepth := 30) [h, foldl_canon, -List.foldl_reverse]; done)
    | (refine State.consume_canon _ _ _ _ (by simp [h]) (fun _ h => ?_))
    | (refine State.ptpRead_canon _ _ _ (by simp [h]) (fun _ h => ?_))
    | split
    | (refine foldl_canon _ _ _ (fun _ _ h => ?_) ?_)

theorem execVinRise_canon (dt : Nat) (mv : Nat) (s : State) (h : Canon s.mb.w0 s.mb.w2) : Tidy (execVinRise dt mv s) := by
  refine tidy_next ?_
  dsimp only
  split <;> simp [h]

theorem execVinLowWarning_canon (dt : Nat) (mv : Nat) (s : State) (h :
    Canon s.mb.w0 s.mb.w2) : Tidy (execVinLowWarning dt mv s) := by
  refine tidy_next ?_
  dsimp only
  split <;> simp [h]

theorem execVinRangeReturn_canon (dt : Nat) (mv : Nat) (s : State) (h :
    Canon s.mb.w0 s.mb.w2) : Tidy (execVinRangeReturn dt mv s) := by
  refine tidy_next ?_
  dsimp only
  split <;> simp [h]

theorem execVinShutdown_canon (dt : Nat) (mv : Nat) (s : State) (h :
    Canon s.mb.w0 s.mb.w2) : Tidy (execVinShutdown dt mv s) := by
  unfold execVinShutdown
  try dsimp only
  repeat' first
    | (refine tidy_next ?_)
    | (simp +contextual (maxDischargeDepth := 30) [h, foldl_canon, -List.foldl_reverse]; done)
    | (refine State.consume_canon _ _ _ _ (by simp [h]) (fun _ h => ?_))
    | (refine State.ptpRead_canon _ _ _ (by simp [h]) (fun _ h => ?_))
    | split
    | (refine foldl_canon _ _ _ (fun _ _ h => ?_) ?_)

theorem execVbatOutOfRange_canon (dt : Nat) (mv : Nat) (s : State) (h :
    Canon s.mb.w0 s.mb.w2) : Tidy (execVbatOutOfRange dt mv s) := by
  unfold execVbatOutOfRange
  try dsimp only
  repeat' first
    | (refine tidy_next ?_)
    | (simp +contextual (maxDischargeDepth := 30) [h, foldl_canon, -List.foldl_reverse]; done)
    | (refine State.consume_canon _ _ _ _ (by simp [h]) (fun _ h => ?_))
    | (refine State.ptpRead_canon _ _ _ (by simp [h]) (fun _ h => ?_))
    | split
    | (refine foldl_canon _ _ _ (fun _ _ h => ?_) ?_)

theorem execVbatReturn_canon (dt : Nat) (mv : Nat) (s : State) (h :
    Canon s.mb.w0 s.mb.w2) : Tidy (execVbatReturn dt mv s) := tidy_next (by simp [h])

theorem execVddioRise_canon (dt : Nat) (bank : Fin 2) (mv : Nat) (s : State) (h :
    Canon s.mb.w0 s.mb.w2) : Tidy (execVddioRise dt bank mv s) := by
  refine tidy_next ?_
  dsimp only
  split <;> simp [h]

theorem execVddioFall_canon (dt : Nat) (bank : Fin 2) (s : State) (h :
    Canon s.mb.w0 s.mb.w2) : Tidy (execVddioFall dt bank s) := by
  unfold execVddioFall
  try dsimp only
  repeat' first
    | (refine tidy_next ?_)
    | (simp +contextual (maxDischargeDepth := 30) [h, foldl_canon, -List.foldl_reverse]; done)
    | (refine State.consume_canon _ _ _ _ (by simp [h]) (fun _ h => ?_))
    | (refine State.ptpRead_canon _ _ _ (by simp [h]) (fun _ h => ?_))
    | split
    | (refine foldl_canon _ _ _ (fun _ _ h => ?_) ?_)

theorem execResetNAssert_canon (dt : Nat) (s : State) (h : Canon s.mb.w0 s.mb.w2) : Tidy (execResetNAssert dt s) := by
  refine tidy_next ?_
  dsimp only
  split <;> simp [h]

theorem execResetNRelease_canon (dt : Nat) (s : State) (h :
    Canon s.mb.w0 s.mb.w2) : Tidy (execResetNRelease dt s) := tidy_next (by simp [h])

theorem execPowerModeRun_canon (q : Req) (s : State) (h :
    Canon s.mb.w0 s.mb.w2) : Tidy (execPowerModeRun q s) := tidy_next (by simp [h])

theorem execPowerModeStandby_canon (q : Req) (s : State) (h :
    Canon s.mb.w0 s.mb.w2) : Tidy (execPowerModeStandby q s) := tidy_next (by simp [h])

theorem execScheduledWake_canon (dt : Nat) (s : State) (h : Canon s.mb.w0 s.mb.w2) : Tidy (execScheduledWake dt s) := by
  unfold execScheduledWake
  dsimp only
  split <;> exact tidy_next (by simp [h])

theorem execWakeScheduleSet_canon (q : Req) (s : State) (h :
    Canon s.mb.w0 s.mb.w2) : Tidy (execWakeScheduleSet q s) := tidy_next
        (serve_canon _ _ _ _ _ h fun _ h => canonE_require _ _ _ (by simp [h]))

theorem execPowerStatus_canon (q : Req) (s : State) (h :
    Canon s.mb.w0 s.mb.w2) : Tidy (execPowerStatus q s) := tidy_next (serve_canon _ _ _ _ _ h fun _ h => by simp [h])

theorem execThermalEvaluation_canon (dt : Nat) (r : ThermalRead) (s : State) (h :
    Canon s.mb.w0 s.mb.w2) : Tidy (execThermalEvaluation dt r s) := by
  unfold execThermalEvaluation
  dsimp only
  split <;> exact tidy_next (by simp [h])

theorem execThrottleStepDown_canon (dt : Nat) (s : State) (h :
    Canon s.mb.w0 s.mb.w2) : Tidy (execThrottleStepDown dt s) := tidy_next (by simp [h])

theorem execThrottleStepUp_canon (dt : Nat) (s : State) (h :
    Canon s.mb.w0 s.mb.w2) : Tidy (execThrottleStepUp dt s) := tidy_next (by simp [h])

theorem execOrderlyPowerDown_canon (dt : Nat) (s : State) (h :
    Canon s.mb.w0 s.mb.w2) : Tidy (execOrderlyPowerDown dt s) := by
  unfold execOrderlyPowerDown
  dsimp only
  split <;> exact tidy_next (by simp [h])

theorem execHardwareThermalTrip_canon (dt : Nat) (reading : List Int) (s : State) (h :
    Canon s.mb.w0 s.mb.w2) : Tidy (execHardwareThermalTrip dt reading s) := by
  unfold execHardwareThermalTrip
  dsimp only
  split <;> exact tidy_next (by simp [h])

theorem execThermalRestart_canon (dt : Nat) (die : Int) (s : State) (h :
    Canon s.mb.w0 s.mb.w2) : Tidy (execThermalRestart dt die s) := by
  unfold execThermalRestart
  try dsimp only
  repeat' first
    | (refine tidy_next ?_)
    | (simp +contextual (maxDischargeDepth := 30) [h, foldl_canon, -List.foldl_reverse]; done)
    | (refine State.consume_canon _ _ _ _ (by simp [h]) (fun _ h => ?_))
    | (refine State.ptpRead_canon _ _ _ (by simp [h]) (fun _ h => ?_))
    | split
    | (refine foldl_canon _ _ _ (fun _ _ h => ?_) ?_)

theorem execThermalStatus_canon (q : Req) (s : State) (h :
    Canon s.mb.w0 s.mb.w2) : Tidy (execThermalStatus q s) := tidy_next (serve_canon _ _ _ _ _ h fun _ h => by simp [h])

theorem execThermalSet_canon (q : Req) (s : State) (h :
    Canon s.mb.w0 s.mb.w2) : Tidy (execThermalSet q s) := tidy_next
        (serve_canon _ _ _ _ _ h fun _ h => canonE_require _ _ _ (by simp [h]))

theorem execUpdateBegin_canon (q : Req) (s : State) (h :
    Canon s.mb.w0 s.mb.w2) : Tidy (execUpdateBegin q s) := tidy_next (serve_canon _ _ _ _ _ h fun _ h => by simp [h])

theorem execUpdateBlock_canon (q : Req) (s : State) (h : Canon s.mb.w0 s.mb.w2) : Tidy (execUpdateBlock q s) := by
  unfold execUpdateBlock
  refine tidy_next (serve_canon _ _ _ _ _ h (fun s h => ?_))
  repeat' first
    | (refine canonE_require _ _ _ ?_)
    | (refine canonE_bulkLength _ _ _ ?_)
    | (refine canonE_withBulk _ _ _ _ _ (by simp [h]) (fun _ => ?_))
    | (refine canonE_onSpan _ _ (fun _ => ?_))
    | (refine canonE_onLane _ _ (fun _ _ => ?_))
    | (refine canonE_onRdm _ _ _ (fun _ => ?_))
    | (refine canonE_pierControl _ _ _ _ ?_)
    | (exact State.settle_canon _ _ _ (by simp [h]))
    | (simp (maxDischargeDepth := 30) [h]; done)
    | split
    | (simp (maxDischargeDepth := 30) [h, foldl_canon, -List.foldl_reverse]; done)
    | (dsimp only)

theorem execUpdateEnd_canon (q : Req) (s : State) (h :
    Canon s.mb.w0 s.mb.w2) : Tidy (execUpdateEnd q s) := tidy_next (serve_canon _ _ _ _ _ h fun _ h => by simp [h])

theorem execUpdateStatus_canon (q : Req) (s : State) (h :
    Canon s.mb.w0 s.mb.w2) : Tidy (execUpdateStatus q s) := tidy_next (serve_canon _ _ _ _ _ h fun _ h => by simp [h])

theorem execUpdateActivate_canon (q : Req) (s : State) (h :
    Canon s.mb.w0 s.mb.w2) : Tidy (execUpdateActivate q s) := tidy_next
        (serve_canon _ _ _ _ _ h fun _ h => canonE_require _ _ _ (by simp [h]))

theorem execUpdateAbort_canon (q : Req) (s : State) (h :
    Canon s.mb.w0 s.mb.w2) : Tidy (execUpdateAbort q s) := tidy_next
        (serve_canon _ _ _ _ _ h fun _ h => canonE_require _ _ _ (by simp [h]))

theorem execFlashProgramComplete_canon (dt : Nat) (s : State) (h :
    Canon s.mb.w0 s.mb.w2) : Tidy (execFlashProgramComplete dt s) := tidy_next (by simp [h])

theorem execUpdateIdleTimeout_canon (dt : Nat) (s : State) (h :
    Canon s.mb.w0 s.mb.w2) : Tidy (execUpdateIdleTimeout dt s) := tidy_next (by simp [h])

theorem execUpdateCheckComplete_canon (dt : Nat) (readBack : Bool) (s : State) (h : Canon s.mb.w0 s.mb.w2) : Tidy (execUpdateCheckComplete dt readBack s) := by
  unfold execUpdateCheckComplete
  try dsimp only
  repeat' first
    | (refine tidy_next ?_)
    | (simp +contextual (maxDischargeDepth := 30) [h, foldl_canon, -List.foldl_reverse]; done)
    | (refine State.consume_canon _ _ _ _ (by simp [h]) (fun _ h => ?_))
    | (refine State.ptpRead_canon _ _ _ (fun _ _ h => ?_) (by simp [h]))
    | (refine State.onBlock_canon _ _ _ _ _ (fun _ h => ?_) (by simp [h]))
    | (refine State.onUp_canon _ _ _ _ _ (fun _ h => ?_) (by simp [h]))
    | (refine foldl_canon _ _ _ (fun _ _ h => ?_) ?_)
    | split

theorem execBootRecordWriteComplete_canon (dt : Nat) (s : State) (h :
    Canon s.mb.w0 s.mb.w2) : Tidy (execBootRecordWriteComplete dt s) := tidy_next (by simp [h])

theorem execReqTailWrite_canon (dt : Nat) (c : Fin 8) (tail : U16) (s : State) (h :
    Canon s.mb.w0 s.mb.w2) : Tidy (execReqTailWrite dt c tail s) := tidy_next (by simp [h])

theorem execRequestTakeUp_canon (dt : Nat) (s : State) (h : Canon s.mb.w0 s.mb.w2) : Tidy (execRequestTakeUp dt s) := by
  unfold execRequestTakeUp
  dsimp only
  split <;> exact tidy_next (by simp [h])

theorem execMessageWaitTimeout_canon (dt : Nat) (c : Fin 8) (s : State) (h :
    Canon s.mb.w0 s.mb.w2) : Tidy (execMessageWaitTimeout dt c s) := by
  unfold execMessageWaitTimeout
  try dsimp only
  repeat' first
    | (refine tidy_next ?_)
    | (simp +contextual (maxDischargeDepth := 30) [h, foldl_canon, -List.foldl_reverse]; done)
    | (refine State.consume_canon _ _ _ _ (by simp [h]) (fun _ h => ?_))
    | (refine State.ptpRead_canon _ _ _ (by simp [h]) (fun _ h => ?_))
    | split
    | (refine foldl_canon _ _ _ (fun _ _ h => ?_) ?_)

theorem execResponseWrite_canon (dt : Nat) (c : Fin 8) (s : State) (h :
    Canon s.mb.w0 s.mb.w2) : Tidy (execResponseWrite dt c s) := by
  unfold execResponseWrite
  try dsimp only
  repeat' first
    | (refine tidy_next ?_)
    | (simp +contextual (maxDischargeDepth := 30) [h, foldl_canon, -List.foldl_reverse]; done)
    | (refine State.consume_canon _ _ _ _ (by simp [h]) (fun _ h => ?_))
    | (refine State.ptpRead_canon _ _ _ (by simp [h]) (fun _ h => ?_))
    | split
    | (refine foldl_canon _ _ _ (fun _ _ h => ?_) ?_)

theorem execRspHeadWrite_canon (dt : Nat) (c : Fin 8) (head : U16) (s : State) (h :
    Canon s.mb.w0 s.mb.w2) : Tidy (execRspHeadWrite dt c head s) := tidy_next (by simp [h])

theorem execRspStallTimeout_canon (dt : Nat) (c : Fin 8) (s : State) (h :
    Canon s.mb.w0 s.mb.w2) : Tidy (execRspStallTimeout dt c s) := by
  unfold execRspStallTimeout
  try dsimp only
  repeat' first
    | (refine tidy_next ?_)
    | (simp +contextual (maxDischargeDepth := 30) [h, foldl_canon, -List.foldl_reverse]; done)
    | (refine State.consume_canon _ _ _ _ (by simp [h]) (fun _ h => ?_))
    | (refine State.ptpRead_canon _ _ _ (by simp [h]) (fun _ h => ?_))
    | split
    | (refine foldl_canon _ _ _ (fun _ _ h => ?_) ?_)

theorem execEvtHeadWrite_canon (dt : Nat) (head : U16) (s : State) (h :
    Canon s.mb.w0 s.mb.w2) : Tidy (execEvtHeadWrite dt head s) := tidy_next (by simp [h])

theorem execW0OtherWrite_canon (dt : Nat) (w2 : Bool) (addr : Nat) (data : List U8) (s : State) (h :
    Canon s.mb.w0 s.mb.w2) : Tidy (execW0OtherWrite dt w2 addr data s) := by
  unfold execW0OtherWrite
  dsimp only
  split <;> exact tidy_next (by simp [h])

theorem execIrqModerationTimer_canon (dt : Nat) (s : State) (h :
    Canon s.mb.w0 s.mb.w2) : Tidy (execIrqModerationTimer dt s) := by
  unfold execIrqModerationTimer
  try dsimp only
  repeat' first
    | (refine tidy_next ?_)
    | (simp +contextual (maxDischargeDepth := 30) [h, foldl_canon, -List.foldl_reverse]; done)
    | (refine State.consume_canon _ _ _ _ (by simp [h]) (fun _ h => ?_))
    | (refine State.ptpRead_canon _ _ _ (by simp [h]) (fun _ h => ?_))
    | split
    | (refine foldl_canon _ _ _ (fun _ _ h => ?_) ?_)

theorem execDmaCompletion_canon (dt : Nat) (user : DmaUser) (addr : Nat) (ok : Bool) (s : State) (h : Canon s.mb.w0 s.mb.w2) : Tidy (execDmaCompletion dt user addr ok s) := by
  unfold execDmaCompletion
  try dsimp only
  repeat' first
    | (refine tidy_next ?_)
    | (simp +contextual (maxDischargeDepth := 30) [h, foldl_canon, -List.foldl_reverse]; done)
    | (refine State.consume_canon _ _ _ _ (by simp [h]) (fun _ h => ?_))
    | (refine State.ptpRead_canon _ _ _ (fun _ _ h => ?_) (by simp [h]))
    | (refine State.onBlock_canon _ _ _ _ _ (fun _ h => ?_) (by simp [h]))
    | (refine State.onUp_canon _ _ _ _ _ (fun _ h => ?_) (by simp [h]))
    | (refine foldl_canon _ _ _ (fun _ _ h => ?_) ?_)
    | split

theorem execDmaCompletionTimeout_canon (dt : Nat) (user : DmaUser) (addr : Nat) (s : State) (h : Canon s.mb.w0 s.mb.w2) : Tidy (execDmaCompletionTimeout dt user addr s) := by
  unfold execDmaCompletionTimeout
  try dsimp only
  repeat' first
    | (refine tidy_next ?_)
    | (simp +contextual (maxDischargeDepth := 30) [h, foldl_canon, -List.foldl_reverse]; done)
    | (refine State.consume_canon _ _ _ _ (by simp [h]) (fun _ h => ?_))
    | (refine State.ptpRead_canon _ _ _ (fun _ _ h => ?_) (by simp [h]))
    | (refine State.onBlock_canon _ _ _ _ _ (fun _ h => ?_) (by simp [h]))
    | (refine State.onUp_canon _ _ _ _ _ (fun _ h => ?_) (by simp [h]))
    | (refine foldl_canon _ _ _ (fun _ _ h => ?_) ?_)
    | split

theorem execPcieEndpointReset_canon (dt : Nat) (cause : EndpointReset) (s : State) (h :
    Canon s.mb.w0 s.mb.w2) : Tidy (execPcieEndpointReset dt cause s) := by
  refine tidy_next ?_
  dsimp only
  split <;> simp [h]

theorem execPerstNRelease_canon (dt : Nat) (width : Fin 3) (gen : Fin 3) (s : State) (h :
    Canon s.mb.w0 s.mb.w2) : Tidy (execPerstNRelease dt width gen s) := tidy_next (by simp [h])

theorem execSpiWrite_canon (dt : Nat) (addr : BitVec 24) (data : List U8) (part : Bool) (s : State) (h :
    Canon s.mb.w0 s.mb.w2) : Tidy (execSpiWrite dt addr data part s) := tidy_next (by simp [h])

theorem execSpiRead_canon (dt : Nat) (addr : BitVec 24) (n : Nat) (part : Bool) (s : State) (h :
    Canon s.mb.w0 s.mb.w2) : Tidy (execSpiRead dt addr n part s) := tidy_next (by simp [h])

theorem execSpiQwrite_canon (dt : Nat) (addr : BitVec 24) (data : List U8) (part : Bool) (s : State) (h :
    Canon s.mb.w0 s.mb.w2) : Tidy (execSpiQwrite dt addr data part s) := tidy_next (by simp [h])

theorem execSpiQread_canon (dt : Nat) (addr : BitVec 24) (n : Nat) (part : Bool) (s : State) (h :
    Canon s.mb.w0 s.mb.w2) : Tidy (execSpiQread dt addr n part s) := tidy_next (by simp [h])

theorem execSpiStatus_canon (dt : Nat) (s : State) (h : Canon s.mb.w0 s.mb.w2) : Tidy (execSpiStatus dt s) := by
  unfold execSpiStatus
  try dsimp only
  repeat' first
    | (refine tidy_next ?_)
    | (simp +contextual (maxDischargeDepth := 30) [h, foldl_canon, -List.foldl_reverse]; done)
    | (refine State.consume_canon _ _ _ _ (by simp [h]) (fun _ h => ?_))
    | (refine State.ptpRead_canon _ _ _ (by simp [h]) (fun _ h => ?_))
    | split
    | (refine foldl_canon _ _ _ (fun _ _ h => ?_) ?_)

theorem execSpiUnknownInstruction_canon (dt : Nat) (ins : U8) (s : State) (h :
    Canon s.mb.w0 s.mb.w2) : Tidy (execSpiUnknownInstruction dt ins s) := by
  unfold execSpiUnknownInstruction
  dsimp only
  split <;> exact tidy_next (by simp [h])

theorem execSpiIdleTimeout_canon (dt idle : Nat) (s : State) (h : Canon s.mb.w0 s.mb.w2) : Tidy (execSpiIdleTimeout dt idle s) := by
  unfold execSpiIdleTimeout
  try dsimp only
  repeat' first
    | (refine tidy_next ?_)
    | (simp +contextual (maxDischargeDepth := 30) [h, foldl_canon, -List.foldl_reverse]; done)
    | (refine State.consume_canon _ _ _ _ (by simp [h]) (fun _ h => ?_))
    | (refine State.ptpRead_canon _ _ _ (fun _ _ h => ?_) (by simp [h]))
    | (refine State.onBlock_canon _ _ _ _ _ (fun _ h => ?_) (by simp [h]))
    | (refine State.onUp_canon _ _ _ _ _ (fun _ h => ?_) (by simp [h]))
    | (refine foldl_canon _ _ _ (fun _ _ h => ?_) ?_)
    | split

theorem execUdpMailboxDatagram_canon (dt : Nat) (d : Datagram) (s : State) (h :
    Canon s.mb.w0 s.mb.w2) : Tidy (execUdpMailboxDatagram dt d s) := by
  unfold execUdpMailboxDatagram
  dsimp only
  refine tidy_next ?_
  have h' := State.rxTake_canon (s.elapse dt) d.eth (rxQueue d.eth.val 1) (State.elapse_canon _ _ h)
  generalize (s.elapse dt).rxTake d.eth (rxQueue d.eth.val 1) = t at h'
  repeat' (first | exact h' | exact State.arrive_canon _ _ _ h' | split)

theorem execMgmtMsg_canon (dt : Nat) (span : Fin 12) (m : Msg) (s : State) (h :
    Canon s.mb.w0 s.mb.w2) : Tidy (execMgmtMsg dt span m s) := by
  unfold execMgmtMsg
  try dsimp only
  repeat' first
    | (refine tidy_next ?_)
    | (simp +contextual (maxDischargeDepth := 30) [h, foldl_canon, -List.foldl_reverse]; done)
    | (refine State.consume_canon _ _ _ _ (by simp [h]) (fun _ h => ?_))
    | (refine State.ptpRead_canon _ _ _ (by simp [h]) (fun _ h => ?_))
    | split
    | (refine foldl_canon _ _ _ (fun _ _ h => ?_) ?_)

theorem execRelayWaitExpiry_canon (dt : Nat) (s : State) (h : Canon s.mb.w0 s.mb.w2) : Tidy (execRelayWaitExpiry dt s) := by
  refine tidy_next ?_
  dsimp only
  repeat' split
  all_goals simp [h]

theorem execBulkMsg_canon (dt : Nat) (span : Fin 12) (m : Msg) (s : State) (h :
    Canon s.mb.w0 s.mb.w2) : Tidy (execBulkMsg dt span m s) := by
  unfold execBulkMsg
  try dsimp only
  repeat' first
    | (refine tidy_next ?_)
    | (simp +contextual (maxDischargeDepth := 30) [h, foldl_canon, -List.foldl_reverse]; done)
    | (refine State.consume_canon _ _ _ _ (by simp [h]) (fun _ h => ?_))
    | (refine State.ptpRead_canon _ _ _ (by simp [h]) (fun _ h => ?_))
    | split
    | (refine foldl_canon _ _ _ (fun _ _ h => ?_) ?_)

theorem execBulkAckTimeout_canon (dt : Nat) (s : State) (h : Canon s.mb.w0 s.mb.w2) : Tidy (execBulkAckTimeout dt s) := by
  unfold execBulkAckTimeout
  try dsimp only
  repeat' first
    | (refine tidy_next ?_)
    | (simp +contextual (maxDischargeDepth := 30) [h, foldl_canon, -List.foldl_reverse]; done)
    | (refine State.consume_canon _ _ _ _ (by simp [h]) (fun _ h => ?_))
    | (refine State.ptpRead_canon _ _ _ (by simp [h]) (fun _ h => ?_))
    | split
    | (refine foldl_canon _ _ _ (fun _ _ h => ?_) ?_)

theorem execRelay_canon (q : Req) (s : State) (h : Canon s.mb.w0 s.mb.w2) : Tidy (execRelay q s) := by
  unfold execRelay
  refine tidy_next (serve_canon _ _ _ _ _ h (fun s h => ?_))
  repeat' first
    | (refine canonE_require _ _ _ ?_)
    | (refine canonE_bulkLength _ _ _ ?_)
    | (refine canonE_withBulk _ _ _ _ _ (by simp [h]) (fun _ => ?_))
    | (refine canonE_onSpan _ _ (fun _ => ?_))
    | (refine canonE_onLane _ _ (fun _ _ => ?_))
    | (refine canonE_onRdm _ _ _ (fun _ => ?_))
    | (refine canonE_pierControl _ _ _ _ ?_)
    | (exact State.settle_canon _ _ _ (by simp [h]))
    | (simp (maxDischargeDepth := 30) [h]; done)
    | split
    | (simp (maxDischargeDepth := 30) [h, foldl_canon, -List.foldl_reverse]; done)
    | (dsimp only)

theorem execMbConfig_canon (q : Req) (s : State) (h :
    Canon s.mb.w0 s.mb.w2) : Tidy (execMbConfig q s) := tidy_next (serve_canon _ _ _ _ _ h fun _ h => by simp [h])

theorem execMbStatus_canon (q : Req) (s : State) (h : Canon s.mb.w0 s.mb.w2) : Tidy (execMbStatus q s) := by
  refine tidy_next (serve_canon _ _ _ _ _ h fun _ h => ?_)
  dsimp only
  split <;> simp [h]

theorem execEventSet_canon (q : Req) (s : State) (h :
    Canon s.mb.w0 s.mb.w2) : Tidy (execEventSet q s) := tidy_next
        (serve_canon _ _ _ _ _ h fun _ h => canonE_require _ _ _ (by simp [h]))

theorem execTransportStatus_canon (q : Req) (s : State) (h :
    Canon s.mb.w0 s.mb.w2) : Tidy (execTransportStatus q s) := tidy_next (serve_canon _ _ _ _ _ h fun _ h => by simp [h])

theorem execUdpMbSet_canon (q : Req) (s : State) (h :
    Canon s.mb.w0 s.mb.w2) : Tidy (execUdpMbSet q s) := tidy_next (serve_canon _ _ _ _ _ h fun _ h => by simp [h])

theorem execEventRead_canon (q : Req) (s : State) (h :
    Canon s.mb.w0 s.mb.w2) : Tidy (execEventRead q s) := tidy_next
        (serve_canon _ _ _ _ _ h fun _ h => canonE_require _ _ _ (by simp [h]))

theorem execFrameBoundary_canon (dt : Nat) (s : State) (h :
    Canon s.mb.w0 s.mb.w2) : Tidy (execFrameBoundary dt s) := tidy_next (by simp [h])

theorem execBootReady_canon (dt : Nat) (r : BootRead) (s : State) (h :
    Canon s.mb.w0 s.mb.w2) : Tidy (execBootReady dt r s) := by
  unfold execBootReady
  dsimp only
  split <;> exact tidy_next (by simp [h])

theorem execBootWatchdogExpiry_canon (dt : Nat) (bootMode : Fin 4) (s : State) (h :
    Canon s.mb.w0 s.mb.w2) : Tidy (execBootWatchdogExpiry dt bootMode s) := by
  refine tidy_next ?_
  dsimp only
  repeat' split
  all_goals simp [h]

theorem execSysInfo_canon (q : Req) (s : State) (h :
    Canon s.mb.w0 s.mb.w2) : Tidy (execSysInfo q s) := tidy_next (serve_canon _ _ _ _ _ h fun _ h => by simp [h])

theorem execSysStatus_canon (q : Req) (s : State) (h :
    Canon s.mb.w0 s.mb.w2) : Tidy (execSysStatus q s) := tidy_next (serve_canon _ _ _ _ _ h fun _ h => by simp [h])

theorem execSysReset_canon (q : Req) (s : State) (h :
    Canon s.mb.w0 s.mb.w2) : Tidy (execSysReset q s) := tidy_next (serve_canon _ _ _ _ _ h fun _ h => by simp [h])

theorem execSysResetExecute_canon (dt : Nat) (s : State) (h : Canon s.mb.w0 s.mb.w2) : Tidy (execSysResetExecute dt s) := by
  unfold execSysResetExecute
  try dsimp only
  repeat' first
    | (refine tidy_next ?_)
    | (simp +contextual (maxDischargeDepth := 30) [h, foldl_canon, -List.foldl_reverse]; done)
    | (refine State.consume_canon _ _ _ _ (by simp [h]) (fun _ h => ?_))
    | (refine State.ptpRead_canon _ _ _ (by simp [h]) (fun _ h => ?_))
    | split
    | (refine foldl_canon _ _ _ (fun _ _ h => ?_) ?_)

theorem execSettingsSave_canon (q : Req) (s : State) (h :
    Canon s.mb.w0 s.mb.w2) : Tidy (execSettingsSave q s) := tidy_next
        (serve_canon _ _ _ _ _ h fun _ h => canonE_require _ _ _ (by simp [h]))

theorem execDiagEcho_canon (q : Req) (s : State) (h :
    Canon s.mb.w0 s.mb.w2) : Tidy (execDiagEcho q s) := tidy_next (serve_canon _ _ _ _ _ h fun _ h => by simp [h])

theorem execDiagPinRead_canon (q : Req) (s : State) (h :
    Canon s.mb.w0 s.mb.w2) : Tidy (execDiagPinRead q s) := tidy_next (serve_canon _ _ _ _ _ h fun _ h => by simp [h])

theorem execDiagSelftest_canon (q : Req) (s : State) (h :
    Canon s.mb.w0 s.mb.w2) : Tidy (execDiagSelftest q s) := tidy_next
        (serve_canon _ _ _ _ _ h fun _ h => canonE_require _ _ _ (by simp [h]))

theorem execSelftestComplete_canon (dt : Nat) (failed : BitVec 4) (first : U32) (cores : List (Fin 64)) (s : State)
    (h : Canon s.mb.w0 s.mb.w2) : Tidy (execSelftestComplete dt failed first cores s) := by
  unfold execSelftestComplete
  dsimp only
  refine tidy_next ?_
  have h := State.elapse_canon s dt h
  split
  · exact h
  · refine State.raiseF_canon _ _ _ ?_
    split
    · refine foldl_canon _ _ _ (fun _ _ h => State.excludeCore_canon _ _ _ h) ?_
      split
      · exact State.deckTested_canon _ h
      · exact h
    · split
      · exact State.deckTested_canon _ h
      · exact h

theorem execDiagEventRaise_canon (q : Req) (s : State) (h :
    Canon s.mb.w0 s.mb.w2) : Tidy (execDiagEventRaise q s) := tidy_next (serve_canon _ _ _ _ _ h fun _ h => by simp [h])

theorem execFaultInjectDeckSingle_canon (q : Req) (s : State) (h :
    Canon s.mb.w0 s.mb.w2) : Tidy (execFaultInjectDeckSingle q s) := tidy_next (by simp [h])

theorem execFaultInjectDeckDouble_canon (q : Req) (s : State) (h :
    Canon s.mb.w0 s.mb.w2) : Tidy (execFaultInjectDeckDouble q s) := tidy_next (by simp [h])

theorem execFaultInjectCore_canon (q : Req) (s : State) (h :
    Canon s.mb.w0 s.mb.w2) : Tidy (execFaultInjectCore q s) := tidy_next (by simp [h])

theorem execFaultInjectDigest_canon (q : Req) (s : State) (h :
    Canon s.mb.w0 s.mb.w2) : Tidy (execFaultInjectDigest q s) := tidy_next (by simp [h])

theorem execFaultInjectCheck_canon (q : Req) (s : State) (h :
    Canon s.mb.w0 s.mb.w2) : Tidy (execFaultInjectCheck q s) := tidy_next (by simp [h])

theorem execFaultInjectFlowTrap_canon (q : Req) (s : State) (h :
    Canon s.mb.w0 s.mb.w2) : Tidy (execFaultInjectFlowTrap q s) := tidy_next (by simp [h])

end Sys2Proof.Machine
end

