-- ==== Sys2Proof/Laws/Kept.lean ====
section
/-! SUPPORT. Laws/Kept.lean: the queue, the fuses (R476) and what the boot fixed, which the operations of the model leave as they are. -/
namespace Sys2Proof.Machine
open Sys2Proof

@[simp] theorem ite_pending (c : Prop) [Decidable c] (a b : State) :
    (if c then a else b).pending = if c then a.pending else b.pending := by split <;> rfl

@[simp] theorem ite_boot (c : Prop) [Decidable c] (a b : State) :
    (if c then a else b).sys.boot = if c then a.sys.boot else b.sys.boot := by split <;> rfl

@[simp] theorem ite_fuses (c : Prop) [Decidable c] (a b : State) :
    (if c then a else b).sys.fuses = if c then a.sys.fuses else b.sys.fuses := by split <;> rfl

theorem foldl_kept {α : Type} (f : State → α → State) (h : ∀ s a, (f s a).pending = s.pending ∧
    (f s a).sys.fuses = s.sys.fuses ∧ (f s a).sys.boot = s.sys.boot) (l : List α) (s : State) :
    (l.foldl f s).pending = s.pending ∧ (l.foldl f s).sys.fuses = s.sys.fuses ∧ (l.foldl f s).sys.boot = s.sys.boot := by
  induction l generalizing s with
  | nil => simp
  | cons a l ih => simp [ih, h]

theorem foldl_into {α : Type} {s : State} (f : State → α → State) (h : ∀ s a, (f s a).pending = s.pending ∧
    (f s a).sys.fuses = s.sys.fuses ∧ (f s a).sys.boot = s.sys.boot) (l : List α) {t : State} (e : t.pending = s.pending ∧
    t.sys.fuses = s.sys.fuses ∧ t.sys.boot = s.sys.boot) :
    (l.foldl f t).pending = s.pending ∧ (l.foldl f t).sys.fuses = s.sys.fuses ∧ (l.foldl f t).sys.boot = s.sys.boot := by
  have k := foldl_kept f h l t
  exact ⟨k.1.trans e.1, k.2.1.trans e.2.1, k.2.2.trans e.2.2⟩

/-- The state a body gives, where it gives one, keeps the queue and the fuses. -/
def KeptE (s : State) (e : Except Status Done) : Prop :=
  ∀ d, e = .ok d → d.st.pending = s.pending ∧ d.st.sys.fuses = s.sys.fuses ∧ d.st.sys.boot = s.sys.boot

@[simp] theorem keptE_error (s : State) (e : Status) : KeptE s (.error e) := by intro d h; cases h

@[simp] theorem keptE_ok (s : State) (d : Done) :
    KeptE s (.ok d) ↔ d.st.pending = s.pending ∧ d.st.sys.fuses = s.sys.fuses ∧ d.st.sys.boot = s.sys.boot :=
  ⟨fun h => h d rfl, fun h d' e => by cases e; exact h⟩

@[simp] theorem keptE_answer (s t : State) (b : List U8) :
    KeptE s (answer t b) ↔ t.pending = s.pending ∧ t.sys.fuses = s.sys.fuses ∧ t.sys.boot = s.sys.boot := by simp [answer]

@[simp] theorem keptE_done (s t : State) :
    KeptE s (done t) ↔ t.pending = s.pending ∧ t.sys.fuses = s.sys.fuses ∧ t.sys.boot = s.sys.boot := by simp [done]

@[simp] theorem keptE_require (s : State) (c : Bool) (e : Status) (k : Except Status Done) (h : KeptE s k) :
    KeptE s (require c e k) := by unfold require; split <;> simp [h]

theorem foldl_kept1 {α β : Type} (f : State × β → α → State × β) (s : State)
    (h : ∀ x a, (f x a).1.pending = x.1.pending ∧ (f x a).1.sys.fuses = x.1.sys.fuses ∧
        (f x a).1.sys.boot = x.1.sys.boot) (l : List α) (x : State × β)
    (hx : x.1.pending = s.pending ∧ x.1.sys.fuses = s.sys.fuses ∧ x.1.sys.boot = s.sys.boot) :
    (l.foldl f x).1.pending = s.pending ∧ (l.foldl f x).1.sys.fuses = s.sys.fuses ∧
        (l.foldl f x).1.sys.boot = s.sys.boot := by
  induction l generalizing x with
  | nil => simpa using hx
  | cons a l ih => simpa using ih (f x a) (by simp [h, hx])

theorem KeptE.trans {s t : State} {e : Except Status Done} (h : t.pending = s.pending ∧ t.sys.fuses = s.sys.fuses ∧
    t.sys.boot = s.sys.boot)
    (k : KeptE t e) : KeptE s e := fun d e => ⟨((k d e).1.trans h.1), ((k d e).2.1.trans h.2.1), ((k d e).2.2.trans h.2.2)⟩

theorem steady_next {s t : State} (h : t.pending = s.pending ∧ t.sys.fuses = s.sys.fuses ∧
    t.sys.boot = s.sys.boot) : Steady s (.next t) :=
  ⟨t, rfl, h⟩

theorem answers_next {s t : State} (h : t.pending = s.pending ∧ t.sys.fuses = s.sys.fuses) : Answers s (.next t) :=
  ⟨t, rfl, h⟩

theorem foldl_kept2 {α : Type} (f : State → α → State) (h : ∀ s a, (f s a).pending = s.pending ∧
    (f s a).sys.fuses = s.sys.fuses) (l : List α) (s : State) :
    (l.foldl f s).pending = s.pending ∧ (l.foldl f s).sys.fuses = s.sys.fuses := by
  induction l generalizing s with
  | nil => simp
  | cons a l ih => simp [ih, h]

@[simp] theorem State.elapse_kept (s : State) (dt : Nat) : (State.elapse s dt).pending = s.pending ∧
    (State.elapse s dt).sys.fuses = s.sys.fuses ∧ (State.elapse s dt).sys.boot = s.sys.boot := by simp [State.elapse]

@[simp] theorem State.draw_kept (s : State) : (State.draw s).pending = s.pending ∧
    (State.draw s).sys.fuses = s.sys.fuses ∧ (State.draw s).sys.boot = s.sys.boot := by simp [State.draw]

@[simp] theorem State.emit_kept (s : State) (o : Out) : (State.emit s o).pending = s.pending ∧
    (State.emit s o).sys.fuses = s.sys.fuses ∧ (State.emit s o).sys.boot = s.sys.boot := by simp [State.emit]

@[simp] theorem State.msix_kept (s : State) (v : Nat) : (State.msix s v).pending = s.pending ∧
    (State.msix s v).sys.fuses = s.sys.fuses ∧ (State.msix s v).sys.boot = s.sys.boot := by simp [State.msix]

@[simp] theorem State.signalEvents_kept (s : State) : (State.signalEvents s).pending = s.pending ∧
    (State.signalEvents s).sys.fuses = s.sys.fuses ∧
        (State.signalEvents s).sys.boot = s.sys.boot := by simp [State.signalEvents]

@[simp] theorem State.storeRecord_kept (s : State) (i : U16) (r : List U8) : (State.storeRecord s i r).pending = s.pending ∧
    (State.storeRecord s i r).sys.fuses = s.sys.fuses ∧ (State.storeRecord s i r).sys.boot = s.sys.boot := by
  unfold State.storeRecord
  dsimp only
  repeat' (first | (simp; done) | (simp [foldl_kept]; done) | split)

@[simp] theorem State.writeEvent_kept (s : State) (e : Nat) (data : List U8) : (State.writeEvent s e data).pending = s.pending ∧
    (State.writeEvent s e data).sys.fuses = s.sys.fuses ∧ (State.writeEvent s e data).sys.boot = s.sys.boot := by
  unfold State.writeEvent
  repeat' (first
    | (simp [foldl_kept]; done)
    | split
    | (refine foldl_into _ (fun _ _ => ?_) _ ?_)
    | dsimp only)

@[simp] theorem State.raise_kept (s : State) (e : Nat) (data : List U8) : (State.raise s e data).pending = s.pending ∧
    (State.raise s e data).sys.fuses = s.sys.fuses ∧ (State.raise s e data).sys.boot = s.sys.boot := by simp [State.raise]

@[simp] theorem State.amend_kept (s : State) (e : Nat) (a b : List U8) : (State.amend s e a b).pending = s.pending ∧
    (State.amend s e a b).sys.fuses = s.sys.fuses ∧ (State.amend s e a b).sys.boot = s.sys.boot := by
  unfold State.amend
  dsimp only
  repeat' (first | (simp; done) | (simp [foldl_kept]; done) | split)

@[simp] theorem State.raiseF_kept (s : State) (e : Nat) (fs : List Fld) : (State.raiseF s e fs).pending = s.pending ∧
    (State.raiseF s e fs).sys.fuses = s.sys.fuses ∧ (State.raiseF s e fs).sys.boot = s.sys.boot := by simp [State.raiseF]

@[simp] theorem State.raiseIf_kept (s : State) (c : Bool) (e : Nat) (fs : List Fld) :
    (State.raiseIf s c e fs).pending = s.pending ∧ (State.raiseIf s c e fs).sys.fuses = s.sys.fuses ∧
        (State.raiseIf s c e fs).sys.boot = s.sys.boot := by simp [State.raiseIf]

@[simp] theorem State.respond_kept (s : State) (c : Fin 8) (op : Nat) (tag : U32) (status : Status) (data : List U8)
    (post : Option (Nat × List U8)) : (State.respond s c op tag status data post).pending = s.pending ∧
        (State.respond s c op tag status data post).sys.fuses = s.sys.fuses ∧
            (State.respond s c op tag status data post).sys.boot = s.sys.boot := by simp [State.respond]

@[simp] theorem State.waitOn_kept (s : State) (c : Fin 8) : (State.waitOn s c).pending = s.pending ∧
    (State.waitOn s c).sys.fuses = s.sys.fuses ∧ (State.waitOn s c).sys.boot = s.sys.boot := by
  unfold State.waitOn
  dsimp only
  repeat' (first | (simp; done) | (simp [foldl_kept]; done) | split)

theorem serve_kept (op need : Nat) (q : Req) (s : State) (body : State → Except Status Done)
    (hb : ∀ t, KeptE t (body t)) :
    (serve op need q s body).pending = s.pending ∧ (serve op need q s body).sys.fuses = s.sys.fuses ∧
        (serve op need q s body).sys.boot = s.sys.boot := by
  unfold serve
  dsimp only
  repeat' (first | (simp; done) | (simp [hb _ _ ‹_›]; done) | split)

@[simp] theorem State.remember_kept (s : State) (op : Nat) (idx : Nat) (pl : List U8) :
    (State.remember s op idx pl).pending = s.pending ∧ (State.remember s op idx pl).sys.fuses = s.sys.fuses ∧
        (State.remember s op idx pl).sys.boot = s.sys.boot := by simp [State.remember]

@[simp] theorem State.defer_kept (s : State) (op : Nat) (idx : Nat) (pl : List U8) :
    (State.defer s op idx pl).pending = s.pending ∧ (State.defer s op idx pl).sys.fuses = s.sys.fuses ∧
        (State.defer s op idx pl).sys.boot = s.sys.boot := by simp [State.defer]

@[simp] theorem State.dmaFault_kept (s : State) (user : Nat) (idx : Nat) (addr : Nat) :
    (State.dmaFault s user idx addr).pending = s.pending ∧ (State.dmaFault s user idx addr).sys.fuses = s.sys.fuses ∧
        (State.dmaFault s user idx addr).sys.boot = s.sys.boot := by simp [State.dmaFault]

@[simp] theorem State.modLink_kept (s : State) (sp : Fin 12) (f : Link → Link) :
    (State.modLink s sp f).pending = s.pending ∧ (State.modLink s sp f).sys.fuses = s.sys.fuses ∧
        (State.modLink s sp f).sys.boot = s.sys.boot := by simp [State.modLink]

@[simp] theorem State.queueMsg_kept (s : State) (sp : Fin 12) (m : Msg) (note : Option (U32 × Nat) := none) : (State.queueMsg s sp m note).pending = s.pending ∧
    (State.queueMsg s sp m note).sys.fuses = s.sys.fuses ∧ (State.queueMsg s sp m note).sys.boot = s.sys.boot := by
  unfold State.queueMsg
  repeat' (first
    | (simp [foldl_kept]; done)
    | split
    | (refine foldl_into _ (fun _ _ => ?_) _ ?_)
    | dsimp only)

@[simp] theorem State.queueOn_kept (s : State) (p : Fin 12 → Bool) (m : Msg) (note : Option (U32 × Nat) := none) : (State.queueOn s p m note).pending = s.pending ∧
    (State.queueOn s p m note).sys.fuses = s.sys.fuses ∧ (State.queueOn s p m note).sys.boot = s.sys.boot := by
  unfold State.queueOn
  repeat' (first
    | (simp [foldl_kept]; done)
    | split
    | (refine foldl_into _ (fun _ _ => ?_) _ ?_)
    | dsimp only)

@[simp] theorem State.sendOn_kept (s : State) (p : Fin 12 → Bool) (dest : U32) (type : U16) (payload : List U8) (note : Option (U32 × Nat) := none) : (State.sendOn s p dest type payload note).pending = s.pending ∧
    (State.sendOn s p dest type payload note).sys.fuses = s.sys.fuses ∧ (State.sendOn s p dest type payload note).sys.boot = s.sys.boot := by
  unfold State.sendOn
  repeat' (first
    | (simp [foldl_kept]; done)
    | split
    | (refine foldl_into _ (fun _ _ => ?_) _ ?_)
    | dsimp only)

@[simp] theorem State.flood_kept (s : State) (type : U16) (payload : List U8) :
    (State.flood s type payload).pending = s.pending ∧ (State.flood s type payload).sys.fuses = s.sys.fuses ∧
        (State.flood s type payload).sys.boot = s.sys.boot := by simp [State.flood]

@[simp] theorem State.unicast_kept (s : State) (dest : U32) (type : U16) (payload : List U8) (note : Option (U32 × Nat) := none) : (State.unicast s dest type payload note).pending = s.pending ∧
    (State.unicast s dest type payload note).sys.fuses = s.sys.fuses ∧ (State.unicast s dest type payload note).sys.boot = s.sys.boot := by
  unfold State.unicast
  repeat' (first
    | (simp [foldl_kept]; done)
    | split
    | (refine foldl_into _ (fun _ _ => ?_) _ ?_)
    | dsimp only)

@[simp] theorem State.toPartner_kept (s : State) (type : U16) (payload : List U8) :
    (State.toPartner s type payload).pending = s.pending ∧ (State.toPartner s type payload).sys.fuses = s.sys.fuses ∧
        (State.toPartner s type payload).sys.boot = s.sys.boot := by simp [State.toPartner]

@[simp] theorem State.releaseAll_kept (s : State) (bs : List TxBlk) : (State.releaseAll s bs).pending = s.pending ∧
    (State.releaseAll s bs).sys.fuses = s.sys.fuses ∧ (State.releaseAll s bs).sys.boot = s.sys.boot := by
  unfold State.releaseAll
  repeat' (first
    | (simp [foldl_kept]; done)
    | split
    | (refine foldl_into _ (fun _ _ => ?_) _ ?_)
    | dsimp only)

@[simp] theorem State.dropMsgs_kept (s : State) (sp : Fin 12) (v : Fin 5) (p : TxMsg → Bool) : (State.dropMsgs s sp v p).pending = s.pending ∧
    (State.dropMsgs s sp v p).sys.fuses = s.sys.fuses ∧ (State.dropMsgs s sp v p).sys.boot = s.sys.boot := by
  unfold State.dropMsgs
  dsimp only
  repeat' (first | (simp; done) | (simp [foldl_kept]; done) | split)

@[simp] theorem State.firstArrival_kept (s : State) (sp : Fin 12) (v : Fin 5) (m : Msg) : (State.firstArrival s sp v m).1.pending = s.pending ∧
    (State.firstArrival s sp v m).1.sys.fuses = s.sys.fuses ∧ (State.firstArrival s sp v m).1.sys.boot = s.sys.boot := by
  unfold State.firstArrival
  dsimp only
  repeat' (first | (simp; done) | (simp [foldl_kept]; done) | split)

@[simp] theorem State.takePlace_kept (s : State) (a : Arrival) (sp : Fin 12) (m : Msg) : (State.takePlace s a sp m).1.pending = s.pending ∧
    (State.takePlace s a sp m).1.sys.fuses = s.sys.fuses ∧ (State.takePlace s a sp m).1.sys.boot = s.sys.boot := by
  unfold State.takePlace
  dsimp only
  repeat' (first | (simp; done) | (simp [foldl_kept]; done) | split)

@[simp] theorem State.msgArrive_kept (s : State) (sp : Fin 12) (v : Fin 5) (m : Msg) : (State.msgArrive s sp v m).1.pending = s.pending ∧
    (State.msgArrive s sp v m).1.sys.fuses = s.sys.fuses ∧ (State.msgArrive s sp v m).1.sys.boot = s.sys.boot := by
  unfold State.msgArrive
  dsimp only
  repeat' (first | (simp; done) | (simp [foldl_kept]; done) | split)

@[simp] theorem State.acceptMsg_kept (s : State) (sp : Fin 12) (m : Msg) : (State.acceptMsg s sp m).1.pending = s.pending ∧
    (State.acceptMsg s sp m).1.sys.fuses = s.sys.fuses ∧ (State.acceptMsg s sp m).1.sys.boot = s.sys.boot := by
  unfold State.acceptMsg
  repeat' (first
    | (simp [foldl_kept]; done)
    | split
    | (refine foldl_into _ (fun _ _ => ?_) _ ?_)
    | dsimp only)

@[simp] theorem State.consume_kept (s : State) (sp : Fin 12) (m : Msg) (f : State → State) (hf : ∀ t,
    (f t).pending = t.pending ∧ (f t).sys.fuses = t.sys.fuses ∧ (f t).sys.boot = t.sys.boot) :
    (s.consume sp m f).pending = s.pending ∧ (s.consume sp m f).sys.fuses = s.sys.fuses ∧
        (s.consume sp m f).sys.boot = s.sys.boot := by
  unfold State.consume
  dsimp only
  split <;> simp [hf]

@[simp] theorem State.floodMember_kept (s : State) : (State.floodMember s).pending = s.pending ∧
    (State.floodMember s).sys.fuses = s.sys.fuses ∧
        (State.floodMember s).sys.boot = s.sys.boot := by simp [State.floodMember]

@[simp] theorem State.topologyChange_kept (s : State) : (State.topologyChange s).pending = s.pending ∧
    (State.topologyChange s).sys.fuses = s.sys.fuses ∧
        (State.topologyChange s).sys.boot = s.sys.boot := by simp [State.topologyChange]

@[simp] theorem State.floodLinkEvent_kept (s : State) (sp : Fin 12) (peer : U32) (kind : Nat) : (State.floodLinkEvent s sp peer kind).pending = s.pending ∧
    (State.floodLinkEvent s sp peer kind).sys.fuses = s.sys.fuses ∧ (State.floodLinkEvent s sp peer kind).sys.boot = s.sys.boot := by
  unfold State.floodLinkEvent
  repeat' (first
    | (simp [foldl_kept]; done)
    | split
    | (refine foldl_into _ (fun _ _ => ?_) _ ?_)
    | dsimp only)

@[simp] theorem State.raiseDomain_kept (s : State) : (State.raiseDomain s).pending = s.pending ∧
    (State.raiseDomain s).sys.fuses = s.sys.fuses ∧
        (State.raiseDomain s).sys.boot = s.sys.boot := by simp [State.raiseDomain]

@[simp] theorem State.domainChange_kept (s : State) : (State.domainChange s).pending = s.pending ∧
    (State.domainChange s).sys.fuses = s.sys.fuses ∧
        (State.domainChange s).sys.boot = s.sys.boot := by simp [State.domainChange]

@[simp] theorem State.issuerChange_kept (s : State) : (State.issuerChange s).pending = s.pending ∧
    (State.issuerChange s).sys.fuses = s.sys.fuses ∧
        (State.issuerChange s).sys.boot = s.sys.boot := by simp [State.issuerChange]

@[simp] theorem State.modDesc_kept (s : State) (n : Nat) (f : Desc → Desc) : (State.modDesc s n f).pending = s.pending ∧
    (State.modDesc s n f).sys.fuses = s.sys.fuses ∧ (State.modDesc s n f).sys.boot = s.sys.boot := by simp [State.modDesc]

@[simp] theorem State.submit_kept (s : State) (d : Desc) : (State.submit s d).pending = s.pending ∧
    (State.submit s d).sys.fuses = s.sys.fuses ∧ (State.submit s d).sys.boot = s.sys.boot := by simp [State.submit]

@[simp] theorem State.eccRead_kept (s : State) (a : Nat) (n : Nat) (requester : Nat) :
    (State.eccRead s a n requester).pending = s.pending ∧ (State.eccRead s a n requester).sys.fuses = s.sys.fuses ∧
        (State.eccRead s a n requester).sys.boot = s.sys.boot := by simp [State.eccRead, foldl_kept]

@[simp] theorem State.deckGrant_kept (s : State) (n : Nat) : (State.deckGrant s n).pending = s.pending ∧
    (State.deckGrant s n).sys.fuses = s.sys.fuses ∧ (State.deckGrant s n).sys.boot = s.sys.boot := by
  unfold State.deckGrant
  dsimp only
  repeat' (first | (simp; done) | (simp [foldl_kept]; done) | split)

@[simp] theorem State.deckWrite_kept (s : State) (a : Nat) (b : List U8) : (State.deckWrite s a b).pending = s.pending ∧
    (State.deckWrite s a b).sys.fuses = s.sys.fuses ∧ (State.deckWrite s a b).sys.boot = s.sys.boot := by
  unfold State.deckWrite
  dsimp only
  repeat' (first | (simp; done) | (simp [foldl_kept]; done) | split)

@[simp] theorem State.modDest_kept (s : State) (route : Nat) (f : Dest → Dest) :
    (State.modDest s route f).pending = s.pending ∧ (State.modDest s route f).sys.fuses = s.sys.fuses ∧
        (State.modDest s route f).sys.boot = s.sys.boot := by simp [State.modDest]

@[simp] theorem State.leadResult_kept (s : State) (route : Nat) (r : U16 × Bool) (now10 : Bool) :
    (State.leadResult s route r now10).pending = s.pending ∧ (State.leadResult s route r now10).sys.fuses = s.sys.fuses ∧
        (State.leadResult s route r now10).sys.boot = s.sys.boot := by simp [State.leadResult]

@[simp] theorem State.applyLeads_kept (s : State) : (State.applyLeads s).pending = s.pending ∧
    (State.applyLeads s).sys.fuses = s.sys.fuses ∧ (State.applyLeads s).sys.boot = s.sys.boot := by simp [State.applyLeads]

@[simp] theorem State.spanLead_kept (s : State) (route : Nat) (r : Route) :
    (State.spanLead s route r).pending = s.pending ∧ (State.spanLead s route r).sys.fuses = s.sys.fuses ∧
        (State.spanLead s route r).sys.boot = s.sys.boot := by simp [State.spanLead]

@[simp] theorem State.sendUpdate_kept (s : State) (node frame base : U32) (fl : UpdFlags) (space : Nat) (runs : List (Int × Run)) (note : Option (U32 × Nat) := none) : (State.sendUpdate s node frame base fl space runs note).pending = s.pending ∧
    (State.sendUpdate s node frame base fl space runs note).sys.fuses = s.sys.fuses ∧ (State.sendUpdate s node frame base fl space runs note).sys.boot = s.sys.boot := by
  unfold State.sendUpdate
  repeat' (first
    | (simp [foldl_kept]; done)
    | split
    | (refine foldl_into _ (fun _ _ => ?_) _ ?_)
    | dsimp only)

@[simp] theorem State.sendSpan_kept (s : State) (im : Image) (route : Nat) (r : Route) (m : U32) (slots : List U8) : (State.sendSpan s im route r m slots).pending = s.pending ∧
    (State.sendSpan s im route r m slots).sys.fuses = s.sys.fuses ∧ (State.sendSpan s im route r m slots).sys.boot = s.sys.boot := by
  unfold State.sendSpan
  repeat' (first
    | (simp [foldl_kept]; done)
    | split
    | (refine foldl_into _ (fun _ _ => ?_) _ ?_)
    | dsimp only)

@[simp] theorem State.hedgerowSend_kept (s : State) (m : U32) : (State.hedgerowSend s m).pending = s.pending ∧
    (State.hedgerowSend s m).sys.fuses = s.sys.fuses ∧ (State.hedgerowSend s m).sys.boot = s.sys.boot := by
  unfold State.hedgerowSend
  (try simp only [])
  repeat' first
    | (simp; done)
    | (simp [foldl_kept, -List.foldl_reverse]; done)
    | split
    | (refine foldl_kept _ (fun _ _ => ?_) _ _)
    | (dsimp only)

@[simp] theorem State.immediateSpan_kept (s : State) (im : Image) (route : Nat) (r : Route) (cells : List (Nat × U8))
    (of : U32 → List (Nat × U8)) (replace : Bool) :
        (State.immediateSpan s im route r cells of replace).pending = s.pending ∧
            (State.immediateSpan s im route r cells of replace).sys.fuses = s.sys.fuses ∧
                (State.immediateSpan s im route r cells of replace).sys.boot = s.sys.boot := by
  unfold State.immediateSpan
  dsimp only
  split <;> simp [foldl_kept, -List.foldl_reverse]

@[simp] theorem State.setPwm_kept (s : State) (pin : Nat) (f : PwmPin → PwmPin) :
    (State.setPwm s pin f).pending = s.pending ∧ (State.setPwm s pin f).sys.fuses = s.sys.fuses ∧
        (State.setPwm s pin f).sys.boot = s.sys.boot := by
  unfold State.setPwm
  split <;> simp

@[simp] theorem State.pwmFrom_kept (s : State) (pin : Nat) (cells : List (Nat × U8)) (k : Nat) :
    (State.pwmFrom s pin cells k).pending = s.pending ∧ (State.pwmFrom s pin cells k).sys.fuses = s.sys.fuses ∧
        (State.pwmFrom s pin cells k).sys.boot = s.sys.boot := by
  unfold State.pwmFrom
  split <;> simp

@[simp] theorem State.driveNow_kept (s : State) (pin : Nat) (m : U8 → Bool) : (State.driveNow s pin m).pending = s.pending ∧
    (State.driveNow s pin m).sys.fuses = s.sys.fuses ∧ (State.driveNow s pin m).sys.boot = s.sys.boot := by
  unfold State.driveNow
  repeat' (first
    | (simp [foldl_kept]; done)
    | split
    | (refine foldl_into _ (fun _ _ => ?_) _ ?_)
    | dsimp only)

@[simp] theorem State.immediateString_kept (s : State) (pin : Nat) (cells : List (Nat × U8)) : (State.immediateString s pin cells).pending = s.pending ∧
    (State.immediateString s pin cells).sys.fuses = s.sys.fuses ∧ (State.immediateString s pin cells).sys.boot = s.sys.boot := by
  unfold State.immediateString
  repeat' (first
    | (simp [foldl_kept]; done)
    | split
    | (refine foldl_into _ (fun _ _ => ?_) _ ?_)
    | dsimp only)

@[simp] theorem State.immediateDmx_kept (s : State) (p : Fin 32) (slots : Nat) (cells : List (Nat × U8))
    (house : Bool) : (State.immediateDmx s p slots cells house).pending = s.pending ∧
        (State.immediateDmx s p slots cells house).sys.fuses = s.sys.fuses ∧
            (State.immediateDmx s p slots cells house).sys.boot = s.sys.boot := by simp [State.immediateDmx]

@[simp] theorem State.immediateRoute_kept (s : State) (im : Image) (route : Nat) (r : Route) (cells : List (Nat × U8)) (of : U32 → List (Nat × U8)) (replace : Bool) : (State.immediateRoute s im route r cells of replace).pending = s.pending ∧
    (State.immediateRoute s im route r cells of replace).sys.fuses = s.sys.fuses ∧ (State.immediateRoute s im route r cells of replace).sys.boot = s.sys.boot := by
  unfold State.immediateRoute
  repeat' (first
    | (simp [foldl_kept]; done)
    | split
    | (refine foldl_into _ (fun _ _ => ?_) _ ?_)
    | dsimp only)

@[simp] theorem State.immediateAll_kept (s : State) (pick : Fixture → ParamDesc → Bool) (outs : U32 → Tab Nat) (first : Tab Nat) (replace : Bool) : (State.immediateAll s pick outs first replace).pending = s.pending ∧
    (State.immediateAll s pick outs first replace).sys.fuses = s.sys.fuses ∧ (State.immediateAll s pick outs first replace).sys.boot = s.sys.boot := by
  unfold State.immediateAll
  repeat' (first
    | (simp [foldl_kept]; done)
    | split
    | (refine foldl_into _ (fun _ _ => ?_) _ ?_)
    | dsimp only)

@[simp] theorem State.takeTrigger_kept (s : State) (id : U32) (m : U32) :
    (State.takeTrigger s id m).pending = s.pending ∧ (State.takeTrigger s id m).sys.fuses = s.sys.fuses ∧
        (State.takeTrigger s id m).sys.boot = s.sys.boot := by simp [State.takeTrigger]

@[simp] theorem State.observe_kept (s : State) (tr : Trigger) (t : Int) : (State.observe s tr t).pending = s.pending ∧
    (State.observe s tr t).sys.fuses = s.sys.fuses ∧ (State.observe s tr t).sys.boot = s.sys.boot := by
  unfold State.observe
  split <;> simp

@[simp] theorem State.observeAll_kept (s : State) (p : Trigger → Bool) (t : Int) :
    (State.observeAll s p t).pending = s.pending ∧ (State.observeAll s p t).sys.fuses = s.sys.fuses ∧
        (State.observeAll s p t).sys.boot = s.sys.boot := by
  unfold State.observeAll
  (try simp only [])
  repeat' first
    | (simp; done)
    | (simp [foldl_kept, -List.foldl_reverse]; done)
    | split
    | (refine foldl_kept _ (fun _ _ => ?_) _ _)
    | (dsimp only)

@[simp] theorem State.inputChanged_kept (s : State) (uni : U16) (old : List U8) (new : List U8) (t : Int) :
    (State.inputChanged s uni old new t).pending = s.pending ∧
        (State.inputChanged s uni old new t).sys.fuses = s.sys.fuses ∧
            (State.inputChanged s uni old new t).sys.boot = s.sys.boot := by simp [State.inputChanged]

@[simp] theorem State.toCue_kept (s : State) (im : Image) (l : Nat) (ci : Nat) (m : U32) :
    (State.toCue s im l ci m).pending = s.pending ∧ (State.toCue s im l ci m).sys.fuses = s.sys.fuses ∧
        (State.toCue s im l ci m).sys.boot = s.sys.boot := by
  unfold State.toCue
  split <;> simp

@[simp] theorem State.cueAction_kept (s : State) (l : Nat) (action : U8) (cue : U32) (m : U32) :
    (State.cueAction s l action cue m).pending = s.pending ∧ (State.cueAction s l action cue m).sys.fuses = s.sys.fuses ∧
        (State.cueAction s l action cue m).sys.boot = s.sys.boot := by
  unfold State.cueAction
  dsimp only
  repeat' split
  all_goals simp

@[simp] theorem State.applyTriggers_kept (s : State) (m : U32) : (State.applyTriggers s m).pending = s.pending ∧
    (State.applyTriggers s m).sys.fuses = s.sys.fuses ∧ (State.applyTriggers s m).sys.boot = s.sys.boot := by
  unfold State.applyTriggers
  (try simp only [])
  repeat' first
    | (simp; done)
    | (simp [foldl_kept, -List.foldl_reverse]; done)
    | split
    | (refine foldl_kept _ (fun _ _ => ?_) _ _)
    | (dsimp only)

@[simp] theorem State.applyGoes_kept (s : State) (m : U32) : (State.applyGoes s m).pending = s.pending ∧
    (State.applyGoes s m).sys.fuses = s.sys.fuses ∧
        (State.applyGoes s m).sys.boot = s.sys.boot := by simp [State.applyGoes, foldl_kept]

@[simp] theorem State.applyFollows_kept (s : State) (m : U32) : (State.applyFollows s m).pending = s.pending ∧
    (State.applyFollows s m).sys.fuses = s.sys.fuses ∧
        (State.applyFollows s m).sys.boot = s.sys.boot := by simp [State.applyFollows, foldl_kept]

@[simp] theorem State.issueTasks_kept (s : State) (m : U32) : (State.issueTasks s m).pending = s.pending ∧
    (State.issueTasks s m).sys.fuses = s.sys.fuses ∧ (State.issueTasks s m).sys.boot = s.sys.boot := by
  unfold State.issueTasks
  (try simp only [])
  repeat' first
    | (simp; done)
    | (simp [foldl_kept, -List.foldl_reverse]; done)
    | split
    | (refine foldl_kept _ (fun _ _ => ?_) _ _)
    | (dsimp only)

@[simp] theorem State.sequence_kept (s : State) (m : U32) : (State.sequence s m).pending = s.pending ∧
    (State.sequence s m).sys.fuses = s.sys.fuses ∧ (State.sequence s m).sys.boot = s.sys.boot := by
  unfold State.sequence
  dsimp only
  split <;> simp

@[simp] theorem State.startCues_kept (s : State) (im : Image) : (State.startCues s im).pending = s.pending ∧
    (State.startCues s im).sys.fuses = s.sys.fuses ∧
        (State.startCues s im).sys.boot = s.sys.boot := foldl_kept _ (fun _ _ => by split <;> simp) _ _

@[simp] theorem State.houseChange_kept (s : State) (f : House → House) : (State.houseChange s f).pending = s.pending ∧
    (State.houseChange s f).sys.fuses = s.sys.fuses ∧
        (State.houseChange s f).sys.boot = s.sys.boot := by simp [State.houseChange]

@[simp] theorem State.radioTo_kept (s : State) (i : Fin 4) (st : Nat) : (State.radioTo s i st).pending = s.pending ∧
    (State.radioTo s i st).sys.fuses = s.sys.fuses ∧ (State.radioTo s i st).sys.boot = s.sys.boot := by simp [State.radioTo]

@[simp] theorem State.radioFollow_kept (s : State) : (State.radioFollow s).pending = s.pending ∧
    (State.radioFollow s).sys.fuses = s.sys.fuses ∧
        (State.radioFollow s).sys.boot = s.sys.boot := by simp [State.radioFollow, foldl_kept]

@[simp] theorem State.pierTo_kept (s : State) (st : Nat) : (State.pierTo s st).pending = s.pending ∧
    (State.pierTo s st).sys.fuses = s.sys.fuses ∧ (State.pierTo s st).sys.boot = s.sys.boot := by simp [State.pierTo]

@[simp] theorem State.holderState_kept (s : State) : (State.holderState s).pending = s.pending ∧
    (State.holderState s).sys.fuses = s.sys.fuses ∧
        (State.holderState s).sys.boot = s.sys.boot := by simp [State.holderState]

@[simp] theorem State.standbyState_kept (s : State) : (State.standbyState s).pending = s.pending ∧
    (State.standbyState s).sys.fuses = s.sys.fuses ∧
        (State.standbyState s).sys.boot = s.sys.boot := by simp [State.standbyState]

@[simp] theorem State.askResync_kept (s : State) : (State.askResync s).pending = s.pending ∧
    (State.askResync s).sys.fuses = s.sys.fuses ∧ (State.askResync s).sys.boot = s.sys.boot := by simp [State.askResync]

@[simp] theorem State.pierSend_kept (s : State) (type : U16) (payload : List U8) :
    (State.pierSend s type payload).pending = s.pending ∧ (State.pierSend s type payload).sys.fuses = s.sys.fuses ∧
        (State.pierSend s type payload).sys.boot = s.sys.boot := by simp [State.pierSend, foldl_kept]

@[simp] theorem State.sendReport_kept (s : State) (m : U32) (t : Nat) : (State.sendReport s m t).pending = s.pending ∧
    (State.sendReport s m t).sys.fuses = s.sys.fuses ∧
        (State.sendReport s m t).sys.boot = s.sys.boot := by simp [State.sendReport]

@[simp] theorem State.release_kept (s : State) (cause : Nat) : (State.release s cause).pending = s.pending ∧
    (State.release s cause).sys.fuses = s.sys.fuses ∧
        (State.release s cause).sys.boot = s.sys.boot := by simp [State.release]

@[simp] theorem State.resendFrame_kept (s : State) (m : U32) : (State.resendFrame s m).pending = s.pending ∧
    (State.resendFrame s m).sys.fuses = s.sys.fuses ∧ (State.resendFrame s m).sys.boot = s.sys.boot := by
  unfold State.resendFrame
  (try simp only [])
  repeat' first
    | (simp; done)
    | (simp [foldl_kept, -List.foldl_reverse]; done)
    | split
    | (refine foldl_kept _ (fun _ _ => ?_) _ _)
    | (dsimp only)

@[simp] theorem State.resendReport_kept (s : State) (m : U32) : (State.resendReport s m).pending = s.pending ∧
    (State.resendReport s m).sys.fuses = s.sys.fuses ∧ (State.resendReport s m).sys.boot = s.sys.boot := by
  unfold State.resendReport
  split <;> simp

@[simp] theorem State.forceFull_kept (s : State) : (State.forceFull s).pending = s.pending ∧
    (State.forceFull s).sys.fuses = s.sys.fuses ∧ (State.forceFull s).sys.boot = s.sys.boot := by
  unfold State.forceFull
  dsimp only
  repeat' (first | (simp; done) | (simp [foldl_kept]; done) | split)

@[simp] theorem State.claimFrom_kept (s : State) (cause : Nat) (f : U32) :
    (State.claimFrom s cause f).pending = s.pending ∧ (State.claimFrom s cause f).sys.fuses = s.sys.fuses ∧
        (State.claimFrom s cause f).sys.boot = s.sys.boot := by
  simp [State.claimFrom, foldl_kept, -List.foldl_reverse]

@[simp] theorem State.claim_kept (s : State) (cause : Nat) : (State.claim s cause).pending = s.pending ∧
    (State.claim s cause).sys.fuses = s.sys.fuses ∧ (State.claim s cause).sys.boot = s.sys.boot := by simp [State.claim]

@[simp] theorem State.sendPlanned_kept (s : State) (h : Handover) : (State.sendPlanned s h).pending = s.pending ∧
    (State.sendPlanned s h).sys.fuses = s.sys.fuses ∧ (State.sendPlanned s h).sys.boot = s.sys.boot := by
  unfold State.sendPlanned
  repeat' (first
    | (simp [foldl_kept]; done)
    | split
    | (refine foldl_into _ (fun _ _ => ?_) _ ?_)
    | dsimp only)

@[simp] theorem State.plannedStep_kept (s : State) : (State.plannedStep s).pending = s.pending ∧
    (State.plannedStep s).sys.fuses = s.sys.fuses ∧ (State.plannedStep s).sys.boot = s.sys.boot := by
  unfold State.plannedStep
  split <;> simp

@[simp] theorem State.claimPlanned_kept (s : State) (f : U32) (cause : U8) :
    (State.claimPlanned s f cause).pending = s.pending ∧ (State.claimPlanned s f cause).sys.fuses = s.sys.fuses ∧
        (State.claimPlanned s f cause).sys.boot = s.sys.boot := by
  simp [State.claimPlanned, foldl_kept, -List.foldl_reverse]

@[simp] theorem State.cancelPlanned_kept (s : State) (h : Handover) : (State.cancelPlanned s h).pending = s.pending ∧
    (State.cancelPlanned s h).sys.fuses = s.sys.fuses ∧ (State.cancelPlanned s h).sys.boot = s.sys.boot := by
  unfold State.cancelPlanned
  repeat' (first
    | (simp [foldl_kept]; done)
    | split
    | (refine foldl_into _ (fun _ _ => ?_) _ ?_)
    | dsimp only)

@[simp] theorem State.sendRevert_kept (s : State) (frame : U32) (kind : Nat) :
    (State.sendRevert s frame kind).pending = s.pending ∧ (State.sendRevert s frame kind).sys.fuses = s.sys.fuses ∧
        (State.sendRevert s frame kind).sys.boot = s.sys.boot := by simp [State.sendRevert]

@[simp] theorem State.checkFail_kept (s : State) (n : Nat) (always : Bool) :
    (State.checkFail s n always).pending = s.pending ∧ (State.checkFail s n always).sys.fuses = s.sys.fuses ∧
        (State.checkFail s n always).sys.boot = s.sys.boot := by
  unfold State.checkFail
  dsimp only
  repeat' split
  all_goals simp

@[simp] theorem State.checkClear_kept (s : State) (n : Nat) : (State.checkClear s n).pending = s.pending ∧
    (State.checkClear s n).sys.fuses = s.sys.fuses ∧
        (State.checkClear s n).sys.boot = s.sys.boot := by simp [State.checkClear]

@[simp] theorem State.forceChecks_kept (s : State) (m : U32) : (State.forceChecks s m).pending = s.pending ∧
    (State.forceChecks s m).sys.fuses = s.sys.fuses ∧
        (State.forceChecks s m).sys.boot = s.sys.boot := by simp [State.forceChecks, foldl_kept]

@[simp] theorem State.checkSet_kept (s : State) (n : Nat) (b : Bool) : (State.checkSet s n b).pending = s.pending ∧
    (State.checkSet s n b).sys.fuses = s.sys.fuses ∧
        (State.checkSet s n b).sys.boot = s.sys.boot := by simp [State.checkSet]

@[simp] theorem State.flagFrame_kept (s : State) (m : U32) (bit : Nat) : (State.flagFrame s m bit).pending = s.pending ∧
    (State.flagFrame s m bit).sys.fuses = s.sys.fuses ∧
        (State.flagFrame s m bit).sys.boot = s.sys.boot := by simp [State.flagFrame]

@[simp] theorem State.raisePath_kept (s : State) (path : Nat) (kind : Nat) :
    (State.raisePath s path kind).pending = s.pending ∧ (State.raisePath s path kind).sys.fuses = s.sys.fuses ∧
        (State.raisePath s path kind).sys.boot = s.sys.boot := by simp [State.raisePath]

@[simp] theorem State.pierLinkLost_kept (s : State) (sp : Fin 12) : (State.pierLinkLost s sp).pending = s.pending ∧
    (State.pierLinkLost s sp).sys.fuses = s.sys.fuses ∧
        (State.pierLinkLost s sp).sys.boot = s.sys.boot := by simp [State.pierLinkLost]

@[simp] theorem State.modSpan_kept (s : State) (sp : Fin 12) (f : Span → Span) :
    (State.modSpan s sp f).pending = s.pending ∧ (State.modSpan s sp f).sys.fuses = s.sys.fuses ∧
        (State.modSpan s sp f).sys.boot = s.sys.boot := by simp [State.modSpan]

@[simp] theorem State.spanFail_kept (s : State) (sp : Fin 12) (case_ : Nat) :
    (State.spanFail s sp case_).pending = s.pending ∧ (State.spanFail s sp case_).sys.fuses = s.sys.fuses ∧
        (State.spanFail s sp case_).sys.boot = s.sys.boot := by simp [State.spanFail]

@[simp] theorem State.spanCheck_kept (s : State) : (State.spanCheck s).pending = s.pending ∧
    (State.spanCheck s).sys.fuses = s.sys.fuses ∧ (State.spanCheck s).sys.boot = s.sys.boot := by simp [State.spanCheck]

@[simp] theorem State.pierLinkBack_kept (s : State) (sp : Fin 12) : (State.pierLinkBack s sp).pending = s.pending ∧
    (State.pierLinkBack s sp).sys.fuses = s.sys.fuses ∧
        (State.pierLinkBack s sp).sys.boot = s.sys.boot := by simp [State.pierLinkBack]

@[simp] theorem State.judge_kept (s : State) (m : U32) (own : U16) (partner : U16) :
    (State.judge s m own partner).pending = s.pending ∧ (State.judge s m own partner).sys.fuses = s.sys.fuses ∧
        (State.judge s m own partner).sys.boot = s.sys.boot := by simp [State.judge]

@[simp] theorem State.compareFrame_kept (s : State) (m : U32) : (State.compareFrame s m).pending = s.pending ∧
    (State.compareFrame s m).sys.fuses = s.sys.fuses ∧ (State.compareFrame s m).sys.boot = s.sys.boot := by
  unfold State.compareFrame
  split <;> simp

@[simp] theorem State.computeDigest_kept (s : State) (m : U32) : (State.computeDigest s m).pending = s.pending ∧
    (State.computeDigest s m).sys.fuses = s.sys.fuses ∧
        (State.computeDigest s m).sys.boot = s.sys.boot := by simp [State.computeDigest]

@[simp] theorem State.askDigest_kept (s : State) (m : U32) : (State.askDigest s m).pending = s.pending ∧
    (State.askDigest s m).sys.fuses = s.sys.fuses ∧ (State.askDigest s m).sys.boot = s.sys.boot := by simp [State.askDigest]

@[simp] theorem State.startupClaim_kept (s : State) : (State.startupClaim s).pending = s.pending ∧
    (State.startupClaim s).sys.fuses = s.sys.fuses ∧
        (State.startupClaim s).sys.boot = s.sys.boot := by simp [State.startupClaim]

@[simp] theorem State.pierGridStart_kept (s : State) : (State.pierGridStart s).pending = s.pending ∧
    (State.pierGridStart s).sys.fuses = s.sys.fuses ∧
        (State.pierGridStart s).sys.boot = s.sys.boot := by simp [State.pierGridStart]

@[simp] theorem State.pierGridStop_kept (s : State) : (State.pierGridStop s).pending = s.pending ∧
    (State.pierGridStop s).sys.fuses = s.sys.fuses ∧
        (State.pierGridStop s).sys.boot = s.sys.boot := by simp [State.pierGridStop]

@[simp] theorem State.reconvert_kept (s : State) : (State.reconvert s).pending = s.pending ∧
    (State.reconvert s).sys.fuses = s.sys.fuses ∧ (State.reconvert s).sys.boot = s.sys.boot := by simp [State.reconvert]

@[simp] theorem State.fireSlots_kept (s : State) (p : KtSlot → Bool) (past : KtSlot → Int) : (State.fireSlots s p past).pending = s.pending ∧
    (State.fireSlots s p past).sys.fuses = s.sys.fuses ∧ (State.fireSlots s p past).sys.boot = s.sys.boot := by
  unfold State.fireSlots
  repeat' (first
    | (simp [foldl_kept]; done)
    | split
    | (refine foldl_into _ (fun _ _ => ?_) _ ?_)
    | dsimp only)

@[simp] theorem State.beginAction_kept (s : State) (n : Nat) : (State.beginAction s n).pending = s.pending ∧
    (State.beginAction s n).sys.fuses = s.sys.fuses ∧ (State.beginAction s n).sys.boot = s.sys.boot := by
  unfold State.beginAction
  dsimp only
  repeat' (first | (simp; done) | (simp [foldl_kept]; done) | split)

@[simp] theorem State.slotTurn_kept (s : State) : (State.slotTurn s).pending = s.pending ∧
    (State.slotTurn s).sys.fuses = s.sys.fuses ∧ (State.slotTurn s).sys.boot = s.sys.boot := by
  unfold State.slotTurn
  dsimp only
  repeat' (first | (simp; done) | (simp [foldl_kept]; done) | split)

@[simp] theorem State.raiseLock_kept (s : State) (prev : LockState) : (State.raiseLock s prev).pending = s.pending ∧
    (State.raiseLock s prev).sys.fuses = s.sys.fuses ∧
        (State.raiseLock s prev).sys.boot = s.sys.boot := by simp [State.raiseLock]

@[simp] theorem State.setFaults_kept (s : State) (h o : Bool) : (State.setFaults s h o).pending = s.pending ∧
    (State.setFaults s h o).sys.fuses = s.sys.fuses ∧ (State.setFaults s h o).sys.boot = s.sys.boot := by
  unfold State.setFaults
  repeat' (first
    | (simp [foldl_kept]; done)
    | split
    | (refine foldl_into _ (fun _ _ => ?_) _ ?_)
    | dsimp only)

@[simp] theorem State.lockTo_kept (s : State) (st : LockState) : (State.lockTo s st).pending = s.pending ∧
    (State.lockTo s st).sys.fuses = s.sys.fuses ∧ (State.lockTo s st).sys.boot = s.sys.boot := by simp [State.lockTo]

@[simp] theorem State.holdover_kept (s : State) : (State.holdover s).pending = s.pending ∧
    (State.holdover s).sys.fuses = s.sys.fuses ∧ (State.holdover s).sys.boot = s.sys.boot := by simp [State.holdover]

@[simp] theorem State.reselect_kept (s : State) : (State.reselect s).pending = s.pending ∧
    (State.reselect s).sys.fuses = s.sys.fuses ∧ (State.reselect s).sys.boot = s.sys.boot := by simp [State.reselect]

@[simp] theorem State.invalidate_kept (s : State) (code : Nat) : (State.invalidate s code).pending = s.pending ∧
    (State.invalidate s code).sys.fuses = s.sys.fuses ∧
        (State.invalidate s code).sys.boot = s.sys.boot := by simp [State.invalidate]

@[simp] theorem State.lockSample_kept (s : State) (theta : Rat) : (State.lockSample s theta).pending = s.pending ∧
    (State.lockSample s theta).sys.fuses = s.sys.fuses ∧ (State.lockSample s theta).sys.boot = s.sys.boot := by
  unfold State.lockSample
  repeat' (first
    | (simp [foldl_kept]; done)
    | split
    | (refine foldl_into _ (fun _ _ => ?_) _ ?_)
    | dsimp only)

@[simp] theorem State.stepTime_kept (s : State) (d : Rat) : (State.stepTime s d).pending = s.pending ∧
    (State.stepTime s d).sys.fuses = s.sys.fuses ∧ (State.stepTime s d).sys.boot = s.sys.boot := by
  unfold State.stepTime
  repeat' (first
    | (simp [foldl_kept]; done)
    | split
    | (refine foldl_into _ (fun _ _ => ?_) _ ?_)
    | dsimp only)

@[simp] theorem State.servoSample_kept (s : State) (code : Nat) (theta : Rat) (dt : Nat) : (State.servoSample s code theta dt).pending = s.pending ∧
    (State.servoSample s code theta dt).sys.fuses = s.sys.fuses ∧ (State.servoSample s code theta dt).sys.boot = s.sys.boot := by
  unfold State.servoSample
  repeat' (first
    | (simp [foldl_kept]; done)
    | split
    | (refine foldl_into _ (fun _ _ => ?_) _ ?_)
    | dsimp only)

@[simp] theorem State.sample_kept (s : State) (code : Nat) (theta : Rat) (nominal : Nat) : (State.sample s code theta nominal).pending = s.pending ∧
    (State.sample s code theta nominal).sys.fuses = s.sys.fuses ∧ (State.sample s code theta nominal).sys.boot = s.sys.boot := by
  unfold State.sample
  repeat' (first
    | (simp [foldl_kept]; done)
    | split
    | (refine foldl_into _ (fun _ _ => ?_) _ ?_)
    | dsimp only)

@[simp] theorem State.setServo_kept (p : List U8) (s : State) : (State.setServo p s).pending = s.pending ∧
    (State.setServo p s).sys.fuses = s.sys.fuses ∧ (State.setServo p s).sys.boot = s.sys.boot := by simp [State.setServo]

@[simp] theorem State.setClockModel_kept (p : List U8) (s : State) : (State.setClockModel p s).pending = s.pending ∧
    (State.setClockModel p s).sys.fuses = s.sys.fuses ∧
        (State.setClockModel p s).sys.boot = s.sys.boot := by simp [State.setClockModel]

@[simp] theorem State.setTimecode_kept (p : List U8) (s : State) : (State.setTimecode p s).pending = s.pending ∧
    (State.setTimecode p s).sys.fuses = s.sys.fuses ∧
        (State.setTimecode p s).sys.boot = s.sys.boot := by simp [State.setTimecode]

@[simp] theorem State.setSched_kept (p : List U8) (s : State) : (State.setSched p s).pending = s.pending ∧
    (State.setSched p s).sys.fuses = s.sys.fuses ∧ (State.setSched p s).sys.boot = s.sys.boot := by simp [State.setSched]

@[simp] theorem State.setCores_kept (p : List U8) (s : State) : (State.setCores p s).pending = s.pending ∧
    (State.setCores p s).sys.fuses = s.sys.fuses ∧ (State.setCores p s).sys.boot = s.sys.boot := by simp [State.setCores]

@[simp] theorem keptE_bulkLength (s : State) (q : Req) (n : Nat) (k : Except Status Done) (h : KeptE s k) :
    KeptE s (bulkLength q n k) := by unfold bulkLength; split <;> simp [h]

@[simp] theorem keptE_withBulk (q : Req) (off n : Nat) (s : State) (k : List U8 → Except Status Done) (h : ∀ b, KeptE s
    (k b)) :
    KeptE s (withBulk q off n s k) := by
  unfold withBulk
  split
  · simp
  · split
    · exact h _
    · simp

@[simp] theorem State.unloadActive_kept (s : State) : (State.unloadActive s).pending = s.pending ∧
    (State.unloadActive s).sys.fuses = s.sys.fuses ∧
        (State.unloadActive s).sys.boot = s.sys.boot := by simp [State.unloadActive]

@[simp] theorem showUnload_kept (q : Req) (s : State) : (showUnload q s).pending = s.pending ∧
    (showUnload q s).sys.fuses = s.sys.fuses ∧ (showUnload q s).sys.boot = s.sys.boot := by
  unfold showUnload
  refine serve_kept _ _ _ _ _ (fun s => ?_)
  dsimp only
  repeat' first
    | (refine KeptE.trans ?_ (State.settle_kept _ _ _))
    | (refine keptE_require _ _ _ _ ?_)
    | (refine keptE_bulkLength _ _ _ _ ?_)
    | (refine keptE_withBulk _ _ _ _ _ (fun _ => ?_))
    | (refine keptE_onSpan _ _ _ (fun _ => ?_))
    | (refine keptE_onLane _ _ _ (fun _ _ => ?_))
    | (refine keptE_onRdm _ _ _ _ (fun _ => ?_))
    | (refine keptE_pierControl _ _ _ _ ?_)
    | (exact State.settle_kept _ _ _)
    | (simp; done)
    | (simp [foldl_kept, -List.foldl_reverse]; done)
    | split

@[simp] theorem State.setTap_kept (p : List U8) (s : State) : (State.setTap p s).pending = s.pending ∧
    (State.setTap p s).sys.fuses = s.sys.fuses ∧ (State.setTap p s).sys.boot = s.sys.boot := by
  unfold State.setTap
  split <;> simp

@[simp] theorem State.setHouse_kept (p : List U8) (s : State) : (State.setHouse p s).pending = s.pending ∧
    (State.setHouse p s).sys.fuses = s.sys.fuses ∧ (State.setHouse p s).sys.boot = s.sys.boot := by simp [State.setHouse]

@[simp] theorem State.modLoop_kept (s : State) (fi : Nat) (f : Loop → Loop) :
    (State.modLoop s fi f).pending = s.pending ∧ (State.modLoop s fi f).sys.fuses = s.sys.fuses ∧
        (State.modLoop s fi f).sys.boot = s.sys.boot := by simp [State.modLoop]

@[simp] theorem State.loopState_kept (s : State) (fi : Nat) (f : Fixture) (m : U32) (got : Bool) :
    (State.loopState s fi f m got).pending = s.pending ∧ (State.loopState s fi f m got).sys.fuses = s.sys.fuses ∧
        (State.loopState s fi f m got).sys.boot = s.sys.boot := by simp [State.loopState]

@[simp] theorem State.loopAt_kept (s : State) (m : U32) (fresh : List Reading) (swap : Bool) (x : State × Nat)
    (e : Nat × Fixture) : (State.loopAt s m fresh swap x e).1.pending = x.1.pending ∧
    (State.loopAt s m fresh swap x e).1.sys.fuses = x.1.sys.fuses ∧ (State.loopAt s m fresh swap x e).1.sys.boot = x.1.sys.boot := by
  unfold State.loopAt
  dsimp only
  repeat' (first | (simp; done) | split)

@[simp] theorem State.sensorsAt_kept (s : State) (im : Image) (m : U32) (fresh : List Reading) (swap : Bool) :
    (State.sensorsAt s im m fresh swap).pending = s.pending ∧
    (State.sensorsAt s im m fresh swap).sys.fuses = s.sys.fuses ∧ (State.sensorsAt s im m fresh swap).sys.boot = s.sys.boot := by
  unfold State.sensorsAt
  exact foldl_kept1 _ s (fun x a => State.loopAt_kept _ m fresh swap x a) _ _ ⟨rfl, rfl, rfl⟩

@[simp] theorem State.keepInputs_kept (s : State) (m : U32) : (State.keepInputs s m).pending = s.pending ∧
    (State.keepInputs s m).sys.fuses = s.sys.fuses ∧ (State.keepInputs s m).sys.boot = s.sys.boot := by
  unfold State.keepInputs
  dsimp only
  repeat' (first | (simp; done) | (simp [foldl_kept]; done) | split)

@[simp] theorem State.dropCorr_kept (s : State) (fi : Nat) : (State.dropCorr s fi).pending = s.pending ∧
    (State.dropCorr s fi).sys.fuses = s.sys.fuses ∧ (State.dropCorr s fi).sys.boot = s.sys.boot := by
  unfold State.dropCorr
  dsimp only
  repeat' (first | (simp; done) | (simp [foldl_kept]; done) | split)

@[simp] theorem State.takePosition_kept (s : State) (p : PosRec) : (State.takePosition s p).pending = s.pending ∧
    (State.takePosition s p).sys.fuses = s.sys.fuses ∧
        (State.takePosition s p).sys.boot = s.sys.boot := by simp [State.takePosition, foldl_kept]

@[simp] theorem State.solveHouse_kept (s : State) (im : Image) (m : U32) (e : Nat × Fixture) :
    (State.solveHouse s im m e).pending = s.pending ∧ (State.solveHouse s im m e).sys.fuses = s.sys.fuses ∧
        (State.solveHouse s im m e).sys.boot = s.sys.boot := by
  unfold State.solveHouse
  split <;> simp

@[simp] theorem State.houseJoin_kept (s : State) : (State.houseJoin s).pending = s.pending ∧
    (State.houseJoin s).sys.fuses = s.sys.fuses ∧ (State.houseJoin s).sys.boot = s.sys.boot := by
  unfold State.houseJoin
  dsimp only
  repeat' (first | (simp; done) | (simp [foldl_kept]; done) | split)

@[simp] theorem State.passHouse_kept (s : State) (im : Image) (m : U32) (e : Nat × Fixture) : (State.passHouse s im m e).pending = s.pending ∧
    (State.passHouse s im m e).sys.fuses = s.sys.fuses ∧ (State.passHouse s im m e).sys.boot = s.sys.boot := by
  unfold State.passHouse
  dsimp only
  repeat' (first | (simp; done) | (simp [foldl_kept]; done) | split)

@[simp] theorem State.solveFixture_kept (s : State) (im : Image) (m : U32) (e : Nat × Fixture) :
    (State.solveFixture s im m e).pending = s.pending ∧ (State.solveFixture s im m e).sys.fuses = s.sys.fuses ∧
        (State.solveFixture s im m e).sys.boot = s.sys.boot := by
  unfold State.solveFixture
  split <;> simp

@[simp] theorem State.cmuPass_kept (s : State) (im : Image) (m : U32) : (State.cmuPass s im m).pending = s.pending ∧
    (State.cmuPass s im m).sys.fuses = s.sys.fuses ∧
        (State.cmuPass s im m).sys.boot = s.sys.boot := by simp [State.cmuPass, foldl_kept]

@[simp] theorem State.raiseStop_kept (s : State) (c : Bool) (cause : Nat) (kind : Nat) (m : U32) :
    (State.raiseStop s c cause kind m).pending = s.pending ∧ (State.raiseStop s c cause kind m).sys.fuses = s.sys.fuses ∧
        (State.raiseStop s c cause kind m).sys.boot = s.sys.boot := by simp [State.raiseStop]

@[simp] theorem State.restSettle_kept (s : State) : (State.restSettle s).pending = s.pending ∧
    (State.restSettle s).sys.fuses = s.sys.fuses ∧ (State.restSettle s).sys.boot = s.sys.boot := by
  unfold State.restSettle
  dsimp only
  repeat' (first | (simp; done) | (simp [foldl_kept]; done) | split)

@[simp] theorem State.applyStop_kept (s : State) (m : U32) (k : KStop) : (State.applyStop s m k).pending = s.pending ∧
    (State.applyStop s m k).sys.fuses = s.sys.fuses ∧
        (State.applyStop s m k).sys.boot = s.sys.boot := by simp [State.applyStop]

@[simp] theorem State.applyStops_kept (s : State) (m : U32) : (State.applyStops s m).pending = s.pending ∧
    (State.applyStops s m).sys.fuses = s.sys.fuses ∧
        (State.applyStops s m).sys.boot = s.sys.boot := by simp [State.applyStops, foldl_kept]

@[simp] theorem State.beginCause_kept (s : State) (cause : Nat) (m : U32) :
    (State.beginCause s cause m).pending = s.pending ∧ (State.beginCause s cause m).sys.fuses = s.sys.fuses ∧
        (State.beginCause s cause m).sys.boot = s.sys.boot := by simp [State.beginCause]

@[simp] theorem State.endCause_kept (s : State) (cause : Nat) (m : U32) :
    (State.endCause s cause m).pending = s.pending ∧ (State.endCause s cause m).sys.fuses = s.sys.fuses ∧
        (State.endCause s cause m).sys.boot = s.sys.boot := by simp [State.endCause]

@[simp] theorem State.atRest_kept (s : State) : (State.atRest s).pending = s.pending ∧
    (State.atRest s).sys.fuses = s.sys.fuses ∧ (State.atRest s).sys.boot = s.sys.boot := by simp [State.atRest]

@[simp] theorem State.raiseRest_kept (s : State) (im : Image) (m : U32) : (State.raiseRest s im m).pending = s.pending ∧
    (State.raiseRest s im m).sys.fuses = s.sys.fuses ∧
        (State.raiseRest s im m).sys.boot = s.sys.boot := by simp [State.raiseRest]

@[simp] theorem State.kinPass_kept (s : State) (im : Image) (m : U32) : (State.kinPass s im m).pending = s.pending ∧
    (State.kinPass s im m).sys.fuses = s.sys.fuses ∧ (State.kinPass s im m).sys.boot = s.sys.boot := by simp [State.kinPass]

@[simp] theorem State.renderEnd_kept (s : State) (m : U32) : (State.renderEnd s m).pending = s.pending ∧
    (State.renderEnd s m).sys.fuses = s.sys.fuses ∧ (State.renderEnd s m).sys.boot = s.sys.boot := by
  unfold State.renderEnd
  split <;> simp

@[simp] theorem State.placeKin_kept (s : State) (im : Image) (keep : Nat → Nat → Option Kin) :
    (State.placeKin s im keep).pending = s.pending ∧ (State.placeKin s im keep).sys.fuses = s.sys.fuses ∧
        (State.placeKin s im keep).sys.boot = s.sys.boot := by simp [State.placeKin]

@[simp] theorem State.recomputeKin_kept (s : State) (im : Image) : (s.recomputeKin im).1.pending = s.pending ∧
    (s.recomputeKin im).1.sys.fuses = s.sys.fuses ∧
        (s.recomputeKin im).1.sys.boot = s.sys.boot := by simp [State.recomputeKin]

@[simp] theorem State.setCmu_kept (p : List U8) (s : State) : (State.setCmu p s).pending = s.pending ∧
    (State.setCmu p s).sys.fuses = s.sys.fuses ∧ (State.setCmu p s).sys.boot = s.sys.boot := by simp [State.setCmu]

@[simp] theorem loopControl_kept (q : Req) (s : State) : (loopControl q s).pending = s.pending ∧
    (loopControl q s).sys.fuses = s.sys.fuses ∧ (loopControl q s).sys.boot = s.sys.boot := by
  unfold loopControl
  refine serve_kept _ _ _ _ _ (fun s => ?_)
  dsimp only
  repeat' first
    | (refine KeptE.trans ?_ (State.settle_kept _ _ _))
    | (refine keptE_require _ _ _ _ ?_)
    | (refine keptE_bulkLength _ _ _ _ ?_)
    | (refine keptE_withBulk _ _ _ _ _ (fun _ => ?_))
    | (refine keptE_onSpan _ _ _ (fun _ => ?_))
    | (refine keptE_onLane _ _ _ (fun _ _ => ?_))
    | (refine keptE_onRdm _ _ _ _ (fun _ => ?_))
    | (refine keptE_pierControl _ _ _ _ ?_)
    | (exact State.settle_kept _ _ _)
    | (simp; done)
    | (simp [foldl_kept, -List.foldl_reverse]; done)
    | split

@[simp] theorem kineticStop_kept (q : Req) (s : State) : (kineticStop q s).pending = s.pending ∧
    (kineticStop q s).sys.fuses = s.sys.fuses ∧ (kineticStop q s).sys.boot = s.sys.boot := by
  unfold kineticStop
  refine serve_kept _ _ _ _ _ (fun s => ?_)
  dsimp only
  repeat' first
    | (refine KeptE.trans ?_ (State.settle_kept _ _ _))
    | (refine keptE_require _ _ _ _ ?_)
    | (refine keptE_bulkLength _ _ _ _ ?_)
    | (refine keptE_withBulk _ _ _ _ _ (fun _ => ?_))
    | (refine keptE_onSpan _ _ _ (fun _ => ?_))
    | (refine keptE_onLane _ _ _ (fun _ _ => ?_))
    | (refine keptE_onRdm _ _ _ _ (fun _ => ?_))
    | (refine keptE_pierControl _ _ _ _ ?_)
    | (exact State.settle_kept _ _ _)
    | (simp; done)
    | (simp [foldl_kept, -List.foldl_reverse]; done)
    | split

@[simp] theorem State.deckRead_kept (s : State) (f : U32) (a n requester : Nat) : (State.deckRead s f a n requester).pending = s.pending ∧
    (State.deckRead s f a n requester).sys.fuses = s.sys.fuses ∧ (State.deckRead s f a n requester).sys.boot = s.sys.boot := by
  unfold State.deckRead
  repeat' (first
    | (simp [foldl_kept]; done)
    | split
    | (refine foldl_into _ (fun _ _ => ?_) _ ?_)
    | dsimp only)

@[simp] theorem State.deckBoundary_kept (s : State) : (State.deckBoundary s).pending = s.pending ∧
    (State.deckBoundary s).sys.fuses = s.sys.fuses ∧ (State.deckBoundary s).sys.boot = s.sys.boot := by
  unfold State.deckBoundary
  dsimp only
  repeat' (first | (simp; done) | (simp [foldl_kept]; done) | split)

@[simp] theorem State.cmuReads_kept (s : State) (im : Image) (f : U32) : (State.cmuReads s im f).pending = s.pending ∧
    (State.cmuReads s im f).sys.fuses = s.sys.fuses ∧ (State.cmuReads s im f).sys.boot = s.sys.boot := by
  unfold State.cmuReads
  repeat' (first
    | (simp [foldl_kept]; done)
    | split
    | (refine foldl_into _ (fun _ _ => ?_) _ ?_)
    | dsimp only)

@[simp] theorem State.packReads_kept (s : State) (im : Image) (route : Nat) (r : Route) (f : U32) : (State.packReads s im route r f).pending = s.pending ∧
    (State.packReads s im route r f).sys.fuses = s.sys.fuses ∧ (State.packReads s im route r f).sys.boot = s.sys.boot := by
  unfold State.packReads
  repeat' (first
    | (simp [foldl_kept]; done)
    | split
    | (refine foldl_into _ (fun _ _ => ?_) _ ?_)
    | dsimp only)

@[simp] theorem State.modIngest_kept (s : State) (k : Fin 8) (f : Ingest → Ingest) :
    (State.modIngest s k f).pending = s.pending ∧ (State.modIngest s k f).sys.fuses = s.sys.fuses ∧
        (State.modIngest s k f).sys.boot = s.sys.boot := by simp [State.modIngest]

@[simp] theorem State.sourceBegin_kept (s : State) (k : Fin 8) (rtp : U32) (media : Int) :
    (State.sourceBegin s k rtp media).pending = s.pending ∧ (State.sourceBegin s k rtp media).sys.fuses = s.sys.fuses ∧
        (State.sourceBegin s k rtp media).sys.boot = s.sys.boot := by
  unfold State.sourceBegin
  dsimp only
  split <;> simp

@[simp] theorem State.sourceLines_kept (s : State) (k : Fin 8) (lines : Nat) (last : Bool) :
    (State.sourceLines s k lines last).pending = s.pending ∧ (State.sourceLines s k lines last).sys.fuses = s.sys.fuses ∧
        (State.sourceLines s k lines last).sys.boot = s.sys.boot := by
  unfold State.sourceLines
  (try simp only [])
  repeat' first
    | (simp; done)
    | (simp [foldl_kept, -List.foldl_reverse]; done)
    | split
    | (refine foldl_kept _ (fun _ _ => ?_) _ _)
    | (dsimp only)

@[simp] theorem State.sourceRows_kept (s : State) (k : Fin 8) (rows : List VideoRow) : (State.sourceRows s k rows).pending = s.pending ∧
    (State.sourceRows s k rows).sys.fuses = s.sys.fuses ∧ (State.sourceRows s k rows).sys.boot = s.sys.boot := by
  unfold State.sourceRows
  dsimp only
  repeat' (first | (simp; done) | (simp [foldl_kept]; done) | split)

@[simp] theorem State.sourceAbandon_kept (s : State) (k : Fin 8) : (State.sourceAbandon s k).pending = s.pending ∧
    (State.sourceAbandon s k).sys.fuses = s.sys.fuses ∧ (State.sourceAbandon s k).sys.boot = s.sys.boot := by
  unfold State.sourceAbandon
  split <;> simp

@[simp] theorem State.bandDone_kept (s : State) (arg : Nat) : (State.bandDone s arg).pending = s.pending ∧
    (State.bandDone s arg).sys.fuses = s.sys.fuses ∧ (State.bandDone s arg).sys.boot = s.sys.boot := by
  unfold State.bandDone
  repeat' (first
    | (simp [foldl_kept]; done)
    | split
    | (refine foldl_into _ (fun _ _ => ?_) _ ?_)
    | dsimp only)

@[simp] theorem State.captureOne_kept (s : State) (m : U32) (k : Fin 8) : (State.captureOne s m k).pending = s.pending ∧
    (State.captureOne s m k).sys.fuses = s.sys.fuses ∧ (State.captureOne s m k).sys.boot = s.sys.boot := by
  unfold State.captureOne
  dsimp only
  repeat' split
  all_goals simp

@[simp] theorem State.capture_kept (s : State) (m : U32) : (State.capture s m).pending = s.pending ∧
    (State.capture s m).sys.fuses = s.sys.fuses ∧
        (State.capture s m).sys.boot = s.sys.boot := by simp [State.capture, foldl_kept]

@[simp] theorem State.modRaster_kept (s : State) (re : Fin 4) (f : Raster → Raster) :
    (State.modRaster s re f).pending = s.pending ∧ (State.modRaster s re f).sys.fuses = s.sys.fuses ∧
        (State.modRaster s re f).sys.boot = s.sys.boot := by simp [State.modRaster]

@[simp] theorem State.rasterSend_kept (s : State) (re : Fin 4) (f : U32) (type : U16) (payload : List U8) :
    (State.rasterSend s re f type payload).pending = s.pending ∧
        (State.rasterSend s re f type payload).sys.fuses = s.sys.fuses ∧
            (State.rasterSend s re f type payload).sys.boot = s.sys.boot := by
  unfold State.rasterSend
  split <;> simp

@[simp] theorem State.releaseCopies_kept (s : State) : (State.releaseCopies s).pending = s.pending ∧
    (State.releaseCopies s).sys.fuses = s.sys.fuses ∧
        (State.releaseCopies s).sys.boot = s.sys.boot := by simp [State.releaseCopies, foldl_kept]

@[simp] theorem State.rasterBegin_kept (s : State) (re : Fin 4) (r : U32) :
    (State.rasterBegin s re r).pending = s.pending ∧ (State.rasterBegin s re r).sys.fuses = s.sys.fuses ∧
        (State.rasterBegin s re r).sys.boot = s.sys.boot := by
  unfold State.rasterBegin
  dsimp only
  repeat' split
  all_goals simp

@[simp] theorem State.abortRasters_kept (s : State) (d : U32) : (State.abortRasters s d).pending = s.pending ∧
    (State.abortRasters s d).sys.fuses = s.sys.fuses ∧ (State.abortRasters s d).sys.boot = s.sys.boot := by
  unfold State.abortRasters
  dsimp only
  rw [(State.releaseCopies_kept _).1, (State.releaseCopies_kept _).2.1, (State.releaseCopies_kept _).2.2]
  refine foldl_kept _ (fun _ _ => ?_) _ _
  repeat' first
    | (simp; done)
    | (simp [foldl_kept, -List.foldl_reverse]; done)
    | split
    | (refine foldl_kept _ (fun _ _ => ?_) _ _)
    | (dsimp only)

@[simp] theorem State.lineReads_kept (s : State) (im : Image) (re : Fin 4) (f : U32) (half1 : Bool) (y : Nat) : (State.lineReads s im re f half1 y).pending = s.pending ∧
    (State.lineReads s im re f half1 y).sys.fuses = s.sys.fuses ∧ (State.lineReads s im re f half1 y).sys.boot = s.sys.boot := by
  unfold State.lineReads
  repeat' (first
    | (simp [foldl_kept]; done)
    | split
    | (refine foldl_into _ (fun _ _ => ?_) _ ?_)
    | dsimp only)

@[simp] theorem State.underImage_kept (s : State) (m : U32) (f : State → State) (hf : ∀ t, (f t).pending = t.pending ∧
    (f t).sys.fuses = t.sys.fuses ∧ (f t).sys.boot = t.sys.boot) :
    (s.underImage m f).pending = s.pending ∧ (s.underImage m f).sys.fuses = s.sys.fuses ∧
        (s.underImage m f).sys.boot = s.sys.boot := by
  simp [State.underImage, hf]

@[simp] theorem State.layerUnderrun_kept (s : State) (re : Fin 4) (mask : BitVec 4) (f : U32) :
    (State.layerUnderrun s re mask f).pending = s.pending ∧ (State.layerUnderrun s re mask f).sys.fuses = s.sys.fuses ∧
        (State.layerUnderrun s re mask f).sys.boot = s.sys.boot := by simp [State.layerUnderrun, foldl_kept]

@[simp] theorem State.rasterEnd_kept (s : State) (re : Fin 4) (t : Transfer) :
    (State.rasterEnd s re t).pending = s.pending ∧ (State.rasterEnd s re t).sys.fuses = s.sys.fuses ∧
        (State.rasterEnd s re t).sys.boot = s.sys.boot := by simp [State.rasterEnd]

@[simp] theorem State.lineSend_kept (s : State) (re : Fin 4) (t : Transfer) (p : List U8) :
    (State.lineSend s re t p).pending = s.pending ∧ (State.lineSend s re t p).sys.fuses = s.sys.fuses ∧
        (State.lineSend s re t p).sys.boot = s.sys.boot := by simp [State.lineSend]

@[simp] theorem State.lineOf_kept (s : State) (re : Fin 4) (t : Transfer) (under : List (Nat × BitVec 4)) (f : U32) : (State.lineOf s re t under f).pending = s.pending ∧
    (State.lineOf s re t under f).sys.fuses = s.sys.fuses ∧ (State.lineOf s re t under f).sys.boot = s.sys.boot := by
  unfold State.lineOf
  repeat' (first
    | (simp [foldl_kept]; done)
    | split
    | (refine foldl_into _ (fun _ _ => ?_) _ ?_)
    | dsimp only)

@[simp] theorem State.rasterLine_kept (s : State) (re : Fin 4) (t : Transfer) (under : List (Nat × BitVec 4)) (bad : Bool) : (State.rasterLine s re t under bad).pending = s.pending ∧
    (State.rasterLine s re t under bad).sys.fuses = s.sys.fuses ∧ (State.rasterLine s re t under bad).sys.boot = s.sys.boot := by
  unfold State.rasterLine
  repeat' (first
    | (simp [foldl_kept]; done)
    | split
    | (refine foldl_into _ (fun _ _ => ?_) _ ?_)
    | dsimp only)

@[simp] theorem State.rasterCopy_kept (s : State) (re : Fin 4) : (State.rasterCopy s re).pending = s.pending ∧
    (State.rasterCopy s re).sys.fuses = s.sys.fuses ∧
        (State.rasterCopy s re).sys.boot = s.sys.boot := by simp [State.rasterCopy]

@[simp] theorem State.setIngest_kept (p : List U8) (s : State) : (State.setIngest p s).pending = s.pending ∧
    (State.setIngest p s).sys.fuses = s.sys.fuses ∧ (State.setIngest p s).sys.boot = s.sys.boot := by
  unfold State.setIngest
  split <;> simp

@[simp] theorem State.modQueue_kept (s : State) (n : Nat) (f : Queue → Queue) :
    (State.modQueue s n f).pending = s.pending ∧ (State.modQueue s n f).sys.fuses = s.sys.fuses ∧
        (State.modQueue s n f).sys.boot = s.sys.boot := by simp [State.modQueue]

@[simp] theorem State.queuePut_kept (s : State) (n : Nat) (f : PoolFrame) : (State.queuePut s n f).pending = s.pending ∧
    (State.queuePut s n f).sys.fuses = s.sys.fuses ∧
        (State.queuePut s n f).sys.boot = s.sys.boot := by simp [State.queuePut]

@[simp] theorem State.queueDrop_kept (s : State) (n : Nat) : (State.queueDrop s n).pending = s.pending ∧
    (State.queueDrop s n).sys.fuses = s.sys.fuses ∧ (State.queueDrop s n).sys.boot = s.sys.boot := by simp [State.queueDrop]

@[simp] theorem State.modEth_kept (s : State) (n : Fin 4) (f : Eth → Eth) : (State.modEth s n f).pending = s.pending ∧
    (State.modEth s n f).sys.fuses = s.sys.fuses ∧ (State.modEth s n f).sys.boot = s.sys.boot := by simp [State.modEth]

@[simp] theorem State.ethSend_kept (s : State) (n : Fin 4) (cls : Nat) (f : PoolFrame) :
    (State.ethSend s n cls f).pending = s.pending ∧ (State.ethSend s n cls f).sys.fuses = s.sys.fuses ∧
        (State.ethSend s n cls f).sys.boot = s.sys.boot := by simp [State.ethSend]

@[simp] theorem State.drainWait_kept (s : State) (n : Fin 4) : (State.drainWait s n).pending = s.pending ∧
    (State.drainWait s n).sys.fuses = s.sys.fuses ∧
        (State.drainWait s n).sys.boot = s.sys.boot := by simp [State.drainWait, foldl_kept]

@[simp] theorem State.ethPut_kept (s : State) (n : Fin 4) (cls : Nat) (bytes : List U8) : (State.ethPut s n cls bytes).pending = s.pending ∧
    (State.ethPut s n cls bytes).sys.fuses = s.sys.fuses ∧ (State.ethPut s n cls bytes).sys.boot = s.sys.boot := by
  unfold State.ethPut
  repeat' (first
    | (simp [foldl_kept]; done)
    | split
    | (refine foldl_into _ (fun _ _ => ?_) _ ?_)
    | dsimp only)

@[simp] theorem State.ethUdp_kept (s : State) (n : Fin 4) (cls : Nat) (dst : U32) (sport dport : U16) (body : List U8) : (State.ethUdp s n cls dst sport dport body).pending = s.pending ∧
    (State.ethUdp s n cls dst sport dport body).sys.fuses = s.sys.fuses ∧ (State.ethUdp s n cls dst sport dport body).sys.boot = s.sys.boot := by
  unfold State.ethUdp
  repeat' (first
    | (simp [foldl_kept]; done)
    | split
    | (refine foldl_into _ (fun _ _ => ?_) _ ?_)
    | dsimp only)

@[simp] theorem State.closeFragment_kept (s : State) (n : Fin 4) : (State.closeFragment s n).pending = s.pending ∧
    (State.closeFragment s n).sys.fuses = s.sys.fuses ∧ (State.closeFragment s n).sys.boot = s.sys.boot := by
  unfold State.closeFragment
  dsimp only
  repeat' split
  all_goals simp

@[simp] theorem State.txtsPut_kept (s : State) (n : Fin 4) (t : Txts) : (State.txtsPut s n t).pending = s.pending ∧
    (State.txtsPut s n t).sys.fuses = s.sys.fuses ∧ (State.txtsPut s n t).sys.boot = s.sys.boot := by simp [State.txtsPut]

@[simp] theorem State.stampFrame_kept (s : State) (n : Fin 4) (f : PoolFrame) :
    (State.stampFrame s n f).pending = s.pending ∧ (State.stampFrame s n f).sys.fuses = s.sys.fuses ∧
        (State.stampFrame s n f).sys.boot = s.sys.boot := by
  unfold State.stampFrame
  split <;> simp

@[simp] theorem State.modPtp_kept (s : State) (n : Fin 4) (f : PtpPort → PtpPort) :
    (State.modPtp s n f).pending = s.pending ∧ (State.modPtp s n f).sys.fuses = s.sys.fuses ∧
        (State.modPtp s n f).sys.boot = s.sys.boot := by simp [State.modPtp]

@[simp] theorem State.ptpSend_kept (s : State) (n : Fin 4) (m : PtpOut) : (State.ptpSend s n m).pending = s.pending ∧
    (State.ptpSend s n m).sys.fuses = s.sys.fuses ∧ (State.ptpSend s n m).sys.boot = s.sys.boot := by
  unfold State.ptpSend
  repeat' (first
    | (simp [foldl_kept]; done)
    | split
    | (refine foldl_into _ (fun _ _ => ?_) _ ?_)
    | dsimp only)

@[simp] theorem State.ptpLeft_kept (s : State) (n : Fin 4) (f : PoolFrame) : (State.ptpLeft s n f).pending = s.pending ∧
    (State.ptpLeft s n f).sys.fuses = s.sys.fuses ∧ (State.ptpLeft s n f).sys.boot = s.sys.boot := by
  unfold State.ptpLeft
  repeat' (first
    | (simp [foldl_kept]; done)
    | split
    | (refine foldl_into _ (fun _ _ => ?_) _ ?_)
    | dsimp only)

@[simp] theorem State.beginFrame_kept (s : State) (n : Fin 4) (cls : Nat) (f : PoolFrame) :
    (State.beginFrame s n cls f).pending = s.pending ∧ (State.beginFrame s n cls f).sys.fuses = s.sys.fuses ∧
        (State.beginFrame s n cls f).sys.boot = s.sys.boot := by simp [State.beginFrame]

@[simp] theorem State.ethTransmit_kept (s : State) (n : Fin 4) : (State.ethTransmit s n).pending = s.pending ∧
    (State.ethTransmit s n).sys.fuses = s.sys.fuses ∧ (State.ethTransmit s n).sys.boot = s.sys.boot := by
  unfold State.ethTransmit
  repeat' split
  all_goals simp

@[simp] theorem State.endHold_kept (s : State) (n : Fin 4) (end_ : Nat) : (State.endHold s n end_).pending = s.pending ∧
    (State.endHold s n end_).sys.fuses = s.sys.fuses ∧
        (State.endHold s n end_).sys.boot = s.sys.boot := by simp [State.endHold]

@[simp] theorem State.pauseRx_kept (s : State) (n : Fin 4) (q : Nat) : (State.pauseRx s n q).pending = s.pending ∧
    (State.pauseRx s n q).sys.fuses = s.sys.fuses ∧ (State.pauseRx s n q).sys.boot = s.sys.boot := by
  unfold State.pauseRx
  dsimp only
  repeat' split
  all_goals simp

@[simp] theorem State.sendPause_kept (s : State) (n : Fin 4) (q : Nat) : (State.sendPause s n q).pending = s.pending ∧
    (State.sendPause s n q).sys.fuses = s.sys.fuses ∧
        (State.sendPause s n q).sys.boot = s.sys.boot := by simp [State.sendPause]

@[simp] theorem State.pauseCheck_kept (s : State) (n : Fin 4) : (State.pauseCheck s n).pending = s.pending ∧
    (State.pauseCheck s n).sys.fuses = s.sys.fuses ∧
        (State.pauseCheck s n).sys.boot = s.sys.boot := by simp [State.pauseCheck]

@[simp] theorem State.rxPut_kept (s : State) (n : Fin 4) (q : Nat) (f : PoolFrame) :
    (State.rxPut s n q f).pending = s.pending ∧ (State.rxPut s n q f).sys.fuses = s.sys.fuses ∧
        (State.rxPut s n q f).sys.boot = s.sys.boot := by simp [State.rxPut]

@[simp] theorem State.rxTake_kept (s : State) (n : Fin 4) (q : Nat) : (State.rxTake s n q).pending = s.pending ∧
    (State.rxTake s n q).sys.fuses = s.sys.fuses ∧ (State.rxTake s n q).sys.boot = s.sys.boot := by simp [State.rxTake]

@[simp] theorem State.igmpUpdate_kept (s : State) (n : Fin 4) : (State.igmpUpdate s n).pending = s.pending ∧
    (State.igmpUpdate s n).sys.fuses = s.sys.fuses ∧ (State.igmpUpdate s n).sys.boot = s.sys.boot := by
  unfold State.igmpUpdate
  dsimp only
  repeat' (first | (simp; done) | (simp [foldl_kept]; done) | split)

@[simp] theorem State.igmpAll_kept (s : State) : (State.igmpAll s).pending = s.pending ∧
    (State.igmpAll s).sys.fuses = s.sys.fuses ∧ (State.igmpAll s).sys.boot = s.sys.boot := by
  unfold State.igmpAll
  repeat' (first
    | (simp [foldl_kept]; done)
    | split
    | (refine foldl_into _ (fun _ _ => ?_) _ ?_)
    | dsimp only)

@[simp] theorem State.ethReceive_kept (s : State) (x : EthRx) : (State.ethReceive s x).pending = s.pending ∧
    (State.ethReceive s x).sys.fuses = s.sys.fuses ∧ (State.ethReceive s x).sys.boot = s.sys.boot := by
  unfold State.ethReceive
  dsimp only
  repeat' split
  all_goals simp

@[simp] theorem State.dropTx_kept (s : State) (n : Fin 4) (cls : Nat) : (State.dropTx s n cls).pending = s.pending ∧
    (State.dropTx s n cls).sys.fuses = s.sys.fuses ∧
        (State.dropTx s n cls).sys.boot = s.sys.boot := by simp [State.dropTx, foldl_kept]

@[simp] theorem State.startVerify_kept (s : State) (n : Fin 4) : (State.startVerify s n).pending = s.pending ∧
    (State.startVerify s n).sys.fuses = s.sys.fuses ∧
        (State.startVerify s n).sys.boot = s.sys.boot := by simp [State.startVerify]

@[simp] theorem State.ethDown_kept (s : State) (n : Fin 4) : (State.ethDown s n).pending = s.pending ∧
    (State.ethDown s n).sys.fuses = s.sys.fuses ∧
        (State.ethDown s n).sys.boot = s.sys.boot := by simp [State.ethDown, foldl_kept]

@[simp] theorem State.ethUp_kept (s : State) (n : Fin 4) (speed : Nat) : (State.ethUp s n speed).pending = s.pending ∧
    (State.ethUp s n speed).sys.fuses = s.sys.fuses ∧ (State.ethUp s n speed).sys.boot = s.sys.boot := by simp [State.ethUp]

@[simp] theorem State.setEth_kept (p : List U8) (s : State) : (State.setEth p s).pending = s.pending ∧
    (State.setEth p s).sys.fuses = s.sys.fuses ∧ (State.setEth p s).sys.boot = s.sys.boot := by
  unfold State.setEth
  split <;> simp

@[simp] theorem State.setHostch_kept (s : State) (n : Fin 4) (c : HostchCfg) :
    (State.setHostch s n c).pending = s.pending ∧ (State.setHostch s n c).sys.fuses = s.sys.fuses ∧
        (State.setHostch s n c).sys.boot = s.sys.boot := by simp [State.setHostch]

@[simp] theorem State.hcRxTail_kept (s : State) (n : Fin 4) (tail : U16) :
    (State.hcRxTail s n tail).pending = s.pending ∧ (State.hcRxTail s n tail).sys.fuses = s.sys.fuses ∧
        (State.hcRxTail s n tail).sys.boot = s.sys.boot := by simp [State.hcRxTail]

@[simp] theorem State.hcTxTail_kept (s : State) (n : Fin 4) (tail : U16) :
    (State.hcTxTail s n tail).pending = s.pending ∧ (State.hcTxTail s n tail).sys.fuses = s.sys.fuses ∧
        (State.hcTxTail s n tail).sys.boot = s.sys.boot := by simp [State.hcTxTail]

@[simp] theorem State.hostchIrq_kept (s : State) (n : Fin 4) : (State.hostchIrq s n).pending = s.pending ∧
    (State.hostchIrq s n).sys.fuses = s.sys.fuses ∧ (State.hostchIrq s n).sys.boot = s.sys.boot := by simp [State.hostchIrq]

@[simp] theorem State.placeFrame_kept (s : State) (n : Fin 4) (f : PoolFrame) (parts : List (RxDesc × List U8)) :
    (State.placeFrame s n f parts).pending = s.pending ∧ (State.placeFrame s n f parts).sys.fuses = s.sys.fuses ∧
        (State.placeFrame s n f parts).sys.boot = s.sys.boot := by simp [State.placeFrame, foldl_kept]

@[simp] theorem State.txWriteBack_kept (s : State) (n : Fin 4) (ds : List TxDesc) (error : Bool) :
    (State.txWriteBack s n ds error).pending = s.pending ∧ (State.txWriteBack s n ds error).sys.fuses = s.sys.fuses ∧
        (State.txWriteBack s n ds error).sys.boot = s.sys.boot := by simp [State.txWriteBack, foldl_kept]

@[simp] theorem State.raisePtp_kept (s : State) (n : Fin 4) : (State.raisePtp s n).pending = s.pending ∧
    (State.raisePtp s n).sys.fuses = s.sys.fuses ∧ (State.raisePtp s n).sys.boot = s.sys.boot := by simp [State.raisePtp]

@[simp] theorem State.ptpTo_kept (s : State) (n : Fin 4) (st : Nat) : (State.ptpTo s n st).pending = s.pending ∧
    (State.ptpTo s n st).sys.fuses = s.sys.fuses ∧ (State.ptpTo s n st).sys.boot = s.sys.boot := by simp [State.ptpTo]

@[simp] theorem State.setParent_kept (s : State) (p : Option (U64 × U16 × PtpData)) (n : Fin 4) :
    (State.setParent s p n).pending = s.pending ∧ (State.setParent s p n).sys.fuses = s.sys.fuses ∧
        (State.setParent s p n).sys.boot = s.sys.boot := by simp [State.setParent]

@[simp] theorem State.takeRecommendation_kept (best : Option (Fin 4 × Foreign)) (s : State) (n : Fin 4) :
    (State.takeRecommendation best s n).pending = s.pending ∧
        (State.takeRecommendation best s n).sys.fuses = s.sys.fuses ∧
            (State.takeRecommendation best s n).sys.boot = s.sys.boot := by
  unfold State.takeRecommendation
  split <;> simp

@[simp] theorem State.bmca_kept (s : State) : (State.bmca s).pending = s.pending ∧
    (State.bmca s).sys.fuses = s.sys.fuses ∧ (State.bmca s).sys.boot = s.sys.boot := by
  unfold State.bmca
  (try simp only [])
  repeat' first
    | (simp; done)
    | (simp [foldl_kept, -List.foldl_reverse]; done)
    | split
    | (refine foldl_kept _ (fun _ _ => ?_) _ _)
    | (dsimp only)

@[simp] theorem State.ptpSample_kept (s : State) (n : Fin 4) (t1 t2 : Int) : (State.ptpSample s n t1 t2).pending = s.pending ∧
    (State.ptpSample s n t1 t2).sys.fuses = s.sys.fuses ∧ (State.ptpSample s n t1 t2).sys.boot = s.sys.boot := by
  unfold State.ptpSample
  repeat' (first
    | (simp [foldl_kept]; done)
    | split
    | (refine foldl_into _ (fun _ _ => ?_) _ ?_)
    | dsimp only)

@[simp] theorem State.ptpDelay_kept (s : State) (d : Int) : (State.ptpDelay s d).pending = s.pending ∧
    (State.ptpDelay s d).sys.fuses = s.sys.fuses ∧ (State.ptpDelay s d).sys.boot = s.sys.boot := by simp [State.ptpDelay]

@[simp] theorem State.peerDelay_kept (s : State) (n : Fin 4) (t1 : Int) (t4 : Int) (turn : Int) (corr : Int) :
    (State.peerDelay s n t1 t4 turn corr).pending = s.pending ∧
        (State.peerDelay s n t1 t4 turn corr).sys.fuses = s.sys.fuses ∧
            (State.peerDelay s n t1 t4 turn corr).sys.boot = s.sys.boot := by simp [State.peerDelay]

@[simp] theorem State.setPtp_kept (p : List U8) (s : State) : (State.setPtp p s).pending = s.pending ∧
    (State.setPtp p s).sys.fuses = s.sys.fuses ∧
        (State.setPtp p s).sys.boot = s.sys.boot := by simp [State.setPtp, foldl_kept]

theorem State.ptpRead_kept (s : State) (n : Fin 4) (f : Int → State → State) (hf : ∀ t2 t, (f t2 t).pending = t.pending ∧
    (f t2 t).sys.fuses = t.sys.fuses ∧ (f t2 t).sys.boot = t.sys.boot) :
    (s.ptpRead n f).pending = s.pending ∧
    (s.ptpRead n f).sys.fuses = s.sys.fuses ∧ (s.ptpRead n f).sys.boot = s.sys.boot := by
  unfold State.ptpRead
  dsimp only
  split <;> simp [hf]

theorem ptpRead_into {s t : State} (n : Fin 4) (f : Int → State → State) (e : t.pending = s.pending ∧
    t.sys.fuses = s.sys.fuses ∧ t.sys.boot = s.sys.boot) (hf : ∀ t2 t, (f t2 t).pending = t.pending ∧
    (f t2 t).sys.fuses = t.sys.fuses ∧ (f t2 t).sys.boot = t.sys.boot) :
    (t.ptpRead n f).pending = s.pending ∧
    (t.ptpRead n f).sys.fuses = s.sys.fuses ∧ (t.ptpRead n f).sys.boot = s.sys.boot := by
  have k := State.ptpRead_kept t n f hf
  exact ⟨k.1.trans e.1, k.2.1.trans e.2.1, k.2.2.trans e.2.2⟩

@[simp] theorem State.streamBack_kept (s : State) (video : Bool) (i : Nat) (was : Media) :
    (State.streamBack s video i was).pending = s.pending ∧ (State.streamBack s video i was).sys.fuses = s.sys.fuses ∧
        (State.streamBack s video i was).sys.boot = s.sys.boot := by simp [State.streamBack]

@[simp] theorem State.modAes_kept (s : State) (i : Fin 16) (f : Media → Media) :
    (State.modAes s i f).pending = s.pending ∧ (State.modAes s i f).sys.fuses = s.sys.fuses ∧
        (State.modAes s i f).sys.boot = s.sys.boot := by simp [State.modAes]

@[simp] theorem State.tapSample_kept (s : State) (i : Fin 16) (rate : Nat) (k : Nat) (vals : List Int) :
    (State.tapSample s i rate k vals).pending = s.pending ∧ (State.tapSample s i rate k vals).sys.fuses = s.sys.fuses ∧
        (State.tapSample s i rate k vals).sys.boot = s.sys.boot := by
  unfold State.tapSample
  (try simp only [])
  repeat' first
    | (simp; done)
    | (simp [foldl_kept, -List.foldl_reverse]; done)
    | split
    | (refine foldl_kept _ (fun _ _ => ?_) _ _)
    | (dsimp only)

@[simp] theorem State.modVideo_kept (s : State) (i : Fin 8) (f : Media → Media) :
    (State.modVideo s i f).pending = s.pending ∧ (State.modVideo s i f).sys.fuses = s.sys.fuses ∧
        (State.modVideo s i f).sys.boot = s.sys.boot := by simp [State.modVideo]

@[simp] theorem State.videoAbandon_kept (s : State) (i : Fin 8) : (State.videoAbandon s i).pending = s.pending ∧
    (State.videoAbandon s i).sys.fuses = s.sys.fuses ∧
        (State.videoAbandon s i).sys.boot = s.sys.boot := by simp [State.videoAbandon]

@[simp] theorem State.videoBegin_kept (s : State) (i : Fin 8) (p : VideoPacket) (at_ : Int) : (State.videoBegin s i p at_).pending = s.pending ∧
    (State.videoBegin s i p at_).sys.fuses = s.sys.fuses ∧ (State.videoBegin s i p at_).sys.boot = s.sys.boot := by
  unfold State.videoBegin
  dsimp only
  repeat' (first | (simp; done) | (simp [foldl_kept]; done) | split)

@[simp] theorem State.videoPacket_kept (s : State) (i : Fin 8) (p : VideoPacket) (at_ : Int) : (State.videoPacket s i p at_).pending = s.pending ∧
    (State.videoPacket s i p at_).sys.fuses = s.sys.fuses ∧ (State.videoPacket s i p at_).sys.boot = s.sys.boot := by
  unfold State.videoPacket
  repeat' (first
    | (simp [foldl_kept]; done)
    | split
    | (refine foldl_into _ (fun _ _ => ?_) _ ?_)
    | dsimp only)

@[simp] theorem State.setStream_kept (p : List U8) (s : State) : (State.setStream p s).pending = s.pending ∧
    (State.setStream p s).sys.fuses = s.sys.fuses ∧ (State.setStream p s).sys.boot = s.sys.boot := by
  unfold State.setStream
  dsimp only
  repeat' split
  all_goals simp

@[simp] theorem State.modPair_kept (s : State) (p : Fin 32) (f : Pair → Pair) :
    (State.modPair s p f).pending = s.pending ∧ (State.modPair s p f).sys.fuses = s.sys.fuses ∧
        (State.modPair s p f).sys.boot = s.sys.boot := by simp [State.modPair]

@[simp] theorem State.portLeads_kept (s : State) : (State.portLeads s).pending = s.pending ∧
    (State.portLeads s).sys.fuses = s.sys.fuses ∧ (State.portLeads s).sys.boot = s.sys.boot := by
  unfold State.portLeads
  (try simp only [])
  repeat' first
    | (simp; done)
    | (simp [foldl_kept, -List.foldl_reverse]; done)
    | split
    | (refine foldl_kept _ (fun _ _ => ?_) _ _)
    | (dsimp only)

@[simp] theorem State.pairSent_kept (s : State) (p : Fin 32) (m : U32) (late : Bool) (n : Nat := 1) : (State.pairSent s p m late n).pending = s.pending ∧
    (State.pairSent s p m late n).sys.fuses = s.sys.fuses ∧ (State.pairSent s p m late n).sys.boot = s.sys.boot := by
  unfold State.pairSent
  repeat' (first
    | (simp [foldl_kept]; done)
    | split
    | (refine foldl_into _ (fun _ _ => ?_) _ ?_)
    | dsimp only)

@[simp] theorem State.dmxBegin_kept (s : State) (p : Fin 32) (frame : Option U32) (slots : List U8) :
    (State.dmxBegin s p frame slots).pending = s.pending ∧ (State.dmxBegin s p frame slots).sys.fuses = s.sys.fuses ∧
        (State.dmxBegin s p frame slots).sys.boot = s.sys.boot := by simp [State.dmxBegin]

@[simp] theorem State.dmxIdle_kept (s : State) (p : Fin 32) (r : Route) (d : Nat) :
    (State.dmxIdle s p r d).pending = s.pending ∧ (State.dmxIdle s p r d).sys.fuses = s.sys.fuses ∧
        (State.dmxIdle s p r d).sys.boot = s.sys.boot := by simp [State.dmxIdle]

@[simp] theorem State.dmxStart_kept (s : State) (p : Fin 32) : (State.dmxStart s p).pending = s.pending ∧
    (State.dmxStart s p).sys.fuses = s.sys.fuses ∧ (State.dmxStart s p).sys.boot = s.sys.boot := by
  unfold State.dmxStart
  dsimp only
  repeat' split
  all_goals simp

@[simp] theorem State.stringShift_kept (s : State) (pin : Fin 64) (r : Route) (x : Nat) (slots : List U8) : (State.stringShift s pin r x slots).pending = s.pending ∧
    (State.stringShift s pin r x slots).sys.fuses = s.sys.fuses ∧ (State.stringShift s pin r x slots).sys.boot = s.sys.boot := by
  unfold State.stringShift
  dsimp only
  repeat' (first | (simp; done) | (simp [foldl_kept]; done) | split)

@[simp] theorem State.stringSend_kept (s : State) (pin : Fin 64) (mode : U8) :
    (State.stringSend s pin mode).pending = s.pending ∧ (State.stringSend s pin mode).sys.fuses = s.sys.fuses ∧
        (State.stringSend s pin mode).sys.boot = s.sys.boot := by
  unfold State.stringSend
  dsimp only
  repeat' split
  all_goals simp

@[simp] theorem State.pwmLatch_kept (s : State) (pin : Fin 64) : (State.pwmLatch s pin).pending = s.pending ∧
    (State.pwmLatch s pin).sys.fuses = s.sys.fuses ∧ (State.pwmLatch s pin).sys.boot = s.sys.boot := by
  unfold State.pwmLatch
  repeat' (first
    | (simp [foldl_kept]; done)
    | split
    | (refine foldl_into _ (fun _ _ => ?_) _ ?_)
    | dsimp only)

@[simp] theorem State.pwmStart_kept (s : State) (pin : Fin 64) : (State.pwmStart s pin).pending = s.pending ∧
    (State.pwmStart s pin).sys.fuses = s.sys.fuses ∧ (State.pwmStart s pin).sys.boot = s.sys.boot := by
  unfold State.pwmStart
  repeat' (first
    | (simp [foldl_kept]; done)
    | split
    | (refine foldl_into _ (fun _ _ => ?_) _ ?_)
    | dsimp only)

@[simp] theorem State.discover_kept (s : State) (p : Fin 32) (full : Bool) :
    (State.discover s p full).pending = s.pending ∧ (State.discover s p full).sys.fuses = s.sys.fuses ∧
        (State.discover s p full).sys.boot = s.sys.boot := by simp [State.discover]

@[simp] theorem State.discovered_kept (s : State) (p : Fin 32) : (State.discovered s p).pending = s.pending ∧
    (State.discovered s p).sys.fuses = s.sys.fuses ∧
        (State.discovered s p).sys.boot = s.sys.boot := by simp [State.discovered, foldl_kept]

@[simp] theorem State.discoveryCheck_kept (s : State) (p : Fin 32) : (State.discoveryCheck s p).pending = s.pending ∧
    (State.discoveryCheck s p).sys.fuses = s.sys.fuses ∧
        (State.discoveryCheck s p).sys.boot = s.sys.boot := by simp [State.discoveryCheck]

@[simp] theorem State.rdmFirst_kept (s : State) (p : Fin 32) (qs : List RdmReq) :
    (State.rdmFirst s p qs).pending = s.pending ∧ (State.rdmFirst s p qs).sys.fuses = s.sys.fuses ∧
        (State.rdmFirst s p qs).sys.boot = s.sys.boot := by simp [State.rdmFirst]

@[simp] theorem State.rdmResult_kept (s : State) (tag : U32) (r : RdmResult) :
    (State.rdmResult s tag r).pending = s.pending ∧ (State.rdmResult s tag r).sys.fuses = s.sys.fuses ∧
        (State.rdmResult s tag r).sys.boot = s.sys.boot := by simp [State.rdmResult]

@[simp] theorem State.badSensor_kept (s : State) (p : Fin 32) (fi : Nat) (i : Fin 4) :
    (State.badSensor s p fi i).pending = s.pending ∧ (State.badSensor s p fi i).sys.fuses = s.sys.fuses ∧
        (State.badSensor s p fi i).sys.boot = s.sys.boot := by simp [State.badSensor]

@[simp] theorem State.dropReading_kept (s : State) (p : Fin 32) (fi : Nat) :
    (State.dropReading s p fi).pending = s.pending ∧ (State.dropReading s p fi).sys.fuses = s.sys.fuses ∧
        (State.dropReading s p fi).sys.boot = s.sys.boot := by simp [State.dropReading]

@[simp] theorem State.addReading_kept (s : State) (p : Fin 32) (fi : Nat) (v : Int) :
    (State.addReading s p fi v).pending = s.pending ∧ (State.addReading s p fi v).sys.fuses = s.sys.fuses ∧
        (State.addReading s p fi v).sys.boot = s.sys.boot := by
  unfold State.addReading
  dsimp only
  repeat' split
  all_goals simp

@[simp] theorem State.rdmEnd_kept (s : State) (p : Fin 32) (q : RdmReq) (r : Option RdmResp) :
    (State.rdmEnd s p q r).pending = s.pending ∧ (State.rdmEnd s p q r).sys.fuses = s.sys.fuses ∧
        (State.rdmEnd s p q r).sys.boot = s.sys.boot := by
  unfold State.rdmEnd
  split <;> simp

@[simp] theorem State.rdmResponse_kept (s : State) (p : Fin 32) (r : RdmResp) :
    (State.rdmResponse s p r).pending = s.pending ∧ (State.rdmResponse s p r).sys.fuses = s.sys.fuses ∧
        (State.rdmResponse s p r).sys.boot = s.sys.boot := by
  unfold State.rdmResponse
  repeat' split
  all_goals simp

@[simp] theorem State.rdmTimeout_kept (s : State) (p : Fin 32) : (State.rdmTimeout s p).pending = s.pending ∧
    (State.rdmTimeout s p).sys.fuses = s.sys.fuses ∧ (State.rdmTimeout s p).sys.boot = s.sys.boot := by
  unfold State.rdmTimeout
  split <;> simp

@[simp] theorem State.rdmBegin_kept (s : State) (p : Fin 32) (q : RdmReq) : (State.rdmBegin s p q).pending = s.pending ∧
    (State.rdmBegin s p q).sys.fuses = s.sys.fuses ∧ (State.rdmBegin s p q).sys.boot = s.sys.boot := by
  unfold State.rdmBegin
  repeat' split
  all_goals simp

@[simp] theorem State.rdmStart_kept (s : State) (p : Fin 32) : (State.rdmStart s p).pending = s.pending ∧
    (State.rdmStart s p).sys.fuses = s.sys.fuses ∧ (State.rdmStart s p).sys.boot = s.sys.boot := by
  unfold State.rdmStart
  dsimp only
  repeat' split
  all_goals simp

@[simp] theorem State.rdmPoll_kept (s : State) (p : Fin 32) : (State.rdmPoll s p).pending = s.pending ∧
    (State.rdmPoll s p).sys.fuses = s.sys.fuses ∧ (State.rdmPoll s p).sys.boot = s.sys.boot := by
  unfold State.rdmPoll
  dsimp only
  repeat' split
  all_goals simp

@[simp] theorem State.modInput_kept (s : State) (n : Nat) (f : InputEntry → InputEntry) :
    (State.modInput s n f).pending = s.pending ∧ (State.modInput s n f).sys.fuses = s.sys.fuses ∧
        (State.modInput s n f).sys.boot = s.sys.boot := by simp [State.modInput]

@[simp] theorem State.inputAccept_kept (s : State) (n : Nat) (slots : List U8) (ago : Nat) (f : InputEntry → InputEntry) : (State.inputAccept s n slots ago f).pending = s.pending ∧
    (State.inputAccept s n slots ago f).sys.fuses = s.sys.fuses ∧ (State.inputAccept s n slots ago f).sys.boot = s.sys.boot := by
  unfold State.inputAccept
  repeat' (first
    | (simp [foldl_kept]; done)
    | split
    | (refine foldl_into _ (fun _ _ => ?_) _ ?_)
    | dsimp only)

@[simp] theorem State.removeSource_kept (s : State) (n : Nat) (cid : List U8) :
    (State.removeSource s n cid).pending = s.pending ∧ (State.removeSource s n cid).sys.fuses = s.sys.fuses ∧
        (State.removeSource s n cid).sys.boot = s.sys.boot := by simp [State.removeSource]

@[simp] theorem State.sacnEntry_kept (s : State) (n : Nat) (x : SacnPacket) : (State.sacnEntry s n x).pending = s.pending ∧
    (State.sacnEntry s n x).sys.fuses = s.sys.fuses ∧ (State.sacnEntry s n x).sys.boot = s.sys.boot := by
  unfold State.sacnEntry
  repeat' (first
    | (simp [foldl_kept]; done)
    | split
    | (refine foldl_into _ (fun _ _ => ?_) _ ?_)
    | dsimp only)

@[simp] theorem State.modSacn_kept (s : State) (n : Fin 4) (f : Sacn → Sacn) :
    (State.modSacn s n f).pending = s.pending ∧ (State.modSacn s n f).sys.fuses = s.sys.fuses ∧
        (State.modSacn s n f).sys.boot = s.sys.boot := by simp [State.modSacn]

@[simp] theorem State.sacnPacket_kept (s : State) (n : Fin 4) (kind uni : Nat) (seq : U8) (slots : List U8) : (State.sacnPacket s n kind uni seq slots).pending = s.pending ∧
    (State.sacnPacket s n kind uni seq slots).sys.fuses = s.sys.fuses ∧ (State.sacnPacket s n kind uni seq slots).sys.boot = s.sys.boot := by
  unfold State.sacnPacket
  repeat' (first
    | (simp [foldl_kept]; done)
    | split
    | (refine foldl_into _ (fun _ _ => ?_) _ ?_)
    | dsimp only)

@[simp] theorem State.sacnSent_kept (s : State) (n : Fin 4) (m : U32) (late : Bool) (sync : Bool) :
    (State.sacnSent s n m late sync).pending = s.pending ∧ (State.sacnSent s n m late sync).sys.fuses = s.sys.fuses ∧
        (State.sacnSent s n m late sync).sys.boot = s.sys.boot := by simp [State.sacnSent]

@[simp] theorem State.sacnData_kept (s : State) (n : Fin 4) : (State.sacnData s n).pending = s.pending ∧
    (State.sacnData s n).sys.fuses = s.sys.fuses ∧ (State.sacnData s n).sys.boot = s.sys.boot := by
  unfold State.sacnData
  (try simp only [])
  repeat' first
    | (simp; done)
    | (simp [foldl_kept, -List.foldl_reverse]; done)
    | split
    | (refine foldl_kept _ (fun _ _ => ?_) _ _)
    | (dsimp only)

@[simp] theorem State.sacnSync_kept (s : State) (n : Fin 4) : (State.sacnSync s n).pending = s.pending ∧
    (State.sacnSync s n).sys.fuses = s.sys.fuses ∧ (State.sacnSync s n).sys.boot = s.sys.boot := by
  unfold State.sacnSync
  repeat' (first
    | (simp [foldl_kept]; done)
    | split
    | (refine foldl_into _ (fun _ _ => ?_) _ ?_)
    | dsimp only)

@[simp] theorem State.sacnDiscovery_kept (s : State) (n : Fin 4) : (State.sacnDiscovery s n).pending = s.pending ∧
    (State.sacnDiscovery s n).sys.fuses = s.sys.fuses ∧ (State.sacnDiscovery s n).sys.boot = s.sys.boot := by
  unfold State.sacnDiscovery
  repeat' (first
    | (simp [foldl_kept]; done)
    | split
    | (refine foldl_into _ (fun _ _ => ?_) _ ?_)
    | dsimp only)

@[simp] theorem State.sacnTerminate_kept (s : State) (n : Fin 4) : (State.sacnTerminate s n).pending = s.pending ∧
    (State.sacnTerminate s n).sys.fuses = s.sys.fuses ∧
        (State.sacnTerminate s n).sys.boot = s.sys.boot := by simp [State.sacnTerminate, foldl_kept]

@[simp] theorem State.setPort_kept (pl : List U8) (s : State) : (State.setPort pl s).pending = s.pending ∧
    (State.setPort pl s).sys.fuses = s.sys.fuses ∧ (State.setPort pl s).sys.boot = s.sys.boot := by
  unfold State.setPort
  repeat' (first
    | (simp [foldl_kept]; done)
    | split
    | (refine foldl_into _ (fun _ _ => ?_) _ ?_)
    | dsimp only)

@[simp] theorem State.setInput_kept (pl : List U8) (s : State) : (State.setInput pl s).pending = s.pending ∧
    (State.setInput pl s).sys.fuses = s.sys.fuses ∧ (State.setInput pl s).sys.boot = s.sys.boot := by simp [State.setInput]

@[simp] theorem State.setSacnNow_kept (p : List U8) (s : State) : (State.setSacnNow p s).pending = s.pending ∧
    (State.setSacnNow p s).sys.fuses = s.sys.fuses ∧ (State.setSacnNow p s).sys.boot = s.sys.boot := by
  unfold State.setSacnNow
  split <;> simp

@[simp] theorem State.setSacn_kept (p : List U8) (s : State) : (State.setSacn p s).pending = s.pending ∧
    (State.setSacn p s).sys.fuses = s.sys.fuses ∧ (State.setSacn p s).sys.boot = s.sys.boot := by
  unfold State.setSacn
  split <;> simp

@[simp] theorem keptE_onRdm (s : State) (t : State) (n : Nat) (k : Fin 32 → Except Status Done) (h : ∀ i, KeptE t (k i)) :
    KeptE t (onRdm s n k) := by
  unfold onRdm
  repeat' (first | (simp; done) | (refine keptE_require _ _ _ _ ?_) | split | (simp [h]; done))

@[simp] theorem State.showTx_kept (s : State) (sp : Fin 12) : (State.showTx s sp).pending = s.pending ∧
    (State.showTx s sp).sys.fuses = s.sys.fuses ∧ (State.showTx s sp).sys.boot = s.sys.boot := by
  unfold State.showTx
  repeat' (first
    | (simp [foldl_kept]; done)
    | split
    | (refine foldl_into _ (fun _ _ => ?_) _ ?_)
    | dsimp only)

@[simp] theorem State.linkState_kept (s : State) (sp : Fin 12) (n : Nat) : (State.linkState s sp n).pending = s.pending ∧
    (State.linkState s sp n).sys.fuses = s.sys.fuses ∧
        (State.linkState s sp n).sys.boot = s.sys.boot := by simp [State.linkState]

@[simp] theorem State.timeSelect_kept (s : State) : (State.timeSelect s).pending = s.pending ∧
    (State.timeSelect s).sys.fuses = s.sys.fuses ∧ (State.timeSelect s).sys.boot = s.sys.boot := by simp [State.timeSelect]

@[simp] theorem State.dropOpen_kept (s : State) (sp : Fin 12) (v : Fin 5) : (State.dropOpen s sp v).pending = s.pending ∧
    (State.dropOpen s sp v).sys.fuses = s.sys.fuses ∧ (State.dropOpen s sp v).sys.boot = s.sys.boot := by
  unfold State.dropOpen
  repeat' (first
    | (simp [foldl_kept]; done)
    | split
    | (refine foldl_into _ (fun _ _ => ?_) _ ?_)
    | dsimp only)

@[simp] theorem State.loseTraffic_kept (s : State) (sp : Fin 12) : (State.loseTraffic s sp).pending = s.pending ∧
    (State.loseTraffic s sp).sys.fuses = s.sys.fuses ∧ (State.loseTraffic s sp).sys.boot = s.sys.boot := by
  unfold State.loseTraffic
  repeat' (first
    | (simp [foldl_kept]; done)
    | split
    | (refine foldl_into _ (fun _ _ => ?_) _ ?_)
    | dsimp only)

@[simp] theorem State.downCause_kept (s : State) (sp : Fin 12) (cause : Nat) : (State.downCause s sp cause).pending = s.pending ∧
    (State.downCause s sp cause).sys.fuses = s.sys.fuses ∧ (State.downCause s sp cause).sys.boot = s.sys.boot := by
  unfold State.downCause
  repeat' (first
    | (simp [foldl_kept]; done)
    | split
    | (refine foldl_into _ (fun _ _ => ?_) _ ?_)
    | dsimp only)

@[simp] theorem State.linkDown_kept (s : State) (sp : Fin 12) (cause : Nat) : (State.linkDown s sp cause).pending = s.pending ∧
    (State.linkDown s sp cause).sys.fuses = s.sys.fuses ∧ (State.linkDown s sp cause).sys.boot = s.sys.boot := by
  unfold State.linkDown
  repeat' (first
    | (simp [foldl_kept]; done)
    | split
    | (refine foldl_into _ (fun _ _ => ?_) _ ?_)
    | dsimp only)

@[simp] theorem State.linkUp_kept (s : State) (sp : Fin 12) (h : Hello) : (State.linkUp s sp h).pending = s.pending ∧
    (State.linkUp s sp h).sys.fuses = s.sys.fuses ∧ (State.linkUp s sp h).sys.boot = s.sys.boot := by
  unfold State.linkUp
  repeat' (first
    | (simp [foldl_kept]; done)
    | split
    | (refine foldl_into _ (fun _ _ => ?_) _ ?_)
    | dsimp only)

@[simp] theorem State.updateLeft_kept (s : State) (m : U32) (route : Nat) : (State.updateLeft s m route).pending = s.pending ∧
    (State.updateLeft s m route).sys.fuses = s.sys.fuses ∧ (State.updateLeft s m route).sys.boot = s.sys.boot := by
  unfold State.updateLeft
  dsimp only
  repeat' (first | (simp; done) | (simp [foldl_kept]; done) | split)

@[simp] theorem State.departed_kept (s : State) (d : Departure) : (State.departed s d).pending = s.pending ∧
    (State.departed s d).sys.fuses = s.sys.fuses ∧ (State.departed s d).sys.boot = s.sys.boot := by
  unfold State.departed
  dsimp only
  repeat' (first | (simp; done) | (simp [foldl_kept]; done) | split)

@[simp] theorem State.sendCodeword_kept (s : State) (sp : Fin 12) (cw : List U8) : (State.sendCodeword s sp cw).pending = s.pending ∧
    (State.sendCodeword s sp cw).sys.fuses = s.sys.fuses ∧ (State.sendCodeword s sp cw).sys.boot = s.sys.boot := by
  unfold State.sendCodeword
  dsimp only
  repeat' (first | (simp; done) | (simp [foldl_kept]; done) | split)

@[simp] theorem State.injectIdle_kept (s : State) (sp : Fin 12) : (State.injectIdle s sp).pending = s.pending ∧
    (State.injectIdle s sp).sys.fuses = s.sys.fuses ∧ (State.injectIdle s sp).sys.boot = s.sys.boot := by
  unfold State.injectIdle
  dsimp only
  repeat' (first | (simp; done) | (simp [foldl_kept]; done) | split)

@[simp] theorem State.laneSend_kept (s : State) (sp : Fin 12) (op : Nat) (m : LaneCtl) :
    (State.laneSend s sp op m).pending = s.pending ∧ (State.laneSend s sp op m).sys.fuses = s.sys.fuses ∧
        (State.laneSend s sp op m).sys.boot = s.sys.boot := by simp [State.laneSend]

@[simp] theorem State.laneAsk_kept (s : State) (sp : Fin 12) (op : Nat) (m : LaneCtl) :
    (State.laneAsk s sp op m).pending = s.pending ∧ (State.laneAsk s sp op m).sys.fuses = s.sys.fuses ∧
        (State.laneAsk s sp op m).sys.boot = s.sys.boot := by simp [State.laneAsk]

@[simp] theorem State.laneAnswer_kept (s : State) (sp : Fin 12) (ack : Bool) (m : LaneCtl) (cw : U32) :
    (State.laneAnswer s sp ack m cw).pending = s.pending ∧ (State.laneAnswer s sp ack m cw).sys.fuses = s.sys.fuses ∧
        (State.laneAnswer s sp ack m cw).sys.boot = s.sys.boot := by simp [State.laneAnswer]

@[simp] theorem State.placeGap_kept (s : State) (sp : Fin 12) : (State.placeGap s sp).pending = s.pending ∧
    (State.placeGap s sp).sys.fuses = s.sys.fuses ∧ (State.placeGap s sp).sys.boot = s.sys.boot := by
  unfold State.placeGap
  split <;> simp

@[simp] theorem State.sleepNow_kept (s : State) (sp : Fin 12) : (State.sleepNow s sp).pending = s.pending ∧
    (State.sleepNow s sp).sys.fuses = s.sys.fuses ∧ (State.sleepNow s sp).sys.boot = s.sys.boot := by simp [State.sleepNow]

@[simp] theorem State.showRelease_kept (s : State) (sp : Fin 12) (x : Span) : (State.showRelease s sp x).pending = s.pending ∧
    (State.showRelease s sp x).sys.fuses = s.sys.fuses ∧ (State.showRelease s sp x).sys.boot = s.sys.boot := by
  unfold State.showRelease
  repeat' (first
    | (simp [foldl_kept]; done)
    | split
    | (refine foldl_into _ (fun _ _ => ?_) _ ?_)
    | dsimp only)

@[simp] theorem State.codewordBoundary_kept (s : State) (sp : Fin 12) :
    (State.codewordBoundary s sp).pending = s.pending ∧ (State.codewordBoundary s sp).sys.fuses = s.sys.fuses ∧
        (State.codewordBoundary s sp).sys.boot = s.sys.boot := by simp [State.codewordBoundary]

@[simp] theorem State.codewordRx_kept (s : State) (sp : Fin 12) (fixed : List (Nat × U8)) : (State.codewordRx s sp fixed).pending = s.pending ∧
    (State.codewordRx s sp fixed).sys.fuses = s.sys.fuses ∧ (State.codewordRx s sp fixed).sys.boot = s.sys.boot := by
  unfold State.codewordRx
  repeat' (first
    | (simp [foldl_kept]; done)
    | split
    | (refine foldl_into _ (fun _ _ => ?_) _ ?_)
    | dsimp only)

@[simp] theorem State.codewordBad_kept (s : State) (sp : Fin 12) : (State.codewordBad s sp).pending = s.pending ∧
    (State.codewordBad s sp).sys.fuses = s.sys.fuses ∧
        (State.codewordBad s sp).sys.boot = s.sys.boot := by simp [State.codewordBad]

@[simp] theorem State.codewordIn_kept (s : State) (sp : Fin 12) (block : List U8) (errs : List SymErr) : (State.codewordIn s sp block errs).1.pending = s.pending ∧
    (State.codewordIn s sp block errs).1.sys.fuses = s.sys.fuses ∧ (State.codewordIn s sp block errs).1.sys.boot = s.sys.boot := by
  unfold State.codewordIn
  repeat' (first
    | (simp [foldl_kept]; done)
    | split
    | (refine foldl_into _ (fun _ _ => ?_) _ ?_)
    | dsimp only)

@[simp] theorem State.passBlock_kept (s : State) (sp : Fin 12) (v : Fin 5) (b : Block) (r : RxMsg) : (State.passBlock s sp v b r).pending = s.pending ∧
    (State.passBlock s sp v b r).sys.fuses = s.sys.fuses ∧ (State.passBlock s sp v b r).sys.boot = s.sys.boot := by
  unfold State.passBlock
  dsimp only
  repeat' (first | (simp; done) | (simp [foldl_kept]; done) | split)

@[simp] theorem State.takeIn_kept (s : State) (sp : Fin 12) (v : Fin 5) (b : Block) : (State.takeIn s sp v b).pending = s.pending ∧
    (State.takeIn s sp v b).sys.fuses = s.sys.fuses ∧ (State.takeIn s sp v b).sys.boot = s.sys.boot := by
  unfold State.takeIn
  dsimp only
  repeat' (first | (simp; done) | (simp [foldl_kept]; done) | split)

@[simp] theorem State.dataBlock_kept (s : State) (sp : Fin 12) (b : Block) : (State.dataBlock s sp b).pending = s.pending ∧
    (State.dataBlock s sp b).sys.fuses = s.sys.fuses ∧ (State.dataBlock s sp b).sys.boot = s.sys.boot := by
  unfold State.dataBlock
  dsimp only
  repeat' (first | (simp; done) | (simp [foldl_kept]; done) | split)

@[simp] theorem State.vc1Resend_kept (s : State) (sp : Fin 12) (lseq : Option U16) :
    (State.vc1Resend s sp lseq).pending = s.pending ∧ (State.vc1Resend s sp lseq).sys.fuses = s.sys.fuses ∧
        (State.vc1Resend s sp lseq).sys.boot = s.sys.boot := by simp [State.vc1Resend]

@[simp] theorem State.parentCheck_kept (s₀ : State) (sp : Fin 12) (dist : U16) :
    (State.parentCheck s₀ sp dist).pending = s₀.pending ∧ (State.parentCheck s₀ sp dist).sys.fuses = s₀.sys.fuses ∧
        (State.parentCheck s₀ sp dist).sys.boot = s₀.sys.boot := by
  unfold State.parentCheck
  dsimp only
  split <;> simp

@[simp] theorem State.timeBlock_kept (s : State) (sp : Fin 12) (t : TimeBlock) : (State.timeBlock s sp t).pending = s.pending ∧
    (State.timeBlock s sp t).sys.fuses = s.sys.fuses ∧ (State.timeBlock s sp t).sys.boot = s.sys.boot := by
  unfold State.timeBlock
  repeat' (first
    | (simp [foldl_kept]; done)
    | split
    | (refine foldl_into _ (fun _ _ => ?_) _ ?_)
    | dsimp only)

@[simp] theorem State.beginAttempt_kept (s : State) (sp : Fin 12) : (State.beginAttempt s sp).pending = s.pending ∧
    (State.beginAttempt s sp).sys.fuses = s.sys.fuses ∧
        (State.beginAttempt s sp).sys.boot = s.sys.boot := by simp [State.beginAttempt]

@[simp] theorem State.failAttempt_kept (s : State) (sp : Fin 12) (cause : Nat) :
    (State.failAttempt s sp cause).pending = s.pending ∧ (State.failAttempt s sp cause).sys.fuses = s.sys.fuses ∧
        (State.failAttempt s sp cause).sys.boot = s.sys.boot := by simp [State.failAttempt]

@[simp] theorem State.abortAttempt_kept (s : State) (sp : Fin 12) : (State.abortAttempt s sp).pending = s.pending ∧
    (State.abortAttempt s sp).sys.fuses = s.sys.fuses ∧
        (State.abortAttempt s sp).sys.boot = s.sys.boot := by simp [State.abortAttempt]

@[simp] theorem State.trainingFrame_kept (s : State) (sp : Fin 12) (f : TrainFrame) :
    (State.trainingFrame s sp f).pending = s.pending ∧ (State.trainingFrame s sp f).sys.fuses = s.sys.fuses ∧
        (State.trainingFrame s sp f).sys.boot = s.sys.boot := by
  unfold State.trainingFrame
  dsimp only
  repeat' split
  all_goals simp

@[simp] theorem State.stepPass_kept (s : State) (sp : Fin 12) : (State.stepPass s sp).pending = s.pending ∧
    (State.stepPass s sp).sys.fuses = s.sys.fuses ∧ (State.stepPass s sp).sys.boot = s.sys.boot := by simp [State.stepPass]

@[simp] theorem State.stepEnd_kept (s : State) (sp : Fin 12) (r : StepResult) :
    (State.stepEnd s sp r).pending = s.pending ∧ (State.stepEnd s sp r).sys.fuses = s.sys.fuses ∧
        (State.stepEnd s sp r).sys.boot = s.sys.boot := by simp [State.stepEnd]

@[simp] theorem State.helloBlock_kept (s : State) (sp : Fin 12) (h : Hello) : (State.helloBlock s sp h).pending = s.pending ∧
    (State.helloBlock s sp h).sys.fuses = s.sys.fuses ∧ (State.helloBlock s sp h).sys.boot = s.sys.boot := by
  unfold State.helloBlock
  repeat' (first
    | (simp [foldl_kept]; done)
    | split
    | (refine foldl_into _ (fun _ _ => ?_) _ ?_)
    | dsimp only)

@[simp] theorem State.abandonRotation_kept (s : State) (sp : Fin 12) : (State.abandonRotation s sp).pending = s.pending ∧
    (State.abandonRotation s sp).sys.fuses = s.sys.fuses ∧ (State.abandonRotation s sp).sys.boot = s.sys.boot := by
  unfold State.abandonRotation
  split <;> simp

@[simp] theorem State.beginRotation_kept (s : State) (sp : Fin 12) (j : Nat) :
    (State.beginRotation s sp j).pending = s.pending ∧ (State.beginRotation s sp j).sys.fuses = s.sys.fuses ∧
        (State.beginRotation s sp j).sys.boot = s.sys.boot := by
  unfold State.beginRotation
  dsimp only
  split <;> simp

@[simp] theorem State.askGap_kept (s : State) (sp : Fin 12) : (State.askGap s sp).pending = s.pending ∧
    (State.askGap s sp).sys.fuses = s.sys.fuses ∧ (State.askGap s sp).sys.boot = s.sys.boot := by
  unfold State.askGap
  dsimp only
  repeat' split
  all_goals simp

@[simp] theorem State.nextCalibration_kept (s : State) (sp : Fin 12) : (State.nextCalibration s sp).pending = s.pending ∧
    (State.nextCalibration s sp).sys.fuses = s.sys.fuses ∧ (State.nextCalibration s sp).sys.boot = s.sys.boot := by
  unfold State.nextCalibration
  dsimp only
  repeat' (first | (simp; done) | (simp [foldl_kept]; done) | split)

@[simp] theorem State.needCalibration_kept (s : State) (sp : Fin 12) (p : Nat) : (State.needCalibration s sp p).pending = s.pending ∧
    (State.needCalibration s sp p).sys.fuses = s.sys.fuses ∧ (State.needCalibration s sp p).sys.boot = s.sys.boot := by
  unfold State.needCalibration
  repeat' (first
    | (simp [foldl_kept]; done)
    | split
    | (refine foldl_into _ (fun _ _ => ?_) _ ?_)
    | dsimp only)

@[simp] theorem State.receiverGap_kept (s : State) (sp : Fin 12) : (State.receiverGap s sp).pending = s.pending ∧
    (State.receiverGap s sp).sys.fuses = s.sys.fuses ∧ (State.receiverGap s sp).sys.boot = s.sys.boot := by
  unfold State.receiverGap
  split <;> simp

@[simp] theorem State.rotationAck_kept (s : State) (sp : Fin 12) (r : Rotation) (op : Nat) (cw : U32) :
    (State.rotationAck s sp r op cw).pending = s.pending ∧ (State.rotationAck s sp r op cw).sys.fuses = s.sys.fuses ∧
        (State.rotationAck s sp r op cw).sys.boot = s.sys.boot := by simp [State.rotationAck]

@[simp] theorem State.sweepDone_kept (s : State) (sp : Fin 12) (t : Taps) :
    (State.sweepDone s sp t).pending = s.pending ∧ (State.sweepDone s sp t).sys.fuses = s.sys.fuses ∧
        (State.sweepDone s sp t).sys.boot = s.sys.boot := by
  unfold State.sweepDone
  split <;> simp

@[simp] theorem State.compareDone_kept (s : State) (sp : Fin 12) (equal : Bool) :
    (State.compareDone s sp equal).pending = s.pending ∧ (State.compareDone s sp equal).sys.fuses = s.sys.fuses ∧
        (State.compareDone s sp equal).sys.boot = s.sys.boot := by
  unfold State.compareDone
  split <;> simp

@[simp] theorem State.swapLane_kept (s : State) (sp : Fin 12) : (State.swapLane s sp).pending = s.pending ∧
    (State.swapLane s sp).sys.fuses = s.sys.fuses ∧ (State.swapLane s sp).sys.boot = s.sys.boot := by
  unfold State.swapLane
  split <;> simp

@[simp] theorem State.raiseLane_kept (s : State) (sp : Fin 12) (dir : Nat) (lane : Nat) (use : Nat) :
    (State.raiseLane s sp dir lane use).pending = s.pending ∧
        (State.raiseLane s sp dir lane use).sys.fuses = s.sys.fuses ∧
            (State.raiseLane s sp dir lane use).sys.boot = s.sys.boot := by simp [State.raiseLane]

@[simp] theorem State.laneFault_kept (s : State) (sp : Fin 12) (j : Nat) (p : Nat) :
    (State.laneFault s sp j p).pending = s.pending ∧ (State.laneFault s sp j p).sys.fuses = s.sys.fuses ∧
        (State.laneFault s sp j p).sys.boot = s.sys.boot := by
  unfold State.laneFault
  dsimp only
  repeat' split
  all_goals simp

@[simp] theorem State.laneLost_kept (s : State) (sp : Fin 12) (p : Nat) : (State.laneLost s sp p).pending = s.pending ∧
    (State.laneLost s sp p).sys.fuses = s.sys.fuses ∧ (State.laneLost s sp p).sys.boot = s.sys.boot := by
  unfold State.laneLost
  dsimp only
  repeat' split
  all_goals simp

@[simp] theorem State.acceptSleep_kept (s : State) (sp : Fin 12) (m : LaneCtl) :
    (State.acceptSleep s sp m).pending = s.pending ∧ (State.acceptSleep s sp m).sys.fuses = s.sys.fuses ∧
        (State.acceptSleep s sp m).sys.boot = s.sys.boot := by simp [State.acceptSleep]

@[simp] theorem State.sleepRequest_kept (s : State) (sp : Fin 12) (m : LaneCtl) :
    (State.sleepRequest s sp m).pending = s.pending ∧ (State.sleepRequest s sp m).sys.fuses = s.sys.fuses ∧
        (State.sleepRequest s sp m).sys.boot = s.sys.boot := by simp [State.sleepRequest]

@[simp] theorem State.txRequest_kept (s : State) (sp : Fin 12) (m : LaneCtl) (ok : Bool) (cw : Bool)
    (f : U32 → Span → Span) : (State.txRequest s sp m ok cw f).pending = s.pending ∧
        (State.txRequest s sp m ok cw f).sys.fuses = s.sys.fuses ∧
            (State.txRequest s sp m ok cw f).sys.boot = s.sys.boot := by simp [State.txRequest]

@[simp] theorem State.txLaneFault_kept (s : State) (sp : Fin 12) (m : LaneCtl) :
    (State.txLaneFault s sp m).pending = s.pending ∧ (State.txLaneFault s sp m).sys.fuses = s.sys.fuses ∧
        (State.txLaneFault s sp m).sys.boot = s.sys.boot := by simp [State.txLaneFault]

@[simp] theorem State.txCalGap_kept (s : State) (sp : Fin 12) (m : LaneCtl) :
    (State.txCalGap s sp m).pending = s.pending ∧ (State.txCalGap s sp m).sys.fuses = s.sys.fuses ∧
        (State.txCalGap s sp m).sys.boot = s.sys.boot := by simp [State.txCalGap]

@[simp] theorem State.laneAck_kept (s : State) (sp : Fin 12) (m : LaneCtl) : (State.laneAck s sp m).pending = s.pending ∧
    (State.laneAck s sp m).sys.fuses = s.sys.fuses ∧ (State.laneAck s sp m).sys.boot = s.sys.boot := by
  unfold State.laneAck
  dsimp only
  repeat' split
  all_goals simp

@[simp] theorem State.giveUp_kept (s : State) (sp : Fin 12) (c : CtlReq) : (State.giveUp s sp c).pending = s.pending ∧
    (State.giveUp s sp c).sys.fuses = s.sys.fuses ∧ (State.giveUp s sp c).sys.boot = s.sys.boot := by
  unfold State.giveUp
  dsimp only
  repeat' (first | (simp; done) | (simp [foldl_kept]; done) | split)

@[simp] theorem State.laneNak_kept (s : State) (sp : Fin 12) (m : LaneCtl) : (State.laneNak s sp m).pending = s.pending ∧
    (State.laneNak s sp m).sys.fuses = s.sys.fuses ∧ (State.laneNak s sp m).sys.boot = s.sys.boot := by
  unfold State.laneNak
  split <;> simp

@[simp] theorem State.laneTimeout_kept (s : State) (sp : Fin 12) : (State.laneTimeout s sp).pending = s.pending ∧
    (State.laneTimeout s sp).sys.fuses = s.sys.fuses ∧ (State.laneTimeout s sp).sys.boot = s.sys.boot := by
  unfold State.laneTimeout
  split <;> simp

@[simp] theorem State.gapStart_kept (s : State) (sp : Fin 12) (tx : Bool) (taps : List (Fin 5 × Taps)) :
    (State.gapStart s sp tx taps).pending = s.pending ∧ (State.gapStart s sp tx taps).sys.fuses = s.sys.fuses ∧
        (State.gapStart s sp tx taps).sys.boot = s.sys.boot := by
  unfold State.gapStart
  dsimp only
  split <;> simp

@[simp] theorem State.gapDefer_kept (s : State) (sp : Fin 12) : (State.gapDefer s sp).pending = s.pending ∧
    (State.gapDefer s sp).sys.fuses = s.sys.fuses ∧ (State.gapDefer s sp).sys.boot = s.sys.boot := by
  unfold State.gapDefer
  dsimp only
  split <;> simp

@[simp] theorem State.spanWake_kept (s : State) (sp : Fin 12) : (State.spanWake s sp).pending = s.pending ∧
    (State.spanWake s sp).sys.fuses = s.sys.fuses ∧ (State.spanWake s sp).sys.boot = s.sys.boot := by
  unfold State.spanWake
  dsimp only
  split <;> simp

@[simp] theorem State.wakeDrift_kept (s : State) (sp : Fin 12) : (State.wakeDrift s sp).pending = s.pending ∧
    (State.wakeDrift s sp).sys.fuses = s.sys.fuses ∧ (State.wakeDrift s sp).sys.boot = s.sys.boot := by
  unfold State.wakeDrift
  dsimp only
  split <;> simp

@[simp] theorem State.spanMode_kept (s : State) (sp : Fin 12) (old : Nat) :
    (State.spanMode s sp old).pending = s.pending ∧ (State.spanMode s sp old).sys.fuses = s.sys.fuses ∧
        (State.spanMode s sp old).sys.boot = s.sys.boot := by simp [State.spanMode]

theorem State.onBlock_kept (s : State) (sp : Fin 12) (errs : List SymErr) (block : List U8) (f : State → State)
    (hf : ∀ t, (f t).pending = t.pending ∧
    (f t).sys.fuses = t.sys.fuses ∧ (f t).sys.boot = t.sys.boot) :
    (s.onBlock sp errs block f).pending = s.pending ∧
    (s.onBlock sp errs block f).sys.fuses = s.sys.fuses ∧ (s.onBlock sp errs block f).sys.boot = s.sys.boot := by
  unfold State.onBlock
  dsimp only
  split <;> simp [hf]

theorem onBlock_into {s t : State} (sp : Fin 12) (errs : List SymErr) (block : List U8) (f : State → State) (e : t.pending = s.pending ∧
    t.sys.fuses = s.sys.fuses ∧ t.sys.boot = s.sys.boot) (hf : ∀ t, (f t).pending = t.pending ∧
    (f t).sys.fuses = t.sys.fuses ∧ (f t).sys.boot = t.sys.boot) :
    (t.onBlock sp errs block f).pending = s.pending ∧
    (t.onBlock sp errs block f).sys.fuses = s.sys.fuses ∧ (t.onBlock sp errs block f).sys.boot = s.sys.boot := by
  have k := State.onBlock_kept t sp errs block f hf
  exact ⟨k.1.trans e.1, k.2.1.trans e.2.1, k.2.2.trans e.2.2⟩

theorem State.onUp_kept (s : State) (sp : Fin 12) (errs : List SymErr) (block : List U8) (f : State → State)
    (hf : ∀ t, (f t).pending = t.pending ∧
    (f t).sys.fuses = t.sys.fuses ∧ (f t).sys.boot = t.sys.boot) :
    (s.onUp sp errs block f).pending = s.pending ∧
    (s.onUp sp errs block f).sys.fuses = s.sys.fuses ∧ (s.onUp sp errs block f).sys.boot = s.sys.boot := by
  unfold State.onUp
  exact State.onBlock_kept _ _ _ _ _ fun t => by split <;> simp [hf]

theorem onUp_into {s t : State} (sp : Fin 12) (errs : List SymErr) (block : List U8) (f : State → State) (e : t.pending = s.pending ∧
    t.sys.fuses = s.sys.fuses ∧ t.sys.boot = s.sys.boot) (hf : ∀ t, (f t).pending = t.pending ∧
    (f t).sys.fuses = t.sys.fuses ∧ (f t).sys.boot = t.sys.boot) :
    (t.onUp sp errs block f).pending = s.pending ∧
    (t.onUp sp errs block f).sys.fuses = s.sys.fuses ∧ (t.onUp sp errs block f).sys.boot = s.sys.boot := by
  have k := State.onUp_kept t sp errs block f hf
  exact ⟨k.1.trans e.1, k.2.1.trans e.2.1, k.2.2.trans e.2.2⟩

@[simp] theorem State.laneCtl_kept (s : State) (sp : Fin 12) (f : State → State) (hf : ∀ t, (f t).pending = t.pending ∧
    (f t).sys.fuses = t.sys.fuses ∧ (f t).sys.boot = t.sys.boot) :
    (s.laneCtl sp f).pending = s.pending ∧ (s.laneCtl sp f).sys.fuses = s.sys.fuses ∧
        (s.laneCtl sp f).sys.boot = s.sys.boot := by
  simp [State.laneCtl, hf]

@[simp] theorem keptE_onSpan (s : State) (n : Nat) (k : Fin 12 → Except Status Done) (h : ∀ i, KeptE s (k i)) :
    KeptE s (onSpan n k) := by unfold onSpan; split <;> simp [h]

@[simp] theorem State.setSpan_kept (p : List U8) (s : State) : (State.setSpan p s).pending = s.pending ∧
    (State.setSpan p s).sys.fuses = s.sys.fuses ∧ (State.setSpan p s).sys.boot = s.sys.boot := by
  unfold State.setSpan
  split <;> simp

@[simp] theorem keptE_onLane (s : State) (p : List U8) (k : Fin 12 → Fin 5 → Except Status Done) (h : ∀ i j, KeptE s
    (k i j)) :
    KeptE s (onLane p k) := by
  unfold onLane
  refine keptE_onSpan _ _ _ fun i => ?_
  split <;> simp [h]

@[simp] theorem State.fixRoot_kept (s : State) : (State.fixRoot s).pending = s.pending ∧
    (State.fixRoot s).sys.fuses = s.sys.fuses ∧ (State.fixRoot s).sys.boot = s.sys.boot := by simp [State.fixRoot]

theorem State.memberChange_kept (s : State) (f : State → State)
    (hf : ∀ t, (f t).pending = t.pending ∧
    (f t).sys.fuses = t.sys.fuses ∧ (f t).sys.boot = t.sys.boot) :
    (s.memberChange f).pending = s.pending ∧
    (s.memberChange f).sys.fuses = s.sys.fuses ∧ (s.memberChange f).sys.boot = s.sys.boot := by
  unfold State.memberChange
  dsimp only
  repeat' (first | (simp [hf]; done) | split)

@[simp] theorem State.dropMembers_kept (s : State) (p : Member → Bool) : (State.dropMembers s p).pending = s.pending ∧
    (State.dropMembers s p).sys.fuses = s.sys.fuses ∧
        (State.dropMembers s p).sys.boot = s.sys.boot := by simp [State.dropMembers, foldl_kept]

@[simp] theorem State.raiseMerge_kept (s : State) (a : U32) (b : U32) (frame : U32) (kind : Nat) :
    (State.raiseMerge s a b frame kind).pending = s.pending ∧
        (State.raiseMerge s a b frame kind).sys.fuses = s.sys.fuses ∧
            (State.raiseMerge s a b frame kind).sys.boot = s.sys.boot := by simp [State.raiseMerge]

@[simp] theorem State.takeRoot_kept (s : State) (low high : U32) (gen : U16) : (State.takeRoot s low high gen).pending = s.pending ∧
    (State.takeRoot s low high gen).sys.fuses = s.sys.fuses ∧ (State.takeRoot s low high gen).sys.boot = s.sys.boot := by
  unfold State.takeRoot
  repeat' (first
    | (simp [foldl_kept]; done)
    | split
    | (refine foldl_into _ (fun _ _ => ?_) _ ?_)
    | dsimp only)

@[simp] theorem State.joinRoots_kept (s : State) (low high : U32) (gen : U16) :
    (State.joinRoots s low high gen).pending = s.pending ∧ (State.joinRoots s low high gen).sys.fuses = s.sys.fuses ∧
      (State.joinRoots s low high gen).sys.boot = s.sys.boot := by simp [State.joinRoots]

@[simp] theorem State.seeDomain_kept (s : State) (e : Member) : (State.seeDomain s e).pending = s.pending ∧
    (State.seeDomain s e).sys.fuses = s.sys.fuses ∧ (State.seeDomain s e).sys.boot = s.sys.boot := by simp [State.seeDomain]

@[simp] theorem State.mergeMsg_kept (s : State) (g : Merge) : (State.mergeMsg s g).pending = s.pending ∧
    (State.mergeMsg s g).sys.fuses = s.sys.fuses ∧ (State.mergeMsg s g).sys.boot = s.sys.boot := by simp [State.mergeMsg]

@[simp] theorem State.applyMerges_kept (s : State) (m : U32) : (State.applyMerges s m).pending = s.pending ∧
    (State.applyMerges s m).sys.fuses = s.sys.fuses ∧
        (State.applyMerges s m).sys.boot = s.sys.boot := by simp [State.applyMerges, foldl_kept]

@[simp] theorem State.memberMsg_kept (s : State) (src : U32) (p : List U8) :
    (State.memberMsg s src p).pending = s.pending ∧ (State.memberMsg s src p).sys.fuses = s.sys.fuses ∧
        (State.memberMsg s src p).sys.boot = s.sys.boot := by simp [State.memberMsg]

@[simp] theorem State.keepReport_kept (s : State) (m : U32) (member : U32) (t : Nat) :
    (State.keepReport s m member t).pending = s.pending ∧ (State.keepReport s m member t).sys.fuses = s.sys.fuses ∧
        (State.keepReport s m member t).sys.boot = s.sys.boot := by simp [State.keepReport]

@[simp] theorem State.reportMsg_kept (s : State) (p : List U8) : (State.reportMsg s p).pending = s.pending ∧
    (State.reportMsg s p).sys.fuses = s.sys.fuses ∧ (State.reportMsg s p).sys.boot = s.sys.boot := by simp [State.reportMsg]

@[simp] theorem State.replaceSpan_kept (s : State) (im : Image) (route : Nat) (r : Route) (un : List U32)
    (of : U32 → List (Nat × U8)) : (State.replaceSpan s im route r un of).pending = s.pending ∧
        (State.replaceSpan s im route r un of).sys.fuses = s.sys.fuses ∧
            (State.replaceSpan s im route r un of).sys.boot = s.sys.boot := by
  unfold State.replaceSpan
  (try simp only [])
  repeat' first
    | (simp; done)
    | (simp [foldl_kept, -List.foldl_reverse]; done)
    | split
    | (refine foldl_kept _ (fun _ _ => ?_) _ _)
    | (dsimp only)

@[simp] theorem State.houseReturn_kept (s : State) : (State.houseReturn s).pending = s.pending ∧
    (State.houseReturn s).sys.fuses = s.sys.fuses ∧ (State.houseReturn s).sys.boot = s.sys.boot := by
  unfold State.houseReturn
  (try simp only [])
  repeat' first
    | (simp; done)
    | (simp [foldl_kept, -List.foldl_reverse]; done)
    | split
    | (refine foldl_kept _ (fun _ _ => ?_) _ _)
    | (dsimp only)

@[simp] theorem State.latchIp_kept (s : State) (l : Latch) : (State.latchIp s l).pending = s.pending ∧
    (State.latchIp s l).sys.fuses = s.sys.fuses ∧ (State.latchIp s l).sys.boot = s.sys.boot := by
  unfold State.latchIp
  repeat' (first
    | (simp [foldl_kept]; done)
    | split
    | (refine foldl_into _ (fun _ _ => ?_) _ ?_)
    | dsimp only)

@[simp] theorem State.slipEvents_kept (s : State) (m : U32) (slip : Nat) :
    (State.slipEvents s m slip).pending = s.pending ∧ (State.slipEvents s m slip).sys.fuses = s.sys.fuses ∧
        (State.slipEvents s m slip).sys.boot = s.sys.boot := by
  unfold State.slipEvents
  split <;> simp

@[simp] theorem State.acceptLatch_kept (s : State) (l : Latch) : (State.acceptLatch s l).pending = s.pending ∧
    (State.acceptLatch s l).sys.fuses = s.sys.fuses ∧
        (State.acceptLatch s l).sys.boot = s.sys.boot := by simp [State.acceptLatch]

@[simp] theorem State.issueLatch_kept (s : State) : (State.issueLatch s).pending = s.pending ∧
    (State.issueLatch s).sys.fuses = s.sys.fuses ∧ (State.issueLatch s).sys.boot = s.sys.boot := by simp [State.issueLatch]

@[simp] theorem State.reportCommit_kept (s : State) (m : U32) (t : Nat) :
    (State.reportCommit s m t).pending = s.pending ∧ (State.reportCommit s m t).sys.fuses = s.sys.fuses ∧
        (State.reportCommit s m t).sys.boot = s.sys.boot := by
  unfold State.reportCommit
  dsimp only
  split <;> simp

@[simp] theorem State.returnRecord_kept (s : State) (dests : List DestKey) (at_ : Int) (r : List U8) : (State.returnRecord s dests at_ r).pending = s.pending ∧
    (State.returnRecord s dests at_ r).sys.fuses = s.sys.fuses ∧ (State.returnRecord s dests at_ r).sys.boot = s.sys.boot := by
  unfold State.returnRecord
  repeat' (first
    | (simp [foldl_kept]; done)
    | split
    | (refine foldl_into _ (fun _ _ => ?_) _ ?_)
    | dsimp only)

@[simp] theorem State.returnMsg_kept (s : State) (sp : Fin 12) (m : Msg) : (State.returnMsg s sp m).pending = s.pending ∧
    (State.returnMsg s sp m).sys.fuses = s.sys.fuses ∧ (State.returnMsg s sp m).sys.boot = s.sys.boot := by
  unfold State.returnMsg
  repeat' (first
    | (simp [foldl_kept]; done)
    | split
    | (refine foldl_into _ (fun _ _ => ?_) _ ?_)
    | dsimp only)

@[simp] theorem State.probePaths_kept (s : State) : (State.probePaths s).pending = s.pending ∧
    (State.probePaths s).sys.fuses = s.sys.fuses ∧ (State.probePaths s).sys.boot = s.sys.boot := by
  unfold State.probePaths
  (try simp only [])
  repeat' first
    | (simp; done)
    | (simp [foldl_kept, -List.foldl_reverse]; done)
    | split
    | (refine foldl_kept _ (fun _ _ => ?_) _ _)
    | (dsimp only)

@[simp] theorem State.pathEcho_kept (s : State) (m : Msg) : (State.pathEcho s m).pending = s.pending ∧
    (State.pathEcho s m).sys.fuses = s.sys.fuses ∧ (State.pathEcho s m).sys.boot = s.sys.boot := by
  unfold State.pathEcho
  (try simp only [])
  repeat' first
    | (simp; done)
    | (simp [foldl_kept, -List.foldl_reverse]; done)
    | split
    | (refine foldl_kept _ (fun _ _ => ?_) _ _)
    | (dsimp only)

@[simp] theorem State.setTrestle_kept (p : List U8) (s : State) : (State.setTrestle p s).pending = s.pending ∧
    (State.setTrestle p s).sys.fuses = s.sys.fuses ∧
        (State.setTrestle p s).sys.boot = s.sys.boot := by simp [State.setTrestle]

@[simp] theorem State.setNode_kept (s : State) (node : U32) : (State.setNode s node).pending = s.pending ∧
    (State.setNode s node).sys.fuses = s.sys.fuses ∧ (State.setNode s node).sys.boot = s.sys.boot := by
  unfold State.setNode
  split
  · simp
  · exact State.memberChange_kept _ _ fun t => by simp

@[simp] theorem State.setLink_kept (p : List U8) (s : State) : (State.setLink p s).pending = s.pending ∧
    (State.setLink p s).sys.fuses = s.sys.fuses ∧ (State.setLink p s).sys.boot = s.sys.boot := by
  unfold State.setLink
  split <;> simp

@[simp] theorem State.ownInputs_kept (s : State) (m : U32) : (s.ownInputs m).1.pending = s.pending ∧
    (s.ownInputs m).1.sys.fuses = s.sys.fuses ∧ (s.ownInputs m).1.sys.boot = s.sys.boot := by simp [State.ownInputs]

@[simp] theorem State.takeInputs_kept (s : State) (x : OwnInputs) : (State.takeInputs s x).pending = s.pending ∧
    (State.takeInputs s x).sys.fuses = s.sys.fuses ∧ (State.takeInputs s x).sys.boot = s.sys.boot := by
  unfold State.takeInputs
  (try simp only [])
  repeat' first
    | (simp; done)
    | (simp [foldl_kept, -List.foldl_reverse]; done)
    | split
    | (refine foldl_kept _ (fun _ _ => ?_) _ _)
    | (dsimp only)

@[simp] theorem State.sealFrame_kept (s : State) (x : OwnInputs) : (State.sealFrame s x).pending = s.pending ∧
    (State.sealFrame s x).sys.fuses = s.sys.fuses ∧ (State.sealFrame s x).sys.boot = s.sys.boot := by simp [State.sealFrame]

@[simp] theorem State.sealCaptures_kept (s : State) (m : U32) : (State.sealCaptures s m).pending = s.pending ∧
    (State.sealCaptures s m).sys.fuses = s.sys.fuses ∧
        (State.sealCaptures s m).sys.boot = s.sys.boot := by simp [State.sealCaptures]

@[simp] theorem State.sendSeal_kept (s : State) : (State.sendSeal s).pending = s.pending ∧
    (State.sendSeal s).sys.fuses = s.sys.fuses ∧ (State.sendSeal s).sys.boot = s.sys.boot := by
  unfold State.sendSeal
  (try simp only [])
  repeat' first
    | (simp; done)
    | (simp [foldl_kept, -List.foldl_reverse]; done)
    | split
    | (refine foldl_kept _ (fun _ _ => ?_) _ _)
    | (dsimp only)

@[simp] theorem State.radioChange_kept (s : State) (ri : Nat) (kind : Nat) (short : U16) (value : Nat)
    (data : List U8) : (State.radioChange s ri kind short value data).pending = s.pending ∧
        (State.radioChange s ri kind short value data).sys.fuses = s.sys.fuses ∧
            (State.radioChange s ri kind short value data).sys.boot = s.sys.boot := by simp [State.radioChange]

@[simp] theorem State.modRi_kept (s : State) (i : Fin 4) (f : Radio → Radio) : (State.modRi s i f).pending = s.pending ∧
    (State.modRi s i f).sys.fuses = s.sys.fuses ∧ (State.modRi s i f).sys.boot = s.sys.boot := by simp [State.modRi]

@[simp] theorem State.followRadio_kept (s : State) (r : List U8) : (State.followRadio s r).pending = s.pending ∧
    (State.followRadio s r).sys.fuses = s.sys.fuses ∧ (State.followRadio s r).sys.boot = s.sys.boot := by
  unfold State.followRadio
  split <;> simp

@[simp] theorem State.captureSealed_kept (s : State) (m : U32) (k : Fin 8) (media : U32) :
    (State.captureSealed s m k media).pending = s.pending ∧ (State.captureSealed s m k media).sys.fuses = s.sys.fuses ∧
        (State.captureSealed s m k media).sys.boot = s.sys.boot := by
  unfold State.captureSealed
  dsimp only
  split <;> simp

@[simp] theorem State.sealRecord_kept (s : State) (m : U32) (r : List U8) :
    (State.sealRecord s m r).pending = s.pending ∧ (State.sealRecord s m r).sys.fuses = s.sys.fuses ∧
        (State.sealRecord s m r).sys.boot = s.sys.boot := by
  unfold State.sealRecord
  dsimp only
  repeat' split
  all_goals simp

@[simp] theorem State.takeSeal_kept (s : State) (m : U32) (recs : List (List U8)) :
    (State.takeSeal s m recs).pending = s.pending ∧ (State.takeSeal s m recs).sys.fuses = s.sys.fuses ∧
        (State.takeSeal s m recs).sys.boot = s.sys.boot := by simp [State.takeSeal, foldl_kept]

@[simp] theorem State.takeLocal_kept (s : State) (x : OwnInputs) : (State.takeLocal s x).pending = s.pending ∧
    (State.takeLocal s x).sys.fuses = s.sys.fuses ∧ (State.takeLocal s x).sys.boot = s.sys.boot := by simp [State.takeLocal]

@[simp] theorem State.resolveSeals_kept (n : Nat) (s : State) :
    (State.resolveSeals n s).pending = s.pending ∧ (State.resolveSeals n s).sys.fuses = s.sys.fuses ∧
        (State.resolveSeals n s).sys.boot = s.sys.boot := by
  induction n generalizing s with
  | zero => simp [State.resolveSeals]
  | succ n ih =>
    unfold State.resolveSeals
    repeat' (first | (simp [ih]; done) | split)

@[simp] theorem State.inputsAt_kept (s : State) (m : U32) : (State.inputsAt s m).pending = s.pending ∧
    (State.inputsAt s m).sys.fuses = s.sys.fuses ∧ (State.inputsAt s m).sys.boot = s.sys.boot := by simp [State.inputsAt]

@[simp] theorem State.sealMsg_kept (s : State) (p : List U8) : (State.sealMsg s p).pending = s.pending ∧
    (State.sealMsg s p).sys.fuses = s.sys.fuses ∧ (State.sealMsg s p).sys.boot = s.sys.boot := by
  unfold State.sealMsg
  (try simp only [])
  repeat' first
    | (simp; done)
    | (simp [foldl_kept, -List.foldl_reverse]; done)
    | split
    | (refine foldl_kept _ (fun _ _ => ?_) _ _)
    | (dsimp only)

@[simp] theorem State.endUniverses_kept (s : State) (old : Image) (new : Image) :
    (State.endUniverses s old new).pending = s.pending ∧ (State.endUniverses s old new).sys.fuses = s.sys.fuses ∧
        (State.endUniverses s old new).sys.boot = s.sys.boot := foldl_kept _ (fun _ _ => by split <;> simp) _ _

@[simp] theorem State.setStage_kept (s : State) (w : Swap) (n : Nat) : (State.setStage s w n).pending = s.pending ∧
    (State.setStage s w n).sys.fuses = s.sys.fuses ∧ (State.setStage s w n).sys.boot = s.sys.boot := by
  unfold State.setStage
  dsimp only
  repeat' (first | (simp; done) | (simp [foldl_kept]; done) | split)

@[simp] theorem State.swapGate_kept (s : State) (w : Swap) (m : U32) : (State.swapGate s w m).pending = s.pending ∧
    (State.swapGate s w m).sys.fuses = s.sys.fuses ∧ (State.swapGate s w m).sys.boot = s.sys.boot := by
  unfold State.swapGate
  repeat' (first
    | (simp [foldl_kept]; done)
    | split
    | (refine foldl_into _ (fun _ _ => ?_) _ ?_)
    | dsimp only)

@[simp] theorem State.swapOutputs_kept (s : State) (w : Swap) (m : U32) : (State.swapOutputs s w m).pending = s.pending ∧
    (State.swapOutputs s w m).sys.fuses = s.sys.fuses ∧ (State.swapOutputs s w m).sys.boot = s.sys.boot := by
  unfold State.swapOutputs
  repeat' (first
    | (simp [foldl_kept]; done)
    | split
    | (refine foldl_into _ (fun _ _ => ?_) _ ?_)
    | dsimp only)

@[simp] theorem State.becomeActive_kept (s : State) (im : Image) (m : U32) :
    (State.becomeActive s im m).pending = s.pending ∧ (State.becomeActive s im m).sys.fuses = s.sys.fuses ∧
        (State.becomeActive s im m).sys.boot = s.sys.boot := by simp [State.becomeActive]

@[simp] theorem State.swapAll_kept (s : State) (m : U32) : (State.swapAll s m).pending = s.pending ∧
    (State.swapAll s m).sys.fuses = s.sys.fuses ∧ (State.swapAll s m).sys.boot = s.sys.boot := by
  unfold State.swapAll
  dsimp only
  repeat' (first | (simp; done) | (simp [foldl_kept]; done) | split)

@[simp] theorem State.activateNow_kept (s : State) (im : Image) : (State.activateNow s im).pending = s.pending ∧
    (State.activateNow s im).sys.fuses = s.sys.fuses ∧
        (State.activateNow s im).sys.boot = s.sys.boot := by simp [State.activateNow]

@[simp] theorem State.swapStep_kept (s : State) : (State.swapStep s).pending = s.pending ∧
    (State.swapStep s).sys.fuses = s.sys.fuses ∧ (State.swapStep s).sys.boot = s.sys.boot := by
  unfold State.swapStep
  repeat' (first
    | (simp [foldl_kept]; done)
    | split
    | (refine foldl_into _ (fun _ _ => ?_) _ ?_)
    | dsimp only)

@[simp] theorem State.activateAt_kept (s : State) (m : U32) : (State.activateAt s m).pending = s.pending ∧
    (State.activateAt s m).sys.fuses = s.sys.fuses ∧ (State.activateAt s m).sys.boot = s.sys.boot := by
  unfold State.activateAt
  split <;> simp

@[simp] theorem State.acceptStop_kept (s : State) (m : U32) : (State.acceptStop s m).pending = s.pending ∧
    (State.acceptStop s m).sys.fuses = s.sys.fuses ∧
        (State.acceptStop s m).sys.boot = s.sys.boot := by simp [State.acceptStop]

@[simp] theorem State.portsStop_kept (s : State) : (State.portsStop s).pending = s.pending ∧
    (State.portsStop s).sys.fuses = s.sys.fuses ∧ (State.portsStop s).sys.boot = s.sys.boot := by simp [State.portsStop]

@[simp] theorem State.gridStop_kept (s : State) : (State.gridStop s).pending = s.pending ∧
    (State.gridStop s).sys.fuses = s.sys.fuses ∧ (State.gridStop s).sys.boot = s.sys.boot := by simp [State.gridStop]

@[simp] theorem State.stopStep_kept (s : State) : (State.stopStep s).pending = s.pending ∧
    (State.stopStep s).sys.fuses = s.sys.fuses ∧ (State.stopStep s).sys.boot = s.sys.boot := by simp [State.stopStep]

@[simp] theorem State.freshFrames_kept (s : State) (n0 : U32) : (State.freshFrames s n0).pending = s.pending ∧
    (State.freshFrames s n0).sys.fuses = s.sys.fuses ∧
        (State.freshFrames s n0).sys.boot = s.sys.boot := by simp [State.freshFrames]

@[simp] theorem State.gridStart_kept (s : State) (v : GridVals) (apply : U32) :
    (State.gridStart s v apply).pending = s.pending ∧ (State.gridStart s v apply).sys.fuses = s.sys.fuses ∧
        (State.gridStart s v apply).sys.boot = s.sys.boot := by
  unfold State.gridStart
  dsimp only
  split <;> simp

@[simp] theorem State.gridChange_kept (s : State) (v : GridVals) (apply : U32) :
    (State.gridChange s v apply).pending = s.pending ∧ (State.gridChange s v apply).sys.fuses = s.sys.fuses ∧
        (State.gridChange s v apply).sys.boot = s.sys.boot := by simp [State.gridChange]

@[simp] theorem State.applyChange_kept (s : State) (m : U32) : (State.applyChange s m).pending = s.pending ∧
    (State.applyChange s m).sys.fuses = s.sys.fuses ∧ (State.applyChange s m).sys.boot = s.sys.boot := by
  unfold State.applyChange
  split <;> simp

@[simp] theorem State.applyQuantum_kept (s : State) : (State.applyQuantum s).pending = s.pending ∧
    (State.applyQuantum s).sys.fuses = s.sys.fuses ∧ (State.applyQuantum s).sys.boot = s.sys.boot := by
  unfold State.applyQuantum
  split <;> simp

@[simp] theorem State.zeroiseFrom_kept (s : State) (n : Nat) : (State.zeroiseFrom s n).pending = s.pending ∧
    (State.zeroiseFrom s n).sys.fuses = s.sys.fuses ∧
        (State.zeroiseFrom s n).sys.boot = s.sys.boot := by simp [State.zeroiseFrom]

@[simp] theorem State.writeSlot_kept (s : State) (n : Nat) (c : SlotCopy) (fails : Nat) :
    (State.writeSlot s n c fails).pending = s.pending ∧ (State.writeSlot s n c fails).sys.fuses = s.sys.fuses ∧
        (State.writeSlot s n c fails).sys.boot = s.sys.boot := by simp [State.writeSlot]

@[simp] theorem State.keep_kept (s : State) (k : WorkKey) : (s.keep k).1.pending = s.pending ∧
    (s.keep k).1.sys.fuses = s.sys.fuses ∧ (s.keep k).1.sys.boot = s.sys.boot := by simp [State.keep]

@[simp] theorem State.touch_kept (s : State) (blob : Bool) (root : Nat) (id : U32) (label : List U8) : (State.touch s blob root id label).pending = s.pending ∧
    (State.touch s blob root id label).sys.fuses = s.sys.fuses ∧ (State.touch s blob root id label).sys.boot = s.sys.boot := by
  unfold State.touch
  dsimp only
  repeat' (first | (simp; done) | (simp [foldl_kept]; done) | split)

@[simp] theorem State.keyFail_kept (s : State) (cause : Nat) (id : Nat) :
    (State.keyFail s cause id).pending = s.pending ∧ (State.keyFail s cause id).sys.fuses = s.sys.fuses ∧
        (State.keyFail s cause id).sys.boot = s.sys.boot := by simp [State.keyFail]

theorem State.derive_kept (s : State) (n b : Nat) (label : List U8) (bits : Nat) (r : State × List U8)
    (h : s.derive n b label bits = .ok r) :
    r.1.pending = s.pending ∧ r.1.sys.fuses = s.sys.fuses ∧ r.1.sys.boot = s.sys.boot := by
  unfold State.derive at h
  split at h
  · cases h
  · split at h <;> cases h
    simp

@[simp] theorem State.keyNeeded_kept (s : State) (id : U32) (root : Nat) (use : Nat) :
    (State.keyNeeded s id root use).pending = s.pending ∧ (State.keyNeeded s id root use).sys.fuses = s.sys.fuses ∧
        (State.keyNeeded s id root use).sys.boot = s.sys.boot := by simp [State.keyNeeded]

@[simp] theorem State.raiseProposal_kept (s : State) (p : Proposal) (step : Nat) (officer : Nat) :
    (State.raiseProposal s p step officer).pending = s.pending ∧
        (State.raiseProposal s p step officer).sys.fuses = s.sys.fuses ∧
            (State.raiseProposal s p step officer).sys.boot = s.sys.boot := by simp [State.raiseProposal]

@[simp] theorem State.tamperClear_kept (s : State) : (State.tamperClear s).pending = s.pending ∧
    (State.tamperClear s).sys.fuses = s.sys.fuses ∧
        (State.tamperClear s).sys.boot = s.sys.boot := by simp [State.tamperClear]

theorem State.applyProposal_kept (s : State) (p : Proposal) (fails : Nat) (t : State)
    (h : s.applyProposal p fails = some t) :
    t.pending = s.pending ∧ t.sys.fuses = s.sys.fuses ∧ t.sys.boot = s.sys.boot := by
  unfold State.applyProposal at h
  repeat' (first | contradiction | (cases h; simp; done) | split at h | (dsimp only at h))

@[simp] theorem State.failedWrite_kept (s : State) (p : Proposal) : (State.failedWrite s p).pending = s.pending ∧
    (State.failedWrite s p).sys.fuses = s.sys.fuses ∧
        (State.failedWrite s p).sys.boot = s.sys.boot := by simp [State.failedWrite]

@[simp] theorem State.raiseTamper_kept (s : State) (cause : Nat) (mode : Nat) :
    (State.raiseTamper s cause mode).pending = s.pending ∧ (State.raiseTamper s cause mode).sys.fuses = s.sys.fuses ∧
        (State.raiseTamper s cause mode).sys.boot = s.sys.boot := by simp [State.raiseTamper]

@[simp] theorem State.strictStop_kept (s : State) : (State.strictStop s).pending = s.pending ∧
    (State.strictStop s).sys.fuses = s.sys.fuses ∧ (State.strictStop s).sys.boot = s.sys.boot := by simp [State.strictStop]

@[simp] theorem State.zeroise_kept (s : State) (cause : Nat) : (State.zeroise s cause).pending = s.pending ∧
    (State.zeroise s cause).sys.fuses = s.sys.fuses ∧ (State.zeroise s cause).sys.boot = s.sys.boot := by
  unfold State.zeroise
  repeat' (first
    | (simp [foldl_kept]; done)
    | split
    | (refine foldl_into _ (fun _ _ => ?_) _ ?_)
    | dsimp only)

@[simp] theorem State.secureHold_kept (s : State) : (State.secureHold s).pending = s.pending ∧
    (State.secureHold s).sys.fuses = s.sys.fuses ∧ (State.secureHold s).sys.boot = s.sys.boot := by simp [State.secureHold]

@[simp] theorem State.tamper_kept (s : State) (cause : Nat) : (State.tamper s cause).pending = s.pending ∧
    (State.tamper s cause).sys.fuses = s.sys.fuses ∧ (State.tamper s cause).sys.boot = s.sys.boot := by
  unfold State.tamper
  split <;> simp

@[simp] theorem State.tripEnabled_kept (s : State) (was : BitVec 4) : (State.tripEnabled s was).pending = s.pending ∧
    (State.tripEnabled s was).sys.fuses = s.sys.fuses ∧ (State.tripEnabled s was).sys.boot = s.sys.boot := by
  unfold State.tripEnabled
  split <;> simp

@[simp] theorem State.foundLatched_kept (s : State) : (State.foundLatched s).pending = s.pending ∧
    (State.foundLatched s).sys.fuses = s.sys.fuses ∧
        (State.foundLatched s).sys.boot = s.sys.boot := by simp [State.foundLatched]

theorem State.settle_kept (s : State) (p : Proposal) (fails : Nat) : KeptE s (s.settle p fails) := by
  unfold State.settle
  dsimp only
  split
  · split
    · have h := State.applyProposal_kept _ _ _ _ ‹_›
      simp [h]
    · simp
  · simp

@[simp] theorem State.rejectImage_kept (s : State) (reason : Nat) : (State.rejectImage s reason).pending = s.pending ∧
    (State.rejectImage s reason).sys.fuses = s.sys.fuses ∧
        (State.rejectImage s reason).sys.boot = s.sys.boot := by simp [State.rejectImage]

theorem State.sectionKey_kept (s : State) (b : List U8) (t : State × List U8) (h : s.sectionKey b = .ok (.inl t)) :
    t.1.pending = s.pending ∧
    t.1.sys.fuses = s.sys.fuses ∧ t.1.sys.boot = s.sys.boot := by
  unfold State.sectionKey at h
  dsimp only at h
  split at h
  · split at h <;> cases h
    simp
  · cases e : s.derive (rd b 0x29 1) 0 (ascii "IMGK" ++ be 4 (p32 b 0x2C).toNat) 256 with
    | error x => rw [e] at h; cases h
    | ok r => rw [e] at h; cases h; exact State.derive_kept _ _ _ _ _ _ e

@[simp] theorem State.finishImage_kept (s : State) (b : List U8) (size : Nat) (plain : Option (List U8)) :
    (State.finishImage s b size plain).pending = s.pending ∧ (State.finishImage s b size plain).sys.fuses = s.sys.fuses ∧
        (State.finishImage s b size plain).sys.boot = s.sys.boot := by simp [State.finishImage]

@[simp] theorem State.sleepAll_kept (s : State) (w : Nat) : (State.sleepAll s w).pending = s.pending ∧
    (State.sleepAll s w).sys.fuses = s.sys.fuses ∧
        (State.sleepAll s w).sys.boot = s.sys.boot := by simp [State.sleepAll, foldl_kept]

@[simp] theorem State.raiseMode_kept (s : State) (mode : Nat) (prev : Nat) :
    (State.raiseMode s mode prev).pending = s.pending ∧ (State.raiseMode s mode prev).sys.fuses = s.sys.fuses ∧
        (State.raiseMode s mode prev).sys.boot = s.sys.boot := by simp [State.raiseMode]

@[simp] theorem State.standby_kept (s : State) (keep : BitVec 4) (onHouse : Bool) :
    (State.standby s keep onHouse).pending = s.pending ∧ (State.standby s keep onHouse).sys.fuses = s.sys.fuses ∧
        (State.standby s keep onHouse).sys.boot = s.sys.boot := by
  unfold State.standby
  (try simp only [])
  repeat' first
    | (simp; done)
    | (simp [foldl_kept, -List.foldl_reverse]; done)
    | split
    | (refine foldl_kept _ (fun _ _ => ?_) _ _)
    | (dsimp only)

@[simp] theorem State.trainAsleep_kept (s : State) (sp : Fin 12) : (State.trainAsleep s sp).pending = s.pending ∧
    (State.trainAsleep s sp).sys.fuses = s.sys.fuses ∧
        (State.trainAsleep s sp).sys.boot = s.sys.boot := by simp [State.trainAsleep]

@[simp] theorem State.wake_kept (s : State) (cause : Nat) : (State.wake s cause).pending = s.pending ∧
    (State.wake s cause).sys.fuses = s.sys.fuses ∧
        (State.wake s cause).sys.boot = s.sys.boot := by simp [State.wake, foldl_kept]

@[simp] theorem State.houseWake_kept (s : State) (cause : Nat) : (State.houseWake s cause).pending = s.pending ∧
    (State.houseWake s cause).sys.fuses = s.sys.fuses ∧
        (State.houseWake s cause).sys.boot = s.sys.boot := by simp [State.houseWake]

@[simp] theorem State.radioSchedule_kept (s : State) (i : Fin 4) : (State.radioSchedule s i).pending = s.pending ∧
    (State.radioSchedule s i).sys.fuses = s.sys.fuses ∧
        (State.radioSchedule s i).sys.boot = s.sys.boot := by simp [State.radioSchedule]

@[simp] theorem State.txDone_kept (s : State) (f : RadioTx) (outcome : Nat) :
    (State.txDone s f outcome).pending = s.pending ∧ (State.txDone s f outcome).sys.fuses = s.sys.fuses ∧
        (State.txDone s f outcome).sys.boot = s.sys.boot := by
  unfold State.txDone
  split <;> simp

@[simp] theorem State.unhold_kept (s : State) (i : Fin 4) (f : RadioTx) : (State.unhold s i f).pending = s.pending ∧
    (State.unhold s i f).sys.fuses = s.sys.fuses ∧ (State.unhold s i f).sys.boot = s.sys.boot := by simp [State.unhold]

@[simp] theorem State.newTx_kept (s : State) (i : Fin 4) (f : RadioTx) : (s.newTx i f).1.pending = s.pending ∧
    (s.newTx i f).1.sys.fuses = s.sys.fuses ∧ (s.newTx i f).1.sys.boot = s.sys.boot := by simp [State.newTx]

@[simp] theorem State.hold_kept (s : State) (i : Fin 4) (f : RadioTx) : (State.hold s i f).pending = s.pending ∧
    (State.hold s i f).sys.fuses = s.sys.fuses ∧ (State.hold s i f).sys.boot = s.sys.boot := by simp [State.hold]

@[simp] theorem State.queueTx_kept (s : State) (i : Fin 4) (f : RadioTx) : (State.queueTx s i f).pending = s.pending ∧
    (State.queueTx s i f).sys.fuses = s.sys.fuses ∧ (State.queueTx s i f).sys.boot = s.sys.boot := by simp [State.queueTx]

@[simp] theorem State.sendTo_kept (s : State) (i : Fin 4) (sleepy : Bool) (f : RadioTx) :
    (State.sendTo s i sleepy f).pending = s.pending ∧ (State.sendTo s i sleepy f).sys.fuses = s.sys.fuses ∧
        (State.sendTo s i sleepy f).sys.boot = s.sys.boot := by simp [State.sendTo]

@[simp] theorem State.dropQueue_kept (s : State) (i : Fin 4) : (State.dropQueue s i).pending = s.pending ∧
    (State.dropQueue s i).sys.fuses = s.sys.fuses ∧
        (State.dropQueue s i).sys.boot = s.sys.boot := by simp [State.dropQueue, foldl_kept]

@[simp] theorem State.radioApply_kept (s : State) (i : Fin 4) (c : RadioCfg) :
    (State.radioApply s i c).pending = s.pending ∧ (State.radioApply s i c).sys.fuses = s.sys.fuses ∧
        (State.radioApply s i c).sys.boot = s.sys.boot := by simp [State.radioApply]

@[simp] theorem State.radioDown_kept (s : State) (i : Fin 4) : (State.radioDown s i).pending = s.pending ∧
    (State.radioDown s i).sys.fuses = s.sys.fuses ∧ (State.radioDown s i).sys.boot = s.sys.boot := by simp [State.radioDown]

@[simp] theorem State.radioResume_kept (s : State) (i : Fin 4) : (State.radioResume s i).pending = s.pending ∧
    (State.radioResume s i).sys.fuses = s.sys.fuses ∧
        (State.radioResume s i).sys.boot = s.sys.boot := by simp [State.radioResume]

@[simp] theorem State.setRadio_kept (p : List U8) (s : State) : (State.setRadio p s).pending = s.pending ∧
    (State.setRadio p s).sys.fuses = s.sys.fuses ∧ (State.setRadio p s).sys.boot = s.sys.boot := by simp [State.setRadio]

@[simp] theorem State.identifyRadio_kept (s : State) (i : Fin 4) (resp : List U32) :
    (State.identifyRadio s i resp).pending = s.pending ∧ (State.identifyRadio s i resp).sys.fuses = s.sys.fuses ∧
        (State.identifyRadio s i resp).sys.boot = s.sys.boot := by
  unfold State.identifyRadio
  split <;> simp

@[simp] theorem State.laurelBuild_kept (s : State) (i : Fin 4) (tb : Int) : (s.laurelBuild i tb).1.pending = s.pending ∧
    (s.laurelBuild i tb).1.sys.fuses = s.sys.fuses ∧ (s.laurelBuild i tb).1.sys.boot = s.sys.boot := by
  unfold State.laurelBuild
  refine foldl_kept1 _ s (fun x b => ?_) _ _ (by simp)
  dsimp only
  repeat' first
    | (simp; done)
    | (simp [foldl_kept, -List.foldl_reverse]; done)
    | split
    | (refine foldl_kept _ (fun _ _ => ?_) _ _)
    | (dsimp only)

@[simp] theorem State.laurelUrgent_kept (s : State) (mask : U32) : (State.laurelUrgent s mask).pending = s.pending ∧
    (State.laurelUrgent s mask).sys.fuses = s.sys.fuses ∧ (State.laurelUrgent s mask).sys.boot = s.sys.boot := by
  unfold State.laurelUrgent
  (try simp only [])
  repeat' first
    | (simp; done)
    | (simp [foldl_kept, -List.foldl_reverse]; done)
    | split
    | (refine foldl_kept _ (fun _ _ => ?_) _ _)
    | (dsimp only)

@[simp] theorem State.modNode_kept (s : State) (i : Fin 4) (short : U16) (f : Node → Node) :
    (State.modNode s i short f).pending = s.pending ∧ (State.modNode s i short f).sys.fuses = s.sys.fuses ∧
        (State.modNode s i short f).sys.boot = s.sys.boot := by simp [State.modNode]

@[simp] theorem State.modStation_kept (s : State) (i : Fin 4) (n : Nat) (f : Station → Station) :
    (State.modStation s i n f).pending = s.pending ∧ (State.modStation s i n f).sys.fuses = s.sys.fuses ∧
        (State.modStation s i n f).sys.boot = s.sys.boot := by simp [State.modStation]

@[simp] theorem State.assocResponse_kept (s : State) (i : Fin 4) (ext : U64) (short : U16) (status : Nat) :
    (State.assocResponse s i ext short status).pending = s.pending ∧
        (State.assocResponse s i ext short status).sys.fuses = s.sys.fuses ∧
            (State.assocResponse s i ext short status).sys.boot = s.sys.boot := by simp [State.assocResponse]

@[simp] theorem State.associate_kept (s : State) (i : Fin 4) (ext : U64) (sleepy : Bool) :
    (State.associate s i ext sleepy).pending = s.pending ∧ (State.associate s i ext sleepy).sys.fuses = s.sys.fuses ∧
        (State.associate s i ext sleepy).sys.boot = s.sys.boot := by
  unfold State.associate
  split <;> simp

@[simp] theorem State.disassociate_kept (s : State) (i : Fin 4) (n : Node) :
    (State.disassociate s i n).pending = s.pending ∧ (State.disassociate s i n).sys.fuses = s.sys.fuses ∧
        (State.disassociate s i n).sys.boot = s.sys.boot := by simp [State.disassociate, foldl_kept]

@[simp] theorem State.acceptFrame_kept (s : State) (i : Fin 4) (f : RadioFrame) (t : Nat) :
    (State.acceptFrame s i f t).pending = s.pending ∧ (State.acceptFrame s i f t).sys.fuses = s.sys.fuses ∧
        (State.acceptFrame s i f t).sys.boot = s.sys.boot := by simp [State.acceptFrame]

@[simp] theorem State.privetHouse_kept (s : State) (i : Fin 4) (st : Nat) (mask : U32) :
    (State.privetHouse s i st mask).pending = s.pending ∧ (State.privetHouse s i st mask).sys.fuses = s.sys.fuses ∧
        (State.privetHouse s i st mask).sys.boot = s.sys.boot := by simp [State.privetHouse]

@[simp] theorem State.journalStation_kept (s : State) (key : Nat) (gen : U16) (c : U32) :
    (State.journalStation s key gen c).pending = s.pending ∧ (State.journalStation s key gen c).sys.fuses = s.sys.fuses ∧
        (State.journalStation s key gen c).sys.boot = s.sys.boot := by simp [State.journalStation]

theorem State.radioKey_kept (s : State) (i : Fin 4) (label : List U8) (t : State × List U8) (h : s.radioKey i label = some t) :
    t.1.pending = s.pending ∧
    t.1.sys.fuses = s.sys.fuses ∧ t.1.sys.boot = s.sys.boot := by
  unfold State.radioKey at h
  split at h <;> cases h
  exact State.derive_kept _ _ _ _ _ _ ‹_›

theorem State.radioOpen_kept (s : State) (i : Fin 4) (x : Node) (f : RadioFrame) (t : State × List U8)
    (h : s.radioOpen i x f = some t) : t.1.pending = s.pending ∧
    t.1.sys.fuses = s.sys.fuses ∧ t.1.sys.boot = s.sys.boot := by
  simp only [State.radioOpen] at h
  repeat' split at h
  all_goals first
    | (cases h; done)
    | (cases h; simp; done)
    | (obtain ⟨d, -, rfl⟩ := Option.map_eq_some_iff.1 h
       have k := State.radioKey_kept _ _ _ _ ‹s.radioKey _ _ = some _›
       exact k)

@[simp] theorem State.takeCounter_kept (s : State) (i : Fin 4) (src : U16) (c : U32) : (State.takeCounter s i src c).pending = s.pending ∧
    (State.takeCounter s i src c).sys.fuses = s.sys.fuses ∧ (State.takeCounter s i src c).sys.boot = s.sys.boot := by
  unfold State.takeCounter
  dsimp only
  repeat' (first | (simp; done) | (simp [foldl_kept]; done) | split)

theorem State.privetCheck_kept (s : State) (i : Fin 4) (f : RadioFrame) (t : State × List U8) (h : s.privetCheck i f = .ok t) :
    t.1.pending = s.pending ∧
    t.1.sys.fuses = s.sys.fuses ∧ t.1.sys.boot = s.sys.boot := by
  unfold State.privetCheck at h
  dsimp only at h
  repeat' (split at h)
  all_goals first | (cases h; done) | (cases h; simp [State.radioOpen_kept _ _ _ _ _ ‹_›])

@[simp] theorem State.privetReject_kept (s : State) (i : Fin 4) (f : RadioFrame) (cause : Nat) :
    (State.privetReject s i f cause).pending = s.pending ∧ (State.privetReject s i f cause).sys.fuses = s.sys.fuses ∧
        (State.privetReject s i f cause).sys.boot = s.sys.boot := by simp [State.privetReject]

@[simp] theorem State.privetReply_kept (s : State) (i : Fin 4) (dest : U16) (cmd : U8) (result : Nat) (arg : U32) :
    (State.privetReply s i dest cmd result arg).pending = s.pending ∧
        (State.privetReply s i dest cmd result arg).sys.fuses = s.sys.fuses ∧
            (State.privetReply s i dest cmd result arg).sys.boot = s.sys.boot := by simp [State.privetReply]

@[simp] theorem State.privetCommand_kept (s : State) (i : Fin 4) (f : RadioFrame) (data : List U8) : (State.privetCommand s i f data).pending = s.pending ∧
    (State.privetCommand s i f data).sys.fuses = s.sys.fuses ∧ (State.privetCommand s i f data).sys.boot = s.sys.boot := by
  unfold State.privetCommand
  repeat' (first
    | (simp [foldl_kept]; done)
    | split
    | (refine foldl_into _ (fun _ _ => ?_) _ ?_)
    | dsimp only)

@[simp] theorem State.feedRecords_kept (s : State) (at_ : Int) (d : List U8) : (State.feedRecords s at_ d).pending = s.pending ∧
    (State.feedRecords s at_ d).sys.fuses = s.sys.fuses ∧ (State.feedRecords s at_ d).sys.boot = s.sys.boot := by
  unfold State.feedRecords
  repeat' (first
    | (simp [foldl_kept]; done)
    | split
    | (refine foldl_into _ (fun _ _ => ?_) _ ?_)
    | dsimp only)

@[simp] theorem State.queueRx_kept (s : State) (i : Fin 4) (f : RadioFrame) (data : List U8) : (State.queueRx s i f data).pending = s.pending ∧
    (State.queueRx s i f data).sys.fuses = s.sys.fuses ∧ (State.queueRx s i f data).sys.boot = s.sys.boot := by
  unfold State.queueRx
  repeat' (first
    | (simp [foldl_kept]; done)
    | split
    | (refine foldl_into _ (fun _ _ => ?_) _ ?_)
    | dsimp only)

@[simp] theorem State.takeData_kept (s : State) (i : Fin 4) (f : RadioFrame) (data : List U8) : (State.takeData s i f data).pending = s.pending ∧
    (State.takeData s i f data).sys.fuses = s.sys.fuses ∧ (State.takeData s i f data).sys.boot = s.sys.boot := by
  unfold State.takeData
  repeat' (first
    | (simp [foldl_kept]; done)
    | split
    | (refine foldl_into _ (fun _ _ => ?_) _ ?_)
    | dsimp only)

@[simp] theorem State.alignChild_kept (s : State) (i : Fin 4) (t : Int) : (State.alignChild s i t).pending = s.pending ∧
    (State.alignChild s i t).sys.fuses = s.sys.fuses ∧
        (State.alignChild s i t).sys.boot = s.sys.boot := by simp [State.alignChild]

@[simp] theorem State.regainSync_kept (s : State) (i : Fin 4) : (State.regainSync s i).pending = s.pending ∧
    (State.regainSync s i).sys.fuses = s.sys.fuses ∧
        (State.regainSync s i).sys.boot = s.sys.boot := by simp [State.regainSync]

@[simp] theorem State.buildBeacon_kept (s : State) (i : Fin 4) (tb : Int) :
    (State.buildBeacon s i tb).pending = s.pending ∧ (State.buildBeacon s i tb).sys.fuses = s.sys.fuses ∧
        (State.buildBeacon s i tb).sys.boot = s.sys.boot := by
  unfold State.buildBeacon
  dsimp only
  repeat' split
  all_goals simp

@[simp] theorem State.transmit_kept (s : State) (i : Fin 4) (f : RadioTx) : (State.transmit s i f).pending = s.pending ∧
    (State.transmit s i f).sys.fuses = s.sys.fuses ∧
        (State.transmit s i f).sys.boot = s.sys.boot := by simp [State.transmit]

@[simp] theorem nodeControl_kept (q : Req) (s : State) : (nodeControl q s).pending = s.pending ∧
    (nodeControl q s).sys.fuses = s.sys.fuses ∧ (nodeControl q s).sys.boot = s.sys.boot := by
  unfold nodeControl
  refine serve_kept _ _ _ _ _ (fun s => ?_)
  dsimp only
  repeat' first
    | (refine KeptE.trans ?_ (State.settle_kept _ _ _))
    | (refine keptE_require _ _ _ _ ?_)
    | (refine keptE_bulkLength _ _ _ _ ?_)
    | (refine keptE_withBulk _ _ _ _ _ (fun _ => ?_))
    | (refine keptE_onSpan _ _ _ (fun _ => ?_))
    | (refine keptE_onLane _ _ _ (fun _ _ => ?_))
    | (refine keptE_onRdm _ _ _ _ (fun _ => ?_))
    | (refine keptE_pierControl _ _ _ _ ?_)
    | (exact State.settle_kept _ _ _)
    | (simp; done)
    | (simp [foldl_kept, -List.foldl_reverse]; done)
    | split

@[simp] theorem State.setStation_kept (p : List U8) (s : State) : (State.setStation p s).pending = s.pending ∧
    (State.setStation p s).sys.fuses = s.sys.fuses ∧
        (State.setStation p s).sys.boot = s.sys.boot := by simp [State.setStation]

@[simp] theorem State.sendBulk_kept (s : State) (kind : U8) (peer : U32) (payload : List U8) :
    (State.sendBulk s kind peer payload).pending = s.pending ∧
        (State.sendBulk s kind peer payload).sys.fuses = s.sys.fuses ∧
            (State.sendBulk s kind peer payload).sys.boot = s.sys.boot := by simp [State.sendBulk]

@[simp] theorem State.bulkPump_kept (n k : Nat) (s : State) :
    (State.bulkPump n k s).pending = s.pending ∧ (State.bulkPump n k s).sys.fuses = s.sys.fuses ∧
        (State.bulkPump n k s).sys.boot = s.sys.boot := by
  induction n generalizing s with
  | zero => simp [State.bulkPump]
  | succ n ih =>
    unfold State.bulkPump
    dsimp only
    split <;> simp [ih]

@[simp] theorem State.bulkStart_kept (s : State) (kind : U8) (id : U32) (peer : U32) (bytes : List U8) :
    (State.bulkStart s kind id peer bytes).pending = s.pending ∧
        (State.bulkStart s kind id peer bytes).sys.fuses = s.sys.fuses ∧
            (State.bulkStart s kind id peer bytes).sys.boot = s.sys.boot := by simp [State.bulkStart]

@[simp] theorem State.bulkDrop_kept (s : State) (key : Nat) : (State.bulkDrop s key).pending = s.pending ∧
    (State.bulkDrop s key).sys.fuses = s.sys.fuses ∧
        (State.bulkDrop s key).sys.boot = s.sys.boot := by simp [State.bulkDrop]

@[simp] theorem State.bulkAck_kept (s : State) (src : U32) (id : U32) (off : Nat) :
    (State.bulkAck s src id off).pending = s.pending ∧ (State.bulkAck s src id off).sys.fuses = s.sys.fuses ∧
        (State.bulkAck s src id off).sys.boot = s.sys.boot := by simp [State.bulkAck]

@[simp] theorem State.bulkData_kept (s : State) (src : U32) (p : List U8) :
    (State.bulkData s src p).pending = s.pending ∧ (State.bulkData s src p).sys.fuses = s.sys.fuses ∧
        (State.bulkData s src p).sys.boot = s.sys.boot := by simp [State.bulkData]

@[simp] theorem State.bulkResend_kept (s : State) (key : Nat) : (State.bulkResend s key).pending = s.pending ∧
    (State.bulkResend s key).sys.fuses = s.sys.fuses ∧
        (State.bulkResend s key).sys.boot = s.sys.boot := by simp [State.bulkResend]

@[simp] theorem State.trapSettle_kept (s : State) : (State.trapSettle s).pending = s.pending ∧
    (State.trapSettle s).sys.fuses = s.sys.fuses ∧
        (State.trapSettle s).sys.boot = s.sys.boot := foldl_kept _ (fun _ _ => by split <;> simp) _ _

@[simp] theorem State.leaveOut_kept (s : State) (f : Nat) (m : U32) : (State.leaveOut s f m).pending = s.pending ∧
    (State.leaveOut s f m).sys.fuses = s.sys.fuses ∧
        (State.leaveOut s f m).sys.boot = s.sys.boot := by simp [State.leaveOut]

@[simp] theorem State.trap_kept (s : State) (n : Nat) (cause : Nat) : (State.trap s n cause).pending = s.pending ∧
    (State.trap s n cause).sys.fuses = s.sys.fuses ∧ (State.trap s n cause).sys.boot = s.sys.boot := by simp [State.trap]

@[simp] theorem State.excludeCore_kept (s : State) (k : Fin 64) (m : U32) :
    (State.excludeCore s k m).pending = s.pending ∧ (State.excludeCore s k m).sys.fuses = s.sys.fuses ∧
        (State.excludeCore s k m).sys.boot = s.sys.boot := by simp [State.excludeCore]

@[simp] theorem State.sendResync_kept (s : State) (kind : Nat) (r : U32) (bytes : Nat) :
    (State.sendResync s kind r bytes).pending = s.pending ∧ (State.sendResync s kind r bytes).sys.fuses = s.sys.fuses ∧
        (State.sendResync s kind r bytes).sys.boot = s.sys.boot := by simp [State.sendResync]

@[simp] theorem State.resyncBegin_kept (s : State) (r : U32) : (State.resyncBegin s r).pending = s.pending ∧
    (State.resyncBegin s r).sys.fuses = s.sys.fuses ∧
        (State.resyncBegin s r).sys.boot = s.sys.boot := by simp [State.resyncBegin]

@[simp] theorem State.resyncAbandon_kept (s : State) : (State.resyncAbandon s).pending = s.pending ∧
    (State.resyncAbandon s).sys.fuses = s.sys.fuses ∧ (State.resyncAbandon s).sys.boot = s.sys.boot := by
  unfold State.resyncAbandon
  split <;> simp

@[simp] theorem State.resyncReadable_kept (s : State) : (State.resyncReadable s).pending = s.pending ∧
    (State.resyncReadable s).sys.fuses = s.sys.fuses ∧ (State.resyncReadable s).sys.boot = s.sys.boot := by
  unfold State.resyncReadable
  split <;> simp

@[simp] theorem State.resyncDone_kept (s : State) : (State.resyncDone s).pending = s.pending ∧
    (State.resyncDone s).sys.fuses = s.sys.fuses ∧ (State.resyncDone s).sys.boot = s.sys.boot := by
  unfold State.resyncDone
  split <;> simp

@[simp] theorem State.discardAfter_kept (s : State) (r : U32) : (State.discardAfter s r).pending = s.pending ∧
    (State.discardAfter s r).sys.fuses = s.sys.fuses ∧
        (State.discardAfter s r).sys.boot = s.sys.boot := by simp [State.discardAfter]

@[simp] theorem State.resyncInstall_kept (s : State) (r : U32) (x : ResyncState) :
    (State.resyncInstall s r x).pending = s.pending ∧ (State.resyncInstall s r x).sys.fuses = s.sys.fuses ∧
        (State.resyncInstall s r x).sys.boot = s.sys.boot := by simp [State.resyncInstall]

@[simp] theorem State.firstOf_kept (s : State) (m : U32) : (State.firstOf s m).pending = s.pending ∧
    (State.firstOf s m).sys.fuses = s.sys.fuses ∧ (State.firstOf s m).sys.boot = s.sys.boot := by
  unfold State.firstOf
  dsimp only
  repeat' split
  all_goals simp

@[simp] theorem State.renderCheck_kept (s : State) : (State.renderCheck s).pending = s.pending ∧
    (State.renderCheck s).sys.fuses = s.sys.fuses ∧ (State.renderCheck s).sys.boot = s.sys.boot := by
  unfold State.renderCheck
  dsimp only
  split
  · have h := State.underImage_kept (s.firstOf s.sched.gateFrame) s.sched.gateFrame
      (fun s_1 => (match s_1.sh.active with
        | some im => s_1.cmuReads im s.sched.gateFrame
        | none => s_1).renderEnd s.sched.gateFrame) fun t => by split <;> simp
    exact ⟨h.1.trans (by simp), h.2.1.trans (by simp), h.2.2.trans (by simp)⟩
  · simp

@[simp] theorem State.dispatchTrap_kept (s : State) (n : Nat) (k : Fin 64) :
    (State.dispatchTrap s n k).pending = s.pending ∧ (State.dispatchTrap s n k).sys.fuses = s.sys.fuses ∧
        (State.dispatchTrap s n k).sys.boot = s.sys.boot := by simp [State.dispatchTrap]

@[simp] theorem State.programRead_kept (s : State) (d : Desc) (k : Fin 64) : (State.programRead s d k).pending = s.pending ∧
    (State.programRead s d k).sys.fuses = s.sys.fuses ∧ (State.programRead s d k).sys.boot = s.sys.boot := by
  unfold State.programRead
  repeat' (first
    | (simp [foldl_kept]; done)
    | split
    | (refine foldl_into _ (fun _ _ => ?_) _ ?_)
    | dsimp only)

@[simp] theorem State.dispatch_kept (s : State) (port : Fin 4) : (State.dispatch s port).pending = s.pending ∧
    (State.dispatch s port).sys.fuses = s.sys.fuses ∧ (State.dispatch s port).sys.boot = s.sys.boot := by
  unfold State.dispatch
  repeat' (first
    | (simp [foldl_kept]; done)
    | split
    | (refine foldl_into _ (fun _ _ => ?_) _ ?_)
    | dsimp only)

@[simp] theorem State.taskWrites_kept (s : State) (d : Desc) (f : Flow) (r : TaskOut) :
    (State.taskWrites s d f r).pending = s.pending ∧ (State.taskWrites s d f r).sys.fuses = s.sys.fuses ∧
        (State.taskWrites s d f r).sys.boot = s.sys.boot := by simp [State.taskWrites]

@[simp] theorem State.packOf_kept (s : State) (route : Nat) (m : U32) : (State.packOf s route m).pending = s.pending ∧
    (State.packOf s route m).sys.fuses = s.sys.fuses ∧ (State.packOf s route m).sys.boot = s.sys.boot := by
  unfold State.packOf
  repeat' split
  all_goals simp

@[simp] theorem State.sendPacked_kept (s : State) (e : SendSlot) : (State.sendPacked s e).pending = s.pending ∧
    (State.sendPacked s e).sys.fuses = s.sys.fuses ∧ (State.sendPacked s e).sys.boot = s.sys.boot := by
  unfold State.sendPacked
  split
  · simp
  · exact State.underImage_kept _ _ _ fun t => by split <;> simp

@[simp] theorem State.sendReady_kept (n : Nat) (s : State) : (State.sendReady n s).pending = s.pending ∧
    (State.sendReady n s).sys.fuses = s.sys.fuses ∧ (State.sendReady n s).sys.boot = s.sys.boot := by
  induction n generalizing s with
  | zero => simp [State.sendReady]
  | succ n ih =>
    unfold State.sendReady
    repeat' (first | (simp [ih]; done) | split)

@[simp] theorem State.flushSends_kept (s : State) : (State.flushSends s).pending = s.pending ∧
    (State.flushSends s).sys.fuses = s.sys.fuses ∧ (State.flushSends s).sys.boot = s.sys.boot := by
  unfold State.flushSends
  repeat' (first
    | (simp [foldl_kept]; done)
    | split
    | (refine foldl_into _ (fun _ _ => ?_) _ ?_)
    | dsimp only)

@[simp] theorem State.packTask_kept (s : State) (d : Desc) : (State.packTask s d).pending = s.pending ∧
    (State.packTask s d).sys.fuses = s.sys.fuses ∧ (State.packTask s d).sys.boot = s.sys.boot := by simp [State.packTask]

@[simp] theorem State.taskGrant_kept (s : State) (d : Desc) : (State.taskGrant s d).pending = s.pending ∧
    (State.taskGrant s d).sys.fuses = s.sys.fuses ∧ (State.taskGrant s d).sys.boot = s.sys.boot := by
  unfold State.taskGrant
  repeat' (first
    | (simp [foldl_kept]; done)
    | split
    | (refine foldl_into _ (fun _ _ => ?_) _ ?_)
    | dsimp only)

@[simp] theorem State.taskEnd_kept (s : State) (n : Nat) : (State.taskEnd s n).pending = s.pending ∧
    (State.taskEnd s n).sys.fuses = s.sys.fuses ∧ (State.taskEnd s n).sys.boot = s.sys.boot := by
  unfold State.taskEnd
  repeat' (first
    | (simp [foldl_kept]; done)
    | split
    | (refine foldl_into _ (fun _ _ => ?_) _ ?_)
    | dsimp only)

@[simp] theorem State.hedgerowRelease_kept (s : State) : (State.hedgerowRelease s).pending = s.pending ∧
    (State.hedgerowRelease s).sys.fuses = s.sys.fuses ∧ (State.hedgerowRelease s).sys.boot = s.sys.boot := by
  unfold State.hedgerowRelease
  split <;> simp

@[simp] theorem State.askPack_kept (s : State) (m : U32) : (State.askPack s m).pending = s.pending ∧
    (State.askPack s m).sys.fuses = s.sys.fuses ∧ (State.askPack s m).sys.boot = s.sys.boot := by
  unfold State.askPack
  (try simp only [])
  repeat' first
    | (simp; done)
    | (simp [foldl_kept, -List.foldl_reverse]; done)
    | split
    | (refine foldl_kept _ (fun _ _ => ?_) _ _)
    | (dsimp only)

@[simp] theorem State.commitStats_kept (s : State) (m : U32) (t : Nat) : (State.commitStats s m t).pending = s.pending ∧
    (State.commitStats s m t).sys.fuses = s.sys.fuses ∧
        (State.commitStats s m t).sys.boot = s.sys.boot := by simp [State.commitStats]

@[simp] theorem State.commit_kept (s : State) (m : U32) : (State.commit s m).pending = s.pending ∧
    (State.commit s m).sys.fuses = s.sys.fuses ∧ (State.commit s m).sys.boot = s.sys.boot := by simp [State.commit]

@[simp] theorem State.commitStep_kept (s : State) : (State.commitStep s).pending = s.pending ∧
    (State.commitStep s).sys.fuses = s.sys.fuses ∧ (State.commitStep s).sys.boot = s.sys.boot := by simp [State.commitStep]

@[simp] theorem State.sendHeartbeat_kept (s : State) : (State.sendHeartbeat s).pending = s.pending ∧
    (State.sendHeartbeat s).sys.fuses = s.sys.fuses ∧
        (State.sendHeartbeat s).sys.boot = s.sys.boot := by simp [State.sendHeartbeat]

@[simp] theorem State.partnerShown_kept (s : State) (p : List U8) : (State.partnerShown s p).pending = s.pending ∧
    (State.partnerShown s p).sys.fuses = s.sys.fuses ∧
        (State.partnerShown s p).sys.boot = s.sys.boot := by simp [State.partnerShown]

@[simp] theorem State.judgePin_kept (s : State) : (State.judgePin s).pending = s.pending ∧
    (State.judgePin s).sys.fuses = s.sys.fuses ∧ (State.judgePin s).sys.boot = s.sys.boot := by simp [State.judgePin]

@[simp] theorem State.judgeRender_kept (s : State) (m : U32) : (State.judgeRender s m).pending = s.pending ∧
    (State.judgeRender s m).sys.fuses = s.sys.fuses ∧
        (State.judgeRender s m).sys.boot = s.sys.boot := by simp [State.judgeRender]

@[simp] theorem State.planHeal_kept (s : State) : (State.planHeal s).pending = s.pending ∧
    (State.planHeal s).sys.fuses = s.sys.fuses ∧ (State.planHeal s).sys.boot = s.sys.boot := by simp [State.planHeal]

@[simp] theorem State.holderHears_kept (s : State) : (State.holderHears s).pending = s.pending ∧
    (State.holderHears s).sys.fuses = s.sys.fuses ∧ (State.holderHears s).sys.boot = s.sys.boot := by
  unfold State.holderHears
  dsimp only
  repeat' split
  all_goals simp

@[simp] theorem State.heartbeatMsg_kept (s : State) (p : List U8) : (State.heartbeatMsg s p).pending = s.pending ∧
    (State.heartbeatMsg s p).sys.fuses = s.sys.fuses ∧
        (State.heartbeatMsg s p).sys.boot = s.sys.boot := by simp [State.heartbeatMsg]

@[simp] theorem State.silence_kept (s : State) : (State.silence s).pending = s.pending ∧
    (State.silence s).sys.fuses = s.sys.fuses ∧ (State.silence s).sys.boot = s.sys.boot := by
  unfold State.silence
  dsimp only
  repeat' split
  all_goals simp

@[simp] theorem State.seeEpoch_kept (s : State) (e : U32) : (State.seeEpoch s e).pending = s.pending ∧
    (State.seeEpoch s e).sys.fuses = s.sys.fuses ∧ (State.seeEpoch s e).sys.boot = s.sys.boot := by simp [State.seeEpoch]

@[simp] theorem State.releaseIn_kept (s : State) (p : List U8) : (State.releaseIn s p).pending = s.pending ∧
    (State.releaseIn s p).sys.fuses = s.sys.fuses ∧ (State.releaseIn s p).sys.boot = s.sys.boot := by simp [State.releaseIn]

@[simp] theorem State.claimIn_kept (s : State) (p : List U8) : (State.claimIn s p).pending = s.pending ∧
    (State.claimIn s p).sys.fuses = s.sys.fuses ∧ (State.claimIn s p).sys.boot = s.sys.boot := by simp [State.claimIn]

@[simp] theorem State.revertIn_kept (s : State) (p : List U8) : (State.revertIn s p).pending = s.pending ∧
    (State.revertIn s p).sys.fuses = s.sys.fuses ∧ (State.revertIn s p).sys.boot = s.sys.boot := by
  unfold State.revertIn
  repeat' split
  all_goals simp

@[simp] theorem State.handover_kept (s : State) (h : Handover) : (State.handover s h).pending = s.pending ∧
    (State.handover s h).sys.fuses = s.sys.fuses ∧ (State.handover s h).sys.boot = s.sys.boot := by
  unfold State.handover
  repeat' (first
    | (simp [foldl_kept]; done)
    | split
    | (refine foldl_into _ (fun _ _ => ?_) _ ?_)
    | dsimp only)

@[simp] theorem State.resyncIn_kept (s : State) (p : List U8) : (State.resyncIn s p).pending = s.pending ∧
    (State.resyncIn s p).sys.fuses = s.sys.fuses ∧ (State.resyncIn s p).sys.boot = s.sys.boot := by simp [State.resyncIn]

@[simp] theorem State.setPier_kept (p : List U8) (s : State) : (State.setPier p s).pending = s.pending ∧
    (State.setPier p s).sys.fuses = s.sys.fuses ∧ (State.setPier p s).sys.boot = s.sys.boot := by simp [State.setPier]

@[simp] theorem State.setPairing_kept (p : List U8) (s : State) : (State.setPairing p s).pending = s.pending ∧
    (State.setPairing p s).sys.fuses = s.sys.fuses ∧ (State.setPairing p s).sys.boot = s.sys.boot := by
  have h := State.memberChange_kept s (fun s =>
    { s with pier.cfg := pierCfg p, pier.partnerState := 0xFF, pier.hb := none, pier.hb0 := none, pier.hb1 := none,
             pier.partnerSeq := none, pier.partnerChecks := 0, pier.lostLink := false, pier.lostWitness := false,
             pier.lostPin := false, pier.unreachable := false }) fun t => ⟨rfl, rfl, rfl⟩
  have key : ∀ t : State, t.pending = s.pending ∧
    t.sys.fuses = s.sys.fuses ∧ t.sys.boot = s.sys.boot →
      let u := if t.running then t else if (pierCfg p).enable then (if t.pier.st = 0 then t.pierTo 1 else t) else t.pierTo 0
      u.pending = s.pending ∧
    u.sys.fuses = s.sys.fuses ∧ u.sys.boot = s.sys.boot := by
    intro t ht
    dsimp only
    repeat' split
    all_goals simp [ht]
  refine key _ ?_
  split
  · simp
  · exact h

@[simp] theorem keptE_pierControl (s : State) (a b : Bool) (f : State → State)
    (h : (f s).pending = s.pending ∧ (f s).sys.fuses = s.sys.fuses ∧
        (f s).sys.boot = s.sys.boot) : KeptE s (s.pierControl a b f) := by
  unfold State.pierControl
  exact keptE_require _ _ _ _ (keptE_require _ _ _ _ (keptE_require _ _ _ _ (by simp [h])))

@[simp] theorem State.gridStopAt_kept (s : State) (m : U32) : (State.gridStopAt s m).pending = s.pending ∧
    (State.gridStopAt s m).sys.fuses = s.sys.fuses ∧ (State.gridStopAt s m).sys.boot = s.sys.boot := by
  unfold State.gridStopAt
  split <;> simp

@[simp] theorem gridSet_kept (q : Req) (s : State) : (gridSet q s).pending = s.pending ∧
    (gridSet q s).sys.fuses = s.sys.fuses ∧ (gridSet q s).sys.boot = s.sys.boot := by
  unfold gridSet
  refine serve_kept _ _ _ _ _ (fun s => ?_)
  refine keptE_require _ _ _ _ ?_
  split
  · refine keptE_require _ _ _ _ ?_
    split <;> exact keptE_require _ _ _ _ (by simp)
  · split
    · exact keptE_require _ _ _ _ (by simp)
    · simp

@[simp] theorem State.tickBoundary_kept (s : State) : (State.tickBoundary s).pending = s.pending ∧
    (State.tickBoundary s).sys.fuses = s.sys.fuses ∧
        (State.tickBoundary s).sys.boot = s.sys.boot := by simp [State.tickBoundary]

@[simp] theorem State.present_kept (s : State) (m : U32) : (State.present s m).pending = s.pending ∧
    (State.present s m).sys.fuses = s.sys.fuses ∧ (State.present s m).sys.boot = s.sys.boot := by
  unfold State.present
  dsimp only
  split <;> simp

@[simp] theorem State.houseAssert_kept (s : State) : (State.houseAssert s).pending = s.pending ∧
    (State.houseAssert s).sys.fuses = s.sys.fuses ∧
        (State.houseAssert s).sys.boot = s.sys.boot := by simp [State.houseAssert]

@[simp] theorem State.houseRelease_kept (s : State) : (State.houseRelease s).pending = s.pending ∧
    (State.houseRelease s).sys.fuses = s.sys.fuses ∧
        (State.houseRelease s).sys.boot = s.sys.boot := by simp [State.houseRelease]

@[simp] theorem State.houseNow_kept (s : State) (new : U32) : (State.houseNow s new).pending = s.pending ∧
    (State.houseNow s new).sys.fuses = s.sys.fuses ∧ (State.houseNow s new).sys.boot = s.sys.boot := by
  unfold State.houseNow
  dsimp only
  repeat' (first | (simp; done) | (simp [foldl_kept]; done) | split)

@[simp] theorem State.houseApply_kept (s : State) : (State.houseApply s).pending = s.pending ∧
    (State.houseApply s).sys.fuses = s.sys.fuses ∧ (State.houseApply s).sys.boot = s.sys.boot := by
  unfold State.houseApply
  dsimp only
  repeat' split
  all_goals simp

@[simp] theorem State.excludeSensors_kept (s : State) : (State.excludeSensors s).pending = s.pending ∧
    (State.excludeSensors s).sys.fuses = s.sys.fuses ∧
        (State.excludeSensors s).sys.boot = s.sys.boot := by simp [State.excludeSensors, foldl_kept]

@[simp] theorem State.orderlyStop_kept (s : State) : (State.orderlyStop s).pending = s.pending ∧
    (State.orderlyStop s).sys.fuses = s.sys.fuses ∧
        (State.orderlyStop s).sys.boot = s.sys.boot := by simp [State.orderlyStop]

@[simp] theorem State.levelChanged_kept (s : State) (prev : Nat) : (State.levelChanged s prev).pending = s.pending ∧
    (State.levelChanged s prev).sys.fuses = s.sys.fuses ∧
        (State.levelChanged s prev).sys.boot = s.sys.boot := by simp [State.levelChanged]

@[simp] theorem State.thermalEvaluate_kept (s : State) (r : ThermalRead) :
    (State.thermalEvaluate s r).pending = s.pending ∧ (State.thermalEvaluate s r).sys.fuses = s.sys.fuses ∧
        (State.thermalEvaluate s r).sys.boot = s.sys.boot := by
  unfold State.thermalEvaluate
  dsimp only
  split <;> simp

@[simp] theorem State.reborn_kept (s : State) (cause : Nat) : (State.reborn s cause).pending = s.pending ∧
    (State.reborn s cause).sys.fuses = s.sys.fuses := by simp [State.reborn]

@[simp] theorem State.powerOff_kept (s : State) (heat : Bool) : (State.powerOff s heat).pending = s.pending ∧
    (State.powerOff s heat).sys.fuses = s.sys.fuses := by simp [State.powerOff]

@[simp] theorem State.blankBox_kept (s : State) : (State.blankBox s).pending = s.pending ∧
    (State.blankBox s).sys.fuses = s.sys.fuses ∧ (State.blankBox s).sys.boot = s.sys.boot := by simp [State.blankBox]

@[simp] theorem State.bankPairs_kept (s : State) (bank : Fin 2) (f : Pair → Pair) :
    (State.bankPairs s bank f).pending = s.pending ∧ (State.bankPairs s bank f).sys.fuses = s.sys.fuses ∧
        (State.bankPairs s bank f).sys.boot = s.sys.boot := by simp [State.bankPairs]

@[simp] theorem powerModeSet_kept (q : Req) (s : State) : (powerModeSet q s).pending = s.pending ∧
    (powerModeSet q s).sys.fuses = s.sys.fuses ∧ (powerModeSet q s).sys.boot = s.sys.boot := by
  unfold powerModeSet
  refine serve_kept _ _ _ _ _ (fun s => ?_)
  dsimp only
  repeat' first
    | (refine KeptE.trans ?_ (State.settle_kept _ _ _))
    | (refine keptE_require _ _ _ _ ?_)
    | (refine keptE_bulkLength _ _ _ _ ?_)
    | (refine keptE_withBulk _ _ _ _ _ (fun _ => ?_))
    | (refine keptE_onSpan _ _ _ (fun _ => ?_))
    | (refine keptE_onLane _ _ _ (fun _ _ => ?_))
    | (refine keptE_onRdm _ _ _ _ (fun _ => ?_))
    | (refine keptE_pierControl _ _ _ _ ?_)
    | (exact State.settle_kept _ _ _)
    | (simp; done)
    | (simp [foldl_kept, -List.foldl_reverse]; done)
    | split

@[simp] theorem State.setWake_kept (p : List U8) (s : State) : (State.setWake p s).pending = s.pending ∧
    (State.setWake p s).sys.fuses = s.sys.fuses ∧ (State.setWake p s).sys.boot = s.sys.boot := by simp [State.setWake]

@[simp] theorem State.setThermal_kept (p : List U8) (s : State) : (State.setThermal p s).pending = s.pending ∧
    (State.setThermal p s).sys.fuses = s.sys.fuses ∧
        (State.setThermal p s).sys.boot = s.sys.boot := by simp [State.setThermal]

@[simp] theorem State.modCh_kept (s : State) (c : Fin 8) (f : Chan → Chan) : (State.modCh s c f).pending = s.pending ∧
    (State.modCh s c f).sys.fuses = s.sys.fuses ∧ (State.modCh s c f).sys.boot = s.sys.boot := by simp [State.modCh]

@[simp] theorem State.writeUnits_kept (s : State) (c : Fin 8) (k : U16) (bytes : List U8) :
    (State.writeUnits s c k bytes).pending = s.pending ∧ (State.writeUnits s c k bytes).sys.fuses = s.sys.fuses ∧
        (State.writeUnits s c k bytes).sys.boot = s.sys.boot := by simp [State.writeUnits, foldl_kept]

theorem State.messageKey_kept (s : State) (i : U32) (r : State × List U8) (h : s.messageKey i = .ok r) :
    r.1.pending = s.pending ∧
    r.1.sys.fuses = s.sys.fuses ∧ r.1.sys.boot = s.sys.boot := by
  simp only [State.messageKey] at h
  repeat' split at h
  all_goals first
    | (cases h; done)
    | (cases h; simp; done)
    | (cases h; exact State.derive_kept _ _ _ _ _ _ ‹_›)

@[simp] theorem State.signed_kept (s : State) (c : Fin 8) (r : Rsp) : (s.signed c r).1.pending = s.pending ∧
    (s.signed c r).1.sys.fuses = s.sys.fuses ∧ (s.signed c r).1.sys.boot = s.sys.boot := by
  unfold State.signed
  dsimp only
  split
  · simp
  · split
    · simp [State.messageKey_kept _ _ _ ‹_›]
    · simp

@[simp] theorem State.sendBack_kept (s : State) (v : Via) (bytes : List U8) :
    (State.sendBack s v bytes).pending = s.pending ∧ (State.sendBack s v bytes).sys.fuses = s.sys.fuses ∧
        (State.sendBack s v bytes).sys.boot = s.sys.boot := by
  unfold State.sendBack
  split <;> simp

@[simp] theorem State.authFail_kept (s : State) (v : Via) (chan : Nat) (key : U32) :
    (State.authFail s v chan key).pending = s.pending ∧ (State.authFail s v chan key).sys.fuses = s.sys.fuses ∧
        (State.authFail s v chan key).sys.boot = s.sys.boot := by
  unfold State.authFail
  split <;> simp

@[simp] theorem State.authPass_kept (s : State) (v : Via) (chan : Nat) : (State.authPass s v chan).pending = s.pending ∧
    (State.authPass s v chan).sys.fuses = s.sys.fuses ∧
        (State.authPass s v chan).sys.boot = s.sys.boot := by simp [State.authPass]

@[simp] theorem State.answerNow_kept (s : State) (v : Via) (h : MsgHead) (e : Status) : (State.answerNow s v h e).pending = s.pending ∧
    (State.answerNow s v h e).sys.fuses = s.sys.fuses ∧ (State.answerNow s v h e).sys.boot = s.sys.boot := by
  unfold State.answerNow
  repeat' (first
    | (simp [foldl_kept]; done)
    | split
    | (refine foldl_into _ (fun _ _ => ?_) _ ?_)
    | dsimp only)

@[simp] theorem State.deny_kept (s : State) (v : Via) (h : MsgHead) : (State.deny s v h).pending = s.pending ∧
    (State.deny s v h).sys.fuses = s.sys.fuses ∧ (State.deny s v h).sys.boot = s.sys.boot := by
  unfold State.deny
  repeat' (first
    | (simp [foldl_kept]; done)
    | split
    | (refine foldl_into _ (fun _ _ => ?_) _ ?_)
    | dsimp only)

@[simp] theorem State.arrive_kept (s : State) (v : Via) (b : List U8) :
    (s.arrive v b).pending = s.pending ∧ (s.arrive v b).sys.fuses = s.sys.fuses ∧ (s.arrive v b).sys.boot = s.sys.boot := by
  unfold State.arrive
  dsimp only
  split
  · split
    · simp
    · split
      · simp
      · simp
      · have h := State.messageKey_kept _ _ _ ‹_›
        dsimp only at h
        repeat' (first | (simp [h]; done) | split)
  · simp

@[simp] theorem State.takeUp_kept (s : State) (c : Fin 8) (f : Front) (e : Option Status) :
    (State.takeUp s c f e).pending = s.pending ∧ (State.takeUp s c f e).sys.fuses = s.sys.fuses ∧
        (State.takeUp s c f e).sys.boot = s.sys.boot := by
  unfold State.takeUp
  split <;> simp

@[simp] theorem State.countLosses_kept (s : State) (w : Fin 8) : (State.countLosses s w).pending = s.pending ∧
    (State.countLosses s w).sys.fuses = s.sys.fuses ∧
        (State.countLosses s w).sys.boot = s.sys.boot := by simp [State.countLosses]

@[simp] theorem State.takeNext_kept (s : State) : (State.takeNext s).pending = s.pending ∧
    (State.takeNext s).sys.fuses = s.sys.fuses ∧ (State.takeNext s).sys.boot = s.sys.boot := by
  unfold State.takeNext
  dsimp only
  repeat' split
  all_goals simp

@[simp] theorem State.doorbell_kept (s : State) (c : Fin 8) (v : U16) : (State.doorbell s c v).pending = s.pending ∧
    (State.doorbell s c v).sys.fuses = s.sys.fuses ∧
        (State.doorbell s c v).sys.boot = s.sys.boot := by simp [State.doorbell]

@[simp] theorem State.rspHead_kept (s : State) (c : Fin 8) (v : U16) : (State.rspHead s c v).pending = s.pending ∧
    (State.rspHead s c v).sys.fuses = s.sys.fuses ∧ (State.rspHead s c v).sys.boot = s.sys.boot := by simp [State.rspHead]

@[simp] theorem State.evtHead_kept (s : State) (v : U16) : (State.evtHead s v).pending = s.pending ∧
    (State.evtHead s v).sys.fuses = s.sys.fuses ∧ (State.evtHead s v).sys.boot = s.sys.boot := by
  unfold State.evtHead
  repeat' (first
    | (simp [foldl_kept]; done)
    | split
    | (refine foldl_into _ (fun _ _ => ?_) _ ?_)
    | dsimp only)

@[simp] theorem State.msixMask_kept (s : State) (v : Nat) (masked : Bool) :
    (State.msixMask s v masked).pending = s.pending ∧ (State.msixMask s v masked).sys.fuses = s.sys.fuses ∧
        (State.msixMask s v masked).sys.boot = s.sys.boot := by simp [State.msixMask]

@[simp] theorem State.w0Bytes_kept (s : State) (a : Nat) (b : List U8) : (State.w0Bytes s a b).pending = s.pending ∧
    (State.w0Bytes s a b).sys.fuses = s.sys.fuses ∧
        (State.w0Bytes s a b).sys.boot = s.sys.boot := by simp [State.w0Bytes, foldl_kept]

@[simp] theorem State.w2Bytes_kept (s : State) (a : Nat) (b : List U8) : (State.w2Bytes s a b).pending = s.pending ∧
    (State.w2Bytes s a b).sys.fuses = s.sys.fuses ∧ (State.w2Bytes s a b).sys.boot = s.sys.boot := by simp [State.w2Bytes]

@[simp] theorem State.setMb_kept (p : List U8) (s : State) : (State.setMb p s).pending = s.pending ∧
    (State.setMb p s).sys.fuses = s.sys.fuses ∧ (State.setMb p s).sys.boot = s.sys.boot := by
  unfold State.setMb
  split <;> simp

@[simp] theorem State.setUdp_kept (p : List U8) (s : State) : (State.setUdp p s).pending = s.pending ∧
    (State.setUdp p s).sys.fuses = s.sys.fuses ∧ (State.setUdp p s).sys.boot = s.sys.boot := by simp [State.setUdp]

@[simp] theorem State.setEvent_kept (p : List U8) (s : State) : (State.setEvent p s).pending = s.pending ∧
    (State.setEvent p s).sys.fuses = s.sys.fuses ∧ (State.setEvent p s).sys.boot = s.sys.boot := by simp [State.setEvent]

@[simp] theorem State.dmaFails_kept (s : State) (u : DmaUser) (addr : Nat) :
    (State.dmaFails s u addr).pending = s.pending ∧ (State.dmaFails s u addr).sys.fuses = s.sys.fuses ∧
        (State.dmaFails s u addr).sys.boot = s.sys.boot := by
  unfold State.dmaFails
  split <;> simp

@[simp] theorem State.endpointReset_kept (s : State) : (State.endpointReset s).pending = s.pending ∧
    (State.endpointReset s).sys.fuses = s.sys.fuses ∧
        (State.endpointReset s).sys.boot = s.sys.boot := by simp [State.endpointReset, foldl_kept]

@[simp] theorem State.spiError_kept (s : State) (case : Nat) : (State.spiError s case).pending = s.pending ∧
    (State.spiError s case).sys.fuses = s.sys.fuses ∧
        (State.spiError s case).sys.boot = s.sys.boot := by simp [State.spiError]

@[simp] theorem State.spiRange_kept (s : State) (a : Nat) (n : Nat) : (State.spiRange s a n).pending = s.pending ∧
    (State.spiRange s a n).sys.fuses = s.sys.fuses ∧
        (State.spiRange s a n).sys.boot = s.sys.boot := by simp [State.spiRange]

@[simp] theorem State.spiGood_kept (s : State) : (State.spiGood s).pending = s.pending ∧
    (State.spiGood s).sys.fuses = s.sys.fuses ∧ (State.spiGood s).sys.boot = s.sys.boot := by simp [State.spiGood]

@[simp] theorem State.spiWord_kept (s : State) (a : Nat) (b : List U8) : (State.spiWord s a b).pending = s.pending ∧
    (State.spiWord s a b).sys.fuses = s.sys.fuses ∧ (State.spiWord s a b).sys.boot = s.sys.boot := by simp [State.spiWord]

@[simp] theorem State.spiBell_kept (s : State) (a : Nat) (b : List U8) : (State.spiBell s a b).pending = s.pending ∧
    (State.spiBell s a b).sys.fuses = s.sys.fuses ∧ (State.spiBell s a b).sys.boot = s.sys.boot := by simp [State.spiBell]

@[simp] theorem State.spiWrite_kept (s : State) (a : Nat) (data : List U8) (part : Bool) :
    (State.spiWrite s a data part).pending = s.pending ∧ (State.spiWrite s a data part).sys.fuses = s.sys.fuses ∧
        (State.spiWrite s a data part).sys.boot = s.sys.boot := by simp [State.spiWrite, foldl_kept]

@[simp] theorem State.spiRead_kept (s : State) (a : Nat) (n : Nat) (part : Bool) :
    (State.spiRead s a n part).pending = s.pending ∧ (State.spiRead s a n part).sys.fuses = s.sys.fuses ∧
        (State.spiRead s a n part).sys.boot = s.sys.boot := by simp [State.spiRead]

@[simp] theorem State.afterResponse_kept (s : State) (x : Nat × List U8) :
    (State.afterResponse s x).pending = s.pending ∧ (State.afterResponse s x).sys.fuses = s.sys.fuses ∧
        (State.afterResponse s x).sys.boot = s.sys.boot := by simp [State.afterResponse]

@[simp] theorem State.responseDone_kept (s : State) (c : Fin 8) (r : Rsp) :
    (State.responseDone s c r).pending = s.pending ∧ (State.responseDone s c r).sys.fuses = s.sys.fuses ∧
        (State.responseDone s c r).sys.boot = s.sys.boot := by
  unfold State.responseDone
  split <;> simp

@[simp] theorem State.ringResponse_kept (s : State) (c : Fin 8) (r : Rsp) :
    (State.ringResponse s c r).pending = s.pending ∧ (State.ringResponse s c r).sys.fuses = s.sys.fuses ∧
        (State.ringResponse s c r).sys.boot = s.sys.boot := by simp [State.ringResponse]

@[simp] theorem State.relayReply_kept (s : State) (node : U32) (b : List U8) :
    (State.relayReply s node b).pending = s.pending ∧ (State.relayReply s node b).sys.fuses = s.sys.fuses ∧
        (State.relayReply s node b).sys.boot = s.sys.boot := by
  unfold State.relayReply
  split <;> simp

@[simp] theorem State.bulkOver_kept (s : State) : (State.bulkOver s).pending = s.pending ∧
    (State.bulkOver s).sys.fuses = s.sys.fuses ∧
        (State.bulkOver s).sys.boot = s.sys.boot := by simp [State.bulkOver, foldl_kept]

@[simp] theorem State.bulkTimeout_kept (s : State) (e : Nat × Stream) : (State.bulkTimeout s e).pending = s.pending ∧
    (State.bulkTimeout s e).sys.fuses = s.sys.fuses ∧
        (State.bulkTimeout s e).sys.boot = s.sys.boot := by simp [State.bulkTimeout]

@[simp] theorem State.relaySend_kept (s : State) (q : Req) (msg : List U8) (data : List U8) :
    (State.relaySend s q msg data).pending = s.pending ∧ (State.relaySend s q msg data).sys.fuses = s.sys.fuses ∧
        (State.relaySend s q msg data).sys.boot = s.sys.boot := by simp [State.relaySend]

@[simp] theorem State.applyBoundary_kept (s : State) (x : Nat × List U8) :
    (State.applyBoundary s x).pending = s.pending ∧ (State.applyBoundary s x).sys.fuses = s.sys.fuses ∧
        (State.applyBoundary s x).sys.boot = s.sys.boot := by simp [State.applyBoundary]

@[simp] theorem State.saveSettings_kept (s : State) (bank : Fin 2) (next : Nat) (erase : Bool) :
    (State.saveSettings s bank next erase).pending = s.pending ∧
        (State.saveSettings s bank next erase).sys.fuses = s.sys.fuses ∧
            (State.saveSettings s bank next erase).sys.boot = s.sys.boot := by simp [State.saveSettings]

@[simp] theorem State.setGrid_kept (p : List U8) (s : State) : (State.setGrid p s).pending = s.pending ∧
    (State.setGrid p s).sys.fuses = s.sys.fuses ∧ (State.setGrid p s).sys.boot = s.sys.boot := by simp [State.setGrid]

@[simp] theorem State.applyStored_kept (s : State) (op : Nat) (p : List U8) :
    (State.applyStored s op p).pending = s.pending ∧ (State.applyStored s op p).sys.fuses = s.sys.fuses ∧
        (State.applyStored s op p).sys.boot = s.sys.boot := by simp [State.applyStored]

@[simp] theorem State.applySettings_kept (s : State) (x : Stored) : (State.applySettings s x).pending = s.pending ∧
    (State.applySettings s x).sys.fuses = s.sys.fuses ∧
        (State.applySettings s x).sys.boot = s.sys.boot := by simp [State.applySettings, foldl_kept]

@[simp] theorem State.stationFloors_kept (s : State) : (State.stationFloors s).pending = s.pending ∧
    (State.stationFloors s).sys.fuses = s.sys.fuses ∧
        (State.stationFloors s).sys.boot = s.sys.boot := by simp [State.stationFloors]

@[simp] theorem State.pinsResume_kept (s : State) : (State.pinsResume s).pending = s.pending ∧
    (State.pinsResume s).sys.fuses = s.sys.fuses ∧
        (State.pinsResume s).sys.boot = s.sys.boot := by simp [State.pinsResume, foldl_kept]

@[simp] theorem State.firstFrame_kept (s : State) : (State.firstFrame s).pending = s.pending ∧
    (State.firstFrame s).sys.fuses = s.sys.fuses ∧ (State.firstFrame s).sys.boot = s.sys.boot := by simp [State.firstFrame]

@[simp] theorem State.boundarySettings_kept (s : State) : (State.boundarySettings s).pending = s.pending ∧
    (State.boundarySettings s).sys.fuses = s.sys.fuses ∧
        (State.boundarySettings s).sys.boot = s.sys.boot := by simp [State.boundarySettings, foldl_kept]

@[simp] theorem State.boundaryLead_kept (s : State) : (State.boundaryLead s).pending = s.pending ∧
    (State.boundaryLead s).sys.fuses = s.sys.fuses ∧
        (State.boundaryLead s).sys.boot = s.sys.boot := by simp [State.boundaryLead]

@[simp] theorem State.epochStep_kept (s : State) : (State.epochStep s).pending = s.pending ∧
    (State.epochStep s).sys.fuses = s.sys.fuses ∧ (State.epochStep s).sys.boot = s.sys.boot := by
  unfold State.epochStep
  split <;> simp

@[simp] theorem State.frameBoundary_kept (s : State) : (State.frameBoundary s).pending = s.pending ∧
    (State.frameBoundary s).sys.fuses = s.sys.fuses ∧
        (State.frameBoundary s).sys.boot = s.sys.boot := by simp [State.frameBoundary, foldl_kept]

@[simp] theorem State.profileDefaults_kept (s : State) (profile : U8) :
    (State.profileDefaults s profile).pending = s.pending ∧
        (State.profileDefaults s profile).sys.fuses = s.sys.fuses := by simp [State.profileDefaults]

@[simp] theorem State.bootSettings_kept (s : State) (x : Option Stored) : (State.bootSettings s x).pending = s.pending ∧
    (State.bootSettings s x).sys.fuses = s.sys.fuses ∧ (State.bootSettings s x).sys.boot = s.sys.boot := by
  unfold State.bootSettings
  split <;> simp

@[simp] theorem State.bootBox_kept (s : State) : (State.bootBox s).pending = s.pending ∧
    (State.bootBox s).sys.fuses = s.sys.fuses := by simp [State.bootBox, foldl_kept2]

@[simp] theorem State.reportReady_kept (s : State) (bank : Fin 2) : (State.reportReady s bank).pending = s.pending ∧
    (State.reportReady s bank).sys.fuses = s.sys.fuses ∧ (State.reportReady s bank).sys.boot = s.sys.boot := by
  unfold State.reportReady
  (try simp only [])
  repeat' first
    | (simp; done)
    | (simp [foldl_kept, -List.foldl_reverse]; done)
    | split
    | (refine foldl_kept _ (fun _ _ => ?_) _ _)
    | (dsimp only)

@[simp] theorem State.bootBank_kept (s : State) (r : BootRead) (b : Fin 2) : (State.bootBank s r b).pending = s.pending ∧
    (State.bootBank s r b).sys.fuses = s.sys.fuses := by simp [State.bootBank, foldl_kept2]

@[simp] theorem State.recovery_kept (s : State) (r : BootRead) : (State.recovery s r).pending = s.pending ∧
    (State.recovery s r).sys.fuses = s.sys.fuses := by simp [State.recovery]

@[simp] theorem State.boot_kept (s : State) (r : BootRead) : (State.boot s r).pending = s.pending ∧
    (State.boot s r).sys.fuses = s.sys.fuses := by
  unfold State.boot
  dsimp only
  repeat' split
  all_goals simp

@[simp] theorem State.deckTested_kept (s : State) : (State.deckTested s).pending = s.pending ∧
    (State.deckTested s).sys.fuses = s.sys.fuses ∧ (State.deckTested s).sys.boot = s.sys.boot := by simp [State.deckTested]

@[simp] theorem State.inject_kept (s : State) (kind : Nat) (count : Nat) (arg : Nat) (apply : U32) :
    (State.inject s kind count arg apply).pending = s.pending ∧
        (State.inject s kind count arg apply).sys.fuses = s.sys.fuses ∧
            (State.inject s kind count arg apply).sys.boot = s.sys.boot := by
  unfold State.inject
  split <;> simp

@[simp] theorem faultInject_kept (q : Req) (s : State) : (faultInject q s).pending = s.pending ∧
    (faultInject q s).sys.fuses = s.sys.fuses ∧ (faultInject q s).sys.boot = s.sys.boot := by
  unfold faultInject
  refine serve_kept _ _ _ _ _ (fun s => ?_)
  dsimp only
  repeat' first
    | (refine KeptE.trans ?_ (State.settle_kept _ _ _))
    | (refine keptE_require _ _ _ _ ?_)
    | (refine keptE_bulkLength _ _ _ _ ?_)
    | (refine keptE_withBulk _ _ _ _ _ (fun _ => ?_))
    | (refine keptE_onSpan _ _ _ (fun _ => ?_))
    | (refine keptE_onLane _ _ _ (fun _ _ => ?_))
    | (refine keptE_onRdm _ _ _ _ (fun _ => ?_))
    | (refine keptE_pierControl _ _ _ _ ?_)
    | (exact State.settle_kept _ _ _)
    | (simp; done)
    | (simp [foldl_kept, -List.foldl_reverse]; done)
    | split

end Sys2Proof.Machine
end

