-- ==== Sys2Proof/Laws/KeptRows.lean ====
section
/-! SUPPORT. Laws/KeptRows.lean: a command is carried out, and takes nothing from the queue, one lemma per command. -/
namespace Sys2Proof.Machine
open Sys2Proof

theorem execTimeGet_kept (q : Req) (s : State) : Steady s (execTimeGet q s) := steady_next
    (serve_kept _ _ _ _ _ fun _ => by simp)

theorem execServoSet_kept (q : Req) (s : State) : Steady s (execServoSet q s) := steady_next
    (serve_kept _ _ _ _ _ fun _ => by simp)

theorem execClockModelSet_kept (q : Req) (s : State) : Steady s (execClockModelSet q s) := steady_next
    (serve_kept _ _ _ _ _ fun _ => by simp)

theorem execTimeStep_kept (q : Req) (s : State) : Steady s (execTimeStep q s) := steady_next
    (serve_kept _ _ _ _ _ fun _ => by simp)

theorem execGridGet_kept (q : Req) (s : State) : Steady s (execGridGet q s) := steady_next
    (serve_kept _ _ _ _ _ fun _ => by simp)

theorem execSlotArm_kept (q : Req) (s : State) : Steady s (execSlotArm q s) := steady_next
    (serve_kept _ _ _ _ _ fun _ => by simp)

theorem execSlotCancel_kept (q : Req) (s : State) : Steady s (execSlotCancel q s) := steady_next
    (serve_kept _ _ _ _ _ fun _ => by simp)

theorem execSlotStatus_kept (q : Req) (s : State) : Steady s (execSlotStatus q s) := steady_next
    (serve_kept _ _ _ _ _ fun _ => by simp)

theorem execTimecodeSet_kept (q : Req) (s : State) : Steady s (execTimecodeSet q s) := steady_next
    (serve_kept _ _ _ _ _ fun _ => by simp)

theorem execPpsInEdge_kept (dt : Nat) (s : State) : Steady s (execPpsInEdge dt s) := steady_next (by simp)

theorem execFrameRefInEdge_kept (dt : Nat) (s : State) : Steady s (execFrameRefInEdge dt s) := steady_next (by simp)

theorem execLtcInSyncWord_kept (dt : Nat) (h : Nat) (m : Nat) (sec : Nat) (f : Nat) (user : U32) (s : State) : Steady s
    (execLtcInSyncWord dt h m sec f user s) := by
  unfold execLtcInSyncWord
  dsimp only
  split <;> exact steady_next (by simp)

theorem execSourceLossTimeout_kept (dt : Nat) (code : Fin 6) (s : State) : Steady s
    (execSourceLossTimeout dt code s) := steady_next (by simp)

theorem execHoldoverLimitExpiry_kept (dt : Nat) (s : State) : Steady s (execHoldoverLimitExpiry dt s) := steady_next
    (by simp)

theorem execRef10mLoss_kept (dt : Nat) (s : State) : Steady s (execRef10mLoss dt s) := steady_next (by simp)

theorem execRef10mReturn_kept (dt : Nat) (s : State) : Steady s (execRef10mReturn dt s) := steady_next (by simp)

theorem execSlotFire_kept (dt : Nat) (s : State) : Steady s (execSlotFire dt s) := steady_next (by simp)

theorem execPpsOutPulse_kept (dt : Nat) (s : State) : Steady s (execPpsOutPulse dt s) := steady_next (by simp)

theorem execLtcOutFrame_kept (dt : Nat) (s : State) : Steady s (execLtcOutFrame dt s) := by
  unfold execLtcOutFrame
  dsimp only
  split <;> exact steady_next (by simp)

theorem execDescriptorAlloc_kept (dt : Nat) (s : State) : Steady s (execDescriptorAlloc dt s) := steady_next (by simp)

theorem execTaskEntry_kept (dt : Nat) (s : State) : Steady s (execTaskEntry dt s) := steady_next (by simp)

theorem execAffinityWaitExpiry_kept (dt : Nat) (n : Fin 8192) (s : State) : Steady s
    (execAffinityWaitExpiry dt n s) := steady_next (by simp)

theorem execSourceHoldEvent_kept (dt : Nat) (src : Fin 4) (s : State) : Steady s (execSourceHoldEvent dt src s) := by
  refine steady_next ?_
  dsimp only
  split <;> simp

theorem execSchedConfig_kept (q : Req) (s : State) : Steady s (execSchedConfig q s) := steady_next
    (serve_kept _ _ _ _ _ fun _ => by simp)

theorem execSchedStatus_kept (q : Req) (s : State) : Steady s (execSchedStatus q s) := steady_next
    (serve_kept _ _ _ _ _ fun _ => by simp)

theorem execSchedCounters_kept (q : Req) (s : State) : Steady s (execSchedCounters q s) := steady_next
    (serve_kept _ _ _ _ _ fun _ => by simp)

theorem execSchedTaskRead_kept (q : Req) (s : State) : Steady s (execSchedTaskRead q s) := steady_next
    (serve_kept _ _ _ _ _ fun _ => by simp)

theorem execSchedCores_kept (q : Req) (s : State) : Steady s (execSchedCores q s) := steady_next
    (serve_kept _ _ _ _ _ fun _ => by simp)

theorem execShowLoadBegin_kept (q : Req) (s : State) : Steady s (execShowLoadBegin q s) := steady_next
    (serve_kept _ _ _ _ _ fun _ => keptE_require _ _ _ _ (by simp))

theorem execShowLoadBlock_kept (q : Req) (s : State) : Steady s (execShowLoadBlock q s) := by
  unfold execShowLoadBlock
  refine steady_next (serve_kept _ _ _ _ _ (fun s => ?_))
  repeat' first
    | (refine KeptE.trans ?_ (State.settle_kept _ _ _))
    | (refine keptE_require _ _ _ _ ?_)
    | (refine keptE_bulkLength _ _ _ _ ?_)
    | (refine keptE_withBulk _ _ _ _ _ (fun _ => ?_))
    | (refine keptE_onSpan _ _ _ (fun _ => ?_))
    | (refine keptE_onLane _ _ _ (fun _ _ => ?_))
    | (refine keptE_onRdm _ _ _ _ (fun _ => ?_))
    | (refine keptE_pierControl _ _ _ _ ?_)
    | (exact State.settle_kept _ _ _)
    | (simp; done)
    | (simp [foldl_kept, -List.foldl_reverse]; done)
    | split
    | (dsimp only)

theorem execShowLoadEnd_kept (q : Req) (s : State) : Steady s (execShowLoadEnd q s) := steady_next
    (serve_kept _ _ _ _ _ fun _ => by simp)

theorem execShowUnloadStaged_kept (q : Req) (s : State) : Steady s (execShowUnloadStaged q s) := steady_next (by simp)

theorem execShowUnloadActive_kept (q : Req) (s : State) : Steady s (execShowUnloadActive q s) := steady_next (by simp)

theorem execShowStatus_kept (q : Req) (s : State) : Steady s (execShowStatus q s) := steady_next
    (serve_kept _ _ _ _ _ fun _ => by simp)

theorem execCueGo_kept (q : Req) (s : State) : Steady s (execCueGo q s) := steady_next
    (serve_kept _ _ _ _ _ fun _ => by simp)

theorem execCueListStatus_kept (q : Req) (s : State) : Steady s (execCueListStatus q s) := steady_next
    (serve_kept _ _ _ _ _ fun _ => by simp)

theorem execTriggerMsg_kept (dt : Nat) (span : Fin 12) (m : Msg) (s : State) : Steady s
    (execTriggerMsg dt span m s) := steady_next (by simp)

theorem execTapSet_kept (q : Req) (s : State) : Steady s (execTapSet q s) := steady_next
    (serve_kept _ _ _ _ _ fun _ => by simp)

theorem execTapRead_kept (q : Req) (s : State) : Steady s (execTapRead q s) := by
  unfold execTapRead
  refine steady_next (serve_kept _ _ _ _ _ (fun s => ?_))
  repeat' first
    | (refine KeptE.trans ?_ (State.settle_kept _ _ _))
    | (refine keptE_require _ _ _ _ ?_)
    | (refine keptE_bulkLength _ _ _ _ ?_)
    | (refine keptE_withBulk _ _ _ _ _ (fun _ => ?_))
    | (refine keptE_onSpan _ _ _ (fun _ => ?_))
    | (refine keptE_onLane _ _ _ (fun _ _ => ?_))
    | (refine keptE_onRdm _ _ _ _ (fun _ => ?_))
    | (refine keptE_pierControl _ _ _ _ ?_)
    | (exact State.settle_kept _ _ _)
    | (simp; done)
    | (simp [foldl_kept, -List.foldl_reverse]; done)
    | split
    | (dsimp only)

theorem execTapWindowClose_kept (dt : Nat) (k : Fin 16) (s : State) : Steady s
    (execTapWindowClose dt k s) := steady_next (by simp)

theorem execHouseSet_kept (q : Req) (s : State) : Steady s (execHouseSet q s) := steady_next
    (serve_kept _ _ _ _ _ fun _ => by simp)

theorem execCmuConfig_kept (q : Req) (s : State) : Steady s (execCmuConfig q s) := steady_next
    (serve_kept _ _ _ _ _ fun _ => by simp)

theorem execCmuStatus_kept (q : Req) (s : State) : Steady s (execCmuStatus q s) := steady_next
    (serve_kept _ _ _ _ _ fun _ => by simp)

theorem execLoopResetIntegrators_kept (q : Req) (s : State) : Steady s (execLoopResetIntegrators q s) := steady_next
    (by simp)

theorem execLoopDisable_kept (q : Req) (s : State) : Steady s (execLoopDisable q s) := steady_next (by simp)

theorem execLoopEnable_kept (q : Req) (s : State) : Steady s (execLoopEnable q s) := steady_next (by simp)

theorem execLoopRead_kept (q : Req) (s : State) : Steady s (execLoopRead q s) := by
  refine steady_next (serve_kept _ _ _ _ _ fun _ => ?_)
  dsimp only
  split <;> simp

theorem execFixtureSolveRead_kept (q : Req) (s : State) : Steady s (execFixtureSolveRead q s) := by
  refine steady_next (serve_kept _ _ _ _ _ fun _ => ?_)
  dsimp only
  split <;> simp

theorem execKineticStopHold_kept (q : Req) (s : State) : Steady s (execKineticStopHold q s) := steady_next (by simp)

theorem execKineticStopBlackout_kept (q : Req) (s : State) : Steady s (execKineticStopBlackout q s) := steady_next (by simp)

theorem execKineticStopRelease_kept (q : Req) (s : State) : Steady s (execKineticStopRelease q s) := steady_next (by simp)

theorem execKineticRead_kept (q : Req) (s : State) : Steady s (execKineticRead q s) := steady_next
    (serve_kept _ _ _ _ _ fun _ => by simp)

theorem execCmuPassComplete_kept (dt : Nat) (s : State) : Steady s (execCmuPassComplete dt s) := steady_next (by simp)

theorem execKineticPassComplete_kept (dt : Nat) (s : State) : Steady s (execKineticPassComplete dt s) := steady_next
    (by simp)

theorem execKineticStopStep_kept (dt : Nat) (s : State) : Steady s (execKineticStopStep dt s) := by
  refine steady_next ?_
  dsimp only
  split <;> simp

theorem execDeckStatus_kept (q : Req) (s : State) : Steady s (execDeckStatus q s) := steady_next
    (serve_kept _ _ _ _ _ fun _ => by simp)

theorem execDeckScrubRead_kept (dt : Nat) (s : State) : Steady s (execDeckScrubRead dt s) := steady_next (by simp)

theorem execIngestSet_kept (q : Req) (s : State) : Steady s (execIngestSet q s) := steady_next
    (serve_kept _ _ _ _ _ fun _ => by simp)

theorem execIngestStatus_kept (q : Req) (s : State) : Steady s (execIngestStatus q s) := by
  refine steady_next (serve_kept _ _ _ _ _ fun _ => ?_)
  dsimp only
  split <;> simp

theorem execRasterSet_kept (q : Req) (s : State) : Steady s (execRasterSet q s) := by
  refine steady_next (serve_kept _ _ _ _ _ fun _ => ?_)
  dsimp only
  split <;> simp

theorem execLayerSet_kept (q : Req) (s : State) : Steady s (execLayerSet q s) := by
  refine steady_next (serve_kept _ _ _ _ _ fun _ => ?_)
  dsimp only
  split <;> simp

theorem execRasterCommit_kept (q : Req) (s : State) : Steady s (execRasterCommit q s) := by
  unfold execRasterCommit
  refine steady_next (serve_kept _ _ _ _ _ (fun s => ?_))
  repeat' first
    | (refine KeptE.trans ?_ (State.settle_kept _ _ _))
    | (refine keptE_require _ _ _ _ ?_)
    | (refine keptE_bulkLength _ _ _ _ ?_)
    | (refine keptE_withBulk _ _ _ _ _ (fun _ => ?_))
    | (refine keptE_onSpan _ _ _ (fun _ => ?_))
    | (refine keptE_onLane _ _ _ (fun _ _ => ?_))
    | (refine keptE_onRdm _ _ _ _ (fun _ => ?_))
    | (refine keptE_pierControl _ _ _ _ ?_)
    | (exact State.settle_kept _ _ _)
    | (simp; done)
    | (simp [foldl_kept, -List.foldl_reverse]; done)
    | split
    | (dsimp only)

theorem execRasterStatus_kept (q : Req) (s : State) : Steady s (execRasterStatus q s) := by
  refine steady_next (serve_kept _ _ _ _ _ fun _ => ?_)
  dsimp only
  split <;> simp

theorem execRasterStart_kept (dt : Nat) (re : Fin 4) (s : State) : Steady s (execRasterStart dt re s) := steady_next
    (by simp)

theorem execRasterLine_kept (dt : Nat) (re : Fin 4) (under : List (Nat × BitVec 4)) (bad : Bool) (s : State) : Steady s (execRasterLine dt re under bad s) := by
  unfold execRasterLine
  refine steady_next ?_
  repeat' first
    | (simp [foldl_kept, -List.foldl_reverse]; done)
    | (refine State.consume_kept _ _ _ _ (fun _ => ?_))
    | (refine ptpRead_into _ _ ?_ (fun _ _ => ?_))
    | (refine onBlock_into _ _ _ _ ?_ (fun _ => ?_))
    | (refine onUp_into _ _ _ _ ?_ (fun _ => ?_))
    | (refine foldl_into _ (fun _ _ => ?_) _ ?_)
    | split
    | (dsimp only)

theorem execVerticalBlankingStart_kept (dt : Nat) (re : Fin 4) (s : State) : Steady s
    (execVerticalBlankingStart dt re s) := steady_next (by simp)

theorem execEthSet_kept (q : Req) (s : State) : Steady s (execEthSet q s) := steady_next
    (serve_kept _ _ _ _ _ fun _ => by simp)

theorem execEthStatus_kept (q : Req) (s : State) : Steady s (execEthStatus q s) := by
  refine steady_next (serve_kept _ _ _ _ _ fun _ => ?_)
  dsimp only
  split <;> simp

theorem execQueueSet_kept (q : Req) (s : State) : Steady s (execQueueSet q s) := steady_next
    (serve_kept _ _ _ _ _ fun _ => by simp)

theorem execQueueStatus_kept (q : Req) (s : State) : Steady s (execQueueStatus q s) := steady_next
    (serve_kept _ _ _ _ _ fun _ => by simp)

theorem execHostchSet_kept (q : Req) (s : State) : Steady s (execHostchSet q s) := by
  unfold execHostchSet
  refine steady_next (serve_kept _ _ _ _ _ (fun s => ?_))
  repeat' first
    | (refine KeptE.trans ?_ (State.settle_kept _ _ _))
    | (refine keptE_require _ _ _ _ ?_)
    | (refine keptE_bulkLength _ _ _ _ ?_)
    | (refine keptE_withBulk _ _ _ _ _ (fun _ => ?_))
    | (refine keptE_onSpan _ _ _ (fun _ => ?_))
    | (refine keptE_onLane _ _ _ (fun _ _ => ?_))
    | (refine keptE_onRdm _ _ _ _ (fun _ => ?_))
    | (refine keptE_pierControl _ _ _ _ ?_)
    | (exact State.settle_kept _ _ _)
    | (simp; done)
    | (simp [foldl_kept, -List.foldl_reverse]; done)
    | split
    | (dsimp only)

theorem execHostchStatus_kept (q : Req) (s : State) : Steady s (execHostchStatus q s) := by
  refine steady_next (serve_kept _ _ _ _ _ fun _ => ?_)
  dsimp only
  split <;> simp

theorem execTxtsRead_kept (q : Req) (s : State) : Steady s (execTxtsRead q s) := by
  refine steady_next (serve_kept _ _ _ _ _ fun _ => ?_)
  dsimp only
  split <;> simp

theorem execHcRxTailWrite_kept (dt : Nat) (n : Fin 4) (tail : U16) (s : State) : Steady s
    (execHcRxTailWrite dt n tail s) := steady_next (by simp)

theorem execHcTxTailWrite_kept (dt : Nat) (n : Fin 4) (tail : U16) (s : State) : Steady s
    (execHcTxTailWrite dt n tail s) := steady_next (by simp)

theorem execHostRxPlace_kept (dt : Nat) (n : Fin 4) (descs : List RxDesc) (s : State) : Steady s
    (execHostRxPlace dt n descs s) := by
  refine steady_next ?_
  dsimp only
  repeat' split
  all_goals simp

theorem execHostTxFrame_kept (dt : Nat) (n : Fin 4) (descs : List TxDesc) (s : State) : Steady s
    (execHostTxFrame dt n descs s) := by
  refine steady_next ?_
  dsimp only
  repeat' split
  all_goals simp

theorem execEthFrameRx_kept (dt : Nat) (x : EthIn) (s : State) : Steady s (execEthFrameRx dt x s) := by
  unfold execEthFrameRx
  dsimp only
  split <;> exact steady_next (by simp)

theorem execEthFrameTx_kept (dt : Nat) (n : Fin 4) (s : State) : Steady s (execEthFrameTx dt n s) := steady_next (by simp)

theorem execPauseRx_kept (dt : Nat) (n : Fin 4) (quanta : U16) (s : State) : Steady s
    (execPauseRx dt n quanta s) := steady_next (by simp)

theorem execPauseHoldEnd_kept (dt : Nat) (n : Fin 4) (s : State) : Steady s (execPauseHoldEnd dt n s) := by
  unfold execPauseHoldEnd
  dsimp only
  split <;> exact steady_next (by simp)

theorem execPauseLongTimeout_kept (dt : Nat) (n : Fin 4) (s : State) : Steady s
    (execPauseLongTimeout dt n s) := steady_next (by simp)

theorem execPauseRefresh_kept (dt : Nat) (n : Fin 4) (s : State) : Steady s (execPauseRefresh dt n s) := steady_next
    (by simp)

theorem execPreemptVerifyTimeout_kept (dt : Nat) (n : Fin 4) (s : State) : Steady s
    (execPreemptVerifyTimeout dt n s) := steady_next (by simp)

theorem execEthLinkChange_kept (dt : Nat) (n : Fin 4) (up : Bool) (speed : Nat) (s : State) : Steady s
    (execEthLinkChange dt n up speed s) := steady_next (by simp)

theorem execIgmpQuery_kept (dt : Nat) (n : Fin 4) (s : State) : Steady s (execIgmpQuery dt n s) := by
  unfold execIgmpQuery
  try dsimp only
  repeat' first
    | (refine steady_next ?_)
    | (simp; done)
    | (simp [foldl_kept, -List.foldl_reverse]; done)
    | split
    | (refine State.consume_kept _ _ _ _ (fun _ => ?_))
    | (refine State.ptpRead_kept _ _ _ (fun _ => ?_))
    | (refine foldl_kept _ (fun _ _ => ?_) _ _)

theorem execArpRequest_kept (dt : Nat) (n : Fin 4) (target : U32) (mac : Nat) (sender : U32) (s : State) : Steady s (execArpRequest dt n target mac sender s) := by
  unfold execArpRequest
  refine steady_next ?_
  repeat' first
    | (simp [foldl_kept, -List.foldl_reverse]; done)
    | (refine State.consume_kept _ _ _ _ (fun _ => ?_))
    | (refine ptpRead_into _ _ ?_ (fun _ _ => ?_))
    | (refine onBlock_into _ _ _ _ ?_ (fun _ => ?_))
    | (refine onUp_into _ _ _ _ ?_ (fun _ => ?_))
    | (refine foldl_into _ (fun _ _ => ?_) _ ?_)
    | split
    | (dsimp only)

theorem execPtpSet_kept (q : Req) (s : State) : Steady s (execPtpSet q s) := steady_next
    (serve_kept _ _ _ _ _ fun _ => by simp)

theorem execPtpStatus_kept (q : Req) (s : State) : Steady s (execPtpStatus q s) := steady_next
    (serve_kept _ _ _ _ _ fun _ => by simp)

theorem execPtpSync_kept (dt : Nat) (m : PtpMsg) (s : State) : Steady s (execPtpSync dt m s) := by
  unfold execPtpSync
  refine steady_next ?_
  repeat' first
    | (simp [foldl_kept, -List.foldl_reverse]; done)
    | (refine State.consume_kept _ _ _ _ (fun _ => ?_))
    | (refine ptpRead_into _ _ ?_ (fun _ _ => ?_))
    | (refine onBlock_into _ _ _ _ ?_ (fun _ => ?_))
    | (refine onUp_into _ _ _ _ ?_ (fun _ => ?_))
    | (refine foldl_into _ (fun _ _ => ?_) _ ?_)
    | split
    | (dsimp only)

theorem execPtpFollowUp_kept (dt : Nat) (m : PtpMsg) (s : State) : Steady s (execPtpFollowUp dt m s) := by
  unfold execPtpFollowUp
  refine steady_next ?_
  repeat' first
    | (simp [foldl_kept, -List.foldl_reverse]; done)
    | (refine State.consume_kept _ _ _ _ (fun _ => ?_))
    | (refine ptpRead_into _ _ ?_ (fun _ _ => ?_))
    | (refine onBlock_into _ _ _ _ ?_ (fun _ => ?_))
    | (refine onUp_into _ _ _ _ ?_ (fun _ => ?_))
    | (refine foldl_into _ (fun _ _ => ?_) _ ?_)
    | split
    | (dsimp only)

theorem execPtpAnnounce_kept (dt : Nat) (m : PtpMsg) (a : PtpAnnounce) (s : State) : Steady s (execPtpAnnounce dt m a s) := by
  unfold execPtpAnnounce
  refine steady_next ?_
  repeat' first
    | (simp [foldl_kept, -List.foldl_reverse]; done)
    | (refine State.consume_kept _ _ _ _ (fun _ => ?_))
    | (refine ptpRead_into _ _ ?_ (fun _ _ => ?_))
    | (refine onBlock_into _ _ _ _ ?_ (fun _ => ?_))
    | (refine onUp_into _ _ _ _ ?_ (fun _ => ?_))
    | (refine foldl_into _ (fun _ _ => ?_) _ ?_)
    | split
    | (dsimp only)

theorem execPtpDelayReq_kept (dt : Nat) (m : PtpMsg) (s : State) : Steady s (execPtpDelayReq dt m s) := by
  unfold execPtpDelayReq
  refine steady_next ?_
  repeat' first
    | (simp [foldl_kept, -List.foldl_reverse]; done)
    | (refine State.consume_kept _ _ _ _ (fun _ => ?_))
    | (refine ptpRead_into _ _ ?_ (fun _ _ => ?_))
    | (refine onBlock_into _ _ _ _ ?_ (fun _ => ?_))
    | (refine onUp_into _ _ _ _ ?_ (fun _ => ?_))
    | (refine foldl_into _ (fun _ _ => ?_) _ ?_)
    | split
    | (dsimp only)

theorem execPtpDelayResp_kept (dt : Nat) (m : PtpMsg) (s : State) : Steady s (execPtpDelayResp dt m s) := by
  unfold execPtpDelayResp
  refine steady_next ?_
  repeat' first
    | (simp [foldl_kept, -List.foldl_reverse]; done)
    | (refine State.consume_kept _ _ _ _ (fun _ => ?_))
    | (refine ptpRead_into _ _ ?_ (fun _ _ => ?_))
    | (refine onBlock_into _ _ _ _ ?_ (fun _ => ?_))
    | (refine onUp_into _ _ _ _ ?_ (fun _ => ?_))
    | (refine foldl_into _ (fun _ _ => ?_) _ ?_)
    | split
    | (dsimp only)

theorem execPtpPdelayReq_kept (dt : Nat) (m : PtpMsg) (s : State) : Steady s (execPtpPdelayReq dt m s) := by
  unfold execPtpPdelayReq
  refine steady_next ?_
  repeat' first
    | (simp [foldl_kept, -List.foldl_reverse]; done)
    | (refine State.consume_kept _ _ _ _ (fun _ => ?_))
    | (refine ptpRead_into _ _ ?_ (fun _ _ => ?_))
    | (refine onBlock_into _ _ _ _ ?_ (fun _ => ?_))
    | (refine onUp_into _ _ _ _ ?_ (fun _ => ?_))
    | (refine foldl_into _ (fun _ _ => ?_) _ ?_)
    | split
    | (dsimp only)

theorem execPtpPdelayResp_kept (dt : Nat) (m : PtpMsg) (follow : Bool) (s : State) : Steady s (execPtpPdelayResp dt m follow s) := by
  unfold execPtpPdelayResp
  refine steady_next ?_
  repeat' first
    | (simp [foldl_kept, -List.foldl_reverse]; done)
    | (refine State.consume_kept _ _ _ _ (fun _ => ?_))
    | (refine ptpRead_into _ _ ?_ (fun _ _ => ?_))
    | (refine onBlock_into _ _ _ _ ?_ (fun _ => ?_))
    | (refine onUp_into _ _ _ _ ?_ (fun _ => ?_))
    | (refine foldl_into _ (fun _ _ => ?_) _ ?_)
    | split
    | (dsimp only)

theorem execPtpMessageDue_kept (dt : Nat) (n : Fin 4) (kind : Fin 4) (s : State) : Steady s
    (execPtpMessageDue dt n kind s) := steady_next (by simp)

theorem execPtpAnnounceTimeout_kept (dt : Nat) (n : Fin 4) (s : State) : Steady s
    (execPtpAnnounceTimeout dt n s) := steady_next (by simp)

theorem execAes67Packet_kept (dt : Nat) (p : AesPacket) (s : State) : Steady s (execAes67Packet dt p s) := by
  unfold execAes67Packet
  try dsimp only
  repeat' first
    | (refine steady_next ?_)
    | (simp; done)
    | (simp [foldl_kept, -List.foldl_reverse]; done)
    | split
    | (refine State.consume_kept _ _ _ _ (fun _ => ?_))
    | (refine State.ptpRead_kept _ _ _ (fun _ => ?_))
    | (refine foldl_kept _ (fun _ _ => ?_) _ _)

theorem execSt2110Packet_kept (dt : Nat) (p : VideoPacket) (s : State) : Steady s
    (execSt2110Packet dt p s) := steady_next (by simp)

theorem execStreamSet_kept (q : Req) (s : State) : Steady s (execStreamSet q s) := steady_next
    (serve_kept _ _ _ _ _ fun _ => by simp)

theorem execStreamStatus_kept (q : Req) (s : State) : Steady s (execStreamStatus q s) := by
  refine steady_next (serve_kept _ _ _ _ _ fun _ => ?_)
  dsimp only
  split <;> simp

theorem execStreamLossTimeout_kept (dt : Nat) (video : Bool) (i : Fin 16) (s : State) : Steady s
    (execStreamLossTimeout dt video i s) := steady_next (by simp)

theorem execPortSet_kept (q : Req) (s : State) : Steady s (execPortSet q s) := steady_next
    (serve_kept _ _ _ _ _ fun _ => by simp)

theorem execInputSet_kept (q : Req) (s : State) : Steady s (execInputSet q s) := steady_next
    (serve_kept _ _ _ _ _ fun _ => by simp)

theorem execSacnSet_kept (q : Req) (s : State) : Steady s (execSacnSet q s) := steady_next
    (serve_kept _ _ _ _ _ fun _ => by simp)

theorem execPortStatus_kept (q : Req) (s : State) : Steady s (execPortStatus q s) := by
  unfold execPortStatus
  refine steady_next (serve_kept _ _ _ _ _ (fun s => ?_))
  repeat' first
    | (refine KeptE.trans ?_ (State.settle_kept _ _ _))
    | (refine keptE_require _ _ _ _ ?_)
    | (refine keptE_bulkLength _ _ _ _ ?_)
    | (refine keptE_withBulk _ _ _ _ _ (fun _ => ?_))
    | (refine keptE_onSpan _ _ _ (fun _ => ?_))
    | (refine keptE_onLane _ _ _ (fun _ _ => ?_))
    | (refine keptE_onRdm _ _ _ _ (fun _ => ?_))
    | (refine keptE_pierControl _ _ _ _ ?_)
    | (exact State.settle_kept _ _ _)
    | (simp; done)
    | (simp [foldl_kept, -List.foldl_reverse]; done)
    | split
    | (dsimp only)

theorem execInputRead_kept (q : Req) (s : State) : Steady s (execInputRead q s) := steady_next
    (serve_kept _ _ _ _ _ fun _ => by simp)

theorem execSacnStatus_kept (q : Req) (s : State) : Steady s (execSacnStatus q s) := by
  refine steady_next (serve_kept _ _ _ _ _ fun _ => ?_)
  dsimp only
  split <;> simp

theorem execRdmDiscover_kept (q : Req) (s : State) : Steady s (execRdmDiscover q s) := steady_next
    (serve_kept _ _ _ _ _ fun _ => by simp)

theorem execRdmUidRead_kept (q : Req) (s : State) : Steady s (execRdmUidRead q s) := by
  unfold execRdmUidRead
  refine steady_next (serve_kept _ _ _ _ _ (fun s => ?_))
  repeat' first
    | (refine KeptE.trans ?_ (State.settle_kept _ _ _))
    | (refine keptE_require _ _ _ _ ?_)
    | (refine keptE_bulkLength _ _ _ _ ?_)
    | (refine keptE_withBulk _ _ _ _ _ (fun _ => ?_))
    | (refine keptE_onSpan _ _ _ (fun _ => ?_))
    | (refine keptE_onLane _ _ _ (fun _ _ => ?_))
    | (refine keptE_onRdm _ _ _ _ (fun _ => ?_))
    | (refine keptE_pierControl _ _ _ _ ?_)
    | (exact State.settle_kept _ _ _)
    | (simp; done)
    | (simp [foldl_kept, -List.foldl_reverse]; done)
    | split
    | (dsimp only)

theorem execRdmRequest_kept (q : Req) (s : State) : Steady s (execRdmRequest q s) := steady_next
    (serve_kept _ _ _ _ _ fun _ => by simp)

theorem execRdmResultRead_kept (q : Req) (s : State) : Steady s (execRdmResultRead q s) := by
  unfold execRdmResultRead
  refine steady_next (serve_kept _ _ _ _ _ (fun s => ?_))
  repeat' first
    | (refine KeptE.trans ?_ (State.settle_kept _ _ _))
    | (refine keptE_require _ _ _ _ ?_)
    | (refine keptE_bulkLength _ _ _ _ ?_)
    | (refine keptE_withBulk _ _ _ _ _ (fun _ => ?_))
    | (refine keptE_onSpan _ _ _ (fun _ => ?_))
    | (refine keptE_onLane _ _ _ (fun _ _ => ?_))
    | (refine keptE_onRdm _ _ _ _ (fun _ => ?_))
    | (refine keptE_pierControl _ _ _ _ ?_)
    | (exact State.settle_kept _ _ _)
    | (simp; done)
    | (simp [foldl_kept, -List.foldl_reverse]; done)
    | split
    | (dsimp only)

theorem execDmxPacketStart_kept (dt : Nat) (p : Fin 32) (s : State) : Steady s
    (execDmxPacketStart dt p s) := steady_next (by simp)

theorem execRdmTransactionStart_kept (dt : Nat) (p : Fin 32) (s : State) : Steady s
    (execRdmTransactionStart dt p s) := steady_next (by simp)

theorem execRdmResponse_kept (dt : Nat) (p : Fin 32) (r : RdmResp) (s : State) : Steady s
    (execRdmResponse dt p r s) := steady_next (by simp)

theorem execRdmResponseTimeout_kept (dt : Nat) (p : Fin 32) (s : State) : Steady s
    (execRdmResponseTimeout dt p s) := steady_next (by simp)

theorem execRdmDiscoveryTimer_kept (dt : Nat) (p : Fin 32) (s : State) : Steady s
    (execRdmDiscoveryTimer dt p s) := steady_next (by simp)

theorem execRdmSensorPoll_kept (dt : Nat) (p : Fin 32) (s : State) : Steady s (execRdmSensorPoll dt p s) := steady_next
    (by simp)

theorem execDmxInputPacket_kept (dt : Nat) (p : Fin 32) (x : DmxPacket) (s : State) : Steady s
    (execDmxInputPacket dt p x s) := by
  refine steady_next ?_
  dsimp only
  repeat' split
  all_goals simp

theorem execInputLossTimeout_kept (dt : Nat) (n : Fin 1024) (s : State) : Steady s (execInputLossTimeout dt n s) := by
  unfold execInputLossTimeout
  dsimp only
  split <;> exact steady_next (by simp)

theorem execSacnDataPacket_kept (dt : Nat) (x : SacnPacket) (s : State) : Steady s (execSacnDataPacket dt x s) := by
  unfold execSacnDataPacket
  try dsimp only
  repeat' first
    | (refine steady_next ?_)
    | (simp; done)
    | (simp [foldl_kept, -List.foldl_reverse]; done)
    | split
    | (refine State.consume_kept _ _ _ _ (fun _ => ?_))
    | (refine State.ptpRead_kept _ _ _ (fun _ => ?_))
    | (refine foldl_kept _ (fun _ _ => ?_) _ _)

theorem execSacnSourceLoss_kept (dt : Nat) (n : Fin 1024) (cid : List U8) (s : State) : Steady s
    (execSacnSourceLoss dt n cid s) := by
  unfold execSacnSourceLoss
  dsimp only
  split <;> exact steady_next (by simp)

theorem execPixelStringSend_kept (dt : Nat) (pin : Fin 64) (s : State) : Steady s
    (execPixelStringSend dt pin s) := steady_next (by simp)

theorem execClockedStringSend_kept (dt : Nat) (pin : Fin 64) (s : State) : Steady s
    (execClockedStringSend dt pin s) := steady_next (by simp)

theorem execPwmSubslotStart_kept (dt : Nat) (pin : Fin 64) (s : State) : Steady s
    (execPwmSubslotStart dt pin s) := steady_next (by simp)

theorem execSacnDataSend_kept (dt : Nat) (n : Fin 4) (s : State) : Steady s (execSacnDataSend dt n s) := steady_next
    (by simp)

theorem execSacnSyncSend_kept (dt : Nat) (n : Fin 4) (s : State) : Steady s (execSacnSyncSend dt n s) := steady_next
    (by simp)

theorem execSacnDiscoverySend_kept (dt : Nat) (n : Fin 4) (s : State) : Steady s
    (execSacnDiscoverySend dt n s) := steady_next (by simp)

theorem execCodewordTransmit_kept (dt : Nat) (sp : Fin 12) (s : State) : Steady s
    (execCodewordTransmit dt sp s) := steady_next (by simp)

theorem execIdleBlock_kept (dt : Nat) (sp : Fin 12) (errs : List SymErr) (s : State) : Steady s (execIdleBlock dt sp errs s) := by
  unfold execIdleBlock
  refine steady_next ?_
  repeat' first
    | (simp [foldl_kept, -List.foldl_reverse]; done)
    | (refine State.consume_kept _ _ _ _ (fun _ => ?_))
    | (refine ptpRead_into _ _ ?_ (fun _ _ => ?_))
    | (refine onBlock_into _ _ _ _ ?_ (fun _ => ?_))
    | (refine onUp_into _ _ _ _ ?_ (fun _ => ?_))
    | (refine foldl_into _ (fun _ _ => ?_) _ ?_)
    | split
    | (dsimp only)

theorem execDataBlock_kept (dt : Nat) (sp : Fin 12) (errs : List SymErr) (b : Block) (s : State) : Steady s (execDataBlock dt sp errs b s) := by
  unfold execDataBlock
  refine steady_next ?_
  repeat' first
    | (simp [foldl_kept, -List.foldl_reverse]; done)
    | (refine State.consume_kept _ _ _ _ (fun _ => ?_))
    | (refine ptpRead_into _ _ ?_ (fun _ _ => ?_))
    | (refine onBlock_into _ _ _ _ ?_ (fun _ => ?_))
    | (refine onUp_into _ _ _ _ ?_ (fun _ => ?_))
    | (refine foldl_into _ (fun _ _ => ?_) _ ?_)
    | split
    | (dsimp only)

theorem execCreditBlock_kept (dt : Nat) (sp : Fin 12) (errs : List SymErr) (freed : Vector U16 5) (s : State) : Steady s (execCreditBlock dt sp errs freed s) := by
  unfold execCreditBlock
  refine steady_next ?_
  repeat' first
    | (simp [foldl_kept, -List.foldl_reverse]; done)
    | (refine State.consume_kept _ _ _ _ (fun _ => ?_))
    | (refine ptpRead_into _ _ ?_ (fun _ _ => ?_))
    | (refine onBlock_into _ _ _ _ ?_ (fun _ => ?_))
    | (refine onUp_into _ _ _ _ ?_ (fun _ => ?_))
    | (refine foldl_into _ (fun _ _ => ?_) _ ?_)
    | split
    | (dsimp only)

theorem execAckBlock_kept (dt : Nat) (sp : Fin 12) (errs : List SymErr) (lseq : U16) (s : State) : Steady s (execAckBlock dt sp errs lseq s) := by
  unfold execAckBlock
  refine steady_next ?_
  repeat' first
    | (simp [foldl_kept, -List.foldl_reverse]; done)
    | (refine State.consume_kept _ _ _ _ (fun _ => ?_))
    | (refine ptpRead_into _ _ ?_ (fun _ _ => ?_))
    | (refine onBlock_into _ _ _ _ ?_ (fun _ => ?_))
    | (refine onUp_into _ _ _ _ ?_ (fun _ => ?_))
    | (refine foldl_into _ (fun _ _ => ?_) _ ?_)
    | split
    | (dsimp only)

theorem execNakBlock_kept (dt : Nat) (sp : Fin 12) (errs : List SymErr) (lseq : U16) (s : State) : Steady s (execNakBlock dt sp errs lseq s) := by
  unfold execNakBlock
  refine steady_next ?_
  repeat' first
    | (simp [foldl_kept, -List.foldl_reverse]; done)
    | (refine State.consume_kept _ _ _ _ (fun _ => ?_))
    | (refine ptpRead_into _ _ ?_ (fun _ _ => ?_))
    | (refine onBlock_into _ _ _ _ ?_ (fun _ => ?_))
    | (refine onUp_into _ _ _ _ ?_ (fun _ => ?_))
    | (refine foldl_into _ (fun _ _ => ?_) _ ?_)
    | split
    | (dsimp only)

theorem execTimeBlock_kept (dt : Nat) (sp : Fin 12) (errs : List SymErr) (t : TimeBlock) (s : State) : Steady s (execTimeBlock dt sp errs t s) := by
  unfold execTimeBlock
  refine steady_next ?_
  repeat' first
    | (simp [foldl_kept, -List.foldl_reverse]; done)
    | (refine State.consume_kept _ _ _ _ (fun _ => ?_))
    | (refine ptpRead_into _ _ ?_ (fun _ _ => ?_))
    | (refine onBlock_into _ _ _ _ ?_ (fun _ => ?_))
    | (refine onUp_into _ _ _ _ ?_ (fun _ => ?_))
    | (refine foldl_into _ (fun _ _ => ?_) _ ?_)
    | split
    | (dsimp only)

theorem execHelloBlock_kept (dt : Nat) (sp : Fin 12) (errs : List SymErr) (h : Hello) (s : State) : Steady s (execHelloBlock dt sp errs h s) := by
  unfold execHelloBlock
  refine steady_next ?_
  repeat' first
    | (simp [foldl_kept, -List.foldl_reverse]; done)
    | (refine State.consume_kept _ _ _ _ (fun _ => ?_))
    | (refine ptpRead_into _ _ ?_ (fun _ _ => ?_))
    | (refine onBlock_into _ _ _ _ ?_ (fun _ => ?_))
    | (refine onUp_into _ _ _ _ ?_ (fun _ => ?_))
    | (refine foldl_into _ (fun _ _ => ?_) _ ?_)
    | split
    | (dsimp only)

theorem execReservedBlock_kept (dt : Nat) (sp : Fin 12) (errs : List SymErr) (s : State) : Steady s (execReservedBlock dt sp errs s) := by
  unfold execReservedBlock
  refine steady_next ?_
  repeat' first
    | (simp [foldl_kept, -List.foldl_reverse]; done)
    | (refine State.consume_kept _ _ _ _ (fun _ => ?_))
    | (refine ptpRead_into _ _ ?_ (fun _ _ => ?_))
    | (refine onBlock_into _ _ _ _ ?_ (fun _ => ?_))
    | (refine onUp_into _ _ _ _ ?_ (fun _ => ?_))
    | (refine foldl_into _ (fun _ _ => ?_) _ ?_)
    | split
    | (dsimp only)

theorem execCreditSendDue_kept (dt : Nat) (sp : Fin 12) (s : State) : Steady s
    (execCreditSendDue dt sp s) := steady_next (by simp)

theorem execHelloDue_kept (dt : Nat) (sp : Fin 12) (s : State) : Steady s (execHelloDue dt sp s) := steady_next (by simp)

theorem execTimeBlockDue_kept (dt : Nat) (sp : Fin 12) (s : State) : Steady s (execTimeBlockDue dt sp s) := steady_next
    (by simp)

theorem execCreditStallTimeout_kept (dt : Nat) (sp : Fin 12) (vc : Fin 5) (s : State) : Steady s
    (execCreditStallTimeout dt sp vc s) := by
  unfold execCreditStallTimeout
  dsimp only
  split <;> exact steady_next (by simp)

theorem execCreditStallLinkDown_kept (dt : Nat) (sp : Fin 12) (vc : Fin 2) (s : State) : Steady s
    (execCreditStallLinkDown dt sp vc s) := by
  unfold execCreditStallLinkDown
  dsimp only
  split <;> exact steady_next (by simp)

theorem execAckTimeout_kept (dt : Nat) (sp : Fin 12) (s : State) : Steady s (execAckTimeout dt sp s) := steady_next
    (by simp)

theorem execFecFailTimeout_kept (dt : Nat) (sp : Fin 12) (s : State) : Steady s
    (execFecFailTimeout dt sp s) := steady_next (by simp)

theorem execLaneLos_kept (dt : Nat) (sp : Fin 12) (lane : Fin 6) (s : State) : Steady s
    (execLaneLos dt sp lane s) := steady_next (by simp)

theorem execLaneLosClear_kept (dt : Nat) (sp : Fin 12) (lane : Fin 6) (s : State) : Steady s
    (execLaneLosClear dt sp lane s) := steady_next (by simp)

theorem execLaneLol_kept (dt : Nat) (sp : Fin 12) (lane : Fin 6) (s : State) : Steady s
    (execLaneLol dt sp lane s) := steady_next (by simp)

theorem execTrainingAttemptStart_kept (dt : Nat) (sp : Fin 12) (s : State) : Steady s
    (execTrainingAttemptStart dt sp s) := steady_next (by simp)

theorem execTrainingFrameRx_kept (dt : Nat) (sp : Fin 12) (f : TrainFrame) (s : State) : Steady s
    (execTrainingFrameRx dt sp f s) := steady_next (by simp)

theorem execTrainingStepWindowEnd_kept (dt : Nat) (sp : Fin 12) (r : StepResult) (s : State) : Steady s
    (execTrainingStepWindowEnd dt sp r s) := by
  unfold execTrainingStepWindowEnd
  try dsimp only
  repeat' first
    | (refine steady_next ?_)
    | (simp; done)
    | (simp [foldl_kept, -List.foldl_reverse]; done)
    | split
    | (refine State.consume_kept _ _ _ _ (fun _ => ?_))
    | (refine State.ptpRead_kept _ _ _ (fun _ => ?_))
    | (refine foldl_kept _ (fun _ _ => ?_) _ _)

theorem execTrainingTimeout_kept (dt : Nat) (sp : Fin 12) (s : State) : Steady s
    (execTrainingTimeout dt sp s) := steady_next (by simp)

theorem execQuietPeriodEnd_kept (dt : Nat) (sp : Fin 12) (s : State) : Steady s
    (execQuietPeriodEnd dt sp s) := steady_next (by simp)

theorem execTrainingRetryTimer_kept (dt : Nat) (sp : Fin 12) (s : State) : Steady s
    (execTrainingRetryTimer dt sp s) := steady_next (by simp)

theorem execCalibrationNeeded_kept (dt : Nat) (sp : Fin 12) (lane : Fin 5) (seen : Taps) (s : State) : Steady s (execCalibrationNeeded dt sp lane seen s) := by
  unfold execCalibrationNeeded
  refine steady_next ?_
  repeat' first
    | (simp [foldl_kept, -List.foldl_reverse]; done)
    | (refine State.consume_kept _ _ _ _ (fun _ => ?_))
    | (refine ptpRead_into _ _ ?_ (fun _ _ => ?_))
    | (refine onBlock_into _ _ _ _ ?_ (fun _ => ?_))
    | (refine onUp_into _ _ _ _ ?_ (fun _ => ?_))
    | (refine foldl_into _ (fun _ _ => ?_) _ ?_)
    | split
    | (dsimp only)

theorem execRotationTimer_kept (dt : Nat) (sp : Fin 12) (s : State) : Steady s
    (execRotationTimer dt sp s) := steady_next (by simp)

theorem execSpareSweepEnd_kept (dt : Nat) (sp : Fin 12) (t : Taps) (s : State) : Steady s
    (execSpareSweepEnd dt sp t s) := steady_next (by simp)

theorem execDuplicateCompareEnd_kept (dt : Nat) (sp : Fin 12) (equal : Bool) (s : State) : Steady s
    (execDuplicateCompareEnd dt sp equal s) := steady_next (by simp)

theorem execLaneSwapCodeword_kept (dt : Nat) (sp : Fin 12) (s : State) : Steady s
    (execLaneSwapCodeword dt sp s) := steady_next (by simp)

theorem execCalGapStart_kept (dt : Nat) (sp : Fin 12) (tx : Bool) (taps : List (Fin 5 × Taps)) (s : State) : Steady s
    (execCalGapStart dt sp tx taps s) := steady_next (by simp)

theorem execCalGapLockTimeout_kept (dt : Nat) (sp : Fin 12) (s : State) : Steady s (execCalGapLockTimeout dt sp s) := by
  unfold execCalGapLockTimeout
  dsimp only
  split <;> exact steady_next (by simp)

theorem execCalGapDeferral_kept (dt : Nat) (sp : Fin 12) (s : State) : Steady s
    (execCalGapDeferral dt sp s) := steady_next (by simp)

theorem execLaneCtlSpareOn_kept (dt : Nat) (sp : Fin 12) (m : LaneCtl) (s : State) : Steady s
    (execLaneCtlSpareOn dt sp m s) := steady_next (by simp)

theorem execLaneCtlDuplicate_kept (dt : Nat) (sp : Fin 12) (m : LaneCtl) (s : State) : Steady s
    (execLaneCtlDuplicate dt sp m s) := steady_next (by simp)

theorem execLaneCtlRelease_kept (dt : Nat) (sp : Fin 12) (m : LaneCtl) (s : State) : Steady s
    (execLaneCtlRelease dt sp m s) := steady_next (by simp)

theorem execLaneCtlSpareIdle_kept (dt : Nat) (sp : Fin 12) (m : LaneCtl) (s : State) : Steady s
    (execLaneCtlSpareIdle dt sp m s) := steady_next (by simp)

theorem execLaneCtlLaneFault_kept (dt : Nat) (sp : Fin 12) (m : LaneCtl) (s : State) : Steady s
    (execLaneCtlLaneFault dt sp m s) := steady_next (by simp)

theorem execLaneCtlCalGap_kept (dt : Nat) (sp : Fin 12) (m : LaneCtl) (s : State) : Steady s
    (execLaneCtlCalGap dt sp m s) := steady_next (by simp)

theorem execLaneCtlSleep_kept (dt : Nat) (sp : Fin 12) (m : LaneCtl) (s : State) : Steady s
    (execLaneCtlSleep dt sp m s) := steady_next (by simp)

theorem execLaneCtlAck_kept (dt : Nat) (sp : Fin 12) (m : LaneCtl) (s : State) : Steady s
    (execLaneCtlAck dt sp m s) := steady_next (by simp)

theorem execLaneCtlNak_kept (dt : Nat) (sp : Fin 12) (m : LaneCtl) (s : State) : Steady s
    (execLaneCtlNak dt sp m s) := steady_next (by simp)

theorem execLaneCtlAnswerTimeout_kept (dt : Nat) (sp : Fin 12) (s : State) : Steady s
    (execLaneCtlAnswerTimeout dt sp s) := steady_next (by simp)

theorem execSleepWake_kept (dt : Nat) (sp : Fin 12) (s : State) : Steady s (execSleepWake dt sp s) := steady_next (by simp)

theorem execWakeDriftTimeout_kept (dt : Nat) (sp : Fin 12) (s : State) : Steady s
    (execWakeDriftTimeout dt sp s) := steady_next (by simp)

theorem execSpanHealthDownTimeout_kept (dt : Nat) (sp : Fin 12) (s : State) : Steady s
    (execSpanHealthDownTimeout dt sp s) := steady_next (by simp)

theorem execSpanHealthRecover_kept (dt : Nat) (sp : Fin 12) (s : State) : Steady s
    (execSpanHealthRecover dt sp s) := steady_next (by simp)

theorem execCodewordUncorrectable_kept (dt : Nat) (sp : Fin 12) (s : State) : Steady s
    (execCodewordUncorrectable dt sp s) := steady_next (by simp)

theorem execSpanSet_kept (q : Req) (s : State) : Steady s (execSpanSet q s) := steady_next
    (serve_kept _ _ _ _ _ fun _ => by simp)

theorem execSpanStatus_kept (q : Req) (s : State) : Steady s (execSpanStatus q s) := steady_next
    (serve_kept _ _ _ _ _ fun _ => by simp)

theorem execLaneStatus_kept (q : Req) (s : State) : Steady s (execLaneStatus q s) := steady_next
    (serve_kept _ _ _ _ _ fun _ => by simp)

theorem execSpanTrain_kept (q : Req) (s : State) : Steady s (execSpanTrain q s) := steady_next
    (serve_kept _ _ _ _ _ fun _ => by simp)

theorem execSpanCal_kept (q : Req) (s : State) : Steady s (execSpanCal q s) := by
  unfold execSpanCal
  refine steady_next (serve_kept _ _ _ _ _ (fun s => ?_))
  repeat' first
    | (refine KeptE.trans ?_ (State.settle_kept _ _ _))
    | (refine keptE_require _ _ _ _ ?_)
    | (refine keptE_bulkLength _ _ _ _ ?_)
    | (refine keptE_withBulk _ _ _ _ _ (fun _ => ?_))
    | (refine keptE_onSpan _ _ _ (fun _ => ?_))
    | (refine keptE_onLane _ _ _ (fun _ _ => ?_))
    | (refine keptE_onRdm _ _ _ _ (fun _ => ?_))
    | (refine keptE_pierControl _ _ _ _ ?_)
    | (exact State.settle_kept _ _ _)
    | (simp; done)
    | (simp [foldl_kept, -List.foldl_reverse]; done)
    | split
    | (dsimp only)

theorem execPrbsSet_kept (q : Req) (s : State) : Steady s (execPrbsSet q s) := steady_next
    (serve_kept _ _ _ _ _ fun _ => by simp)

theorem execPrbsRead_kept (q : Req) (seen : PrbsSeen) (s : State) : Steady s (execPrbsRead q seen s) := by
  unfold execPrbsRead
  refine steady_next (serve_kept _ _ _ _ _ (fun s => ?_))
  repeat' first
    | (refine KeptE.trans ?_ (State.settle_kept _ _ _))
    | (refine keptE_require _ _ _ _ ?_)
    | (refine keptE_bulkLength _ _ _ _ ?_)
    | (refine keptE_withBulk _ _ _ _ _ (fun _ => ?_))
    | (refine keptE_onSpan _ _ _ (fun _ => ?_))
    | (refine keptE_onLane _ _ _ (fun _ _ => ?_))
    | (refine keptE_onRdm _ _ _ _ (fun _ => ?_))
    | (refine keptE_pierControl _ _ _ _ ?_)
    | (exact State.settle_kept _ _ _)
    | (simp [foldl_kept, -List.foldl_reverse]; done)
    | split
    | (dsimp only)

theorem execErrorInject_kept (q : Req) (s : State) : Steady s (execErrorInject q s) := steady_next
    (serve_kept _ _ _ _ _ fun _ => by simp)

theorem execBitSlip_kept (q : Req) (s : State) : Steady s (execBitSlip q s) := steady_next
    (serve_kept _ _ _ _ _ fun _ => by simp)

theorem execLaneTapsSet_kept (q : Req) (s : State) : Steady s (execLaneTapsSet q s) := steady_next
    (serve_kept _ _ _ _ _ fun _ => by simp)

theorem execSpanSleep_kept (q : Req) (s : State) : Steady s (execSpanSleep q s) := by
  unfold execSpanSleep
  refine steady_next (serve_kept _ _ _ _ _ (fun s => ?_))
  repeat' first
    | (refine KeptE.trans ?_ (State.settle_kept _ _ _))
    | (refine keptE_require _ _ _ _ ?_)
    | (refine keptE_bulkLength _ _ _ _ ?_)
    | (refine keptE_withBulk _ _ _ _ _ (fun _ => ?_))
    | (refine keptE_onSpan _ _ _ (fun _ => ?_))
    | (refine keptE_onLane _ _ _ (fun _ _ => ?_))
    | (refine keptE_onRdm _ _ _ _ (fun _ => ?_))
    | (refine keptE_pierControl _ _ _ _ ?_)
    | (exact State.settle_kept _ _ _)
    | (simp; done)
    | (simp [foldl_kept, -List.foldl_reverse]; done)
    | split
    | (dsimp only)

theorem execLatchMsg_kept (dt : Nat) (span : Fin 12) (m : Msg) (s : State) : Steady s
    (execLatchMsg dt span m s) := steady_next (by simp)

theorem execReportMsg_kept (dt : Nat) (span : Fin 12) (m : Msg) (s : State) : Steady s
    (execReportMsg dt span m s) := steady_next (by simp)

theorem execLatchIssue_kept (dt : Nat) (s : State) : Steady s (execLatchIssue dt s) := steady_next (by simp)

theorem execLatchRepeat_kept (dt : Nat) (s : State) : Steady s (execLatchRepeat dt s) := by
  refine steady_next ?_
  dsimp only
  split <;> simp

theorem execMemberMsg_kept (dt : Nat) (span : Fin 12) (m : Msg) (s : State) : Steady s
    (execMemberMsg dt span m s) := steady_next (by simp)

theorem execMemberFlood_kept (dt : Nat) (s : State) : Steady s (execMemberFlood dt s) := steady_next (by simp)

theorem execMemberTimeout_kept (dt : Nat) (s : State) : Steady s (execMemberTimeout dt s) := steady_next (by simp)

theorem execPartitionWaitExpiry_kept (dt : Nat) (s : State) : Steady s (execPartitionWaitExpiry dt s) := steady_next
    (by simp)

theorem execMergeMsg_kept (dt : Nat) (span : Fin 12) (m : Msg) (s : State) : Steady s
    (execMergeMsg dt span m s) := steady_next (by simp)

theorem execLinkEventMsg_kept (dt : Nat) (span : Fin 12) (m : Msg) (s : State) : Steady s
    (execLinkEventMsg dt span m s) := steady_next (by simp)

theorem execRouteAgeExpiry_kept (dt : Nat) (s : State) : Steady s (execRouteAgeExpiry dt s) := steady_next (by simp)

theorem execUpdateMsg_kept (dt : Nat) (span : Fin 12) (m : Msg) (s : State) : Steady s
    (execUpdateMsg dt span m s) := steady_next (by simp)

theorem execReturnMsg_kept (dt : Nat) (span : Fin 12) (m : Msg) (s : State) : Steady s
    (execReturnMsg dt span m s) := steady_next (by simp)

theorem execPathProbeDue_kept (dt : Nat) (s : State) : Steady s (execPathProbeDue dt s) := steady_next (by simp)

theorem execPathProbeMsg_kept (dt : Nat) (span : Fin 12) (m : Msg) (turn : U32) (s : State) : Steady s
    (execPathProbeMsg dt span m turn s) := steady_next (by simp)

theorem execPathEchoMsg_kept (dt : Nat) (span : Fin 12) (m : Msg) (s : State) : Steady s
    (execPathEchoMsg dt span m s) := steady_next (by simp)

theorem execRasterFrameMsg_kept (dt : Nat) (span : Fin 12) (m : Msg) (s : State) : Steady s
    (execRasterFrameMsg dt span m s) := steady_next (by simp)

theorem execRasterLineMsg_kept (dt : Nat) (span : Fin 12) (m : Msg) (s : State) : Steady s
    (execRasterLineMsg dt span m s) := steady_next (by simp)

theorem execTrestleSet_kept (q : Req) (s : State) : Steady s (execTrestleSet q s) := steady_next
    (serve_kept _ _ _ _ _ fun _ => by simp)

theorem execTrestleStatus_kept (q : Req) (s : State) : Steady s (execTrestleStatus q s) := steady_next
    (serve_kept _ _ _ _ _ fun _ => by simp)

theorem execMemberRead_kept (q : Req) (s : State) : Steady s (execMemberRead q s) := by
  unfold execMemberRead
  refine steady_next (serve_kept _ _ _ _ _ (fun s => ?_))
  repeat' first
    | (refine KeptE.trans ?_ (State.settle_kept _ _ _))
    | (refine keptE_require _ _ _ _ ?_)
    | (refine keptE_bulkLength _ _ _ _ ?_)
    | (refine keptE_withBulk _ _ _ _ _ (fun _ => ?_))
    | (refine keptE_onSpan _ _ _ (fun _ => ?_))
    | (refine keptE_onLane _ _ _ (fun _ _ => ?_))
    | (refine keptE_onRdm _ _ _ _ (fun _ => ?_))
    | (refine keptE_pierControl _ _ _ _ ?_)
    | (exact State.settle_kept _ _ _)
    | (simp; done)
    | (simp [foldl_kept, -List.foldl_reverse]; done)
    | split
    | (dsimp only)

theorem execRouteRead_kept (q : Req) (s : State) : Steady s (execRouteRead q s) := steady_next
    (serve_kept _ _ _ _ _ fun _ => by simp)

theorem execLinkSet_kept (q : Req) (s : State) : Steady s (execLinkSet q s) := steady_next
    (serve_kept _ _ _ _ _ fun _ => by simp)

theorem execLinkCounters_kept (q : Req) (s : State) : Steady s (execLinkCounters q s) := by
  refine steady_next (serve_kept _ _ _ _ _ fun _ => ?_)
  dsimp only
  split <;> simp

theorem execDestStatus_kept (q : Req) (s : State) : Steady s (execDestStatus q s) := by
  refine steady_next (serve_kept _ _ _ _ _ fun _ => ?_)
  dsimp only
  split <;> simp

theorem execTamperInputAssert_kept (dt : Nat) (n : Fin 4) (s : State) : Steady s
    (execTamperInputAssert dt n s) := steady_next (by simp)

theorem execTamperMonitorTrip_kept (dt : Nat) (n : Fin 3) (s : State) : Steady s
    (execTamperMonitorTrip dt n s) := steady_next (by simp)

theorem execTamperInputRelease_kept (dt : Nat) (n : Fin 7) (s : State) : Steady s
    (execTamperInputRelease dt n s) := steady_next (by simp)

theorem execProposalLapse_kept (dt : Nat) (s : State) : Steady s (execProposalLapse dt s) := by
  refine steady_next ?_
  dsimp only
  split <;> simp

theorem execPropose_kept (q : Req) (s : State) : Steady s (execPropose q s) := by
  unfold execPropose
  refine steady_next (serve_kept _ _ _ _ _ (fun s => ?_))
  repeat' first
    | (refine KeptE.trans ?_ (State.settle_kept _ _ _))
    | (refine keptE_require _ _ _ _ ?_)
    | (refine keptE_bulkLength _ _ _ _ ?_)
    | (refine keptE_withBulk _ _ _ _ _ (fun _ => ?_))
    | (refine keptE_onSpan _ _ _ (fun _ => ?_))
    | (refine keptE_onLane _ _ _ (fun _ _ => ?_))
    | (refine keptE_onRdm _ _ _ _ (fun _ => ?_))
    | (refine keptE_pierControl _ _ _ _ ?_)
    | (exact State.settle_kept _ _ _)
    | (simp [foldl_kept, -List.foldl_reverse]; done)
    | split
    | (dsimp only)

theorem execApprove_kept (q : Req) (writeFails : Nat) (s : State) : Steady s (execApprove q writeFails s) := by
  unfold execApprove
  refine steady_next (serve_kept _ _ _ _ _ (fun s => ?_))
  repeat' first
    | (refine KeptE.trans ?_ (State.settle_kept _ _ _))
    | (refine keptE_require _ _ _ _ ?_)
    | (refine keptE_bulkLength _ _ _ _ ?_)
    | (refine keptE_withBulk _ _ _ _ _ (fun _ => ?_))
    | (refine keptE_onSpan _ _ _ (fun _ => ?_))
    | (refine keptE_onLane _ _ _ (fun _ _ => ?_))
    | (refine keptE_onRdm _ _ _ _ (fun _ => ?_))
    | (refine keptE_pierControl _ _ _ _ ?_)
    | (exact State.settle_kept _ _ _)
    | (simp [foldl_kept, -List.foldl_reverse]; done)
    | split
    | (dsimp only)

theorem execProposalCancel_kept (q : Req) (s : State) : Steady s (execProposalCancel q s) := by
  refine steady_next (serve_kept _ _ _ _ _ fun _ => ?_)
  dsimp only
  split <;> simp

theorem execBoxStatus_kept (q : Req) (s : State) : Steady s (execBoxStatus q s) := steady_next
    (serve_kept _ _ _ _ _ fun _ => by simp)

theorem execSlotInfo_kept (q : Req) (s : State) : Steady s (execSlotInfo q s) := steady_next
    (serve_kept _ _ _ _ _ fun _ => by simp)

theorem execKeyLoad_kept (q : Req) (s : State) : Steady s (execKeyLoad q s) := by
  unfold execKeyLoad
  refine steady_next (serve_kept _ _ _ _ _ (fun s => keptE_require _ _ _ _ ?_))
  cases hw : s.derive (p8 q.payload 8).toNat 1 (ascii "WRAP" ++ be 4 (rd q.payload 0x0C 4)) 256 with
  | error e => cases e <;> simp
  | ok w =>
    have h := State.derive_kept _ _ _ _ _ _ hw
    generalize hu : keyUnwrap w.2 (bytesAt q.payload 0x10 56) = u
    dsimp only
    rw [hu]
    cases u with
    | none => simp [h]
    | some p => repeat' (first | (simp [h]; done) | split | dsimp only)

theorem execWkStatus_kept (q : Req) (s : State) : Steady s (execWkStatus q s) := steady_next
    (serve_kept _ _ _ _ _ fun _ => by simp)

theorem execChallenge_kept (q : Req) (s : State) : Steady s (execChallenge q s) := by
  refine steady_next (serve_kept _ _ _ _ _ fun _ => ?_)
  dsimp only
  split <;> simp

theorem execOfficerRead_kept (q : Req) (s : State) : Steady s (execOfficerRead q s) := steady_next
    (serve_kept _ _ _ _ _ fun _ => by simp)

theorem execIdentityRead_kept (q : Req) (s : State) : Steady s (execIdentityRead q s) := steady_next
    (serve_kept _ _ _ _ _ fun _ => by simp)

theorem execImageChecksComplete_kept (dt : Nat) (s : State) : Steady s (execImageChecksComplete dt s) := by
  unfold execImageChecksComplete
  refine steady_next ?_
  dsimp only
  generalize imageSigned _ = b1
  generalize checkHeader _ _ = b2
  generalize openImage = o
  repeat' (first | (simp; done) | (simp [State.sectionKey_kept _ _ _ ‹_›]; done) | split)

theorem execBlobWaitExpiry_kept (dt : Nat) (s : State) : Steady s (execBlobWaitExpiry dt s) := by
  unfold execBlobWaitExpiry
  dsimp only
  split <;> exact steady_next (by simp)

theorem execBeaconBuild_kept (dt : Nat) (ri : Fin 4) (s : State) : Steady s (execBeaconBuild dt ri s) := by
  refine steady_next ?_
  dsimp only
  repeat' split
  all_goals simp

theorem execBeaconStb_kept (dt : Nat) (ri : Fin 4) (s : State) : Steady s (execBeaconStb dt ri s) := by
  refine steady_next ?_
  dsimp only
  repeat' split
  all_goals simp

theorem execRadioSlotGrant_kept (dt : Nat) (ri : Fin 4) (s : State) : Steady s (execRadioSlotGrant dt ri s) := by
  refine steady_next ?_
  dsimp only
  repeat' split
  all_goals simp

theorem execRadioAck_kept (dt : Nat) (ri : Fin 4) (dsn : U8) (s : State) : Steady s (execRadioAck dt ri dsn s) := by
  unfold execRadioAck
  dsimp only
  split <;> exact steady_next (by simp)

theorem execAckWaitExpiry_kept (dt : Nat) (ri : Fin 4) (s : State) : Steady s (execAckWaitExpiry dt ri s) := by
  refine steady_next ?_
  dsimp only
  split <;> simp

theorem execAssocRequest_kept (dt : Nat) (ri : Fin 4) (ext : U64) (sleepy : Bool) (s : State) : Steady s
    (execAssocRequest dt ri ext sleepy s) := steady_next (by simp)

theorem execDisassocNotify_kept (dt : Nat) (ri : Fin 4) (src : U16) (s : State) : Steady s
    (execDisassocNotify dt ri src s) := by
  unfold execDisassocNotify
  dsimp only
  split <;> exact steady_next (by simp)

theorem execDataRequest_kept (dt : Nat) (ri : Fin 4) (src : U16) (ext : U64) (s : State) : Steady s
    (execDataRequest dt ri src ext s) := by
  refine steady_next ?_
  dsimp only
  repeat' split
  all_goals simp

theorem execIndirectPersistExpiry_kept (dt : Nat) (ri : Fin 4) (s : State) : Steady s
    (execIndirectPersistExpiry dt ri s) := by
  unfold execIndirectPersistExpiry
  try dsimp only
  repeat' first
    | (refine steady_next ?_)
    | (simp; done)
    | (simp [foldl_kept, -List.foldl_reverse]; done)
    | split
    | (refine State.consume_kept _ _ _ _ (fun _ => ?_))
    | (refine State.ptpRead_kept _ _ _ (fun _ => ?_))
    | (refine foldl_kept _ (fun _ _ => ?_) _ _)

theorem execRadioDataFrame_kept (dt : Nat) (ri : Fin 4) (f : RadioFrame) (s : State) : Steady s
    (execRadioDataFrame dt ri f s) := by
  unfold execRadioDataFrame
  refine steady_next ?_
  try dsimp only
  split
  · split
    · rename_i x hx
      split at hx
      · obtain ⟨n, -, hn⟩ := Option.bind_eq_some_iff.1 hx
        have k := State.radioOpen_kept _ _ _ _ _ hn
        split <;> simp [k]
      · cases hx
    · simp
  · repeat' (first
      | (simp; done)
      | (simp [State.privetCheck_kept _ _ _ _ ‹_›]; done)
      | (simp [State.radioOpen_kept _ _ _ _ _ ‹_›]; done)
      | split)

theorem execPrivetFrame_kept (dt : Nat) (ri : Fin 4) (f : RadioFrame) (s : State) : Steady s
    (execPrivetFrame dt ri f s) := by
  unfold execPrivetFrame
  try dsimp only
  repeat' first
    | (simp [State.privetCheck_kept _ _ _ _ ‹_›, State.radioKey_kept _ _ _ _ ‹_›]; done)
    | (simp [State.privetCheck_kept _ _ _ _ ‹_›]; done)
    | (simp [State.radioKey_kept _ _ _ _ ‹_›]; done)
    | (refine steady_next ?_)
    | (simp; done)
    | (simp [foldl_kept, -List.foldl_reverse]; done)
    | split
    | (refine State.consume_kept _ _ _ _ (fun _ => ?_))
    | (refine State.ptpRead_kept _ _ _ (fun _ => ?_))
    | (refine foldl_kept _ (fun _ _ => ?_) _ _)

theorem execParentBeacon_kept (dt : Nat) (ri : Fin 4) (pan : U16) (ago : Nat) (s : State) : Steady s (execParentBeacon dt ri pan ago s) := by
  unfold execParentBeacon
  refine steady_next ?_
  repeat' first
    | (simp [foldl_kept, -List.foldl_reverse]; done)
    | (refine State.consume_kept _ _ _ _ (fun _ => ?_))
    | (refine ptpRead_into _ _ ?_ (fun _ _ => ?_))
    | (refine onBlock_into _ _ _ _ ?_ (fun _ => ?_))
    | (refine onUp_into _ _ _ _ ?_ (fun _ => ?_))
    | (refine foldl_into _ (fun _ _ => ?_) _ ?_)
    | split
    | (dsimp only)

theorem execCoordRealignment_kept (dt : Nat) (ri : Fin 4) (s : State) : Steady s
    (execCoordRealignment dt ri s) := steady_next (by simp)

theorem execParentBeaconMiss_kept (dt : Nat) (ri : Fin 4) (s : State) : Steady s (execParentBeaconMiss dt ri s) := by
  refine steady_next ?_
  dsimp only
  split <;> simp

theorem execXcvrIdentify_kept (dt : Nat) (ri : Fin 4) (resp : List U32) (s : State) : Steady s
    (execXcvrIdentify dt ri resp s) := steady_next (by simp)

theorem execXcvrRetry_kept (dt : Nat) (ri : Fin 4) (resp : List U32) (s : State) : Steady s
    (execXcvrRetry dt ri resp s) := steady_next (by simp)

theorem execRadioSet_kept (q : Req) (s : State) : Steady s (execRadioSet q s) := steady_next
    (serve_kept _ _ _ _ _ fun _ => by simp)

theorem execRadioStatus_kept (q : Req) (s : State) : Steady s (execRadioStatus q s) := steady_next
    (serve_kept _ _ _ _ _ fun _ => by simp)

theorem execNodeRead_kept (q : Req) (s : State) : Steady s (execNodeRead q s) := steady_next
    (serve_kept _ _ _ _ _ fun _ => by simp)

theorem execNodeDisassociate_kept (q : Req) (s : State) : Steady s (execNodeDisassociate q s) := steady_next (by simp)

theorem execNodeAllow_kept (q : Req) (s : State) : Steady s (execNodeAllow q s) := steady_next (by simp)

theorem execNodeDisallow_kept (q : Req) (s : State) : Steady s (execNodeDisallow q s) := steady_next (by simp)

theorem execPrivetSet_kept (q : Req) (s : State) : Steady s (execPrivetSet q s) := steady_next
    (serve_kept _ _ _ _ _ fun _ => by simp)

theorem execRadioSend_kept (q : Req) (s : State) : Steady s (execRadioSend q s) := by
  unfold execRadioSend
  refine steady_next (serve_kept _ _ _ _ _ (fun s => ?_))
  repeat' first
    | (simp [State.derive_kept _ _ _ _ _ _ ‹_›]; done)
    | (refine KeptE.trans ?_ (State.settle_kept _ _ _))
    | (refine keptE_require _ _ _ _ ?_)
    | (refine keptE_bulkLength _ _ _ _ ?_)
    | (refine keptE_withBulk _ _ _ _ _ (fun _ => ?_))
    | (refine keptE_onSpan _ _ _ (fun _ => ?_))
    | (refine keptE_onLane _ _ _ (fun _ _ => ?_))
    | (refine keptE_onRdm _ _ _ _ (fun _ => ?_))
    | (refine keptE_pierControl _ _ _ _ ?_)
    | (exact State.settle_kept _ _ _)
    | (simp; done)
    | (simp [foldl_kept, -List.foldl_reverse]; done)
    | split
    | (dsimp only)

theorem execRadioRecv_kept (q : Req) (s : State) : Steady s (execRadioRecv q s) := by
  refine steady_next (serve_kept _ _ _ _ _ fun _ => ?_)
  dsimp only
  split <;> simp

theorem execRadioXcvrRead_kept (q : Req) (s : State) : Steady s (execRadioXcvrRead q s) := steady_next
    (serve_kept _ _ _ _ _ fun _ => by simp)

theorem execHeartbeatSend_kept (dt : Nat) (s : State) : Steady s (execHeartbeatSend dt s) := steady_next (by simp)

theorem execPierHeartbeatMsg_kept (dt : Nat) (span : Fin 12) (m : Msg) (s : State) : Steady s
    (execPierHeartbeatMsg dt span m s) := steady_next (by simp)

theorem execPartnerSilence_kept (dt : Nat) (s : State) : Steady s (execPartnerSilence dt s) := steady_next (by simp)

theorem execTrestleWitnessLoss_kept (dt : Nat) (s : State) : Steady s (execTrestleWitnessLoss dt s) := by
  refine steady_next ?_
  dsimp only
  split <;> simp

theorem execPierActInFall_kept (dt : Nat) (s : State) : Steady s (execPierActInFall dt s) := steady_next (by simp)

theorem execPierActInRise_kept (dt : Nat) (s : State) : Steady s (execPierActInRise dt s) := steady_next (by simp)

theorem execHoldCircuitExpiry_kept (dt : Nat) (s : State) : Steady s (execHoldCircuitExpiry dt s) := steady_next (by simp)

theorem execPierReleaseMsg_kept (dt : Nat) (span : Fin 12) (m : Msg) (s : State) : Steady s
    (execPierReleaseMsg dt span m s) := steady_next (by simp)

theorem execPierClaimMsg_kept (dt : Nat) (span : Fin 12) (m : Msg) (s : State) : Steady s
    (execPierClaimMsg dt span m s) := steady_next (by simp)

theorem execPierDigestMsg_kept (dt : Nat) (span : Fin 12) (m : Msg) (s : State) : Steady s
    (execPierDigestMsg dt span m s) := steady_next (by simp)

theorem execSealSend_kept (dt : Nat) (s : State) : Steady s (execSealSend dt s) := steady_next (by simp)

theorem execPierSealMsg_kept (dt : Nat) (span : Fin 12) (m : Msg) (s : State) : Steady s
    (execPierSealMsg dt span m s) := steady_next (by simp)

theorem execSealMissingAtCutoff_kept (dt : Nat) (s : State) : Steady s (execSealMissingAtCutoff dt s) := steady_next
    (by simp)

theorem execRevertRequest_kept (dt : Nat) (s : State) : Steady s (execRevertRequest dt s) := steady_next (by simp)

theorem execPierRevertMsg_kept (dt : Nat) (span : Fin 12) (m : Msg) (s : State) : Steady s
    (execPierRevertMsg dt span m s) := steady_next (by simp)

theorem execHandoverAtCutoff_kept (dt : Nat) (s : State) : Steady s (execHandoverAtCutoff dt s) := by
  unfold execHandoverAtCutoff
  dsimp only
  split <;> exact steady_next (by simp)

theorem execPierResyncMsg_kept (dt : Nat) (span : Fin 12) (m : Msg) (s : State) : Steady s
    (execPierResyncMsg dt span m s) := steady_next (by simp)

theorem execPartnerWaitExpiry_kept (dt : Nat) (s : State) : Steady s (execPartnerWaitExpiry dt s) := by
  refine steady_next ?_
  dsimp only
  split <;> simp

theorem execPierSet_kept (q : Req) (s : State) : Steady s (execPierSet q s) := steady_next
    (serve_kept _ _ _ _ _ fun _ => by simp)

theorem execPierStatus_kept (q : Req) (s : State) : Steady s (execPierStatus q s) := steady_next
    (serve_kept _ _ _ _ _ fun _ => by simp)

theorem execPierControlHandover_kept (q : Req) (s : State) : Steady s (execPierControlHandover q s) := steady_next
    (serve_kept _ _ _ _ _ fun _ => by simp)

theorem execPierControlResync_kept (q : Req) (s : State) : Steady s (execPierControlResync q s) := steady_next
    (serve_kept _ _ _ _ _ fun _ => by simp)

theorem execPierControlRevertHold_kept (q : Req) (s : State) : Steady s (execPierControlRevertHold q s) := steady_next
    (serve_kept _ _ _ _ _ fun _ => by simp)

theorem execPierControlRevertAllow_kept (q : Req) (s : State) : Steady s (execPierControlRevertAllow q s) := steady_next
    (serve_kept _ _ _ _ _ fun _ => by simp)

theorem execPierCounters_kept (q : Req) (s : State) : Steady s (execPierCounters q s) := steady_next
    (serve_kept _ _ _ _ _ fun _ => by simp)

theorem execGridSetStart_kept (q : Req) (s : State) : Steady s (execGridSetStart q s) := steady_next (by simp)

theorem execGridSetChange_kept (q : Req) (s : State) : Steady s (execGridSetChange q s) := steady_next (by simp)

theorem execGridSetStop_kept (q : Req) (s : State) : Steady s (execGridSetStop q s) := steady_next (by simp)

theorem execTickBoundary_kept (dt : Nat) (s : State) : Steady s (execTickBoundary dt s) := steady_next (by simp)

theorem execPresentationInstant_kept (dt : Nat) (s : State) : Steady s (execPresentationInstant dt s) := by
  unfold execPresentationInstant
  dsimp only
  split <;> exact steady_next (by simp)

theorem execRenderStart_kept (dt : Nat) (s : State) : Steady s (execRenderStart dt s) := steady_next (by simp)

theorem execRenderStallTimeout_kept (dt : Nat) (s : State) : Steady s (execRenderStallTimeout dt s) := steady_next (by simp)

theorem execSlipLimitStop_kept (dt : Nat) (s : State) : Steady s (execSlipLimitStop dt s) := steady_next (by simp)

theorem execTaskDispatch_kept (dt : Nat) (port : Fin 4) (s : State) : Steady s
    (execTaskDispatch dt port s) := steady_next (by simp)

theorem execTaskEnd_kept (dt : Nat) (n : Fin 8192) (s : State) : Steady s (execTaskEnd dt n s) := by
  unfold execTaskEnd
  refine steady_next ?_
  repeat' first
    | (simp [foldl_kept, -List.foldl_reverse]; done)
    | (refine State.consume_kept _ _ _ _ (fun _ => ?_))
    | (refine ptpRead_into _ _ ?_ (fun _ _ => ?_))
    | (refine onBlock_into _ _ _ _ ?_ (fun _ => ?_))
    | (refine onUp_into _ _ _ _ ?_ (fun _ => ?_))
    | (refine foldl_into _ (fun _ _ => ?_) _ ?_)
    | split
    | (dsimp only)

theorem execTaskTrap_kept (dt : Nat) (n : Fin 8192) (s : State) : Steady s (execTaskTrap dt n s) := steady_next (by simp)

theorem execTaskWatchdogExpiry_kept (dt : Nat) (n : Fin 8192) (s : State) : Steady s
    (execTaskWatchdogExpiry dt n s) := steady_next (by simp)

theorem execCoreMemoryEccError_kept (dt : Nat) (core : Fin 64) (double : Bool) (s : State) : Steady s
    (execCoreMemoryEccError dt core double s) := by
  refine steady_next ?_
  dsimp only
  repeat' split
  all_goals simp

theorem execFrameCommit_kept (dt : Nat) (s : State) : Steady s (execFrameCommit dt s) := steady_next (by simp)

theorem execHedgerowRelease_kept (dt : Nat) (s : State) : Steady s (execHedgerowRelease dt s) := steady_next (by simp)

theorem execShowActivate_kept (q : Req) (s : State) : Steady s (execShowActivate q s) := by
  unfold execShowActivate
  refine steady_next (serve_kept _ _ _ _ _ (fun s => ?_))
  repeat' (first | (refine keptE_require _ _ _ _ ?_) | split | (simp; done))

theorem execHouseNAssert_kept (dt : Nat) (s : State) : Steady s (execHouseNAssert dt s) := steady_next (by simp)

theorem execHouseNRelease_kept (dt : Nat) (s : State) : Steady s (execHouseNRelease dt s) := steady_next (by simp)

theorem execHouseAssertApply_kept (dt : Nat) (s : State) : Steady s (execHouseAssertApply dt s) := steady_next (by simp)

theorem execHouseMsg_kept (dt : Nat) (span : Fin 12) (m : Msg) (s : State) : Steady s
    (execHouseMsg dt span m s) := steady_next (by simp)

theorem execVinRise_kept (dt : Nat) (mv : Nat) (s : State) : Answers s (execVinRise dt mv s) := answers_next (by simp)

theorem execVinLowWarning_kept (dt : Nat) (mv : Nat) (s : State) : Steady s (execVinLowWarning dt mv s) := steady_next
    (by simp)

theorem execVinRangeReturn_kept (dt : Nat) (mv : Nat) (s : State) : Steady s (execVinRangeReturn dt mv s) := steady_next
    (by simp)

theorem execVinShutdown_kept (dt : Nat) (mv : Nat) (s : State) : Answers s (execVinShutdown dt mv s) := answers_next
    (by simp)

theorem execVbatOutOfRange_kept (dt : Nat) (mv : Nat) (s : State) : Steady s (execVbatOutOfRange dt mv s) := steady_next
    (by simp)

theorem execVbatReturn_kept (dt : Nat) (mv : Nat) (s : State) : Steady s (execVbatReturn dt mv s) := steady_next (by simp)

theorem execVddioRise_kept (dt : Nat) (bank : Fin 2) (mv : Nat) (s : State) : Steady s
    (execVddioRise dt bank mv s) := steady_next (by simp)

theorem execVddioFall_kept (dt : Nat) (bank : Fin 2) (s : State) : Steady s (execVddioFall dt bank s) := by
  unfold execVddioFall
  try dsimp only
  repeat' first
    | (refine steady_next ?_)
    | (simp; done)
    | (simp [foldl_kept, -List.foldl_reverse]; done)
    | split
    | (refine State.consume_kept _ _ _ _ (fun _ => ?_))
    | (refine State.ptpRead_kept _ _ _ (fun _ => ?_))
    | (refine foldl_kept _ (fun _ _ => ?_) _ _)

theorem execResetNAssert_kept (dt : Nat) (s : State) : Answers s (execResetNAssert dt s) := answers_next (by simp)

theorem execResetNRelease_kept (dt : Nat) (s : State) : Steady s (execResetNRelease dt s) := steady_next (by simp)

theorem execPowerModeRun_kept (q : Req) (s : State) : Steady s (execPowerModeRun q s) := steady_next (by simp)

theorem execPowerModeStandby_kept (q : Req) (s : State) : Steady s (execPowerModeStandby q s) := steady_next (by simp)

theorem execScheduledWake_kept (dt : Nat) (s : State) : Steady s (execScheduledWake dt s) := steady_next (by simp)

theorem execWakeScheduleSet_kept (q : Req) (s : State) : Steady s (execWakeScheduleSet q s) := steady_next
    (serve_kept _ _ _ _ _ fun _ => by simp)

theorem execPowerStatus_kept (q : Req) (s : State) : Steady s (execPowerStatus q s) := steady_next
    (serve_kept _ _ _ _ _ fun _ => by simp)

theorem execThermalEvaluation_kept (dt : Nat) (r : ThermalRead) (s : State) : Steady s
    (execThermalEvaluation dt r s) := steady_next (by simp)

theorem execThrottleStepDown_kept (dt : Nat) (s : State) : Steady s (execThrottleStepDown dt s) := steady_next (by simp)

theorem execThrottleStepUp_kept (dt : Nat) (s : State) : Steady s (execThrottleStepUp dt s) := steady_next (by simp)

theorem execOrderlyPowerDown_kept (dt : Nat) (s : State) : Answers s (execOrderlyPowerDown dt s) := answers_next (by simp)

theorem execHardwareThermalTrip_kept (dt : Nat) (reading : List Int) (s : State) : Answers s
    (execHardwareThermalTrip dt reading s) := answers_next (by simp)

theorem execThermalRestart_kept (dt : Nat) (die : Int) (s : State) : Answers s (execThermalRestart dt die s) := by
  unfold execThermalRestart
  dsimp only
  split <;> exact answers_next (by simp)

theorem execThermalStatus_kept (q : Req) (s : State) : Steady s (execThermalStatus q s) := steady_next
    (serve_kept _ _ _ _ _ fun _ => by simp)

theorem execThermalSet_kept (q : Req) (s : State) : Steady s (execThermalSet q s) := steady_next
    (serve_kept _ _ _ _ _ fun _ => by simp)

theorem execUpdateBegin_kept (q : Req) (s : State) : Steady s (execUpdateBegin q s) := steady_next
    (serve_kept _ _ _ _ _ fun _ => by simp)

theorem execUpdateBlock_kept (q : Req) (s : State) : Steady s (execUpdateBlock q s) := by
  unfold execUpdateBlock
  refine steady_next (serve_kept _ _ _ _ _ (fun s => ?_))
  repeat' first
    | (refine KeptE.trans ?_ (State.settle_kept _ _ _))
    | (refine keptE_require _ _ _ _ ?_)
    | (refine keptE_bulkLength _ _ _ _ ?_)
    | (refine keptE_withBulk _ _ _ _ _ (fun _ => ?_))
    | (refine keptE_onSpan _ _ _ (fun _ => ?_))
    | (refine keptE_onLane _ _ _ (fun _ _ => ?_))
    | (refine keptE_onRdm _ _ _ _ (fun _ => ?_))
    | (refine keptE_pierControl _ _ _ _ ?_)
    | (exact State.settle_kept _ _ _)
    | (simp; done)
    | (simp [foldl_kept, -List.foldl_reverse]; done)
    | split
    | (dsimp only)

theorem execUpdateEnd_kept (q : Req) (s : State) : Steady s (execUpdateEnd q s) := steady_next
    (serve_kept _ _ _ _ _ fun _ => by simp)

theorem execUpdateStatus_kept (q : Req) (s : State) : Steady s (execUpdateStatus q s) := steady_next
    (serve_kept _ _ _ _ _ fun _ => by simp)

theorem execUpdateActivate_kept (q : Req) (s : State) : Steady s (execUpdateActivate q s) := steady_next
    (serve_kept _ _ _ _ _ fun _ => keptE_require _ _ _ _ (by simp))

theorem execUpdateAbort_kept (q : Req) (s : State) : Steady s (execUpdateAbort q s) := steady_next
    (serve_kept _ _ _ _ _ fun _ => keptE_require _ _ _ _ (by simp))

theorem execFlashProgramComplete_kept (dt : Nat) (s : State) : Steady s (execFlashProgramComplete dt s) := steady_next
    (by simp)

theorem execUpdateIdleTimeout_kept (dt : Nat) (s : State) : Steady s (execUpdateIdleTimeout dt s) := steady_next (by simp)

theorem execUpdateCheckComplete_kept (dt : Nat) (readBack : Bool) (s : State) : Steady s (execUpdateCheckComplete dt readBack s) := by
  unfold execUpdateCheckComplete
  refine steady_next ?_
  repeat' first
    | (simp [foldl_kept, -List.foldl_reverse]; done)
    | (refine State.consume_kept _ _ _ _ (fun _ => ?_))
    | (refine ptpRead_into _ _ ?_ (fun _ _ => ?_))
    | (refine onBlock_into _ _ _ _ ?_ (fun _ => ?_))
    | (refine onUp_into _ _ _ _ ?_ (fun _ => ?_))
    | (refine foldl_into _ (fun _ _ => ?_) _ ?_)
    | split
    | (dsimp only)

theorem execBootRecordWriteComplete_kept (dt : Nat) (s : State) : Steady s
    (execBootRecordWriteComplete dt s) := steady_next (by simp)

theorem execReqTailWrite_kept (dt : Nat) (c : Fin 8) (tail : U16) (s : State) : Steady s
    (execReqTailWrite dt c tail s) := steady_next (by simp)

theorem execRequestTakeUp_kept (dt : Nat) (s : State) : Steady s (execRequestTakeUp dt s) := steady_next (by simp)

theorem execMessageWaitTimeout_kept (dt : Nat) (c : Fin 8) (s : State) : Steady s (execMessageWaitTimeout dt c s) := by
  unfold execMessageWaitTimeout
  dsimp only
  split <;> exact steady_next (by simp)

theorem execResponseWrite_kept (dt : Nat) (c : Fin 8) (s : State) : Steady s (execResponseWrite dt c s) := by
  refine steady_next ?_
  dsimp only
  split <;> simp

theorem execRspHeadWrite_kept (dt : Nat) (c : Fin 8) (head : U16) (s : State) : Steady s
    (execRspHeadWrite dt c head s) := steady_next (by simp)

theorem execRspStallTimeout_kept (dt : Nat) (c : Fin 8) (s : State) : Steady s (execRspStallTimeout dt c s) := by
  unfold execRspStallTimeout
  dsimp only
  split <;> exact steady_next (by simp)

theorem execEvtHeadWrite_kept (dt : Nat) (head : U16) (s : State) : Steady s (execEvtHeadWrite dt head s) := steady_next
    (by simp)

theorem execW0OtherWrite_kept (dt : Nat) (w2 : Bool) (addr : Nat) (data : List U8) (s : State) : Steady s
    (execW0OtherWrite dt w2 addr data s) := steady_next (by simp)

theorem execIrqModerationTimer_kept (dt : Nat) (s : State) : Steady s (execIrqModerationTimer dt s) := by
  unfold execIrqModerationTimer
  try dsimp only
  repeat' first
    | (refine steady_next ?_)
    | (simp; done)
    | (simp [foldl_kept, -List.foldl_reverse]; done)
    | split
    | (refine State.consume_kept _ _ _ _ (fun _ => ?_))
    | (refine State.ptpRead_kept _ _ _ (fun _ => ?_))
    | (refine foldl_kept _ (fun _ _ => ?_) _ _)

theorem execDmaCompletion_kept (dt : Nat) (user : DmaUser) (addr : Nat) (ok : Bool) (s : State) : Steady s
    (execDmaCompletion dt user addr ok s) := steady_next (by simp)

theorem execDmaCompletionTimeout_kept (dt : Nat) (user : DmaUser) (addr : Nat) (s : State) : Steady s
    (execDmaCompletionTimeout dt user addr s) := steady_next (by simp)

theorem execPcieEndpointReset_kept (dt : Nat) (cause : EndpointReset) (s : State) : Steady s
    (execPcieEndpointReset dt cause s) := by
  refine steady_next ?_
  dsimp only
  split <;> simp

theorem execPerstNRelease_kept (dt : Nat) (width : Fin 3) (gen : Fin 3) (s : State) : Steady s
    (execPerstNRelease dt width gen s) := steady_next (by simp)

theorem execSpiWrite_kept (dt : Nat) (addr : BitVec 24) (data : List U8) (part : Bool) (s : State) : Steady s
    (execSpiWrite dt addr data part s) := steady_next (by simp)

theorem execSpiRead_kept (dt : Nat) (addr : BitVec 24) (n : Nat) (part : Bool) (s : State) : Steady s
    (execSpiRead dt addr n part s) := steady_next (by simp)

theorem execSpiQwrite_kept (dt : Nat) (addr : BitVec 24) (data : List U8) (part : Bool) (s : State) : Steady s
    (execSpiQwrite dt addr data part s) := steady_next (by simp)

theorem execSpiQread_kept (dt : Nat) (addr : BitVec 24) (n : Nat) (part : Bool) (s : State) : Steady s
    (execSpiQread dt addr n part s) := steady_next (by simp)

theorem execSpiStatus_kept (dt : Nat) (s : State) : Steady s (execSpiStatus dt s) := steady_next (by simp)

theorem execSpiUnknownInstruction_kept (dt : Nat) (ins : U8) (s : State) : Steady s
    (execSpiUnknownInstruction dt ins s) := steady_next (by simp)

theorem execSpiIdleTimeout_kept (dt idle : Nat) (s : State) : Steady s (execSpiIdleTimeout dt idle s) := by
  unfold execSpiIdleTimeout
  refine steady_next ?_
  repeat' first
    | (simp [foldl_kept, -List.foldl_reverse]; done)
    | (refine State.consume_kept _ _ _ _ (fun _ => ?_))
    | (refine ptpRead_into _ _ ?_ (fun _ _ => ?_))
    | (refine onBlock_into _ _ _ _ ?_ (fun _ => ?_))
    | (refine onUp_into _ _ _ _ ?_ (fun _ => ?_))
    | (refine foldl_into _ (fun _ _ => ?_) _ ?_)
    | split
    | (dsimp only)

theorem execUdpMailboxDatagram_kept (dt : Nat) (d : Datagram) (s : State) : Steady s
    (execUdpMailboxDatagram dt d s) := steady_next (by simp)

theorem execMgmtMsg_kept (dt : Nat) (span : Fin 12) (m : Msg) (s : State) : Steady s
    (execMgmtMsg dt span m s) := steady_next (by simp)

theorem execRelayWaitExpiry_kept (dt : Nat) (s : State) : Steady s (execRelayWaitExpiry dt s) := by
  refine steady_next ?_
  dsimp only
  split <;> simp

theorem execBulkMsg_kept (dt : Nat) (span : Fin 12) (m : Msg) (s : State) : Steady s
    (execBulkMsg dt span m s) := steady_next (by simp)

theorem execBulkAckTimeout_kept (dt : Nat) (s : State) : Steady s (execBulkAckTimeout dt s) := by
  unfold execBulkAckTimeout
  try dsimp only
  repeat' first
    | (refine steady_next ?_)
    | (simp; done)
    | (simp [foldl_kept, -List.foldl_reverse]; done)
    | split
    | (refine State.consume_kept _ _ _ _ (fun _ => ?_))
    | (refine State.ptpRead_kept _ _ _ (fun _ => ?_))
    | (refine foldl_kept _ (fun _ _ => ?_) _ _)

theorem execRelay_kept (q : Req) (s : State) : Steady s (execRelay q s) := by
  unfold execRelay
  refine steady_next (serve_kept _ _ _ _ _ (fun s => ?_))
  repeat' first
    | (refine KeptE.trans ?_ (State.settle_kept _ _ _))
    | (refine keptE_require _ _ _ _ ?_)
    | (refine keptE_bulkLength _ _ _ _ ?_)
    | (refine keptE_withBulk _ _ _ _ _ (fun _ => ?_))
    | (refine keptE_onSpan _ _ _ (fun _ => ?_))
    | (refine keptE_onLane _ _ _ (fun _ _ => ?_))
    | (refine keptE_onRdm _ _ _ _ (fun _ => ?_))
    | (refine keptE_pierControl _ _ _ _ ?_)
    | (exact State.settle_kept _ _ _)
    | (simp; done)
    | (simp [foldl_kept, -List.foldl_reverse]; done)
    | split
    | (dsimp only)

theorem execMbConfig_kept (q : Req) (s : State) : Steady s (execMbConfig q s) := steady_next
    (serve_kept _ _ _ _ _ fun _ => by simp)

theorem execMbStatus_kept (q : Req) (s : State) : Steady s (execMbStatus q s) := by
  refine steady_next (serve_kept _ _ _ _ _ fun _ => ?_)
  dsimp only
  split <;> simp

theorem execEventSet_kept (q : Req) (s : State) : Steady s (execEventSet q s) := steady_next
    (serve_kept _ _ _ _ _ fun _ => by simp)

theorem execTransportStatus_kept (q : Req) (s : State) : Steady s (execTransportStatus q s) := steady_next
    (serve_kept _ _ _ _ _ fun _ => by simp)

theorem execUdpMbSet_kept (q : Req) (s : State) : Steady s (execUdpMbSet q s) := steady_next
    (serve_kept _ _ _ _ _ fun _ => by simp)

theorem execEventRead_kept (q : Req) (s : State) : Steady s (execEventRead q s) := steady_next
    (serve_kept _ _ _ _ _ fun _ => by simp)

theorem execFrameBoundary_kept (dt : Nat) (s : State) : Steady s (execFrameBoundary dt s) := steady_next (by simp)

theorem execBootReady_kept (dt : Nat) (r : BootRead) (s : State) : Answers s (execBootReady dt r s) := answers_next
    (by simp)

theorem execBootWatchdogExpiry_kept (dt : Nat) (bootMode : Fin 4) (s : State) : Answers s
    (execBootWatchdogExpiry dt bootMode s) := by
  refine answers_next ?_
  dsimp only
  repeat' split
  all_goals simp

theorem execSysInfo_kept (q : Req) (s : State) : Steady s (execSysInfo q s) := steady_next
    (serve_kept _ _ _ _ _ fun _ => by simp)

theorem execSysStatus_kept (q : Req) (s : State) : Steady s (execSysStatus q s) := steady_next
    (serve_kept _ _ _ _ _ fun _ => by simp)

theorem execSysReset_kept (q : Req) (s : State) : Steady s (execSysReset q s) := steady_next
    (serve_kept _ _ _ _ _ fun _ => by simp)

theorem execSysResetExecute_kept (dt : Nat) (s : State) : Answers s (execSysResetExecute dt s) := by
  unfold execSysResetExecute
  dsimp only
  split <;> exact answers_next (by simp)

theorem execSettingsSave_kept (q : Req) (s : State) : Steady s (execSettingsSave q s) := steady_next
    (serve_kept _ _ _ _ _ fun _ => by simp)

theorem execDiagEcho_kept (q : Req) (s : State) : Steady s (execDiagEcho q s) := steady_next
    (serve_kept _ _ _ _ _ fun _ => by simp)

theorem execDiagPinRead_kept (q : Req) (s : State) : Steady s (execDiagPinRead q s) := steady_next
    (serve_kept _ _ _ _ _ fun _ => by simp)

theorem execDiagSelftest_kept (q : Req) (s : State) : Steady s (execDiagSelftest q s) := steady_next
    (serve_kept _ _ _ _ _ fun _ => keptE_require _ _ _ _ (by simp))

theorem execSelftestComplete_kept (dt : Nat) (failed : BitVec 4) (first : U32) (cores : List (Fin 64))
    (s : State) : Steady s (execSelftestComplete dt failed first cores s) := by
  unfold execSelftestComplete
  try dsimp only
  repeat' first
    | (refine steady_next ?_)
    | (simp; done)
    | (simp [foldl_kept, -List.foldl_reverse]; done)
    | split
    | (refine State.consume_kept _ _ _ _ (fun _ => ?_))
    | (refine State.ptpRead_kept _ _ _ (fun _ => ?_))
    | (refine foldl_kept _ (fun _ _ => ?_) _ _)

theorem execDiagEventRaise_kept (q : Req) (s : State) : Steady s (execDiagEventRaise q s) := steady_next
    (serve_kept _ _ _ _ _ fun _ => by simp)

theorem execFaultInjectDeckSingle_kept (q : Req) (s : State) : Steady s (execFaultInjectDeckSingle q s) := steady_next
    (by simp)

theorem execFaultInjectDeckDouble_kept (q : Req) (s : State) : Steady s (execFaultInjectDeckDouble q s) := steady_next
    (by simp)

theorem execFaultInjectCore_kept (q : Req) (s : State) : Steady s (execFaultInjectCore q s) := steady_next (by simp)

theorem execFaultInjectDigest_kept (q : Req) (s : State) : Steady s (execFaultInjectDigest q s) := steady_next (by simp)

theorem execFaultInjectCheck_kept (q : Req) (s : State) : Steady s (execFaultInjectCheck q s) := steady_next (by simp)

theorem execFaultInjectFlowTrap_kept (q : Req) (s : State) : Steady s (execFaultInjectFlowTrap q s) := steady_next (by simp)

end Sys2Proof.Machine
end

