-- ==== Sys2Proof/Laws/Serve.lean ====
section
/-! SUPPORT. Laws/Serve.lean: what serving a host message can do: each engine state, a short payload, venue standby, and the
answer of a body. -/
namespace Sys2Proof.Machine
open Sys2Proof

/-- While it boots and in secure hold the engine answers no message: only time passes. -/
theorem serve_silent {op need : Nat} {q : Req} {s : State} {body : State → Except Status Done}
    (h : s.mb.engine = 0 ∨ s.mb.engine = 3) : serve op need q s body = s.elapse q.dt := by
  have h1 : ¬((s.elapse q.dt).mb.engine = 2 ∨ (s.elapse q.dt).mb.engine = 1) := by
    show ¬(s.mb.engine = 2 ∨ s.mb.engine = 1)
    rcases h with h | h <;> rw [h] <;> decide
  exact if_neg fun h => h1 h.1

/-- A command that is not the request taken up on its channel has no effect (R13, R443). -/
theorem serve_not_asked {op need : Nat} {q : Req} {s : State} {body : State → Except Status Done}
    (h : s.asked op q = false) : serve op need q s body = s.elapse q.dt := by
  have h1 : (s.elapse q.dt).asked op q = false := h
  simp [serve, h1]

/-- A ready engine answers a payload too short for its opcode with ST_BAD_LENGTH. -/
theorem serve_short {op need : Nat} {q : Req} {s : State} {body : State → Except Status Done}
    (h : s.mb.engine = 2) (a : s.asked op q = true) (n : q.payload.length < need) :
    serve op need q s body = (s.elapse q.dt).respond q.ch op q.tag .badLength [] none := by
  have h1 : (s.elapse q.dt).mb.engine = 2 := h
  have h2 : (s.elapse q.dt).asked op q = true := a
  simp [serve, h1, h2, n]

/-- The recovery ROM answers ST_NOT_READY to an opcode that it does not serve (R473). -/
theorem serve_recovery {op need : Nat} {q : Req} {s : State} {body : State → Except Status Done}
    (h : s.mb.engine = 1) (a : s.asked op q = true) (n : servedInRecovery op = false) :
    serve op need q s body = (s.elapse q.dt).respond q.ch op q.tag .notReady [] none := by
  have h1 : (s.elapse q.dt).mb.engine = 1 := h
  have h2 : (s.elapse q.dt).asked op q = true := a
  simp [serve, h1, h2, n]

/-- In venue standby an opcode that CC0 does not serve is answered ST_NOT_READY (R495). -/
theorem serve_standby {op need : Nat} {q : Req} {s : State} {body : State → Except Status Done}
    (h : s.mb.engine = 2) (a : s.asked op q = true) (l : need ≤ q.payload.length) (m : s.pwr.mode = .standby)
    (n : servedInStandby op = false) :
    serve op need q s body = (s.elapse q.dt).respond q.ch op q.tag .notReady [] none := by
  have h1 : (s.elapse q.dt).mb.engine = 2 := h
  have h2 : (s.elapse q.dt).pwr.mode = .standby := m
  have h3 : (s.elapse q.dt).asked op q = true := a
  simp [serve, h1, h2, h3, n, Nat.not_lt.2 l]

/-- A key operation that a tamper aborted answers ST_FAULT (Table 12.9). -/
theorem serve_aborted {op need : Nat} {q : Req} {s : State} {body : State → Except Status Done}
    (h : s.mb.engine = 2) (a : s.asked op q = true) (l : need ≤ q.payload.length) (m : s.pwr.mode = .run)
    (n : s.mb.ch[q.ch].svc.any (·.abort) = true) :
    serve op need q s body = (s.elapse q.dt).respond q.ch op q.tag .fault [] none := by
  have h1 : (s.elapse q.dt).mb.engine = 2 := h
  have h2 : (s.elapse q.dt).pwr.mode = .run := m
  have h3 : (s.elapse q.dt).asked op q = true := a
  have h4 : (s.elapse q.dt).mb.ch[q.ch].svc.any (·.abort) = true := n
  simp only [serve, h1, h2, h3, h4, Nat.not_lt.2 l]
  rfl

/-- A response changes no channel but its own. -/
theorem respond_other (s : State) (c d : Fin 8) (op : Nat) (tag : U32) (st : Status) (b : List U8)
    (post : Option (Nat × List U8)) (h : d ≠ c) : (s.respond c op tag st b post).mb.ch[d] = s.mb.ch[d] := by
  have : c.val ≠ d.val := fun e => h (Fin.ext e.symm)
  simp [State.respond, this]

/-- A body that only answers or is refused leaves the state but for the channel of its message. -/
theorem serve_only_answers {op need : Nat} {q : Req} {s₀ : State} {body : State → Except Status Done}
    (hb : ∀ s d, body s = .ok d → d.st = s ∧ d.wait = false) :
    serve op need q s₀ body = { s₀.elapse q.dt with mb.ch := (serve op need q s₀ body).mb.ch } ∧
      ∀ c : Fin 8, c ≠ q.ch → (serve op need q s₀ body).mb.ch[c] = s₀.mb.ch[c] := by
  have key : ∀ op tag st b post, let t := (s₀.elapse q.dt).respond q.ch op tag st b post
      t = { s₀.elapse q.dt with mb.ch := t.mb.ch } ∧ ∀ c : Fin 8, c ≠ q.ch → t.mb.ch[c] = s₀.mb.ch[c] :=
    fun op tag st b post => ⟨rfl, fun c h => respond_other _ _ _ op tag st b post h⟩
  unfold serve
  dsimp only
  repeat' split
  all_goals first
    | exact key _ _ _ _ _
    | exact ⟨rfl, fun _ _ => rfl⟩
    | (rename_i d hd hw; obtain ⟨h1, h2⟩ := hb _ _ hd; simp [h2] at hw; done)
    | (rename_i d hd hw; obtain ⟨h1, h2⟩ := hb _ _ hd; rw [h1]; exact key _ _ _ _ _)

/-- A message that the engine takes is answered as its body says. -/
theorem serve_takes {op need : Nat} {q : Req} {s : State} (body : State → Except Status Done) (h : Takes op need q s) :
    serve op need q s body = match body (s.elapse q.dt) with
      | .error e => (s.elapse q.dt).respond q.ch op q.tag e [] none
      | .ok d => if d.wait then d.st.waitOn q.ch else d.st.respond q.ch op q.tag d.status d.data d.post := by
  have h1 : (s.elapse q.dt).mb.engine = 2 := h.1
  have h2 : (s.elapse q.dt).pwr.mode = .run := h.2.1
  have h3 : (s.elapse q.dt).asked op q = true := h.2.2.2.1
  have h4 : (s.elapse q.dt).mb.ch[q.ch].svc.any (·.abort) = false := h.2.2.2.2
  simp only [serve, h1, h2, h3, h4, Nat.not_lt.2 h.2.2.1]
  cases body (s.elapse q.dt) <;> rfl

/-- A body that gives data and no more is answered ST_OK. -/
theorem serve_ok {op need : Nat} {q : Req} {s t : State} {b : List U8} {body : State → Except Status Done}
    (h : Takes op need q s) (e : body (s.elapse q.dt) = .ok { st := t, data := b }) :
    serve op need q s body = t.ok q op b := by
  rw [serve_takes body h, e]
  rfl

@[simp] theorem require_true (e : Status) (k : Except Status Done) : require true e k = k := rfl
@[simp] theorem require_false (e : Status) (k : Except Status Done) : require false e k = .error e := rfl

end Sys2Proof.Machine
end

