-- ==== Sys2Proof/Laws/State.lean ====
section
/-! SUPPORT. Laws/State.lean: what each update of the state leaves as it was, one lemma per update and part of the state, and
what the part that it updates reads as. -/
namespace Sys2Proof.Machine
open Sys2Proof

variable (s : State)

/-! ### State.elapse changes `ks` only -/

@[simp] theorem State.elapse_pending (dt : Nat) : (s.elapse dt).pending = s.pending := rfl
@[simp] theorem State.elapse_grid (dt : Nat) : (s.elapse dt).grid = s.grid := rfl
@[simp] theorem State.elapse_slots (dt : Nat) : (s.elapse dt).slots = s.slots := rfl
@[simp] theorem State.elapse_tc (dt : Nat) : (s.elapse dt).tc = s.tc := rfl
@[simp] theorem State.elapse_mb (dt : Nat) : (s.elapse dt).mb = s.mb := rfl
@[simp] theorem State.elapse_sys (dt : Nat) : (s.elapse dt).sys = s.sys := rfl
@[simp] theorem State.elapse_pwr (dt : Nat) : (s.elapse dt).pwr = s.pwr := rfl
@[simp] theorem State.elapse_sh (dt : Nat) : (s.elapse dt).sh = s.sh := rfl
@[simp] theorem State.elapse_sched (dt : Nat) : (s.elapse dt).sched = s.sched := rfl
@[simp] theorem State.elapse_fix (dt : Nat) : (s.elapse dt).fix = s.fix := rfl
@[simp] theorem State.elapse_deck (dt : Nat) : (s.elapse dt).deck = s.deck := rfl
@[simp] theorem State.elapse_ingest (dt : Nat) : (s.elapse dt).ingest = s.ingest := rfl
@[simp] theorem State.elapse_raster (dt : Nat) : (s.elapse dt).raster = s.raster := rfl
@[simp] theorem State.elapse_links (dt : Nat) : (s.elapse dt).links = s.links := rfl
@[simp] theorem State.elapse_spans (dt : Nat) : (s.elapse dt).spans = s.spans := rfl
@[simp] theorem State.elapse_tre (dt : Nat) : (s.elapse dt).tre = s.tre := rfl
@[simp] theorem State.elapse_pier (dt : Nat) : (s.elapse dt).pier = s.pier := rfl
@[simp] theorem State.elapse_ports (dt : Nat) : (s.elapse dt).ports = s.ports := rfl
@[simp] theorem State.elapse_net (dt : Nat) : (s.elapse dt).net = s.net := rfl
@[simp] theorem State.elapse_radio (dt : Nat) : (s.elapse dt).radio = s.radio := rfl
@[simp] theorem State.elapse_box (dt : Nat) : (s.elapse dt).box = s.box := rfl
@[simp] theorem State.elapse_flash (dt : Nat) : (s.elapse dt).flash = s.flash := rfl
@[simp] theorem State.elapse_out (dt : Nat) : (s.elapse dt).out = s.out := rfl
@[simp] theorem State.elapse_fresh (dt : Nat) : (s.elapse dt).fresh = s.fresh := rfl

/-! ### State.draw changes `fresh` only -/

@[simp] theorem State.draw_pending : (s.draw).pending = s.pending := rfl
@[simp] theorem State.draw_ks : (s.draw).ks = s.ks := rfl
@[simp] theorem State.draw_grid : (s.draw).grid = s.grid := rfl
@[simp] theorem State.draw_slots : (s.draw).slots = s.slots := rfl
@[simp] theorem State.draw_tc : (s.draw).tc = s.tc := rfl
@[simp] theorem State.draw_mb : (s.draw).mb = s.mb := rfl
@[simp] theorem State.draw_sys : (s.draw).sys = s.sys := rfl
@[simp] theorem State.draw_pwr : (s.draw).pwr = s.pwr := rfl
@[simp] theorem State.draw_sh : (s.draw).sh = s.sh := rfl
@[simp] theorem State.draw_sched : (s.draw).sched = s.sched := rfl
@[simp] theorem State.draw_fix : (s.draw).fix = s.fix := rfl
@[simp] theorem State.draw_deck : (s.draw).deck = s.deck := rfl
@[simp] theorem State.draw_ingest : (s.draw).ingest = s.ingest := rfl
@[simp] theorem State.draw_raster : (s.draw).raster = s.raster := rfl
@[simp] theorem State.draw_links : (s.draw).links = s.links := rfl
@[simp] theorem State.draw_spans : (s.draw).spans = s.spans := rfl
@[simp] theorem State.draw_tre : (s.draw).tre = s.tre := rfl
@[simp] theorem State.draw_pier : (s.draw).pier = s.pier := rfl
@[simp] theorem State.draw_ports : (s.draw).ports = s.ports := rfl
@[simp] theorem State.draw_net : (s.draw).net = s.net := rfl
@[simp] theorem State.draw_radio : (s.draw).radio = s.radio := rfl
@[simp] theorem State.draw_box : (s.draw).box = s.box := rfl
@[simp] theorem State.draw_flash : (s.draw).flash = s.flash := rfl
@[simp] theorem State.draw_out : (s.draw).out = s.out := rfl

/-! ### State.emit changes `out` only -/

@[simp] theorem State.emit_pending (o : Out) : (s.emit o).pending = s.pending := rfl
@[simp] theorem State.emit_ks (o : Out) : (s.emit o).ks = s.ks := rfl
@[simp] theorem State.emit_grid (o : Out) : (s.emit o).grid = s.grid := rfl
@[simp] theorem State.emit_slots (o : Out) : (s.emit o).slots = s.slots := rfl
@[simp] theorem State.emit_tc (o : Out) : (s.emit o).tc = s.tc := rfl
@[simp] theorem State.emit_mb (o : Out) : (s.emit o).mb = s.mb := rfl
@[simp] theorem State.emit_sys (o : Out) : (s.emit o).sys = s.sys := rfl
@[simp] theorem State.emit_pwr (o : Out) : (s.emit o).pwr = s.pwr := rfl
@[simp] theorem State.emit_sh (o : Out) : (s.emit o).sh = s.sh := rfl
@[simp] theorem State.emit_sched (o : Out) : (s.emit o).sched = s.sched := rfl
@[simp] theorem State.emit_fix (o : Out) : (s.emit o).fix = s.fix := rfl
@[simp] theorem State.emit_deck (o : Out) : (s.emit o).deck = s.deck := rfl
@[simp] theorem State.emit_ingest (o : Out) : (s.emit o).ingest = s.ingest := rfl
@[simp] theorem State.emit_raster (o : Out) : (s.emit o).raster = s.raster := rfl
@[simp] theorem State.emit_links (o : Out) : (s.emit o).links = s.links := rfl
@[simp] theorem State.emit_spans (o : Out) : (s.emit o).spans = s.spans := rfl
@[simp] theorem State.emit_tre (o : Out) : (s.emit o).tre = s.tre := rfl
@[simp] theorem State.emit_pier (o : Out) : (s.emit o).pier = s.pier := rfl
@[simp] theorem State.emit_ports (o : Out) : (s.emit o).ports = s.ports := rfl
@[simp] theorem State.emit_net (o : Out) : (s.emit o).net = s.net := rfl
@[simp] theorem State.emit_radio (o : Out) : (s.emit o).radio = s.radio := rfl
@[simp] theorem State.emit_box (o : Out) : (s.emit o).box = s.box := rfl
@[simp] theorem State.emit_flash (o : Out) : (s.emit o).flash = s.flash := rfl
@[simp] theorem State.emit_fresh (o : Out) : (s.emit o).fresh = s.fresh := rfl

/-! ### State.remember changes `mb` only -/

@[simp] theorem State.remember_pending (op idx : Nat) (pl : List U8) : (s.remember op idx pl).pending = s.pending := rfl
@[simp] theorem State.remember_ks (op idx : Nat) (pl : List U8) : (s.remember op idx pl).ks = s.ks := rfl
@[simp] theorem State.remember_grid (op idx : Nat) (pl : List U8) : (s.remember op idx pl).grid = s.grid := rfl
@[simp] theorem State.remember_slots (op idx : Nat) (pl : List U8) : (s.remember op idx pl).slots = s.slots := rfl
@[simp] theorem State.remember_tc (op idx : Nat) (pl : List U8) : (s.remember op idx pl).tc = s.tc := rfl
@[simp] theorem State.remember_sys (op idx : Nat) (pl : List U8) : (s.remember op idx pl).sys = s.sys := rfl
@[simp] theorem State.remember_pwr (op idx : Nat) (pl : List U8) : (s.remember op idx pl).pwr = s.pwr := rfl
@[simp] theorem State.remember_sh (op idx : Nat) (pl : List U8) : (s.remember op idx pl).sh = s.sh := rfl
@[simp] theorem State.remember_sched (op idx : Nat) (pl : List U8) : (s.remember op idx pl).sched = s.sched := rfl
@[simp] theorem State.remember_fix (op idx : Nat) (pl : List U8) : (s.remember op idx pl).fix = s.fix := rfl
@[simp] theorem State.remember_deck (op idx : Nat) (pl : List U8) : (s.remember op idx pl).deck = s.deck := rfl
@[simp] theorem State.remember_ingest (op idx : Nat) (pl : List U8) : (s.remember op idx pl).ingest = s.ingest := rfl
@[simp] theorem State.remember_raster (op idx : Nat) (pl : List U8) : (s.remember op idx pl).raster = s.raster := rfl
@[simp] theorem State.remember_links (op idx : Nat) (pl : List U8) : (s.remember op idx pl).links = s.links := rfl
@[simp] theorem State.remember_spans (op idx : Nat) (pl : List U8) : (s.remember op idx pl).spans = s.spans := rfl
@[simp] theorem State.remember_tre (op idx : Nat) (pl : List U8) : (s.remember op idx pl).tre = s.tre := rfl
@[simp] theorem State.remember_pier (op idx : Nat) (pl : List U8) : (s.remember op idx pl).pier = s.pier := rfl
@[simp] theorem State.remember_ports (op idx : Nat) (pl : List U8) : (s.remember op idx pl).ports = s.ports := rfl
@[simp] theorem State.remember_net (op idx : Nat) (pl : List U8) : (s.remember op idx pl).net = s.net := rfl
@[simp] theorem State.remember_radio (op idx : Nat) (pl : List U8) : (s.remember op idx pl).radio = s.radio := rfl
@[simp] theorem State.remember_box (op idx : Nat) (pl : List U8) : (s.remember op idx pl).box = s.box := rfl
@[simp] theorem State.remember_flash (op idx : Nat) (pl : List U8) : (s.remember op idx pl).flash = s.flash := rfl
@[simp] theorem State.remember_out (op idx : Nat) (pl : List U8) : (s.remember op idx pl).out = s.out := rfl
@[simp] theorem State.remember_fresh (op idx : Nat) (pl : List U8) : (s.remember op idx pl).fresh = s.fresh := rfl

/-! ### State.defer changes `mb` only -/

@[simp] theorem State.defer_pending (op idx : Nat) (pl : List U8) : (s.defer op idx pl).pending = s.pending := rfl
@[simp] theorem State.defer_ks (op idx : Nat) (pl : List U8) : (s.defer op idx pl).ks = s.ks := rfl
@[simp] theorem State.defer_grid (op idx : Nat) (pl : List U8) : (s.defer op idx pl).grid = s.grid := rfl
@[simp] theorem State.defer_slots (op idx : Nat) (pl : List U8) : (s.defer op idx pl).slots = s.slots := rfl
@[simp] theorem State.defer_tc (op idx : Nat) (pl : List U8) : (s.defer op idx pl).tc = s.tc := rfl
@[simp] theorem State.defer_sys (op idx : Nat) (pl : List U8) : (s.defer op idx pl).sys = s.sys := rfl
@[simp] theorem State.defer_pwr (op idx : Nat) (pl : List U8) : (s.defer op idx pl).pwr = s.pwr := rfl
@[simp] theorem State.defer_sh (op idx : Nat) (pl : List U8) : (s.defer op idx pl).sh = s.sh := rfl
@[simp] theorem State.defer_sched (op idx : Nat) (pl : List U8) : (s.defer op idx pl).sched = s.sched := rfl
@[simp] theorem State.defer_fix (op idx : Nat) (pl : List U8) : (s.defer op idx pl).fix = s.fix := rfl
@[simp] theorem State.defer_deck (op idx : Nat) (pl : List U8) : (s.defer op idx pl).deck = s.deck := rfl
@[simp] theorem State.defer_ingest (op idx : Nat) (pl : List U8) : (s.defer op idx pl).ingest = s.ingest := rfl
@[simp] theorem State.defer_raster (op idx : Nat) (pl : List U8) : (s.defer op idx pl).raster = s.raster := rfl
@[simp] theorem State.defer_links (op idx : Nat) (pl : List U8) : (s.defer op idx pl).links = s.links := rfl
@[simp] theorem State.defer_spans (op idx : Nat) (pl : List U8) : (s.defer op idx pl).spans = s.spans := rfl
@[simp] theorem State.defer_tre (op idx : Nat) (pl : List U8) : (s.defer op idx pl).tre = s.tre := rfl
@[simp] theorem State.defer_pier (op idx : Nat) (pl : List U8) : (s.defer op idx pl).pier = s.pier := rfl
@[simp] theorem State.defer_ports (op idx : Nat) (pl : List U8) : (s.defer op idx pl).ports = s.ports := rfl
@[simp] theorem State.defer_net (op idx : Nat) (pl : List U8) : (s.defer op idx pl).net = s.net := rfl
@[simp] theorem State.defer_radio (op idx : Nat) (pl : List U8) : (s.defer op idx pl).radio = s.radio := rfl
@[simp] theorem State.defer_box (op idx : Nat) (pl : List U8) : (s.defer op idx pl).box = s.box := rfl
@[simp] theorem State.defer_flash (op idx : Nat) (pl : List U8) : (s.defer op idx pl).flash = s.flash := rfl
@[simp] theorem State.defer_out (op idx : Nat) (pl : List U8) : (s.defer op idx pl).out = s.out := rfl
@[simp] theorem State.defer_fresh (op idx : Nat) (pl : List U8) : (s.defer op idx pl).fresh = s.fresh := rfl

/-! ### State.respond changes `mb` only -/

@[simp] theorem State.respond_pending (c : Fin 8) (op : Nat) (tag : U32) (st : Status) (d : List U8) (post : Option (Nat × List U8)) : (s.respond c op tag st d post).pending = s.pending := rfl
@[simp] theorem State.respond_ks (c : Fin 8) (op : Nat) (tag : U32) (st : Status) (d : List U8) (post : Option (Nat × List U8)) : (s.respond c op tag st d post).ks = s.ks := rfl
@[simp] theorem State.respond_grid (c : Fin 8) (op : Nat) (tag : U32) (st : Status) (d : List U8) (post : Option (Nat × List U8)) : (s.respond c op tag st d post).grid = s.grid := rfl
@[simp] theorem State.respond_slots (c : Fin 8) (op : Nat) (tag : U32) (st : Status) (d : List U8) (post : Option (Nat × List U8)) : (s.respond c op tag st d post).slots = s.slots := rfl
@[simp] theorem State.respond_tc (c : Fin 8) (op : Nat) (tag : U32) (st : Status) (d : List U8) (post : Option (Nat × List U8)) : (s.respond c op tag st d post).tc = s.tc := rfl
@[simp] theorem State.respond_sys (c : Fin 8) (op : Nat) (tag : U32) (st : Status) (d : List U8) (post : Option (Nat × List U8)) : (s.respond c op tag st d post).sys = s.sys := rfl
@[simp] theorem State.respond_pwr (c : Fin 8) (op : Nat) (tag : U32) (st : Status) (d : List U8) (post : Option (Nat × List U8)) : (s.respond c op tag st d post).pwr = s.pwr := rfl
@[simp] theorem State.respond_sh (c : Fin 8) (op : Nat) (tag : U32) (st : Status) (d : List U8) (post : Option (Nat × List U8)) : (s.respond c op tag st d post).sh = s.sh := rfl
@[simp] theorem State.respond_sched (c : Fin 8) (op : Nat) (tag : U32) (st : Status) (d : List U8) (post : Option (Nat × List U8)) : (s.respond c op tag st d post).sched = s.sched := rfl
@[simp] theorem State.respond_fix (c : Fin 8) (op : Nat) (tag : U32) (st : Status) (d : List U8) (post : Option (Nat × List U8)) : (s.respond c op tag st d post).fix = s.fix := rfl
@[simp] theorem State.respond_deck (c : Fin 8) (op : Nat) (tag : U32) (st : Status) (d : List U8) (post : Option (Nat × List U8)) : (s.respond c op tag st d post).deck = s.deck := rfl
@[simp] theorem State.respond_ingest (c : Fin 8) (op : Nat) (tag : U32) (st : Status) (d : List U8) (post : Option (Nat × List U8)) : (s.respond c op tag st d post).ingest = s.ingest := rfl
@[simp] theorem State.respond_raster (c : Fin 8) (op : Nat) (tag : U32) (st : Status) (d : List U8) (post : Option (Nat × List U8)) : (s.respond c op tag st d post).raster = s.raster := rfl
@[simp] theorem State.respond_links (c : Fin 8) (op : Nat) (tag : U32) (st : Status) (d : List U8) (post : Option (Nat × List U8)) : (s.respond c op tag st d post).links = s.links := rfl
@[simp] theorem State.respond_spans (c : Fin 8) (op : Nat) (tag : U32) (st : Status) (d : List U8) (post : Option (Nat × List U8)) : (s.respond c op tag st d post).spans = s.spans := rfl
@[simp] theorem State.respond_tre (c : Fin 8) (op : Nat) (tag : U32) (st : Status) (d : List U8) (post : Option (Nat × List U8)) : (s.respond c op tag st d post).tre = s.tre := rfl
@[simp] theorem State.respond_pier (c : Fin 8) (op : Nat) (tag : U32) (st : Status) (d : List U8) (post : Option (Nat × List U8)) : (s.respond c op tag st d post).pier = s.pier := rfl
@[simp] theorem State.respond_ports (c : Fin 8) (op : Nat) (tag : U32) (st : Status) (d : List U8) (post : Option (Nat × List U8)) : (s.respond c op tag st d post).ports = s.ports := rfl
@[simp] theorem State.respond_net (c : Fin 8) (op : Nat) (tag : U32) (st : Status) (d : List U8) (post : Option (Nat × List U8)) : (s.respond c op tag st d post).net = s.net := rfl
@[simp] theorem State.respond_radio (c : Fin 8) (op : Nat) (tag : U32) (st : Status) (d : List U8) (post : Option (Nat × List U8)) : (s.respond c op tag st d post).radio = s.radio := rfl
@[simp] theorem State.respond_box (c : Fin 8) (op : Nat) (tag : U32) (st : Status) (d : List U8) (post : Option (Nat × List U8)) : (s.respond c op tag st d post).box = s.box := rfl
@[simp] theorem State.respond_flash (c : Fin 8) (op : Nat) (tag : U32) (st : Status) (d : List U8) (post : Option (Nat × List U8)) : (s.respond c op tag st d post).flash = s.flash := rfl
@[simp] theorem State.respond_out (c : Fin 8) (op : Nat) (tag : U32) (st : Status) (d : List U8) (post : Option (Nat × List U8)) : (s.respond c op tag st d post).out = s.out := rfl
@[simp] theorem State.respond_fresh (c : Fin 8) (op : Nat) (tag : U32) (st : Status) (d : List U8) (post : Option (Nat × List U8)) : (s.respond c op tag st d post).fresh = s.fresh := rfl

/-! ### State.ok changes `mb` only -/

@[simp] theorem State.ok_pending (q : Req) (op : Nat) (b : List U8) : (s.ok q op b).pending = s.pending := rfl
@[simp] theorem State.ok_ks (q : Req) (op : Nat) (b : List U8) : (s.ok q op b).ks = s.ks := rfl
@[simp] theorem State.ok_grid (q : Req) (op : Nat) (b : List U8) : (s.ok q op b).grid = s.grid := rfl
@[simp] theorem State.ok_slots (q : Req) (op : Nat) (b : List U8) : (s.ok q op b).slots = s.slots := rfl
@[simp] theorem State.ok_tc (q : Req) (op : Nat) (b : List U8) : (s.ok q op b).tc = s.tc := rfl
@[simp] theorem State.ok_sys (q : Req) (op : Nat) (b : List U8) : (s.ok q op b).sys = s.sys := rfl
@[simp] theorem State.ok_pwr (q : Req) (op : Nat) (b : List U8) : (s.ok q op b).pwr = s.pwr := rfl
@[simp] theorem State.ok_sh (q : Req) (op : Nat) (b : List U8) : (s.ok q op b).sh = s.sh := rfl
@[simp] theorem State.ok_sched (q : Req) (op : Nat) (b : List U8) : (s.ok q op b).sched = s.sched := rfl
@[simp] theorem State.ok_fix (q : Req) (op : Nat) (b : List U8) : (s.ok q op b).fix = s.fix := rfl
@[simp] theorem State.ok_deck (q : Req) (op : Nat) (b : List U8) : (s.ok q op b).deck = s.deck := rfl
@[simp] theorem State.ok_ingest (q : Req) (op : Nat) (b : List U8) : (s.ok q op b).ingest = s.ingest := rfl
@[simp] theorem State.ok_raster (q : Req) (op : Nat) (b : List U8) : (s.ok q op b).raster = s.raster := rfl
@[simp] theorem State.ok_links (q : Req) (op : Nat) (b : List U8) : (s.ok q op b).links = s.links := rfl
@[simp] theorem State.ok_spans (q : Req) (op : Nat) (b : List U8) : (s.ok q op b).spans = s.spans := rfl
@[simp] theorem State.ok_tre (q : Req) (op : Nat) (b : List U8) : (s.ok q op b).tre = s.tre := rfl
@[simp] theorem State.ok_pier (q : Req) (op : Nat) (b : List U8) : (s.ok q op b).pier = s.pier := rfl
@[simp] theorem State.ok_ports (q : Req) (op : Nat) (b : List U8) : (s.ok q op b).ports = s.ports := rfl
@[simp] theorem State.ok_net (q : Req) (op : Nat) (b : List U8) : (s.ok q op b).net = s.net := rfl
@[simp] theorem State.ok_radio (q : Req) (op : Nat) (b : List U8) : (s.ok q op b).radio = s.radio := rfl
@[simp] theorem State.ok_box (q : Req) (op : Nat) (b : List U8) : (s.ok q op b).box = s.box := rfl
@[simp] theorem State.ok_flash (q : Req) (op : Nat) (b : List U8) : (s.ok q op b).flash = s.flash := rfl
@[simp] theorem State.ok_out (q : Req) (op : Nat) (b : List U8) : (s.ok q op b).out = s.out := rfl
@[simp] theorem State.ok_fresh (q : Req) (op : Nat) (b : List U8) : (s.ok q op b).fresh = s.fresh := rfl

/-! ### State.modCh changes `mb` only -/

@[simp] theorem State.modCh_pending (c : Fin 8) (f : Chan → Chan) : (s.modCh c f).pending = s.pending := rfl
@[simp] theorem State.modCh_ks (c : Fin 8) (f : Chan → Chan) : (s.modCh c f).ks = s.ks := rfl
@[simp] theorem State.modCh_grid (c : Fin 8) (f : Chan → Chan) : (s.modCh c f).grid = s.grid := rfl
@[simp] theorem State.modCh_slots (c : Fin 8) (f : Chan → Chan) : (s.modCh c f).slots = s.slots := rfl
@[simp] theorem State.modCh_tc (c : Fin 8) (f : Chan → Chan) : (s.modCh c f).tc = s.tc := rfl
@[simp] theorem State.modCh_sys (c : Fin 8) (f : Chan → Chan) : (s.modCh c f).sys = s.sys := rfl
@[simp] theorem State.modCh_pwr (c : Fin 8) (f : Chan → Chan) : (s.modCh c f).pwr = s.pwr := rfl
@[simp] theorem State.modCh_sh (c : Fin 8) (f : Chan → Chan) : (s.modCh c f).sh = s.sh := rfl
@[simp] theorem State.modCh_sched (c : Fin 8) (f : Chan → Chan) : (s.modCh c f).sched = s.sched := rfl
@[simp] theorem State.modCh_fix (c : Fin 8) (f : Chan → Chan) : (s.modCh c f).fix = s.fix := rfl
@[simp] theorem State.modCh_deck (c : Fin 8) (f : Chan → Chan) : (s.modCh c f).deck = s.deck := rfl
@[simp] theorem State.modCh_ingest (c : Fin 8) (f : Chan → Chan) : (s.modCh c f).ingest = s.ingest := rfl
@[simp] theorem State.modCh_raster (c : Fin 8) (f : Chan → Chan) : (s.modCh c f).raster = s.raster := rfl
@[simp] theorem State.modCh_links (c : Fin 8) (f : Chan → Chan) : (s.modCh c f).links = s.links := rfl
@[simp] theorem State.modCh_spans (c : Fin 8) (f : Chan → Chan) : (s.modCh c f).spans = s.spans := rfl
@[simp] theorem State.modCh_tre (c : Fin 8) (f : Chan → Chan) : (s.modCh c f).tre = s.tre := rfl
@[simp] theorem State.modCh_pier (c : Fin 8) (f : Chan → Chan) : (s.modCh c f).pier = s.pier := rfl
@[simp] theorem State.modCh_ports (c : Fin 8) (f : Chan → Chan) : (s.modCh c f).ports = s.ports := rfl
@[simp] theorem State.modCh_net (c : Fin 8) (f : Chan → Chan) : (s.modCh c f).net = s.net := rfl
@[simp] theorem State.modCh_radio (c : Fin 8) (f : Chan → Chan) : (s.modCh c f).radio = s.radio := rfl
@[simp] theorem State.modCh_box (c : Fin 8) (f : Chan → Chan) : (s.modCh c f).box = s.box := rfl
@[simp] theorem State.modCh_flash (c : Fin 8) (f : Chan → Chan) : (s.modCh c f).flash = s.flash := rfl
@[simp] theorem State.modCh_out (c : Fin 8) (f : Chan → Chan) : (s.modCh c f).out = s.out := rfl
@[simp] theorem State.modCh_fresh (c : Fin 8) (f : Chan → Chan) : (s.modCh c f).fresh = s.fresh := rfl

/-! ### State.modQueue changes `net` only -/

@[simp] theorem State.modQueue_pending (n : Nat) (f : Queue → Queue) : (s.modQueue n f).pending = s.pending := rfl
@[simp] theorem State.modQueue_ks (n : Nat) (f : Queue → Queue) : (s.modQueue n f).ks = s.ks := rfl
@[simp] theorem State.modQueue_grid (n : Nat) (f : Queue → Queue) : (s.modQueue n f).grid = s.grid := rfl
@[simp] theorem State.modQueue_slots (n : Nat) (f : Queue → Queue) : (s.modQueue n f).slots = s.slots := rfl
@[simp] theorem State.modQueue_tc (n : Nat) (f : Queue → Queue) : (s.modQueue n f).tc = s.tc := rfl
@[simp] theorem State.modQueue_mb (n : Nat) (f : Queue → Queue) : (s.modQueue n f).mb = s.mb := rfl
@[simp] theorem State.modQueue_sys (n : Nat) (f : Queue → Queue) : (s.modQueue n f).sys = s.sys := rfl
@[simp] theorem State.modQueue_pwr (n : Nat) (f : Queue → Queue) : (s.modQueue n f).pwr = s.pwr := rfl
@[simp] theorem State.modQueue_sh (n : Nat) (f : Queue → Queue) : (s.modQueue n f).sh = s.sh := rfl
@[simp] theorem State.modQueue_sched (n : Nat) (f : Queue → Queue) : (s.modQueue n f).sched = s.sched := rfl
@[simp] theorem State.modQueue_fix (n : Nat) (f : Queue → Queue) : (s.modQueue n f).fix = s.fix := rfl
@[simp] theorem State.modQueue_deck (n : Nat) (f : Queue → Queue) : (s.modQueue n f).deck = s.deck := rfl
@[simp] theorem State.modQueue_ingest (n : Nat) (f : Queue → Queue) : (s.modQueue n f).ingest = s.ingest := rfl
@[simp] theorem State.modQueue_raster (n : Nat) (f : Queue → Queue) : (s.modQueue n f).raster = s.raster := rfl
@[simp] theorem State.modQueue_links (n : Nat) (f : Queue → Queue) : (s.modQueue n f).links = s.links := rfl
@[simp] theorem State.modQueue_spans (n : Nat) (f : Queue → Queue) : (s.modQueue n f).spans = s.spans := rfl
@[simp] theorem State.modQueue_tre (n : Nat) (f : Queue → Queue) : (s.modQueue n f).tre = s.tre := rfl
@[simp] theorem State.modQueue_pier (n : Nat) (f : Queue → Queue) : (s.modQueue n f).pier = s.pier := rfl
@[simp] theorem State.modQueue_ports (n : Nat) (f : Queue → Queue) : (s.modQueue n f).ports = s.ports := rfl
@[simp] theorem State.modQueue_radio (n : Nat) (f : Queue → Queue) : (s.modQueue n f).radio = s.radio := rfl
@[simp] theorem State.modQueue_box (n : Nat) (f : Queue → Queue) : (s.modQueue n f).box = s.box := rfl
@[simp] theorem State.modQueue_flash (n : Nat) (f : Queue → Queue) : (s.modQueue n f).flash = s.flash := rfl
@[simp] theorem State.modQueue_out (n : Nat) (f : Queue → Queue) : (s.modQueue n f).out = s.out := rfl
@[simp] theorem State.modQueue_fresh (n : Nat) (f : Queue → Queue) : (s.modQueue n f).fresh = s.fresh := rfl

/-! ### State.modEth changes `net` only -/

@[simp] theorem State.modEth_pending (n : Fin 4) (f : Eth → Eth) : (s.modEth n f).pending = s.pending := rfl
@[simp] theorem State.modEth_ks (n : Fin 4) (f : Eth → Eth) : (s.modEth n f).ks = s.ks := rfl
@[simp] theorem State.modEth_grid (n : Fin 4) (f : Eth → Eth) : (s.modEth n f).grid = s.grid := rfl
@[simp] theorem State.modEth_slots (n : Fin 4) (f : Eth → Eth) : (s.modEth n f).slots = s.slots := rfl
@[simp] theorem State.modEth_tc (n : Fin 4) (f : Eth → Eth) : (s.modEth n f).tc = s.tc := rfl
@[simp] theorem State.modEth_mb (n : Fin 4) (f : Eth → Eth) : (s.modEth n f).mb = s.mb := rfl
@[simp] theorem State.modEth_sys (n : Fin 4) (f : Eth → Eth) : (s.modEth n f).sys = s.sys := rfl
@[simp] theorem State.modEth_pwr (n : Fin 4) (f : Eth → Eth) : (s.modEth n f).pwr = s.pwr := rfl
@[simp] theorem State.modEth_sh (n : Fin 4) (f : Eth → Eth) : (s.modEth n f).sh = s.sh := rfl
@[simp] theorem State.modEth_sched (n : Fin 4) (f : Eth → Eth) : (s.modEth n f).sched = s.sched := rfl
@[simp] theorem State.modEth_fix (n : Fin 4) (f : Eth → Eth) : (s.modEth n f).fix = s.fix := rfl
@[simp] theorem State.modEth_deck (n : Fin 4) (f : Eth → Eth) : (s.modEth n f).deck = s.deck := rfl
@[simp] theorem State.modEth_ingest (n : Fin 4) (f : Eth → Eth) : (s.modEth n f).ingest = s.ingest := rfl
@[simp] theorem State.modEth_raster (n : Fin 4) (f : Eth → Eth) : (s.modEth n f).raster = s.raster := rfl
@[simp] theorem State.modEth_links (n : Fin 4) (f : Eth → Eth) : (s.modEth n f).links = s.links := rfl
@[simp] theorem State.modEth_spans (n : Fin 4) (f : Eth → Eth) : (s.modEth n f).spans = s.spans := rfl
@[simp] theorem State.modEth_tre (n : Fin 4) (f : Eth → Eth) : (s.modEth n f).tre = s.tre := rfl
@[simp] theorem State.modEth_pier (n : Fin 4) (f : Eth → Eth) : (s.modEth n f).pier = s.pier := rfl
@[simp] theorem State.modEth_ports (n : Fin 4) (f : Eth → Eth) : (s.modEth n f).ports = s.ports := rfl
@[simp] theorem State.modEth_radio (n : Fin 4) (f : Eth → Eth) : (s.modEth n f).radio = s.radio := rfl
@[simp] theorem State.modEth_box (n : Fin 4) (f : Eth → Eth) : (s.modEth n f).box = s.box := rfl
@[simp] theorem State.modEth_flash (n : Fin 4) (f : Eth → Eth) : (s.modEth n f).flash = s.flash := rfl
@[simp] theorem State.modEth_out (n : Fin 4) (f : Eth → Eth) : (s.modEth n f).out = s.out := rfl
@[simp] theorem State.modEth_fresh (n : Fin 4) (f : Eth → Eth) : (s.modEth n f).fresh = s.fresh := rfl

/-! ### State.modPtp changes `net` only -/

@[simp] theorem State.modPtp_pending (n : Fin 4) (f : PtpPort → PtpPort) : (s.modPtp n f).pending = s.pending := rfl
@[simp] theorem State.modPtp_ks (n : Fin 4) (f : PtpPort → PtpPort) : (s.modPtp n f).ks = s.ks := rfl
@[simp] theorem State.modPtp_grid (n : Fin 4) (f : PtpPort → PtpPort) : (s.modPtp n f).grid = s.grid := rfl
@[simp] theorem State.modPtp_slots (n : Fin 4) (f : PtpPort → PtpPort) : (s.modPtp n f).slots = s.slots := rfl
@[simp] theorem State.modPtp_tc (n : Fin 4) (f : PtpPort → PtpPort) : (s.modPtp n f).tc = s.tc := rfl
@[simp] theorem State.modPtp_mb (n : Fin 4) (f : PtpPort → PtpPort) : (s.modPtp n f).mb = s.mb := rfl
@[simp] theorem State.modPtp_sys (n : Fin 4) (f : PtpPort → PtpPort) : (s.modPtp n f).sys = s.sys := rfl
@[simp] theorem State.modPtp_pwr (n : Fin 4) (f : PtpPort → PtpPort) : (s.modPtp n f).pwr = s.pwr := rfl
@[simp] theorem State.modPtp_sh (n : Fin 4) (f : PtpPort → PtpPort) : (s.modPtp n f).sh = s.sh := rfl
@[simp] theorem State.modPtp_sched (n : Fin 4) (f : PtpPort → PtpPort) : (s.modPtp n f).sched = s.sched := rfl
@[simp] theorem State.modPtp_fix (n : Fin 4) (f : PtpPort → PtpPort) : (s.modPtp n f).fix = s.fix := rfl
@[simp] theorem State.modPtp_deck (n : Fin 4) (f : PtpPort → PtpPort) : (s.modPtp n f).deck = s.deck := rfl
@[simp] theorem State.modPtp_ingest (n : Fin 4) (f : PtpPort → PtpPort) : (s.modPtp n f).ingest = s.ingest := rfl
@[simp] theorem State.modPtp_raster (n : Fin 4) (f : PtpPort → PtpPort) : (s.modPtp n f).raster = s.raster := rfl
@[simp] theorem State.modPtp_links (n : Fin 4) (f : PtpPort → PtpPort) : (s.modPtp n f).links = s.links := rfl
@[simp] theorem State.modPtp_spans (n : Fin 4) (f : PtpPort → PtpPort) : (s.modPtp n f).spans = s.spans := rfl
@[simp] theorem State.modPtp_tre (n : Fin 4) (f : PtpPort → PtpPort) : (s.modPtp n f).tre = s.tre := rfl
@[simp] theorem State.modPtp_pier (n : Fin 4) (f : PtpPort → PtpPort) : (s.modPtp n f).pier = s.pier := rfl
@[simp] theorem State.modPtp_ports (n : Fin 4) (f : PtpPort → PtpPort) : (s.modPtp n f).ports = s.ports := rfl
@[simp] theorem State.modPtp_radio (n : Fin 4) (f : PtpPort → PtpPort) : (s.modPtp n f).radio = s.radio := rfl
@[simp] theorem State.modPtp_box (n : Fin 4) (f : PtpPort → PtpPort) : (s.modPtp n f).box = s.box := rfl
@[simp] theorem State.modPtp_flash (n : Fin 4) (f : PtpPort → PtpPort) : (s.modPtp n f).flash = s.flash := rfl
@[simp] theorem State.modPtp_out (n : Fin 4) (f : PtpPort → PtpPort) : (s.modPtp n f).out = s.out := rfl
@[simp] theorem State.modPtp_fresh (n : Fin 4) (f : PtpPort → PtpPort) : (s.modPtp n f).fresh = s.fresh := rfl

/-! ### State.modAes changes `net` only -/

@[simp] theorem State.modAes_pending (i : Fin 16) (f : Media → Media) : (s.modAes i f).pending = s.pending := rfl
@[simp] theorem State.modAes_ks (i : Fin 16) (f : Media → Media) : (s.modAes i f).ks = s.ks := rfl
@[simp] theorem State.modAes_grid (i : Fin 16) (f : Media → Media) : (s.modAes i f).grid = s.grid := rfl
@[simp] theorem State.modAes_slots (i : Fin 16) (f : Media → Media) : (s.modAes i f).slots = s.slots := rfl
@[simp] theorem State.modAes_tc (i : Fin 16) (f : Media → Media) : (s.modAes i f).tc = s.tc := rfl
@[simp] theorem State.modAes_mb (i : Fin 16) (f : Media → Media) : (s.modAes i f).mb = s.mb := rfl
@[simp] theorem State.modAes_sys (i : Fin 16) (f : Media → Media) : (s.modAes i f).sys = s.sys := rfl
@[simp] theorem State.modAes_pwr (i : Fin 16) (f : Media → Media) : (s.modAes i f).pwr = s.pwr := rfl
@[simp] theorem State.modAes_sh (i : Fin 16) (f : Media → Media) : (s.modAes i f).sh = s.sh := rfl
@[simp] theorem State.modAes_sched (i : Fin 16) (f : Media → Media) : (s.modAes i f).sched = s.sched := rfl
@[simp] theorem State.modAes_fix (i : Fin 16) (f : Media → Media) : (s.modAes i f).fix = s.fix := rfl
@[simp] theorem State.modAes_deck (i : Fin 16) (f : Media → Media) : (s.modAes i f).deck = s.deck := rfl
@[simp] theorem State.modAes_ingest (i : Fin 16) (f : Media → Media) : (s.modAes i f).ingest = s.ingest := rfl
@[simp] theorem State.modAes_raster (i : Fin 16) (f : Media → Media) : (s.modAes i f).raster = s.raster := rfl
@[simp] theorem State.modAes_links (i : Fin 16) (f : Media → Media) : (s.modAes i f).links = s.links := rfl
@[simp] theorem State.modAes_spans (i : Fin 16) (f : Media → Media) : (s.modAes i f).spans = s.spans := rfl
@[simp] theorem State.modAes_tre (i : Fin 16) (f : Media → Media) : (s.modAes i f).tre = s.tre := rfl
@[simp] theorem State.modAes_pier (i : Fin 16) (f : Media → Media) : (s.modAes i f).pier = s.pier := rfl
@[simp] theorem State.modAes_ports (i : Fin 16) (f : Media → Media) : (s.modAes i f).ports = s.ports := rfl
@[simp] theorem State.modAes_radio (i : Fin 16) (f : Media → Media) : (s.modAes i f).radio = s.radio := rfl
@[simp] theorem State.modAes_box (i : Fin 16) (f : Media → Media) : (s.modAes i f).box = s.box := rfl
@[simp] theorem State.modAes_flash (i : Fin 16) (f : Media → Media) : (s.modAes i f).flash = s.flash := rfl
@[simp] theorem State.modAes_out (i : Fin 16) (f : Media → Media) : (s.modAes i f).out = s.out := rfl
@[simp] theorem State.modAes_fresh (i : Fin 16) (f : Media → Media) : (s.modAes i f).fresh = s.fresh := rfl

/-! ### State.modVideo changes `net` only -/

@[simp] theorem State.modVideo_pending (i : Fin 8) (f : Media → Media) : (s.modVideo i f).pending = s.pending := rfl
@[simp] theorem State.modVideo_ks (i : Fin 8) (f : Media → Media) : (s.modVideo i f).ks = s.ks := rfl
@[simp] theorem State.modVideo_grid (i : Fin 8) (f : Media → Media) : (s.modVideo i f).grid = s.grid := rfl
@[simp] theorem State.modVideo_slots (i : Fin 8) (f : Media → Media) : (s.modVideo i f).slots = s.slots := rfl
@[simp] theorem State.modVideo_tc (i : Fin 8) (f : Media → Media) : (s.modVideo i f).tc = s.tc := rfl
@[simp] theorem State.modVideo_mb (i : Fin 8) (f : Media → Media) : (s.modVideo i f).mb = s.mb := rfl
@[simp] theorem State.modVideo_sys (i : Fin 8) (f : Media → Media) : (s.modVideo i f).sys = s.sys := rfl
@[simp] theorem State.modVideo_pwr (i : Fin 8) (f : Media → Media) : (s.modVideo i f).pwr = s.pwr := rfl
@[simp] theorem State.modVideo_sh (i : Fin 8) (f : Media → Media) : (s.modVideo i f).sh = s.sh := rfl
@[simp] theorem State.modVideo_sched (i : Fin 8) (f : Media → Media) : (s.modVideo i f).sched = s.sched := rfl
@[simp] theorem State.modVideo_fix (i : Fin 8) (f : Media → Media) : (s.modVideo i f).fix = s.fix := rfl
@[simp] theorem State.modVideo_deck (i : Fin 8) (f : Media → Media) : (s.modVideo i f).deck = s.deck := rfl
@[simp] theorem State.modVideo_ingest (i : Fin 8) (f : Media → Media) : (s.modVideo i f).ingest = s.ingest := rfl
@[simp] theorem State.modVideo_raster (i : Fin 8) (f : Media → Media) : (s.modVideo i f).raster = s.raster := rfl
@[simp] theorem State.modVideo_links (i : Fin 8) (f : Media → Media) : (s.modVideo i f).links = s.links := rfl
@[simp] theorem State.modVideo_spans (i : Fin 8) (f : Media → Media) : (s.modVideo i f).spans = s.spans := rfl
@[simp] theorem State.modVideo_tre (i : Fin 8) (f : Media → Media) : (s.modVideo i f).tre = s.tre := rfl
@[simp] theorem State.modVideo_pier (i : Fin 8) (f : Media → Media) : (s.modVideo i f).pier = s.pier := rfl
@[simp] theorem State.modVideo_ports (i : Fin 8) (f : Media → Media) : (s.modVideo i f).ports = s.ports := rfl
@[simp] theorem State.modVideo_radio (i : Fin 8) (f : Media → Media) : (s.modVideo i f).radio = s.radio := rfl
@[simp] theorem State.modVideo_box (i : Fin 8) (f : Media → Media) : (s.modVideo i f).box = s.box := rfl
@[simp] theorem State.modVideo_flash (i : Fin 8) (f : Media → Media) : (s.modVideo i f).flash = s.flash := rfl
@[simp] theorem State.modVideo_out (i : Fin 8) (f : Media → Media) : (s.modVideo i f).out = s.out := rfl
@[simp] theorem State.modVideo_fresh (i : Fin 8) (f : Media → Media) : (s.modVideo i f).fresh = s.fresh := rfl

/-! ### State.modDest changes `tre` only -/

@[simp] theorem State.modDest_pending (n : Nat) (f : Dest → Dest) : (s.modDest n f).pending = s.pending := rfl
@[simp] theorem State.modDest_ks (n : Nat) (f : Dest → Dest) : (s.modDest n f).ks = s.ks := rfl
@[simp] theorem State.modDest_grid (n : Nat) (f : Dest → Dest) : (s.modDest n f).grid = s.grid := rfl
@[simp] theorem State.modDest_slots (n : Nat) (f : Dest → Dest) : (s.modDest n f).slots = s.slots := rfl
@[simp] theorem State.modDest_tc (n : Nat) (f : Dest → Dest) : (s.modDest n f).tc = s.tc := rfl
@[simp] theorem State.modDest_mb (n : Nat) (f : Dest → Dest) : (s.modDest n f).mb = s.mb := rfl
@[simp] theorem State.modDest_sys (n : Nat) (f : Dest → Dest) : (s.modDest n f).sys = s.sys := rfl
@[simp] theorem State.modDest_pwr (n : Nat) (f : Dest → Dest) : (s.modDest n f).pwr = s.pwr := rfl
@[simp] theorem State.modDest_sh (n : Nat) (f : Dest → Dest) : (s.modDest n f).sh = s.sh := rfl
@[simp] theorem State.modDest_sched (n : Nat) (f : Dest → Dest) : (s.modDest n f).sched = s.sched := rfl
@[simp] theorem State.modDest_fix (n : Nat) (f : Dest → Dest) : (s.modDest n f).fix = s.fix := rfl
@[simp] theorem State.modDest_deck (n : Nat) (f : Dest → Dest) : (s.modDest n f).deck = s.deck := rfl
@[simp] theorem State.modDest_ingest (n : Nat) (f : Dest → Dest) : (s.modDest n f).ingest = s.ingest := rfl
@[simp] theorem State.modDest_raster (n : Nat) (f : Dest → Dest) : (s.modDest n f).raster = s.raster := rfl
@[simp] theorem State.modDest_links (n : Nat) (f : Dest → Dest) : (s.modDest n f).links = s.links := rfl
@[simp] theorem State.modDest_spans (n : Nat) (f : Dest → Dest) : (s.modDest n f).spans = s.spans := rfl
@[simp] theorem State.modDest_pier (n : Nat) (f : Dest → Dest) : (s.modDest n f).pier = s.pier := rfl
@[simp] theorem State.modDest_ports (n : Nat) (f : Dest → Dest) : (s.modDest n f).ports = s.ports := rfl
@[simp] theorem State.modDest_net (n : Nat) (f : Dest → Dest) : (s.modDest n f).net = s.net := rfl
@[simp] theorem State.modDest_radio (n : Nat) (f : Dest → Dest) : (s.modDest n f).radio = s.radio := rfl
@[simp] theorem State.modDest_box (n : Nat) (f : Dest → Dest) : (s.modDest n f).box = s.box := rfl
@[simp] theorem State.modDest_flash (n : Nat) (f : Dest → Dest) : (s.modDest n f).flash = s.flash := rfl
@[simp] theorem State.modDest_out (n : Nat) (f : Dest → Dest) : (s.modDest n f).out = s.out := rfl
@[simp] theorem State.modDest_fresh (n : Nat) (f : Dest → Dest) : (s.modDest n f).fresh = s.fresh := rfl

/-! ### State.modLink changes `links` only -/

@[simp] theorem State.modLink_pending (sp : Fin 12) (f : Link → Link) : (s.modLink sp f).pending = s.pending := rfl
@[simp] theorem State.modLink_ks (sp : Fin 12) (f : Link → Link) : (s.modLink sp f).ks = s.ks := rfl
@[simp] theorem State.modLink_grid (sp : Fin 12) (f : Link → Link) : (s.modLink sp f).grid = s.grid := rfl
@[simp] theorem State.modLink_slots (sp : Fin 12) (f : Link → Link) : (s.modLink sp f).slots = s.slots := rfl
@[simp] theorem State.modLink_tc (sp : Fin 12) (f : Link → Link) : (s.modLink sp f).tc = s.tc := rfl
@[simp] theorem State.modLink_mb (sp : Fin 12) (f : Link → Link) : (s.modLink sp f).mb = s.mb := rfl
@[simp] theorem State.modLink_sys (sp : Fin 12) (f : Link → Link) : (s.modLink sp f).sys = s.sys := rfl
@[simp] theorem State.modLink_pwr (sp : Fin 12) (f : Link → Link) : (s.modLink sp f).pwr = s.pwr := rfl
@[simp] theorem State.modLink_sh (sp : Fin 12) (f : Link → Link) : (s.modLink sp f).sh = s.sh := rfl
@[simp] theorem State.modLink_sched (sp : Fin 12) (f : Link → Link) : (s.modLink sp f).sched = s.sched := rfl
@[simp] theorem State.modLink_fix (sp : Fin 12) (f : Link → Link) : (s.modLink sp f).fix = s.fix := rfl
@[simp] theorem State.modLink_deck (sp : Fin 12) (f : Link → Link) : (s.modLink sp f).deck = s.deck := rfl
@[simp] theorem State.modLink_ingest (sp : Fin 12) (f : Link → Link) : (s.modLink sp f).ingest = s.ingest := rfl
@[simp] theorem State.modLink_raster (sp : Fin 12) (f : Link → Link) : (s.modLink sp f).raster = s.raster := rfl
@[simp] theorem State.modLink_spans (sp : Fin 12) (f : Link → Link) : (s.modLink sp f).spans = s.spans := rfl
@[simp] theorem State.modLink_tre (sp : Fin 12) (f : Link → Link) : (s.modLink sp f).tre = s.tre := rfl
@[simp] theorem State.modLink_pier (sp : Fin 12) (f : Link → Link) : (s.modLink sp f).pier = s.pier := rfl
@[simp] theorem State.modLink_ports (sp : Fin 12) (f : Link → Link) : (s.modLink sp f).ports = s.ports := rfl
@[simp] theorem State.modLink_net (sp : Fin 12) (f : Link → Link) : (s.modLink sp f).net = s.net := rfl
@[simp] theorem State.modLink_radio (sp : Fin 12) (f : Link → Link) : (s.modLink sp f).radio = s.radio := rfl
@[simp] theorem State.modLink_box (sp : Fin 12) (f : Link → Link) : (s.modLink sp f).box = s.box := rfl
@[simp] theorem State.modLink_flash (sp : Fin 12) (f : Link → Link) : (s.modLink sp f).flash = s.flash := rfl
@[simp] theorem State.modLink_out (sp : Fin 12) (f : Link → Link) : (s.modLink sp f).out = s.out := rfl
@[simp] theorem State.modLink_fresh (sp : Fin 12) (f : Link → Link) : (s.modLink sp f).fresh = s.fresh := rfl

/-! ### State.modSpan changes `spans` only -/

@[simp] theorem State.modSpan_pending (sp : Fin 12) (f : Span → Span) : (s.modSpan sp f).pending = s.pending := rfl
@[simp] theorem State.modSpan_ks (sp : Fin 12) (f : Span → Span) : (s.modSpan sp f).ks = s.ks := rfl
@[simp] theorem State.modSpan_grid (sp : Fin 12) (f : Span → Span) : (s.modSpan sp f).grid = s.grid := rfl
@[simp] theorem State.modSpan_slots (sp : Fin 12) (f : Span → Span) : (s.modSpan sp f).slots = s.slots := rfl
@[simp] theorem State.modSpan_tc (sp : Fin 12) (f : Span → Span) : (s.modSpan sp f).tc = s.tc := rfl
@[simp] theorem State.modSpan_mb (sp : Fin 12) (f : Span → Span) : (s.modSpan sp f).mb = s.mb := rfl
@[simp] theorem State.modSpan_sys (sp : Fin 12) (f : Span → Span) : (s.modSpan sp f).sys = s.sys := rfl
@[simp] theorem State.modSpan_pwr (sp : Fin 12) (f : Span → Span) : (s.modSpan sp f).pwr = s.pwr := rfl
@[simp] theorem State.modSpan_sh (sp : Fin 12) (f : Span → Span) : (s.modSpan sp f).sh = s.sh := rfl
@[simp] theorem State.modSpan_sched (sp : Fin 12) (f : Span → Span) : (s.modSpan sp f).sched = s.sched := rfl
@[simp] theorem State.modSpan_fix (sp : Fin 12) (f : Span → Span) : (s.modSpan sp f).fix = s.fix := rfl
@[simp] theorem State.modSpan_deck (sp : Fin 12) (f : Span → Span) : (s.modSpan sp f).deck = s.deck := rfl
@[simp] theorem State.modSpan_ingest (sp : Fin 12) (f : Span → Span) : (s.modSpan sp f).ingest = s.ingest := rfl
@[simp] theorem State.modSpan_raster (sp : Fin 12) (f : Span → Span) : (s.modSpan sp f).raster = s.raster := rfl
@[simp] theorem State.modSpan_links (sp : Fin 12) (f : Span → Span) : (s.modSpan sp f).links = s.links := rfl
@[simp] theorem State.modSpan_tre (sp : Fin 12) (f : Span → Span) : (s.modSpan sp f).tre = s.tre := rfl
@[simp] theorem State.modSpan_pier (sp : Fin 12) (f : Span → Span) : (s.modSpan sp f).pier = s.pier := rfl
@[simp] theorem State.modSpan_ports (sp : Fin 12) (f : Span → Span) : (s.modSpan sp f).ports = s.ports := rfl
@[simp] theorem State.modSpan_net (sp : Fin 12) (f : Span → Span) : (s.modSpan sp f).net = s.net := rfl
@[simp] theorem State.modSpan_radio (sp : Fin 12) (f : Span → Span) : (s.modSpan sp f).radio = s.radio := rfl
@[simp] theorem State.modSpan_box (sp : Fin 12) (f : Span → Span) : (s.modSpan sp f).box = s.box := rfl
@[simp] theorem State.modSpan_flash (sp : Fin 12) (f : Span → Span) : (s.modSpan sp f).flash = s.flash := rfl
@[simp] theorem State.modSpan_out (sp : Fin 12) (f : Span → Span) : (s.modSpan sp f).out = s.out := rfl
@[simp] theorem State.modSpan_fresh (sp : Fin 12) (f : Span → Span) : (s.modSpan sp f).fresh = s.fresh := rfl

/-! ### State.modLoop changes `fix` only -/

@[simp] theorem State.modLoop_pending (n : Nat) (f : Loop → Loop) : (s.modLoop n f).pending = s.pending := rfl
@[simp] theorem State.modLoop_ks (n : Nat) (f : Loop → Loop) : (s.modLoop n f).ks = s.ks := rfl
@[simp] theorem State.modLoop_grid (n : Nat) (f : Loop → Loop) : (s.modLoop n f).grid = s.grid := rfl
@[simp] theorem State.modLoop_slots (n : Nat) (f : Loop → Loop) : (s.modLoop n f).slots = s.slots := rfl
@[simp] theorem State.modLoop_tc (n : Nat) (f : Loop → Loop) : (s.modLoop n f).tc = s.tc := rfl
@[simp] theorem State.modLoop_mb (n : Nat) (f : Loop → Loop) : (s.modLoop n f).mb = s.mb := rfl
@[simp] theorem State.modLoop_sys (n : Nat) (f : Loop → Loop) : (s.modLoop n f).sys = s.sys := rfl
@[simp] theorem State.modLoop_pwr (n : Nat) (f : Loop → Loop) : (s.modLoop n f).pwr = s.pwr := rfl
@[simp] theorem State.modLoop_sh (n : Nat) (f : Loop → Loop) : (s.modLoop n f).sh = s.sh := rfl
@[simp] theorem State.modLoop_sched (n : Nat) (f : Loop → Loop) : (s.modLoop n f).sched = s.sched := rfl
@[simp] theorem State.modLoop_deck (n : Nat) (f : Loop → Loop) : (s.modLoop n f).deck = s.deck := rfl
@[simp] theorem State.modLoop_ingest (n : Nat) (f : Loop → Loop) : (s.modLoop n f).ingest = s.ingest := rfl
@[simp] theorem State.modLoop_raster (n : Nat) (f : Loop → Loop) : (s.modLoop n f).raster = s.raster := rfl
@[simp] theorem State.modLoop_links (n : Nat) (f : Loop → Loop) : (s.modLoop n f).links = s.links := rfl
@[simp] theorem State.modLoop_spans (n : Nat) (f : Loop → Loop) : (s.modLoop n f).spans = s.spans := rfl
@[simp] theorem State.modLoop_tre (n : Nat) (f : Loop → Loop) : (s.modLoop n f).tre = s.tre := rfl
@[simp] theorem State.modLoop_pier (n : Nat) (f : Loop → Loop) : (s.modLoop n f).pier = s.pier := rfl
@[simp] theorem State.modLoop_ports (n : Nat) (f : Loop → Loop) : (s.modLoop n f).ports = s.ports := rfl
@[simp] theorem State.modLoop_net (n : Nat) (f : Loop → Loop) : (s.modLoop n f).net = s.net := rfl
@[simp] theorem State.modLoop_radio (n : Nat) (f : Loop → Loop) : (s.modLoop n f).radio = s.radio := rfl
@[simp] theorem State.modLoop_box (n : Nat) (f : Loop → Loop) : (s.modLoop n f).box = s.box := rfl
@[simp] theorem State.modLoop_flash (n : Nat) (f : Loop → Loop) : (s.modLoop n f).flash = s.flash := rfl
@[simp] theorem State.modLoop_out (n : Nat) (f : Loop → Loop) : (s.modLoop n f).out = s.out := rfl
@[simp] theorem State.modLoop_fresh (n : Nat) (f : Loop → Loop) : (s.modLoop n f).fresh = s.fresh := rfl

/-! ### State.modPair changes `ports` only -/

@[simp] theorem State.modPair_pending (p : Fin 32) (f : Pair → Pair) : (s.modPair p f).pending = s.pending := rfl
@[simp] theorem State.modPair_ks (p : Fin 32) (f : Pair → Pair) : (s.modPair p f).ks = s.ks := rfl
@[simp] theorem State.modPair_grid (p : Fin 32) (f : Pair → Pair) : (s.modPair p f).grid = s.grid := rfl
@[simp] theorem State.modPair_slots (p : Fin 32) (f : Pair → Pair) : (s.modPair p f).slots = s.slots := rfl
@[simp] theorem State.modPair_tc (p : Fin 32) (f : Pair → Pair) : (s.modPair p f).tc = s.tc := rfl
@[simp] theorem State.modPair_mb (p : Fin 32) (f : Pair → Pair) : (s.modPair p f).mb = s.mb := rfl
@[simp] theorem State.modPair_sys (p : Fin 32) (f : Pair → Pair) : (s.modPair p f).sys = s.sys := rfl
@[simp] theorem State.modPair_pwr (p : Fin 32) (f : Pair → Pair) : (s.modPair p f).pwr = s.pwr := rfl
@[simp] theorem State.modPair_sh (p : Fin 32) (f : Pair → Pair) : (s.modPair p f).sh = s.sh := rfl
@[simp] theorem State.modPair_sched (p : Fin 32) (f : Pair → Pair) : (s.modPair p f).sched = s.sched := rfl
@[simp] theorem State.modPair_fix (p : Fin 32) (f : Pair → Pair) : (s.modPair p f).fix = s.fix := rfl
@[simp] theorem State.modPair_deck (p : Fin 32) (f : Pair → Pair) : (s.modPair p f).deck = s.deck := rfl
@[simp] theorem State.modPair_ingest (p : Fin 32) (f : Pair → Pair) : (s.modPair p f).ingest = s.ingest := rfl
@[simp] theorem State.modPair_raster (p : Fin 32) (f : Pair → Pair) : (s.modPair p f).raster = s.raster := rfl
@[simp] theorem State.modPair_links (p : Fin 32) (f : Pair → Pair) : (s.modPair p f).links = s.links := rfl
@[simp] theorem State.modPair_spans (p : Fin 32) (f : Pair → Pair) : (s.modPair p f).spans = s.spans := rfl
@[simp] theorem State.modPair_tre (p : Fin 32) (f : Pair → Pair) : (s.modPair p f).tre = s.tre := rfl
@[simp] theorem State.modPair_pier (p : Fin 32) (f : Pair → Pair) : (s.modPair p f).pier = s.pier := rfl
@[simp] theorem State.modPair_net (p : Fin 32) (f : Pair → Pair) : (s.modPair p f).net = s.net := rfl
@[simp] theorem State.modPair_radio (p : Fin 32) (f : Pair → Pair) : (s.modPair p f).radio = s.radio := rfl
@[simp] theorem State.modPair_box (p : Fin 32) (f : Pair → Pair) : (s.modPair p f).box = s.box := rfl
@[simp] theorem State.modPair_flash (p : Fin 32) (f : Pair → Pair) : (s.modPair p f).flash = s.flash := rfl
@[simp] theorem State.modPair_out (p : Fin 32) (f : Pair → Pair) : (s.modPair p f).out = s.out := rfl
@[simp] theorem State.modPair_fresh (p : Fin 32) (f : Pair → Pair) : (s.modPair p f).fresh = s.fresh := rfl

/-! ### State.modInput changes `ports` only -/

@[simp] theorem State.modInput_pending (n : Nat) (f : InputEntry → InputEntry) : (s.modInput n f).pending = s.pending := rfl
@[simp] theorem State.modInput_ks (n : Nat) (f : InputEntry → InputEntry) : (s.modInput n f).ks = s.ks := rfl
@[simp] theorem State.modInput_grid (n : Nat) (f : InputEntry → InputEntry) : (s.modInput n f).grid = s.grid := rfl
@[simp] theorem State.modInput_slots (n : Nat) (f : InputEntry → InputEntry) : (s.modInput n f).slots = s.slots := rfl
@[simp] theorem State.modInput_tc (n : Nat) (f : InputEntry → InputEntry) : (s.modInput n f).tc = s.tc := rfl
@[simp] theorem State.modInput_mb (n : Nat) (f : InputEntry → InputEntry) : (s.modInput n f).mb = s.mb := rfl
@[simp] theorem State.modInput_sys (n : Nat) (f : InputEntry → InputEntry) : (s.modInput n f).sys = s.sys := rfl
@[simp] theorem State.modInput_pwr (n : Nat) (f : InputEntry → InputEntry) : (s.modInput n f).pwr = s.pwr := rfl
@[simp] theorem State.modInput_sh (n : Nat) (f : InputEntry → InputEntry) : (s.modInput n f).sh = s.sh := rfl
@[simp] theorem State.modInput_sched (n : Nat) (f : InputEntry → InputEntry) : (s.modInput n f).sched = s.sched := rfl
@[simp] theorem State.modInput_fix (n : Nat) (f : InputEntry → InputEntry) : (s.modInput n f).fix = s.fix := rfl
@[simp] theorem State.modInput_deck (n : Nat) (f : InputEntry → InputEntry) : (s.modInput n f).deck = s.deck := rfl
@[simp] theorem State.modInput_ingest (n : Nat) (f : InputEntry → InputEntry) : (s.modInput n f).ingest = s.ingest := rfl
@[simp] theorem State.modInput_raster (n : Nat) (f : InputEntry → InputEntry) : (s.modInput n f).raster = s.raster := rfl
@[simp] theorem State.modInput_links (n : Nat) (f : InputEntry → InputEntry) : (s.modInput n f).links = s.links := rfl
@[simp] theorem State.modInput_spans (n : Nat) (f : InputEntry → InputEntry) : (s.modInput n f).spans = s.spans := rfl
@[simp] theorem State.modInput_tre (n : Nat) (f : InputEntry → InputEntry) : (s.modInput n f).tre = s.tre := rfl
@[simp] theorem State.modInput_pier (n : Nat) (f : InputEntry → InputEntry) : (s.modInput n f).pier = s.pier := rfl
@[simp] theorem State.modInput_net (n : Nat) (f : InputEntry → InputEntry) : (s.modInput n f).net = s.net := rfl
@[simp] theorem State.modInput_radio (n : Nat) (f : InputEntry → InputEntry) : (s.modInput n f).radio = s.radio := rfl
@[simp] theorem State.modInput_box (n : Nat) (f : InputEntry → InputEntry) : (s.modInput n f).box = s.box := rfl
@[simp] theorem State.modInput_flash (n : Nat) (f : InputEntry → InputEntry) : (s.modInput n f).flash = s.flash := rfl
@[simp] theorem State.modInput_out (n : Nat) (f : InputEntry → InputEntry) : (s.modInput n f).out = s.out := rfl
@[simp] theorem State.modInput_fresh (n : Nat) (f : InputEntry → InputEntry) : (s.modInput n f).fresh = s.fresh := rfl

/-! ### State.modSacn changes `ports` only -/

@[simp] theorem State.modSacn_pending (n : Fin 4) (f : Sacn → Sacn) : (s.modSacn n f).pending = s.pending := rfl
@[simp] theorem State.modSacn_ks (n : Fin 4) (f : Sacn → Sacn) : (s.modSacn n f).ks = s.ks := rfl
@[simp] theorem State.modSacn_grid (n : Fin 4) (f : Sacn → Sacn) : (s.modSacn n f).grid = s.grid := rfl
@[simp] theorem State.modSacn_slots (n : Fin 4) (f : Sacn → Sacn) : (s.modSacn n f).slots = s.slots := rfl
@[simp] theorem State.modSacn_tc (n : Fin 4) (f : Sacn → Sacn) : (s.modSacn n f).tc = s.tc := rfl
@[simp] theorem State.modSacn_mb (n : Fin 4) (f : Sacn → Sacn) : (s.modSacn n f).mb = s.mb := rfl
@[simp] theorem State.modSacn_sys (n : Fin 4) (f : Sacn → Sacn) : (s.modSacn n f).sys = s.sys := rfl
@[simp] theorem State.modSacn_pwr (n : Fin 4) (f : Sacn → Sacn) : (s.modSacn n f).pwr = s.pwr := rfl
@[simp] theorem State.modSacn_sh (n : Fin 4) (f : Sacn → Sacn) : (s.modSacn n f).sh = s.sh := rfl
@[simp] theorem State.modSacn_sched (n : Fin 4) (f : Sacn → Sacn) : (s.modSacn n f).sched = s.sched := rfl
@[simp] theorem State.modSacn_fix (n : Fin 4) (f : Sacn → Sacn) : (s.modSacn n f).fix = s.fix := rfl
@[simp] theorem State.modSacn_deck (n : Fin 4) (f : Sacn → Sacn) : (s.modSacn n f).deck = s.deck := rfl
@[simp] theorem State.modSacn_ingest (n : Fin 4) (f : Sacn → Sacn) : (s.modSacn n f).ingest = s.ingest := rfl
@[simp] theorem State.modSacn_raster (n : Fin 4) (f : Sacn → Sacn) : (s.modSacn n f).raster = s.raster := rfl
@[simp] theorem State.modSacn_links (n : Fin 4) (f : Sacn → Sacn) : (s.modSacn n f).links = s.links := rfl
@[simp] theorem State.modSacn_spans (n : Fin 4) (f : Sacn → Sacn) : (s.modSacn n f).spans = s.spans := rfl
@[simp] theorem State.modSacn_tre (n : Fin 4) (f : Sacn → Sacn) : (s.modSacn n f).tre = s.tre := rfl
@[simp] theorem State.modSacn_pier (n : Fin 4) (f : Sacn → Sacn) : (s.modSacn n f).pier = s.pier := rfl
@[simp] theorem State.modSacn_net (n : Fin 4) (f : Sacn → Sacn) : (s.modSacn n f).net = s.net := rfl
@[simp] theorem State.modSacn_radio (n : Fin 4) (f : Sacn → Sacn) : (s.modSacn n f).radio = s.radio := rfl
@[simp] theorem State.modSacn_box (n : Fin 4) (f : Sacn → Sacn) : (s.modSacn n f).box = s.box := rfl
@[simp] theorem State.modSacn_flash (n : Fin 4) (f : Sacn → Sacn) : (s.modSacn n f).flash = s.flash := rfl
@[simp] theorem State.modSacn_out (n : Fin 4) (f : Sacn → Sacn) : (s.modSacn n f).out = s.out := rfl
@[simp] theorem State.modSacn_fresh (n : Fin 4) (f : Sacn → Sacn) : (s.modSacn n f).fresh = s.fresh := rfl

/-! ### What the part updated reads as -/

@[simp] theorem State.elapse_ks (dt : Nat) : (s.elapse dt).ks = s.ks.elapse dt := rfl
@[simp] theorem State.draw_fresh : s.draw.fresh = s.fresh + 1 := rfl
@[simp] theorem State.emit_out (o : Out) : (s.emit o).out = s.out ++ [o] := rfl
@[simp] theorem State.modCh_self (c : Fin 8) (f : Chan → Chan) : (s.modCh c f).mb.ch[c] = f s.mb.ch[c] := by simp [State.modCh]
@[simp] theorem State.modEth_self (n : Fin 4) (f : Eth → Eth) : (s.modEth n f).net.eth[n] = f s.net.eth[n] := by
  simp [State.modEth]
@[simp] theorem State.modLink_self (sp : Fin 12) (f : Link → Link) : (s.modLink sp f).links[sp] = f s.links[sp] := by
  simp [State.modLink]
@[simp] theorem State.modSpan_self (sp : Fin 12) (f : Span → Span) : (s.modSpan sp f).spans[sp] = f s.spans[sp] := by
  simp [State.modSpan]
@[simp] theorem State.modPair_self (p : Fin 32) (f : Pair → Pair) : (s.modPair p f).ports.pair[p] = f s.ports.pair[p] := by
  simp [State.modPair]
@[simp] theorem State.modSacn_self (n : Fin 4) (f : Sacn → Sacn) : (s.modSacn n f).ports.sacn[n] = f s.ports.sacn[n] := by
  simp [State.modSacn]
@[simp] theorem State.modPtp_self (n : Fin 4) (f : PtpPort → PtpPort) : (s.modPtp n f).net.ptp.ports[n] = f s.net.ptp.ports[n] := by
  simp [State.modPtp]

/-- A change of one element leaves the others. -/
theorem Vector.set_other {α : Type} {n : Nat} (v : Vector α n) (i j : Fin n) (x : α) (h : i ≠ j) : (v.set i x)[j] = v[j] := by
  have : i.val ≠ j.val := fun e => h (Fin.ext e)
  simp [this]

end Sys2Proof.Machine
end

