-- ==== Sys2Proof/Laws/Events.lean ====
section
/-! SUPPORT. Laws/Events.lean: what raising an event can do on a ready engine: nothing where MASK leaves it out, one record
where the ring has room, a count where it is full (R462, R463). -/
namespace Sys2Proof.Machine
open Sys2Proof

theorem raise_masked {s : State} {e : Nat} {data : List U8} (he : s.mb.engine = 2)
    (h : s.mb.ev.cfg.mask.getLsbD e = false) : s.raise e data = s := by
  unfold State.raise State.writeEvent
  rw [if_pos he]
  exact if_pos h

/-- A full ring: the event is counted and kept for the rest of its count cycle, in which an EVT_HEAD may make room (R466). -/
theorem raise_lost {s : State} {e : Nat} {data : List U8} (he : s.mb.engine = 2)
    (h : s.mb.ev.cfg.mask.getLsbD e = true) (f : s.mb.ev.size ≤ s.mb.ev.fill) :
    let v := s.mb.ev
    s.raise e data = { s with mb.ev := { v with
      lost := v.lost.inc, lostPend := true, refusedAt := s.now / 4
      refused := (if v.refusedAt = s.now / 4 then v.refused else []) ++ [(e, data)]
      pendBefore := if v.refusedAt = s.now / 4 ∧ v.refused ≠ [] then v.pendBefore else v.lostPend } } := by
  unfold State.raise State.writeEvent
  rw [if_pos he]
  simp only [h, Bool.true_eq_false, if_false, if_pos f]

/-- Signalling an event leaves the ring and its counts. -/
theorem signalEvents_ev (s : State) : s.signalEvents.mb.ev.unread = s.mb.ev.unread ∧
    s.signalEvents.mb.ev.tail = s.mb.ev.tail ∧ s.signalEvents.mb.ev.seq = s.mb.ev.seq ∧
    s.signalEvents.mb.ev.lostPend = s.mb.ev.lostPend ∧ s.signalEvents.mb.ev.lost = s.mb.ev.lost := by
  unfold State.signalEvents State.msix
  simp only []
  repeat' split
  all_goals exact ⟨rfl, rfl, rfl, rfl, rfl⟩

/-- Placing a record in the ring leaves the ring's counts. -/
theorem storeRecord_ev (s : State) (i : U16) (r : List U8) : (s.storeRecord i r).mb.ev = s.mb.ev := by
  unfold State.storeRecord
  dsimp only
  split <;> rfl

theorem storeRecords_ev {α : Type} (f : α → U16 × List U8) (l : List α) (s : State) :
    (l.foldl (fun (s : State) x => s.storeRecord (f x).1 (f x).2) s).mb.ev = s.mb.ev := by
  induction l generalizing s with
  | nil => rfl
  | cons x l ih => exact (ih _).trans (storeRecord_ev _ _ _)

/-- Signalling or not leaves the ring and its counts. -/
theorem signalIf_ev (b : Bool) (t : State) :
    (if b = true then t.signalEvents else t).mb.ev.unread = t.mb.ev.unread ∧
    (if b = true then t.signalEvents else t).mb.ev.tail = t.mb.ev.tail ∧
    (if b = true then t.signalEvents else t).mb.ev.seq = t.mb.ev.seq ∧
    (if b = true then t.signalEvents else t).mb.ev.lostPend = t.mb.ev.lostPend ∧
    (if b = true then t.signalEvents else t).mb.ev.lost = t.mb.ev.lost := by
  cases b
  · exact ⟨rfl, rfl, rfl, rfl, rfl⟩
  · exact signalEvents_ev t

/-- A ring with room: the record takes its place among those of its count cycle, which move up by one. -/
theorem raise_written {s : State} {e : Nat} {data : List U8} (he : s.mb.engine = 2)
    (h : s.mb.ev.cfg.mask.getLsbD e = true) (f : s.mb.ev.fill < s.mb.ev.size) :
    let v := s.mb.ev
    let j := v.after (s.now / 4) e
    (s.raise e data).mb.ev.unread = v.unread.take (v.unread.length - j) ++
      (e, eventRecord e v.lostPend (v.seq - BitVec.ofNat 16 j) (lastFrame s.grid.frame) s.short data) ::
        ((v.unread.drop (v.unread.length - j)).map fun x => (x.1, laterRecord x.2)) ∧
    (s.raise e data).mb.ev.tail = v.tail + 1 ∧ (s.raise e data).mb.ev.seq = v.seq + 1 ∧
    (s.raise e data).mb.ev.lostPend = false ∧ (s.raise e data).mb.ev.lost = v.lost := by
  intro v j
  unfold State.raise State.writeEvent
  rw [if_pos he]
  simp only [h, Bool.true_eq_false, if_false, if_neg (Nat.not_le.2 f)]
  refine ⟨(signalIf_ev _ _).1.trans ?_, (signalIf_ev _ _).2.1.trans ?_, (signalIf_ev _ _).2.2.1.trans ?_,
    (signalIf_ev _ _).2.2.2.1.trans ?_, (signalIf_ev _ _).2.2.2.2.trans ?_⟩ <;>
    rw [storeRecords_ev fun x : (Nat × List U8) × Nat => (v.tail - BitVec.ofNat 16 j + BitVec.ofNat 16 x.2, x.1.2)]

/-- With no record of this count cycle in the ring, the record is the newest. -/
theorem after_cycle {v : Events} {c e : Nat} (h : v.cycle ≠ c) : v.after c e = 0 := by
  simp [Events.after, h]

end Sys2Proof.Machine
end

