-- ==== Sys2Proof/Machine/Balls.lean ====
section
/-! DEFINITION. Machine/Balls.lean: the signal of every ball of the package (R523, R540). No command reads it. -/
namespace Sys2Proof.Machine
open Sys2Proof

/-- What a ball of the array carries (Table 16.2). -/
inductive Ball where
  | gnd
  | reserved
  /-- a signal or supply, under the name of its table -/
  | named (name : String)
  deriving DecidableEq, Repr

/-- An entry of a table of balls. -/
def ballOf (name : String) : Ball := if name = "GND" then .gnd else if name = "reserved" then .reserved else .named name

/-- Table 16.17: the span's signal at offset `e` and depth `d`. -/
def spanBall (e d : Nat) : Option String :=
  let rows : List (Nat × List String) :=
    [(1, ["TXP0", "TXN0", "TXP1", "TXN1", "TXP2", "TXN2"]), (3, ["TXP3", "TXN3", "TXP4", "TXN4", "TCKP", "TCKN"]),
     (5, ["RXP0", "RXN0", "RXP1", "RXN1", "RXP2", "RXN2"]), (7, ["RXP3", "RXN3", "RXP4", "RXN4", "RCKP", "RCKN"])]
  if e % 3 = 0 then none
  else match rows.find? fun r => r.1 == d with
    | some r => r.2[e / 3 * 2 + e % 3 - 1]?
    | none => none

/-- A ball of band `b` at along-band index `a` and depth `d`. -/
def bandBall (b a d : Nat) : Ball :=
  if a = 0 ∨ 31 ≤ a then .gnd
  else match spanBall ((a - 1) % 10) d with
    | some x => .named ("SPAN" ++ toString (3 * b + (a - 1) / 10) ++ "_" ++ x)
    | none => .gnd

/-- The band of a ball, with its index and depth (Table 16.16). -/
def ballBand (row col : Nat) : Option (Nat × Nat × Nat) :=
  if row ≤ 7 ∧ col ≤ 32 then some (0, col - 1, row)
  else if 33 ≤ col ∧ row ≤ 32 then some (1, row - 1, 40 - col)
  else if 33 ≤ row ∧ 8 ≤ col then some (2, 39 - col, 40 - row)
  else if 8 ≤ row ∧ col ≤ 7 then some (3, 39 - row, col)
  else none

/-- Pins of a radio interface in the order of Table 16.18. -/
def radioPins : List String := ["SCK", "SDO", "SDI", "CS_N", "IRQ", "STB", "RST_N"]

/-- A row of port and radio balls: ports from `p`, then interface `i`. -/
def portRow (p i col : Nat) : Ball :=
  if col ≤ 24 then .named ("PORT" ++ (if p + (col - 9) < 10 then "0" else "") ++ toString (p + (col - 9)))
  else .named ("RADIO" ++ toString i ++ "_" ++ radioPins.getD (col - 25) "")

/-- Row 11 or 29: the port and radio supply of the strip. -/
def supplyRow (bank : String) (col : Nat) : Ball :=
  if col % 2 = 1 then .named bank else if col % 4 = 2 ∧ 14 ≤ col ∧ col ≤ 26 then .reserved else .gnd

/-- Table 16.19 by column, rows 12 to 28. -/
def leftStrip (col : Nat) : List String :=
  if col = 9 then
    ["ETH0_TXP", "ETH0_TXN", "GND", "ETH0_RXP", "ETH0_RXN", "GND", "ETH1_TXP", "ETH1_TXN", "GND", "ETH1_RXP", "ETH1_RXN", "GND",
     "ETH2_TXP", "ETH2_TXN", "GND", "ETH2_RXP", "ETH2_RXN"]
  else if col = 10 then
    ["ETH3_TXP", "ETH3_TXN", "GND", "ETH3_RXP", "ETH3_RXN", "ETH_CALP", "ETH_CALN", "PERST_N", "PCIE_CALP", "PCIE_CALN",
     "PCIE_REFCLKP", "PCIE_REFCLKN", "GND", "PCIE_TXP3", "PCIE_TXN3", "PCIE_RXP3", "PCIE_RXN3"]
  else
    ["PCIE_TXP0", "PCIE_TXN0", "GND", "PCIE_RXP0", "PCIE_RXN0", "GND", "PCIE_TXP1", "PCIE_TXN1", "GND", "PCIE_RXP1", "PCIE_RXN1",
     "GND", "PCIE_TXP2", "PCIE_TXN2", "GND", "PCIE_RXP2", "PCIE_RXN2"]

/-- Table 16.20 by column, rows 12 to 28. -/
def rightStrip (col : Nat) : List String :=
  if col = 29 then
    ["QSPI_SCK", "QSPI_CS_N", "QSPI_IO[0]", "QSPI_IO[1]", "QSPI_IO[2]", "QSPI_IO[3]", "DBG_TCK", "DBG_TMS", "DBG_TDI", "DBG_TDO",
     "DBG_TRST_N", "TAMP0", "TAMP1", "TAMP2", "TAMP3", "VBAT", "VBAT"]
  else if col = 30 then
    ["HOUSE_N", "PIER_ACT_IN", "PIER_ACT_OUT", "EVENT_N", "RESET_N", "BOOT_MODE[0]", "BOOT_MODE[1]", "TEST0", "TEST1", "TEST2",
     "TEST3", "TEST4", "reserved", "reserved", "reserved", "reserved", "reserved"]
  else
    ["GND", "XTAL_IN", "XTAL_OUT", "GND", "PLL_CAP", "PLL_CAPGND", "GND", "REF10M_IN", "GND", "PPS_IN", "PPS_OUT", "FRAME_REF_IN",
     "LTC_IN", "LTC_OUT", "reserved", "reserved", "reserved"]

/-- Balls of the centre that are GND (Table 16.16). -/
def centreGnd : List (Nat × Nat) := [(16, 16), (16, 24), (20, 20), (24, 16), (24, 24)]

/-- R540: what ball (row, column) carries, for rows and columns 1 to 39. -/
def ball (row col : Nat) : Ball :=
  match ballBand row col with
  | some x => bandBall x.1 x.2.1 x.2.2
  | none =>
    if row = 8 ∨ row = 32 ∨ col = 8 ∨ col = 32 then .gnd
    else if row = 9 then portRow 0 0 col
    else if row = 10 then portRow 16 1 col
    else if row = 11 then supplyRow "VDDIO_A" col
    else if row = 29 then supplyRow "VDDIO_B" col
    else if row = 30 then portRow 48 3 col
    else if row = 31 then portRow 32 2 col
    else if col ≤ 11 then ballOf ((leftStrip col).getD (row - 12) "GND")
    else if 29 ≤ col then ballOf ((rightStrip col).getD (row - 12) "GND")
    else if row = 12 ∨ row = 28 ∨ col = 12 ∨ col = 28 then .gnd
    else if centreGnd.contains (row, col) then .gnd else .named "VIN"

/-- Every ball of the 39 by 39 array, row by row. -/
def allBalls : List Ball := (List.range 39).flatMap fun r => (List.range 39).map fun c => ball (r + 1) (c + 1)

end Sys2Proof.Machine
end

