-- ==== Sys2Proof/Tests/Slice0.lean ====
section
/-! SUPPORT. Tests/Slice0.lean: the tests of the model: an ill-formed term for each check of WellFormed, steps and values from
the spec's worked examples and tables, and a state and operands that meet the hypotheses of each clause of each statement. -/
namespace Sys2Proof.Tests
set_option Elab.async false
open Sys2Proof Sys2Proof.Machine

/-- A ready engine. -/
def up : State := { State.reset with mb.engine := 2 }
/-- A payload of `n` zero bytes but for those listed. -/
def pay (n : Nat) (l : List (Nat × U8)) : List U8 :=
  (List.range n).map fun i => match l.find? (fun e => e.1 == i) with
    | some e => e.2
    | none => 0
def img : Image := { bytes := 0, imageId := 0, showId := 0, triggerLeadUs := 0, paramCount := 0, pixelCount := 0 }
def fix : Fixture := ⟨0, 0, false, true, 0, 0, 0, 0, 0xFFFF, 0⟩
def flow : Flow := ⟨0, 0, false, 1, 0, 0, 0, 0, 0⟩
def rt0 : Route := ⟨2, 0, 0, 0, 0⟩
/-- An empty message from engine 1 to engine 2. -/
def msg0 : Msg := ⟨2, 1, 1, 0, 1, []⟩
/-- A ready engine whose fixture ports drive. -/
def lit : State := up
/-- A public key of P-384, and the private key that made the two signatures below is 0xDEADBEEFCAFE1234567890. -/
def showKey : Nat :=
  0x04cddb37cbd42739019e9da999d092201d72bcb7c1ed0818114119ba016a2b92ba7d1b990c54a725767f18a3de6ea348520bb3dad6209df6bb720e1909de7cc62f0814a13a5758ceaca72e83e44e72c38e582e4e5d0eec2c5213da370b7c397046
/-- A signature block of showKey (R75). -/
def sigBytes (r s : Nat) : List U8 := [1] ++ be 97 showKey ++ be 48 r ++ be 48 s
/-- The manifest of a package with seven empty parts, signed with showKey (R512, R513, R416): its granules. -/
def manifest : List (List U8) := [
    [77, 73, 79, 77, 1, 0, 7, 0, 0, 0, 0, 0, 0, 16, 0, 0, 0, 0, 0, 0, 0, 0, 0, 0, 0, 0, 0, 0, 0, 0, 0, 0, 0, 0, 0, 0, 0, 0, 0,
     0, 0, 0, 0, 0, 0, 0, 0, 0, 0, 0, 0, 0, 0, 0, 0, 0, 0, 0, 0, 0, 0, 0, 0, 0],
    [1, 0, 0, 0, 0, 16, 0, 0, 0, 0, 0, 0, 0, 0, 0, 0, 56, 176, 96, 167, 81, 172, 150, 56, 76, 217, 50, 126, 177, 177, 227, 106,
     33, 253, 183, 17, 20, 190, 7, 67, 76, 12, 199, 191, 99, 246, 225, 218, 39, 78, 222, 191, 231, 111, 101, 251, 213, 26, 210,
     241, 72, 152, 185, 91],
    [2, 0, 0, 0, 0, 16, 0, 0, 0, 0, 0, 0, 0, 0, 0, 0, 56, 176, 96, 167, 81, 172, 150, 56, 76, 217, 50, 126, 177, 177, 227, 106,
     33, 253, 183, 17, 20, 190, 7, 67, 76, 12, 199, 191, 99, 246, 225, 218, 39, 78, 222, 191, 231, 111, 101, 251, 213, 26, 210,
     241, 72, 152, 185, 91],
    [3, 0, 0, 0, 0, 16, 0, 0, 0, 0, 0, 0, 0, 0, 0, 0, 56, 176, 96, 167, 81, 172, 150, 56, 76, 217, 50, 126, 177, 177, 227, 106,
     33, 253, 183, 17, 20, 190, 7, 67, 76, 12, 199, 191, 99, 246, 225, 218, 39, 78, 222, 191, 231, 111, 101, 251, 213, 26, 210,
     241, 72, 152, 185, 91],
    [5, 0, 0, 0, 0, 16, 0, 0, 0, 0, 0, 0, 0, 0, 0, 0, 56, 176, 96, 167, 81, 172, 150, 56, 76, 217, 50, 126, 177, 177, 227, 106,
     33, 253, 183, 17, 20, 190, 7, 67, 76, 12, 199, 191, 99, 246, 225, 218, 39, 78, 222, 191, 231, 111, 101, 251, 213, 26, 210,
     241, 72, 152, 185, 91],
    [6, 0, 0, 0, 0, 16, 0, 0, 0, 0, 0, 0, 0, 0, 0, 0, 56, 176, 96, 167, 81, 172, 150, 56, 76, 217, 50, 126, 177, 177, 227, 106,
     33, 253, 183, 17, 20, 190, 7, 67, 76, 12, 199, 191, 99, 246, 225, 218, 39, 78, 222, 191, 231, 111, 101, 251, 213, 26, 210,
     241, 72, 152, 185, 91],
    [7, 0, 0, 0, 0, 16, 0, 0, 0, 0, 0, 0, 0, 0, 0, 0, 56, 176, 96, 167, 81, 172, 150, 56, 76, 217, 50, 126, 177, 177, 227, 106,
     33, 253, 183, 17, 20, 190, 7, 67, 76, 12, 199, 191, 99, 246, 225, 218, 39, 78, 222, 191, 231, 111, 101, 251, 213, 26, 210,
     241, 72, 152, 185, 91],
    [8, 0, 0, 0, 0, 16, 0, 0, 0, 0, 0, 0, 0, 0, 0, 0, 56, 176, 96, 167, 81, 172, 150, 56, 76, 217, 50, 126, 177, 177, 227, 106,
     33, 253, 183, 17, 20, 190, 7, 67, 76, 12, 199, 191, 99, 246, 225, 218, 39, 78, 222, 191, 231, 111, 101, 251, 213, 26, 210,
     241, 72, 152, 185, 91],
    [0, 0, 0, 0, 0, 0, 0, 0, 0, 0, 0, 0, 0, 0, 0, 0, 0, 0, 0, 0, 0, 0, 0, 0, 0, 0, 0, 0, 0, 0, 0, 0, 0, 0, 0, 0, 0, 0, 0, 0, 0,
     0, 0, 0, 0, 0, 0, 0, 0, 0, 0, 0, 0, 0, 0, 0, 0, 0, 0, 0, 0, 0, 0, 0],
    [1, 4, 205, 219, 55, 203, 212, 39, 57, 1, 158, 157, 169, 153, 208, 146, 32, 29, 114, 188, 183, 193, 237, 8, 24, 17, 65, 25,
     186, 1, 106, 43, 146, 186, 125, 27, 153, 12, 84, 167, 37, 118, 127, 24, 163, 222, 110, 163, 72, 82, 11, 179, 218, 214, 32,
     157, 246, 187, 114, 14, 25, 9, 222, 124],
    [198, 47, 8, 20, 161, 58, 87, 88, 206, 172, 167, 46, 131, 228, 78, 114, 195, 142, 88, 46, 78, 93, 14, 236, 44, 82, 19, 218,
     55, 11, 124, 57, 112, 70, 44, 168, 197, 96, 249, 34, 128, 117, 109, 77, 78, 89, 3, 4, 58, 55, 5, 50, 178, 70, 102, 158,
     97, 16, 176, 51, 249, 171, 21, 13],
    [81, 134, 50, 8, 226, 75, 215, 12, 227, 115, 141, 2, 118, 56, 187, 213, 76, 210, 250, 15, 223, 206, 85, 138, 38, 161, 147,
     225, 142, 240, 124, 131, 143, 148, 147, 203, 178, 21, 104, 240, 98, 227, 163, 60, 48, 57, 182, 106, 124, 217, 192, 49,
     248, 129, 189, 49, 62, 243, 230, 149, 30, 166, 47, 235],
    [247, 184, 0, 0, 0, 0, 0, 0, 0, 0, 0, 0, 0, 0, 0, 0, 0, 0, 0, 0, 0, 0, 0, 0, 0, 0, 0, 0, 0, 0, 0, 0, 0, 0, 0, 0, 0, 0, 0,
     0, 0, 0, 0, 0, 0, 0, 0, 0, 0, 0, 0, 0, 0, 0, 0, 0, 0, 0, 0, 0, 0, 0, 0, 0]]
/-- A package of 4,096 bytes whose seven parts are empty, its manifest signed with showKey (R512 to R516). -/
def package : Tab (List U8) :=
  (manifest ++ List.replicate 51 (List.replicate 64 0) : List (List U8)).zipIdx.map fun e => (e.2, e.1)
/-- Bytes in canonical form. -/
def tabOf (b : List U8) : Tab U8 := (b.zipIdx.filter fun e => e.1 != 0).map fun e => (e.2, e.1)
/-- A signed show image of 466 bytes with one empty section. -/
def imageBytes : List U8 :=
  pay 272 [(0, 0x41), (1, 0x4B), (2, 0x52), (3, 0x4B), (4, 2), (8, 0xD2), (9, 1), (12, 1), (15, 1), (0x24, 1), (0x46, 100), (0x49, 1),
    (0x4C, 0x10), (0x4D, 1), (256, 14)] ++
  sigBytes 0x2ca8c560f92280756d4d4e5903043a370532b246669e6110b033f9ab150d51863208e24bd70ce3738d027638bbd54cd2
    0x2ef1bfac2d07ca4e816033467746c6fbf8602f46fcb6a2ed5b612dd0d4833b86e1a60d33b15fcc37f4db85e40fb166e5
/-- A signed show image of 494 bytes with one empty encrypted section, its key that of blob 0x80000000. -/
def sealedBytes : List U8 :=
  pay 284 [(0, 0x41), (1, 0x4B), (2, 0x52), (3, 0x4B), (4, 2), (8, 0xEE), (9, 1), (12, 1), (15, 1), (0x24, 1), (0x2F, 0x80), (0x46, 100),
    (0x49, 1), (0x4C, 0x2C), (0x4D, 1), (256, 14), (258, 2), (260, 0x10), (261, 1), (264, 28)] ++
  be 16 0x5476f8defd1a0df7671e2ef096e33fd3 ++
  sigBytes 0x2ca8c560f92280756d4d4e5903043a370532b246669e6110b033f9ab150d51863208e24bd70ce3738d027638bbd54cd2
    0x9e3d3b3559c6051ade088888f7af7684806c368041de6a66817ecec0db8f4825e98ddaec17d1ee0822dd27f27baf6919
/-- `s` with `q` the request of opcode `op` that was taken up on its channel. -/
def asking (op : Nat) (q : Req) (s : State) : State :=
  { s with mb.ch := s.mb.ch.set q.ch { s.mb.ch[q.ch] with
    svc := some { op := BitVec.ofNat 16 op, tag := q.tag, taken := 0, bulk := q.bulk, payload := q.payload } } }

/-! ### WellFormed refuses an ill-formed term of each check -/

theorem test_wf_accepts : (Instr.sysInfo (Req.mk0 [])).wf = true ∧ (Instr.vinRise 0 12000).wf = true := by decide

/-- A payload above 4,032 bytes, and host bytes without a bulk descriptor (R442). -/
theorem test_wf_req : (Instr.diagEcho (Req.mk0 (.replicate 4033 0))).wf = false ∧
    (Instr.diagEcho ⟨0, 0, 0, false, [], some []⟩).wf = false := by decide +kernel

theorem test_wf_msg : (Instr.latchMsg 0 0 { msg0 with payload := .replicate 65520 0 }).wf = false := by decide +kernel

/-- A DATA block above 126 bytes, an LSEQ on VC0, a symbol past a lane's portion, and one place twice. -/
theorem test_wf_block : (Instr.dataBlock 0 0 [] ⟨1, true, true, 0, .replicate 127 0⟩).wf = false ∧
    (Instr.dataBlock 0 0 [] ⟨0, true, true, 1, []⟩).wf = false ∧
    (Instr.idleBlock 0 0 [⟨0, 272, 0⟩]).wf = false ∧ (Instr.idleBlock 0 0 [⟨0, 1, 0⟩, ⟨0, 1, 1⟩]).wf = false := by decide +kernel

theorem test_wf_laneCtl : (LaneCtl.wf ⟨0, 0, 0, 0, 0, 0, 1000000000⟩) = false ∧
    (LaneCtl.wf ⟨0, 0, 0, 0, 0, 2 ^ 48, 0⟩) = false := by decide

theorem test_wf_timeBlock : (TimeBlock.wf ⟨0, 0, 2 ^ 48 * 1000000000, 0, 0, 0, 0⟩) = false ∧
    (TimeBlock.wf ⟨0, 0, 0, 0, 0, 2 ^ 48 * 1000000000, 0⟩) = false := by decide

theorem test_wf_sacn : (SacnPacket.wf ⟨0, .replicate 16 0, 1, 0, 0, false, false, 0, .replicate 513 0⟩) = false ∧
    (SacnPacket.wf ⟨0, .replicate 15 0, 1, 0, 0, false, false, 0, []⟩) = false := by decide +kernel

theorem test_wf_dmx : (Instr.dmxInputPacket 0 0 ⟨0, 0, false, 0, .replicate 513 0, false, 0⟩).wf = false := by decide +kernel

theorem test_wf_rdm : (Instr.rdmResponse 0 0 (.ack (.replicate 232 0))).wf = false ∧
    (Instr.rdmResponse 0 0 (.overflow (.replicate 232 0))).wf = false ∧
    (Instr.rdmResponse 0 0 (.uid (2 ^ 48))).wf = false := by decide +kernel

theorem test_wf_eth : (Instr.ethFrameRx 0 (.frame ⟨0, 0, true, .replicate 13 0⟩)).wf = false ∧
    (Instr.ethLinkChange 0 0 true 6).wf = false ∧ (Instr.arpRequest 0 0 0 (2 ^ 48) 0).wf = false := by decide

theorem test_wf_thermal : (Instr.thermalEvaluation 0 ⟨.replicate 28 0, .replicate 10 0, 0⟩).wf = false ∧
    (Instr.thermalEvaluation 0 ⟨.replicate 29 0, .replicate 9 0, 0⟩).wf = false ∧
    (Instr.hardwareThermalTrip 0 []).wf = false := by decide +kernel

theorem test_wf_prbs : (PrbsSeen.wf ⟨1, [1]⟩) = false ∧ (PrbsSeen.wf ⟨9, [3, 3]⟩) = false := by decide

theorem test_wf_aes67 : (AesPacket.wf ⟨0, 0, 0, 0, [.replicate 9 0]⟩) = false := by decide

theorem test_wf_datagram : (Datagram.wf ⟨0, 0, 0, false, .replicate 65508 0⟩) = false := by decide +kernel

theorem test_wf_radio : (RadioFrame.wf ⟨0, 0, .replicate 126 0⟩) = false ∧
    (Instr.xcvrIdentify 0 0 (.replicate 256 0)).wf = false ∧ (Instr.sacnSourceLoss 0 1 []).wf = false := by decide +kernel

/-- LTC digits, and a write past the end of W2 or of W0. -/
theorem test_wf_ltc : (Instr.ltcInSyncWord 0 40 0 0 0 0).wf = false ∧ (Instr.ltcInSyncWord 0 0 80 0 0 0).wf = false ∧
    (Instr.ltcInSyncWord 0 0 0 80 0 0).wf = false ∧ (Instr.ltcInSyncWord 0 0 0 0 40 0).wf = false := by decide

theorem test_wf_window : (Instr.w0OtherWrite 0 true 0x3FFFFF [0, 0]).wf = false ∧
    (Instr.w0OtherWrite 0 false 0xFFFF [0, 0]).wf = false := by decide

/-! ### Values of the spec's worked examples -/

/-- The grid of the example arena, 60000/1001, its epoch far enough from zero that no time is negative. -/
def arena : GridVals := { e := 1000000000 }

/-- 01, R41: a tick of 65,169 ns, three frames of 50,050,000 ns, and K = 64 ticks of 4,170,833 ns. -/
theorem test_frame_times : arena.sigma 1 = 65169 ∧ arena.p 3 - arena.p 0 = 50050000 ∧ arena.sigma 64 = 4170833 ∧
    arena.period = 16683333 := by decide +kernel

/-- Table 1.5: frame 960 slips by 96 ticks, 961 by 64 and 962 by 32. -/
def slipped : Grid :=
  { v := arena, k := 64, latched := [(960, 96), (961, 64), (962, 32), (963, 0), (964, 0), (965, 0)] }

/-- Table 1.5: P', S and C' of frames 960 to 965, less P(960). -/
theorem test_slip_and_catch_up :
    ([960, 961, 962, 963, 964, 965] : List U32).map (fun m => slipped.p' m - slipped.p 960) =
      [6256250, 20854166, 35452082, 50050000, 66733333, 83416666] ∧
    ([960, 961, 962, 963, 964, 965] : List U32).map (fun m => slipped.s m - slipped.p 960) =
      [-33366667, -16683334, 6256250, 20854166, 35452082, 50050000] := by decide +kernel

/-- 04, R155: D = 0x4000 at 62,500 counts in 32 sub-slots: nine of 489 counts and 23 of 488; D = 0x0100 gives two of 122. -/
theorem test_pwm :
    (List.range 32).map (pwmHigh 0x4000 62500 32 400) =
      [489, 488, 489, 488, 489, 488, 488, 488, 489, 488, 488, 488, 489, 488, 488, 488, 489, 488, 488, 488, 489, 488, 488, 488,
        489, 488, 488, 488, 489, 488, 488, 488] ∧
    ((List.range 32).filter fun k => pwmHigh 0x0100 62500 32 400 k != 0) = [0, 16] ∧
    pwmHigh 0x0100 62500 32 400 0 = 122 := by decide +kernel

/-- 08: a packet of 48 slots takes 2,348 us; at q = 32 a port sends every frame up to 326 slots, and 512 slots every
second one. -/
theorem test_dmx_times : ({} : PairCfg).packetNs 48 = 2348000 ∧ arena.divider (({} : PairCfg).packetNs 326) = 1 ∧
    arena.divider (({} : PairCfg).packetNs 327) = 2 ∧ arena.divider (({} : PairCfg).packetNs 512) = 2 := by decide +kernel

/-- Table 12.3: with A of SEQ 41 valid and B erased or incomplete A is used; with B of SEQ 42 valid, or A bad, B is. -/
theorem test_slot_copies :
    let a : SlotCopy := { st := .valid, seq := 41 }
    let b : SlotCopy := { st := .valid, seq := 42 }
    (Slot.best ⟨a, {}⟩) = some a ∧ (Slot.best ⟨a, { b with st := .bad }⟩) = some a ∧ (Slot.best ⟨a, b⟩) = some b ∧
    (Slot.best ⟨{ a with st := .bad }, b⟩) = some b ∧ (Slot.best ⟨{ a with st := .bad }, { b with st := .bad }⟩) = none := by
  decide +kernel

/-- 13: a CUE_GO of 16 bytes of payload, and a block with a bulk descriptor, take two units of a ring each. -/
theorem test_ring_units : msgUnits 16 = 2 := by decide

/-- 16, the worked example of R540: SPAN4_RXP1 is ball (16, 35); and Table 16.16: the corners are GND. -/
theorem test_ball : ball 16 35 = .named "SPAN4_RXP1" ∧ ball 1 1 = .gnd ∧ ball 20 20 = .gnd := by decide +kernel

/-- 16: the array has 803 GND balls and 16 reserved ones. -/
theorem test_ball_groups : allBalls.countP (· == .gnd) = 803 ∧ allBalls.countP (· == .reserved) = 16 := by decide +kernel

/-! ### Published vectors of the algorithms of Table 12.1 -/

/-- FIPS 180-4: the digests of "abc". -/
theorem test_sha : rdBE (sha256 [0x61, 0x62, 0x63]) 0 32 = 0xBA7816BF8F01CFEA414140DE5DAE2223B00361A396177A9CB410FF61F20015AD ∧
    rdBE (sha384 [0x61, 0x62, 0x63]) 0 48 =
      0xCB00753F45A35E8BB5A03D699AC65007272C32AB0EDED1631A8B605A43FF5BED8086072BA1E7CC2358BAECA134C825A7 := by decide +kernel

/-- FIPS 197, C.3: AES-256. -/
theorem test_aes : let ks := aesRoundKeys ((List.range 32).map (BitVec.ofNat 8))
    aesForward ks (be 16 0x00112233445566778899AABBCCDDEEFF) = be 16 0x8EA2B7CA516745BFEAFC49904B496089 ∧
    aesBackward ks (be 16 0x8EA2B7CA516745BFEAFC49904B496089) = be 16 0x00112233445566778899AABBCCDDEEFF := by decide +kernel

/-- RFC 3394, 4.6: 256 bits of key data under a 256-bit key. -/
theorem test_key_wrap : keyUnwrap ((List.range 32).map (BitVec.ofNat 8))
      (be 40 0x28C9F404C4B810F4CBCCB35CFB87F8263F5786E2D80ED326CBC7F0E71A99F43BFB988B9B7A02DD21) =
    some (be 32 0x00112233445566778899AABBCCDDEEFF000102030405060708090A0B0C0D0E0F) := by decide +kernel

/-- The GCM submission, test cases 13 and 14. -/
theorem test_gcm : gcmOpen (be 32 0) (be 12 0) [] [] (be 16 0x530F8AFBC74536B9A963B4F1C4CB738B) = some [] ∧
    gcmOpen (be 32 0) (be 12 0) [] (be 16 0xCEA7403D4D606B6E074EC5D3BAF39D18) (be 16 0xD0D1C8A799996BF0265B98B5D48AB919) =
      some (be 16 0) := by decide +kernel

/-- RFC 3610, packet vector 1. -/
theorem test_ccm : ccmSeal ((List.range 16).map fun i => BitVec.ofNat 8 (0xC0 + i)) (be 13 0x00000003020100A0A1A2A3A4A5)
      ((List.range 8).map (BitVec.ofNat 8)) ((List.range 23).map fun i => BitVec.ofNat 8 (8 + i)) 8 =
    (be 23 0x588C979A61C663D2F066D0C2C0F989806D5F6B61DAC384, be 8 0x17E8D12CFDF926E0) := by decide +kernel

/-- RFC 6979, A.2.6: the signature of "sample" with SHA-384, which another message does not have. -/
theorem test_ecdsa :
    let key := be 1 4 ++
      be 48 0xEC3A4E415B4E19A4568618029F427FA5DA9A8BC4AE92E02E06AAE5286B300C64DEF8F0EA9055866064A254515480BC13 ++
      be 48 0x8015D9B72D7D57244EA8EF9AC0C621896708A59367F9DFB9F54CA84B3F1C9DB1288B231C3AE0D4FE7344FD2533264720
    let r := 0x94EDBB92A5ECB8AAD4736E56C691916B3F88140666CE9FA73D64C4EA95AD133C81A648152E44ACF96E36DD1E80FABE46
    let s := 0x99EF4AEB15F178CEA1FE40DB2603138F130E740A19624526203B6351D0A3A94FA329C145786E679E7B82C71A38628AC8
    ecdsaVerify key [0x73, 0x61, 0x6D, 0x70, 0x6C, 0x65] r s = true ∧ ecdsaVerify key [0x73] r s = false := by decide +kernel

/-! ### Single steps -/

/-- A step of `s` with `c` waiting. -/
def after (s : State) (c : Instr) : Option State :=
  match step { s with pending := [c] } with
  | .next t => some t
  | _ => none

/-- R438 Table 13.2: SYS_INFO is answered ST_OK with PART 0x9640, and not while the engine boots. -/
theorem test_sysInfo :
    let q := Req.mk0 []
    ((after (asking opSysInfo q up) (.sysInfo q)).bind fun t => (t.response 0).map fun r =>
      (r.status, rd r.data 0 4, r.data.length)) = some (0, 0x9640, 48) ∧
    ((after (asking opSysInfo q .reset) (.sysInfo q)).bind fun t => t.response 0) = none := by decide +kernel

/-- R13: a command that was not taken up on its channel has no effect and no answer. -/
theorem test_not_taken_up : ((after up (.sysInfo (Req.mk0 []))).bind fun t => t.response 0) = none := by decide +kernel

/-- R475: GRID_SET with 31 bytes is answered ST_BAD_LENGTH and starts nothing. -/
theorem test_bad_length : let q := Req.mk0 (pay 31 [])
    ((after (asking opGridSet q up) (.gridSetStart q)).bind fun t => (t.response 0).map fun r =>
      (r.status, t.grid.st)) = some (Status.badLength.code, 0) := by decide +kernel

/-- R94: HOUSE_N falling asserts the pin source; the assertion is applied at a tick boundary, not at once. -/
theorem test_house_pin : ((after up (.houseNAssert 0)).map fun t => (t.sh.house.pin, t.sh.house.applied)) = some (true, 0) := by
  decide +kernel

/-- R437: a write to W2 reads back, little endian, and leaves its neighbours. -/
theorem test_w2 : ((after up (.w0OtherWrite 0 true 0x3FFFFE [1, 2])).map fun t => t.mb.w2) =
    some [(0x3FFFFE, 1), (0x3FFFFF, 2)] := by decide +kernel

/-- R426: a tamper input of a tamper-sensing part empties the working slots and sets the lock. -/
theorem test_tamper : ((after { up with box.wk := [(0, { blob := false, root := 0, use := 0, id := 0, used := 0 })] }
    (.tamperInputAssert 0 0)).map fun t => (t.box.wk, t.box.lock)) = some ([], true) := by decide +kernel

/-- An empty queue leaves the engine as it is. -/
theorem test_idle : step up = .next up := rfl

/-! ### Witnesses of the statements' hypotheses -/

/-- A message of any length that is asked for is taken by a ready engine in mode Run. -/
theorem witness_Takes (op n : Nat) : Takes op n (Req.mk0 (.replicate n 0)) (asking op (Req.mk0 (.replicate n 0)) up) := by
  refine ⟨rfl, rfl, ?_, ?_, ?_⟩ <;> simp [asking, State.asked, Svc.carries, Req.mk0]

theorem witness_KeystoneCommandsComplete :
    (let q := Req.mk0 (pay 1 [(0, 32)])
    let s₀ : State := asking opSlotStatus q up
    Takes opSlotStatus 1 q s₀ ∧ 32 ≤ (p8 q.payload 0).toNat) ∧
    (let q := Req.mk0 (pay 32 [])
    let s₀ : State := asking opServoSet q up
    Takes opServoSet 32 q s₀ ∧ (servoCfg q.payload).ki.toNat ≤ 0x8000 ∧
    (∀ x ∈ (servoCfg q.payload).priority.toList, x.toNat ≤ 5)) ∧
    (let q := Req.mk0 (pay 1 [])
    let s₀ : State := asking opClockModelSet q up
    let s := s₀.elapse q.dt
    Takes opClockModelSet 1 q s₀ ∧ (p8 q.payload 0 = 0 ∨ (p8 q.payload 0 = 1 ∧ s.sys.boot.profile ≠ 1)) ∧ s.running = false) ∧
    (let q := Req.mk0 (pay 8 [])
    let s₀ : State := asking opTimeStep q up
    let s := s₀.elapse q.dt
    Takes opTimeStep 8 q s₀ ∧ s.running = false) ∧
    (let q := Req.mk0 (pay 24 [(0, 6), (1, 6)])
    let s₀ : State := asking opTimecodeSet q up
    Takes opTimecodeSet 24 q s₀ ∧ (p8 q.payload 0).toNat ≤ 6 ∧ (p8 q.payload 1).toNat ≤ 6 ∧ rd q.payload 20 2 ≤ 1000) ∧
    (let q := Req.mk0 (pay 20 [(0, 32), (2, 1)])
    let s₀ : State := asking opSlotArm q up
    Takes opSlotArm 20 q s₀ ∧ 32 ≤ (p8 q.payload 0).toNat ∧ (p8 q.payload 1).toNat ≤ 1 ∧
    inRange 1 2 (p8 q.payload 2).toNat = true ∧ (p8 q.payload 1 = 1 ∨ rd q.payload 16 4 ≤ 999999999)) ∧
    (let q := Req.mk0 (pay 1 [(0, 255)])
    let s₀ : State := asking opSlotCancel q ({ up with slots := [(255, { st := 1 })] })
    let s := s₀.elapse q.dt
    let n := (p8 q.payload 0).toNat
    let k := s.slots.get {} n
    Takes opSlotCancel 1 q s₀ ∧ 32 ≤ n ∧ k.st = 1) ∧
    (let q := Req.mk0 (pay 1 [(0, 255)])
    let s₀ : State := asking opSlotCancel q ({ up with slots := [(255, { st := 2, begins := some 0 })] })
    let s := s₀.elapse q.dt
    let n := (p8 q.payload 0).toNat
    let k := s.slots.get {} n
    Takes opSlotCancel 1 q s₀ ∧ 32 ≤ n ∧ k.st ≠ 1 ∧ k.begins = some (s.now / 4)) ∧
    (let q := Req.mk0 (pay 1 [(0, 255)])
    let s₀ : State := asking opSlotCancel q ({ up with slots := [(255, { st := 2 })] })
    let s := s₀.elapse q.dt
    let n := (p8 q.payload 0).toNat
    let k := s.slots.get {} n
    Takes opSlotCancel 1 q s₀ ∧ 32 ≤ n ∧ k.st ≠ 1 ∧ k.begins ≠ some (s.now / 4)) := by
  refine ⟨?_, ?_, ?_, ?_, ?_, ?_, ?_, ?_, ?_⟩ <;> decide +kernel

theorem witness_TimeSourceEventsComplete :
    (let dt : Nat := 0
    let s₀ : State := { up with tc.ltcIn := 1 }
    let s := s₀.elapse dt
    let h : Nat := 23
    let m : Nat := 59
    let sec : Nat := 59
    let f : Nat := 23
    s.tc.ltcIn ≠ 0 ∧ ltcLabelOk s.tc.ltcIn h m sec f = true) ∧
    (let dt : Nat := 4000000000
    let s₀ : State := { up with ks.src := .replicate 5 { valid := true } }
    let s := s₀.elapse dt
    let code : Fin 6 := 1
    code ≠ 0 ∧ (s.ks.source code).valid = true ∧
    s.tickExpired ((s.ks.source code).lastAt + 3 * (s.ks.source code).nominal) = true) ∧
    (let dt : Nat := 60000004000
    let s₀ : State := { up with ks.st := .holdover }
    let s := s₀.elapse dt
    s.ks.st = .holdover ∧ s.ks.cfg.holdoverLimitS.toNat ≠ 0 ∧ s.pwr.mode ≠ .standby ∧
    s.fwExpired (s.ks.holdSince + s.ks.cfg.holdoverLimitS.toNat * 1000000000) = true) ∧
    (let dt : Nat := 0
    let s₀ : State := { up with ks.ref10mPresent := true }
    let s := s₀.elapse dt
    s.ks.ref10mPresent = true) ∧
    (let dt : Nat := 0
    let s₀ : State := up
    let s := s₀.elapse dt
    s.ks.ref10mPresent = false) ∧
    (let dt : Nat := 0
    let s₀ : State := { up with ks.st := .locked }
    let s := s₀.elapse dt
    s.tc.ppsWidthUs ≠ 0 ∧ (s.ks.st ≠ .free ∨ s.tc.ppsForce = true) ∧ s.full % 1000000000 < 5 ∧
    s.tc.ppsLast ≠ some (s.full / 1000000000)) ∧
    (let dt : Nat := 0
    let s₀ : State := { up with tc.ltcOut := 1 }
    let s := s₀.elapse dt
    let t := s.tc
    let j := ((s.full - t.origin + 1) * (ltcRate t.ltcOut).1 - 1) / (1000000000 * (ltcRate t.ltcOut).2)
    t.ltcOut ≠ 0 ∧ t.origin ≤ s.full ∧ t.ltcFrame ≠ some j ∧ s.full ≤ t.frameAt t.ltcOut j + 1000) := by
  refine ⟨?_, ?_, ?_, ?_, ?_, ?_, ?_⟩ <;> decide +kernel

theorem witness_GridCommandsComplete :
    (let q := Req.mk0 (pay 32 [(0, 60), (4, 1), (28, 1), (29, 8), (30, 1), (8, 1), (31, 1)])
    let s₀ : State := asking opGridSet q up
    let s := s₀.elapse q.dt
    let v := gridVals q.payload
    Takes opGridSet 32 q s₀ ∧ gridOk q.payload = true ∧ pbit q.payload 31 0 = true ∧ s.box.lock = false ∧
    s.fitsRate v = true ∧ s.deckTest = false ∧ s.running = false ∧ s.startLate v = false) ∧
    (let q := Req.mk0 (pay 32 [(0, 60), (4, 1), (28, 1), (29, 8), (30, 1), (24, 10), (31, 1)])
    let s₀ : State := asking opGridSet q ({ up with grid.st := 2 })
    let s := s₀.elapse q.dt
    let v := gridVals q.payload
    Takes opGridSet 32 q s₀ ∧ gridOk q.payload = true ∧ pbit q.payload 31 0 = true ∧ s.box.lock = false ∧
    s.fitsRate v = true ∧ s.deckTest = false ∧ s.running = true ∧ s.changeLate (p32 q.payload 24) = false) ∧
    (let q := Req.mk0 (pay 32 [(0, 60), (4, 1), (28, 1), (29, 8), (30, 1)])
    let s₀ : State := asking opGridSet q ({ up with grid.st := 2 })
    let s := s₀.elapse q.dt
    let a := p32 q.payload 24
    let m := if a = 0xFFFFFFFF then s.grid.nextLatch else a
    Takes opGridSet 32 q s₀ ∧ gridOk q.payload = true ∧ pbit q.payload 31 0 = false ∧ s.running = true ∧
    (a ≠ 0xFFFFFFFF ∨ s.paired = false ∧ s.others = []) ∧ s.latchInHand m = false) ∧
    (let dt : Nat := 100000000
    let s₀ : State := { up with grid.st := 2 }
    let s := s₀.elapse dt
    s.grid.nextTickAt ≤ (s.full : Int)) ∧
    (let dt : Nat := 0
    let s₀ : State := { up with grid.fbDue := true }
    let s := s₀.elapse dt
    s.grid.fbDue = true) ∧
    (let dt : Nat := 0
    let s₀ : State := { up with grid.st := 2, grid.latched := [(0, 0)] }
    let s := s₀.elapse dt
    let m : U32 := 0
    s.grid.toPresent = some m ∧ s.presents m = true ∧ s.latchReached m = true) ∧
    (let dt : Nat := 0
    let s₀ : State := { up with grid.st := 2 }
    let s := s₀.elapse dt
    let m := s.grid.nextRender
    s.renderDue m = true) ∧
    (let dt : Nat := 60000000000
    let s₀ : State := { up with grid.st := 2, grid.nextRender := 1 }
    let s := s₀.elapse dt
    s.presents s.grid.nextCommit = true ∧ sdiff32 s.grid.nextCommit s.grid.nextRender < 0 ∧ s.grid.stallRaised = false ∧
    s.grid.cutoff s.grid.nextCommit + 60000000000 ≤ s.full) ∧
    (let dt : Nat := 10000000000000
    let s₀ : State := { up with grid.st := 2 }
    let s := s₀.elapse dt
    let m := s.grid.nextLatch
    s.presents m = true ∧ s.grid.cutoff m + (s.grid.vals m).sigma 16776960 ≤ s.full) := by
  refine ⟨?_, ?_, ?_, ?_, ?_, ?_, ?_, ?_, ?_⟩ <;> decide +kernel

theorem witness_ShowLoadingCompletes :
    (let q := Req.mk0 (pay 8 [(3, 3)])
    let s₀ : State := asking opShowLoadBegin q up
    let s := s₀.elapse q.dt
    let n := rd q.payload 0 4
    Takes opShowLoadBegin 8 q s₀ ∧ s.box.lock = false ∧ n + s.sh.activeBytes ≤ 0x3000000 ∧ s.sh.staged.st ≠ 1 ∧
    s.sh.staged.st ≠ 2) ∧
    (let q := Req.mk0 (pay 9 [(4, 1)])
    let s₀ : State := asking opShowLoadBlock q ({ up with sh.staged := { st := 1, size := 1 } })
    let s := s₀.elapse q.dt
    let b : List U8 := [0]
    let n := rd q.payload 4 2
    let off := rd q.payload 0 4
    let x := s.sh.staged
    Takes opShowLoadBlock (max 8 (needBulk q 8 (rd q.payload 4 2))) q s₀ ∧ 1 ≤ n ∧ n ≤ (if q.bulk then 4096 else 4024) ∧
    (q.bulk = true → q.payload.length = 24 ∧ bulkDenied q 8 n s = false ∧ s.mb.bulkFault.getLsbD q.ch.val = false) ∧
    bulkBytes q 8 n s = some b ∧ x.st = 1 ∧ off + n ≤ x.size ∧ s.deckTest = false) ∧
    (let q := Req.mk0 (pay 0 [])
    let s₀ : State := asking opShowLoadEnd q ({ up with sh.staged.st := 1 })
    let s := s₀.elapse q.dt
    Takes opShowLoadEnd 0 q s₀ ∧ s.sh.staged.st = 1) ∧
    (let dt : Nat := 10000001000
    let s₀ : State := { up with sh.staged.blob := some (0, 0, 0, 0) }
    let s := s₀.elapse dt
    let k : U32 × U8 × U8 × Nat := (0, 0, 0, 0)
    s.sh.staged.blob = some k ∧ s.fwExpired (k.2.2.2 + 10000000000) = true) ∧
    (let q := Req.mk0 (pay 4 [])
    let s₀ : State := asking opShowActivate q ({ up with sh.staged := { st := 3, image := some img } })
    let s := s₀.elapse q.dt
    let im : Image := img
    Takes opShowActivate 4 q s₀ ∧ s.sh.staged.st = 3 ∧ s.sh.staged.image = some im ∧
    im.pixelCount ≤ pixelCapacity s.grid.v.n s.grid.v.d ∧ s.deckTest = false ∧ s.running = false) ∧
    (let q := Req.mk0 (pay 4 [(0, 200)])
    let s₀ : State := asking opShowActivate q ({ up with sh.staged := { st := 3, image := some img }, grid.st := 2 })
    let s := s₀.elapse q.dt
    let im : Image := img
    let f := p32 q.payload 0
    let m := if f = 0xFFFFFFFF then s.firstActivation else f
    Takes opShowActivate 4 q s₀ ∧ s.sh.staged.st = 3 ∧ s.sh.staged.image = some im ∧
    im.pixelCount ≤ pixelCapacity s.grid.v.n s.grid.v.d ∧ s.deckTest = false ∧ s.running = true ∧
    (f ≠ 0xFFFFFFFF ∨ s.paired = false ∧ s.others = []) ∧ 0 ≤ sdiff32 m s.grid.nextRender ∧
    (s.full : Int) + 2000000 ≤ s.grid.s m) ∧
    (let q := Req.mk0 (pay 1 [])
    let s₀ : State := asking opShowUnload q up
    Takes opShowUnload 1 q s₀ ∧ p8 q.payload 0 = 0) ∧
    (let q := Req.mk0 (pay 1 [(0, 1)])
    let s₀ : State := asking opShowUnload q up
    let s := s₀.elapse q.dt
    Takes opShowUnload 1 q s₀ ∧ p8 q.payload 0 = 1 ∧ s.running = false) := by
  refine ⟨?_, ?_, ?_, ?_, ?_, ?_, ?_, ?_⟩ <;> decide +kernel

theorem witness_ShowLoadingCompletes_3 :
    (let dt : Nat := 0
    let s₀ : State := { up with sh.staged := { st := 2 } }
    let s := s₀.elapse dt
    let x := s.sh.staged
    let b := x.bytes
    x.st = 2 ∧ x.blob = none ∧ checkHeader b x.size = false) := by
  decide +kernel

theorem witness_ShowLoadingCompletes_4 :
    (let dt : Nat := 0
    let s₀ : State := { up with box.slot := [(0, { a := { st := .valid, kind := 2, uses := 4,
                                                          value := sha256 (be 97 showKey) } })], sh.staged := { st := 2, size := 466, got := [(0, 466)], data := tabOf imageBytes } }
    let s := s₀.elapse dt
    let x := s.sh.staged
    let b := x.bytes
    x.st = 2 ∧ x.blob = none ∧ checkHeader b x.size = true ∧ x.covers 0 x.size = true ∧ imageSigned b = true ∧
    s.signerOk b = true ∧ hasEncrypted b = false ∧ imageReason b x.size true (some b) = 0) := by
  decide +kernel

theorem witness_ShowLoadingCompletes_5 :
    (let dt : Nat := 0
    let s₀ : State := { up with box.slot := [(0, { a := { st := .valid, kind := 2, uses := 4,
                                                          value := sha256 (be 97 showKey) } })], box.wk := [(0, { blob := true, root := 0, use := 1, id := 0x80000000, key := .replicate 32 0, used := 0 })], sh.staged := { st := 2, size := 494, got := [(0, 494)], data := tabOf sealedBytes } }
    let s := s₀.elapse dt
    let x := s.sh.staged
    let b := x.bytes
    let t : State × List U8 := (s.touch true 0 0x80000000 [], .replicate 32 0)
    let p : List U8 := sealedBytes
    x.st = 2 ∧ x.blob = none ∧ checkHeader b x.size = true ∧ x.covers 0 x.size = true ∧ imageSigned b = true ∧
    s.signerOk b = true ∧ hasEncrypted b = true ∧ (s.sectionKey b).toOption = some (.inl t) ∧ openImage t.2 b = some p ∧
    imageReason b x.size true (some p) = 0 ∧ t.1.sh.staged = x) := by
  decide +kernel

theorem witness_CueAndTapCommandsComplete :
    (let q := Req.mk0 (pay 16 [(1, 5)])
    let s₀ : State := asking opCueGo q up
    let s := s₀.elapse q.dt
    let p := q.payload
    let f := p32 p 8
    Takes opCueGo 16 q s₀ ∧ 1 ≤ (p8 p 1).toNat ∧ (p8 p 1).toNat ≤ 5 ∧
    (f = 0xFFFFFFFF → s.paired = false ∧ s.memberIds.length ≤ 1) ∧
    (f = 0xFFFFFFFF ∨ s.running = false ∨ 0 ≤ sdiff32 f s.grid.nextRender)) ∧
    (let q := Req.mk0 (pay 1 [])
    let s₀ : State := asking opCueListStatus q up
    let s := s₀.elapse q.dt
    let l := s.sh.list (p8 q.payload 0).toNat
    Takes opCueListStatus 1 q s₀ ∧ l.cue = none) ∧
    (let q := Req.mk0 (pay 1 [])
    let s₀ : State := asking opCueListStatus q ({ up with sh.lists := [(0, { cue := some 0 })] })
    let s := s₀.elapse q.dt
    let l := s.sh.list (p8 q.payload 0).toNat
    let c := 0
    Takes opCueListStatus 1 q s₀ ∧ l.cue = some c) ∧
    (let q := Req.mk0 (pay 12 [(0, 15), (2, 15), (8, 1)])
    let s₀ : State := asking opTapSet q up
    Takes opTapSet 12 q s₀ ∧ (p8 q.payload 0).toNat < 16 ∧ (p8 q.payload 2).toNat < 16 ∧ rd q.payload 4 2 ≤ 20000 ∧
    1 ≤ rd q.payload 8 2 ∧ rd q.payload 8 2 ≤ 1000) ∧
    (let q := Req.mk0 (pay 1 [(0, 15)])
    let s₀ : State := asking opTapRead q up
    let k : Fin 16 := 15
    Takes opTapRead 1 q s₀ ∧ (p8 q.payload 0).toNat = k.val) ∧
    (let q := Req.mk0 (pay 12 [(2, 1), (8, 1)])
    let s₀ : State := asking opHouseSet q up
    Takes opHouseSet 12 q s₀ ∧ 1 ≤ rd q.payload 2 2 ∧ rd q.payload 2 2 ≤ 1000 ∧ 1 ≤ rd q.payload 8 2 ∧
    rd q.payload 8 2 ≤ 10000) ∧
    (let dt : Nat := 0
    let span : Fin 12 := 0
    let m : Msg := msg0
    let s₀ : State := { up with tre.nodeId := 2 }
    ((s₀.elapse dt).acceptMsg span m).2 = true) ∧
    (let dt : Nat := 0
    let s₀ : State := { up with net.aes := up.net.aes.set 0 { cfg := { on := true, mask := 1 } } }
    let s := s₀.elapse dt
    let p : AesPacket := ⟨0, 0, 0, 0, []⟩
    let t := s.rxTake p.eth (0x48 + p.stream.val)
    let m := t.net.aes[p.stream]
    let r := m.take 16 p.eth.val p.seq.toNat t.now
    r.2 = true) ∧
    (let dt : Nat := 0
    let s₀ : State := { up with net.aes := up.net.aes.set 0 { cfg := { on := true, mask := 1 } } }
    let s := s₀.elapse dt
    let p : AesPacket := ⟨0, 3, 0, 0, []⟩
    let t := s.rxTake p.eth (0x48 + p.stream.val)
    let m := t.net.aes[p.stream]
    let r := m.take 16 p.eth.val p.seq.toNat t.now
    r.2 = false) ∧
    (let dt : Nat := 0
    let s₀ : State := { up with grid.st := 2, sh.taps := up.sh.taps.set 0 { cfg := { enable := true } } }
    let s := s₀.elapse dt
    let k : Fin 16 := 0
    let x := s.sh.taps[k]
    let g := s.windowEnd x x.nextFrame
    let from_ := g - s.grid.v.period
    let xs := x.buf.filter fun v => decide (from_ ≤ v.1) && decide ((v.1 : Int) < g)
    let y := Tap.close { x with buf := x.buf.filter fun v => decide (g ≤ v.1) } x.nextFrame g xs (x.window from_ g xs)
    s.running = true ∧ x.cfg.enable = true ∧ g ≤ s.full ∧ y.feat.onset = false) ∧
    (let dt : Nat := 100000000
    let s₀ : State := { up with grid.st := 2, sh.taps := up.sh.taps.set 0 { cfg := { enable := true },
                                                                            part := .replicate 63 (0, 1000), nextFrame := 4 } }
    let s := s₀.elapse dt
    let k : Fin 16 := 0
    let x := s.sh.taps[k]
    let g := s.windowEnd x x.nextFrame
    let from_ := g - s.grid.v.period
    let xs := x.buf.filter fun v => decide (from_ ≤ v.1) && decide ((v.1 : Int) < g)
    let y := Tap.close { x with buf := x.buf.filter fun v => decide (g ≤ v.1) } x.nextFrame g xs (x.window from_ g xs)
    s.running = true ∧ x.cfg.enable = true ∧ g ≤ s.full ∧ y.feat.onset = true) := by
  refine ⟨?_, ?_, ?_, ?_, ?_, ?_, ?_, ?_, ?_, ?_, ?_⟩ <;> decide +kernel

theorem witness_HouseEventsComplete :
    (let dt : Nat := 0
    let s₀ : State := up
    let s := s₀.elapse dt
    let t := State.houseChange { s with sys.houseN := false } fun h => { h with pin := true }
    t.sh.house.cfg.pinEnable = true) ∧
    (let dt : Nat := 0
    let s₀ : State := { up with sh.house.cfg.pinEnable := false }
    let s := s₀.elapse dt
    let t := State.houseChange { s with sys.houseN := false } fun h => { h with pin := true }
    t.sh.house.cfg.pinEnable = false) ∧
    (let dt : Nat := 0
    let span : Fin 12 := 0
    let m : Msg := { msg0 with dest := floodDest }
    let s₀ : State := { up with tre.nodeId := 2 }
    ((s₀.elapse dt).acceptMsg span m).2 = true ∧ m.dest = floodDest) ∧
    (let dt : Nat := 0
    let span : Fin 12 := 0
    let m : Msg := msg0
    let s₀ : State := { up with tre.nodeId := 2, pier.cfg := { enable := true, partnerId := 1 }, pier.st := 5 }
    let s := ((s₀.elapse dt).acceptMsg span m).1
    ((s₀.elapse dt).acceptMsg span m).2 = true ∧ m.dest ≠ floodDest ∧ s.paired = true ∧ m.src = s.pier.cfg.partnerId ∧
    s.holds = false) ∧
    (let dt : Nat := 0
    let s₀ : State := { up with sh.house := { due := true, tickCame := true } }
    let s := s₀.elapse dt
    let h := s.sh.house
    let own := h.own &&& ~~~h.ownApplied
    h.due = true ∧ h.tickCame = true ∧ (h.cfg.flood = false ∨ own = 0)) ∧
    (let dt : Nat := 0
    let s₀ : State := { up with sh.house := { pin := true, due := true, tickCame := true, cfg := { flood := true } } }
    let s := s₀.elapse dt
    let h := s.sh.house
    let own := h.own &&& ~~~h.ownApplied
    h.due = true ∧ h.tickCame = true ∧ h.cfg.flood = true ∧ own ≠ 0) := by
  refine ⟨?_, ?_, ?_, ?_, ?_, ?_⟩ <;> decide +kernel

theorem witness_SchedulerCommandsComplete :
    (let q := Req.mk0 (pay 2 [(0, 255), (1, 31)])
    let s₀ : State := asking opSchedTaskRead q up
    Takes opSchedTaskRead 2 q s₀ ∧ rd q.payload 0 2 < 8192) ∧
    (let q := Req.mk0 (pay 8 [(0, 255), (1, 255), (2, 255), (3, 255), (4, 255), (5, 255), (6, 255), (7, 255)])
    let s₀ : State := asking opSchedCores q up
    let s := s₀.elapse q.dt
    let m := p64 q.payload 0
    Takes opSchedCores 8 q s₀ ∧ m ≠ 0 ∧ (∀ i : Fin 64, m.getLsbD i.val = true → s.sched.cores[i].excluded = false)) := by
  refine ⟨?_, ?_⟩ <;> decide +kernel

theorem witness_SchedulerCommandsComplete_0 :
    (let q := Req.mk0 (pay 44 [(17, 32), (19, 32), (21, 32), (23, 32), (33, 7), (34, 7), (35, 7)])
    let s₀ : State := asking opSchedConfig q up
    let c := schedCfg q.payload
    Takes opSchedConfig 44 q s₀ ∧ (∀ x ∈ c.limit.toList, 1 ≤ x.toNat ∧ x.toNat ≤ 8192) ∧
    (∀ x ∈ c.priority.toList, x.toNat ≤ 7)) := by
  intro q s₀ c
  have h : (c.limit.toList.all fun x => decide (1 ≤ x.toNat ∧ x.toNat ≤ 8192)) = true := by decide +kernel
  have h' : (c.priority.toList.all fun x => decide (x.toNat ≤ 7)) = true := by decide +kernel
  exact ⟨by decide +kernel, fun x e => of_decide_eq_true (List.all_eq_true.1 h x e),
    fun x e => of_decide_eq_true (List.all_eq_true.1 h' x e)⟩

theorem witness_SchedulerEventsComplete :
    (let dt : Nat := 1
    let s₀ : State := { up with sched.desc := [(0, { st := .ready, source := 2 })], sched.ready := up.sched.ready.set 0 [0] }
    let s := s₀.elapse dt
    let port : Fin 4 := 0
    let n : Nat := 0
    let k : Fin 64 := 0
    let o := { s with sched := s.sched.offer s.now s.mayDispatch }
    o.sched.choice port = some (n, k)) ∧
    (let dt : Nat := 2000
    let s₀ : State := { up with sched.desc := [(8191, { st := .ready })] }
    let s := s₀.elapse dt
    let n : Fin 8192 := 8191
    (s.sched.at n).st = .ready ∧ s.schedExpired (s.sched.waitEnd (s.sched.at n)) = true) ∧
    (let dt : Nat := 0
    let s₀ : State := { up with sched.desc := [(0, { st := .running })], sh.active := some { img with flows := [flow] } }
    let s := s₀.elapse dt
    let n : Fin 8192 := 0
    let d := s.sched.at n
    let t := { s with sched := s.sched.endTask n s.now }
    let f : Flow := flow
    d.st = .running ∧ s.loaded d = true ∧ d.source = 0 ∧ t.flowOf d = some f) ∧
    (let dt : Nat := 0
    let s₀ : State := { up with sched.desc := [(0, { st := .running, source := 1 })] }
    let s := s₀.elapse dt
    let n : Fin 8192 := 0
    let d := s.sched.at n
    d.st = .running ∧ s.loaded d = true ∧ d.source = 1) ∧
    (let dt : Nat := 0
    let s₀ : State := { up with sched.desc := [(0, { st := .running, source := 2 })] }
    let s := s₀.elapse dt
    let n : Fin 8192 := 0
    let d := s.sched.at n
    d.st = .running ∧ s.loaded d = true ∧ d.source = 2) ∧
    (let dt : Nat := 0
    let s₀ : State := { up with sched.desc := [(0, { st := .running, source := 3 })] }
    let s := s₀.elapse dt
    let n : Fin 8192 := 0
    let d := s.sched.at n
    d.st = .running ∧ s.loaded d = true ∧ d.source = 3) ∧
    (let dt : Nat := 0
    let s₀ : State := { up with sched.desc := [(0, { st := .running })] }
    let s := s₀.elapse dt
    let n : Fin 8192 := 0
    (s.sched.at n).st = .running ∧ s.loaded (s.sched.at n) = true) ∧
    (let dt : Nat := 10000004
    let s₀ : State := { up with sched.desc := [(0, { st := .running, source := 1 })] }
    let s := s₀.elapse dt
    let n : Fin 8192 := 0
    s.overran n = true) ∧
    (let dt : Nat := 0
    let s₀ : State := { up with sched.cores := up.sched.cores.set 63 { task := some 0 } }
    let s := s₀.elapse dt
    let core : Fin 64 := 63
    let n : Nat := 0
    s.sched.cores[core].task = some n) ∧
    (let dt : Nat := 0
    let s₀ : State := up
    let s := s₀.elapse dt
    let core : Fin 64 := 63
    s.sched.cores[core].task = none) ∧
    (let dt : Nat := 1000001
    let s₀ : State := { up with sched.hold := up.sched.hold.set 3 (some 0) }
    let s := s₀.elapse dt
    let src : Fin 4 := 3
    let t : Nat := 0
    s.sched.hold[src] = some t ∧ s.sched.holdRaised[src] = false ∧ t + s.sched.cfg.holdEventUs.toNat * 1000 < s.now) := by
  refine ⟨?_, ?_, ?_, ?_, ?_, ?_, ?_, ?_, ?_, ?_, ?_⟩ <;> decide +kernel

theorem witness_FramePassesComplete :
    (let dt : Nat := 0
    let s₀ : State := { up with fix.cmuBusy := some 0 }
    let s := s₀.elapse dt
    s.fix.cmuBusy.isSome = true ∧ s.fix.passAt + s.solveNs (ceilDiv s.fix.passNext.solves.toNat 4) ≤ s.now) ∧
    (let dt : Nat := 0
    let s₀ : State := { up with fix.kinBusy := some 0 }
    let s := s₀.elapse dt
    s.fix.kinBusy.isSome = true) ∧
    (let dt : Nat := 0
    let s₀ : State := { up with grid.st := 2, sched.renderEnd := true, fix.passFrame := some 0 }
    let s := s₀.elapse dt
    s.commitReady = true) ∧
    (let dt : Nat := 0
    let s₀ : State := { up with tre.committedUnder := [(0, 0)] }
    let s := s₀.elapse dt
    let e := (0, 0)
    let rest := []
    let t := s.flushSends
    s.tre.committedUnder = e :: rest ∧ t.tre.released ≠ some e.1 ∧ t.packed e.1 = true) ∧
    (let dt : Nat := 0
    let s₀ : State := { up with sh.active := some img, grid.tickCount := 256 }
    let s := s₀.elapse dt
    let im : Image := img
    s.sh.active = some im ∧ s.grid.stopped = true ∧ 256 ≤ (s.grid.tickCount - s.fix.stepTick).toNat) := by
  refine ⟨?_, ?_, ?_, ?_, ?_⟩ <;> decide +kernel

theorem witness_FixtureCommandsComplete :
    (let q := Req.mk0 (pay 16 [(4, 1), (5, 8), (6, 16), (8, 1)])
    let s₀ : State := asking opCmuConfig q up
    let c := cmuCfg q.payload
    Takes opCmuConfig 16 q s₀ ∧ 1 ≤ c.settleFrames.toNat ∧ c.settleFrames.toNat ≤ 15 ∧ 8 ≤ c.updateFrames.toNat ∧
    16 ≤ c.timeoutFrames.toNat ∧ 1 ≤ c.tempHoldFrames.toNat) ∧
    (let q := Req.mk0 (pay 8 [])
    let s₀ : State := asking opLoopControl q ({ up with sh.active := some { img with fixtures := [fix] } })
    let s := s₀.elapse q.dt
    let f : Fixture := fix
    let fi := rd q.payload 0 4
    Takes opLoopControl 8 q s₀ ∧ s.fixtureAt fi = some f ∧ p8 q.payload 4 = 0) ∧
    (let q := Req.mk0 (pay 8 [(4, 1)])
    let s₀ : State := asking opLoopControl q ({ up with sh.active := some { img with fixtures := [fix] } })
    let s := s₀.elapse q.dt
    let f : Fixture := fix
    let fi := rd q.payload 0 4
    Takes opLoopControl 8 q s₀ ∧ s.fixtureAt fi = some f ∧ p8 q.payload 4 = 1) ∧
    (let q := Req.mk0 (pay 8 [(4, 2)])
    let s₀ : State := asking opLoopControl q ({ up with sh.active := some { img with fixtures := [fix] } })
    let s := s₀.elapse q.dt
    let f : Fixture := fix
    let fi := rd q.payload 0 4
    Takes opLoopControl 8 q s₀ ∧ s.fixtureAt fi = some f ∧ p8 q.payload 4 = 2) ∧
    (let q := Req.mk0 (pay 4 [])
    let s₀ : State := asking opLoopRead q ({ up with sh.active := some { img with fixtures := [fix] } })
    let s := s₀.elapse q.dt
    let im : Image := { img with fixtures := [fix] }
    let f : Fixture := fix
    Takes opLoopRead 4 q s₀ ∧ s.sh.active = some im ∧ s.fixtureAt (rd q.payload 0 4) = some f) ∧
    (let q := Req.mk0 (pay 4 [])
    let s₀ : State := asking opFixtureSolveRead q ({ up with sh.active := some { img with fixtures := [fix] } })
    let s := s₀.elapse q.dt
    let f : Fixture := fix
    Takes opFixtureSolveRead 4 q s₀ ∧ s.fixtureAt (rd q.payload 0 4) = some f) ∧
    (let q := Req.mk0 (pay 20 [(0, 1), (1, 2)])
    let s₀ : State := asking opKineticStop q up
    let s := s₀.elapse q.dt
    let k := kstopOf q.payload
    Takes opKineticStop 20 q s₀ ∧ k.scope.toNat ≤ 2 ∧ (k.frame = 0xFFFFFFFF → s.paired = false ∧ s.memberIds.length ≤ 1) ∧
    (k.frame = 0xFFFFFFFF ∨ s.passBegun k.frame = false) ∧ k.action = 1) ∧
    (let q := Req.mk0 (pay 20 [(0, 2)])
    let s₀ : State := asking opKineticStop q up
    let s := s₀.elapse q.dt
    let k := kstopOf q.payload
    Takes opKineticStop 20 q s₀ ∧ k.scope.toNat ≤ 2 ∧ (k.frame = 0xFFFFFFFF → s.paired = false ∧ s.memberIds.length ≤ 1) ∧
    (k.frame = 0xFFFFFFFF ∨ s.passBegun k.frame = false) ∧ k.action = 2) ∧
    (let q := Req.mk0 (pay 20 [(0, 3)])
    let s₀ : State := asking opKineticStop q up
    let s := s₀.elapse q.dt
    let k := kstopOf q.payload
    Takes opKineticStop 20 q s₀ ∧ k.scope.toNat ≤ 2 ∧ (k.frame = 0xFFFFFFFF → s.paired = false ∧ s.memberIds.length ≤ 1) ∧
    (k.frame = 0xFFFFFFFF ∨ s.passBegun k.frame = false) ∧ k.action = 3) ∧
    (let q := Req.mk0 (pay 2 [(0, 255), (1, 127)])
    let s₀ : State := asking opKineticRead q up
    Takes opKineticRead 2 q s₀ ∧ rd q.payload 0 2 < 32768) := by
  refine ⟨?_, ?_, ?_, ?_, ?_, ?_, ?_, ?_, ?_, ?_⟩ <;> decide +kernel

theorem witness_PixelCommandsComplete :
    (let q := Req.mk0 (pay 0 [])
    let s₀ : State := asking opDeckStatus q up
    let s := s₀.elapse q.dt
    Takes opDeckStatus 0 q s₀ ∧ s.sh.active = none) ∧
    (let q := Req.mk0 (pay 0 [])
    let s₀ : State := asking opDeckStatus q ({ up with sh.active := some img })
    let s := s₀.elapse q.dt
    let im : Image := img
    Takes opDeckStatus 0 q s₀ ∧ s.sh.active = some im) ∧
    (let q := Req.mk0 (pay 24 [(0, 7), (2, 2), (3, 1)])
    let s₀ : State := asking opIngestSet q up
    Takes opIngestSet 24 q s₀ ∧ (p8 q.payload 0).toNat < 8 ∧ (p8 q.payload 2).toNat ≤ 2 ∧ (p8 q.payload 3).toNat ≤ 1) ∧
    (let q := Req.mk0 (pay 1 [(0, 7)])
    let s₀ : State := asking opIngestStatus q up
    let k : Fin 8 := 7
    Takes opIngestStatus 1 q s₀ ∧ (p8 q.payload 0).toNat = k.val) ∧
    (let q := Req.mk0 (pay 32 [(0, 3), (2, 11), (3, 10), (4, 1), (6, 1), (8, 1), (10, 17)])
    let s₀ : State := asking opRasterSet q up
    let s := s₀.elapse q.dt
    let re : Fin 4 := 3
    Takes opRasterSet 32 q s₀ ∧ (p8 q.payload 0).toNat = re.val ∧ (rasterCfg q.payload).ok s.grid.v = true) ∧
    (let q := Req.mk0 (pay 32 [(0, 3), (1, 3), (2, 2), (20, 8), (21, 8)])
    let s₀ : State := asking opLayerSet q up
    let re : Fin 4 := 3
    let l : Fin 4 := 3
    let c := layerCfg q.payload
    Takes opLayerSet 32 q s₀ ∧ (p8 q.payload 0).toNat = re.val ∧ (p8 q.payload 1).toNat = l.val ∧ c.blend.toNat ≤ 2 ∧
    1 ≤ c.repX ∧ c.repX ≤ 8 ∧ 1 ≤ c.repY ∧ c.repY ≤ 8) ∧
    (let q := Req.mk0 (pay 1 [(0, 3)])
    let s₀ : State := asking opRasterStatus q up
    let re : Fin 4 := 3
    Takes opRasterStatus 1 q s₀ ∧ (p8 q.payload 0).toNat = re.val) := by
  refine ⟨?_, ?_, ?_, ?_, ?_, ?_, ?_⟩ <;> decide +kernel

theorem witness_PictureEventsComplete :
    (let dt : Nat := 0
    let s₀ : State := up
    let s := s₀.elapse dt
    let re : Fin 4 := 3
    let x := s.raster[re]
    let r := s.grid.rasterFrame x.cfg.genlock x.nextR s.full
    0 ≤ sdiff32 r x.nextR ∧ s.pwr.mode = .run) ∧
    (let dt : Nat := 100000000
    let s₀ : State := { up with raster := up.raster.set 0 { xfer := some { r := 0, frame := none } } }
    let s := s₀.elapse dt
    let re : Fin 4 := 0
    let t : Transfer := { r := 0, frame := none }
    let c := s.raster[re].cfg
    s.raster[re].xfer = some t ∧ s.grid.rasterAt c.genlock t.r + c.lineAt (s.grid.vals t.r) t.line ≤ s.full) ∧
    (let dt : Nat := 100000000
    let s₀ : State := { up with raster := up.raster.set 0 { blanked := false, commit := true, nextR := 1 } }
    let s := s₀.elapse dt
    let re : Fin 4 := 0
    let x := s.raster[re]
    x.blanked = false ∧
    s.grid.rasterAt x.cfg.genlock (x.nextR - 1) + x.cfg.lineAt (s.grid.vals (x.nextR - 1)) x.cfg.vActive ≤ s.full ∧
    x.commit = true) ∧
    (let dt : Nat := 100000000
    let s₀ : State := { up with raster := up.raster.set 0 { blanked := false, nextR := 1 } }
    let s := s₀.elapse dt
    let re : Fin 4 := 0
    let x := s.raster[re]
    x.blanked = false ∧
    s.grid.rasterAt x.cfg.genlock (x.nextR - 1) + x.cfg.lineAt (s.grid.vals (x.nextR - 1)) x.cfg.vActive ≤ s.full ∧
    x.commit = false) ∧
    (let dt : Nat := 0
    let s₀ : State := { up with net.st2110 := up.net.st2110.set 0 { cfg := { on := true, mask := 1 } },
                                ingest := up.ingest.set 0 { cfg := { enable := true } } }
    let s := s₀.elapse dt
    let p : VideoPacket := ⟨0, 3, 0, 0, false, 0, []⟩
    let t := s.rxTake p.eth (0x40 + p.stream.val)
    let m := t.net.st2110[p.stream]
    let r := m.take 32 p.eth.val p.seq.toNat t.now
    r.2 = false) ∧
    (let dt : Nat := 0
    let s₀ : State := { up with net.st2110 := up.net.st2110.set 0 { cfg := { on := true, mask := 1 } },
                                ingest := up.ingest.set 0 { cfg := { enable := true } } }
    let s := s₀.elapse dt
    let p : VideoPacket := ⟨0, 0, 0, 0, false, 0, []⟩
    let t := s.rxTake p.eth (0x40 + p.stream.val)
    let m := t.net.st2110[p.stream]
    let r := m.take 32 p.eth.val p.seq.toNat t.now
    let u := t.modVideo p.stream fun _ => r.1
    let v := (u.modVideo p.stream fun x => { x with present := true, lostRun := false }).streamBack true p.stream.val m
    let w := v.modIngest p.stream fun g => { g with srcW := m.cfg.width, srcH := m.cfg.height, format := if m.cfg.videoOk then
                                                    m.cfg.format else 0 }
    r.2 = true ∧ u.pwr.mode = .run ∧ m.cfg.videoOk = true ∧ w.ingest[p.stream].cfg.enable = true) ∧
    (let dt : Nat := 0
    let s₀ : State := { up with net.st2110 := up.net.st2110.set 0 { cfg := { on := true, mask := 1 } } }
    let s := s₀.elapse dt
    let p : VideoPacket := ⟨0, 0, 0, 0, false, 0, []⟩
    let t := s.rxTake p.eth (0x40 + p.stream.val)
    let m := t.net.st2110[p.stream]
    let r := m.take 32 p.eth.val p.seq.toNat t.now
    let u := t.modVideo p.stream fun _ => r.1
    let v := (u.modVideo p.stream fun x => { x with present := true, lostRun := false }).streamBack true p.stream.val m
    let w := v.modIngest p.stream fun g => { g with srcW := m.cfg.width, srcH := m.cfg.height, format := if m.cfg.videoOk then
                                                    m.cfg.format else 0 }
    r.2 = true ∧ u.pwr.mode = .run ∧ (m.cfg.videoOk = false ∨ w.ingest[p.stream].cfg.enable = false)) ∧
    (let dt : Nat := 100001000
    let s₀ : State := { up with net.aes := up.net.aes.set 15 { lastAt := some 0, present := true } }
    let s := s₀.elapse dt
    let i : Fin 16 := 15
    let t : Nat := 0
    let m := s.net.aes[i]
    m.lastAt = some t ∧ m.present = true ∧ s.fwExpired (t + m.cfg.lossMs.toNat * 1000000) = true) ∧
    (let dt : Nat := 100001000
    let s₀ : State := { up with net.st2110 := up.net.st2110.set 7 { lastAt := some 0, present := true } }
    let s := s₀.elapse dt
    let k : Fin 8 := 7
    let t : Nat := 0
    let m := s.net.st2110[k]
    m.lastAt = some t ∧ m.present = true ∧ s.fwExpired (t + m.cfg.lossMs.toNat * 1000000) = true) ∧
    (let q := Req.mk0 (pay 32 [(0, 1), (1, 15), (3, 96), (14, 10), (28, 1), (20, 8)])
    let s₀ : State := asking opStreamSet q up
    Takes opStreamSet 32 q s₀ ∧
    (streamCfg q.payload).ok (p8 q.payload 0).toNat (p8 q.payload 1).toNat (p8 q.payload 21).toNat = true) ∧
    (let q := Req.mk0 (pay 2 [(0, 1), (1, 15)])
    let s₀ : State := asking opStreamStatus q up
    let i : Fin 16 := 15
    Takes opStreamStatus 2 q s₀ ∧ p8 q.payload 0 = 1 ∧ (p8 q.payload 1).toNat = i.val) ∧
    (let q := Req.mk0 (pay 2 [(0, 2), (1, 7)])
    let s₀ : State := asking opStreamStatus q up
    let i : Fin 8 := 7
    Takes opStreamStatus 2 q s₀ ∧ p8 q.payload 0 = 2 ∧ (p8 q.payload 1).toNat = i.val) := by
  refine ⟨?_, ?_, ?_, ?_, ?_, ?_, ?_, ?_, ?_, ?_, ?_, ?_⟩ <;> decide +kernel

theorem witness_LinkBlocksComplete :
    (let dt : Nat := 0
    let s₀ : State := { up with spans := up.spans.set 0 { st := 3, sleepDue := true } }
    let s := s₀.elapse dt
    let sp : Fin 12 := 0
    s.sleeps sp = true) ∧
    (let dt : Nat := 0
    let s₀ : State := { up with spans := up.spans.set 0 { st := 3 } }
    let s := s₀.elapse dt
    let sp : Fin 12 := 0
    s.sleeps sp = false ∧ s.sendsCodewords sp = true) ∧
    (let dt : Nat := 0
    let sp : Fin 12 := 0
    let errs : List SymErr := []
    let s₀ : State := { { up with spans := up.spans.set 0 { st := 3, lock := true } } with links := up.links.set 0 { st := 2 } }
    ((s₀.elapse dt).codewordIn sp idleBytes errs).2 = true) ∧
    (let dt : Nat := 0
    let sp : Fin 12 := 0
    let errs : List SymErr := []
    let b : Block := ⟨1, true, true, 65535, .replicate 126 255⟩
    let s₀ : State := { { up with spans := up.spans.set 0 { st := 3, lock := true } } with links := up.links.set 0 { st := 2 } }
    let s := ((s₀.elapse dt).codewordIn sp (dataBytes b) errs).1
    ((s₀.elapse dt).codewordIn sp (dataBytes b) errs).2 = true ∧ s.links[sp].st = 2) ∧
    (let dt : Nat := 0
    let sp : Fin 12 := 0
    let errs : List SymErr := []
    let freed : Vector U16 5 := .replicate 5 0xFFFF
    let s₀ : State := { { up with spans := up.spans.set 0 { st := 3, lock := true } } with links := up.links.set 0 { st := 2 } }
    let s := ((s₀.elapse dt).codewordIn sp (blockBytes 2 0 false false (creditPayload freed)) errs).1
    ((s₀.elapse dt).codewordIn sp (blockBytes 2 0 false false (creditPayload freed)) errs).2 = true ∧ s.links[sp].st = 2) ∧
    (let dt : Nat := 0
    let sp : Fin 12 := 0
    let errs : List SymErr := []
    let lseq : U16 := 0xFFFF
    let s₀ : State := { { up with spans := up.spans.set 0 { st := 3, lock := true } } with links := up.links.set 0 { st := 2 } }
    let s := ((s₀.elapse dt).codewordIn sp (blockBytes 3 0 false false (be 2 lseq.toNat)) errs).1
    ((s₀.elapse dt).codewordIn sp (blockBytes 3 0 false false (be 2 lseq.toNat)) errs).2 = true ∧ s.links[sp].st = 2) ∧
    (let dt : Nat := 0
    let sp : Fin 12 := 0
    let errs : List SymErr := []
    let lseq : U16 := 0xFFFF
    let s₀ : State := { { up with spans := up.spans.set 0 { st := 3, lock := true } } with links := up.links.set 0 { st := 2 } }
    let s := ((s₀.elapse dt).codewordIn sp (blockBytes 4 0 false false (be 2 lseq.toNat)) errs).1
    ((s₀.elapse dt).codewordIn sp (blockBytes 4 0 false false (be 2 lseq.toNat)) errs).2 = true ∧ s.links[sp].st = 2) ∧
    (let dt : Nat := 0
    let sp : Fin 12 := 0
    let errs : List SymErr := []
    let t : TimeBlock := ⟨0, 0, 0, 0, 0, 0, 0⟩
    let s₀ : State := { { up with spans := up.spans.set 0 { st := 3, lock := true } } with links := up.links.set 0 { st := 2 } }
    let s := ((s₀.elapse dt).codewordIn sp (blockBytes 5 0 false false t.payload) errs).1
    ((s₀.elapse dt).codewordIn sp (blockBytes 5 0 false false t.payload) errs).2 = true ∧ s.links[sp].st = 2) ∧
    (let dt : Nat := 0
    let sp : Fin 12 := 0
    let errs : List SymErr := []
    let h : Hello := ⟨2, 2, 2, 0, true, false, false, 0, 0⟩
    let s₀ : State := { { up with spans := up.spans.set 0 { st := 3, lock := true } } with links := up.links.set 0 { st := 2 } }
    ((s₀.elapse dt).codewordIn sp (blockBytes 6 0 false false h.payload) errs).2 = true) ∧
    (let dt : Nat := 0
    let sp : Fin 12 := 0
    let errs : List SymErr := []
    let s₀ : State := { { up with spans := up.spans.set 0 { st := 3, lock := true } } with links := up.links.set 0 { st := 2 } }
    ((s₀.elapse dt).codewordIn sp (blockBytes 7 0 false false []) errs).2 = true) := by
  refine ⟨?_, ?_, ?_, ?_, ?_, ?_, ?_, ?_, ?_, ?_⟩ <;> decide +kernel

theorem witness_LinkTimersComplete :
    (let dt : Nat := 10004
    let s₀ : State := { up with links := up.links.set 0 { st := 2 } }
    let s := s₀.elapse dt
    let sp : Fin 12 := 0
    s.links[sp].st = 2 ∧ s.cycExpired (s.links[sp].creditAt + 10000) = true) ∧
    (let dt : Nat := 100004
    let s₀ : State := { up with links := up.links.set 0 { st := 2 } }
    let s := s₀.elapse dt
    let sp : Fin 12 := 0
    (s.links[sp].st = 2 ∧ s.cycExpired (s.links[sp].helloAt + 100000) = true ∨ (s.spans[sp].st = 2 ∨ s.spans[sp].st = 7) ∧
     s.spans[sp].train.step = 9)) ∧
    (let dt : Nat := 0
    let s₀ : State := { up with links := up.links.set 0 { st := 2 } }
    let s := s₀.elapse dt
    let sp : Fin 12 := 0
    s.links[sp].st = 2 ∧ s.links[sp].cfg.timeEn = true ∧ (∀ t ∈ s.links[sp].timeAt, t + s.grid.ticksNs 16 ≤ s.now)) ∧
    (let dt : Nat := 100004
    let s₀ : State := { up with links := up.links.set 0 { stall := up.links[0].stall.set 4 (some 0) } }
    let s := s₀.elapse dt
    let sp : Fin 12 := 0
    let vc : Fin 5 := 4
    let t : Nat := 0
    s.links[sp].stall[vc] = some t ∧ s.links[sp].stalled[vc] = false ∧
    s.cycExpired (t + s.tre.cfg.creditStallUs.toNat * 1000) = true) ∧
    (let dt : Nat := 1000004
    let s₀ : State := { up with links := up.links.set 0 { stall := up.links[0].stall.set 1 (some 0) } }
    let s := s₀.elapse dt
    let sp : Fin 12 := 0
    let vc : Fin 2 := 1
    let t : Nat := 0
    s.links[sp].stall.toList.getD vc.val none = some t ∧ s.cycExpired (t + 1000000) = true) ∧
    (let dt : Nat := 20004
    let s₀ : State := { up with links := up.links.set 0 { replay := [(0, ⟨1, true, true, 0, []⟩)] } }
    let s := s₀.elapse dt
    let sp : Fin 12 := 0
    s.links[sp].replay ≠ [] ∧ s.cycExpired (s.links[sp].ackWait + s.tre.cfg.ackTimeoutUs.toNat * 1000) = true) := by
  refine ⟨?_, ?_, ?_, ?_, ?_, ?_⟩ <;> decide +kernel

theorem witness_LinkTimersComplete_6 :
    (let dt : Nat := 3000
    let s₀ : State := up
    let s := s₀.elapse dt
    let sp : Fin 12 := 0
    (∀ t, s.spans[sp].gapRx = some (.open_ t) → t + 8000 ≤ s.now) ∧ s.fwExpired (s.links[sp].fecAt + 2000) = true) := by
  intro dt s₀ s sp
  refine ⟨fun t h => ?_, by decide +kernel⟩
  have e : s.spans[sp].gapRx = none := rfl
  rw [e] at h
  cases h

theorem witness_DomainMessagesComplete :
    (let dt : Nat := 0
    let span : Fin 12 := 0
    let m : Msg := msg0
    let s₀ : State := { up with tre.nodeId := 2 }
    ((s₀.elapse dt).acceptMsg span m).2 = true) ∧
    (let dt : Nat := 0
    let span : Fin 12 := 0
    let m : Msg := msg0
    let s₀ : State := { up with tre.nodeId := 2 }
    ((s₀.elapse dt).acceptMsg span m).2 = true) ∧
    (let dt : Nat := 0
    let span : Fin 12 := 0
    let m : Msg := msg0
    let s₀ : State := { up with tre.nodeId := 2 }
    ((s₀.elapse dt).acceptMsg span m).2 = true) ∧
    (let dt : Nat := 0
    let span : Fin 12 := 0
    let m : Msg := msg0
    let s₀ : State := { up with tre.nodeId := 2 }
    ((s₀.elapse dt).acceptMsg span m).2 = true) ∧
    (let dt : Nat := 0
    let span : Fin 12 := 0
    let m : Msg := { msg0 with payload := [0, 0, 0, 0, 0, 2] }
    let s₀ : State := { up with tre.nodeId := 2 }
    ((s₀.elapse dt).acceptMsg span m).2 = true ∧ rdBE m.payload 5 1 = 2) ∧
    (let dt : Nat := 0
    let span : Fin 12 := 0
    let m : Msg := msg0
    let s₀ : State := { up with tre.nodeId := 2 }
    ((s₀.elapse dt).acceptMsg span m).2 = true ∧ rdBE m.payload 5 1 ≠ 2) ∧
    (let dt : Nat := 0
    let span : Fin 12 := 0
    let m : Msg := msg0
    let s₀ : State := { up with tre.nodeId := 2 }
    ((s₀.elapse dt).acceptMsg span m).2 = true) ∧
    (let dt : Nat := 0
    let span : Fin 12 := 0
    let m : Msg := msg0
    let s₀ : State := { up with tre.nodeId := 2 }
    ((s₀.elapse dt).acceptMsg span m).2 = true) ∧
    (let dt : Nat := 0
    let span : Fin 12 := 0
    let m : Msg := msg0
    let s₀ : State := { up with tre.nodeId := 2 }
    ((s₀.elapse dt).acceptMsg span m).2 = true) ∧
    (let dt : Nat := 0
    let span : Fin 12 := 0
    let m : Msg := msg0
    let s₀ : State := { up with tre.nodeId := 2 }
    ((s₀.elapse dt).acceptMsg span m).2 = true) ∧
    (let dt : Nat := 0
    let span : Fin 12 := 0
    let m : Msg := msg0
    let s₀ : State := { up with tre.nodeId := 2 }
    ((s₀.elapse dt).acceptMsg span m).2 = true) ∧
    (let dt : Nat := 0
    let span : Fin 12 := 0
    let m : Msg := msg0
    let s₀ : State := { up with tre.nodeId := 2 }
    ((s₀.elapse dt).acceptMsg span m).2 = true) := by
  refine ⟨?_, ?_, ?_, ?_, ?_, ?_, ?_, ?_, ?_, ?_, ?_, ?_⟩ <;> decide +kernel

theorem witness_DomainTimersComplete :
    (let dt : Nat := 0
    let s₀ : State := { up with grid.st := 2, tre.cfg := { latchRepeat := false }, tre.reports := [(0, 0, 0)] }
    let s := s₀.elapse dt
    let m := s.latchFrame
    let t := s.houseReturn
    let l := t.makeLatch m
    let u := t.flood 0x0001 l.bytes
    s.latchReady m = true ∧ u.tre.cfg.latchRepeat = false) ∧
    (let dt : Nat := 0
    let s₀ : State := { up with grid.st := 2, tre.reports := [(0, 0, 0)] }
    let s := s₀.elapse dt
    let m := s.latchFrame
    let t := s.houseReturn
    let l := t.makeLatch m
    let u := t.flood 0x0001 l.bytes
    s.latchReady m = true ∧ u.tre.cfg.latchRepeat = true) ∧
    (let dt : Nat := 4000
    let s₀ : State := { up with tre.latchCopy := [(0, [], 0)] }
    let s := s₀.elapse dt
    let c := ((0, [], 0) : U32 × List U8 × Nat)
    let rest := ([] : List (U32 × List U8 × Nat))
    s.tre.latchCopy = c :: rest ∧ c.2.2 + 4000 ≤ s.now) ∧
    (let dt : Nat := 0
    let s₀ : State := { up with grid.memberDue := true }
    let s := s₀.elapse dt
    s.grid.memberDue = true) ∧
    (let dt : Nat := 1000001000
    let s₀ : State := up
    let s := s₀.elapse dt
    s.fwExpired (s.tre.probeAt + 1000000000) = true) := by
  refine ⟨?_, ?_, ?_, ?_, ?_⟩ <;> decide +kernel

theorem witness_TrestleCommandsComplete :
    (let q := Req.mk0 (pay 32 [(4, 16), (6, 50), (8, 2), (9, 1), (12, 10), (14, 5), (20, 1)])
    let s₀ : State := asking opTrestleSet q up
    let s := s₀.elapse q.dt
    let c := trestleCfg q.payload
    let node := p32 q.payload 0
    Takes opTrestleSet 32 q s₀ ∧ node < 0xFFFFFFF0#32 ∧ 16 ≤ c.hopLimit.toNat ∧ 50 ≤ c.partitionWaitUs.toNat ∧
    c.partitionWaitUs.toNat ≤ 10000 ∧ 2 ≤ c.memberTimeoutFrames.toNat ∧ c.memberTimeoutFrames.toNat ≤ 16 ∧
    1 ≤ c.refreshFrames.toNat ∧ c.refreshFrames.toNat ≤ 32 ∧ c.outputMarginUs.toNat ≤ 20000 ∧ 10 ≤ c.creditStallUs.toNat ∧
    c.creditStallUs.toNat ≤ 10000 ∧ 5 ≤ c.ackTimeoutUs.toNat ∧ c.ackTimeoutUs.toNat ≤ 1000 ∧ 1 ≤ c.routeAgeS.toNat ∧
    c.routeAgeS.toNat ≤ 3600 ∧ (node = s.tre.nodeId ∨ s.grid.stopped = true)) ∧
    (let q := Req.mk0 (pay 2 [])
    let s₀ : State := asking opMemberRead q ({ up with tre.nodeId := 2 })
    let s := s₀.elapse q.dt
    let e := s.memberList.headD ({ id := 0, root := 0 }, 0)
    Takes opMemberRead 2 q s₀ ∧ s.memberList[(p16 q.payload 0).toNat]? = some e) ∧
    (let q := Req.mk0 (pay 4 [])
    let s₀ : State := asking opRouteRead q up
    let s := s₀.elapse q.dt
    let r := s.tre.learned.find? fun e => e.node == p32 q.payload 0
    Takes opRouteRead 4 q s₀ ∧ r = none) ∧
    (let q := Req.mk0 (pay 4 [])
    let s₀ : State := asking opRouteRead q ({ up with tre.learned := [⟨0, 11, 1, 0, 0⟩] })
    let s := s₀.elapse q.dt
    let r := s.tre.learned.find? fun e => e.node == p32 q.payload 0
    let e := (⟨0, 11, 1, 0, 0⟩ : Learned)
    Takes opRouteRead 4 q s₀ ∧ r = some e) ∧
    (let q := Req.mk0 (pay 16 [(0, 11), (2, 1), (3, 1)])
    let s₀ : State := asking opLinkSet q up
    Takes opLinkSet 16 q s₀ ∧ (p8 q.payload 0).toNat < 12 ∧ p8 q.payload 2 ≠ 0 ∧ p8 q.payload 3 ≠ 0) ∧
    (let q := Req.mk0 (pay 2 [(0, 11)])
    let s₀ : State := asking opLinkCounters q up
    let sp : Fin 12 := 11
    Takes opLinkCounters 2 q s₀ ∧ (p8 q.payload 0).toNat = sp.val) ∧
    (let q := Req.mk0 (pay 4 [])
    let s₀ : State := asking opDestStatus q ({ up with sh.active := some { img with routes := [rt0] } })
    let s := s₀.elapse q.dt
    let im := { img with routes := [rt0] }
    let r := rt0
    Takes opDestStatus 4 q s₀ ∧ s.outImage = some im ∧ im.routes[(p32 q.payload 0).toNat]? = some r) := by
  refine ⟨?_, ?_, ?_, ?_, ?_, ?_, ?_⟩ <;> decide +kernel

theorem witness_LaneSignalsComplete :
    (let dt : Nat := 0
    let s₀ : State := { up with spans := up.spans.set 0 { st := 3 } }
    let s := s₀.elapse dt
    let sp : Fin 12 := 0
    let lane : Fin 6 := 5
    let t := s.modSpan sp fun x => x.markLost lane.val true
    let x := t.spans[sp]
    x.st = 3) ∧
    (let dt : Nat := 0
    let s₀ : State := { up with spans := up.spans.set 0 { st := 2 } }
    let s := s₀.elapse dt
    let sp : Fin 12 := 0
    let lane : Fin 6 := 5
    let t := s.modSpan sp fun x => x.markLost lane.val true
    let x := t.spans[sp]
    x.st = 2 ∧ (lane = 5 ∨ 2 ≤ x.losCount) ∧ x.train.lockAt = none) ∧
    (let dt : Nat := 0
    let s₀ : State := { up with spans := up.spans.set 0 { st := 2, train := { lockAt := some 0 },
                                                          lane := up.spans[(0 : Fin 12)].lane.set 0 { los := true } } }
    let s := s₀.elapse dt
    let sp : Fin 12 := 0
    let lane : Fin 6 := 1
    let t := s.modSpan sp fun x => x.markLost lane.val true
    let x := t.spans[sp]
    let e := (0 : Nat)
    x.st = 2 ∧ lane ≠ 5 ∧ 2 ≤ x.losCount ∧ x.train.lockAt = some e ∧ s.fwExpired e = false) ∧
    (let dt : Nat := 0
    let s₀ : State := { up with spans := up.spans.set 0 { st := 5 } }
    let s := s₀.elapse dt
    let sp : Fin 12 := 0
    let t := s.modSpan sp fun x => { x with ckLos := false, ckLol := false }
    t.peerWakes sp = true) ∧
    (let dt : Nat := 0
    let s₀ : State := up
    let s := s₀.elapse dt
    let sp : Fin 12 := 0
    let t := s.modSpan sp fun x => { x with ckLos := false, ckLol := false }
    t.peerWakes sp = false ∧ t.spans[sp].quietUntil ≤ t.now) ∧
    (let dt : Nat := 0
    let s₀ : State := { up with spans := up.spans.set 0 { st := 3 } }
    let s := s₀.elapse dt
    let sp : Fin 12 := 0
    let lane : Fin 6 := 0
    let t := s.modSpan sp fun x => x.markLost lane.val false
    t.spans[sp].st = 3) ∧
    (let dt : Nat := 0
    let s₀ : State := up
    let s := s₀.elapse dt
    let sp : Fin 12 := 11
    s.attemptDue sp = true) ∧
    (let dt : Nat := 5001000
    let s₀ : State := { up with spans := up.spans.set 0 { st := 2, train := { step := 4, rAt := some 0 } } }
    let s := s₀.elapse dt
    let sp : Fin 12 := 0
    let t : Nat := 5000000
    (s.spans[sp].st = 7 ∨ s.spans[sp].st = 2 ∧ s.spans[sp].train.windowEnd = some t ∧ s.fwExpired t = true)) ∧
    (let dt : Nat := 250001000
    let s₀ : State := { up with spans := up.spans.set 0 { st := 2 } }
    let s := s₀.elapse dt
    let sp : Fin 12 := 0
    s.spans[sp].st = 2 ∧ s.fwExpired (s.spans[sp].train.t0 + 250000000) = true) ∧
    (let dt : Nat := 1000
    let s₀ : State := up
    let s := s₀.elapse dt
    let sp : Fin 12 := 0
    s.fwExpired s.spans[sp].quietUntil = true ∧ s.attemptDue sp = true) ∧
    (let dt : Nat := 1000
    let s₀ : State := up
    let s := s₀.elapse dt
    let sp : Fin 12 := 0
    s.fwExpired s.spans[sp].nextAttempt = true ∧ s.attemptDue sp = true) := by
  refine ⟨?_, ?_, ?_, ?_, ?_, ?_, ?_, ?_, ?_, ?_, ?_⟩ <;> decide +kernel

theorem witness_CalibrationEventsComplete :
    (let dt : Nat := 0
    let s₀ : State := up
    let s := s₀.elapse dt
    let sp : Fin 12 := 0
    let lane : Fin 5 := 3
    let seen : Taps := { delay := 2 }
    let x := s.spans[sp]
    let n := x.bitErrors s.now (· == lane.val)
    let high := decide (x.laneBits < n * 10 ^ x.cfg.fecWarnExp.toNat)
    (x.eyeMoved lane seen || high) = true) ∧
    (let dt : Nat := 0
    let s₀ : State := { up with spans := up.spans.set 0 { rx := { spare := none } } }
    let s := s₀.elapse dt
    let sp : Fin 12 := 0
    let lane : Fin 5 := 3
    let seen : Taps := { delay := 1 }
    let x := s.spans[sp]
    let n := x.bitErrors s.now (· == lane.val)
    let high := decide (x.laneBits < n * 10 ^ x.cfg.fecWarnExp.toNat)
    (x.eyeMoved lane seen || high) = false) ∧
    (let dt : Nat := 1000001000
    let s₀ : State := up
    let s := s₀.elapse dt
    let sp : Fin 12 := 0
    let x := s.spans[sp]
    x.cfg.calIntervalMs ≠ 0 ∧ s.fwExpired (x.rotatedAt + x.cfg.calIntervalMs.toNat * 1000000) = true) ∧
    (let dt : Nat := 4
    let s₀ : State := { up with spans := up.spans.set 0 { rotation := some ⟨0, 0, 4, 2, 0, 0⟩ } }
    let s := s₀.elapse dt
    let sp : Fin 12 := 0
    let r : Rotation := ⟨0, 0, 4, 2, 0, 0⟩
    s.spans[sp].rotation = some r ∧ s.cycExpired r.sweepEnd = true ∧ r.phase = 2) ∧
    (let dt : Nat := 4
    let s₀ : State := { up with spans := up.spans.set 0 { rotation := some ⟨0, 0, 4, 7, 0, 0⟩ } }
    let s := s₀.elapse dt
    let sp : Fin 12 := 0
    let r : Rotation := ⟨0, 0, 4, 7, 0, 0⟩
    s.spans[sp].rotation = some r ∧ s.cycExpired r.sweepEnd = true ∧ r.phase = 7) ∧
    (let dt : Nat := 0
    let s₀ : State := { up with spans := up.spans.set 0 { rotation := some ⟨0, 0, 4, 4, 0, 0⟩, cwRx := 1024 } }
    let s := s₀.elapse dt
    let sp : Fin 12 := 0
    let r : Rotation := ⟨0, 0, 4, 4, 0, 0⟩
    s.spans[sp].rotation = some r ∧ r.phase = 4 ∧ 1024 ≤ (s.spans[sp].cwRx - r.c1).toInt) ∧
    (let dt : Nat := 0
    let s₀ : State := { up with spans := up.spans.set 0 { rotation := some ⟨0, 0, 4, 5, 0, 0⟩, cwRx := 1088 } }
    let s := s₀.elapse dt
    let sp : Fin 12 := 0
    let r : Rotation := ⟨0, 0, 4, 5, 0, 0⟩
    s.spans[sp].rotation = some r ∧ r.phase = 5 ∧ 1088 ≤ (s.spans[sp].cwRx - r.c1).toInt) ∧
    (let dt : Nat := 0
    let s₀ : State := { up with spans := up.spans.set 0 { gapRx := some (.placed 0) } }
    let s := s₀.elapse dt
    let sp : Fin 12 := 0
    let cw : U32 := 0
    s.spans[sp].gapRx = some (.placed cw) ∧ 0 ≤ (s.spans[sp].cwRx - cw).toInt) ∧
    (let dt : Nat := 0
    let s₀ : State := { up with spans := up.spans.set 0 { gapTx := some (.placed 0) } }
    let s := s₀.elapse dt
    let sp : Fin 12 := 0
    let cw : U32 := 0
    s.spans[sp].gapTx = some (.placed cw) ∧ 0 ≤ (s.spans[sp].cwTx - cw).toInt) ∧
    (let dt : Nat := 8004
    let s₀ : State := { up with spans := up.spans.set 0 { gapRx := some (.open_ 0) } }
    let s := s₀.elapse dt
    let sp : Fin 12 := 0
    let t : Nat := 0
    s.spans[sp].gapRx = some (.open_ t) ∧ s.cycExpired (t + 8000) = true) ∧
    (let dt : Nat := 0
    let s₀ : State := { { up with spans := up.spans.set 0 { gapTx := some (.wait 0 false) } } with grid.frame := some 8 }
    let s := s₀.elapse dt
    let sp : Fin 12 := 0
    let f : U32 := 0
    (s.spans[sp].cfg.calGapWait.toNat : Int) ≤ sdiff32 (lastFrame s.grid.frame) f ∧ s.spans[sp].gapTx = some (.wait f false)) ∧
    (let dt : Nat := 0
    let s₀ : State := { { up with spans := up.spans.set 0 { gapRx := some (.wait 0 false) } } with grid.frame := some 8 }
    let s := s₀.elapse dt
    let sp : Fin 12 := 0
    let f : U32 := 0
    (s.spans[sp].cfg.calGapWait.toNat : Int) ≤ sdiff32 (lastFrame s.grid.frame) f ∧ s.spans[sp].gapTx = none ∧
    s.spans[sp].gapRx = some (.wait f false)) ∧
    (let dt : Nat := 0
    let s₀ : State := { up with spans := up.spans.set 0 { sleep := some (0, 0), st := 5 } }
    let s := s₀.elapse dt
    let sp : Fin 12 := 0
    let w : Nat := 0
    let g : Nat := 0
    s.spans[sp].sleep = some (w, g) ∧ s.spans[sp].st = 5 ∧ w ≤ s.full + g) ∧
    (let dt : Nat := 1000
    let s₀ : State := { up with spans := up.spans.set 0 { sleep := some (0, 0), st := 7 } }
    let s := s₀.elapse dt
    let sp : Fin 12 := 0
    let w : Nat := 0
    let g : Nat := 0
    s.spans[sp].sleep = some (w, g) ∧ s.spans[sp].st = 7 ∧ s.spans[sp].alignSeen = false ∧
    s.fwExpired (s.spans[sp].wokeAt + 4 * g) = true) ∧
    (let dt : Nat := 2001000
    let s₀ : State := { up with sh.active := some { img with routes := [{ rt0 with kind := 1 }] } }
    let s := s₀.elapse dt
    let sp : Fin 12 := 0
    s.downTooLong sp = true) ∧
    (let dt : Nat := 1000001000
    let s₀ : State := { up with spans := up.spans.set 1 { healthFail := true } }
    let s := s₀.elapse dt
    let sp : Fin 12 := 1
    s.spans[sp].healthFail = true ∧ s.downTooLong sp = false ∧ s.fwExpired (s.spans[sp].healthAt + 1000000000) = true) := by
  refine ⟨?_, ?_, ?_, ?_, ?_, ?_, ?_, ?_, ?_, ?_, ?_, ?_, ?_, ?_, ?_, ?_⟩ <;> decide +kernel

theorem witness_LaneControlComplete :
    (let dt : Nat := 0
    let s₀ : State := { { up with spans := up.spans.set 0 {  } } with links := up.links.set 0 { st := 2 } }
    let s := s₀.elapse dt
    let sp : Fin 12 := 0
    let m : LaneCtl := ⟨0, 4, 0, 0, 0, 0, 0⟩
    let x := s.spans[sp]
    s.links[sp].st = 2 ∧ x.sleepDue = false ∧ x.gapTx = none ∧ x.txPhase = 0 ∧ x.tx.spare = some m.physical.toNat ∧
    x.spareDriven = false) ∧
    (let dt : Nat := 0
    let s₀ : State := { { up with spans := up.spans.set 0 { txPhase := 1 } } with links := up.links.set 0 { st := 2 } }
    let s := s₀.elapse dt
    let sp : Fin 12 := 0
    let m : LaneCtl := ⟨3, 4, 0, 0, 0, 0, 0⟩
    let x := s.spans[sp]
    s.links[sp].st = 2 ∧ x.sleepDue = false ∧ x.gapTx = none ∧ x.txPhase = 1 ∧ m.logical.toNat < 4) ∧
    (let dt : Nat := 0
    let s₀ : State := { { up with spans := up.spans.set 0 { txPhase := 2, txDup := some (3,
                                                                                         0) } } with links := up.links.set 0 { st := 2 } }
    let s := s₀.elapse dt
    let sp : Fin 12 := 0
    let x := s.spans[sp]
    let j := (3 : Nat)
    let c := (0 : U32)
    let k := (4 : Nat)
    s.links[sp].st = 2 ∧ x.sleepDue = false ∧ x.gapTx = none ∧ x.txPhase = 2 ∧ x.txDup = some (j, c) ∧ x.tx.spare = some k) ∧
    (let dt : Nat := 0
    let s₀ : State := { { up with spans := up.spans.set 0 {  } } with links := up.links.set 0 { st := 2 } }
    let s := s₀.elapse dt
    let sp : Fin 12 := 0
    let x := s.spans[sp]
    s.links[sp].st = 2 ∧ x.sleepDue = false ∧ x.gapTx = none) ∧
    (let dt : Nat := 0
    let s₀ : State := { { up with spans := up.spans.set 0 {  } } with links := up.links.set 0 { st := 2 } }
    let s := s₀.elapse dt
    let sp : Fin 12 := 0
    let m : LaneCtl := ⟨3, 4, 0, 0, 0, 0, 0⟩
    let x := s.spans[sp]
    s.links[sp].st = 2 ∧ x.sleepDue = false ∧ x.gapTx = none ∧ m.logical.toNat < 4 ∧ x.tx.spare = some m.physical.toNat) ∧
    (let dt : Nat := 0
    let s₀ : State := { { up with spans := up.spans.set 0 {  } } with links := up.links.set 0 { st := 2 } }
    let s := s₀.elapse dt
    let sp : Fin 12 := 0
    let x := s.spans[sp]
    s.links[sp].st = 2 ∧ x.sleepDue = false ∧ x.gapTx = none ∧ x.txPhase = 0) ∧
    (let dt : Nat := 0
    let s₀ : State := { { up with spans := up.spans.set 0 {  } } with links := up.links.set 0 { st := 2 } }
    let s := s₀.elapse dt
    let sp : Fin 12 := 0
    let x := s.spans[sp]
    s.links[sp].st = 2 ∧ x.sleepDue = false ∧ x.gapTx = none ∧ x.rotation = none ∧ x.gapRx = none ∧ x.txPhase = 0 ∧
    (∀ c ∈ x.ctl, c.op ≠ 7)) ∧
    (let dt : Nat := 0
    let s₀ : State := { { up with spans := up.spans.set 0 { ctl := some ⟨4, ⟨0, 4, 0, 0, 0, 0, 0⟩, 0,
                                                                         false⟩ } } with links := up.links.set 0 { st := 2 } }
    let s := s₀.elapse dt
    let sp : Fin 12 := 0
    let m : LaneCtl := ⟨0, 4, 0, 0, 0, 0, 0⟩
    let c : CtlReq := ⟨4, ⟨0, 4, 0, 0, 0, 0, 0⟩, 0, false⟩
    s.links[sp].st = 2 ∧ s.spans[sp].ctl = some c ∧ c.msg.tag = m.tag ∧ c.op = 4) ∧
    (let dt : Nat := 0
    let s₀ : State := { { up with spans := up.spans.set 0 { ctl := some ⟨5, ⟨0, 4, 0, 0, 0, 0, 0⟩, 0,
                                                                         false⟩ } } with links := up.links.set 0 { st := 2 } }
    let s := s₀.elapse dt
    let sp : Fin 12 := 0
    let m : LaneCtl := ⟨0, 4, 0, 0, 0, 0, 0⟩
    let c : CtlReq := ⟨5, ⟨0, 4, 0, 0, 0, 0, 0⟩, 0, false⟩
    s.links[sp].st = 2 ∧ s.spans[sp].ctl = some c ∧ c.msg.tag = m.tag ∧ c.op = 5) ∧
    (let dt : Nat := 0
    let s₀ : State := { { up with spans := up.spans.set 0 { ctl := some ⟨6, ⟨0, 4, 0, 0, 0, 0, 0⟩, 0,
                                                                         false⟩ } } with links := up.links.set 0 { st := 2 } }
    let s := s₀.elapse dt
    let sp : Fin 12 := 0
    let m : LaneCtl := ⟨0, 4, 0, 0, 0, 0, 0⟩
    let c : CtlReq := ⟨6, ⟨0, 4, 0, 0, 0, 0, 0⟩, 0, false⟩
    s.links[sp].st = 2 ∧ s.spans[sp].ctl = some c ∧ c.msg.tag = m.tag ∧ c.op = 6 ∧ m.startCw ≠ 0xFFFFFFFF) ∧
    (let dt : Nat := 0
    let s₀ : State := { { up with spans := up.spans.set 0 { ctl := some ⟨7, ⟨0, 4, 0, 0, 0, 0, 0⟩, 0,
                                                                         false⟩ } } with links := up.links.set 0 { st := 2 } }
    let s := s₀.elapse dt
    let sp : Fin 12 := 0
    let m : LaneCtl := ⟨0, 4, 0, 0, 0, 0, 0⟩
    let c : CtlReq := ⟨7, ⟨0, 4, 0, 0, 0, 0, 0⟩, 0, false⟩
    s.links[sp].st = 2 ∧ s.spans[sp].ctl = some c ∧ c.msg.tag = m.tag ∧ c.op = 7) ∧
    (let dt : Nat := 0
    let s₀ : State := { { up with spans := up.spans.set 0 { ctl := some ⟨3, ⟨0, 4, 0, 0, 0, 0, 0⟩, 0, false⟩,
                                                            rotation := some ⟨0, 0, 4, 6, 0,
                                                                              0⟩ } } with links := up.links.set 0 { st := 2 } }
    let s := s₀.elapse dt
    let sp : Fin 12 := 0
    let m : LaneCtl := ⟨0, 4, 0, 0, 0, 0, 0⟩
    let c : CtlReq := ⟨3, ⟨0, 4, 0, 0, 0, 0, 0⟩, 0, false⟩
    let r := (⟨0, 0, 4, 6, 0, 0⟩ : Rotation)
    s.links[sp].st = 2 ∧ s.spans[sp].ctl = some c ∧ c.msg.tag = m.tag ∧ c.op < 4 ∧ s.spans[sp].rotation = some r) ∧
    (let dt : Nat := 0
    let s₀ : State := { { up with spans := up.spans.set 0 { ctl := some ⟨6, ⟨0, 4, 0, 0, 0, 0, 0⟩, 0,
                                                                         false⟩ } } with links := up.links.set 0 { st := 2 } }
    let s := s₀.elapse dt
    let sp : Fin 12 := 0
    let m : LaneCtl := ⟨0, 4, 0, 0, 0, 0, 0⟩
    let c : CtlReq := ⟨6, ⟨0, 4, 0, 0, 0, 0, 0⟩, 0, false⟩
    s.links[sp].st = 2 ∧ s.spans[sp].ctl = some c ∧ c.msg.tag = m.tag) ∧
    (let dt : Nat := 20004
    let s₀ : State := { { up with spans := up.spans.set 0 { ctl := some ⟨6, ⟨0, 4, 0, 0, 0, 0, 0⟩, 0,
                                                                         false⟩ } } with links := up.links.set 0 { st := 2 } }
    let s := s₀.elapse dt
    let sp : Fin 12 := 0
    let c : CtlReq := ⟨6, ⟨0, 4, 0, 0, 0, 0, 0⟩, 0, false⟩
    s.spans[sp].ctl = some c ∧ s.cycExpired (c.sentAt + 20000) = true ∧ c.again = false) ∧
    (let dt : Nat := 20004
    let s₀ : State := { { up with spans := up.spans.set 0 { ctl := some ⟨6, ⟨0, 4, 0, 0, 0, 0, 0⟩, 0,
                                                                         true⟩ } } with links := up.links.set 0 { st := 2 } }
    let s := s₀.elapse dt
    let sp : Fin 12 := 0
    let c : CtlReq := ⟨6, ⟨0, 4, 0, 0, 0, 0, 0⟩, 0, true⟩
    s.spans[sp].ctl = some c ∧ s.cycExpired (c.sentAt + 20000) = true ∧ c.again = true) := by
  refine ⟨?_, ?_, ?_, ?_, ?_, ?_, ?_, ?_, ?_, ?_, ?_, ?_, ?_, ?_, ?_⟩ <;> decide +kernel

theorem witness_SpanCommandsComplete :
    (let q := Req.mk0 (pay 16 [(0, 11), (1, 2), (2, 64), (3, 31), (6, 16), (7, 1), (8, 100), (10, 1), (12, 12)])
    let s₀ : State := asking opSpanSet q up
    let c := spanCfg q.payload
    Takes opSpanSet 16 q s₀ ∧ (p8 q.payload 0).toNat < 12 ∧ c.mode ≤ 2 ∧ 1000 ≤ c.rateMbd.toNat ∧ c.rateMbd.toNat ≤ 8000 ∧
    c.rateMbd.toNat % 125 = 0 ∧ (c.calIntervalMs = 0 ∨ 100 ≤ c.calIntervalMs.toNat ∧ c.calIntervalMs.toNat ≤ 60000) ∧
    1 ≤ c.calTrim.toNat ∧ c.calTrim.toNat ≤ 16 ∧ 1 ≤ c.calGapWait.toNat ∧ 100 ≤ c.healthDownUs.toNat ∧
    c.healthDownUs.toNat ≤ 60000 ∧ 1 ≤ c.healthUe.toNat ∧ 4 ≤ c.fecWarnExp.toNat ∧ c.fecWarnExp.toNat ≤ 12) ∧
    (let q := Req.mk0 (pay 1 [(0, 11)])
    let s₀ : State := asking opSpanStatus q up
    let sp : Fin 12 := 11
    Takes opSpanStatus 1 q s₀ ∧ (p8 q.payload 0).toNat = sp.val) ∧
    (let q := Req.mk0 (pay 2 [(0, 11), (1, 4)])
    let s₀ : State := asking opLaneStatus q up
    let sp : Fin 12 := 11
    let p : Fin 5 := 4
    Takes opLaneStatus 2 q s₀ ∧ (p8 q.payload 0).toNat = sp.val ∧ (p8 q.payload 1).toNat = p.val) ∧
    (let q := Req.mk0 (pay 1 [(0, 11)])
    let s₀ : State := asking opSpanTrain q up
    let s := s₀.elapse q.dt
    let sp : Fin 12 := 11
    let d := s.linkDown sp 8
    Takes opSpanTrain 1 q s₀ ∧ (p8 q.payload 0).toNat = sp.val ∧ d.spans[sp].cfg.mode = 1) ∧
    (let q := Req.mk0 (pay 1 [(0, 11)])
    let s₀ : State := asking opSpanTrain q ({ up with spans := up.spans.set 11 { cfg := { mode := 2 } } })
    let s := s₀.elapse q.dt
    let sp : Fin 12 := 11
    let d := s.linkDown sp 8
    Takes opSpanTrain 1 q s₀ ∧ (p8 q.payload 0).toNat = sp.val ∧ d.spans[sp].cfg.mode ≠ 1) ∧
    (let q := Req.mk0 (pay 2 [(1, 3)])
    let s₀ : State := asking opSpanCal q ({ { up with spans := up.spans.set 0 {  } } with links := up.links.set 0 { st := 2 } })
    let s := s₀.elapse q.dt
    let sp : Fin 12 := 0
    let j := p8 q.payload 1
    let x := s.spans[sp]
    Takes opSpanCal 2 q s₀ ∧ (p8 q.payload 0).toNat = sp.val ∧ (j.toNat < 4 ∨ j = 0xFF) ∧ s.links[sp].st = 2 ∧
    x.calBusy = false ∧ x.rx.spare.isSome = true) ∧
    (let q := Req.mk0 (pay 2 [(1, 3)])
    let s₀ : State := asking opSpanCal q ({ { up with spans := up.spans.set 0 { rx :=
                                                                                { spare := none } } } with links := up.links.set 0 { st := 2 } })
    let s := s₀.elapse q.dt
    let sp : Fin 12 := 0
    let j := p8 q.payload 1
    let x := s.spans[sp]
    Takes opSpanCal 2 q s₀ ∧ (p8 q.payload 0).toNat = sp.val ∧ (j.toNat < 4 ∨ j = 0xFF) ∧ s.links[sp].st = 2 ∧
    x.calBusy = false ∧ x.rx.spare = none) ∧
    (let q := Req.mk0 (pay 4 [(1, 4), (2, 68)])
    let s₀ : State := asking opPrbsSet q ({ up with spans := up.spans.set 0 { cfg := { mode := 2 } } })
    let s := s₀.elapse q.dt
    let sp : Fin 12 := 0
    let p : Fin 5 := 4
    let g := pbits q.payload 2 0 4
    let c := pbits q.payload 2 4 4
    Takes opPrbsSet 4 q s₀ ∧ (p8 q.payload 0).toNat = sp.val ∧ (p8 q.payload 1).toNat = p.val ∧ g ≤ 4 ∧ c ≤ 4 ∧
    s.prbsAllowed sp p (g != 0) (c != 0) = true) ∧
    (let q := Req.mk0 (pay 3 [(1, 4)])
    let s₀ : State := asking opPrbsRead q up
    let sp : Fin 12 := 0
    let p : Fin 5 := 4
    Takes opPrbsRead 3 q s₀ ∧ (p8 q.payload 0).toNat = sp.val ∧ (p8 q.payload 1).toNat = p.val) ∧
    (let q := Req.mk0 (pay 12 [(6, 1), (8, 1)])
    let s₀ : State := asking opErrorInject q up
    let sp : Fin 12 := 0
    let p : Fin 5 := 0
    let burst := pbit q.payload 2 1
    let len := rd q.payload 4 2
    Takes opErrorInject 12 q s₀ ∧ (p8 q.payload 0).toNat = sp.val ∧ (p8 q.payload 1).toNat = p.val ∧
    (burst = true → 2 ≤ len ∧ len ≤ 256) ∧ 1 ≤ rd q.payload 8 4) ∧
    (let q := Req.mk0 (pay 4 [(1, 4), (2, 1)])
    let s₀ : State := asking opBitSlip q ({ up with spans := up.spans.set 0 { cfg := { mode := 2 } } })
    let s := s₀.elapse q.dt
    let sp : Fin 12 := 0
    let p : Fin 5 := 4
    Takes opBitSlip 4 q s₀ ∧ (p8 q.payload 0).toNat = sp.val ∧ (p8 q.payload 1).toNat = p.val ∧ s.spans[sp].cfg.mode = 2 ∧
    1 ≤ (p8 q.payload 2).toNat) ∧
    (let q := Req.mk0 (pay 8 [(1, 4), (2, 15), (3, 255), (4, 128), (5, 128), (6, 128)])
    let s₀ : State := asking opLaneTapsSet q ({ up with spans := up.spans.set 0 { cfg := { mode := 2 } } })
    let s := s₀.elapse q.dt
    let sp : Fin 12 := 0
    let p : Fin 5 := 4
    let pk := (p8 q.payload 2).toNat
    let dl := (p8 q.payload 3).toNat
    let th := fun i => (p8 q.payload (4 + i)).toInt
    Takes opLaneTapsSet 8 q s₀ ∧ (p8 q.payload 0).toNat = sp.val ∧ (p8 q.payload 1).toNat = p.val ∧
    s.spans[sp].cfg.mode = 2 ∧ (pk = 0xFF ∨ pk ≤ 15) ∧ (dl = 0xFF ∨ dl ≤ 63) ∧
    (∀ i < 3, th i = -128 ∨ -32 ≤ th i ∧ th i ≤ 31)) ∧
    (let q := Req.mk0 (pay 20 [(2, 244), (3, 1), (4, 1)])
    let s₀ : State := asking opSpanSleep q ({ { up with spans := up.spans.set 0 {  } } with links := up.links.set 0 { st := 2 } })
    let s := s₀.elapse q.dt
    let n := (p8 q.payload 0).toNat
    let g := rd q.payload 2 2
    let w := rd q.payload 4 6 * 1000000000 + rd q.payload 12 4
    let sps := s.sleepSpans n
    Takes opSpanSleep 20 q s₀ ∧ (n < 12 ∨ n = 0xFF) ∧ 500 ≤ g ∧ g ≤ 50000 ∧ rd q.payload 12 4 ≤ 999999999 ∧ sps ≠ [] ∧
    (∀ sp ∈ sps, s.links[sp].st = 2 ∧ s.spans[sp].calBusy = false) ∧ s.full + 10000000 + g * 1000 ≤ w) := by
  refine ⟨?_, ?_, ?_, ?_, ?_, ?_, ?_, ?_, ?_, ?_, ?_, ?_, ?_⟩ <;> decide +kernel

theorem witness_PortCommandsComplete :
    (let q := Req.mk0 (pay 44 [(0, 31), (1, 5), (2, 92), (4, 12), (11, 8), (12, 232), (13, 3), (16, 4), (18, 50), (20, 100),
                               (24, 36), (25, 244), (28, 1)])
    let s₀ : State := asking opPortSet q up
    let s := s₀.elapse q.dt
    let n := (p8 q.payload 0).toNat
    let c := pairCfg q.payload
    Takes opPortSet 44 q s₀ ∧ n < 32 ∧ c.ok = true ∧ (s.mb.spi = true → n < 29) ∧
    (c.mode = 0 ∨ s.bankUp (pairOf (2 * n)) = true)) ∧
    (let q := Req.mk0 (pay 1 [(0, 31)])
    let s₀ : State := asking opPortStatus q up
    let p : Fin 32 := 31
    Takes opPortStatus 1 q s₀ ∧ (p8 q.payload 0).toNat = p.val) ∧
    (let q := Req.mk0 (pay 16 [(0, 255), (1, 3), (2, 2), (3, 31), (4, 1), (8, 100), (10, 50)])
    let s₀ : State := asking opInputSet q up
    let n := rd q.payload 0 2
    let c := inputCfg q.payload
    Takes opInputSet 16 q s₀ ∧ n < 1024 ∧
    (c.kind = 0 ∨ c.kind = 1 ∧ c.source.toNat < 16 ∨ c.kind = 2 ∧ c.source.toNat < 32) ∧ 1 ≤ c.uni.toNat ∧
    c.uni.toNat ≤ 63999 ∧ 100 ≤ c.lossMs.toNat ∧ c.lossMs.toNat ≤ 10000 ∧ 50 ≤ c.idleUs.toNat ∧ c.idleUs.toNat ≤ 10000) ∧
    (let q := Req.mk0 (pay 6 [(0, 255), (1, 3), (5, 2)])
    let s₀ : State := asking opInputRead q up
    let n := rd q.payload 0 2
    let first := rd q.payload 2 2
    let c := rd q.payload 4 2
    Takes opInputRead 6 q s₀ ∧ n < 1024 ∧ 1 ≤ c ∧ c ≤ 512 ∧ first + c ≤ 512) ∧
    (let q := Req.mk0 (pay 104 [(0, 3), (2, 200)])
    let s₀ : State := asking opSacnSet q up
    let p := q.payload
    Takes opSacnSet 104 q s₀ ∧ (p8 p 0).toNat < 4 ∧ (p8 p 2).toNat ≤ 200 ∧ rd p 4 2 ≤ 63999 ∧ rd p 6 2 ≤ 10000 ∧
    rd p 8 2 ≤ 20000) ∧
    (let q := Req.mk0 (pay 1 [(0, 3)])
    let s₀ : State := asking opSacnStatus q up
    let n : Fin 4 := 3
    Takes opSacnStatus 1 q s₀ ∧ (p8 q.payload 0).toNat = n.val) ∧
    (let q := Req.mk0 (pay 2 [])
    let s₀ : State := asking opRdmDiscover q ({ lit with ports.pair := up.ports.pair.set 0 { cfg := { mode := 1, rdmEn := true } } })
    let s := s₀.elapse q.dt
    let p : Fin 32 := 0
    Takes opRdmDiscover 2 q s₀ ∧ (p8 q.payload 0).toNat = p.val ∧ s.rdmStandby = false ∧ s.ports.pair[p].rdmOn = true ∧
    s.ports.pair[p].disc = none) ∧
    (let q := Req.mk0 (pay 4 [])
    let s₀ : State := asking opRdmUidRead q ({ lit with ports.pair := up.ports.pair.set 0 { uids := [1] } })
    let s := s₀.elapse q.dt
    let p : Fin 32 := 0
    let u : Nat := 1
    Takes opRdmUidRead 4 q s₀ ∧ (p8 q.payload 0).toNat = p.val ∧ s.ports.pair[p].uids[rd q.payload 2 2]? = some u) ∧
    (let q := Req.mk0 (pay 17 [(1, 32)])
    let s₀ : State := asking opRdmRequest q ({ lit with ports.pair := up.ports.pair.set 0 { cfg := { mode := 1, rdmEn := true } } })
    let s := s₀.elapse q.dt
    let k : Fin 32 := 0
    let p := q.payload
    let n := (p8 p 16).toNat
    Takes opRdmRequest (17 + (p8 q.payload 16).toNat) q s₀ ∧ (p8 p 0).toNat = k.val ∧ (p8 p 1 = 0x20 ∨ p8 p 1 = 0x30) ∧
    n ≤ 231 ∧ s.rdmStandby = false ∧ s.ports.pair[k].rdmOn = true) ∧
    (let q := Req.mk0 (pay 4 [])
    let s₀ : State := asking opRdmResultRead q ({ up with ports.results := [(0, ⟨0, 0, []⟩)] })
    let s := s₀.elapse q.dt
    let r := (0, ⟨0, 0, []⟩)
    Takes opRdmResultRead 4 q s₀ ∧ s.ports.results.find? (·.1 == p32 q.payload 0) = some r) := by
  refine ⟨?_, ?_, ?_, ?_, ?_, ?_, ?_, ?_, ?_, ?_⟩ <;> decide +kernel

theorem witness_PortEventsComplete :
    (let dt : Nat := 100000000
    let s₀ : State := { { lit with ports.pair := up.ports.pair.set 0 { cfg := { mode := 1 } } } with grid.st := 2, grid.cur := some 0, tre.latchAt := [(0, 0)], tre.packed := [{ frame := 0, route := 0, slots := [] }], sh.active := some { img with routes := [{ rt0 with kind := 2 }] } }
    let s := s₀.elapse dt
    let p : Fin 32 := 0
    let route : Nat := 0
    let r : Route := { rt0 with kind := 2 }
    let y := s.ports.pair[p]
    let ns := (s.portXD r).1
    let x : Due := (s.portDue route r ns y.sent).getD ⟨0, [], false⟩
    s.pairIn p 1 = true ∧ s.dmxRoute p = some (route, r) ∧ y.lineFree s.now = true ∧ s.grid.stopped = false ∧
    s.portDue route r ns y.sent = some x) ∧
    (let dt : Nat := 100000000
    let s₀ : State := { { lit with ports.pair := up.ports.pair.set 0 { cfg :=
                                                                       { mode := 1 } } } with sh.active := some { img with routes := [{ rt0 with kind := 2 }] }, grid.tickIdx := 0 }
    let s := s₀.elapse dt
    let p : Fin 32 := 0
    let route : Nat := 0
    let r : Route := { rt0 with kind := 2 }
    let y := s.ports.pair[p]
    let ns := (s.portXD r).1
    s.pairIn p 1 = true ∧ s.dmxRoute p = some (route, r) ∧ y.lineFree s.now = true ∧ s.grid.stopped = true ∧
    s.grid.idleBoundary % (s.grid.v.divider ns : Int) = 0 ∧ y.idleAt ≠ s.grid.idleBoundary ∧ s.grid.st ≠ 2) ∧
    (let dt : Nat := 0
    let s₀ : State := { lit with ports.pair := up.ports.pair.set 0 { cfg := { mode := 1, rdmEn := true },
                                                                     queue := [{ use := .unmute }] } }
    let s := s₀.elapse dt
    let p : Fin 32 := 0
    let q : RdmReq := { use := .unmute }
    let pr := s.ports.pair[p]
    s.pairIn p 1 = true ∧ pr.cfg.rdmEn = true ∧ s.rdmStandby = false ∧ pr.rdm = none ∧ pr.idleFrom ≤ s.now ∧
    (pr.tx.any fun t => t.busy s.now) = false ∧ pr.queue.find? (fun q => decide (q.notBefore ≤ s.now)) = some q ∧
    (s.nextBreak p = none ∨ ∃ b, s.nextBreak p = some b ∧
     (s.full : Int) + (pr.cfg.requestNs q + 2800000 + q.responseNs : Nat) + 12000 ≤ b)) ∧
    (let dt : Nat := 0
    let s₀ : State := { lit with ports.pair := up.ports.pair.set 0 { rdm := some ({ use := .unmute }, 0) } }
    let s := s₀.elapse dt
    let p : Fin 32 := 0
    let q : RdmReq := { use := .unmute }
    let e : Nat := 0
    s.ports.pair[p].rdm = some (q, e)) ∧
    (let dt : Nat := 0
    let s₀ : State := { lit with ports.pair := up.ports.pair.set 0 { rdm := some ({ use := .unmute }, 0) } }
    let s := s₀.elapse dt
    let p : Fin 32 := 0
    let q : RdmReq := { use := .unmute }
    let e : Nat := 0
    s.ports.pair[p].rdm = some (q, e)) ∧
    (let dt : Nat := 2800004
    let s₀ : State := { lit with ports.pair := up.ports.pair.set 0 { rdm := some ({ use := .unmute }, 0) } }
    let s := s₀.elapse dt
    let p : Fin 32 := 0
    let q : RdmReq := { use := .unmute }
    let e : Nat := 0
    s.ports.pair[p].rdm = some (q, e) ∧ s.cycExpired (e + 2800000) = true ∧ q.again = false) ∧
    (let dt : Nat := 2800004
    let s₀ : State := { lit with ports.pair := up.ports.pair.set 0 { rdm := some ({ use := .unmute, again := true }, 0) } }
    let s := s₀.elapse dt
    let p : Fin 32 := 0
    let q : RdmReq := { use := .unmute, again := true }
    let e : Nat := 0
    s.ports.pair[p].rdm = some (q, e) ∧ s.cycExpired (e + 2800000) = true ∧ q.again = true) ∧
    (let dt : Nat := 600000001000
    let s₀ : State := { lit with ports.pair := up.ports.pair.set 0 { cfg := { mode := 1, rdmEn := true } } }
    let s := s₀.elapse dt
    let p : Fin 32 := 0
    let x := s.ports.pair[p]
    x.rdmOn = true ∧ x.cfg.discoveryS ≠ 0 ∧ x.disc = none ∧ s.rdmStandby = false ∧
    s.fwExpired (x.discAt.getD 0 + x.cfg.discoveryS.toNat * 1000000000) = true) ∧
    (let dt : Nat := 100000000
    let s₀ : State := { { lit with ports.pair := up.ports.pair.set 0 { cfg := { mode := 3 } } } with grid.st := 2, grid.cur := some 0, tre.latchAt := [(0, 0)], tre.packed := [{ frame := 0, route := 0, slots := [] }], sh.active := some { img with routes := [{ rt0 with kind := 4 }] } }
    let s := s₀.elapse dt
    let pin : Fin 64 := 0
    let mode : U8 := 3
    let route : Nat := 0
    let r : Route := { rt0 with kind := 4 }
    let u : Due := (s.portDue route r (s.grid.v.divider (s.portXD r).1) s.ports.strFrame[pin]).getD ⟨0, [], false⟩
    let ns := (s.portXD r).1
    let stop := s.ports.strStop[pin]
    s.pairIn (pairOf pin.val) mode = true ∧ s.grid.stopped = false ∧ s.stringRoute pin.val = some (route, r) ∧
    s.portDue route r ns s.ports.strFrame[pin] = some u ∧ stop + (if stop = 0 then 0 else 12000) ≤ s.now ∧ mode = 3) ∧
    (let dt : Nat := 100000000
    let s₀ : State := { { lit with ports.pair := up.ports.pair.set 0 { cfg := { mode := 4 } } } with grid.st := 2, grid.cur := some 0, tre.latchAt := [(0, 0)], tre.packed := [{ frame := 0, route := 0, slots := [] }], sh.active := some { img with routes := [{ rt0 with kind := 4 }] } }
    let s := s₀.elapse dt
    let pin : Fin 64 := 0
    let mode : U8 := 4
    let route : Nat := 0
    let r : Route := { rt0 with kind := 4 }
    let u : Due := (s.portDue route r (s.grid.v.divider (s.portXD r).1) s.ports.strFrame[pin]).getD ⟨0, [], false⟩
    let ns := (s.portXD r).1
    let stop := s.ports.strStop[pin]
    s.pairIn (pairOf pin.val) mode = true ∧ s.grid.stopped = false ∧ s.stringRoute pin.val = some (route, r) ∧
    s.portDue route r ns s.ports.strFrame[pin] = some u ∧ stop + (if stop = 0 then 0 else 12000) ≤ s.now ∧ mode = 4 ∧
    pin.val % 2 = 0) ∧
    (let dt : Nat := 100000000
    let s₀ : State := { { lit with ports.pair := up.ports.pair.set 0 { cfg :=
                                                                       { mode := 3 } } } with ports.strHouse := up.ports.strHouse.set 0 true, sh.active := some { img with routes := [{ rt0 with kind := 4 }] } }
    let s := s₀.elapse dt
    let pin : Fin 64 := 0
    let mode : U8 := 3
    let route : Nat := 0
    let r : Route := { rt0 with kind := 4 }
    let ns := (s.portXD r).1
    s.pairIn (pairOf pin.val) mode = true ∧ s.stringRoute pin.val = some (route, r) ∧
    (s.grid.stopped = true ∨ s.portDue route r ns s.ports.strFrame[pin] = none) ∧ s.ports.strHouse[pin] = true ∧
    s.ports.strStop[pin] ≤ s.now ∧ mode = 3) ∧
    (let dt : Nat := 100000000
    let s₀ : State := { { lit with ports.pair := up.ports.pair.set 0 { cfg :=
                                                                       { mode := 4 } } } with ports.strHouse := up.ports.strHouse.set 0 true, sh.active := some { img with routes := [{ rt0 with kind := 4 }] } }
    let s := s₀.elapse dt
    let pin : Fin 64 := 0
    let mode : U8 := 4
    let route : Nat := 0
    let r : Route := { rt0 with kind := 4 }
    let ns := (s.portXD r).1
    s.pairIn (pairOf pin.val) mode = true ∧ s.stringRoute pin.val = some (route, r) ∧
    (s.grid.stopped = true ∨ s.portDue route r ns s.ports.strFrame[pin] = none) ∧ s.ports.strHouse[pin] = true ∧
    s.ports.strStop[pin] ≤ s.now ∧ mode = 4 ∧ pin.val % 2 = 0) ∧
    (let dt : Nat := 0
    let s₀ : State := { lit with ports.pair := up.ports.pair.set 0 { cfg := { mode := 5 } } }
    let s := s₀.elapse dt
    let pin : Fin 64 := 1
    let k : Nat := 0
    let c := s.ports.pair[pairOf pin.val].cfg
    s.pairIn (pairOf pin.val) 5 = true ∧ s.subSlotNow c (pin.val % 2 == 1) = some k) ∧
    (let dt : Nat := 100000000
    let s₀ : State := { { lit with ports.pair := up.ports.pair.set 0 { cfg := { mode := 0 } } } with grid.st := 2, grid.cur := some 0, tre.latchAt := [(0, 0)], tre.packed := [{ frame := 0, route := 0, slots := [] }], sh.active := some { img with routes := [{ rt0 with kind := 3 }] } }
    let s := s₀.elapse dt
    let n : Fin 4 := 0
    let r : Nat × Route := (0, { rt0 with kind := 3 })
    let rs : List (Nat × Route) := []
    let m : U32 := 0
    let late : Bool := ((s.sacnDue n r.1 r.2).getD (0, false)).2
    s.sacnRoutes n = r :: rs ∧ s.grid.stopped = false ∧ s.sacnDue n r.1 r.2 = some (m, late) ∧ s.sacnHolds m = true) ∧
    (let dt : Nat := 100000000
    let s₀ : State := { lit with sh.active := some { img with routes := [{ rt0 with kind := 3 }] }, pier.heldAtStop := true,
                                 grid.tickIdx := 0 }
    let s := s₀.elapse dt
    let n : Fin 4 := 0
    let r : Nat × Route := (0, { rt0 with kind := 3 })
    let rs : List (Nat × Route) := []
    let x := s.ports.sacn[n]
    s.sacnRoutes n = r :: rs ∧ s.grid.stopped = true ∧ x.idleAt ≠ s.grid.idleBoundary ∧ s.sacnHolds 0 = true) ∧
    (let dt : Nat := 100000000
    let s₀ : State := { { lit with ports.pair := up.ports.pair.set 0 { cfg := { mode := 0 } } } with grid.st := 2, grid.cur := some 0, tre.latchAt := [(0, 0)], tre.packed := [{ frame := 0, route := 0, slots := [] }], sh.active := some { img with routes := [{ rt0 with kind := 3 }] }, ports.sacn := up.ports.sacn.set 0 { lastFrame := some 0, cfg := { syncUniverse := 1 } } }
    let s := s₀.elapse dt
    let n : Fin 4 := 0
    let r : Nat × Route := (0, { rt0 with kind := 3 })
    let rs : List (Nat × Route) := []
    let m : U32 := 0
    let l : U32 × Nat := (0, 0)
    let x := s.ports.sacn[n]
    let at_ := s.sacnSyncAt n r.1 m
    x.lastFrame = some m ∧ s.sacnRoutes n = r :: rs ∧ s.tre.latchAt.find? (·.1 == m) = some l ∧ x.cfg.syncUniverse ≠ 0 ∧
    x.lastSync ≠ some m ∧ at_ ≤ (s.full : Int) ∧ s.grid.stopped = false ∧ s.sacnHolds m = true) ∧
    (let dt : Nat := 0
    let s₀ : State := up
    let s := s₀.elapse dt
    let n : Fin 4 := 3
    let x := s.ports.sacn[n]
    x.cfg.discoveryEn = true ∧ (∀ t ∈ x.discoveredAt, s.fwExpired (t + 10000000000) = true) ∧
    s.sacnHolds s.grid.nextPresent = true) := by
  refine ⟨?_, ?_, ?_, ?_, ?_, ?_, ?_, ?_, ?_, ?_, ?_, ?_, ?_, ?_, ?_, ?_, ?_⟩ <;> decide +kernel

theorem witness_PortEventsComplete_5 :
    (let dt : Nat := 0
    let s₀ : State := { lit with ports.pair := up.ports.pair.set 0 { rdm := some ({ use := .unmute }, 0) } }
    let s := s₀.elapse dt
    let p : Fin 32 := 0
    let q : RdmReq := { use := .unmute }
    let e : Nat := 0
    let r := (.garbled : RdmResp)
    s.ports.pair[p].rdm = some (q, e) ∧ (∀ ns, r ≠ .timer ns) ∧ (∀ d, r ≠ .overflow d)) := by
  exact ⟨by decide +kernel, nofun, nofun⟩

theorem witness_PortEventsComplete_9 :
    (let dt : Nat := 0
    let s₀ : State := { { lit with ports.pair := up.ports.pair.set 0 { cfg := { mode := 1,
                                                                                rdmEn := true } } } with sh.active := some { img with routes := [{ rt0 with kind := 2 }], fixtures := [{ fix with rdmUid := 1, sensor := 0 }] } }
    let s := s₀.elapse dt
    let p : Fin 32 := 0
    let e : Nat × Fixture := (0, { fix with rdmUid := 1, sensor := 0 })
    let x := s.ports.pair[p]
    let due := (s.rdmFixtures p).filter fun e => !x.badSensor.contains e.1 &&
        (match x.polled.find? (·.1 == e.1) with | none => true | some y => decide ((x.cfg.pollFrames.toNat : Int) ≤ sdiff32 (lastFrame s.grid.frame) y.2))
    x.rdmOn = true ∧ s.rdmStandby = false ∧ x.reading = [] ∧ x.disc = none ∧ (∀ q ∈ x.queue, ∀ fi i, q.use ≠ .value fi i) ∧
    (due.find? fun e => decide ((x.polled.head?.map (·.1)).getD 0 < e.1)).or due.head? = some e) := by
  intro dt s₀ s p e x due
  exact ⟨by decide +kernel, by decide +kernel, by decide +kernel, by decide +kernel, fun q h => absurd h List.not_mem_nil,
         by decide +kernel⟩

theorem witness_InputEventsComplete :
    (let dt : Nat := 0
    let s₀ : State := { lit with ports.pair := up.ports.pair.set 0 { cfg := { mode := 2 } } }
    let s := s₀.elapse dt
    let p : Fin 32 := 0
    let x : DmxPacket := ⟨88000, 8000, true, 0, [], true, 0⟩
    let entry := s.ports.input.find? fun e => e.2.cfg.kind == 2 && e.2.cfg.source.toNat == p.val
    s.pairIn p 2 = true ∧ dmxEnded x ((entry.map fun e => e.2.cfg.idleUs.toNat).getD 100) = true ∧ dmxError x = true) ∧
    (let dt : Nat := 0
    let s₀ : State := { lit with ports.pair := up.ports.pair.set 0 { cfg := { mode := 2 } } }
    let s := s₀.elapse dt
    let p : Fin 32 := 0
    let x : DmxPacket := ⟨88000, 8000, false, 1, [], false, 100000⟩
    let entry := s.ports.input.find? fun e => e.2.cfg.kind == 2 && e.2.cfg.source.toNat == p.val
    s.pairIn p 2 = true ∧ dmxEnded x ((entry.map fun e => e.2.cfg.idleUs.toNat).getD 100) = true ∧ dmxError x = false ∧
    x.startCode ≠ 0) ∧
    (let dt : Nat := 0
    let s₀ : State := { lit with ports.pair := up.ports.pair.set 0 { cfg := { mode := 2 } } }
    let s := s₀.elapse dt
    let p : Fin 32 := 0
    let x : DmxPacket := ⟨88000, 8000, false, 0, [], true, 0⟩
    let entry := s.ports.input.find? fun e => e.2.cfg.kind == 2 && e.2.cfg.source.toNat == p.val
    s.pairIn p 2 = true ∧ dmxEnded x ((entry.map fun e => e.2.cfg.idleUs.toNat).getD 100) = true ∧ dmxError x = false ∧
    x.startCode = 0 ∧ entry = none) ∧
    (let dt : Nat := 0
    let s₀ : State := { { lit with ports.pair := up.ports.pair.set 0 { cfg := { mode := 2 } } } with ports.input := [(1023, { cfg := { kind := 2 } })] }
    let s := s₀.elapse dt
    let p : Fin 32 := 0
    let x : DmxPacket := ⟨88000, 8000, false, 0, [], true, 0⟩
    let entry := s.ports.input.find? fun e => e.2.cfg.kind == 2 && e.2.cfg.source.toNat == p.val
    let e := ((1023, { cfg := { kind := 2 } }) : Nat × InputEntry)
    s.pairIn p 2 = true ∧ dmxEnded x ((entry.map fun e => e.2.cfg.idleUs.toNat).getD 100) = true ∧ dmxError x = false ∧
    x.startCode = 0 ∧ entry = some e) ∧
    (let dt : Nat := 2500001000
    let s₀ : State := { up with ports.input := [(1023, { cfg := { kind := 1 }, lastAt := some 0 })] }
    let s := s₀.elapse dt
    let n : Fin 1024 := 1023
    let t : Nat := 0
    let e := s.input n
    e.lastAt = some t ∧ e.cfg.kind ≠ 0 ∧ e.lost = false ∧ s.fwExpired (t + e.cfg.lossMs.toNat * 1000000) = true) ∧
    (let dt : Nat := 2500001000
    let s₀ : State := { up with ports.input := [(1023, { sources := [⟨[], 0, 0, 0, []⟩] })] }
    let s := s₀.elapse dt
    let n : Fin 1024 := 1023
    let cid : List U8 := []
    let x : SacnSource := ⟨[], 0, 0, 0, []⟩
    let e := s.input n
    (e.sources.find? fun y => y.cid == cid) = some x ∧ s.fwExpired (x.lastAt + e.cfg.lossMs.toNat * 1000000) = true) := by
  refine ⟨?_, ?_, ?_, ?_, ?_, ?_⟩ <;> decide +kernel

theorem witness_EthernetCommandsComplete :
    (let q := Req.mk0 (pay 64 [(0, 3), (2, 0), (3, 36), (30, 1), (31, 1), (32, 1), (36, 1)])
    let s₀ : State := asking opEthSet q up
    Takes opEthSet 64 q s₀ ∧ (p8 q.payload 0).toNat < 4 ∧ (ethCfg q.payload).ok = true) ∧
    (let q := Req.mk0 (pay 2 [(0, 3)])
    let s₀ : State := asking opEthStatus q up
    let n : Fin 4 := 3
    Takes opEthStatus 2 q s₀ ∧ (p8 q.payload 0).toNat = n.val) ∧
    (let q := Req.mk0 (pay 4 [(0, 87), (3, 128)])
    let s₀ : State := asking opQueueSet q up
    let n := rd q.payload 0 2
    let lim := rd q.payload 2 2
    Takes opQueueSet 4 q s₀ ∧ n < 0x58 ∧ 1 ≤ lim ∧ lim ≤ 32768) ∧
    (let q := Req.mk0 (pay 2 [(0, 87)])
    let s₀ : State := asking opQueueStatus q up
    let n := rd q.payload 0 2
    Takes opQueueStatus 2 q s₀ ∧ n < 0x58) ∧
    (let q := Req.mk0 (pay 32 [(0, 3), (2, 7), (4, 64), (7, 16), (25, 16)])
    let s₀ : State := asking opHostchSet q up
    let s := s₀.elapse q.dt
    let n : Fin 4 := 3
    let c := hostchCfg q.payload
    Takes opHostchSet 32 q s₀ ∧ (p8 q.payload 0).toNat = n.val ∧ c.vector.toNat < 8 ∧ ringSize c.rxEntries.toNat = true ∧
    ringSize c.txEntries.toNat = true ∧ 1 ≤ c.irqFrames.toNat ∧ c.irqFrames.toNat ≤ 4096 ∧ c.rxBase.toNat % 16 = 0 ∧
    c.txBase.toNat % 16 = 0 ∧ s.mb.spi = false ∧ s.net.eth[n].hc.cfg.moves c = false) ∧
    (let q := Req.mk0 (pay 1 [(0, 3)])
    let s₀ : State := asking opHostchStatus q up
    let n : Fin 4 := 3
    Takes opHostchStatus 1 q s₀ ∧ (p8 q.payload 0).toNat = n.val) ∧
    (let q := Req.mk0 (pay 1 [(0, 3)])
    let s₀ : State := asking opTxtsRead q up
    let s := s₀.elapse q.dt
    let n : Fin 4 := 3
    let e := s.net.eth[n]
    Takes opTxtsRead 1 q s₀ ∧ (p8 q.payload 0).toNat = n.val ∧ e.txts = []) ∧
    (let q := Req.mk0 (pay 1 [(0, 3)])
    let s₀ : State := asking opTxtsRead q ({ up with net.eth := up.net.eth.set 3 { txts := [⟨0, true, 0, 0, 0⟩] } })
    let s := s₀.elapse q.dt
    let n : Fin 4 := 3
    let e := s.net.eth[n]
    let x := (⟨0, true, 0, 0, 0⟩ : Txts)
    let r := ([] : List Txts)
    Takes opTxtsRead 1 q s₀ ∧ (p8 q.payload 0).toNat = n.val ∧ e.txts = x :: r) ∧
    (let q := Req.mk0 (pay 16 [(0, 3), (7, 2), (8, 127)])
    let s₀ : State := asking opPtpSet q up
    Takes opPtpSet 16 q s₀ ∧ (ptpCfg q.payload).ok = true) := by
  refine ⟨?_, ?_, ?_, ?_, ?_, ?_, ?_, ?_, ?_⟩ <;> decide +kernel

theorem witness_EthernetEventsComplete :
    (let dt : Nat := 0
    let s₀ : State := { up with net.eth := up.net.eth.set 0 { link := true, hc := { cfg := { rxEn := true } } } }
    let s := s₀.elapse dt
    let x : EthRx := ⟨0, 0, true, pay 60 []⟩
    let e := s.net.eth[x.eth]
    let len := x.data.length + 4
    let t := s.modEth x.eth fun e => { e with framesRx := e.framesRx.inc }
    let c := frameChecks x.data
    let q := rxQueue 0 3
    let own := false
    e.link = true ∧ 64 ≤ len ∧ len ≤ e.cfg.maxFrame.toNat ∧ x.fcsOk = true ∧ s.ethAccepts x.eth (rdBE x.data 0 6) = true ∧
    t.classify x = some (q, own) ∧ (own && c.1 && !(c.2.1 && c.2.2)) = false) ∧
    (let dt : Nat := 0
    let s₀ : State := { up with net.eth := up.net.eth.set 0 { link := true }, net.ptp.cfg.mask := 1 }
    let s := s₀.elapse dt
    let x : EthRx := ⟨0, 0, true, pay 60 [(12, 8), (14, 0x45), (23, 17), (36, 1), (37, 0x3F)]⟩
    let e := s.net.eth[x.eth]
    let len := x.data.length + 4
    let t := s.modEth x.eth fun e => { e with framesRx := e.framesRx.inc }
    let c := frameChecks x.data
    let q := rxQueue 0 0
    let own := true
    e.link = true ∧ 64 ≤ len ∧ len ≤ e.cfg.maxFrame.toNat ∧ x.fcsOk = true ∧ s.ethAccepts x.eth (rdBE x.data 0 6) = true ∧
    t.classify x = some (q, own) ∧ (own && c.1 && !(c.2.1 && c.2.2)) = true) ∧
    (let dt : Nat := 0
    let s₀ : State := { up with net.eth := up.net.eth.set 0 { link := true, cfg := { ip := 1 } } }
    let s := s₀.elapse dt
    let x : EthRx := ⟨0, 0, true, pay 60 [(12, 8), (13, 6), (21, 1), (41, 1)]⟩
    let e := s.net.eth[x.eth]
    let len := x.data.length + 4
    let t := s.modEth x.eth fun e => { e with framesRx := e.framesRx.inc }
    e.link = true ∧ 64 ≤ len ∧ len ≤ e.cfg.maxFrame.toNat ∧ x.fcsOk = true ∧ s.ethAccepts x.eth (rdBE x.data 0 6) = true ∧
    t.classify x = none ∧ t.arpForUs x = true) ∧
    (let dt : Nat := 0
    let s₀ : State := { up with net.eth := up.net.eth.set 0 { link := true, cfg := { ip := 1 } } }
    let s := s₀.elapse dt
    let x : EthRx := ⟨0, 0, true, pay 60 []⟩
    let e := s.net.eth[x.eth]
    let len := x.data.length + 4
    let t := s.modEth x.eth fun e => { e with framesRx := e.framesRx.inc }
    e.link = true ∧ 64 ≤ len ∧ len ≤ e.cfg.maxFrame.toNat ∧ x.fcsOk = true ∧ s.ethAccepts x.eth (rdBE x.data 0 6) = true ∧
    t.classify x = none ∧ t.arpForUs x = false) ∧
    (let dt : Nat := 0
    let s₀ : State := { up with net.eth := up.net.eth.set 0 { link := true } }
    let s := s₀.elapse dt
    let n : Fin 4 := 0
    s.net.eth[n].link = true ∧ s.net.eth[n].cfg.preemptEn = true) ∧
    (let dt : Nat := 0
    let s₀ : State := { up with net.eth := up.net.eth.set 0 { preempt := 1 } }
    let s := s₀.elapse dt
    let n : Fin 4 := 0
    s.net.eth[n].preempt = 1) ∧
    (let dt : Nat := 0
    let s₀ : State := { { up with net.eth := up.net.eth.set 0 { link := true } } with net.queues := [(txQueue 0 0, { frames := [{ len := 64 }] })] }
    let s := s₀.elapse dt
    let n : Fin 4 := 0
    let e := s.net.eth[n]
    let bt := bytePs e.speed
    let c := 0
    let f := { len := 64 }
    e.link = true ∧ e.heldNow s.nowPs = false ∧ (∀ t ∈ e.tx, t.ends bt ≤ s.nowPs) ∧ s.txPick n = some (.express c f)) ∧
    (let dt : Nat := 0
    let s₀ : State := { up with net.eth := up.net.eth.set 0 { link := true, held := some ⟨3, { len := 64 }, 0, 64⟩ } }
    let s := s₀.elapse dt
    let n : Fin 4 := 0
    let e := s.net.eth[n]
    let bt := bytePs e.speed
    let t := (⟨3, { len := 64 }, 0, 64⟩ : TxOn)
    e.link = true ∧ e.heldNow s.nowPs = false ∧ (∀ t ∈ e.tx, t.ends bt ≤ s.nowPs) ∧ s.txPick n = some (.remainder t)) ∧
    (let dt : Nat := 0
    let s₀ : State := { { up with net.eth := up.net.eth.set 0 { link := true } } with net.queues := [(txQueue 0 3, { frames := [{ len := 64 }] })] }
    let s := s₀.elapse dt
    let n : Fin 4 := 0
    let e := s.net.eth[n]
    let bt := bytePs e.speed
    let c := (3 : Nat)
    let f := ({ len := 64 } : PoolFrame)
    let d := [1472, 0, 0]
    let i := (0 : Nat)
    e.link = true ∧ e.heldNow s.nowPs = false ∧ (∀ t ∈ e.tx, t.ends bt ≤ s.nowPs) ∧ s.txPick n = some (.shared c f d i)) ∧
    (let dt : Nat := 0
    let s₀ : State := { up with net.eth := up.net.eth.set 0 { link := true } }
    let s := s₀.elapse dt
    let n : Fin 4 := 0
    s.net.eth[n].link = true) ∧
    (let dt : Nat := 0
    let s₀ : State := { up with net.eth := up.net.eth.set 0 { holdPs := some 0 } }
    let s := s₀.elapse dt
    let n : Fin 4 := 0
    let t : Nat := 0
    s.net.eth[n].holdPs = some t ∧ t ≤ s.nowPs) ∧
    (let dt : Nat := 1000004
    let s₀ : State := { up with net.eth := up.net.eth.set 0 { holdPs := some 2000000000 } }
    let s := s₀.elapse dt
    let n : Fin 4 := 0
    let e := s.net.eth[n]
    e.heldNow s.nowPs = true ∧ e.holdRaised = false ∧ s.cycExpired (e.holdFrom + e.cfg.pauseEventUs.toNat * 1000) = true) ∧
    (let dt : Nat := 100000000
    let s₀ : State := { up with net.eth := up.net.eth.set 0 { xoff := true } }
    let s := s₀.elapse dt
    let n : Fin 4 := 0
    let e := s.net.eth[n]
    e.xoff = true ∧ 1000 * e.xoffAt + quantaPs e.speed e.cfg.pauseQuanta.toNat / 2 ≤ s.nowPs) ∧
    (let dt : Nat := 10001000
    let s₀ : State := { up with net.eth := up.net.eth.set 0 { preempt := 1 } }
    let s := s₀.elapse dt
    let n : Fin 4 := 0
    let e := s.net.eth[n]
    e.preempt = 1 ∧ s.fwExpired (e.verifyAt + 10000000) = true ∧ e.verifyTries < 3) ∧
    (let dt : Nat := 10001000
    let s₀ : State := { up with net.eth := up.net.eth.set 0 { preempt := 1, verifyTries := 3 } }
    let s := s₀.elapse dt
    let n : Fin 4 := 0
    let e := s.net.eth[n]
    e.preempt = 1 ∧ s.fwExpired (e.verifyAt + 10000000) = true ∧ 3 ≤ e.verifyTries) ∧
    (let dt : Nat := 0
    let s₀ : State := { up with net.eth := up.net.eth.set 3 { link := true }, net.ptp.cfg.mask := 8 }
    let s := s₀.elapse dt
    let n : Fin 4 := 3
    s.net.eth[n].link = true ∧ s.groups n ≠ []) ∧
    (let dt : Nat := 0
    let s₀ : State := { up with net.eth := up.net.eth.set 0 { link := true, cfg := { ip := 1 } } }
    let s := s₀.elapse dt
    let n : Fin 4 := 0
    let target : U32 := 1
    let e := s.net.eth[n]
    e.link = true ∧ target = e.cfg.ip ∧ e.cfg.ip ≠ 0) ∧
    (let dt : Nat := 0
    let s₀ : State := { { up with net.eth := up.net.eth.set 0 { hc := { cfg := { rxEn := true },
                                                                        rxTail := 1 } } } with net.queues := [(rxQueue 0 3, { frames := [{ len := 64 }] })] }
    let s := s₀.elapse dt
    let n : Fin 4 := 0
    let descs : List RxDesc := [⟨0, 64⟩]
    let f : PoolFrame := { len := 64 }
    let h := s.net.eth[n].hc
    let r := fillBuffers (descs.take (ringCount h.rxHead h.rxTail)) f.bytes
    let parts := [(⟨0, 64⟩, [])]
    s.queueHead (rxQueue n.val 3) = some f ∧ h.cfg.rxEn = true ∧ r = some parts) ∧
    (let dt : Nat := 0
    let s₀ : State := { { up with net.eth := up.net.eth.set 0 { hc := { cfg := { rxEn := true },
                                                                        rxTail := 1 } } } with net.queues := [(rxQueue 0 3, { frames := [{ len := 64 }] })] }
    let s := s₀.elapse dt
    let n : Fin 4 := 0
    let descs : List RxDesc := []
    let f : PoolFrame := { len := 64 }
    let h := s.net.eth[n].hc
    let r := fillBuffers (descs.take (ringCount h.rxHead h.rxTail)) f.bytes
    s.queueHead (rxQueue n.val 3) = some f ∧ h.cfg.rxEn = true ∧ r = none) ∧
    (let dt : Nat := 0
    let s₀ : State := { up with net.eth := up.net.eth.set 0 { cfg := { maxFrame := 64 }, hc := { cfg := { txEn := true },
                                                                                                 txTail := 1 } } }
    let s := s₀.elapse dt
    let n : Fin 4 := 0
    let descs : List TxDesc := [⟨true, true, false, false, 0, .replicate 61 0⟩]
    let ds : List TxDesc := [⟨true, true, false, false, 0, .replicate 61 0⟩]
    let e := s.net.eth[n]
    let bytes := ds.flatMap (·.data)
    e.hc.cfg.txEn = true ∧ frameDescs (descs.take (ringCount e.hc.txHead e.hc.txTail)) = some ds ∧
    e.cfg.maxFrame.toNat < bytes.length + 4) ∧
    (let dt : Nat := 0
    let s₀ : State := { up with net.eth := up.net.eth.set 0 { hc := { cfg := { txEn := true }, txTail := 1 } } }
    let s := s₀.elapse dt
    let n : Fin 4 := 0
    let descs : List TxDesc := [⟨true, true, false, false, 0, []⟩]
    let ds : List TxDesc := [⟨true, true, false, false, 0, []⟩]
    let e := s.net.eth[n]
    let bytes := ds.flatMap (·.data)
    let f : PoolFrame := { len := max 64 (bytes.length + 4), bytes := bytes, csum := ds.any (·.csum),
                           tsReq := (ds.find? (·.tsReq)).map (·.tsId) }
    e.hc.cfg.txEn = true ∧ frameDescs (descs.take (ringCount e.hc.txHead e.hc.txTail)) = some ds ∧
    bytes.length + 4 ≤ e.cfg.maxFrame.toNat ∧ s.queueRoom (txQueue n.val 5) f = true) := by
  refine ⟨?_, ?_, ?_, ?_, ?_, ?_, ?_, ?_, ?_, ?_, ?_, ?_, ?_, ?_, ?_, ?_, ?_, ?_, ?_, ?_, ?_⟩ <;> decide +kernel

theorem witness_PtpEventsComplete :
    (let dt : Nat := 0
    let s₀ : State := { up with net.ptp := { cfg := { mask := 1, domain := 0 }, ports := up.net.ptp.ports.set 0 { state := 9 },
                                             parent := some (1, 1, {}) } }
    let s := s₀.elapse dt
    let m : PtpMsg := ⟨0, 0, 0, 1, 1, 0, 0, true, 0, 0⟩
    let t := s.rxTake m.eth (rxQueue m.eth.val 0)
    let c := t.net.ptp.cfg
    c.on m.eth = true ∧ t.fromParent m = true ∧ m.twoStep = true) ∧
    (let dt : Nat := 0
    let s₀ : State := { up with net.ptp := { cfg := { mask := 1, domain := 0 }, ports := up.net.ptp.ports.set 0 { state := 9 },
                                             parent := some (1, 1, {}) } }
    let s := s₀.elapse dt
    let m : PtpMsg := ⟨0, 0, 0, 1, 1, 0, 0, false, 0, 0⟩
    let t := s.rxTake m.eth (rxQueue m.eth.val 0)
    let c := t.net.ptp.cfg
    c.on m.eth = true ∧ t.fromParent m = true ∧ m.twoStep = false) ∧
    (let dt : Nat := 0
    let s₀ : State := { up with net.ptp := { cfg := { mask := 1, domain := 0 }, ports := up.net.ptp.ports.set 0 { state := 9, sync := some (0, 0, 0) }, parent := some (1, 1, {}) } }
    let s := s₀.elapse dt
    let m : PtpMsg := ⟨0, 0, 0, 1, 1, 0, 0, true, 0, 0⟩
    let t := s.rxTake m.eth (rxQueue m.eth.val 0)
    let c := t.net.ptp.cfg
    let p := t.net.ptp.ports[m.eth]
    let t2 := 0
    let k := 0
    c.on m.eth = true ∧ p.sync = some (m.seq, t2, k) ∧ t.fromParent m = true) ∧
    (let dt : Nat := 0
    let s₀ : State := { up with net.ptp := { cfg := { mask := 1, domain := 0 } } }
    let s := s₀.elapse dt
    let m : PtpMsg := ⟨0, 0, 0, 1, 1, 0, 0, true, 0, 0⟩
    let t := s.rxTake m.eth (rxQueue m.eth.val 0)
    let c := t.net.ptp.cfg
    let a : PtpAnnounce := ⟨0, 0, 0, 0, 0, 0, 254, 0, false, true⟩
    c.on m.eth = true ∧ m.domain = c.domainNo ∧ m.identity ≠ t.clockIdentity ∧ a.steps.toNat < 255) ∧
    (let dt : Nat := 0
    let s₀ : State := { up with net.ptp := { cfg := { mask := 1, domain := 0 },
                                             ports := up.net.ptp.ports.set 0 { state := 6 } } }
    let s := s₀.elapse dt
    let m : PtpMsg := ⟨0, 0, 0, 1, 1, 0, 0, true, 0, 0⟩
    let t := s.rxTake m.eth (rxQueue m.eth.val 0)
    let c := t.net.ptp.cfg
    let p := t.net.ptp.ports[m.eth]
    c.on m.eth = true ∧ m.domain = c.domainNo ∧ p.state = 6 ∧ c.p2p = false) ∧
    (let dt : Nat := 0
    let s₀ : State := { up with net.ptp := { cfg := { mask := 1, domain := 0 }, ports := up.net.ptp.ports.set 0 { state := 9, delay := some (0, 0), lastSync := some (0, 0) }, parent := some (1, 1, {}) } }
    let s := s₀.elapse dt
    let m : PtpMsg := ⟨0, 0, 0, 1, 1, 0x000000FFFE000000, 1, true, 0, 0⟩
    let t := s.rxTake m.eth (rxQueue m.eth.val 0)
    let c := t.net.ptp.cfg
    let p := t.net.ptp.ports[m.eth]
    let t3 := 0
    let t1 := 0
    let t2 := 0
    c.on m.eth = true ∧ p.delay = some (m.seq, t3) ∧ p.lastSync = some (t1, t2) ∧ t.fromParent m = true ∧
    asksPort m t.clockIdentity = true) ∧
    (let dt : Nat := 0
    let s₀ : State := { up with net.ptp := { cfg := { mask := 1, domain := 0, profile := 1 } } }
    let s := s₀.elapse dt
    let m : PtpMsg := ⟨0, 0, 0, 1, 1, 0, 0, true, 0, 0⟩
    let t := s.rxTake m.eth (rxQueue m.eth.val 0)
    let c := t.net.ptp.cfg
    c.on m.eth = true ∧ m.domain = c.domainNo ∧ c.p2p = true) ∧
    (let dt : Nat := 0
    let s₀ : State := { up with net.ptp := { cfg := { mask := 1, domain := 0, profile := 1 },
                                             ports := up.net.ptp.ports.set 0 { pdelay := some (0, 0) } } }
    let s := s₀.elapse dt
    let m : PtpMsg := ⟨0, 0, 0, 1, 1, 0x000000FFFE000000, 1, true, 0, 0⟩
    let t := s.rxTake m.eth (rxQueue m.eth.val 0)
    let c := t.net.ptp.cfg
    let p := t.net.ptp.ports[m.eth]
    let t1 := 0
    c.on m.eth = true ∧ p.pdelay = some (m.seq, t1) ∧ m.domain = c.domainNo ∧ asksPort m t.clockIdentity = true ∧
    m.twoStep = true) ∧
    (let dt : Nat := 0
    let s₀ : State := { up with net.ptp := { cfg := { mask := 1, domain := 0, profile := 1 },
                                             ports := up.net.ptp.ports.set 0 { pdelay := some (0, 0) } } }
    let s := s₀.elapse dt
    let m : PtpMsg := ⟨0, 0, 0, 1, 1, 0x000000FFFE000000, 1, false, 0, 0⟩
    let t := s.rxTake m.eth (rxQueue m.eth.val 0)
    let c := t.net.ptp.cfg
    let p := t.net.ptp.ports[m.eth]
    let t1 := 0
    c.on m.eth = true ∧ p.pdelay = some (m.seq, t1) ∧ m.domain = c.domainNo ∧ asksPort m t.clockIdentity = true ∧
    m.twoStep = false) ∧
    (let dt : Nat := 0
    let s₀ : State := { up with net.ptp := { cfg := { mask := 1, domain := 0, profile := 1 },
                                             ports := up.net.ptp.ports.set 0 { pdelay := some (0, 0), presp := some (0, 0, 0, 0) } } }
    let s := s₀.elapse dt
    let m : PtpMsg := ⟨0, 0, 0, 1, 1, 0x000000FFFE000000, 1, false, 0, 0⟩
    let t := s.rxTake m.eth (rxQueue m.eth.val 0)
    let c := t.net.ptp.cfg
    let p := t.net.ptp.ports[m.eth]
    let t1 := 0
    let q := 0
    let t4 := 0
    let t2 := 0
    let k := 0
    c.on m.eth = true ∧ p.pdelay = some (m.seq, t1) ∧ m.domain = c.domainNo ∧ asksPort m t.clockIdentity = true ∧
    p.presp = some (q, t4, t2, k)) ∧
    (let dt : Nat := 16000000000
    let s₀ : State := { up with net.ptp := { cfg := { mask := 1, domain := 0 },
                                             ports := up.net.ptp.ports.set 0 { state := 6 } } }
    let s := s₀.elapse dt
    let n : Fin 4 := 0
    let kind : Fin 4 := 0
    let c := s.net.ptp.cfg
    let p := s.net.ptp.ports[n]
    c.on n = true ∧ (kind.val < 2 → p.state = 6) ∧ (kind = 2 → (p.state = 9 ∨ p.state = 8) ∧ c.p2p = false) ∧
    (kind = 3 → c.p2p = true) ∧ p.sentAt[kind] + logNs (c.log kind) ≤ s.now) ∧
    (let dt : Nat := 100000000000
    let s₀ : State := { up with net.ptp := { cfg := { mask := 1, domain := 0 } } }
    let s := s₀.elapse dt
    let n : Fin 4 := 0
    let c := s.net.ptp.cfg
    let p := s.net.ptp.ports[n]
    let wait := c.announceTimeout.toNat * logNs (c.log 1)
    c.on n = true ∧ p.state ≠ 6 ∧ s.fwExpired (p.announceAt + wait) = true) := by
  refine ⟨?_, ?_, ?_, ?_, ?_, ?_, ?_, ?_, ?_, ?_, ?_, ?_⟩ <;> decide +kernel

theorem witness_RadioEventsComplete :
    (let dt : Nat := 0
    let s₀ : State := { up with radio.ri := up.radio.ri.set 0 { nextTb := some 0 } }
    let s := s₀.elapse dt
    let i : Fin 4 := 0
    let tb : Int := 0
    let r := s.radio.ri[i]
    r.nextTb = some tb ∧ r.built = none ∧ tb - 500000 ≤ s.full ∧ r.next = none) ∧
    (let dt : Nat := 0
    let s₀ : State := { up with radio.ri := up.radio.ri.set 0 { nextTb := some 0 } }
    let s := s₀.elapse dt
    let i : Fin 4 := 0
    let tb : Int := 0
    let r := s.radio.ri[i]
    r.nextTb = some tb ∧ r.built = none ∧ tb - 500000 ≤ s.full) ∧
    (let dt : Nat := 0
    let s₀ : State := { up with radio.ri := up.radio.ri.set 0 { nextTb := some 0, built := some (some ⟨[], []⟩), st := 1 } }
    let s := s₀.elapse dt
    let i : Fin 4 := 0
    let tb : Int := 0
    let b : Beacon := ⟨[], []⟩
    let r := s.radio.ri[i]
    r.nextTb = some tb ∧ r.built = some (some b) ∧ tb - r.cfg.stbToSfdNs.toNat ≤ (s.full : Int) ∧ r.active = true ∧
    s.quiet = false) ∧
    (let dt : Nat := 0
    let s₀ : State := { up with radio.ri := up.radio.ri.set 0 { st := 1, nextTb := some 15360000, queue := [{ id := 0, cls := 0, dest := 1, data := [] }] } }
    let s := s₀.elapse dt
    let i : Fin 4 := 0
    let c : Nat := 0
    let f : RadioTx := { id := 0, cls := 0, dest := 1, data := [] }
    let r := s.radio.ri[i]
    let head := fun (k : Nat) => r.queue.find? fun f => f.cls.val == k
    let reqs := (List.range 4).filter fun k => (head k).any fun f => s.radioFits i (f.airNs + if f.ack then ackWaitNs else 0)
    r.active = true ∧ r.wait = none ∧ s.quiet = false ∧ arbitrate reqs (fun k => r.losses.toList.getD k 0) = some c ∧
    head c = some f) ∧
    (let dt : Nat := 0
    let s₀ : State := { up with radio.ri := up.radio.ri.set 0 { wait := some ({ id := 0, cls := 0, dest := 1, data := [] }, 0,
                                                                              1000) } }
    let s := s₀.elapse dt
    let i : Fin 4 := 0
    let dsn : U8 := 0
    let w : RadioTx × U8 × Nat := ({ id := 0, cls := 0, dest := 1, data := [] }, 0, 1000)
    s.radio.ri[i].wait = some w ∧ w.2.1 = dsn ∧ s.fwExpired w.2.2 = false) ∧
    (let dt : Nat := 1000
    let s₀ : State := { up with radio.ri := up.radio.ri.set 0 { wait := some ({ id := 0, cls := 0, dest := 1, data := [] }, 0,
                                                                              0) } }
    let s := s₀.elapse dt
    let i : Fin 4 := 0
    let w : RadioTx × U8 × Nat := ({ id := 0, cls := 0, dest := 1, data := [] }, 0, 0)
    s.radio.ri[i].wait = some w ∧ s.fwExpired w.2.2 = true ∧ w.1.tries < 3) ∧
    (let dt : Nat := 1000
    let s₀ : State := { up with radio.ri := up.radio.ri.set 0 { held := [{ id := 0, cls := 0, dest := 1, data := [] }],
                                                                wait := some ({ id := 0, cls := 0, dest := 1, data := [],
                                                                                tries := 3 }, 0, 0) } }
    let s := s₀.elapse dt
    let i : Fin 4 := 0
    let w : RadioTx × U8 × Nat := ({ id := 0, cls := 0, dest := 1, data := [], tries := 3 }, 0, 0)
    let t := s.modRi i fun r => { r with wait := none }
    let u := t.modRi i fun r => { r with ackTimeouts := r.ackTimeouts.inc }
    s.radio.ri[i].wait = some w ∧ s.fwExpired w.2.2 = true ∧ 3 ≤ w.1.tries ∧
    (u.radio.ri[i].held.any fun h => h.id == w.1.id) = true) ∧
    (let dt : Nat := 1000
    let s₀ : State := { up with radio.ri := up.radio.ri.set 0 { wait := some ({ id := 0, cls := 0, dest := 1, data := [],
                                                                                tries := 3 }, 0, 0) } }
    let s := s₀.elapse dt
    let i : Fin 4 := 0
    let w : RadioTx × U8 × Nat := ({ id := 0, cls := 0, dest := 1, data := [], tries := 3 }, 0, 0)
    let t := s.modRi i fun r => { r with wait := none }
    let u := t.modRi i fun r => { r with ackTimeouts := r.ackTimeouts.inc }
    s.radio.ri[i].wait = some w ∧ s.fwExpired w.2.2 = true ∧ 3 ≤ w.1.tries ∧
    (u.radio.ri[i].held.any fun h => h.id == w.1.id) = false) ∧
    (let dt : Nat := 0
    let s₀ : State := { up with radio.ri := up.radio.ri.set 0 { st := 1 } }
    let s := s₀.elapse dt
    let i : Fin 4 := 0
    s.radio.ri[i].active = true) ∧
    (let dt : Nat := 0
    let s₀ : State := { up with radio.ri := up.radio.ri.set 0 { st := 1, nodes := [{ short := 1, ext := 1 }] } }
    let s := s₀.elapse dt
    let i : Fin 4 := 0
    let src : U16 := 1
    let n : Node := { short := 1, ext := 1 }
    s.radio.ri[i].node src = some n ∧ s.radio.ri[i].active = true) ∧
    (let dt : Nat := 0
    let s₀ : State := { up with radio.ri := up.radio.ri.set 0 { st := 1 } }
    let s := s₀.elapse dt
    let i : Fin 4 := 0
    let src : U16 := 33
    let ext : U64 := 0
    let r := s.radio.ri[i]
    let held := r.held.find? fun h => if src = 0xFFFF then h.cls == 0 && h.ext == ext else h.dest == src && h.cls != 0
    r.active = true ∧ s.quiet = false ∧ held = none) ∧
    (let dt : Nat := 0
    let s₀ : State := { up with radio.ri := up.radio.ri.set 0 { st := 1, held := [{ id := 0, cls := 2, dest := 33,
                                                                                    data := [] }] } }
    let s := s₀.elapse dt
    let i : Fin 4 := 0
    let src : U16 := 33
    let ext : U64 := 0
    let r := s.radio.ri[i]
    let held := r.held.find? fun h => if src = 0xFFFF then h.cls == 0 && h.ext == ext else h.dest == src && h.cls != 0
    let f := { id := 0, cls := 2, dest := 33, data := [] }
    r.active = true ∧ s.quiet = false ∧ held = some f ∧ r.queue.any (fun x => x.id == f.id) = false ∧
    (∀ w ∈ r.wait, w.1.id ≠ f.id)) ∧
    (let dt : Nat := 0
    let s₀ : State := { up with radio.ri := up.radio.ri.set 0 { st := 1, held := [{ id := 0, cls := 2, dest := 33,
                                                                                    data := [] }], queue := [{ id := 0, cls := 2, dest := 33, data := [] }] } }
    let s := s₀.elapse dt
    let i : Fin 4 := 0
    let src : U16 := 33
    let ext : U64 := 0
    let r := s.radio.ri[i]
    let held := r.held.find? fun h => if src = 0xFFFF then h.cls == 0 && h.ext == ext else h.dest == src && h.cls != 0
    let f := { id := 0, cls := 2, dest := 33, data := [] }
    r.active = true ∧ s.quiet = false ∧ held = some f ∧
    (r.queue.any (fun x => x.id == f.id) = true ∨ ∃ w, r.wait = some w ∧ w.1.id = f.id)) ∧
    (let dt : Nat := 100000000000
    let s₀ : State := { up with radio.ri := up.radio.ri.set 0 { st := 1, held := [{ id := 0, cls := 0, dest := 1,
                                                                                    data := [] }], expireRun := true } }
    let s := s₀.elapse dt
    let i : Fin 4 := 0
    let r := s.radio.ri[i]
    r.active = true) := by
  refine ⟨?_, ?_, ?_, ?_, ?_, ?_, ?_, ?_, ?_, ?_, ?_, ?_, ?_, ?_⟩ <;> decide +kernel

theorem witness_RadioFramesComplete :
    (let dt : Nat := 0
    let s₀ : State := { up with radio.ri := up.radio.ri.set 0 { st := 1, nodes := [{ short := 33, ext := 1 }] } }
    let s := s₀.elapse dt
    let i : Fin 4 := 0
    let f : RadioFrame := ⟨0, 0, [0x41, 0x88, 5, 0, 0, 0, 0, 33, 0]⟩
    let n : Node := { short := 33, ext := 1 }
    let r := s.radio.ri[i]
    let x := (s.radioOpen i n f).getD (s, [])
    r.st ≠ 4 ∧ r.active = true ∧ r.node (frameSrc f) = some n ∧ frameSupported f = true ∧ n.isDup (frameDsn f) 1 = false ∧
    inRange 1 32 n.short.toNat = false ∧ s.radioOpen i n f = some x) ∧
    (let dt : Nat := 0
    let s₀ : State := { up with radio.ri := up.radio.ri.set 0 { st := 1, nodes := [{ short := 32, ext := 1 }] },
                                radio.station := [(31, { enable := true, ext := 1 })], box.slot := [(0, { a := { st := .valid, kind := 1, uses := 1 } })] }
    let s := s₀.elapse dt
    let i : Fin 4 := 0
    let f : RadioFrame := ⟨0, 0, [0x49, 0x98, 5, 0, 0, 0, 0, 32, 0, 6, 1, 0, 0, 0, 0x35, 0x16, 0x2A, 0x8D, 0x6D, 0x81, 0xF6,
                                  0xA6]⟩
    let n : Node := { short := 32, ext := 1 }
    let r := s.radio.ri[i]
    let x := (s.privetCheck i f).toOption.getD (s, [])
    r.st ≠ 4 ∧ r.active = true ∧ r.node (frameSrc f) = some n ∧ frameSupported f = true ∧ n.isDup (frameDsn f) 1 = false ∧
    inRange 1 32 n.short.toNat = true ∧ (s.privetCheck i f).toOption = some x) ∧
    (let dt : Nat := 0
    let s₀ : State := { up with radio.ri := up.radio.ri.set 0 { st := 4, nodes := [{ short := 33, ext := 1 }] } }
    let s := s₀.elapse dt
    let i : Fin 4 := 0
    let f : RadioFrame := ⟨0, 0, [0x41, 0x88, 5, 0, 0, 0, 0, 33, 0, 1, 0, 0, 0, 0, 0, 0, 0, 0, 0, 0, 0, 0, 0, 0, 0]⟩
    let n : Node := { short := 33, ext := 1 }
    let x : State × List U8 := (s.radioOpen i n f).getD (s, [])
    let r := s.radio.ri[i]
    r.st = 4 ∧ r.node (frameSrc f) = some n ∧ frameSupported f = true ∧ s.radioOpen i n f = some x ∧ onlyRecords x.2 = true) ∧
    (let dt : Nat := 0
    let s₀ : State := { up with radio.ri := up.radio.ri.set 0 { st := 1, nodes := [{ short := 32, ext := 1 }] },
                                radio.station := [(31, { enable := true, ext := 1 })], box.slot := [(0, { a := { st := .valid, kind := 1, uses := 1 } })] }
    let s := s₀.elapse dt
    let i : Fin 4 := 0
    let f : RadioFrame := ⟨0, 0, [0x49, 0x98, 5, 0, 0, 0, 0, 32, 0, 6, 1, 0, 0, 0, 0x35, 0x16, 0x2A, 0x8D, 0x6D, 0x81, 0xF6,
                                  0xA6]⟩
    let n : Node := { short := 32, ext := 1 }
    let r := s.radio.ri[i]
    let x := (s.privetCheck i f).toOption.getD (s, [])
    r.active = true ∧ frameSupported f = true ∧ r.node (frameSrc f) = some n ∧ n.isDup (frameDsn f) 1 = false ∧
    inRange 1 32 (frameSrc f).toNat = true ∧ (s.privetCheck i f).toOption = some x) ∧
    (let dt : Nat := 0
    let s₀ : State := { up with radio.ri := up.radio.ri.set 0 { driver := some 0, cfg := { child := true } } }
    let s := s₀.elapse dt
    let i : Fin 4 := 0
    let pan : U16 := 0xFFFF
    let ago : Nat := 0
    let r := s.radio.ri[i]
    let t := s.recvTime i ago
    r.cfg.child = true ∧ r.driver.isSome = true ∧ pan = r.cfg.parentPan ∧
    (∀ p ∈ r.parentNext, r.lost = true ∨ (t - p).natAbs ≤ r.cfg.parentWindowUs.toNat * 1000)) ∧
    (let dt : Nat := 0
    let s₀ : State := { up with radio.ri := up.radio.ri.set 0 { driver := some 0, cfg := { child := true } } }
    let s := s₀.elapse dt
    let i : Fin 4 := 0
    let r := s.radio.ri[i]
    r.cfg.child = true ∧ r.driver.isSome = true) ∧
    (let dt : Nat := 501000
    let s₀ : State := { up with radio.ri := up.radio.ri.set 0 { parentNext := some 0, lost := false, cfg :=
                                                                { child := true } } }
    let s := s₀.elapse dt
    let i : Fin 4 := 0
    let p : Int := 0
    let r := s.radio.ri[i]
    let past := (s.full : Int) - (p + r.cfg.parentWindowUs.toNat * 1000)
    r.parentNext = some p ∧ r.cfg.child = true ∧ r.lost = false ∧ 0 ≤ past ∧ s.fwExpired (s.now - past.toNat) = true ∧
    r.missRun < 2) ∧
    (let dt : Nat := 501000
    let s₀ : State := { up with radio.ri := up.radio.ri.set 0 { parentNext := some 0, lost := false, missRun := 2, cfg :=
                                                                { child := true } } }
    let s := s₀.elapse dt
    let i : Fin 4 := 0
    let p : Int := 0
    let r := s.radio.ri[i]
    let past := (s.full : Int) - (p + r.cfg.parentWindowUs.toNat * 1000)
    r.parentNext = some p ∧ r.cfg.child = true ∧ r.lost = false ∧ 0 ≤ past ∧ s.fwExpired (s.now - past.toNat) = true ∧
    2 ≤ r.missRun) ∧
    (let dt : Nat := 1001000
    let s₀ : State := { up with radio.ri := up.radio.ri.set 0 { rstN := true } }
    let s := s₀.elapse dt
    let i : Fin 4 := 0
    let r := s.radio.ri[i]
    r.rstN = true ∧ r.driver = none ∧ r.st ≠ 5 ∧ s.fwExpired (r.rstAt + 1000000) = true) ∧
    (let dt : Nat := 1000001000
    let s₀ : State := { up with radio.ri := up.radio.ri.set 0 { st := 5 } }
    let s := s₀.elapse dt
    let i : Fin 4 := 0
    s.radio.ri[i].st = 5 ∧ s.fwExpired (s.radio.ri[i].faultAt + 1000000000) = true) := by
  refine ⟨?_, ?_, ?_, ?_, ?_, ?_, ?_, ?_, ?_, ?_⟩ <;> decide +kernel

theorem witness_RadioFramesComplete_2 :
    (let dt : Nat := 0
    let s₀ : State := { up with radio.ri := up.radio.ri.set 0 { st := 1, nodes := [{ short := 32, ext := 1 }] },
                                radio.station := [(31, { enable := true, ext := 1 })], box.slot := [(0, { a := { st := .valid, kind := 1, uses := 1 } })] }
    let s := s₀.elapse dt
    let i : Fin 4 := 0
    let f : RadioFrame := ⟨0, 0, [0x41, 0x88, 5, 0, 0, 0, 0, 32, 0]⟩
    let n : Node := { short := 32, ext := 1 }
    let r := s.radio.ri[i]
    let e := 2
    r.st ≠ 4 ∧ r.active = true ∧ r.node (frameSrc f) = some n ∧ frameSupported f = true ∧ n.isDup (frameDsn f) 1 = false ∧
    inRange 1 32 n.short.toNat = true ∧ s.privetCheck i f = .error e) := by
  refine ⟨?_, ?_, ?_, ?_, ?_, ?_, ?_⟩ <;> first | decide +kernel | rfl

theorem witness_RadioFramesComplete_5 :
    (let dt : Nat := 0
    let s₀ : State := { up with radio.ri := up.radio.ri.set 0 { st := 1, nodes := [{ short := 32, ext := 1 }] },
                                radio.station := [(31, { enable := true, ext := 1 })], box.slot := [(0, { a := { st := .valid, kind := 1, uses := 1 } })] }
    let s := s₀.elapse dt
    let i : Fin 4 := 0
    let f : RadioFrame := ⟨0, 0, [0x41, 0x88, 5, 0, 0, 0, 0, 32, 0]⟩
    let n : Node := { short := 32, ext := 1 }
    let r := s.radio.ri[i]
    let e := 2
    r.active = true ∧ frameSupported f = true ∧ r.node (frameSrc f) = some n ∧ n.isDup (frameDsn f) 1 = false ∧
    inRange 1 32 (frameSrc f).toNat = true ∧ s.privetCheck i f = .error e) := by
  refine ⟨?_, ?_, ?_, ?_, ?_, ?_⟩ <;> first | decide +kernel | rfl

theorem witness_RadioCommandsComplete :
    (let q := Req.mk0 (pay 56 [(0, 3), (2, 11), (3, 8), (4, 8), (5, 1), (9, 62), (8, 128), (10, 1), (28, 148), (29, 17), (36, 100)])
    let s₀ : State := asking opRadioSet q up
    let s := s₀.elapse q.dt
    let p := q.payload
    let i := riOf p
    Takes opRadioSet 56 q s₀ ∧ radioOk p = true ∧ (pbit p 1 0 = true → s.radioBank i = true ∧ s.sys.boot.radioMac = true)) ∧
    (let q := Req.mk0 (pay 2 [(0, 3)])
    let s₀ : State := asking opRadioStatus q up
    Takes opRadioStatus 2 q s₀ ∧ (p8 q.payload 0).toNat < 4) ∧
    (let q := Req.mk0 (pay 4 [(0, 0), (2, 33)])
    let s₀ : State := asking opNodeRead q ({ up with radio.ri := up.radio.ri.set 0 { nodes := [{ short := 33, ext := 1 }] } })
    let s := s₀.elapse q.dt
    let r := s.radio.ri[riOf q.payload]
    let short := p16 q.payload 2
    let n := { short := 33, ext := 1 }
    Takes opNodeRead 4 q s₀ ∧ (p8 q.payload 0).toNat < 4 ∧ r.node short = some n) ∧
    (let q := Req.mk0 (pay 4 [(0, 3)])
    let s₀ : State := asking opNodeRead q up
    let s := s₀.elapse q.dt
    let r := s.radio.ri[riOf q.payload]
    let short := p16 q.payload 2
    Takes opNodeRead 4 q s₀ ∧ (p8 q.payload 0).toNat < 4 ∧ r.node short = none) ∧
    (let q := Req.mk0 (pay 12 [(1, 1)])
    let s₀ : State := asking opNodeControl q ({ up with radio.ri := up.radio.ri.set 0 { nodes := [{ short := 33, ext := 0 }] } })
    let s := s₀.elapse q.dt
    let n : Node := { short := 33, ext := 0 }
    let i := riOf q.payload
    Takes opNodeControl 12 q s₀ ∧ (p8 q.payload 0).toNat < 4 ∧ p8 q.payload 1 = 1 ∧
    (s.radio.ri[i].nodes.find? fun n => n.ext == p64 q.payload 4) = some n) ∧
    (let q := Req.mk0 (pay 12 [(0, 3), (1, 2)])
    let s₀ : State := asking opNodeControl q ({ up with radio.ri := up.radio.ri.set 3 { allowed := [0] } })
    let s := s₀.elapse q.dt
    let i := riOf q.payload
    let e := p64 q.payload 4
    let a := s.radio.ri[i].allowed
    Takes opNodeControl 12 q s₀ ∧ (p8 q.payload 0).toNat < 4 ∧ p8 q.payload 1 = 2 ∧ a.contains e = true) ∧
    (let q := Req.mk0 (pay 12 [(0, 3), (1, 2)])
    let s₀ : State := asking opNodeControl q up
    let s := s₀.elapse q.dt
    let i := riOf q.payload
    let e := p64 q.payload 4
    let a := s.radio.ri[i].allowed
    Takes opNodeControl 12 q s₀ ∧ (p8 q.payload 0).toNat < 4 ∧ p8 q.payload 1 = 2 ∧ a.contains e = false ∧ a.length < 1023) ∧
    (let q := Req.mk0 (pay 12 [(0, 3), (1, 3)])
    let s₀ : State := asking opNodeControl q up
    Takes opNodeControl 12 q s₀ ∧ (p8 q.payload 0).toNat < 4 ∧ p8 q.payload 1 = 3) ∧
    (let q := Req.mk0 (pay 20 [(0, 3), (1, 31)])
    let s₀ : State := asking opPrivetSet q up
    let p := q.payload
    Takes opPrivetSet 20 q s₀ ∧ (p8 p 0).toNat < 4 ∧ (p8 p 1).toNat < 32) ∧
    (let q := Req.mk0 (pay 109 [(2, 33), (8, 100)])
    let s₀ : State := asking opRadioSend q ({ up with radio.ri := up.radio.ri.set 0 { st := 1, nodes := [{ short := 33, ext := 0 }] } })
    let s := s₀.elapse q.dt
    let x : Node := { short := 33, ext := 0 }
    let p := q.payload
    let i := riOf p
    let r := s.radio.ri[i]
    let n := (p8 p 8).toNat
    Takes opRadioSend (9 + (p8 q.payload 8).toNat) q s₀ ∧ r.node (p16 p 2) = some x ∧ (p8 p 0).toNat < 4 ∧ 1 ≤ n ∧ n ≤ 100 ∧
    r.active = true ∧ (x.sleepy = true → (r.held.filter fun h => h.dest == p16 p 2).length < 4 ∧ r.held.length < 256) ∧
    pbit p 1 1 = false) ∧
    (let q := Req.mk0 (pay 109 [(1, 2), (2, 33), (8, 100)])
    let s₀ : State := asking opRadioSend q ({ up with radio.ri := up.radio.ri.set 0 { st := 1, nodes := [{ short := 33, ext := 0 }] }, box.slot := [(0, { a := { st := .valid, kind := 1, uses := 1 } })] })
    let s := s₀.elapse q.dt
    let x : Node := { short := 33, ext := 0 }
    let p := q.payload
    let i := riOf p
    let r := s.radio.ri[i]
    let n := (p8 p 8).toNat
    let k := ((s.derive r.cfg.privetSlot.toNat 0 (nodeLabel i) 128).toOption).getD (s, [])
    Takes opRadioSend (9 + (p8 q.payload 8).toNat) q s₀ ∧ r.node (p16 p 2) = some x ∧ (p8 p 0).toNat < 4 ∧ 1 ≤ n ∧ n ≤ 100 ∧
    r.active = true ∧ (x.sleepy = true → (r.held.filter fun h => h.dest == p16 p 2).length < 4 ∧ r.held.length < 256) ∧
    pbit p 1 1 = true ∧ (s.derive r.cfg.privetSlot.toNat 0 (nodeLabel i) 128).toOption = some k) ∧
    (let q := Req.mk0 (pay 1 [])
    let s₀ : State := asking opRadioRecv q up
    let s := s₀.elapse q.dt
    let i := riOf q.payload
    Takes opRadioRecv 1 q s₀ ∧ (p8 q.payload 0).toNat < 4 ∧ s.radio.ri[i].rxq = []) ∧
    (let q := Req.mk0 (pay 1 [])
    let s₀ : State := asking opRadioRecv q ({ up with radio.ri := up.radio.ri.set 0 { rxq := [⟨33, 0, 0, []⟩] } })
    let s := s₀.elapse q.dt
    let i := riOf q.payload
    let x := ⟨33, 0, 0, []⟩
    let rest := []
    Takes opRadioRecv 1 q s₀ ∧ (p8 q.payload 0).toNat < 4 ∧ s.radio.ri[i].rxq = x :: rest) ∧
    (let q := Req.mk0 (pay 1 [(0, 0)])
    let s₀ : State := asking opRadioXcvrRead q ({ up with radio.drivers := [⟨0, 0, 0, [], []⟩] })
    let s := s₀.elapse q.dt
    let k := (p8 q.payload 0).toNat
    let d := (⟨0, 0, 0, [], []⟩ : DriverRec)
    Takes opRadioXcvrRead 1 q s₀ ∧ k < 16 ∧ s.radio.drivers[k]? = some d) ∧
    (let q := Req.mk0 (pay 1 [(0, 15)])
    let s₀ : State := asking opRadioXcvrRead q up
    let s := s₀.elapse q.dt
    let k := (p8 q.payload 0).toNat
    Takes opRadioXcvrRead 1 q s₀ ∧ k < 16 ∧ s.radio.drivers[k]? = none) := by
  refine ⟨?_, ?_, ?_, ?_, ?_, ?_, ?_, ?_, ?_, ?_, ?_, ?_, ?_, ?_, ?_⟩ <;> decide +kernel

theorem witness_PierMessagesComplete :
    (let dt : Nat := 0
    let span : Fin 12 := 0
    let m : Msg := { msg0 with payload := [0, 0, 0, 2] }
    let s₀ : State := { up with tre.nodeId := 2, pier.cfg := { enable := true, partnerId := 1 } }
    let s := ((s₀.elapse dt).acceptMsg span m).1
    ((s₀.elapse dt).acceptMsg span m).2 = true ∧ s.fromPartner m = true) ∧
    (let dt : Nat := 0
    let span : Fin 12 := 0
    let m : Msg := { msg0 with payload := [0, 0, 0, 2] }
    let s₀ : State := { up with tre.nodeId := 2, pier.cfg := { enable := true, partnerId := 1 } }
    let s := ((s₀.elapse dt).acceptMsg span m).1
    ((s₀.elapse dt).acceptMsg span m).2 = true ∧ s.fromPartner m = true) ∧
    (let dt : Nat := 0
    let span : Fin 12 := 0
    let m : Msg := { msg0 with payload := [0, 0, 0, 2] }
    let s₀ : State := { up with tre.nodeId := 2, pier.cfg := { enable := true, partnerId := 1 } }
    let s := ((s₀.elapse dt).acceptMsg span m).1
    ((s₀.elapse dt).acceptMsg span m).2 = true ∧ s.fromPartner m = true) ∧
    (let dt : Nat := 0
    let span : Fin 12 := 0
    let m : Msg := { msg0 with payload := [0, 0, 0, 2] }
    let s₀ : State := { up with tre.nodeId := 2, pier.cfg := { enable := true, partnerId := 1 }, pier.partner := [⟨0, 0, 0, 0, 0⟩] }
    let s := ((s₀.elapse dt).acceptMsg span m).1
    let p := m.payload
    let f : U32 := BitVec.ofNat 32 (rdBE p 4 4)
    let seen := s.pier.partner.any fun x => x.frame == f
    ((s₀.elapse dt).acceptMsg span m).2 = true ∧ s.fromPartner m = true ∧ seen = true) ∧
    (let dt : Nat := 0
    let span : Fin 12 := 0
    let m : Msg := { msg0 with payload := [0, 0, 0, 2] }
    let s₀ : State := { up with tre.nodeId := 2, pier.cfg := { enable := true, partnerId := 1 } }
    let s := ((s₀.elapse dt).acceptMsg span m).1
    let p := m.payload
    let f : U32 := BitVec.ofNat 32 (rdBE p 4 4)
    let seen := s.pier.partner.any fun x => x.frame == f
    ((s₀.elapse dt).acceptMsg span m).2 = true ∧ s.fromPartner m = true ∧ seen = false) ∧
    (let dt : Nat := 0
    let span : Fin 12 := 0
    let m : Msg := { msg0 with payload := [0, 0, 0, 2] }
    let s₀ : State := { up with tre.nodeId := 2, pier.cfg := { enable := true, partnerId := 1 } }
    let s := ((s₀.elapse dt).acceptMsg span m).1
    ((s₀.elapse dt).acceptMsg span m).2 = true ∧ s.fromPartner m = true) ∧
    (let dt : Nat := 0
    let span : Fin 12 := 0
    let m : Msg := { msg0 with payload := [0, 0, 0, 2] }
    let s₀ : State := { up with tre.nodeId := 2, pier.cfg := { enable := true, partnerId := 1 } }
    let s := ((s₀.elapse dt).acceptMsg span m).1
    ((s₀.elapse dt).acceptMsg span m).2 = true ∧ s.fromPartner m = true) ∧
    (let dt : Nat := 0
    let span : Fin 12 := 0
    let m : Msg := { msg0 with payload := [0, 0, 0, 2] }
    let s₀ : State := { up with tre.nodeId := 2, pier.cfg := { enable := true, partnerId := 1 } }
    let s := ((s₀.elapse dt).acceptMsg span m).1
    ((s₀.elapse dt).acceptMsg span m).2 = true ∧ s.fromPartner m = true) := by
  refine ⟨?_, ?_, ?_, ?_, ?_, ?_, ?_, ?_⟩ <;> decide +kernel

theorem witness_PierTimersComplete :
    (let dt : Nat := 0
    let s₀ : State := { up with pier.cfg := { enable := true } }
    let s := s₀.elapse dt
    s.heartbeatDue = true) ∧
    (let dt : Nat := 0
    let s₀ : State := { up with pier.cfg := { enable := true } }
    let s := s₀.elapse dt
    s.silenceDue = true) ∧
    (let dt : Nat := 1000000000
    let s₀ : State := { up with pier.cfg := { enable := true }, pier.hb1 := some 0 }
    let s := s₀.elapse dt
    let t : Nat := 0
    s.pier.hb1 = some t ∧ s.paired = true ∧ s.pier.cfg.witnessTrestle = true ∧ s.pier.lostWitness = false ∧
    s.fwExpired (t + s.silenceNs) = true) ∧
    (let dt : Nat := 1000000000
    let s₀ : State := { up with pier.actOut := some true }
    let s := s₀.elapse dt
    s.pier.actOut = some true ∧ s.cycExpired (s.pier.refreshAt + 2 * s.grid.ticksNs 16) = true) ∧
    (let dt : Nat := 0
    let s₀ : State := { up with pier.cfg := { enable := true }, pier.st := 5, pier.clean := 600, grid.st := 2 }
    let s := s₀.elapse dt
    s.revertDue = true) ∧
    (let dt : Nat := 0
    let s₀ : State := { up with pier.pend := some ⟨0, 0, true, true⟩ }
    let s := s₀.elapse dt
    let h := ⟨0, 0, true, true⟩
    s.pier.pend = some h ∧ s.handoverDue h = true) ∧
    (let dt : Nat := 2000001000
    let s₀ : State := { up with pier.cfg := { enable := true }, pier.waitFrom := some 0 }
    let s := s₀.elapse dt
    let t : Nat := 0
    s.pier.waitFrom = some t ∧ s.paired = true ∧ s.fwExpired (t + s.pier.cfg.partnerWaitMs.toNat * 1000000) = true) := by
  refine ⟨?_, ?_, ?_, ?_, ?_, ?_, ?_⟩ <;> decide +kernel

theorem witness_PierCommandsComplete :
    (let q := Req.mk0 (pay 20 [(5, 11), (6, 2), (7, 1), (8, 1), (10, 16), (12, 100)])
    let s₀ : State := asking opPierSet q up
    let s := s₀.elapse q.dt
    let c := pierCfg q.payload
    Takes opPierSet 20 q s₀ ∧ c.ok = true ∧ (s.running = true → c.fixed = s.pier.cfg.fixed)) ∧
    (let q := Req.mk0 (pay 8 [(4, 100)])
    let s₀ : State := asking opPierControl q ({ up with pier.cfg := { enable := true }, grid.st := 2, pier.partnerState := 5,
                                                        pier.hb := some 0 })
    let s := s₀.elapse q.dt
    let m := p32 q.payload 4
    Takes opPierControl 8 q s₀ ∧ s.paired = true ∧ s.running = true ∧ s.holds = true ∧ s.pier.partnerState = 5 ∧
    s.partnerSilent = false ∧ s.pierBusy = false ∧ s.pier.revertAsked = none ∧ 0 ≤ sdiff32 m s.planFrame) ∧
    (let q := Req.mk0 (pay 4 [])
    let s₀ : State := asking opPierControl q ({ up with pier.cfg := { enable := true }, pier.st := 5 })
    let s := s₀.elapse q.dt
    Takes opPierControl 4 q s₀ ∧ s.isStandby = true ∧ s.pierBusy = false ∧ s.pier.revertAsked = none) ∧
    (let q := Req.mk0 (pay 4 [])
    let s₀ : State := asking opPierControl q up
    let s := s₀.elapse q.dt
    Takes opPierControl 4 q s₀ ∧ s.pierBusy = false ∧ s.pier.revertAsked = none) := by
  refine ⟨?_, ?_, ?_, ?_⟩ <;> decide +kernel

theorem witness_BoxwoodCommandsComplete :
    (let q := Req.mk0 (pay 1 [(0, 31)])
    let s₀ : State := asking opSlotInfo q ({ up with box.slot := [(31, { a := { st := .valid, kind := 1, uses := 2 } })] })
    let s := s₀.elapse q.dt
    let n := (p8 q.payload 0).toNat
    let c := { st := .valid, kind := 1, uses := 2 }
    Takes opSlotInfo 1 q s₀ ∧ n < 32 ∧ s.slotSt n = 1 ∧ (s.box.slot.get {} n).best = some c) ∧
    (let q := Req.mk0 (pay 1 [(0, 31)])
    let s₀ : State := asking opSlotInfo q up
    let s := s₀.elapse q.dt
    let n := (p8 q.payload 0).toNat
    Takes opSlotInfo 1 q s₀ ∧ n < 32 ∧ (s.slotSt n ≠ 1 ∨ (s.box.slot.get {} n).best = none)) ∧
    (let q := Req.mk0 (pay 1 [(0, 63)])
    let s₀ : State := asking opWkStatus q ({ up with box.wk := [(63, { blob := true, root := 31, use := 1, id := 0,
                                                                       used := 0 })] })
    let s := s₀.elapse q.dt
    let n := (p8 q.payload 0).toNat
    let r := s.box.wk.find? fun e => e.1 == n
    let e := (63, { blob := true, root := 31, use := 1, id := 0, used := 0 })
    Takes opWkStatus 1 q s₀ ∧ n < 64 ∧ r = some e) ∧
    (let q := Req.mk0 (pay 1 [(0, 63)])
    let s₀ : State := asking opWkStatus q up
    let s := s₀.elapse q.dt
    let n := (p8 q.payload 0).toNat
    let r := s.box.wk.find? fun e => e.1 == n
    Takes opWkStatus 1 q s₀ ∧ n < 64 ∧ r = none) ∧
    (let q := Req.mk0 (pay 1 [(0, 7)])
    let s₀ : State := asking opOfficerRead q ({ up with box.officer := [(7, ⟨[], []⟩)] })
    let s := s₀.elapse q.dt
    let n := (p8 q.payload 0).toNat
    let r := s.officers.find? fun o => o.1 == n
    let o := (7, ⟨[], []⟩)
    Takes opOfficerRead 1 q s₀ ∧ n < 8 ∧ r = some o) ∧
    (let q := Req.mk0 (pay 1 [(0, 7)])
    let s₀ : State := asking opOfficerRead q up
    let s := s₀.elapse q.dt
    let n := (p8 q.payload 0).toNat
    let r := s.officers.find? fun o => o.1 == n
    Takes opOfficerRead 1 q s₀ ∧ n < 8 ∧ r = none) ∧
    (let q := Req.mk0 (pay 36 [(32, 31)])
    let s₀ : State := asking opChallenge q ({ up with box.slot := [(31, { a := { st := .valid, kind := 1, uses := 0x10 } })] })
    let s := s₀.elapse q.dt
    let c : SlotCopy := { st := .valid, kind := 1, uses := 0x10 }
    let n := (p8 q.payload 0x20).toNat
    Takes opChallenge 36 q s₀ ∧ n < 32 ∧ (s.slotFor n).toOption = some c ∧ c.kind = 1 ∧ c.may 4 = true) ∧
    (let q := Req.mk0 (pay 6 [(0, 3), (2, 1)])
    let s₀ : State := asking opPropose q ({ up with box.officer := [(0, ⟨[], []⟩)] })
    let s := s₀.elapse q.dt
    let kind := (p8 q.payload 0).toNat
    let body := bytesAt q.payload 4 (rd q.payload 2 2)
    let plain := if kind = 1 then s.slotWritePlain body else none
    Takes opPropose (4 + rd q.payload 2 2) q s₀ ∧ s.proposalCheck kind body plain = .ok ∧ s.box.proposal = none) ∧
    (let q := Req.mk0 (pay 4 [])
    let s₀ : State := asking opProposalCancel q ({ up with box.proposal := some { id := 0, kind := 3, body := [0], nonce := 0,
                                                                                  openedAt := 0 } })
    let s := s₀.elapse q.dt
    let p : Proposal := { id := 0, kind := 3, body := [0], nonce := 0, openedAt := 0 }
    Takes opProposalCancel 4 q s₀ ∧ s.box.proposal = some p ∧ p.id = p32 q.payload 0) := by
  refine ⟨?_, ?_, ?_, ?_, ?_, ?_, ?_, ?_, ?_⟩ <;> decide +kernel

theorem witness_BoxwoodCommandsComplete_8 :
    (let q := Req.mk0 (pay 16 [(0, 76), (1, 66), (2, 88), (3, 66), (8, 31), (9, 1)] ++
      be 56 0x644e9173160a3f2dd6c3b8d2c5d88af40320944bae2bc6684ef6e9a37f995d9ec9dcc1ac3c9afe716ec1f97459f346d5cad78c523b853fa0)
    let s₀ : State := asking opKeyLoad q ({ up with box.slot := [(31, { a := { st := .valid, kind := 1, uses := 2 } })],
                                                    sh.staged.blob := some (0, 31, 1, 0) })
    let s := s₀.elapse q.dt
    let w : State × List U8 := (s.derive 31 1 (ascii "WRAP" ++ be 4 0) 256).toOption.getD (s, [])
    let p : List U8 := pay 48 [(36, 1), (37, 1)]
    let b := q.payload
    let id := p32 b 4
    let root := (p8 b 8).toNat
    let r := w.1.keep { blob := true, root := root, use := p8 b 9, id := id, key := bytesAt p 0 (if p8 p 37 = 1 then 16 else
                                                                                                 32), used := 0 }
    let x := (0, 31, 1, 0)
    Takes opKeyLoad 72 q s₀ ∧ rd b 0 4 = 0x4258424C ∧ root < 32 ∧ (p8 b 9 = 1 ∨ p8 b 9 = 2) ∧ s.box.lock = false ∧
    (s.derive root 1 (ascii "WRAP" ++ be 4 (rd b 0x0C 4)) 256).toOption = some w ∧
    keyUnwrap w.2 (bytesAt b 0x10 56) = some p ∧ p32 p 32 = id ∧ p8 p 36 = p8 b 9 ∧
    (rd p 40 8 = 0 ∨ w.1.seconds ≤ rd p 40 8) ∧ r.1.sh.staged.blob = some x ∧ x.1 = id ∧ x.2.1.toNat = root ∧
    x.2.2.1 = p8 b 9) := by
  decide +kernel

theorem witness_BoxwoodCommandsComplete_9 :
    (let q := Req.mk0 (pay 16 [(0, 76), (1, 66), (2, 88), (3, 66), (8, 31), (9, 1)] ++
      be 56 0x644e9173160a3f2dd6c3b8d2c5d88af40320944bae2bc6684ef6e9a37f995d9ec9dcc1ac3c9afe716ec1f97459f346d5cad78c523b853fa0)
    let s₀ : State := asking opKeyLoad q ({ up with box.slot := [(31, { a := { st := .valid, kind := 1, uses := 2 } })] })
    let s := s₀.elapse q.dt
    let w : State × List U8 := (s.derive 31 1 (ascii "WRAP" ++ be 4 0) 256).toOption.getD (s, [])
    let p : List U8 := pay 48 [(36, 1), (37, 1)]
    let b := q.payload
    let id := p32 b 4
    let root := (p8 b 8).toNat
    let r := w.1.keep { blob := true, root := root, use := p8 b 9, id := id, key := bytesAt p 0 (if p8 p 37 = 1 then 16 else
                                                                                                 32), used := 0 }
    Takes opKeyLoad 72 q s₀ ∧ rd b 0 4 = 0x4258424C ∧ root < 32 ∧ (p8 b 9 = 1 ∨ p8 b 9 = 2) ∧ s.box.lock = false ∧
    (s.derive root 1 (ascii "WRAP" ++ be 4 (rd b 0x0C 4)) 256).toOption = some w ∧
    keyUnwrap w.2 (bytesAt b 0x10 56) = some p ∧ p32 p 32 = id ∧ p8 p 36 = p8 b 9 ∧
    (rd p 40 8 = 0 ∨ w.1.seconds ≤ rd p 40 8) ∧
    (∀ x ∈ r.1.sh.staged.blob, ¬(x.1 = id ∧ x.2.1.toNat = root ∧ x.2.2.1 = p8 b 9))) := by
  decide +kernel

theorem witness_BoxwoodCommandsComplete_12 :
    (let q := Req.mk0 (pay 8 [(4, 7)] ++ be 97 showKey ++ pay 7 [] ++
      be 48 0x2ca8c560f92280756d4d4e5903043a370532b246669e6110b033f9ab150d51863208e24bd70ce3738d027638bbd54cd2 ++
      be 48 0xc17e8dfdbb6f82cb7a84a12448babdf58d1c5ecb423faba2d06af715bdd170998b03835844c5134d19bcbdb1c57c18ba)
    let s₀ : State := asking opApprove q ({ up with box.officer := [(7, ⟨[], sha256 (be 97 showKey)⟩)],
                                                    box.proposal := some { id := 0, kind := 3, body := [0], nonce := 0,
                                                                           openedAt := 0 } })
    let s := s₀.elapse q.dt
    let p : Proposal := { id := 0, kind := 3, body := [0], nonce := 0, openedAt := 0 }
    let o : Officer := ⟨[], sha256 (be 97 showKey)⟩
    let i := (p8 q.payload 4).toNat
    let key := bytesAt q.payload 8 97
    Takes opApprove 208 q s₀ ∧ s.box.proposal = some p ∧ i < 8 ∧ (p.kind = 8 → s.box.tampered = false) ∧
    p.id = p32 q.payload 0 ∧ s.fwExpired p.lapseAt = false ∧ s.approver p i = some o ∧ o.keyHash = sha256 key ∧
    ecdsaVerify key (s.approvalMessage p) (rdBE q.payload 0x70 48) (rdBE q.payload 0xA0 48) = true ∧ p.approvals = []) := by
  decide +kernel

theorem witness_BoxwoodCommandsComplete_13 :
    (let q := Req.mk0 (pay 8 [(4, 7)] ++ be 97 showKey ++ pay 7 [] ++
      be 48 0x2ca8c560f92280756d4d4e5903043a370532b246669e6110b033f9ab150d51863208e24bd70ce3738d027638bbd54cd2 ++
      be 48 0xc17e8dfdbb6f82cb7a84a12448babdf58d1c5ecb423faba2d06af715bdd170998b03835844c5134d19bcbdb1c57c18ba)
    let s₀ : State := asking opApprove q ({ up with box.officer := [(7, ⟨[], sha256 (be 97 showKey)⟩)],
                                                    box.proposal := some { id := 0, kind := 3, body := [0], nonce := 0,
                                                                           openedAt := 0, approvals := [7] } })
    let s := s₀.elapse q.dt
    let p : Proposal := { id := 0, kind := 3, body := [0], nonce := 0, openedAt := 0, approvals := [7] }
    let o : Officer := ⟨[], sha256 (be 97 showKey)⟩
    let i := (p8 q.payload 4).toNat
    let key := bytesAt q.payload 8 97
    Takes opApprove 208 q s₀ ∧ s.box.proposal = some p ∧ i < 8 ∧ (p.kind = 8 → s.box.tampered = false) ∧
    p.id = p32 q.payload 0 ∧ s.fwExpired p.lapseAt = false ∧ s.approver p i = some o ∧ o.keyHash = sha256 key ∧
    ecdsaVerify key (s.approvalMessage p) (rdBE q.payload 0x70 48) (rdBE q.payload 0xA0 48) = true ∧ i ∈ p.approvals) := by
  decide +kernel

theorem witness_BoxwoodCommandsComplete_14 :
    (let q := Req.mk0 (pay 8 [(4, 7)] ++ be 97 showKey ++ pay 7 [] ++
      be 48 0x2ca8c560f92280756d4d4e5903043a370532b246669e6110b033f9ab150d51863208e24bd70ce3738d027638bbd54cd2 ++
      be 48 0xc17e8dfdbb6f82cb7a84a12448babdf58d1c5ecb423faba2d06af715bdd170998b03835844c5134d19bcbdb1c57c18ba)
    let s₀ : State := asking opApprove q ({ up with box.officer := [(7, ⟨[], sha256 (be 97 showKey)⟩)],
                                                    box.proposal := some { id := 0, kind := 3, body := [0], nonce := 0,
                                                                           openedAt := 0, approvals := [1] } })
    let s := s₀.elapse q.dt
    let writeFails : Nat := 0
    let p : Proposal := { id := 0, kind := 3, body := [0], nonce := 0, openedAt := 0, approvals := [1] }
    let o : Officer := ⟨[], sha256 (be 97 showKey)⟩
    let i := (p8 q.payload 4).toNat
    let key := bytesAt q.payload 8 97
    let t := s.raiseProposal p 2 i
    let u := ({ t with box.proposal := none } : State).applyProposal p writeFails |>.getD t
    let v := { t with box.proposal := none }
    Takes opApprove 208 q s₀ ∧ s.box.proposal = some p ∧ i < 8 ∧ (p.kind = 8 → s.box.tampered = false) ∧
    p.id = p32 q.payload 0 ∧ s.fwExpired p.lapseAt = false ∧ s.approver p i = some o ∧ o.keyHash = sha256 key ∧
    ecdsaVerify key (s.approvalMessage p) (rdBE q.payload 0x70 48) (rdBE q.payload 0xA0 48) = true ∧ p.approvals ≠ [] ∧
    i ∉ p.approvals ∧ v.proposalCheck p.kind p.body (if p.kind = 1 then some p.plain else none) = .ok ∧
    v.applyProposal p writeFails = some u) := by
  decide +kernel

theorem witness_TamperEventsComplete :
    (let dt : Nat := 0
    let s₀ : State := up
    let s := s₀.elapse dt
    let n : Fin 4 := 3
    s.sys.fuses.grade = 2 ∧ s.box.tamper.en.getLsbD n.val = true) ∧
    (let dt : Nat := 0
    let s₀ : State := { up with box.tamper.en := 7 }
    let s := s₀.elapse dt
    let n : Fin 4 := 3
    s.sys.fuses.grade = 2 ∧ s.box.tamper.en.getLsbD n.val = false) ∧
    (let dt : Nat := 300000001000
    let s₀ : State := { up with box.proposal := some { id := 0, kind := 3, body := [0], nonce := 0, openedAt := 0 } }
    let s := s₀.elapse dt
    let p : Proposal := { id := 0, kind := 3, body := [0], nonce := 0, openedAt := 0 }
    s.box.proposal = some p ∧ s.fwExpired p.lapseAt = true) := by
  refine ⟨?_, ?_, ?_⟩ <;> decide +kernel

theorem witness_TransportEventsComplete :
    (let dt : Nat := 0
    let s₀ : State := up
    let s := s₀.elapse dt
    (s.mb.engine = 1 ∨ s.mb.engine = 2)) ∧
    (let dt : Nat := 1001000
    let s₀ : State := { up with mb.ch := up.mb.ch.set 7 { msgWait := some 0, inbox := [(.ring, [])] } }
    let s := s₀.elapse dt
    let c := 7
    let f := ⟨.ring, [], 0, true⟩
    let t := 0
    s.mb.ch[c].msgWait = some t ∧ s.front c = some f ∧ s.fwExpired (t + 1000000) = true) ∧
    (let dt : Nat := 0
    let s₀ : State := { up with mb.ch := up.mb.ch.set 7 { discard := true, rsp := some ⟨0, 0, 0, 0, 0, 0, [], none, .ring,
                                                                                        true⟩ } }
    let s := s₀.elapse dt
    let c : Fin 8 := 7
    let r : Rsp := ⟨0, 0, 0, 0, 0, 0, [], none, .ring, true⟩
    let ch := s.mb.ch[c]
    ch.rsp = some r ∧ ch.discard = true) ∧
    (let dt : Nat := 0
    let s₀ : State := { up with mb.ch := up.mb.ch.set 7 { rsp := some ⟨0, 0, 0, 0, 0, 0, [], none, .ring, true⟩ } }
    let s := s₀.elapse dt
    let c : Fin 8 := 7
    let r : Rsp := ⟨0, 0, 0, 0, 0, 0, [], none, .ring, true⟩
    let ch := s.mb.ch[c]
    ch.rsp = some r ∧ ch.discard = false ∧ r.via = .ring ∧ ch.room r = true) ∧
    (let dt : Nat := 0
    let s₀ : State := { up with mb.ch := up.mb.ch.set 7 { rspTail := 48, rsp := some ⟨0, 0, 0, 0, 0, 0, [], none, .ring,
                                                                                      true⟩ } }
    let s := s₀.elapse dt
    let c : Fin 8 := 7
    let r : Rsp := ⟨0, 0, 0, 0, 0, 0, [], none, .ring, true⟩
    let ch := s.mb.ch[c]
    ch.rsp = some r ∧ ch.discard = false ∧ r.via = .ring ∧ ch.room r = false) ∧
    (let dt : Nat := 0
    let s₀ : State := { up with mb.ch := up.mb.ch.set 7 { rsp := some ⟨0, 0, 0, 0, 0, 0, [], none, .relay 0, true⟩ } }
    let s := s₀.elapse dt
    let c : Fin 8 := 7
    let r : Rsp := ⟨0, 0, 0, 0, 0, 0, [], none, .relay 0, true⟩
    let ch := s.mb.ch[c]
    ch.rsp = some r ∧ ch.discard = false ∧ r.via ≠ .ring) ∧
    (let dt : Nat := 1000001000
    let s₀ : State := { up with mb.ch := up.mb.ch.set 7 { stall := some 0 } }
    let s := s₀.elapse dt
    let c : Fin 8 := 7
    let t : Nat := 0
    let ch := s.mb.ch[c]
    ch.stall = some t ∧ s.fwExpired (t + ch.rspStallMs.toNat * 1000000) = true ∧ ch.stallRaised = false) ∧
    (let dt : Nat := 0
    let s₀ : State := { up with mb.ev.cfg.ringHost := true }
    let s := s₀.elapse dt
    let user : DmaUser := .eventRing
    s.dmaActive user = true) ∧
    (let dt : Nat := 0
    let s₀ : State := { up with net.eth := up.net.eth.set 3 { hc := { cfg := { rxEn := true } } } }
    let s := s₀.elapse dt
    let user : DmaUser := .rxRing 3
    s.dmaOverdue user = true) := by
  refine ⟨?_, ?_, ?_, ?_, ?_, ?_, ?_, ?_, ?_⟩ <;> decide +kernel

theorem witness_SerialAndRelayComplete :
    (let dt : Nat := 0
    let s₀ : State := { up with mb.spi := true }
    let s := s₀.elapse dt
    s.mb.spi = true) ∧
    (let dt : Nat := 0
    let s₀ : State := { up with mb.spi := true }
    let s := s₀.elapse dt
    let ins : U8 := 0
    s.mb.spi = true ∧ [0x02#8, 0x0B#8, 0x38#8, 0xEB#8, 0x05#8].contains ins = false) ∧
    (let dt : Nat := 20000000
    let s₀ : State := { up with mb.spi := true }
    let s := s₀.elapse dt
    let idle : Nat := 10000004
    s.mb.spi = true ∧ 10000000 ≤ idle ∧ s.cycExpired (s.now - (idle - 10000000)) = true) ∧
    (let dt : Nat := 0
    let s₀ : State := up
    let s := s₀.elapse dt
    let d : Datagram := ⟨3, 0, 0, true, []⟩
    let t := s.rxTake d.eth (rxQueue d.eth.val 1)
    (t.mb.engine = 1 ∧ d.eth = 0 ∧ p8 d.data 7 = 6 ∨ t.mb.engine = 2 ∧
     (t.pwr.mode ≠ .standby ∨ t.pwr.keepEth.getLsbD d.eth.val = true)) ∧
    t.mb.udp.portMask.getLsbD d.eth.val = true ∧ d.fragmented = true) ∧
    (let dt : Nat := 0
    let s₀ : State := up
    let s := s₀.elapse dt
    let d : Datagram := ⟨3, 0, 0, false, []⟩
    let t := s.rxTake d.eth (rxQueue d.eth.val 1)
    (t.mb.engine = 1 ∧ d.eth = 0 ∧ p8 d.data 7 = 6 ∨ t.mb.engine = 2 ∧
     (t.pwr.mode ≠ .standby ∨ t.pwr.keepEth.getLsbD d.eth.val = true)) ∧
    t.mb.udp.portMask.getLsbD d.eth.val = true ∧ d.fragmented = false) ∧
    (let dt : Nat := 0
    let span : Fin 12 := 0
    let m : Msg := { msg0 with payload := [0, 0, 0, 0, 0, 0, 1] }
    let s₀ : State := { up with tre.nodeId := 2 }
    ((s₀.elapse dt).acceptMsg span m).2 = true ∧ (msgHead m.payload).response = true) ∧
    (let dt : Nat := 0
    let span : Fin 12 := 0
    let m : Msg := msg0
    let s₀ : State := { up with tre.nodeId := 2 }
    let s := ((s₀.elapse dt).acceptMsg span m).1
    ((s₀.elapse dt).acceptMsg span m).2 = true ∧ (msgHead m.payload).response = false ∧ s.mb.engine = 2) ∧
    (let dt : Nat := 500001000
    let s₀ : State := { up with mb.relay := some ⟨0, 0, 0, 0, 0⟩ }
    let s := s₀.elapse dt
    let r := ⟨0, 0, 0, 0, 0⟩
    s.mb.relay = some r ∧ s.fwExpired (r.since + s.mb.udp.relayWaitMs.toNat * 1000000) = true) ∧
    (let dt : Nat := 0
    let span : Fin 12 := 0
    let m : Msg := msg0
    let s₀ : State := { up with tre.nodeId := 2 }
    ((s₀.elapse dt).acceptMsg span m).2 = true ∧ rdBE m.payload 10 1 = 0) ∧
    (let dt : Nat := 0
    let span : Fin 12 := 0
    let m : Msg := { msg0 with payload := [0, 0, 0, 0, 0, 0, 0, 0, 0, 0, 1] }
    let s₀ : State := { up with tre.nodeId := 2 }
    ((s₀.elapse dt).acceptMsg span m).2 = true ∧ rdBE m.payload 10 1 ≠ 0) := by
  refine ⟨?_, ?_, ?_, ?_, ?_, ?_, ?_, ?_, ?_, ?_⟩ <;> decide +kernel

theorem witness_TransportCommandsComplete :
    (let q := Req.mk0 (pay 8 [(0, 7), (2, 7), (4, 10)])
    let s₀ : State := asking opMbConfig q up
    let s := s₀.elapse q.dt
    let p := q.payload
    let carrier := s.mb.ch[q.ch].bind
    Takes opMbConfig 8 q s₀ ∧ (p8 p 0).toNat < 8 ∧ (p8 p 2).toNat < 8 ∧ 10 ≤ rd p 4 2 ∧ rd p 4 2 ≤ 60000 ∧
    (BitVec.ofNat 8 (pbits p 1 0 2) = carrier ∨ ∃ x : Fin 8, x.val ≠ (p8 p 0).toNat ∧ s.mb.ch[x].bind = carrier)) ∧
    (let q := Req.mk0 (pay 1 [(0, 7)])
    let s₀ : State := asking opMbStatus q up
    let x : Fin 8 := 7
    Takes opMbStatus 1 q s₀ ∧ (p8 q.payload 0).toNat = x.val) ∧
    (let q := Req.mk0 (pay 48 [(0, 1), (1, 7), (2, 64), (4, 1)])
    let s₀ : State := asking opEventSet q up
    let s := s₀.elapse q.dt
    let c := eventCfg q.payload
    Takes opEventSet 48 q s₀ ∧ c.vector.toNat < 8 ∧ ringEntries c.entries.toNat = true ∧ 1 ≤ c.irqUs.toNat ∧
    c.irqUs.toNat ≤ 10000 ∧ c.base.toNat % 32 = 0 ∧ (c.ringHost = true → s.mb.spi = false)) ∧
    (let q := Req.mk0 (pay 8 [(0, 31), (4, 10)])
    let s₀ : State := asking opUdpMbSet q up
    let p := q.payload
    Takes opUdpMbSet 8 q s₀ ∧ (p8 p 0).toNat < 32 ∧ rd p 2 2 ≤ 1000 ∧ 10 ≤ rd p 4 2 ∧ rd p 4 2 ≤ 2000) ∧
    (let q := Req.mk0 (pay 1 [(0, 64)])
    let s₀ : State := asking opEventRead q up
    let s := s₀.elapse q.dt
    let n := (p8 q.payload 0).toNat
    Takes opEventRead 1 q s₀ ∧ 1 ≤ n ∧ n ≤ 64 ∧ s.mb.ev.cfg.ringHost = false) ∧
    (let q := Req.mk0 (pay 72 [])
    let s₀ : State := asking opRelay q up
    let s := s₀.elapse q.dt
    let bulk := (msgHead (bytesAt q.payload 8 64)).bulk
    Takes opRelay (72 + rd q.payload 12 2) q s₀ ∧ s.mb.relay = none ∧ bulk = false) ∧
    (let q := Req.mk0 (pay 88 [(12, 16), (14, 2), (80, 64), (84, 1)])
    let s₀ : State := asking opRelay q up
    let s := s₀.elapse q.dt
    let len := rd q.payload 12 2
    let bulk := (msgHead (bytesAt q.payload 8 64)).bulk
    let off := 8 + 64 + len - 16
    let n := rd q.payload (off + 8) 4
    let b := { q with bulk := true }
    let data := (bulkBytes b off n s).getD []
    Takes opRelay (72 + rd q.payload 12 2) q s₀ ∧ s.mb.relay = none ∧ bulk = true ∧ 16 ≤ len ∧ s.mb.ch[q.ch].bind = 0 ∧
    1 ≤ n ∧ n ≤ 4096 ∧ bulkDenied b off n s = false ∧ s.mb.bulkFault.getLsbD q.ch.val = false ∧
    bulkBytes b off n s = some data) := by
  refine ⟨?_, ?_, ?_, ?_, ?_, ?_, ?_⟩ <;> decide +kernel

theorem witness_SystemCommandsComplete :
    (let q := Req.mk0 (pay 4 [(0, 69), (1, 83)])
    let s₀ : State := asking opSysReset q up
    Takes opSysReset 4 q s₀ ∧ p16 q.payload 0 = 0x5345) ∧
    (let dt : Nat := 0
    let s₀ : State := { up with sys.reset := .at 0 }
    let s := s₀.elapse dt
    let t : Nat := 0
    s.sys.reset = .at t ∧ t ≤ s.now ∧ s.flash.update.recording = false) ∧
    (let q := Req.mk0 (pay 4 [(0, 2), (1, 1)])
    let s₀ : State := asking opSettingsSave q up
    let s := s₀.elapse q.dt
    let x : Stored := ⟨1, 0, 1, []⟩
    let next := (p8 q.payload 0).toNat
    let b : Fin 2 := if s.sys.boot.bank = 1 then 1 else 0
    let t := s.saveSettings b next (pbit q.payload 1 0)
    Takes opSettingsSave 4 q s₀ ∧ next ≤ 2 ∧ newerCopy (·.seq) t.flash.stored[b] = some x) ∧
    (let q := Req.mk0 (.replicate 3008 0)
    let s₀ : State := asking opDiagEcho q up
    Takes opDiagEcho 0 q s₀ ∧ q.payload.length ≤ 3008) ∧
    (let q := Req.mk0 (pay 8 [(0, 15)])
    let s₀ : State := asking opDiagSelftest q up
    let s := s₀.elapse q.dt
    let tests := pbits q.payload 0 0 4
    Takes opDiagSelftest 8 q s₀ ∧ tests ≠ 0 ∧ s.running = false ∧ s.sys.selfTest = none) ∧
    (let dt : Nat := 0
    let s₀ : State := { up with sys.selfTest := some ⟨12, 0⟩ }
    let s := s₀.elapse dt
    let t : SelfTest := ⟨12, 0⟩
    s.sys.selfTest = some t) ∧
    (let q := Req.mk0 (pay 20 [(0, 70), (1, 73), (2, 78), (3, 74), (4, 5), (5, 255), (8, 6)])
    let s₀ : State := asking opDiagFaultInject q up
    let s := s₀.elapse q.dt
    let kind := (p8 q.payload 4).toNat
    let count := (p8 q.payload 5).toNat
    let arg := rd q.payload 8 4
    let apply := p32 q.payload 12
    Takes opDiagFaultInject 20 q s₀ ∧ p32 q.payload 0 = 0x4A4E4946 ∧ injectOk kind count arg = true ∧
    s.mb.ch[q.ch].bind = 0 ∧ (kind < 4 ∨ s.running = false ∨ s.changeLate apply = false)) := by
  refine ⟨?_, ?_, ?_, ?_, ?_, ?_, ?_⟩ <;> decide +kernel

theorem witness_SupplyEventsComplete :
    (let dt : Nat := 0
    let s₀ : State := { up with pwr.mode := .off }
    let s := s₀.elapse dt
    s.pwr.mode = .off) ∧
    (let dt : Nat := 0
    let s₀ : State := up
    let s := s₀.elapse dt
    s.pwr.mode ≠ .off ∧ s.pwr.vinLow = false) ∧
    (let dt : Nat := 0
    let s₀ : State := { up with pwr.vinLow := true }
    let s := s₀.elapse dt
    s.pwr.mode ≠ .off ∧ s.pwr.vinLow = true) ∧
    (let dt : Nat := 0
    let s₀ : State := { up with pwr.vddio := .replicate 2 1619 }
    let s := s₀.elapse dt
    let bank : Fin 2 := 1
    let mv : Nat := 1620
    let was := s.pwr.vddio[bank]
    was < 1620 ∧ 1620 ≤ mv) ∧
    (let dt : Nat := 0
    let s₀ : State := up
    let s := s₀.elapse dt
    let bank : Fin 2 := 1
    let was := s.pwr.vddio[bank]
    1620 ≤ was) ∧
    (let dt : Nat := 0
    let s₀ : State := up
    let s := s₀.elapse dt
    let t := { s with sys.resetN := false }
    t.vinGone = false) ∧
    (let dt : Nat := 0
    let s₀ : State := { up with pwr.mode := .off, pwr.tripAt := none }
    let s := s₀.elapse dt
    let t := { s with sys.resetN := false }
    t.vinGone = true) ∧
    (let dt : Nat := 0
    let s₀ : State := { up with sys.resetN := false }
    let s := s₀.elapse dt
    s.sys.resetN = false) ∧
    (let dt : Nat := 0
    let s₀ : State := State.reset
    let s := s₀.elapse dt
    s.mb.engine = 0 ∧ s.pwr.mode = .run ∧ s.sys.resetN = true) ∧
    (let dt : Nat := 10000001000
    let s₀ : State := { State.reset with flash.record := #v[some { state := #v[1, 1] }, none] }
    let s := s₀.elapse dt
    let f := s.flash.bankFails s.flash.bootRec.bank 1 true
    s.mb.engine = 0 ∧ s.pwr.mode = .run ∧ s.sys.resetN = true ∧ s.fwExpired (s.sys.bootAt + 10000000000) = true ∧
    f.2.isSome = true) ∧
    (let dt : Nat := 10000001000
    let s₀ : State := { State.reset with flash.record := #v[some { state := #v[1, 0] }, none] }
    let s := s₀.elapse dt
    let f := s.flash.bankFails s.flash.bootRec.bank 1 true
    s.mb.engine = 0 ∧ s.pwr.mode = .run ∧ s.sys.resetN = true ∧ s.fwExpired (s.sys.bootAt + 10000000000) = true ∧ f.2 = none) ∧
    (let dt : Nat := 0
    let s₀ : State := { up with pwr.mode := .standby, pwr.wakes := [0] }
    let s := s₀.elapse dt
    s.wakeDue = true) := by
  refine ⟨?_, ?_, ?_, ?_, ?_, ?_, ?_, ?_, ?_, ?_, ?_, ?_⟩ <;> decide +kernel

theorem witness_PowerCommandsComplete :
    (let q : Req := Req.mk0 (pay 4 [])
    let s₀ : State := asking opPowerModeSet q { up with pwr.mode := .standby }
    s₀.mb.engine = 2 ∧ s₀.asked opPowerModeSet q = true ∧ s₀.mb.ch[q.ch].svc.any (·.abort) = false ∧ 4 ≤ q.payload.length ∧
    p8 q.payload 0 = 0) ∧
    (let q := Req.mk0 (pay 4 [(0, 1)])
    let s₀ : State := asking opPowerModeSet q ({ up with pwr.wakes := [1000000000] })
    let s := s₀.elapse q.dt
    Takes opPowerModeSet 4 q s₀ ∧ p8 q.payload 0 = 1 ∧ s.wakeAhead = true ∧ s.running = false ∧ s.flash.update.st ≠ 1 ∧
    s.flash.update.st ≠ 2 ∧ s.sys.selfTest = none) ∧
    (let q := Req.mk0 (pay 72 [(0, 8), (2, 244), (3, 1)])
    let s₀ : State := asking opWakeScheduleSet q up
    Takes opWakeScheduleSet 72 q s₀ ∧ (p8 q.payload 0).toNat ≤ 8 ∧ 500 ≤ rd q.payload 2 2 ∧ rd q.payload 2 2 ≤ 50000) ∧
    (let dt : Nat := 0
    let s₀ : State := up
    let s := s₀.elapse dt
    s.pwr.mode ≠ .off) ∧
    (let dt : Nat := 100000000
    let s₀ : State := { up with pwr.thermal := { level := 2, tj := 28160 } }
    let s := s₀.elapse dt
    let x := s.pwr.thermal
    x.level = 2 ∧ x.stepAt + 100000000 ≤ s.now ∧ deg x.cfg.throttleC.toNat ≤ x.tj ∧ x.cfg.floor < x.eighths) ∧
    (let dt : Nat := 1000000000
    let s₀ : State := { up with pwr.thermal := { level := 2, eighths := 7 } }
    let s := s₀.elapse dt
    let x := s.pwr.thermal
    x.level = 2 ∧ x.stepAt + 1000000000 ≤ s.now ∧ x.tj < deg ((x.cfg.throttleC.toNat : Int) - 5) ∧ x.eighths < 8) ∧
    (let dt : Nat := 20000000
    let s₀ : State := { up with pwr.thermal.stop := some (0, false) }
    let s := s₀.elapse dt
    s.powerDownDue = true) ∧
    (let dt : Nat := 0
    let s₀ : State := up
    let s := s₀.elapse dt
    let reading : List Int := .replicate 29 32000
    2 ≤ ((List.range 29).filter fun i => decide (deg 125 ≤ readingAt reading i)).length ∧ s.pwr.mode ≠ .off) ∧
    (let dt : Nat := 60000000000
    let s₀ : State := { up with pwr.mode := .off, pwr.tripAt := some 0, pwr.thermal.cfg := { restartEn := true } }
    let s := s₀.elapse dt
    let die : Int := 23040
    let t : Nat := 0
    let c := s.pwr.thermal.cfg
    s.pwr.tripAt = some t ∧ s.pwr.mode = .off ∧ c.restartEn = true ∧ t + c.restartS.toNat * 1000000000 ≤ s.now ∧
    die ≤ deg ((c.warnC.toNat : Int) - 10)) ∧
    (let q := Req.mk0 (pay 8 [(0, 100), (1, 110), (2, 115), (3, 4), (4, 10)])
    let s₀ : State := asking opThermalSet q up
    let c := thermalCfg q.payload
    Takes opThermalSet 8 q s₀ ∧ 60 ≤ c.warnC.toNat ∧ c.warnC.toNat < c.throttleC.toNat ∧ c.throttleC.toNat ≤ 110 ∧
    70 ≤ c.throttleC.toNat ∧ c.warnC.toNat ≤ 100 ∧ c.throttleC.toNat < c.stopC.toNat ∧ 75 ≤ c.stopC.toNat ∧
    c.stopC.toNat ≤ 115 ∧ 4 ≤ c.floor ∧ c.floor ≤ 7 ∧ 10 ≤ c.restartS.toNat ∧ c.restartS.toNat ≤ 3600) := by
  refine ⟨?_, ?_, ?_, ?_, ?_, ?_, ?_, ?_, ?_, ?_⟩ <;> decide +kernel

theorem witness_UpdateCompletes :
    (let q := Req.mk0 (pay 4 [])
    let s₀ : State := asking opUpdateBegin q up
    let s := s₀.elapse q.dt
    let n := rd q.payload 0 4
    Takes opUpdateBegin 4 q s₀ ∧ s.box.lock = false ∧ n ≤ 0x1E00000 ∧ s.flash.update.open_ = false ∧
    s.flash.update.recording = false) ∧
    (let q := Req.mk0 (pay 72 [(4, 64)])
    let s₀ : State := asking opUpdateBlock q ({ up with flash.update := { st := 1, bytes := 64 } })
    let s := s₀.elapse q.dt
    let b : List U8 := bytesAt q.payload 8 64
    let n := rd q.payload 4 2
    let off := rd q.payload 0 4
    let u := s.flash.update
    let gs := granulesOf off b
    let new := gs.filter fun g => u.granules.get [] g.1 == []
    Takes opUpdateBlock (max 8 (needBulk q 8 (rd q.payload 4 2))) q s₀ ∧ s.box.lock = false ∧ 1 ≤ n ∧
    n ≤ (if q.bulk then 4096 else 4024) ∧
    (q.bulk = true → q.payload.length = 24 ∧ bulkDenied q 8 n s = false ∧ s.mb.bulkFault.getLsbD q.ch.val = false) ∧
    bulkBytes q 8 n s = some b ∧ u.st = 1 ∧ off % 64 = 0 ∧ off + n ≤ u.bytes ∧ (n % 64 = 0 ∨ off + n = u.bytes) ∧
    (∀ g ∈ gs, u.granules.get [] g.1 = [] ∨ u.granules.get [] g.1 = g.2) ∧
    (64 * (u.buffered.length + new.length) ≤ 0x40000 ∨ new = [])) ∧
    (let dt : Nat := 0
    let s₀ : State := { up with flash.update.st := 1 }
    let s := s₀.elapse dt
    let u := s.flash.update
    u.open_ = true) ∧
    (let dt : Nat := 600000001000
    let s₀ : State := { up with flash.update.st := 1 }
    let s := s₀.elapse dt
    let u := s.flash.update
    u.st = 1 ∧ s.fwExpired (u.lastAt + 600000000000) = true) ∧
    (let q := Req.mk0 (pay 0 [])
    let s₀ : State := asking opUpdateEnd q ({ up with flash.update.st := 1 })
    let s := s₀.elapse q.dt
    Takes opUpdateEnd 0 q s₀ ∧ s.box.lock = false ∧ s.flash.update.st = 1) ∧
    (let dt : Nat := 0
    let s₀ : State := { up with flash.update := { st := 2, bytes := 1 } }
    let s := s₀.elapse dt
    let readBack : Bool := true
    let u := s.flash.update
    let r := s.updateReason readBack
    u.st = 2 ∧ u.buffered = [] ∧ r.1 ≠ 0) ∧
    (let q := Req.mk0 (pay 0 [])
    let s₀ : State := asking opUpdateActivate q ({ up with flash.update.st := 3 })
    let s := s₀.elapse q.dt
    Takes opUpdateActivate 0 q s₀ ∧ s.box.lock = false ∧ s.flash.update.st = 3 ∧ s.flash.update.recording = false) ∧
    (let dt : Nat := 0
    let s₀ : State := { up with flash.update.recording := true }
    let s := s₀.elapse dt
    let u := s.flash.update
    u.recording = true) ∧
    (let q := Req.mk0 (pay 0 [])
    let s₀ : State := asking opUpdateAbort q ({ up with flash.update.st := 3 })
    let s := s₀.elapse q.dt
    let u := s.flash.update
    Takes opUpdateAbort 0 q s₀ ∧ s.box.lock = false ∧ (u.open_ = true ∨ u.st = 3) ∧ u.recording = false) ∧
    (let q := Req.mk0 (pay 0 [])
    let s₀ : State := asking opUpdateStatus q up
    let s := s₀.elapse q.dt
    Takes opUpdateStatus 0 q s₀ ∧ s.box.lock = false) := by
  refine ⟨?_, ?_, ?_, ?_, ?_, ?_, ?_, ?_, ?_, ?_⟩ <;> decide +kernel

/-! The clause of UpdateCompletes that an update passes: a package signed by showKey, where the anchor of the boot ROM, a constant
that the spec leaves open, is the SHA-256 of showKey. -/

theorem package_signed : manifestSigned package 0 = true := by decide +kernel

theorem package_key : manifestKey package 0 = sha256 (be 97 showKey) := by decide +kernel

theorem package_parts : manifestOk package = true ∧ badPart package = none ∧ pkgNum package 12 4 = 4096 ∧ pkgNum package 7 1 = 0 := by
  refine ⟨?_, ?_, ?_, ?_⟩ <;> decide +kernel

theorem witness_UpdateCompletes_anchored (anchor : be 32 Config.firmwareAnchor.toNat = sha256 (be 97 showKey)) :
    let s₀ : State := { up with flash.update := { st := 2, bytes := 4096, granules := package } }
    let s := s₀.elapse 0
    let u := s.flash.update
    let r := s.updateReason true
    u.st = 2 ∧ u.buffered = [] ∧ r.1 = 0 := by
  intro s₀ s u r
  refine ⟨rfl, rfl, ?_⟩
  have hw : u.whole = true := by decide +kernel
  have hs : s.coSigned package = true := by decide +kernel
  have hg : s.flash.update.granules = package := rfl
  have hb : s.flash.update.bytes = 4096 := rfl
  have hf : s.sys.fuses.silicon.toNat < 0 ↔ False := by simp
  simp [r, State.updateReason, hg, hb, show s.flash.update.whole = true from hw, hs, anchored, package_signed, package_key,
    anchor, package_parts]

/-- The three clauses of IdentityKept: a command that answers, one that neither begins nor ends a boot, and SYS_INFO. -/
theorem witness_IdentityKept : (∃ t, exec (.rasterCommit (Req.mk0 [0])) up = .next t) ∧
    bootsOrEnds (.rasterCommit (Req.mk0 [0])) = false ∧ Takes opSysInfo 0 (Req.mk0 []) (asking opSysInfo (Req.mk0 []) up) :=
  ⟨⟨_, rfl⟩, rfl, by decide +kernel⟩

/-- A state with a byte in each window, and its next state. -/
theorem witness_WindowsStayCanonical :
    let s : State := { up with mb.w0 := [(0x900, 1)], mb.w2 := [(0, 1), (0x3FFFFF, 255)] }
    Canon s.mb.w0 s.mb.w2 ∧ ∃ t, step s = .next t := ⟨⟨by decide, by decide⟩, _, rfl⟩

theorem witness_NoAnswerBeforeReady : hostCommand (.sysInfo (Req.mk0 [])) = some (opSysInfo, 0, Req.mk0 []) ∧
    State.reset.mb.engine = 0 ∧ ({ State.reset with mb.engine := 3 } : State).mb.engine = 3 := ⟨rfl, rfl, rfl⟩

theorem witness_HostMessagesAreGated :
    let q := Req.mk0 (pay 31 [])
    let r := Req.mk0 (pay 32 [])
    hostCommand (.gridSetStart q) = some (opGridSet, 32, q) ∧ hostCommand (.gridSetStart r) = some (opGridSet, 32, r) ∧
    ((asking opGridSet q { State.reset with mb.engine := 1 }).asked opGridSet q = true ∧
      (asking opGridSet q { State.reset with mb.engine := 1 }).mb.engine = 1 ∧ servedInRecovery opGridSet = false) ∧
    ((asking opGridSet q up).asked opGridSet q = true ∧ (asking opGridSet q up).mb.engine = 2 ∧ q.payload.length < 32) ∧
    ((asking opGridSet r { up with pwr.mode := .standby }).asked opGridSet r = true ∧
      (asking opGridSet r { up with pwr.mode := .standby }).mb.engine = 2 ∧
      (asking opGridSet r { up with pwr.mode := .standby }).pwr.mode = .standby ∧ 32 ≤ r.payload.length ∧
      servedInStandby opGridSet = false) := ⟨rfl, rfl, by decide +kernel⟩

/-- A ring in host memory; W0's ring with nothing refused; and with an event refused before this count cycle. -/
theorem witness_EventReadTakesTheOldest :
    let q := Req.mk0 [64]
    let s : State := asking opEventRead q { up with mb.ev.cfg.ringHost := true }
    let t : State := asking opEventRead q { up with mb.ev.refused := [(3, [])], mb.ev.refusedAt := 9 }
    1 ≤ (p8 q.payload 0).toNat ∧ (p8 q.payload 0).toNat ≤ 64 ∧ (Takes opEventRead 1 q s ∧ s.mb.ev.cfg.ringHost = true) ∧
    (Takes opEventRead 1 q (asking opEventRead q up) ∧ up.mb.ev.cfg.ringHost = false ∧ up.mb.ev.refused = []) ∧
    (Takes opEventRead 1 q t ∧ t.mb.ev.refusedAt ≠ (t.elapse q.dt).now / 4) := by decide +kernel

theorem witness_DiagnosticsReturn :
    let q := Req.mk0 (pay 16 [])
    let m : State := asking opDiagEventRaise q { up with mb.ev.cfg.mask := 0 }
    let f : State := asking opDiagEventRaise q { up with mb.ev.tail := 64 }
    let u : State := asking opDiagEventRaise q up
    (Takes opDiagEcho 0 (Req.mk0 (.replicate 3008 0)) (asking opDiagEcho (Req.mk0 (.replicate 3008 0)) up) ∧
      (Req.mk0 (.replicate 3008 0)).payload.length ≤ 3008) ∧
    (Takes opDiagEcho 0 (Req.mk0 (.replicate 3009 0)) (asking opDiagEcho (Req.mk0 (.replicate 3009 0)) up) ∧
      3008 < (Req.mk0 (.replicate 3009 0)).payload.length) ∧
    Takes opDiagPinRead 0 (Req.mk0 []) (asking opDiagPinRead (Req.mk0 []) up) ∧
    (Takes opDiagEventRaise 16 q m ∧ m.mb.ev.cfg.mask.getLsbD 3 = false) ∧
    (Takes opDiagEventRaise 16 q u ∧ u.mb.ev.cfg.mask.getLsbD 3 = true ∧ u.mb.ev.fill < u.mb.ev.size) ∧
    (Takes opDiagEventRaise 16 q f ∧ f.mb.ev.cfg.mask.getLsbD 3 = true ∧ f.mb.ev.size ≤ f.mb.ev.fill) := by decide +kernel

theorem witness_HostWindowWriteReadsBack : up.mb.w2.wf 0 = true ∧ 0x3FFFFF + [(1 : U8)].length ≤ 0x400000 := by decide

theorem witness_EventsAreWrittenOrLost :
    let s : State := { up with mb.ev.cfg.mask := 0 }
    let f : State := { up with mb.ev.tail := 64 }
    (s.mb.engine = 2 ∧ s.mb.ev.cfg.mask.getLsbD 127 = false) ∧
    (up.mb.engine = 2 ∧ up.mb.ev.cfg.mask.getLsbD 127 = true ∧ up.mb.ev.fill < up.mb.ev.size) ∧
    (({ up with mb.ev.cycle := 1 } : State).mb.ev.cycle ≠ up.now / 4) ∧
    (f.mb.engine = 2 ∧ f.mb.ev.cfg.mask.getLsbD 0 = true ∧ f.mb.ev.size ≤ f.mb.ev.fill) := by decide +kernel

theorem witness_KeystoneAddsExactly :
    let k : Keystone := { sec := 2 ^ 48 - 1, nsec := 999999999, frac := 2 ^ 40 - 1 }
    k.nsec < 1000000000 ∧ k.frac < 2 ^ 40 ∧ k.sec < 2 ^ 48 := by decide

theorem witness_CorrectionNeverStepsTime : ({ compat := true } : Keystone).compat = true ∧
    ({ compat := false } : Keystone).compat = false := ⟨rfl, rfl⟩

/-- The last frame that N more may follow, before and after the epoch moved; frames at the end of their range; a frame 2^24 + 2
after the epoch, whose instant is exact, and one at 2^24. -/
theorem witness_FrameTimesAreExact :
    let n : U32 := BitVec.ofNat 32 (2 ^ 32 - 1 - 60000)
    let k : U32 := BitVec.ofNat 32 (2 ^ 31 - 1 - 60000)
    let at_ := fun (m : U32) => (m - arena.n0).toNat
    (arena.n.toNat ≠ 0 ∧ arena.moved = false ∧ (n - arena.n0).toNat + arena.n.toNat < 2 ^ 32) ∧
    ({ arena with moved := true }.moved = true ∧ (k - arena.n0).toNat + arena.n.toNat < 2 ^ 31) ∧ (0 : Int) ≤ 1 ∧
    (((0x7FFFFFFF : U32) - slipped.v.n0).toNat < 2 ^ 31 ∧ ((0 : U32) - slipped.v.n0).toNat < 2 ^ 31) ∧
    (2 ^ 24 < at_ 0x1000002 ∧ at_ 0x1000002 * 1000000000 * arena.d.toNat % arena.den = 0) ∧
    ¬ 2 ^ 24 < at_ 0x1000000 := by decide +kernel

theorem witness_ArbitrationGrantsInOrder :
    let loss : Nat → Nat := fun r => if r = 2 then 16 else 15
    let few : Nat → Nat := fun _ => 15
    [1, 2, 3].Pairwise (· < ·) ∧ arbitrate [1, 2, 3] loss = some 2 ∧ (∃ r ∈ [1, 2, 3], 16 ≤ loss r) ∧
    arbitrate [1, 2, 3] few = some 1 ∧ (∀ r ∈ [1, 2, 3], few r < 16) ∧ arbitrate [] few = none := by decide

theorem witness_StatusCommandsOnlyAnswer : Instr.sysInfo (Req.mk0 []) ∈ [Instr.sysInfo (Req.mk0 [])] ∧
    (7 : Fin 8) ≠ (Req.mk0 []).ch := by decide

/-- A cause that comes first in its count cycle and one that does not; a command that the lock denies. -/
theorem witness_TamperZeroisesAndRefuses :
    let q := Req.mk0 (pay 72 [])
    let s : State := asking opKeyLoad q { up with box.lock := true, box.lastAt := some 0 }
    (up.pwr.mode = .run ∧ ¬(up.box.lock = true ∧ up.box.lastAt = some (up.now / 4)) ∧ up.box.wk = []) ∧
    (s.pwr.mode = .run ∧ s.box.lock = true ∧ s.box.lastAt = some (s.now / 4)) ∧ Takes opKeyLoad 72 q s := by decide +kernel

end Sys2Proof.Tests
end

section
/-! Proofs for spec chapter 00, contention (R8, R9): whom `arbitrate` grants. -/
namespace Sys2Proof.Machine
open Sys2Proof

/-! ### What `arbitrate` answers, a case each -/

/-- R9: where some requester has lost 16 times, the first such requester is granted. -/
theorem arbitrate_eq_head?_filter {reqs : List Nat} {loss : Nat → Nat} (h : ∃ r ∈ reqs, 16 ≤ loss r) :
    arbitrate reqs loss = (reqs.filter fun r => decide (16 ≤ loss r)).head? := by
  obtain ⟨w, hw⟩ : ∃ w, reqs.find? (fun r => decide (16 ≤ loss r)) = some w := by
    rw [← Option.isSome_iff_exists, List.find?_isSome]
    simpa using h
  simp [arbitrate, hw]

/-- R8: where no requester has lost 16 times, the first requester is granted. -/
theorem arbitrate_eq_head? {reqs : List Nat} {loss : Nat → Nat} (h : ∀ r ∈ reqs, loss r < 16) :
    arbitrate reqs loss = reqs.head? := by
  have hnone : reqs.find? (fun r => decide (16 ≤ loss r)) = none := by
    simpa [List.find?_eq_none] using h
  simp [arbitrate, hnone]

theorem arbitrate_eq_none_iff {reqs : List Nat} {loss : Nat → Nat} : arbitrate reqs loss = none ↔ reqs = [] := by
  by_cases h : ∃ r ∈ reqs, 16 ≤ loss r
  · obtain ⟨r, hr, hloss⟩ := h
    rw [arbitrate_eq_head?_filter ⟨r, hr, hloss⟩, List.head?_eq_none_iff]
    exact iff_of_false (List.ne_nil_of_mem (List.mem_filter.mpr ⟨hr, by simpa using hloss⟩)) (List.ne_nil_of_mem hr)
  · rw [arbitrate_eq_head? (by simpa using h), List.head?_eq_none_iff]

/-! ### Requesters in ascending order -/

/-- In ascending order the first is the lowest. -/
theorem head?_le_of_pairwise_lt {l : List Nat} {w : Nat} (hl : l.Pairwise (· < ·)) (hw : l.head? = some w) :
    ∀ r ∈ l, w ≤ r := by
  obtain ⟨t, rfl⟩ := List.head?_eq_some_iff.mp hw
  intro r hr
  obtain rfl | hr := List.mem_cons.mp hr
  · exact Nat.le_refl r
  · exact Nat.le_of_lt (List.rel_of_pairwise_cons hl hr)

/-- R9: the one granted has lost 16 times and is the lowest that has. -/
theorem arbitrate_lowest_promoted {reqs : List Nat} {loss : Nat → Nat} {w : Nat} (hreqs : reqs.Pairwise (· < ·))
    (hw : arbitrate reqs loss = some w) (h : ∃ r ∈ reqs, 16 ≤ loss r) :
    16 ≤ loss w ∧ ∀ r ∈ reqs, 16 ≤ loss r → w ≤ r := by
  rw [arbitrate_eq_head?_filter h] at hw
  have hlost := (List.mem_filter.mp (List.mem_of_head? hw)).2
  have hle := head?_le_of_pairwise_lt (hreqs.filter _) hw
  exact ⟨of_decide_eq_true hlost, fun r hr hloss => hle r (List.mem_filter.mpr ⟨hr, decide_eq_true hloss⟩)⟩

/-- R8: with nobody promoted, the one granted is the lowest of all. -/
theorem arbitrate_lowest {reqs : List Nat} {loss : Nat → Nat} {w : Nat} (hreqs : reqs.Pairwise (· < ·))
    (hw : arbitrate reqs loss = some w) (h : ∀ r ∈ reqs, loss r < 16) : ∀ r ∈ reqs, w ≤ r :=
  head?_le_of_pairwise_lt hreqs (arbitrate_eq_head? h ▸ hw)

/-- Only a requester is granted, in whatever order they ask. -/
theorem mem_of_arbitrate {reqs : List Nat} {loss : Nat → Nat} {w : Nat} (hw : arbitrate reqs loss = some w) :
    w ∈ reqs := by
  by_cases h : ∃ r ∈ reqs, 16 ≤ loss r
  · rw [arbitrate_eq_head?_filter h] at hw
    exact (List.mem_filter.mp (List.mem_of_head? hw)).1
  · rw [arbitrate_eq_head? (by simpa using h)] at hw
    exact List.mem_of_head? hw

/-- Settles O58: with a requester promoted the grant goes to the first of the promoted, with none to the first of all, and
the order is ascending. -/
theorem arbitrationGrantsInOrder : Obligations.ArbitrationGrantsInOrder := fun _ _ hreqs =>
  ⟨arbitrate_eq_none_iff, fun _ hw =>
    ⟨mem_of_arbitrate hw, arbitrate_lowest_promoted hreqs hw, arbitrate_lowest hreqs hw⟩⟩

end Sys2Proof.Machine
end

section
/-! Proofs for spec chapter 01, Keystone (R20 to R26): the count cycles of the native clock and a new correction. -/
namespace Sys2Proof.Machine
open Sys2Proof

/-! ### The native clock (R22) -/

/-- The native clock's seconds, nanoseconds and fraction as one count of 2^-40 ns (R20, R22). -/
def Keystone.units (k : Keystone) : Nat := (k.sec * 1000000000 + k.nsec) * 2 ^ 40 + k.frac

theorem Keystone.addCycles_nsec_lt (k : Keystone) (c : Nat) : (k.addCycles c).nsec < 1000000000 :=
  Nat.mod_lt _ (by decide)

theorem Keystone.addCycles_frac_lt (k : Keystone) (c : Nat) : (k.addCycles c).frac < 2 ^ 40 :=
  Nat.mod_lt _ (by decide)

theorem Keystone.addCycles_sec_lt (k : Keystone) (c : Nat) : (k.addCycles c).sec < 2 ^ 48 :=
  Nat.mod_lt _ (by decide)

/-- The carries from fraction to nanoseconds to seconds lose nothing but whole turns of the 48-bit SECONDS. -/
theorem Keystone.addCycles_units (k : Keystone) (c : Nat) :
    (k.addCycles c).units = (k.units + c * k.inc) % (2 ^ 48 * 1000000000 * 2 ^ 40) := by
  simp only [Keystone.units, Keystone.addCycles]
  generalize c * k.inc = added
  omega

/-- What a cycle adds to is what the cycles before it left: INC does not change, and the carries compose. -/
theorem Keystone.addCycles_succ (k : Keystone) (c : Nat) : k.addCycles (c + 1) = (k.addCycles c).addCycles 1 := by
  unfold Keystone.addCycles
  dsimp only
  simp only [Keystone.mk.injEq, Nat.add_mul, Nat.one_mul, true_and, and_true]
  generalize c * k.inc = added
  omega

/-- Settles O55: the three parts are one count of 2^-40 ns, to which every cycle adds INC. -/
theorem keystoneAddsExactly : Obligations.KeystoneAddsExactly := fun k c _ _ _ =>
  ⟨k.addCycles_units c, k.addCycles_nsec_lt c, k.addCycles_frac_lt c, k.addCycles_sec_lt c, k.addCycles_succ c⟩

/-! ### A new correction (R25) -/

theorem Keystone.setY_of_compat {k : Keystone} (y : Rat) (h : k.compat = true) :
    k.setY y = { k with y := y, offset := k.full, base := k.count, rate := rateOf y } := if_pos h

theorem Keystone.setY_of_native {k : Keystone} (y : Rat) (h : k.compat = false) :
    k.setY y = { k with y := y, inc := incOf y } := if_neg (by simp [h])

/-- R24: where BASE is the present count, the time read is OFFSET, whatever the rate. -/
theorem Keystone.full_of_base_eq_count {k : Keystone} (hcompat : k.compat = true) (hbase : k.base = k.count) :
    k.full = k.offset := by
  simp [Keystone.full, Keystone.compatAt, hcompat, hbase]

@[simp] theorem Keystone.setY_y (k : Keystone) (y : Rat) : (k.setY y).y = y := by
  cases h : k.compat
  · rw [Keystone.setY_of_native y h]
  · rw [Keystone.setY_of_compat y h]

/-- The native time read does not depend on INC; the compatibility model reads OFFSET, which was set to the time read. -/
@[simp] theorem Keystone.setY_full (k : Keystone) (y : Rat) : (k.setY y).full = k.full := by
  cases h : k.compat
  · rw [Keystone.setY_of_native y h]
    simp [Keystone.full, h]
  · rw [Keystone.setY_of_compat y h]
    exact Keystone.full_of_base_eq_count h rfl

/-- Settles O56, by the two clock models. -/
theorem correctionNeverStepsTime : Obligations.CorrectionNeverStepsTime := fun k y =>
  ⟨k.setY_full y, k.setY_y y, fun h => by simp [Keystone.setY_of_compat y h],
    fun h => by simp [Keystone.setY_of_native y h]⟩

end Sys2Proof.Machine
end

section
/-! Proofs for spec chapter 01, the frame grid (R38 to R41): presentation times, the slip function, the move of the epoch. -/
namespace Sys2Proof.Machine
open Sys2Proof

/-! ### Distances between frames -/

/-- A frame less than 2^31 ahead is at its unsigned distance. -/
theorem sdiff32_of_lt {a b : U32} (h : (a - b).toNat < 2 ^ 31) : sdiff32 a b = (a - b).toNat :=
  BitVec.toInt_eq_toNat_of_lt (by omega)

/-- Of two frames within 2^31 of a third, the difference is that of their distances from it. -/
theorem sdiff32_eq_sub {x m o : U32} (hx : (x - o).toNat < 2 ^ 31) (hm : (m - o).toNat < 2 ^ 31) :
    sdiff32 x m = sdiff32 x o - sdiff32 m o := by
  rw [sdiff32_of_lt hx, sdiff32_of_lt hm, sdiff32, BitVec.toInt_eq_toNat_cond]
  have hxm : (x - m).toNat = (2 ^ 32 - (m - o).toNat + (x - o).toNat) % 2 ^ 32 := by
    rw [← BitVec.toNat_sub, show x - m = x - o - (m - o) by grind]
  split <;> omega

theorem toNat_add_sub {n o : U32} {k : Nat} (h : (n - o).toNat + k < 2 ^ 32) :
    (n + BitVec.ofNat 32 k - o).toNat = (n - o).toNat + k := by
  bv_omega

/-! ### Presentation times (R38, R39) -/

theorem GridVals.den_pos (v : GridVals) : 0 < v.den := by
  unfold GridVals.den
  omega

theorem GridVals.den_eq_n {v : GridVals} (h : v.n.toNat ≠ 0) : v.den = v.n.toNat := by
  unfold GridVals.den
  omega

/-- A frame not before the epoch is presented by its distance from n0. -/
theorem GridVals.p_eq_pSigned_toNat {v : GridVals} {n : U32} (h : v.moved = true → (n - v.n0).toNat < 2 ^ 31) :
    v.p n = v.pSigned (n - v.n0).toNat := by
  have hahead : ¬(v.moved = true ∧ sdiff32 n v.n0 < 0) := fun ⟨hmoved, hbefore⟩ => by
    rw [sdiff32_of_lt (h hmoved)] at hbefore
    omega
  rw [GridVals.p, if_neg hahead]
  simp [GridVals.pSigned]

/-- Once the epoch has moved, frames on either side of it are presented by their signed distance (R40). -/
theorem GridVals.p_eq_pSigned_sdiff32 {v : GridVals} (n : U32) (h : v.moved = true) : v.p n = v.pSigned (sdiff32 n v.n0) := by
  by_cases hbefore : sdiff32 n v.n0 < 0
  · exact if_pos ⟨h, hbefore⟩
  · have hlt : (n - v.n0).toNat < 2 ^ 31 := by
      rw [sdiff32, BitVec.toInt_eq_toNat_cond] at hbefore
      split at hbefore <;> omega
    rw [sdiff32_of_lt hlt, GridVals.p_eq_pSigned_toNat fun _ => hlt]

/-- R38, R39: N frames on, the instant is D seconds later, whatever the rounding of either. -/
theorem GridVals.pSigned_add_den (v : GridVals) (k : Int) : v.pSigned (k + v.den) = v.pSigned k + 1000000000 * v.d.toNat := by
  have hden : (v.den : Int) ≠ 0 := Int.natCast_ne_zero.mpr (Nat.ne_of_gt v.den_pos)
  have hproduct : (k + v.den) * 1000000000 * v.d.toNat =
      k * 1000000000 * v.d.toNat + 1000000000 * v.d.toNat * v.den := by grind
  rw [GridVals.pSigned, GridVals.pSigned, hproduct, Int.add_mul_ediv_right _ _ hden, Int.add_assoc]

theorem GridVals.pSigned_nonneg (v : GridVals) {k : Int} (h : 0 ≤ k) : 0 ≤ v.pSigned k := by
  have hproduct : 0 ≤ k * 1000000000 * v.d.toNat :=
    Int.mul_nonneg (Int.mul_nonneg h (by decide)) (Int.natCast_nonneg _)
  exact Int.add_nonneg (Int.natCast_nonneg _) (Int.ediv_nonneg hproduct (Int.natCast_nonneg _))

/-- N frames last D seconds, up to the last frame whose distance from the epoch does not wrap. -/
theorem GridVals.p_add_n {v : GridVals} {n : U32} (hn : v.n.toNat ≠ 0)
    (h : (n - v.n0).toNat + v.n.toNat < (if v.moved = true then 2 ^ 31 else 2 ^ 32)) :
    v.p (n + BitVec.ofNat 32 v.n.toNat) = v.p n + 1000000000 * v.d.toNat := by
  have hdist : (n + BitVec.ofNat 32 v.n.toNat - v.n0).toNat = (n - v.n0).toNat + v.n.toNat :=
    toNat_add_sub (by split at h <;> omega)
  have hmoved : v.moved = true → (n - v.n0).toNat + v.n.toNat < 2 ^ 31 := fun hm => by rwa [if_pos hm] at h
  rw [GridVals.p_eq_pSigned_toNat fun hm => hdist ▸ hmoved hm,
    GridVals.p_eq_pSigned_toNat fun hm => Nat.lt_of_le_of_lt (Nat.le_add_right _ _) (hmoved hm), hdist,
    ← GridVals.pSigned_add_den, GridVals.den_eq_n hn, Int.natCast_add]

/-! ### The slip function (R41) -/

theorem GridVals.sigma_mono (v : GridVals) {j k : Int} (h : j ≤ k) : v.sigma j ≤ v.sigma k := by
  have hden := v.den_pos
  have hfactor : j * 1000000000 ≤ k * 1000000000 := by omega
  exact Int.ediv_le_ediv (by omega) (Int.mul_le_mul_of_nonneg_right hfactor (Int.natCast_nonneg _))

/-! ### The move of the epoch (R40) -/

theorem GridVals.den_moved (v : GridVals) (e : Nat) (n0 : U32) (moved : Bool) :
    ({ v with e := e, n0 := n0, moved := moved } : GridVals).den = v.den := rfl

/-- The epoch moved to a frame whose instant is a whole number of ns at distance `n` leaves every instant where it was: the
rounding of the two parts is that of their sum. -/
theorem GridVals.pSigned_moved {v : GridVals} {m : U32} {n : Nat} (h : n * 1000000000 * v.d.toNat % v.den = 0) (k : Int) :
    ({ v with e := (v.pSigned n).toNat, n0 := m, moved := true } : GridVals).pSigned (k - n) = v.pSigned k := by
  have hcast : ((n * 1000000000 * v.d.toNat : Nat) : Int) = n * 1000000000 * v.d.toNat := by
    simp only [Int.natCast_mul, Int.cast_ofNat_Int]
  have hdvd : (v.den : Int) ∣ n * 1000000000 * v.d.toNat :=
    hcast ▸ Int.natCast_dvd_natCast.mpr (Nat.dvd_of_mod_eq_zero h)
  have hproduct : (n : Int) * 1000000000 * v.d.toNat + (k - n) * 1000000000 * v.d.toNat = k * 1000000000 * v.d.toNat := by
    grind
  have hsum : v.pSigned n + (k - n) * 1000000000 * v.d.toNat / v.den = v.pSigned k := by
    rw [GridVals.pSigned, GridVals.pSigned, Int.add_assoc, ← Int.add_ediv_of_dvd_left hdvd, hproduct]
  rw [GridVals.pSigned, GridVals.den_moved, Int.toNat_of_nonneg (v.pSigned_nonneg (Int.natCast_nonneg n)), hsum]

/-- R40: frame `m` lies more than 2^24 after the epoch, and its instant is a whole number of ns. -/
abbrev Grid.MovesAt (g : Grid) (m : U32) : Prop :=
  2 ^ 24 < (m - g.v.n0).toNat ∧ (m - g.v.n0).toNat * 1000000000 * g.v.d.toNat % g.v.den = 0

theorem Grid.moveEpoch_of {g : Grid} {m : U32} (h : g.MovesAt m) :
    (g.moveEpoch m).v = { g.v with e := (g.v.p m).toNat, n0 := m, moved := true } := by
  rw [Grid.moveEpoch, if_pos h]

theorem Grid.moveEpoch_of_not {g : Grid} {m : U32} (h : ¬g.MovesAt m) : g.moveEpoch m = g := if_neg h

theorem Grid.moveEpoch_p {g : Grid} {m x : U32} (hm : (m - g.v.n0).toNat < 2 ^ 31) (hx : (x - g.v.n0).toNat < 2 ^ 31) :
    (g.moveEpoch m).v.p x = g.v.p x := by
  by_cases h : g.MovesAt m
  · rw [Grid.moveEpoch_of h, GridVals.p_eq_pSigned_sdiff32 x rfl, GridVals.p_eq_pSigned_toNat fun _ => hm,
      GridVals.p_eq_pSigned_toNat fun _ => hx, sdiff32_eq_sub hx hm, sdiff32_of_lt hm, sdiff32_of_lt hx,
      GridVals.pSigned_moved h.2]
  · rw [Grid.moveEpoch_of_not h]

/-- The new epoch is the presentation time of the frame it moves to, which is not negative. -/
theorem Grid.moveEpoch_epoch {g : Grid} {m : U32} (hm : (m - g.v.n0).toNat < 2 ^ 31) (h : g.MovesAt m) :
    (g.moveEpoch m).v.n0 = m ∧ ((g.moveEpoch m).v.e : Int) = g.v.p m := by
  have hp : 0 ≤ g.v.p m := GridVals.p_eq_pSigned_toNat (fun _ => hm) ▸ GridVals.pSigned_nonneg _ (Int.natCast_nonneg _)
  rw [Grid.moveEpoch_of h]
  exact ⟨rfl, Int.toNat_of_nonneg hp⟩

/-- Settles O57: every presentation time is the epoch and a distance rounded once, and an exact instant splits that rounding.
That frames before a moved epoch count as presented is the model's choice (log entry 18). -/
theorem frameTimesAreExact : Obligations.FrameTimesAreExact :=
  ⟨fun _ _ hn h => GridVals.p_add_n hn h, fun v _ _ h => v.sigma_mono h, fun _ _ _ hm hx =>
    ⟨Grid.moveEpoch_p hm hx, fun hfar hexact => Grid.moveEpoch_epoch hm ⟨hfar, hexact⟩, Grid.moveEpoch_of_not⟩⟩

end Sys2Proof.Machine
end

section
/-! Proofs for spec chapter 01, completion (R26 to R66): the commands of Keystone, slots, timecode and the grid, and the events of
time. -/
namespace Sys2Proof.Machine
open Sys2Proof

/-! ### How an arm answers -/

theorem require_of {c : Bool} {e : Status} {k : Except Status Done} (h : c = true) : require c e k = k := by
  rw [h, require_true]

theorem require_not {c : Bool} {e : Status} {k : Except Status Done} (h : c = false) : require (!c) e k = k :=
  require_of (by rw [h]; rfl)

/-- An arm that serves a message and no more answers ST_OK where its body gives data. -/
theorem next_serve_ok {op need : Nat} {q : Req} {s t : State} {b : List U8} {body : State → Except Status Done}
    (h : Takes op need q s) (e : body (s.elapse q.dt) = .ok { st := t, data := b }) :
    (.next (serve op need q s body) : Host.Outcome State Fault Refusal) = .next (t.ok q op b) :=
  congrArg _ (serve_ok h e)

/-- An arm whose condition holds answers with its effect. -/
theorem next_if_pos {c : Prop} [Decidable c] {t s : State} (h : c) :
    (.next (if c then t else s) : Host.Outcome State Fault Refusal) = .next t := congrArg _ (if_pos h)

/-! ### The statements of completion -/

/-- Settles O1: each body's requirements are the conditions of its clause. -/
theorem keystoneCommandsComplete : Obligations.KeystoneCommandsComplete := by
  refine ⟨?timeGet, ?gridGet, ?slotStatus, ?servoSet, ?clockModelSet, ?timeStep, ?timecodeSet, ?slotArm, ?slotCancel⟩
  case timeGet => exact fun q s₀ h => next_serve_ok h rfl
  case gridGet => exact fun q s₀ h => next_serve_ok h rfl
  case slotStatus => exact fun q s₀ h hn => next_serve_ok h (require_of (decide_eq_true hn))
  case servoSet =>
    intro q s₀ h hki hpriority
    have hlisted : (servoCfg q.payload).priority.toList.all (fun x => decide (x.toNat ≤ 5)) = true :=
      List.all_eq_true.mpr fun x hx => decide_eq_true (hpriority x hx)
    exact next_serve_ok h (require_of (Bool.and_eq_true_iff.mpr ⟨decide_eq_true hki, hlisted⟩))
  case clockModelSet =>
    intro q s₀ h hmodel hstopped
    have hallowed : (decide ((p8 q.payload 0).toNat ≤ 1) &&
        !(p8 q.payload 0 == 1 && (s₀.elapse q.dt).sys.boot.profile == 1)) = true := by
      obtain hnative | ⟨hcompat, hprofile⟩ := hmodel
      · simp [hnative]
      · simpa [hcompat] using hprofile
    exact next_serve_ok h ((require_of hallowed).trans (require_not hstopped))
  case timeStep => exact fun q s₀ h hstopped => next_serve_ok h (require_not hstopped)
  case timecodeSet =>
    exact fun q s₀ h hin hout hwidth => next_serve_ok h (require_of (by simp [hin, hout, hwidth]))
  case slotArm =>
    intro q s₀ h n k k' hn hmode haction hns
    exact next_serve_ok h (require_of (by simpa [hn, hmode, haction] using hns))
  case slotCancel =>
    intro q s₀ h n k hn
    have hbody (b : Except Status Done) : require (decide (32 ≤ n)) .denied b = b := require_of (decide_eq_true hn)
    refine ⟨fun harmed => ?_, fun hidle hbegins => ?_, fun hidle hbegun => ?_⟩
    · exact next_serve_ok h ((hbody _).trans (congrArg done (if_pos harmed)))
    · exact next_serve_ok h ((hbody _).trans (congrArg done ((if_neg hidle).trans (if_pos hbegins))))
    · exact next_serve_ok h ((hbody _).trans (congrArg done ((if_neg hidle).trans (if_neg hbegun))))

/-- R61: when PPS_OUT is driven. -/
theorem ppsDriven_iff {s : State} :
    s.ppsDriven = true ↔ s.tc.ppsWidthUs ≠ 0 ∧ (s.ks.st ≠ .free ∨ s.tc.ppsForce = true) := by
  simp [State.ppsDriven]

/-- Settles O2: each arm's condition is that of its clause; a sample and the firing of slots have none. -/
theorem timeSourceEventsComplete : Obligations.TimeSourceEventsComplete := by
  refine ⟨?ppsIn, ?frameRefIn, ?ltcIn, ?sourceLoss, ?holdoverLimit, ?ref10mLoss, ?ref10mReturn, ?slotFire, ?ppsOut, ?ltcOut⟩
  case ppsIn => exact fun dt s₀ => rfl
  case frameRefIn => exact fun dt s₀ => rfl
  case ltcIn =>
    intro dt s₀ h m sec f user hrate hlabel
    exact if_neg (not_or.mpr ⟨hrate, ne_false_of_eq_true hlabel⟩)
  case sourceLoss => exact fun dt s₀ code hcode hvalid hexpired => next_if_pos ⟨hcode, hvalid, hexpired⟩
  case holdoverLimit =>
    exact fun dt s₀ hst hlimit hmode hexpired => next_if_pos ⟨hst, hlimit, hmode, hexpired⟩
  case ref10mLoss => exact fun dt s₀ hpresent => next_if_pos hpresent
  case ref10mReturn => exact fun dt s₀ habsent => congrArg Host.Outcome.next (if_neg (ne_true_of_eq_false habsent))
  case slotFire => exact fun dt s₀ => rfl
  case ppsOut =>
    exact fun dt s₀ hwidth hstate hsecond hlast => next_if_pos ⟨ppsDriven_iff.mpr ⟨hwidth, hstate⟩, hsecond, hlast⟩
  case ltcOut =>
    intro dt s₀ t j l hrate horigin hnew hwithin
    exact (if_neg (not_or.mpr ⟨hrate, Nat.not_lt.mpr horigin⟩)).trans (next_if_pos ⟨hnew, hwithin⟩)

/-- Settles O3: GRID_SET by RUN and the state of the grid; each instant by the condition that it has come. The order of what
falls at one boundary, and how changes and stops meet, are the model's choice (log entries 16 and 17). -/
theorem gridCommandsComplete : Obligations.GridCommandsComplete := by
  refine ⟨?start, ?change, ?stop, ?tickBoundary, ?frameBoundary, ?presentation, ?renderStart, ?renderStall, ?slipLimit⟩
  case start =>
    intro q s₀ h v hok hrun (hlock : s₀.box.lock = false) hfits hdeck hstopped hlate
    exact next_serve_ok h <| (require_of (by simp [hok, hrun, hlock, hfits, v])).trans <| (if_pos hrun).trans <|
      (require_not hdeck).trans <| (if_neg (ne_true_of_eq_false hstopped)).trans <| require_not hlate
  case change =>
    intro q s₀ h v hok hrun (hlock : s₀.box.lock = false) hfits hdeck hrunning hlate
    exact next_serve_ok h <| (require_of (by simp [hok, hrun, hlock, hfits, v])).trans <| (if_pos hrun).trans <|
      (require_not hdeck).trans <| (if_pos hrunning).trans <| require_not hlate
  case stop =>
    intro q s₀ h a m hok hrun hrunning halone hlatch
    exact next_serve_ok h <| (require_of (by simpa [hok, hrun, hrunning, a] using halone)).trans <|
      (if_neg (ne_true_of_eq_false hrun)).trans <| (if_pos hrunning).trans <| require_not hlatch
  case tickBoundary => exact fun dt s₀ hdue => congrArg Host.Outcome.next (if_neg (Int.not_lt.mpr hdue))
  case frameBoundary => exact fun dt s₀ hdue => congrArg Host.Outcome.next (if_neg (ne_false_of_eq_true hdue))
  case presentation =>
    intro dt s₀ m hnext hpresents hreached
    show execPresentationInstant dt s₀ = _
    simp only [execPresentationInstant, hnext]
    exact next_if_pos ⟨hpresents, hreached⟩
  case renderStart => exact fun dt s₀ hdue => next_if_pos hdue
  case renderStall =>
    exact fun dt s₀ hpresents hstarted hfirst hdue => next_if_pos ⟨hpresents, hstarted, hfirst, hdue⟩
  case slipLimit => exact fun dt s₀ hpresents hdue => next_if_pos ⟨hpresents, hdue⟩

end Sys2Proof.Machine
end

section
/-! Proofs for spec chapter 02, completion (R76 to R105, R160, R341, R369, R379): show images, cues, taps, triggers and the
house override. -/
namespace Sys2Proof.Machine
open Sys2Proof

/-! ### How an arm answers -/

/-- An arm that consumes a message, which the engine accepts, answers with the message's effect (R209). -/
theorem next_consume_of_accepted {s t : State} {sp : Fin 12} {m : Msg} {f : State → State}
    (h : (s.acceptMsg sp m).2 = true) (e : f (s.acceptMsg sp m).1 = t) :
    (.next (s.consume sp m f) : Host.Outcome State Fault Refusal) = .next t :=
  congrArg _ ((if_pos h).trans e)

/-- An arm whose condition fails answers with what it does otherwise. -/
theorem next_if_neg {c : Prop} [Decidable c] {t s : State} (h : ¬c) :
    (.next (if c then t else s) : Host.Outcome State Fault Refusal) = .next s := congrArg _ (if_neg h)

theorem inRange_of {lo hi x : Nat} (hlo : lo ≤ x) (hhi : x ≤ hi) : inRange lo hi x = true := by
  simp [inRange, hlo, hhi]

/-- A message without BULK, or of the length of the descriptor form, passes the check of its length (R444). -/
theorem bulkLength_of {q : Req} {fixed : Nat} {k : Except Status Done} (h : q.bulk = true → q.payload.length = fixed + 16) :
    bulkLength q fixed k = k :=
  if_neg fun ⟨hbulk, hlength⟩ => hlength (h hbulk)

/-- Data that can be had, on a channel without a bulk fault of its own, is used. -/
theorem withBulk_of_some {q : Req} {off n : Nat} {s : State} {k : List U8 → Except Status Done} {b : List U8}
    (hfault : q.bulk = true → s.mb.bulkFault.getLsbD q.ch.val = false) (hdata : bulkBytes q off n s = some b) :
    withBulk q off n s k = k b := by
  have hserved : ¬(q.bulk && s.mb.bulkFault.getLsbD q.ch.val) = true := fun h => by
    obtain ⟨hbulk, hlost⟩ := Bool.and_eq_true_iff.mp h
    exact ne_true_of_eq_false (hfault hbulk) hlost
  rw [withBulk, if_neg hserved, hdata]

/-! ### Image checks (R76) -/

/-- R76: an image with nothing amiss is kept as the staged image, and its plain bytes go to Deck. -/
theorem State.finishImage_of_ok {s : State} {b p : List U8} {size base : Nat} (hbase : s.sh.staged.base = base)
    (h : imageReason b size true (some p) = 0) :
    s.finishImage b size (some p) = State.raiseF { s.deckWrite (imageRegion + base) p with
      sh.staged := { s.sh.staged with st := 3, reason := 0, image := some { readImage p with base := s.sh.staged.base } } } 32
        [fN 0 8 (leVal (s.sh.staged.data.reads 0 0x10 8))] :=
  hbase ▸ if_neg (not_not_intro h)

section
variable {dt : Nat} {s₀ s : State} (hs : s₀.elapse dt = s) (hclosed : s.sh.staged.st = 2) (hwait : s.sh.staged.blob = none)
include hs hclosed hwait

/-- R76 check 1: a closed image whose header fails is rejected. -/
theorem execImageChecksComplete_badHeader (hheader : checkHeader s.sh.staged.bytes s.sh.staged.size = false) :
    execImageChecksComplete dt s₀ = .next (s.rejectImage 1) := by
  simp [execImageChecksComplete, hs, hclosed, hwait, hheader]

variable (hheader : checkHeader s.sh.staged.bytes s.sh.staged.size = true)
  (hcovers : s.sh.staged.covers 0 s.sh.staged.size = true) (hsigned : imageSigned s.sh.staged.bytes = true)
  (hsigner : s.signerOk s.sh.staged.bytes = true)
include hheader hcovers hsigned hsigner

/-- A signed image in the clear goes to the checks of its sections as it is. -/
theorem execImageChecksComplete_clear (hclear : hasEncrypted s.sh.staged.bytes = false) :
    execImageChecksComplete dt s₀ =
      .next (s.finishImage s.sh.staged.bytes s.sh.staged.size (some s.sh.staged.bytes)) := by
  simp [execImageChecksComplete, hs, hclosed, hwait, hheader, hcovers, hsigned, hsigner, hclear]

/-- A signed image with encrypted sections is first opened with its section key (R414). -/
theorem execImageChecksComplete_sealed {t : State × List U8} (hsealed : hasEncrypted s.sh.staged.bytes = true)
    (hkey : s.sectionKey s.sh.staged.bytes = .ok (.inl t)) :
    execImageChecksComplete dt s₀ =
      .next (t.1.finishImage s.sh.staged.bytes s.sh.staged.size (openImage t.2 s.sh.staged.bytes)) := by
  simp [execImageChecksComplete, hs, hclosed, hwait, hheader, hcovers, hsigned, hsigner, hsealed, hkey]

end

/-! ### The statements of completion -/

/-- Settles O4: each body's requirements are the conditions of its clause, and the image checks run in the order of R76. Where
an image is placed in its region (log entries 22 and 118), that APPLY_FRAME all ones takes `firstActivation` (log entry 23)
and that a second SHOW_ACTIVATE takes the place of the first (log entry 114) are the model's choice. -/
theorem showLoadingCompletes : Obligations.ShowLoadingCompletes := by
  refine ⟨?begin, ?block, ?loadEnd, ?checks, ?blobWait, ?activate, ?unloadStaged, ?unloadActive, ?status⟩
  case begin =>
    intro q s₀ h n hlock hroom hopen hclosed
    exact next_serve_ok h <| (require_not hlock).trans <| (require_of (decide_eq_true hroom)).trans <|
      require_of (Bool.and_eq_true_iff.mpr ⟨bne_iff_ne.mpr hopen, bne_iff_ne.mpr hclosed⟩)
  case block =>
    intro q s₀ h b n off x hpos hmax hbulk hdata hopen hfits hdeck
    have hallowed : (inRange 1 (if q.bulk then 4096 else 4024) n && !(q.bulk && bulkDenied q 8 n (s₀.elapse q.dt)) &&
        (x.st != 1 || decide (off + n ≤ x.size))) = true := by
      have hgranted : (q.bulk && bulkDenied q 8 n (s₀.elapse q.dt)) = false := by
        cases hform : q.bulk
        · rfl
        · exact (hbulk hform).2.1
      simp [inRange_of hpos hmax, hgranted, hfits]
    exact next_serve_ok h <| (bulkLength_of fun hform => (hbulk hform).1).trans <| (require_of hallowed).trans <|
      (require_of (beq_iff_eq.mpr hopen)).trans <| (require_not hdeck).trans <|
      withBulk_of_some (fun hform => (hbulk hform).2.2) hdata
  case loadEnd => exact fun q s₀ h hopen => next_serve_ok h (require_of (beq_iff_eq.mpr hopen))
  case checks =>
    intro dt s₀ x b kept hclosed hwait
    refine ⟨execImageChecksComplete_badHeader rfl hclosed hwait,
      fun hheader hcovers hsigned hsigner => ⟨?clear, ?sealed⟩⟩
    case clear =>
      intro hclear hok
      exact (execImageChecksComplete_clear rfl hclosed hwait hheader hcovers hsigned hsigner hclear).trans
        (congrArg Host.Outcome.next (State.finishImage_of_ok rfl hok))
    case sealed =>
      intro t p hsealed hkey hopened hok hstaged
      have hfinish : t.1.finishImage b x.size (openImage t.2 b) = kept t.1 p :=
        hopened ▸ State.finishImage_of_ok (congrArg Staged.base hstaged) hok
      exact (execImageChecksComplete_sealed rfl hclosed hwait hheader hcovers hsigned hsigner hsealed hkey).trans
        (congrArg Host.Outcome.next hfinish)
  case blobWait =>
    intro dt s₀ k hblob hexpired
    show execBlobWaitExpiry dt s₀ = _
    simp only [execBlobWaitExpiry, hblob]
    exact next_if_pos hexpired
  case activate =>
    intro q s₀ h im f m hready himage hpixels hdeck
    have hfits : decide (im.pixelCount ≤ pixelCapacity (s₀.elapse q.dt).grid.v.n (s₀.elapse q.dt).grid.v.d) = true :=
      decide_eq_true hpixels
    refine ⟨fun hstopped => next_serve_ok h ?stopped, fun hrunning halone hahead hearly => next_serve_ok h ?running⟩
    all_goals simp only [hready, himage, hfits, ↓reduceIte, Option.map_some, Option.getD_some, Bool.true_and]
    case stopped =>
      exact (require_of (by simp [hstopped])).trans <| (require_not hdeck).trans (if_neg (ne_true_of_eq_false hstopped))
    case running =>
      exact (require_of (by simpa [hrunning, f] using halone)).trans <| (require_not hdeck).trans <|
        (if_pos hrunning).trans <| require_of (Bool.and_eq_true_iff.mpr ⟨decide_eq_true hahead, decide_eq_true hearly⟩)
  case unloadStaged =>
    intro q s₀ h hstaged
    exact next_serve_ok h <| (require_of (by simp [hstaged])).trans (if_pos hstaged)
  case unloadActive =>
    intro q s₀ h hactive hstopped
    exact next_serve_ok h <| (require_of (by simp [hactive])).trans <| (if_neg (by simp [hactive])).trans (require_not hstopped)
  case status => exact fun q s₀ h => next_serve_ok h rfl

/-- Settles O5: a command by what its body requires, a packet by whether it is taken, a window by its end and its onset. That
CUE_GO takes any frame while the grid is stopped is the model's choice (log entry 19). -/
theorem cueAndTapCommandsComplete : Obligations.CueAndTapCommandsComplete := by
  refine ⟨?cueGo, ?cueListStatus, ?tapSet, ?tapRead, ?houseSet, ?trigger, ?aes67, ?windowClose⟩
  case cueGo =>
    intro q s₀ h p f hmin hmax halone hframe
    have hallowed : (inRange 1 5 (p8 p 1).toNat &&
        !(f == 0xFFFFFFFF && ((s₀.elapse q.dt).paired || decide (1 < (s₀.elapse q.dt).memberIds.length)))) = true := by
      simpa [inRange_of hmin hmax, Decidable.or_iff_not_imp_left] using halone
    have hintime : (f == 0xFFFFFFFF ||
        !((s₀.elapse q.dt).running && decide (sdiff32 f (s₀.elapse q.dt).grid.nextRender < 0))) = true := by
      obtain hnext | hstopped | hahead := hframe
      · simp [hnext]
      · simp [hstopped]
      · simp only [decide_eq_false (Int.not_lt.mpr hahead), Bool.and_false, Bool.not_false, Bool.or_true]
    exact next_serve_ok h <| (require_of hallowed).trans <| require_of hintime
  case cueListStatus =>
    intro q s₀ h l
    refine ⟨fun hcue => next_serve_ok h ?none, fun c hcue => next_serve_ok h ?some⟩
    all_goals
      simp only [l, hcue]
      rfl
  case tapSet =>
    intro q s₀ h htap hmodel hdelay hmin hmax
    exact next_serve_ok h <| require_of (by simp [htap, hmodel, hdelay, inRange_of hmin hmax])
  case tapRead =>
    intro q s₀ h k hk
    have hlt : (p8 q.payload 0).toNat < 16 := hk ▸ k.isLt
    have hindex : k = ⟨(p8 q.payload 0).toNat, hlt⟩ := Fin.ext hk.symm
    rw [hindex]
    exact next_serve_ok h (dif_pos hlt)
  case houseSet =>
    intro q s₀ h hfilterMin hfilterMax hholdMin hholdMax
    exact next_serve_ok h <| require_of (by simp [inRange_of hfilterMin hfilterMax, inRange_of hholdMin hholdMax])
  case trigger => exact fun dt span m s₀ haccepted => next_consume_of_accepted haccepted rfl
  case aes67 =>
    intro dt s₀ p t m r rate u k
    exact ⟨fun htaken => next_if_neg (ne_false_of_eq_true htaken), fun hlost => next_if_pos hlost⟩
  case windowClose =>
    intro dt s₀ k x g from_ xs y t hrunning henabled hended
    have hcloses : ¬((s₀.elapse dt).running = false ∨ x.cfg.enable = false ∨ (s₀.elapse dt).full < g) :=
      fun h => by simp [hrunning, henabled, Int.not_lt.mpr hended] at h
    exact ⟨fun hquiet => (next_if_neg hcloses).trans (next_if_neg (ne_true_of_eq_false hquiet)),
      fun honset => (next_if_neg hcloses).trans (next_if_pos honset)⟩

/-- Settles O6: the pin by whether it is enabled, a message by how it came, an application by whether the assertion is
flooded. -/
theorem houseEventsComplete : Obligations.HouseEventsComplete := by
  refine ⟨?assert, ?release, ?msg, ?apply⟩
  case assert =>
    intro dt s₀ t
    exact ⟨fun henabled => next_if_pos henabled, fun hdisabled => next_if_neg (ne_true_of_eq_false hdisabled)⟩
  case release => exact fun dt s₀ => rfl
  case msg =>
    intro dt span m s₀ haccepted
    exact ⟨fun hflooded => next_consume_of_accepted haccepted (if_pos hflooded), fun hdirect hpaired hpartner hstandby =>
      next_consume_of_accepted haccepted ((if_neg hdirect).trans (if_pos ⟨hpaired, hpartner, hstandby⟩))⟩
  case apply =>
    intro dt s₀ h new own t u hdue htick
    have happlies : ¬(h.due = false ∨ h.tickCame = false) :=
      not_or.mpr ⟨ne_false_of_eq_true hdue, ne_false_of_eq_true htick⟩
    refine ⟨fun hunflooded => (next_if_neg happlies).trans (next_if_neg ?_),
      fun hflood hown => (next_if_neg happlies).trans (next_if_pos ⟨hflood, hown⟩)⟩
    exact fun ⟨hflood, hown⟩ => hunflooded.elim (ne_false_of_eq_true hflood) hown

end Sys2Proof.Machine
end

section
/-! Proofs for spec chapter 03, completion (R84, R110 to R134): cycles of the scheduler, ends of tasks, faults of cores. -/
namespace Sys2Proof.Machine
open Sys2Proof

/-! ### Dispatch (R127) -/

/-- A port with a choice places the task on the core, and a render task takes its frame and its program first. -/
theorem State.dispatch_of_choice {s : State} {port : Fin 4} {n : Nat} {k : Fin 64}
    (hchoice : (s.sched.offer s.now s.mayDispatch).choice port = some (n, k)) :
    let o := { s with sched := s.sched.offer s.now s.mayDispatch }
    let d := o.sched.at n
    let t := { o with sched := o.sched.place port n k o.now (o.programMem d) }
    s.dispatch port =
      ((if d.source = 0 then (t.firstOf d.frame).programRead d k else t).dispatchTrap n k).renderCheck := by
  simp only [State.dispatch, hchoice]

/-! ### The end of a task (R123, Table 3.3) -/

section
variable {s : State} {n : Nat} (hrunning : (s.sched.at n).st = .running) (hloaded : s.loaded (s.sched.at n) = true)
include hrunning hloaded

/-- R81: a render task's writes stand, and its Deck accesses are granted. -/
theorem State.taskEnd_render {f : Flow} (hsource : (s.sched.at n).source = 0)
    (hflow : State.flowOf { s with sched := s.sched.endTask n s.now } (s.sched.at n) = some f) :
    let t := { s with sched := s.sched.endTask n s.now }
    let d := s.sched.at n
    s.taskEnd n = ((t.taskWrites d f (t.effectOf d)).taskGrant d).trapSettle.renderCheck := by
  simp [State.taskEnd, hrunning, hloaded, hsource, hflow]

/-- R179: a band's task completes its band of the copy. -/
theorem State.taskEnd_band (hsource : (s.sched.at n).source = 1) :
    s.taskEnd n =
      (State.bandDone { s with sched := s.sched.endTask n s.now } (s.sched.at n).arg.toNat).renderCheck := by
  simp [State.taskEnd, hrunning, hloaded, hsource]

/-- R222: a packing task makes the update of its route. -/
theorem State.taskEnd_pack (hsource : (s.sched.at n).source = 2) :
    s.taskEnd n = (State.packTask { s with sched := s.sched.endTask n s.now } (s.sched.at n)).renderCheck := by
  simp [State.taskEnd, hrunning, hloaded, hsource]

/-- R380: a task of firmware computes the digest it is for; one that is for none has no further effect. -/
theorem State.taskEnd_firmware (hsource : (s.sched.at n).source = 3) :
    let t := { s with sched := s.sched.endTask n s.now }
    s.taskEnd n = (if (s.sched.at n).arg = 1 then t.computeDigest (s.sched.at n).frame else t).renderCheck := by
  simp [State.taskEnd, hrunning, hloaded, hsource]

end

/-! ### The statement of completion -/

/-- Settles O8: a cycle of allocation or entry has no condition, a dispatch follows the choice of its port, and a task's end
its source. -/
theorem schedulerEventsComplete : Obligations.SchedulerEventsComplete := by
  refine ⟨?alloc, ?entry, ?dispatch, ?affinityWait, ?taskEnd, ?trap, ?watchdog, ?eccSingle, ?eccDouble, ?sourceHold⟩
  case alloc => exact fun dt s₀ => rfl
  case entry => exact fun dt s₀ => rfl
  case dispatch =>
    intro dt s₀ port n k o hchoice d t
    exact congrArg Host.Outcome.next (State.dispatch_of_choice hchoice)
  case affinityWait => exact fun dt s₀ n hready hexpired => next_if_pos ⟨hready, hexpired⟩
  case taskEnd =>
    intro dt s₀ n d t hrunning hloaded
    refine ⟨fun hsource f hflow => ?render, fun hsource => ?band, fun hsource => ?pack, fun hsource => ?firmware⟩
    case render => exact congrArg Host.Outcome.next (State.taskEnd_render hrunning hloaded hsource hflow)
    case band => exact congrArg Host.Outcome.next (State.taskEnd_band hrunning hloaded hsource)
    case pack => exact congrArg Host.Outcome.next (State.taskEnd_pack hrunning hloaded hsource)
    case firmware => exact congrArg Host.Outcome.next (State.taskEnd_firmware hrunning hloaded hsource)
  case trap => exact fun dt s₀ n hrunning hloaded => next_if_pos ⟨hrunning, hloaded⟩
  case watchdog => exact fun dt s₀ n hoverran => next_if_pos hoverran
  case eccSingle => exact fun dt s₀ core => rfl
  case eccDouble =>
    intro dt s₀ core
    refine ⟨fun n htask => ?busy, fun htask => ?idle⟩
    all_goals
      show execCoreMemoryEccError dt core true s₀ = _
      simp only [execCoreMemoryEccError, htask, Bool.not_true, Bool.false_eq_true, ↓reduceIte]
  case sourceHold =>
    intro dt s₀ src t hheld hquiet hlong
    show execSourceHoldEvent dt src s₀ = _
    simp only [execSourceHoldEvent, hheld]
    exact next_if_pos ⟨hquiet, hlong⟩

end Sys2Proof.Machine
end

section
/-! Proofs for spec chapter 04, completion (R83, R145, R156, R161): the ends of the passes, the commit and the release of a
frame, and the steps of a stopped grid. -/
namespace Sys2Proof.Machine
open Sys2Proof

/-- R83: the last frame committed is released, once, when no packing task of it is left. -/
theorem State.hedgerowRelease_of_packed {s : State} {e : U32 × U32} {rest : List (U32 × U32)}
    (hcommitted : s.tre.committedUnder = e :: rest) (hnew : s.flushSends.tre.released ≠ some e.1)
    (hpacked : s.flushSends.packed e.1 = true) :
    s.hedgerowRelease = State.renderCheck (State.swapStep { s.flushSends with tre.released := some e.1 }) := by
  simp only [State.hedgerowRelease, hcommitted]
  exact if_pos ⟨hnew, hpacked⟩

/-- Settles O9: a pass ends, a frame commits and is released, and a stopped grid steps where its time has come. -/
theorem framePassesComplete : Obligations.FramePassesComplete := by
  refine ⟨?cmuPass, ?kineticPass, ?commit, ?release, ?stopStep⟩
  case cmuPass => exact fun dt s₀ hbusy hended => next_if_pos ⟨hbusy, hended⟩
  case kineticPass => exact fun dt s₀ hbusy => next_if_pos hbusy
  case commit => exact fun dt s₀ hready => next_if_pos hready
  case release =>
    intro dt s₀ e rest t hcommitted hnew hpacked
    exact congrArg Host.Outcome.next (State.hedgerowRelease_of_packed hcommitted hnew hpacked)
  case stopStep =>
    intro dt s₀ im hactive hstopped hdue m t kin u
    have hsteps : ¬((s₀.elapse dt).grid.stopped = false ∨
        ((s₀.elapse dt).grid.tickCount - (s₀.elapse dt).fix.stepTick).toNat < 256) :=
      not_or.mpr ⟨ne_false_of_eq_true hstopped, Nat.not_lt.mpr hdue⟩
    show execKineticStopStep dt s₀ = _
    simp only [execKineticStopStep, hactive, if_neg hsteps, decide_eq_true_eq]
    rfl

end Sys2Proof.Machine
end

section
/-! Proofs for spec chapter 03, completion (R113, R135 to R137): the commands of the scheduler. -/
namespace Sys2Proof.Machine
open Sys2Proof

/-- R137: the test of SCHED_CORES finds no excluded core where the mask names none. -/
theorem any_masked_excluded_eq_false {m : U64} {cores : Vector Core 64}
    (h : ∀ i : Fin 64, m.getLsbD i.val = true → cores[i].excluded = false) :
    ((List.finRange 64).any fun i => m.getLsbD i.val && cores[i].excluded) = false :=
  List.any_eq_false.mpr fun i _ hboth => by
    obtain ⟨hmask, hexcluded⟩ := Bool.and_eq_true_iff.mp hboth
    exact ne_true_of_eq_false (h i hmask) hexcluded

/-- Settles O7: the reads of status and counters have no condition; each other command's requirements are the conditions of
its clause. -/
theorem schedulerCommandsComplete : Obligations.SchedulerCommandsComplete := by
  refine ⟨?config, ?status, ?counters, ?taskRead, ?cores⟩
  case config =>
    intro q s₀ h c hlimit hpriority
    have hlimits : (c.limit.toList.all fun x => inRange 1 8192 x.toNat) = true :=
      List.all_eq_true.mpr fun x hx => by
        obtain ⟨hmin, hmax⟩ := hlimit x hx
        exact inRange_of hmin hmax
    have hpriorities : (c.priority.toList.all fun x => decide (x.toNat ≤ 7)) = true :=
      List.all_eq_true.mpr fun x hx => decide_eq_true (hpriority x hx)
    exact next_serve_ok h (require_of (Bool.and_eq_true_iff.mpr ⟨hlimits, hpriorities⟩))
  case status => exact fun q s₀ h => next_serve_ok h rfl
  case counters => exact fun q s₀ h => next_serve_ok h rfl
  case taskRead => exact fun q s₀ h hn => next_serve_ok h (require_of (decide_eq_true hn))
  case cores =>
    intro q s₀ h m hmask hincluded
    have hallowed : (decide (m ≠ 0) &&
        !((List.finRange 64).any fun i => m.getLsbD i.val && (s₀.elapse q.dt).sched.cores[i].excluded)) = true := by
      simp only [any_masked_excluded_eq_false hincluded, decide_eq_true hmask, Bool.not_false, Bool.and_self]
    exact next_serve_ok h (require_of hallowed)

end Sys2Proof.Machine
end

section
/-! Proofs for spec chapter 04, completion (R149, R164, R165): the commands of the fixtures family. -/
namespace Sys2Proof.Machine
open Sys2Proof

/-! ### LOOP_CONTROL (R149, R164) -/

/-- LOOP_CONTROL of a fixture the active image has, with action `a` of Table 4.10, acts on the fixture's loop, and ends its
correction where the action is not enable; E050 tells of a loop that leaves FROZEN by it. -/
theorem next_loopControl {q : Req} {s₀ s t : State} {f : Fixture} {a : Nat} (h : Takes opLoopControl 8 q s₀)
    (hs : s₀.elapse q.dt = s) (hfixture : s.fixtureAt (rd q.payload 0 4) = some f) (haction : (p8 q.payload 4).toNat = a)
    (hlisted : a ≤ 2)
    (ht : let u := s.modLoop (rd q.payload 0 4) fun l => l.control f.closedLoop a s.grid.nextRender
      (if a ≤ 1 then u.dropCorr (rd q.payload 0 4) else u) = t) :
    let fi := rd q.payload 0 4
    (.next (loopControl q s₀) : Host.Outcome State Fault Refusal) =
      .next ((t.raiseIf ((s.loop fi).st == 2 && (t.loop fi).st != 2) 50 [f32 0 f.id, fN 4 1 2]).ok q opLoopControl []) := by
  subst hs haction ht
  refine next_serve_ok h ?_
  simp only [hfixture]
  exact require_of (decide_eq_true hlisted)

/-- Settles O10: each body's requirements are the conditions of its clause, and the three forms of LOOP_CONTROL and of
KINETIC_STOP are one arm each. That LOOP_CONTROL acts at once, and ends the correction in frames still to be solved too, is
the model's choice (log entry 117), and so is what enable does where CLOSED_LOOP = 0 (log entry 35). -/
theorem fixtureCommandsComplete : Obligations.FixtureCommandsComplete := by
  refine ⟨?cmuConfig, ?cmuStatus, ?reset, ?disable, ?enable, ?loopRead, ?solveRead, ?kineticStop, ?kineticRead⟩
  case cmuConfig =>
    intro q s₀ h c hsettleMin hsettleMax hupdate htimeout hhold
    exact next_serve_ok h (require_of (by simp [inRange_of hsettleMin hsettleMax, c, hupdate, htimeout, hhold]))
  case cmuStatus => exact fun q s₀ h => next_serve_ok h rfl
  case reset =>
    intro q s₀ h f fi t hfixture haction
    exact next_loopControl h rfl hfixture (congrArg BitVec.toNat haction) (by decide) rfl
  case disable =>
    intro q s₀ h f fi t hfixture haction
    exact next_loopControl h rfl hfixture (congrArg BitVec.toNat haction) (by decide) rfl
  case enable =>
    intro q s₀ h f fi t hfixture haction
    exact next_loopControl h rfl hfixture (congrArg BitVec.toNat haction) (by decide) rfl
  case loopRead =>
    intro q s₀ h im f l hactive hfixture
    refine next_serve_ok h ?_
    simp only [hactive, hfixture]
    rfl
  case solveRead =>
    intro q s₀ h f v hfixture
    refine next_serve_ok h ?_
    simp only [hfixture]
    rfl
  case kineticStop =>
    intro q s₀ h k t hscope halone hopen
    have hstop (hlisted : inRange 1 3 k.action.toNat = true) : kineticStop q s₀ = t := by
      have hallowed : (inRange 1 3 k.action.toNat && decide (k.scope.toNat ≤ 2) && !(k.frame == 0xFFFFFFFF &&
          ((s₀.elapse q.dt).paired || decide (1 < (s₀.elapse q.dt).memberIds.length)))) = true := by
        simpa [hlisted, hscope, Decidable.or_iff_not_imp_left] using halone
      have hintime : (k.frame == 0xFFFFFFFF || !(s₀.elapse q.dt).passBegun k.frame) = true := by simpa using hopen
      exact serve_ok h ((require_of hallowed).trans (require_of hintime))
    exact ⟨fun hhold => congrArg _ (hstop (hhold ▸ rfl)), fun hblackout => congrArg _ (hstop (hblackout ▸ rfl)),
      fun hrelease => congrArg _ (hstop (hrelease ▸ rfl))⟩
  case kineticRead => exact fun q s₀ h hi => next_serve_ok h (require_of (decide_eq_true hi))

end Sys2Proof.Machine
end

section
/-! Proofs for spec chapter 05, completion (R171, R182, R183, R191, R195): the commands of Deck, ingest and the raster engines, and
the scrubber's read. -/
namespace Sys2Proof.Machine
open Sys2Proof

/-- Settles O11: the reads of status answer as their tables say, a setting's requirements are the conditions of its clause, and an
operand that names a stream, an engine or a layer is its index. -/
theorem pixelCommandsComplete : Obligations.PixelCommandsComplete := by
  refine ⟨?deckStatus, ?scrub, ?ingestSet, ?ingestStatus, ?rasterSet, ?layerSet, ?rasterCommit, ?rasterStatus⟩
  case deckStatus =>
    intro q s₀ h d used
    refine ⟨fun hnone => next_serve_ok h ?none, fun im himage => next_serve_ok h ?some⟩
    case none =>
      simp only [hnone]
      rfl
    case some =>
      simp only [himage]
      rfl
  case scrub => exact fun dt s₀ => rfl
  case ingestSet =>
    intro q s₀ h hstream hcolour hrange
    exact next_serve_ok h (require_of (by simp [hstream, hcolour, hrange]))
  case ingestStatus =>
    intro q s₀ h ⟨k, hlt⟩ g hindex
    obtain rfl : _ = k := hindex
    exact next_serve_ok h (dif_pos hlt)
  case rasterSet =>
    intro q s₀ h ⟨re, hlt⟩ hindex hok
    obtain rfl : _ = re := hindex
    exact next_serve_ok h ((dif_pos hlt).trans (require_of hok))
  case layerSet =>
    intro q s₀ h ⟨re, hengine⟩ ⟨l, hlayer⟩ c hre hl hblend hxMin hxMax hyMin hyMax
    obtain rfl : _ = re := hre
    obtain rfl : _ = l := hl
    exact next_serve_ok h <| (dif_pos ⟨hengine, hlayer⟩).trans <|
      require_of (by simp [c, hblend, inRange_of hxMin hxMax, inRange_of hyMin hyMax])
  case rasterCommit => exact fun q s₀ h => next_serve_ok h rfl
  case rasterStatus =>
    intro q s₀ h ⟨re, hlt⟩ x hindex
    obtain rfl : _ = re := hindex
    exact next_serve_ok h (dif_pos hlt)

end Sys2Proof.Machine
end

section
/-! Proofs for spec chapter 05, completion (R183 to R191, R342 to R346): the events of raster frames and of ST 2110-20 streams, and
the stream commands. -/
namespace Sys2Proof.Machine
open Sys2Proof

/-- Settles O12: a raster event by whether its instant has come, a packet by whether it is taken and its stream is ingested, a loss
by its time, and the stream commands by TYPE and INDEX. -/
theorem pictureEventsComplete : Obligations.PictureEventsComplete := by
  refine ⟨?start, ?line, ?blanking, ?packet, ?aesLoss, ?videoLoss, ?streamSet, ?streamStatus⟩
  case start => exact fun dt s₀ re hdue hrun => next_if_pos ⟨hdue, hrun⟩
  case line =>
    intro dt s₀ re under bad t c hxfer hreached
    show execRasterLine dt re under bad s₀ = _
    simp only [execRasterLine, hxfer]
    exact next_if_pos hreached
  case blanking =>
    intro dt s₀ re x t hfirst hreached
    have hbegins := And.intro hfirst hreached
    exact ⟨fun hcommit => (next_if_pos hbegins).trans (next_if_pos hcommit),
      fun hkept => (next_if_pos hbegins).trans (next_if_neg (ne_true_of_eq_false hkept))⟩
  case packet =>
    intro dt s₀ p t m r u v w
    have hused (htaken : r.2 = true) (hrun : u.pwr.mode = .run) : ¬(r.2 = false ∨ u.pwr.mode ≠ .run) :=
      not_or.mpr ⟨ne_false_of_eq_true htaken, not_not_intro hrun⟩
    refine ⟨fun hlost => next_if_pos (.inl hlost), fun htaken hrun hvideo henabled => ?ingested,
      fun htaken hrun hidle => ?counted⟩
    case ingested => exact (next_if_neg (hused htaken hrun)).trans (next_if_pos (Bool.and_eq_true_iff.mpr ⟨hvideo, henabled⟩))
    case counted =>
      refine (next_if_neg (hused htaken hrun)).trans (next_if_neg fun h => ?_)
      obtain ⟨hvideo, henabled⟩ := Bool.and_eq_true_iff.mp h
      exact hidle.elim (ne_false_of_eq_true hvideo) (ne_false_of_eq_true henabled)
  case aesLoss =>
    intro dt s₀ i t m (hlast : (s₀.elapse dt).net.aes[i].lastAt = some t) hpresent hexpired
    show execStreamLossTimeout dt false i s₀ = _
    simp only [execStreamLossTimeout, Bool.false_eq_true, ↓reduceIte, hlast]
    exact next_if_pos (Bool.and_eq_true_iff.mpr ⟨hpresent, hexpired⟩)
  case videoLoss =>
    intro dt s₀ k t m (hlast : (s₀.elapse dt).net.st2110[k].lastAt = some t) hpresent hexpired
    show execStreamLossTimeout dt true ⟨k.val, by omega⟩ s₀ = _
    simp only [execStreamLossTimeout, Nat.mod_eq_of_lt k.isLt, Fin.eta, ↓reduceIte, hlast]
    exact next_if_pos (Bool.and_eq_true_iff.mpr ⟨hpresent, hexpired⟩)
  case streamSet => exact fun q s₀ h hok => next_serve_ok h (require_of hok)
  case streamStatus =>
    intro q s₀ h table
    refine ⟨fun i htype hindex => next_serve_ok h ?aes, fun i htype hindex => next_serve_ok h ?video⟩
    case aes =>
      simp only [htype, hindex, ↓reduceIte, Vector.getElem?_toList, Vector.getElem?_eq_getElem i.isLt]
      rfl
    case video =>
      simp only [htype, hindex, show ¬((2 : U8) = 1) by decide, ↓reduceIte, Vector.getElem?_toList,
        Vector.getElem?_eq_getElem i.isLt]
      rfl

end Sys2Proof.Machine
end

section
/-! Proofs for spec chapter 06, completion (R200 to R206, R212, R213, R259, R267): the codeword boundary, the blocks and the timers
of a link. -/
namespace Sys2Proof.Machine
open Sys2Proof

/-! ### How a block takes its effect -/

/-- A block that a span delivers takes its effect. -/
theorem State.onBlock_of_delivered {s t : State} {sp : Fin 12} {errs : List SymErr} {block : List U8} (f : State → State)
    (h : s.codewordIn sp block errs = (t, true)) : s.onBlock sp errs block f = f t := by
  simp [State.onBlock, h]

/-- A block that a span delivers on a link that is up takes its effect (R200). -/
theorem State.onUp_of_delivered {s t : State} {sp : Fin 12} {errs : List SymErr} {block : List U8} (f : State → State)
    (h : s.codewordIn sp block errs = (t, true)) (hup : t.links[sp].st = 2) : s.onUp sp errs block f = f t :=
  (State.onBlock_of_delivered _ h).trans (if_pos hup)

/-- An arm that takes in a block, which the span delivers, answers with the block's effect. -/
theorem next_onBlock_of_delivered {s t : State} {sp : Fin 12} {errs : List SymErr} {block : List U8} {f : State → State}
    (h : s.codewordIn sp block errs = (t, true)) :
    (.next (s.onBlock sp errs block f) : Host.Outcome State Fault Refusal) = .next (f t) :=
  congrArg _ (State.onBlock_of_delivered f h)

/-- The same of a block whose effect is that of a link that is up. -/
theorem next_onUp_of_delivered {s t : State} {sp : Fin 12} {errs : List SymErr} {block : List U8} {f : State → State}
    (h : s.codewordIn sp block errs = (t, true)) (hup : t.links[sp].st = 2) :
    (.next (s.onUp sp errs block f) : Host.Outcome State Fault Refusal) = .next (f t) :=
  congrArg _ (State.onUp_of_delivered f h hup)

/-! ### The timers of a link -/

/-- What a link takes depends on the link as it stands alone. -/
theorem State.modLink_congr {s : State} {sp : Fin 12} {f g : Link → Link} (h : f s.links[sp] = g s.links[sp]) :
    s.modLink sp f = s.modLink sp g := by
  simp only [State.modLink, h]

/-- R212: a TIME block falls due on a link that is up with TIME_EN, 16 ticks after the last, and at once where none was due. -/
theorem State.timeBlockDue_iff {s : State} {sp : Fin 12} :
    s.timeBlockDue sp = true ↔ s.links[sp].st = 2 ∧ s.links[sp].cfg.timeEn = true ∧
      ∀ t, s.links[sp].timeAt = some t → t + s.grid.ticksNs 16 ≤ s.now := by
  cases h : s.links[sp].timeAt with
  | none => simp only [State.timeBlockDue, h, Bool.and_eq_true, beq_iff_eq, and_assoc, reduceCtorEq, false_implies, implies_true]
  | some t => simp only [State.timeBlockDue, h, Bool.and_eq_true, beq_iff_eq, and_assoc, decide_eq_true_eq, Option.some.injEq,
      forall_eq']

/-! ### The statements of completion -/

/-- Settles O13: a boundary by whether the span sleeps and whether it sends codewords, and a block by its delivery, on a link that
is up where its effect is that of such a link. That a block of reserved TYPE stands with an empty payload is the model's choice
(log entry 124). -/
theorem linkBlocksComplete : Obligations.LinkBlocksComplete := by
  refine ⟨?boundary, ?idle, ?data, ?credit, ?ack, ?nak, ?time, ?hello, ?reserved⟩
  case boundary =>
    intro dt s₀ sp t n u
    exact ⟨fun hsleeps => next_if_pos hsleeps, fun hawake hsends =>
      (next_if_neg (ne_true_of_eq_false hawake)).trans (next_if_neg (ne_false_of_eq_true hsends))⟩
  case idle => exact fun dt sp errs s₀ s hdelivered => next_onBlock_of_delivered hdelivered
  case data => exact fun b dt sp errs s₀ s hdelivered hup => next_onUp_of_delivered hdelivered hup
  case credit => exact fun freed dt sp errs s₀ s hdelivered hup => next_onUp_of_delivered hdelivered hup
  case ack => exact fun lseq dt sp errs s₀ s hdelivered hup => next_onUp_of_delivered hdelivered hup
  case nak => exact fun lseq dt sp errs s₀ s hdelivered hup => next_onUp_of_delivered hdelivered hup
  case time => exact fun t dt sp errs s₀ s hdelivered hup => next_onUp_of_delivered hdelivered hup
  case hello => exact fun h dt sp errs s₀ s hdelivered => next_onBlock_of_delivered hdelivered
  case reserved => exact fun dt sp errs s₀ s hdelivered => next_onBlock_of_delivered hdelivered

/-- Settles O14: each timer by the state of its link and by whether its time has come; a loss of codewords counts outside a
calibration gap alone (R259). -/
theorem linkTimersComplete : Obligations.LinkTimersComplete := by
  refine ⟨?credit, ?hello, ?time, ?stall, ?stallDown, ?ack, ?fec⟩
  case credit =>
    intro dt s₀ sp hup hdue
    exact (next_if_pos hup).trans (congrArg Host.Outcome.next (State.modLink_congr (if_pos hdue)))
  case hello => exact fun dt s₀ sp hdue => next_if_pos hdue
  case time =>
    exact fun dt s₀ sp hup henabled hticks => next_if_pos (State.timeBlockDue_iff.mpr ⟨hup, henabled, hticks⟩)
  case stall =>
    intro dt s₀ sp vc t hwaits hnew hexpired
    show execCreditStallTimeout dt sp vc s₀ = _
    simp only [execCreditStallTimeout, hwaits]
    exact next_if_pos ⟨hnew, hexpired⟩
  case stallDown =>
    intro dt s₀ sp vc t hwaits hexpired
    show execCreditStallLinkDown dt sp vc s₀ = _
    simp only [execCreditStallLinkDown, hwaits]
    exact next_if_pos hexpired
  case ack => exact fun dt s₀ sp hkept hexpired => next_if_pos ⟨hkept, hexpired⟩
  case fec =>
    intro dt s₀ sp hgap hexpired
    refine next_if_pos ⟨?_, hexpired⟩
    split
    next t hopen => exact decide_eq_false (Nat.not_lt.mpr (hgap t hopen))
    next => rfl

end Sys2Proof.Machine
end

section
/-! Proofs for spec chapter 06, completion (R209 to R228): the messages and timers of a latch domain. -/
namespace Sys2Proof.Machine
open Sys2Proof

/-- Settles O15: a message that is accepted has its effect, and a LINK_EVENT by its kind. The turn-round time of an echo is the
model's choice (log entry 49). -/
theorem domainMessagesComplete : Obligations.DomainMessagesComplete := by
  refine ⟨?latch, ?report, ?member, ?merge, ?linkEvent, ?update, ?returned, ?pathProbe, ?pathEcho, ?rasterFrame, ?rasterLine⟩
  case latch => exact fun dt span m s₀ haccepted => next_consume_of_accepted haccepted rfl
  case report => exact fun dt span m s₀ haccepted => next_consume_of_accepted haccepted rfl
  case member => exact fun dt span m s₀ haccepted => next_consume_of_accepted haccepted rfl
  case merge => exact fun dt span m s₀ haccepted => next_consume_of_accepted haccepted rfl
  case linkEvent =>
    intro dt span m s₀ haccepted t
    exact ⟨fun hup => next_consume_of_accepted haccepted (congrArg State.topologyChange (if_pos hup)),
      fun hother => next_consume_of_accepted haccepted (congrArg State.topologyChange (if_neg hother))⟩
  case update => exact fun dt span m s₀ haccepted => next_consume_of_accepted haccepted rfl
  case returned => exact fun dt span m s₀ haccepted => next_consume_of_accepted haccepted rfl
  case pathProbe => exact fun dt span m s₀ haccepted turn => next_consume_of_accepted haccepted rfl
  case pathEcho => exact fun dt span m s₀ haccepted => next_consume_of_accepted haccepted rfl
  case rasterFrame => exact fun dt span m s₀ haccepted => next_consume_of_accepted haccepted rfl
  case rasterLine => exact fun dt span m s₀ haccepted => next_consume_of_accepted haccepted rfl

/-! ### The LATCH of a frame (R218) -/

/-- A frame that is ready has its LATCH flooded, the second copy kept for later where LATCH_REPEAT is 1, and the LATCH taken. -/
theorem State.issueLatch_of_ready {s : State} (h : s.latchReady s.latchFrame = true) :
    let l := s.houseReturn.makeLatch s.latchFrame
    let u := s.houseReturn.flood 0x0001 l.bytes
    s.issueLatch = State.acceptLatch (if u.tre.cfg.latchRepeat = true then
      { u with tre.latchCopy := u.tre.latchCopy ++ [(s.latchFrame, Latch.bytes { l with copy := 1 }, u.now)] } else u) l :=
  if_pos h

/-- Settles O16: each timer by what it waits for, and a LATCH by LATCH_REPEAT; the dropping of members and routes has no
condition. That LATCH_REPEAT decides on the second copy is the model's choice (log entry 48). -/
theorem domainTimersComplete : Obligations.DomainTimersComplete := by
  refine ⟨?issue, ?repeated, ?flood, ?timeout, ?partition, ?routeAge, ?probe⟩
  case issue =>
    intro dt s₀ m t l u hready
    have hissued := State.issueLatch_of_ready hready
    refine ⟨fun honce => congrArg Host.Outcome.next (hissued.trans ?_),
      fun htwice => congrArg Host.Outcome.next (hissued.trans ?_)⟩
    · exact congrArg (State.acceptLatch · l) (if_neg (ne_true_of_eq_false honce))
    · exact congrArg (State.acceptLatch · l) (if_pos htwice)
  case repeated =>
    intro dt s₀ c rest hcopy hreached
    show execLatchRepeat dt s₀ = _
    simp only [execLatchRepeat, hcopy]
    exact next_if_pos hreached
  case flood => exact fun dt s₀ hdue => next_if_pos hdue
  case timeout => exact fun dt s₀ => rfl
  case partition =>
    intro dt s₀
    refine congrArg (fun p => Host.Outcome.next ((s₀.elapse dt).dropMembers p)) (funext fun e => ?_)
    cases e.unconfirmed <;> rfl
  case routeAge => exact fun dt s₀ => rfl
  case probe => exact fun dt s₀ hdue => next_if_pos hdue

end Sys2Proof.Machine
end

section
/-! Proofs for spec chapter 06, completion (R208, R231): the Trestle's commands. -/
namespace Sys2Proof.Machine
open Sys2Proof

/-- Settles O17: the reads answer as their tables say, and a setting's requirements are the conditions of its clause. That
TRESTLE_SET takes NODE_ID 0, which R208 reserves, and that ROLE 2 names a pair's engine without control, are the model's choice
(log entry 50). -/
theorem trestleCommandsComplete : Obligations.TrestleCommandsComplete := by
  refine ⟨?set, ?status, ?member, ?route, ?linkSet, ?linkCounters, ?dest⟩
  case set =>
    intro q s₀ h c node hnode hhop hpartitionMin hpartitionMax htimeoutMin htimeoutMax hrefreshMin hrefreshMax hmargin hstallMin
      hstallMax hackMin hackMax hageMin hageMax hfree
    refine next_serve_ok h <| (require_of ?fields).trans (require_of ?change)
    case fields =>
      simp [node, c, hnode, hhop, hmargin, inRange_of hpartitionMin hpartitionMax, inRange_of htimeoutMin htimeoutMax,
        inRange_of hrefreshMin hrefreshMax, inRange_of hstallMin hstallMax, inRange_of hackMin hackMax, inRange_of hageMin hageMax]
    case change => simpa using hfree
  case status =>
    intro q s₀ h
    refine next_serve_ok h ?_
    cases (s₀.elapse q.dt).tre.timeParent <;> cases (s₀.elapse q.dt).tre.merges <;> rfl
  case member =>
    intro q s₀ h e hlisted
    refine next_serve_ok h ?_
    simp only [hlisted]
    rfl
  case route =>
    intro q s₀ h r
    refine ⟨fun hunknown => next_serve_ok h ?unknown, fun e hlearned => next_serve_ok h ?learned⟩
    case unknown =>
      simp only [r] at hunknown
      simp only [hunknown]
      rfl
    case learned =>
      simp only [r] at hlearned
      simp only [hlearned]
      rfl
  case linkSet =>
    exact fun q s₀ h hspan hw2 hw3 => next_serve_ok h (require_of (by simpa [hspan] using ⟨hw2, hw3⟩))
  case linkCounters =>
    intro q s₀ h ⟨sp, hlt⟩ hindex
    obtain rfl : _ = sp := hindex
    exact next_serve_ok h (dif_pos hlt)
  case dest =>
    intro q s₀ h im r d himage hroute
    refine next_serve_ok h ?_
    simp only [himage, Option.bind_some, hroute]
    rfl

end Sys2Proof.Machine
end

section
/-! Proofs for spec chapter 07, completion (R242, R246 to R255, R271, R496): the signals of a lane and the timers of training. -/
namespace Sys2Proof.Machine
open Sys2Proof

/-! ### Loss of signal in training (R252, R271) -/

section
variable {dt : Nat} {s₀ t : State} {sp : Fin 12} {lane : Fin 6}
  (hmarked : ((s₀.elapse dt).modSpan sp fun x => x.markLost lane.val true) = t) (htrains : t.spans[sp].st = 2)
  (hlost : lane = 5 ∨ 2 ≤ t.spans[sp].losCount)
include hmarked htrains hlost

/-- R252: a loss of signal on CK or on a second data lane aborts an attempt whose LOCK has not passed. -/
theorem execLaneLos_aborts (hlock : t.spans[sp].train.lockAt = none) :
    execLaneLos dt sp lane s₀ = .next (t.abortAttempt sp) := by
  have hends : lane.val = 5 ∨ 2 ≤ t.spans[sp].losCount := hlost.imp_left (congrArg Fin.val)
  simp only [execLaneLos, hmarked, htrains, hends, hlock, Nat.reduceEqDiff, and_self, Bool.false_eq_true,
    ↓reduceIte]

/-- R271: a second data lane that loses its signal in the step in which LOCK passes brings the link down once it is up. -/
theorem execLaneLos_due {e : Nat} (hdata : lane ≠ 5) (hlock : t.spans[sp].train.lockAt = some e) (hopen : t.fwExpired e = false) :
    execLaneLos dt sp lane s₀ = .next (t.modSpan sp fun x => { x with losDue := true }) := by
  have hends : lane.val = 5 ∨ 2 ≤ t.spans[sp].losCount := hlost.imp_left (congrArg Fin.val)
  have hnotCk : (lane.val != 5) = true := bne_iff_ne.mpr fun h => hdata (Fin.ext h)
  simp only [execLaneLos, hmarked, htrains, hends, hlock, hnotCk, hopen, Nat.reduceEqDiff, and_self, Bool.not_false, Bool.and_self,
    ↓reduceIte]

end

/-! ### The window of a training step (R250) -/

/-- R250: a step ends when its window does; those of a fast resume have none. -/
theorem execTrainingStepWindowEnd_of_over {dt : Nat} {s₀ s : State} {sp : Fin 12} {t : Nat} (r : StepResult)
    (hs : s₀.elapse dt = s) (hover : s.spans[sp].st = 7 ∨
      s.spans[sp].st = 2 ∧ s.spans[sp].train.windowEnd = some t ∧ s.fwExpired t = true) :
    execTrainingStepWindowEnd dt sp r s₀ = .next ((s.stepEnd sp r).showTx sp) := by
  subst hs
  obtain hresume | ⟨htrains, hwindow, hexpired⟩ := hover
  · exact next_if_pos hresume
  · simp only [execTrainingStepWindowEnd, htrains, hwindow, hexpired, Nat.reduceEqDiff, not_true_eq_false, ne_eq, ↓reduceIte]

/-! ### The statement of completion -/

/-- Settles O18: a loss of signal or of lock by the state of the span, a signal that returns on CK by whether the span sleeps, and
each timer by whether it has expired. -/
theorem laneSignalsComplete : Obligations.LaneSignalsComplete := by
  refine ⟨?los, ?dataLosClear, ?ckLosClear, ?lol, ?start, ?frame, ?window, ?timeout, ?quiet, ?retry, ?uncorrectable⟩
  case los =>
    intro dt s₀ sp lane t x
    exact ⟨fun (hup : x.st = 3) => next_if_pos hup, fun htrains hlost hlock => execLaneLos_aborts rfl htrains hlost hlock,
      fun e htrains hdata hlost hlock hopen => execLaneLos_due rfl htrains (.inr hlost) hdata hlock hopen⟩
  case dataLosClear =>
    intro dt s₀ sp lane
    have hdata : lane.val ≠ 5 := by omega
    show execLaneLosClear dt sp ⟨lane.val, _⟩ s₀ = _
    simp only [execLaneLosClear, hdata, false_and, ↓reduceIte]
  case ckLosClear =>
    intro dt s₀ sp t
    exact ⟨fun hwakes => next_if_pos ⟨rfl, hwakes⟩, fun hasleep hquiet =>
      (next_if_neg fun h => ne_true_of_eq_false hasleep h.2).trans (next_if_pos ⟨rfl, hquiet⟩)⟩
  case lol => exact fun dt s₀ sp lane hup => next_if_pos hup
  case start => exact fun dt s₀ sp hdue => next_if_pos hdue
  case frame => exact fun dt s₀ sp f => rfl
  case window => exact fun dt s₀ sp r t hover => execTrainingStepWindowEnd_of_over r rfl hover
  case timeout => exact fun dt s₀ sp htrains hexpired => next_if_pos ⟨htrains, hexpired⟩
  case quiet => exact fun dt s₀ sp hexpired hdue => next_if_pos ⟨hexpired, hdue⟩
  case retry => exact fun dt s₀ sp hexpired hdue => next_if_pos ⟨hexpired, hdue⟩
  case uncorrectable => exact fun dt s₀ sp => rfl

end Sys2Proof.Machine
end

section
/-! Proofs for spec chapter 07, completion (R255 to R270): rotation, calibration gaps, wake and the health check. -/
namespace Sys2Proof.Machine
open Sys2Proof

section
variable {s : State} {sp : Fin 12}

/-! ### Rotation (R257) -/

section
variable {r : Rotation} (hrotation : s.spans[sp].rotation = some r)
include hrotation

/-- R257 step 2: with the sweep of the spare over, the peer is asked to duplicate the lane. -/
theorem State.sweepDone_of_spare (taps : Taps) (hover : s.cycExpired r.sweepEnd = true) (hphase : r.phase = 2) :
    s.sweepDone sp taps = State.laneAsk ((s.modSpan sp fun x => x.modLane r.dest fun l =>
      { l with taps := taps, sweeps := l.sweeps.inc }).modSpan sp fun x => { x with rotation := some { r with phase := 3 } }) sp 2
        { laneCtl0 with logical := BitVec.ofNat 8 r.logical, physical := BitVec.ofNat 8 r.dest } := by
  simp only [State.sweepDone, hrotation, hover, hphase, Bool.true_eq_false, ↓reduceIte]

/-- R257 step 4: with the sweep of the lane that was left over, the rotation ends and that lane is the spare. -/
theorem State.sweepDone_of_left (taps : Taps) (hover : s.cycExpired r.sweepEnd = true) (hphase : r.phase = 7) :
    s.sweepDone sp taps = State.laneAsk ((s.modSpan sp fun x => x.modLane r.from_ fun l =>
      { l with taps := taps, sweeps := l.sweeps.inc }).modSpan sp fun x =>
        { x with rotation := none, rotations := x.rotations.inc, lastRotated := r.logical,
                 rx := { x.rx with spare := some r.from_ } }) sp 4
        { laneCtl0 with logical := BitVec.ofNat 8 r.logical, physical := BitVec.ofNat 8 r.from_ } := by
  simp only [State.sweepDone, hrotation, hover, hphase, Bool.true_eq_false, Nat.reduceEqDiff, ↓reduceIte]

/-- R257 step 2: once 1,024 duplicated codewords have come, the rotation goes on where they were equal. -/
theorem State.compareDone_of_count (equal : Bool) (hphase : r.phase = 4) (hcount : 1024 ≤ (s.spans[sp].cwRx - r.c1).toInt) :
    s.compareDone sp equal = if equal then s.modSpan sp fun x => { x with rotation := some { r with phase := 5 } }
      else (s.abandonRotation sp).laneAsk sp 4 { laneCtl0 with physical := BitVec.ofNat 8 r.dest } := by
  have hdue : ¬(r.phase ≠ 4 ∨ (s.spans[sp].cwRx - r.c1).toInt < 1024) :=
    not_or.mpr ⟨not_not_intro hphase, Int.not_lt.mpr hcount⟩
  simp only [State.compareDone, hrotation]
  exact if_neg hdue

/-- R257 step 3: at codeword c1 + 1,088 the receiver takes the lane from the spare. -/
theorem State.swapLane_of_count (hphase : r.phase = 5) (hcount : 1088 ≤ (s.spans[sp].cwRx - r.c1).toInt) :
    s.swapLane sp = State.laneAsk (s.modSpan sp fun x =>
      { x with rotation := some { r with phase := 6 },
               rx := { x.rx with lanes := x.rx.lanes.set r.logical r.dest, spare := none } }) sp 3
        { laneCtl0 with logical := BitVec.ofNat 8 r.logical, physical := BitVec.ofNat 8 r.from_ } := by
  have hdue : ¬(r.phase ≠ 5 ∨ (s.spans[sp].cwRx - r.c1).toInt < 1088) :=
    not_or.mpr ⟨not_not_intro hphase, Int.not_lt.mpr hcount⟩
  simp only [State.swapLane, hrotation]
  exact if_neg hdue

end

/-! ### Gaps (R259, R260) -/

/-- R259: the receiver's gap begins at its START_CW; new taps are applied and codeword lock is sought again. -/
theorem State.gapStart_of_receive {cw : U32} (taps : List (Fin 5 × Taps)) (hplaced : s.spans[sp].gapRx = some (.placed cw))
    (hreached : 0 ≤ (s.spans[sp].cwRx - cw).toInt) :
    s.gapStart sp false taps = State.raiseF (s.modSpan sp fun x =>
      let y := { x with calGaps := x.calGaps.inc }
      { y.setTaps taps with
        gapRx := some (.open_ s.now), lock := false, goodRun := 0, badRun := 0
        lane := (y.setTaps taps).lane.map fun l => { l with preRx := 0, prePeer := 0 } }) 76 [fN 0 1 sp.val, fN 1 1 1] := by
  simp only [State.gapStart, hplaced, Int.not_lt.mpr hreached, Bool.false_eq_true, ↓reduceIte]

/-- R259: the transmitter's gap begins at its START_CW; ALIGN frames are sent. -/
theorem State.gapStart_of_transmit {cw : U32} (taps : List (Fin 5 × Taps)) (hplaced : s.spans[sp].gapTx = some (.placed cw))
    (hreached : 0 ≤ (s.spans[sp].cwTx - cw).toInt) :
    s.gapStart sp true taps = State.raiseF (State.showTx (s.modSpan sp fun x =>
      { x with calGaps := x.calGaps.inc, gapTx := some (.open_ s.now), lane := x.lane.map fun l => { l with pre := 0 } }) sp) 76
        [fN 0 1 sp.val, fN 1 1 1] := by
  simp only [State.gapStart, hplaced, Int.not_lt.mpr hreached, ↓reduceIte]

section
variable {f : U32} (hlate : (s.spans[sp].cfg.calGapWait.toNat : Int) ≤ sdiff32 (lastFrame s.grid.frame) f)
include hlate

/-- R260: a transmit gap that has waited CAL_GAP_WAIT frames is reported once. -/
theorem State.gapDefer_of_transmit (hwaits : s.spans[sp].gapTx = some (.wait f false)) :
    s.gapDefer sp = State.raiseF (s.modSpan sp fun x => { x with gapTx := some (.wait f true) }) 76
      [fN 0 1 sp.val, fN 1 1 2] := by
  simp only [State.gapDefer, hwaits]
  exact if_pos (decide_eq_true hlate)

/-- R260: a receive gap that has waited CAL_GAP_WAIT frames is reported once. -/
theorem State.gapDefer_of_receive (hnone : s.spans[sp].gapTx = none) (hwaits : s.spans[sp].gapRx = some (.wait f false)) :
    s.gapDefer sp = State.raiseF (s.modSpan sp fun x => { x with gapRx := some (.wait f true) }) 76
      [fN 0 1 sp.val, fN 1 1 2] := by
  simp only [State.gapDefer, hnone, hwaits]
  exact if_pos (decide_eq_true hlate)

end

/-- R259: a receiver without lock 8 us after its gap began loses the link. -/
theorem execCalGapLockTimeout_of_open {dt t : Nat} (hopen : (s.elapse dt).spans[sp].gapRx = some (.open_ t))
    (hexpired : (s.elapse dt).cycExpired (t + 8000) = true) :
    execCalGapLockTimeout dt sp s = .next ((s.elapse dt).linkDown sp 7) := by
  simp only [execCalGapLockTimeout, hopen]
  exact next_if_pos hexpired

/-! ### Wake (R268, R269) -/

section
variable {w g : Nat} (hsleep : s.spans[sp].sleep = some (w, g))
include hsleep

/-- R268: a sleeping span wakes into its fast resume at W - G. -/
theorem State.spanWake_of_due (hasleep : s.spans[sp].st = 5) (hdue : w ≤ s.full + g) :
    s.spanWake sp = ((s.modSpan sp fun x =>
      { x with st := 7, wokeAt := s.now, downSince := s.now, alignSeen := false, step := 7, lock := false, goodRun := 0,
               cwTx := 0, lane := x.lane.map (fun l => { l with pre := 0 }),
               train := { t0 := s.now, step := 7, rAt := some s.now, cfg := x.train.cfg } }).linkState sp 1).showTx sp := by
  have hwakes : ¬(s.spans[sp].st ≠ 5 ∨ s.full + g < w) := not_or.mpr ⟨not_not_intro hasleep, Nat.not_lt.mpr hdue⟩
  simp only [State.spanWake, hsleep]
  exact if_neg hwakes

/-- R269: a fast resume that has seen no ALIGN frame within 4 G gives way to a full attempt. -/
theorem State.wakeDrift_of_expired (hresumes : s.spans[sp].st = 7) (hunseen : s.spans[sp].alignSeen = false)
    (hexpired : s.fwExpired (s.spans[sp].wokeAt + 4 * g) = true) :
    s.wakeDrift sp = State.beginAttempt (State.raiseF
      (s.modSpan sp fun x => { x with st := 1, sleep := none, wakeDrifts := x.wakeDrifts.inc }) 74 [fN 0 1 sp.val]) sp := by
  simp only [State.wakeDrift, hsleep, hresumes, hunseen, hexpired, ne_eq, not_true_eq_false, Bool.false_eq_true,
    Bool.true_eq_false, or_self, ↓reduceIte]

end

end

/-! ### The statement of completion -/

/-- Settles O19: each step of a rotation by its phase and count, each gap by its START_CW or its wait, and each timer by whether
it has expired. -/
theorem calibrationEventsComplete : Obligations.CalibrationEventsComplete := by
  refine ⟨?needed, ?rotationTimer, ?sweep, ?compare, ?swap, ?gapStart, ?lockTimeout, ?deferral, ?wake, ?drift, ?down, ?recover⟩
  case needed =>
    exact fun dt s₀ sp lane seen => ⟨fun hneeds => next_if_pos hneeds, fun hwell => next_if_neg (ne_true_of_eq_false hwell)⟩
  case rotationTimer => exact fun dt s₀ sp henabled hexpired => next_if_pos ⟨henabled, hexpired⟩
  case sweep =>
    intro dt s₀ sp t r u hrotation hover
    exact ⟨fun hphase => congrArg Host.Outcome.next (State.sweepDone_of_spare hrotation t hover hphase),
      fun hphase => congrArg Host.Outcome.next (State.sweepDone_of_left hrotation t hover hphase)⟩
  case compare =>
    intro dt s₀ sp r hrotation hphase hcount
    exact ⟨congrArg Host.Outcome.next (State.compareDone_of_count hrotation true hphase hcount),
      congrArg Host.Outcome.next (State.compareDone_of_count hrotation false hphase hcount)⟩
  case swap =>
    exact fun dt s₀ sp r hrotation hphase hcount =>
      congrArg Host.Outcome.next (State.swapLane_of_count hrotation hphase hcount)
  case gapStart =>
    intro dt s₀ sp taps cw
    exact ⟨fun hplaced hreached => congrArg Host.Outcome.next (State.gapStart_of_receive taps hplaced hreached),
      fun hplaced hreached => congrArg Host.Outcome.next (State.gapStart_of_transmit taps hplaced hreached)⟩
  case lockTimeout => exact fun dt s₀ sp t hopen hexpired => execCalGapLockTimeout_of_open hopen hexpired
  case deferral =>
    intro dt s₀ sp f hlate
    exact ⟨fun hwaits => congrArg Host.Outcome.next (State.gapDefer_of_transmit hlate hwaits),
      fun hnone hwaits => congrArg Host.Outcome.next (State.gapDefer_of_receive hlate hnone hwaits)⟩
  case wake =>
    exact fun dt s₀ sp w g hsleep hasleep hdue => congrArg Host.Outcome.next (State.spanWake_of_due hsleep hasleep hdue)
  case drift =>
    exact fun dt s₀ sp w g hsleep hresumes hunseen hexpired =>
      congrArg Host.Outcome.next (State.wakeDrift_of_expired hsleep hresumes hunseen hexpired)
  case down => exact fun dt s₀ sp hdown => next_if_pos hdown
  case recover => exact fun dt s₀ sp hfail hup hexpired => next_if_pos ⟨hfail, hup, hexpired⟩

end Sys2Proof.Machine
end

section
/-! Proofs for spec chapter 07, completion (R255 to R267): lane control on a link that is up. -/
namespace Sys2Proof.Machine
open Sys2Proof

section
variable {s t : State} {sp : Fin 12} {m : LaneCtl}

/-! ### What lane control leaves alone -/

@[simp] theorem State.queueMsg_spans (s : State) (sp : Fin 12) (m : Msg) (note : Option (U32 × Nat)) :
    (s.queueMsg sp m note).spans = s.spans := by
  unfold State.queueMsg
  split
  next => exact State.modLink_spans ..
  next => rfl

@[simp] theorem State.laneSend_spans (s : State) (sp : Fin 12) (op : Nat) (m : LaneCtl) : (s.laneSend sp op m).spans = s.spans :=
  State.queueMsg_spans ..

@[simp] theorem State.laneAnswer_spans (s : State) (sp : Fin 12) (ack : Bool) (m : LaneCtl) (cw : U32) :
    (s.laneAnswer sp ack m cw).spans = s.spans :=
  State.laneSend_spans ..

/-- What a span takes depends on the span as it stands alone. -/
theorem State.modSpan_congr {f g : Span → Span} (h : f s.spans[sp] = g s.spans[sp]) : s.modSpan sp f = s.modSpan sp g := by
  simp only [State.modSpan, h]

/-! ### Requests of the peer (R257, R262) -/

/-- An arm that takes in lane control, on a link that is up, answers with its effect. -/
theorem next_laneCtl_of_up {f : State → State} (hup : s.links[sp].st = 2) (e : f s = t) :
    (.next (s.laneCtl sp f) : Host.Outcome State Fault Refusal) = .next t :=
  congrArg _ ((if_pos hup).trans e)

section
variable (hawake : s.spans[sp].sleepDue = false) (hgap : s.spans[sp].gapTx = none)
include hawake hgap

/-- A request that conflicts with nothing and names no codeword is answered with ACK. -/
theorem State.txRequest_of_free {ok : Bool} (hok : ok = true) (f : U32 → Span → Span) :
    s.txRequest sp m ok false f = (s.modSpan sp (f m.startCw)).laneAnswer sp true m m.startCw := by
  simp only [State.txRequest, hok, hawake, hgap, Option.isNone_none, Bool.not_false, Bool.and_self, Bool.false_eq_true, ↓reduceIte]

/-- A request that conflicts with nothing and takes effect at a codeword is answered with ACK and the START_CW chosen. -/
theorem State.txRequest_of_placed {ok : Bool} (hok : ok = true) (f : U32 → Span → Span) :
    s.txRequest sp m ok true f = (s.draw.modSpan sp (f (s.chooseCw sp))).laneAnswer sp true m (s.chooseCw sp) := by
  simp only [State.txRequest, hok, hawake, hgap, Option.isNone_none, Bool.not_false, Bool.and_self, ↓reduceIte]

/-- R257 step 1: SPARE_ON puts PRBS31 on an idle spare. -/
theorem execLaneCtlSpareOn_of_free {dt : Nat} {s₀ : State} (hs : s₀.elapse dt = s) (hup : s.links[sp].st = 2)
    (hidle : s.spans[sp].txPhase = 0) (hspare : s.spans[sp].tx.spare = some m.physical.toNat)
    (hundriven : s.spans[sp].spareDriven = false) :
    execLaneCtlSpareOn dt sp m s₀ =
      .next (((s.modSpan sp fun x => { x with txPhase := 1 }).laneAnswer sp true m m.startCw).emit
        (.spanTx sp.val (.pattern s.spans[sp].rate.toNat [(m.physical.toNat, 4)]))) := by
  have hok : (s.spans[sp].txPhase == 0 && s.spans[sp].tx.spare == some m.physical.toNat && !s.spans[sp].spareDriven) = true := by
    simp only [hidle, hspare, hundriven, beq_self_eq_true, Bool.not_false, Bool.and_self]
  subst hs
  refine next_laneCtl_of_up hup ?_
  simp only [State.txRequest_of_free hawake hgap hok]
  simp only [hok, State.laneAnswer_spans, State.modSpan_self, beq_self_eq_true, Bool.and_self, ↓reduceIte]

/-- R257 step 3: RELEASE moves the lane that is duplicated onto the spare. -/
theorem execLaneCtlRelease_of_duplicate {dt j k : Nat} {s₀ : State} {c : U32} (hs : s₀.elapse dt = s) (hup : s.links[sp].st = 2)
    (hduplicates : s.spans[sp].txPhase = 2) (hlane : s.spans[sp].txDup = some (j, c)) (hspare : s.spans[sp].tx.spare = some k) :
    execLaneCtlRelease dt sp m s₀ =
      .next ((s.draw.modSpan sp fun x => { x with txPhase := 3, txMove := some ⟨j, k, s.chooseCw sp, true⟩ }).laneAnswer
        sp true m (s.chooseCw sp)) := by
  subst hs
  refine next_laneCtl_of_up hup ((State.txRequest_of_placed hawake hgap (beq_iff_eq.mpr hduplicates) _).trans ?_)
  refine congrArg (State.laneAnswer · sp true m (State.chooseCw _ sp)) (State.modSpan_congr ?_)
  simp only [State.draw_spans, hlane, hspare]

/-- R255: the transmitting end moves the lane onto the spare. -/
theorem State.txLaneFault_of_free (hlogical : m.logical.toNat < 4) (hspare : s.spans[sp].tx.spare = some m.physical.toNat) :
    s.txLaneFault sp m = (State.laneAnswer (s.draw.modSpan sp fun x => { x with
      tx := { x.tx with spare := none }, txMove := some ⟨m.logical.toNat, m.physical.toNat, s.chooseCw sp, false⟩, txPhase := 0
      txDup := none }) sp true m (s.chooseCw sp)).raiseLane sp 1 (s.spans[sp].tx.physical m.logical.toNat) m.logical.toNat := by
  have hok : (decide (m.logical.toNat < 4) && s.spans[sp].tx.spare == some m.physical.toNat) = true := by
    simp only [hlogical, hspare, decide_true, beq_self_eq_true, Bool.and_self]
  simp only [State.txLaneFault, State.txRequest_of_placed hawake hgap hok]
  simp only [hok, hawake, hgap, Option.isNone_none, Bool.not_false, Bool.and_self, ↓reduceIte]

/-- R259, R260: a gap is placed at the sender's START_CW, or waits for a frame gap. -/
theorem State.txCalGap_of_free (hidle : s.spans[sp].txPhase = 0) :
    let g : Gap := if m.startCw = 0xFFFFFFFF then .wait (lastFrame s.grid.frame) false else .placed m.startCw
    s.txCalGap sp m = State.placeGap
      ((s.modSpan sp fun x => { x with gapTx := some g, gapTag := m.tag }).laneAnswer sp true m m.startCw) sp :=
  if_neg (by simp only [hidle, hawake, hgap, ne_eq, not_true_eq_false, Bool.false_eq_true, Option.isSome_none, or_self,
    not_false_eq_true])

/-- R267: a SLEEP that crosses none of this engine's own and finds nothing in progress is taken up. -/
theorem State.sleepRequest_of_free (hrotation : s.spans[sp].rotation = none) (hgapRx : s.spans[sp].gapRx = none)
    (hidle : s.spans[sp].txPhase = 0) (hown : ∀ c, s.spans[sp].ctl = some c → c.op ≠ 7) :
    s.sleepRequest sp m = s.acceptSleep sp m := by
  have hbusy : (s.spans[sp].rotation.isSome || s.spans[sp].gapRx.isSome || s.spans[sp].gapTx.isSome ||
      s.spans[sp].sleepDue || s.spans[sp].txPhase != 0) = false := by
    simp only [hrotation, hgapRx, hgap, hawake, hidle, Option.isSome_none, bne_self_eq_false, Bool.or_self]
  cases hctl : s.spans[sp].ctl with
  | none => simp only [State.sleepRequest, hctl, hbusy, Bool.false_eq_true, ↓reduceIte]
  | some c => simp only [State.sleepRequest, hctl, hbusy, beq_eq_false_iff_ne.mpr (hown c hctl), Bool.false_eq_true, ↓reduceIte]

end

/-! ### Answers of the peer (R262) -/

section
variable {c : CtlReq} (hctl : s.spans[sp].ctl = some c) (htag : c.msg.tag = m.tag)
include hctl htag

/-- An ACK of SPARE_IDLE ends the calibration; the next one begins. -/
theorem State.laneAck_of_spareIdle (hop : c.op = 4) :
    s.laneAck sp m = (s.modSpan sp fun x => { x with ctl := none }).nextCalibration sp := by
  simp only [State.laneAck, hctl, htag, hop, ne_eq, not_true_eq_false, Nat.reduceEqDiff, ↓reduceIte]

/-- An ACK of LANE_FAULT gives the codeword at which the receiver moves the lane. -/
theorem State.laneAck_of_laneFault (hop : c.op = 5) :
    s.laneAck sp m = (s.modSpan sp fun x => { x with ctl := none }).modSpan sp fun x => Span.moveRx
      { x with rxMove := some ⟨c.msg.logical.toNat, c.msg.physical.toNat, m.startCw, false⟩ } := by
  simp only [State.laneAck, hctl, htag, hop, ne_eq, not_true_eq_false, ↓reduceIte]

/-- An ACK of CAL_GAP with a START_CW places the gap. -/
theorem State.laneAck_of_calGap (hop : c.op = 6) (hplaced : m.startCw ≠ 0xFFFFFFFF) :
    s.laneAck sp m =
      (s.modSpan sp fun x => { x with ctl := none }).modSpan sp fun x => { x with gapRx := some (.placed m.startCw) } := by
  simp only [State.laneAck, hctl, htag, hop, hplaced, ne_eq, not_true_eq_false, Nat.reduceEqDiff, ↓reduceIte]

/-- An ACK of SLEEP makes the sleep due. -/
theorem State.laneAck_of_sleep (hop : c.op = 7) :
    s.laneAck sp m = (s.modSpan sp fun x => { x with ctl := none }).modSpan sp fun x => { x with
      sleep := some (c.msg.wakeS * 1000000000 + c.msg.wakeNs, c.msg.guardUs.toNat * 1000), sleepDue := true } := by
  simp only [State.laneAck, hctl, htag, hop, ne_eq, not_true_eq_false, Nat.reduceEqDiff, ↓reduceIte]

/-- An ACK of a request of a rotation takes the rotation to its next step. -/
theorem State.laneAck_of_rotation {r : Rotation} (hop : c.op < 4) (hrotation : s.spans[sp].rotation = some r) :
    s.laneAck sp m = (s.modSpan sp fun x => { x with ctl := none }).rotationAck sp r c.op m.startCw := by
  have h4 : c.op ≠ 4 := by omega
  have h5 : c.op ≠ 5 := by omega
  have h6 : c.op ≠ 6 := by omega
  have h7 : c.op ≠ 7 := by omega
  simp only [State.laneAck, hctl, htag, hrotation, h4, h5, h6, h7, ne_eq, not_true_eq_false, ↓reduceIte]

/-- A NAK of the outstanding request gives its operation up. -/
theorem State.laneNak_of_request : s.laneNak sp m = s.giveUp sp c := by
  simp only [State.laneNak, hctl, htag, ne_eq, not_true_eq_false, ↓reduceIte]

end

section
variable {c : CtlReq} (hctl : s.spans[sp].ctl = some c) (hexpired : s.cycExpired (c.sentAt + 20000) = true)
include hctl hexpired

/-- R262: a request without an answer for 20 us is sent once more. -/
theorem State.laneTimeout_of_first (hfirst : c.again = false) :
    s.laneTimeout sp =
      (s.modSpan sp fun x => { x with ctl := some { c with sentAt := s.now, again := true } }).laneSend sp c.op c.msg := by
  simp only [State.laneTimeout, hctl, hexpired, hfirst, Bool.true_eq_false, Bool.false_eq_true, ↓reduceIte]

/-- R262: a request sent twice without an answer is given up. -/
theorem State.laneTimeout_of_again (hagain : c.again = true) :
    s.laneTimeout sp = (s.modSpan sp fun x => { x with ctlAbandoned := x.ctlAbandoned.inc }).giveUp sp c := by
  simp only [State.laneTimeout, hctl, hexpired, hagain, Bool.true_eq_false, ↓reduceIte]

end

end

/-! ### The statement of completion -/

/-- Settles O20: a request by what it conflicts with, an answer by the request it answers, and the timeout by whether the request
was sent before. The wait before the START_CW that the transmitting end chooses is a free value (log entry 53). -/
theorem laneControlComplete : Obligations.LaneControlComplete := by
  refine ⟨?requests, ?answers, ?timeout⟩
  case requests =>
    intro dt s₀ sp m x cw hup hawake hgap
    refine ⟨?spareOn, ?duplicate, ?release, ?spareIdle, ?laneFault, ?calGap, ?sleep⟩
    case spareOn =>
      exact fun hidle hspare hundriven => execLaneCtlSpareOn_of_free hawake hgap rfl hup hidle hspare hundriven
    case duplicate =>
      intro hdriven hlogical
      have hok : (x.txPhase == 1 && decide (m.logical.toNat < 4)) = true := by
        simp only [x, hdriven, hlogical, decide_true, beq_self_eq_true, Bool.and_self]
      exact next_laneCtl_of_up hup (State.txRequest_of_placed hawake hgap hok _)
    case release =>
      exact fun j c k hduplicates hlane hspare =>
        execLaneCtlRelease_of_duplicate hawake hgap rfl hup hduplicates hlane hspare
    case spareIdle =>
      exact next_laneCtl_of_up hup (congrArg (State.emit · _) (State.txRequest_of_free hawake hgap rfl _))
    case laneFault =>
      exact fun hlogical hspare => next_laneCtl_of_up hup (State.txLaneFault_of_free hawake hgap hlogical hspare)
    case calGap => exact fun hidle => next_laneCtl_of_up hup (State.txCalGap_of_free hawake hgap hidle)
    case sleep =>
      exact fun hrotation hgapRx hidle hown =>
        next_laneCtl_of_up hup (State.sleepRequest_of_free hawake hgap hrotation hgapRx hidle hown)
  case answers =>
    intro dt s₀ sp m c t hup hctl htag
    exact ⟨fun hop => next_laneCtl_of_up hup (State.laneAck_of_spareIdle hctl htag hop),
      fun hop => next_laneCtl_of_up hup (State.laneAck_of_laneFault hctl htag hop),
      fun hop hplaced => next_laneCtl_of_up hup (State.laneAck_of_calGap hctl htag hop hplaced),
      fun hop => next_laneCtl_of_up hup (State.laneAck_of_sleep hctl htag hop),
      fun r hop hrotation => next_laneCtl_of_up hup (State.laneAck_of_rotation hctl htag hop hrotation),
      next_laneCtl_of_up hup (State.laneNak_of_request hctl htag)⟩
  case timeout =>
    intro dt s₀ sp c hctl hexpired
    exact ⟨fun hfirst => congrArg Host.Outcome.next (State.laneTimeout_of_first hctl hexpired hfirst),
      fun hagain => congrArg Host.Outcome.next (State.laneTimeout_of_again hctl hexpired hagain)⟩

end Sys2Proof.Machine
end

section
/-! Proofs for spec chapter 07, completion (R263 to R273): the commands of spans and lanes. -/
namespace Sys2Proof.Machine
open Sys2Proof

/-! ### The span and the lane that a command names -/

/-- A command that names a span is carried out on it. -/
theorem onSpan_of {n : Nat} {k : Fin 12 → Except Status Done} {sp : Fin 12} (h : n = sp.val) : onSpan n k = k sp := by
  subst h
  exact dif_pos sp.isLt

/-- A command that names a lane of a span is carried out on it. -/
theorem onLane_of {p : List U8} {k : Fin 12 → Fin 5 → Except Status Done} {sp : Fin 12} {l : Fin 5}
    (hspan : (p8 p 0).toNat = sp.val) (hlane : (p8 p 1).toNat = l.val) : onLane p k = k sp l := by
  obtain ⟨l, hlt⟩ := l
  obtain rfl : _ = l := hlane
  exact (onSpan_of hspan).trans (dif_pos hlt)

/-- A lane command answers ST_OK where its body, carried out on the lane it names, gives data. -/
theorem next_serve_onLane {op need : Nat} {q : Req} {s t : State} {b : List U8} {k : State → Fin 12 → Fin 5 → Except Status Done}
    {sp : Fin 12} {l : Fin 5} (h : Takes op need q s) (hspan : (p8 q.payload 0).toNat = sp.val)
    (hlane : (p8 q.payload 1).toNat = l.val) (e : k (s.elapse q.dt) sp l = .ok { st := t, data := b }) :
    (.next (serve op need q s fun s => onLane q.payload (k s)) : Host.Outcome State Fault Refusal) = .next (t.ok q op b) :=
  next_serve_ok h ((onLane_of hspan hlane).trans e)

/-- R272: a burst has 2 to 256 bits; a single error reads no LENGTH. -/
theorem burstLength_of {burst : Bool} {len : Nat} (h : burst = true → 2 ≤ len ∧ len ≤ 256) :
    (!burst || inRange 2 256 len) = true := by
  cases burst with
  | false => rfl
  | true =>
    obtain ⟨hmin, hmax⟩ := h rfl
    exact inRange_of hmin hmax

/-! ### The statement of completion -/

/-- Settles O21: each body is carried out on the span, or lane, that its message names, and its requirements are the conditions of
its clause. That PRBS_READ raises E079 once a run of losses, when it shows the run, is the model's choice (log entry 123), and so is
that ERROR_INJECT without BURST takes any LENGTH. -/
theorem spanCommandsComplete : Obligations.SpanCommandsComplete := by
  refine ⟨?set, ?spanStatus, ?laneStatus, ?train, ?cal, ?prbsSet, ?prbsRead, ?inject, ?slip, ?taps, ?sleep⟩
  case set =>
    intro q s₀ h c hspan hmode hrateMin hrateMax hrateStep hcal htrimMin htrimMax hwait hdownMin hdownMax hue hfecMin hfecMax
    refine next_serve_ok h ((onSpan_of (sp := ⟨_, hspan⟩) rfl).trans (require_of ?_))
    have hinterval : (c.calIntervalMs == 0 || inRange 100 60000 c.calIntervalMs.toNat) = true := by simpa [inRange] using hcal
    simp only [Bool.and_eq_true, decide_eq_true_eq]
    exact ⟨⟨⟨⟨⟨⟨⟨⟨hmode, inRange_of hrateMin hrateMax⟩, hrateStep⟩, hinterval⟩, inRange_of htrimMin htrimMax⟩, hwait⟩,
      inRange_of hdownMin hdownMax⟩, hue⟩, inRange_of hfecMin hfecMax⟩
  case spanStatus => exact fun q s₀ h sp hspan => next_serve_ok h (onSpan_of hspan)
  case laneStatus => exact fun q s₀ h sp p hspan hlane => next_serve_onLane h hspan hlane rfl
  case train =>
    intro q s₀ h sp d t hspan
    refine ⟨fun hruns => next_serve_ok h ((onSpan_of hspan).trans ?runs),
      fun hrests => next_serve_ok h ((onSpan_of hspan).trans ?rests)⟩
    case runs =>
      simp only [d] at hruns
      simp only [hruns, beq_self_eq_true, ↓reduceIte]
      rfl
    case rests =>
      simp only [d] at hrests
      simp only [beq_eq_false_iff_ne.mpr hrests, Bool.false_eq_true, ↓reduceIte]
      rfl
  case cal =>
    intro q s₀ h sp j x hspan hlane hup hidle
    have hlisted : (decide (j.toNat < 4) || j == 0xFF) = true := by simpa using hlane
    have hserved (k : Except Status Done) : require (decide (j.toNat < 4) || j == 0xFF) .denied
        (require ((s₀.elapse q.dt).links[sp].st == 2) .notReady (require (!x.calBusy) .busy k)) = k :=
      (require_of hlisted).trans <| (require_of (beq_iff_eq.mpr hup)).trans (require_not hidle)
    refine ⟨fun hspare => ?rotation, fun hnone => ?gap⟩
    case rotation => exact next_serve_ok h <| (onSpan_of hspan).trans <| (hserved _).trans (congrArg done (if_pos hspare))
    case gap =>
      refine next_serve_ok h <| (onSpan_of hspan).trans <| (hserved _).trans (congrArg done (if_neg ?_))
      exact ne_true_of_eq_false (Option.isSome_eq_false_iff.mpr (Option.isNone_iff_eq_none.mpr hnone))
  case prbsSet =>
    intro q s₀ h sp p g c x hspan hlane hgen hcheck hallowed
    exact next_serve_onLane h hspan hlane (require_of (by simp [g, c, hgen, hcheck, hallowed]))
  case prbsRead =>
    intro q s₀ h sp p seen old new t hspan hlane
    exact next_serve_onLane h hspan hlane rfl
  case inject =>
    intro q s₀ h sp p burst len n hspan hlane hburst hinterval
    exact next_serve_onLane h hspan hlane <|
      require_of (Bool.and_eq_true_iff.mpr ⟨burstLength_of hburst, decide_eq_true hinterval⟩)
  case slip =>
    exact fun q s₀ h sp p hspan hlane hmode hslips => next_serve_onLane h hspan hlane <|
      require_of (Bool.and_eq_true_iff.mpr ⟨beq_iff_eq.mpr hmode, decide_eq_true hslips⟩)
  case taps =>
    intro q s₀ h sp p pk dl th hspan hlane hmode hpeak hdelay hthreshold
    refine next_serve_onLane h hspan hlane (require_of ?_)
    have hpk : (pk == 0xFF || decide (pk ≤ 15)) = true := by simpa using hpeak
    have hdl : (dl == 0xFF || decide (dl ≤ 63)) = true := by simpa using hdelay
    have hth (i : Nat) (hi : i < 3) : (th i == -128 || (decide (-32 ≤ th i) && decide (th i ≤ 31))) = true := by
      simpa using hthreshold i hi
    simp only [Bool.and_eq_true]
    exact ⟨⟨⟨⟨⟨beq_iff_eq.mpr hmode, hpk⟩, hdl⟩, hth 0 (by decide)⟩, hth 1 (by decide)⟩, hth 2 (by decide)⟩
  case sleep =>
    intro q s₀ h n g w sps hspan hguardMin hguardMax hns hsome hready hlead
    have hfields : ((decide (n < 12) || n == 0xFF) && inRange 500 50000 g && decide (rd q.payload 12 4 ≤ 999999999)) = true := by
      simpa [inRange_of hguardMin hguardMax, hns] using hspan
    have hup : (sps != [] && sps.all fun sp => (s₀.elapse q.dt).links[sp].st == 2) = true := by
      simpa [hsome] using fun sp hsp => (hready sp hsp).1
    have hidle : (sps.all fun sp => !(s₀.elapse q.dt).spans[sp].calBusy) = true :=
      List.all_eq_true.mpr fun sp hsp => Bool.not_eq_true' _ |>.mpr (hready sp hsp).2
    exact next_serve_ok h <| (require_of hfields).trans <| (require_of hup).trans <| (require_of hidle).trans <|
      require_of (decide_eq_true hlead)

end Sys2Proof.Machine
end

section
/-! Proofs for spec chapter 08, completion (R280, R290 to R295, R307): the commands of fixture ports, inputs, RDM and sACN. -/
namespace Sys2Proof.Machine
open Sys2Proof

/-- A command on a pair that is an RDM controller, of an engine that is not standby, is carried out on it (R294). -/
theorem onRdm_of_controller {s : State} {n : Nat} {p : Fin 32} {k : Fin 32 → Except Status Done} (hpair : n = p.val)
    (hactive : s.rdmStandby = false) (hrdm : s.ports.pair[p].rdmOn = true) : onRdm s n k = k p := by
  subst hpair
  exact (dif_pos p.isLt).trans (if_neg (not_or.mpr ⟨ne_true_of_eq_false hactive, ne_false_of_eq_true hrdm⟩))

/-- Settles O22: each body's requirements are the conditions of its clause, and an operand that names a pair or a port is its
index. -/
theorem portCommandsComplete : Obligations.PortCommandsComplete := by
  refine ⟨?portSet, ?portStatus, ?inputSet, ?inputRead, ?sacnSet, ?sacnStatus, ?discover, ?uidRead, ?request, ?resultRead⟩
  case portSet =>
    intro q s₀ h n c hpair hok hspi hsupply
    have hpresent : (!((s₀.elapse q.dt).mb.spi && decide (29 ≤ n))) = true := by
      simpa [Decidable.or_iff_not_imp_left] using hspi
    refine next_serve_ok h <| (require_of ?fields).trans (require_of ?supply)
    case fields => exact Bool.and_eq_true_iff.mpr ⟨Bool.and_eq_true_iff.mpr ⟨decide_eq_true hpair, hok⟩, hpresent⟩
    case supply => simpa using hsupply
  case portStatus =>
    intro q s₀ h ⟨p, hlt⟩ x r hindex
    obtain rfl : _ = p := hindex
    exact next_serve_ok h (dif_pos hlt)
  case inputSet =>
    intro q s₀ h n c hentry hkind huniMin huniMax hlossMin hlossMax hidleMin hidleMax
    have hsource : (decide (c.kind.toNat ≤ 2) &&
        (c.kind == 0 || decide (c.source.toNat < (if c.kind = 1 then 16 else 32)))) = true := by
      obtain hfree | ⟨hsacn, hport⟩ | ⟨hdmx, hpair⟩ := hkind
      · simp [hfree]
      · simp [hsacn, hport]
      · simp [hdmx, hpair]
    obtain ⟨hlisted, hfeeds⟩ := Bool.and_eq_true_iff.mp hsource
    refine next_serve_ok h (require_of ?_)
    simp only [Bool.and_eq_true]
    exact ⟨⟨⟨⟨⟨decide_eq_true hentry, hlisted⟩, hfeeds⟩, inRange_of huniMin huniMax⟩, inRange_of hlossMin hlossMax⟩,
      inRange_of hidleMin hidleMax⟩
  case inputRead =>
    intro q s₀ h n first c e hentry hmin hmax hend
    exact next_serve_ok h (require_of (by simp [n, first, c, hentry, inRange_of hmin hmax, hend]))
  case sacnSet =>
    intro q s₀ h p hport hprio hsync hlead hdelay
    exact next_serve_ok h (require_of (by simp [p, hport, hprio, hsync, hlead, hdelay]))
  case sacnStatus =>
    intro q s₀ h ⟨n, hlt⟩ x rs hindex
    obtain rfl : _ = n := hindex
    exact next_serve_ok h (dif_pos hlt)
  case discover =>
    intro q s₀ h p hindex hactive hrdm hidle
    exact next_serve_ok h <| (onRdm_of_controller hindex hactive hrdm).trans <|
      require_of (Option.isNone_iff_eq_none.mpr hidle)
  case uidRead =>
    intro q s₀ h ⟨p, hlt⟩ u hindex huid
    obtain rfl : _ = p := hindex
    refine next_serve_ok h ((dif_pos hlt).trans ?_)
    simp only [Fin.getElem_fin] at huid
    simp only [huid]
    rfl
  case request =>
    intro q s₀ h k p n hindex hclass hlength hactive hrdm
    have hpair : (p8 p 0).toNat < 32 := hindex ▸ k.isLt
    exact next_serve_ok h <| (require_of (by simpa [p, n, hpair, hlength] using hclass)).trans <|
      onRdm_of_controller hindex hactive hrdm
  case resultRead =>
    intro q s₀ h r hresult
    refine next_serve_ok h ?_
    simp only [hresult]
    rfl

end Sys2Proof.Machine
end

section
/-! Proofs for spec chapter 08, completion (R96, R154, R155, R283 to R305): packets, strings, PWM pins, RDM transactions and sACN
output. -/
namespace Sys2Proof.Machine
open Sys2Proof

/-! ### DMX packets (R283, R287) -/

section
variable {s : State} {p : Fin 32} {route : Nat} {r : Route} (hmode : s.pairIn p 1 = true) (hroute : s.dmxRoute p = some (route, r))
  (hfree : s.ports.pair[p].lineFree s.now = true)
include hmode hroute hfree

/-- A frame that is due goes out on a line that is free. -/
theorem State.dmxStart_of_due {x : Due} (hrunning : s.grid.stopped = false)
    (hdue : s.portDue route r (s.portXD r).1 s.ports.pair[p].sent = some x) :
    s.dmxStart p = (s.pairSent p x.frame (x.late || s.ports.pair[p].delayed)).dmxBegin p (some x.frame)
      (bytesAt x.slots 0 r.slots.toNat) := by
  simp only [State.dmxStart, hmode, hroute, hrunning, hdue, hfree, Bool.true_eq_false, Bool.false_eq_true, ↓reduceIte]

/-- R287: a stopped grid sends the last values at each instant that a boundary the divider takes would have. -/
theorem State.dmxStart_of_stopped (hstopped : s.grid.stopped = true)
    (hboundary : s.grid.idleBoundary % (s.grid.v.divider (s.portXD r).1 : Int) = 0)
    (hnew : s.ports.pair[p].idleAt ≠ s.grid.idleBoundary) (hst : s.grid.st ≠ 2) :
    s.dmxStart p = (s.modPair p fun x => { x with idleAt := s.grid.idleBoundary, packets := x.packets.inc }).dmxBegin p none
      (bytesAt s.ports.pair[p].last 0 r.slots.toNat) := by
  simp only [State.dmxStart, hmode, hroute, hstopped, hst, Bool.true_eq_false, ↓reduceIte]
  exact if_pos ⟨hboundary, hnew, hfree⟩

end

/-! ### RDM transactions (R291 to R294) -/

/-- R291: the next request begins on a free line where no break is scheduled, or where its budget ends before the next one. -/
theorem State.rdmStart_of_free {s : State} {p : Fin 32} {q : RdmReq} (hmode : s.pairIn p 1 = true)
    (henabled : s.ports.pair[p].cfg.rdmEn = true) (hactive : s.rdmStandby = false) (hidle : s.ports.pair[p].rdm = none)
    (hgap : s.ports.pair[p].idleFrom ≤ s.now) (hline : (s.ports.pair[p].tx.any fun t => t.busy s.now) = false)
    (hnext : s.ports.pair[p].queue.find? (fun q => decide (q.notBefore ≤ s.now)) = some q)
    (hbudget : s.nextBreak p = none ∨ ∃ b, s.nextBreak p = some b ∧
      (s.full : Int) + (s.ports.pair[p].cfg.requestNs q + 2800000 + q.responseNs : Nat) + 12000 ≤ b) :
    s.rdmStart p = s.rdmBegin p q := by
  have hstarts : ¬(s.pairIn p 1 = false ∨ s.ports.pair[p].cfg.rdmEn = false ∨ s.rdmStandby = true ∨
      s.ports.pair[p].rdm.isSome = true ∨ s.now < s.ports.pair[p].idleFrom ∨
      (s.ports.pair[p].tx.any fun t => t.busy s.now) = true) := by
    simp only [hmode, henabled, hactive, hidle, hline, Nat.not_lt.mpr hgap, Bool.true_eq_false, Bool.false_eq_true,
      Option.isSome_none, or_self, not_false_eq_true]
  rw [State.rdmStart, if_neg hstarts, hnext]
  obtain hunscheduled | ⟨b, hbreak, hends⟩ := hbudget
  · simp only [hunscheduled]
  · simp only [hbreak]
    exact if_pos hends

/-- R291: the wait for a response ends its transaction; the request is sent once more, and after the second wait counted. -/
theorem State.rdmTimeout_of_expired {s : State} {p : Fin 32} {q : RdmReq} {e : Nat} (hrdm : s.ports.pair[p].rdm = some (q, e))
    (hexpired : s.cycExpired (e + 2800000) = true) :
    let t := s.modPair p fun x => { x with rdm := none }
    s.rdmTimeout p = if q.again then (t.modPair p fun x => { x with rdmTimeouts := x.rdmTimeouts.inc }).rdmEnd p q none
      else t.rdmFirst p [{ q with again := true }] := by
  simp only [State.rdmTimeout, hrdm, hexpired, Bool.true_eq_false, ↓reduceIte]

/-- R291: a response that is neither a timer nor an overflow ends its request. -/
theorem State.rdmResponse_of_final {s : State} {p : Fin 32} {q : RdmReq} {e : Nat} {r : RdmResp}
    (hrdm : s.ports.pair[p].rdm = some (q, e)) (htimer : ∀ ns, r ≠ .timer ns) (hoverflow : ∀ d, r ≠ .overflow d) :
    s.rdmResponse p r = (s.modPair p fun x => { x with rdm := none, idleFrom := s.now + 12000 }).rdmEnd p q (some r) := by
  simp only [State.rdmResponse, hrdm]

/-- Fixtures of a pair's port whose sensors are due to be read: none of them failed Table 8.4, and POLL_FRAMES frames have passed
since the last reading (R293). -/
def State.sensorsDue (s : State) (p : Fin 32) : List (Nat × Fixture) :=
  let x := s.ports.pair[p]
  (s.rdmFixtures p).filter fun e => !x.badSensor.contains e.1 &&
    (match x.polled.find? (·.1 == e.1) with
      | none => true
      | some y => decide ((x.cfg.pollFrames.toNat : Int) ≤ sdiff32 (lastFrame s.grid.frame) y.2))

/-- R293: the next fixture that is due is polled, where no reading and no discovery of the port is under way. -/
theorem State.rdmPoll_of_due {s : State} {p : Fin 32} {e : Nat × Fixture} (hrdm : s.ports.pair[p].rdmOn = true)
    (hactive : s.rdmStandby = false) (hreading : s.ports.pair[p].reading = []) (hdisc : s.ports.pair[p].disc = none)
    (hqueue : ∀ q ∈ s.ports.pair[p].queue, ∀ fi i, q.use ≠ .value fi i)
    (hnext : ((s.sensorsDue p).find? fun e => decide ((s.ports.pair[p].polled.head?.map (·.1)).getD 0 < e.1)).or
      (s.sensorsDue p).head? = some e) :
    s.rdmPoll p = s.modPair p fun x => { x with
      polled := (e.1, lastFrame s.grid.frame) :: x.polled.filter (·.1 != e.1),
      queue := x.queue ++ (List.finRange 4).map fun i =>
        rdmValue e.1 e.2.rdmUid (s.ports.pair[p].cfg.sensorBase.toNat + i.val) i } := by
  refine Eq.trans (if_neg ?idle) ?polled
  case idle =>
    refine not_or.mpr ⟨ne_false_of_eq_true hrdm, not_or.mpr ⟨ne_true_of_eq_false hactive, not_or.mpr
      ⟨ne_true_of_eq_false (Bool.or_eq_false_iff.mpr ⟨?reading, List.any_eq_false.mpr fun q hq => ?queue⟩), ?disc⟩⟩⟩
    case reading => simp only [hreading, List.isEmpty_nil, Bool.not_true]
    case queue =>
      split
      next fi i huse => exact absurd huse (hqueue q hq fi i)
      next => exact Bool.false_ne_true
    case disc => simp only [hdisc, Option.isSome_none, Bool.false_eq_true, not_false_eq_true]
  case polled =>
    split
    next hnone => exact absurd (hnext.symm.trans hnone) (Option.some_ne_none e)
    next e' hsome =>
      obtain rfl : e = e' := Option.some.inj (hnext.symm.trans hsome)
      rfl

/-! ### Pixel strings (R96, R286, R300, R301) -/

section
variable {s : State} {pin : Fin 64} {mode : U8} {route : Nat} {r : Route} (hmode : s.pairIn (pairOf pin.val) mode = true)
  (hdata : mode = 4 → pin.val % 2 = 0)
include hmode hdata

/-- A pin of a pair in the mode of its string sends; the odd pin of a clocked string does not. -/
theorem State.not_stringSilent : ¬(s.pairIn (pairOf pin.val) mode = false ∨ mode = 4 ∧ pin.val % 2 = 1) :=
  not_or.mpr ⟨ne_false_of_eq_true hmode, fun ⟨hclocked, hodd⟩ => Nat.zero_ne_one ((hdata hclocked).symm.trans hodd)⟩

variable (hroute : s.stringRoute pin.val = some (route, r))
include hroute

/-- R286: a frame that is due goes out 12 us after the one before. -/
theorem State.stringSend_of_due {u : Due} (hrunning : s.grid.stopped = false)
    (hdue : s.portDue route r (s.portXD r).1 s.ports.strFrame[pin] = some u)
    (hgap : s.ports.strStop[pin] + (if s.ports.strStop[pin] = 0 then 0 else 12000) ≤ s.now) :
    let t := (s.pairSent (pairOf pin.val) u.frame u.late).stringShift pin r (s.portXD r).1 u.slots
    s.stringSend pin mode = { t with ports.strFrame := t.ports.strFrame.set pin (some u.frame) } := by
  simp only [State.stringSend, if_neg (State.not_stringSilent hmode hdata), hroute, hrunning, hdue, hgap, Bool.false_eq_true,
    ↓reduceIte]

/-- R96: house values that wait go out once no frame is due. -/
theorem State.stringSend_of_house
    (hwaits : s.grid.stopped = true ∨ s.portDue route r (s.portXD r).1 s.ports.strFrame[pin] = none)
    (hhouse : s.ports.strHouse[pin] = true) (hgap : s.ports.strStop[pin] ≤ s.now) :
    s.stringSend pin mode = s.stringShift pin r (s.portXD r).1 s.ports.strLast[pin] := by
  have hnone : (if s.grid.stopped = true then none else s.portDue route r (s.portXD r).1 s.ports.strFrame[pin]) = none := by
    obtain hstopped | hnothing := hwaits
    · exact if_pos hstopped
    · rw [hnothing, ite_self]
  simp only [State.stringSend, if_neg (State.not_stringSilent hmode hdata), hroute, hnone]
  exact if_pos ⟨hhouse, hgap⟩

end

/-- Strings of both modes are sent alike, a clocked one on an even pin. -/
theorem exec_stringSend {dt : Nat} {s₀ : State} {pin : Fin 64} {mode : U8} {o : Host.Outcome State Fault Refusal}
    (hsent : (mode = 4 → pin.val % 2 = 0) → .next ((s₀.elapse dt).stringSend pin mode) = o) :
    (mode = 3 → exec (.pixelStringSend dt pin) s₀ = o) ∧
      (mode = 4 → pin.val % 2 = 0 → exec (.clockedStringSend dt pin) s₀ = o) := by
  refine ⟨fun hsingle => ?single, fun hclocked hdata => ?clocked⟩
  case single =>
    subst hsingle
    exact hsent nofun
  case clocked =>
    subst hclocked
    exact hsent fun _ => hdata

/-! ### PWM pins (R154, R155) -/

/-- A sub-slot that begins takes the newest frame's value, and its pulse begins. -/
theorem State.pwmStart_of_subSlot {s : State} {pin : Fin 64} {k : Nat} (hmode : s.pairIn (pairOf pin.val) 5 = true)
    (hbegins : s.subSlotNow s.ports.pair[pairOf pin.val].cfg (pin.val % 2 == 1) = some k) :
    s.pwmStart pin =
      (s.pwmLatch pin).setPwm pin.val fun x => x.start s.ports.pair[pairOf pin.val].cfg k (s.pwmLatch pin).full := by
  simp only [State.pwmStart, hmode, hbegins, Bool.true_eq_false, ↓reduceIte]

/-! ### sACN output (R304, R305) -/

section
variable {s : State} {n : Fin 4} {r : Nat × Route} {rs : List (Nat × Route)} (hroutes : s.sacnRoutes n = r :: rs)
include hroutes

/-- The data packets of a frame that is due leave, in universe order. -/
theorem State.sacnData_of_due {m : U32} {late : Bool} (hrunning : s.grid.stopped = false)
    (hdue : s.sacnDue n r.1 r.2 = some (m, late)) (hholds : s.sacnHolds m = true) :
    s.sacnData n = (r :: rs).foldl (fun (s : State) r =>
      s.sacnPacket n 0 r.2.address.toNat (BitVec.ofNat 8 m.toNat) (bytesAt ((s.packedOf m r.1).getD []) 0 r.2.slots.toNat))
        (s.sacnSent n m late false) := by
  simp only [State.sacnData, hroutes, hrunning, hdue, hholds, Bool.true_eq_false, Bool.false_eq_true, ↓reduceIte]

/-- R304: a stopped grid sends the last values once at each boundary, their sequence numbers one greater than the last. -/
theorem State.sacnData_of_stopped (hstopped : s.grid.stopped = true) (hnew : s.ports.sacn[n].idleAt ≠ s.grid.idleBoundary)
    (hholds : s.sacnHolds 0 = true) :
    let x := s.ports.sacn[n]
    s.sacnData n = (r :: rs).foldl (fun (s : State) r =>
      s.sacnPacket n 0 r.2.address.toNat
        (((x.seqs.find? (·.1 == r.2.address.toNat)).map (·.2)).getD 0xFF + 1)
        (bytesAt (((x.last.find? (·.1 == r.2.address.toNat)).map (·.2)).getD []) 0 r.2.slots.toNat))
        (s.modSacn n fun x => { x with idleAt := s.grid.idleBoundary }) := by
  simp only [State.sacnData, hroutes, hstopped, hnew, hholds, Bool.true_eq_false, or_self, ↓reduceIte]

/-- R305: the synchronisation packet of a frame whose data packets have left goes out at its instant. -/
theorem State.sacnSync_of_latched {m : U32} {l : U32 × Nat} (hsent : s.ports.sacn[n].lastFrame = some m)
    (hlatch : s.tre.latchAt.find? (·.1 == m) = some l) (huniverse : s.ports.sacn[n].cfg.syncUniverse ≠ 0)
    (hnew : s.ports.sacn[n].lastSync ≠ some m) (hreached : s.sacnSyncAt n r.1 m ≤ (s.full : Int))
    (hrunning : s.grid.stopped = false) (hholds : s.sacnHolds m = true) :
    let x := s.ports.sacn[n]
    let q := BitVec.ofNat 8 m.toNat
    s.sacnSync n = ((s.sacnSent n m (decide (s.sacnSyncAt n r.1 m < l.2)) true).emit
      (.sacn 2 n.val x.cfg.syncUniverse.toNat q [])).ethUdp n 2 (sacnGroup x.cfg.syncUniverse.toNat) (Config.srcPort 2) 5568
        (e131Sync x.cfg.cid q x.cfg.syncUniverse) := by
  simp only [State.sacnSync, hsent, hroutes, hlatch, huniverse, hnew, Int.not_lt.mpr hreached, hrunning, hholds,
    Bool.true_eq_false, Bool.false_eq_true, or_self, ↓reduceIte]

end

/-- R304: universe discovery goes out where none has, and 10 s after the last. -/
theorem State.sacnDiscovery_of_due {s : State} {n : Fin 4} (henabled : s.ports.sacn[n].cfg.discoveryEn = true)
    (hdue : ∀ t, s.ports.sacn[n].discoveredAt = some t → s.fwExpired (t + 10000000000) = true)
    (hholds : s.sacnHolds s.grid.nextPresent = true) :
    let x := s.ports.sacn[n]
    let us := (s.sacnRoutes n).map fun r => r.2.address.toNat
    let pages := chunk 512 (us.length + 1) us
    s.sacnDiscovery n = pages.zipIdx.foldl (fun (s : State) c =>
      (s.emit (.sacn 3 n.val 64214 0 (c.1.flatMap (be 2 ·)))).ethUdp n 3 (sacnGroup 64214) (Config.srcPort 3) 5568
        (e131Discovery x.cfg.cid x.cfg.name c.2 (pages.length - 1) c.1))
      (s.modSacn n fun x => { x with discoveredAt := some s.now }) := by
  refine if_neg ?_
  simp only [henabled, hholds, Bool.true_eq_false, or_false, false_or]
  split
  next => exact ne_false_of_eq_true rfl
  next t hlast => exact ne_false_of_eq_true (hdue t hlast)

/-! ### The statement of completion -/

/-- Settles O23: a packet, a string, a pulse and a page of discovery by whether its instant has come, and a transaction by its
response or the end of its wait. The bytes of the synchronisation and discovery packets are those of E1.31, which the spec does not
lay out (log entry 58). -/
theorem portEventsComplete : Obligations.PortEventsComplete := by
  refine ⟨?dmx, ?rdmStart, ?rdmResponse, ?rdmTimeout, ?discovery, ?sensorPoll, ?stringDue, ?stringHouse, ?pwm, ?sacnDue,
    ?sacnStopped, ?sacnSync, ?sacnDiscovery⟩
  case dmx =>
    intro dt s₀ p route r y ns hmode hroute hfree
    exact ⟨fun x hrunning hdue => congrArg Host.Outcome.next (State.dmxStart_of_due hmode hroute hfree hrunning hdue),
      fun hstopped hboundary hnew hst =>
        congrArg Host.Outcome.next (State.dmxStart_of_stopped hmode hroute hfree hstopped hboundary hnew hst)⟩
  case rdmStart =>
    exact fun dt s₀ p q hmode henabled hactive hidle hgap hline hnext hbudget =>
      congrArg Host.Outcome.next (State.rdmStart_of_free hmode henabled hactive hidle hgap hline hnext hbudget)
  case rdmResponse =>
    intro dt s₀ p q e t hrdm
    refine ⟨fun ns => congrArg Host.Outcome.next ?timer, fun d => congrArg Host.Outcome.next ?overflow, fun r htimer hoverflow =>
      congrArg Host.Outcome.next (State.rdmResponse_of_final hrdm htimer hoverflow)⟩
    all_goals
      simp only [State.rdmResponse, hrdm]
      rfl
  case rdmTimeout =>
    intro dt s₀ p q e t hrdm hexpired
    have hended := State.rdmTimeout_of_expired hrdm hexpired
    exact ⟨fun hfirst => congrArg Host.Outcome.next (hended.trans (if_neg (ne_true_of_eq_false hfirst))),
      fun hagain => congrArg Host.Outcome.next (hended.trans (if_pos hagain))⟩
  case discovery =>
    intro dt s₀ p x hrdm hperiod hidle hactive hexpired
    exact next_if_pos ⟨hrdm, hperiod, Option.isNone_iff_eq_none.mpr hidle, hactive, hexpired⟩
  case sensorPoll =>
    exact fun dt s₀ p e hrdm hactive hreading hdisc hqueue hnext =>
      congrArg Host.Outcome.next (State.rdmPoll_of_due hrdm hactive hreading hdisc hqueue hnext)
  case stringDue =>
    exact fun dt s₀ pin mode route r u hmode hrunning hroute hdue hgap => exec_stringSend fun hdata =>
      congrArg Host.Outcome.next (State.stringSend_of_due hmode hdata hroute hrunning hdue hgap)
  case stringHouse =>
    exact fun dt s₀ pin mode route r hmode hroute hwaits hhouse hgap => exec_stringSend fun hdata =>
      congrArg Host.Outcome.next (State.stringSend_of_house hmode hdata hroute hwaits hhouse hgap)
  case pwm =>
    exact fun dt s₀ pin k hmode hbegins => congrArg Host.Outcome.next (State.pwmStart_of_subSlot hmode hbegins)
  case sacnDue =>
    exact fun dt s₀ n r rs m late hroutes hrunning hdue hholds =>
      congrArg Host.Outcome.next (State.sacnData_of_due hroutes hrunning hdue hholds)
  case sacnStopped =>
    exact fun dt s₀ n r rs hroutes hstopped hnew hholds =>
      congrArg Host.Outcome.next (State.sacnData_of_stopped hroutes hstopped hnew hholds)
  case sacnSync =>
    exact fun dt s₀ n r rs m l hsent hroutes hlatch huniverse hnew hreached hrunning hholds =>
      congrArg Host.Outcome.next (State.sacnSync_of_latched hroutes hsent hlatch huniverse hnew hreached hrunning hholds)
  case sacnDiscovery =>
    exact fun dt s₀ n henabled hdue hholds =>
      congrArg Host.Outcome.next (State.sacnDiscovery_of_due henabled hdue hholds)

end Sys2Proof.Machine
end

section
/-! Proofs for spec chapter 08, completion (R295 to R299): packets and losses of the input table. -/
namespace Sys2Proof.Machine
open Sys2Proof

/-! ### DMX input packets (R296) -/

/-- A packet that has ended on a pair of mode 2 is taken: an error or another start code is counted, and start code 0 reaches the
entry bound to the pair. -/
theorem execDmxInputPacket_of_ended {dt : Nat} {s₀ s : State} {p : Fin 32} {x : DmxPacket} {entry : Option (Nat × InputEntry)}
    (hs : s₀.elapse dt = s)
    (hentry : (s.ports.input.find? fun e => e.2.cfg.kind == 2 && e.2.cfg.source.toNat == p.val) = entry)
    (hmode : s.pairIn p 2 = true) (hended : dmxEnded x ((entry.map fun e => e.2.cfg.idleUs.toNat).getD 100) = true) :
    let t := s.modPair p fun y => { y with packets := y.packets.inc, errorRun := false,
                                           lastFrame := s.short - BitVec.ofNat 32 x.since, last := x.slots }
    execDmxInputPacket dt p x s₀ = .next (if dmxError x then
        (s.modPair p fun y => { y with inputErrors := y.inputErrors.inc, errorRun := true }).raiseIf (!s.ports.pair[p].errorRun) 82
          [fN 0 1 p.val]
      else if x.startCode ≠ 0 then s.modPair p fun y => { y with ignored := y.ignored.inc, errorRun := false }
      else entry.elim t fun e => t.inputAccept e.1 ((x.slots ++ e.2.slots.drop x.slots.length).take 512) x.since id) := by
  subst hs
  cases entry
  all_goals
    simp only [execDmxInputPacket, hentry]
    exact next_if_neg (not_or.mpr ⟨ne_false_of_eq_true hmode, ne_false_of_eq_true hended⟩)

/-! ### The statement of completion -/

/-- Settles O24: a DMX packet by its errors, its start code and the entry it feeds, an sACN packet entry by entry, and a loss by
whether its time has come. -/
theorem inputEventsComplete : Obligations.InputEventsComplete := by
  refine ⟨?dmxPacket, ?inputLoss, ?sacnPacket, ?sourceLoss⟩
  case dmxPacket =>
    intro dt s₀ p x y entry hmode hended
    have htaken := execDmxInputPacket_of_ended rfl rfl hmode hended
    have hcarried (herror : dmxError x = false) := htaken.trans (next_if_neg (ne_true_of_eq_false herror))
    have hdata (herror : dmxError x = false) (hzero : x.startCode = 0) :=
      (hcarried herror).trans (next_if_neg (not_not_intro hzero))
    refine ⟨fun herror => htaken.trans (next_if_pos herror), fun herror hother => (hcarried herror).trans (next_if_pos hother),
      fun herror hzero => ⟨fun hunbound => ?unbound, fun e hbound => ?bound⟩⟩
    case unbound => exact (hdata herror hzero).trans (congrArg Host.Outcome.next (congrArg (Option.elim · _ _) hunbound))
    case bound => exact (hdata herror hzero).trans (congrArg Host.Outcome.next (congrArg (Option.elim · _ _) hbound))
  case inputLoss =>
    intro dt s₀ n t e (hlast : ((s₀.elapse dt).input n).lastAt = some t) hbound hpresent hexpired
    show execInputLossTimeout dt n s₀ = _
    simp only [execInputLossTimeout, hlast]
    exact next_if_pos ⟨hbound, hpresent, hexpired⟩
  case sacnPacket => exact fun dt s₀ x => rfl
  case sourceLoss =>
    intro dt s₀ n cid x e (hsource : (((s₀.elapse dt).input n).sources.find? fun y => y.cid == cid) = some x) hexpired
    show execSacnSourceLoss dt n cid s₀ = _
    simp only [execSacnSourceLoss, hsource]
    exact next_if_pos hexpired

end Sys2Proof.Machine
end

section
/-! Proofs for spec chapter 09, completion (R322, R329, R333, R337, R346): the commands of Ethernet, the cell pool, the host
channels and PTP. -/
namespace Sys2Proof.Machine
open Sys2Proof

/-! ### The statement of completion -/

/-- Settles O25: each body's requirements are the conditions of its clause, and an operand that names a port is its index.
That POOL_FREE reads 32,767 where all 32,768 cells are free is the model's choice: Table 9.10 does not settle it. -/
theorem ethernetCommandsComplete : Obligations.EthernetCommandsComplete := by
  refine ⟨?ethSet, ?ethStatus, ?queueSet, ?queueStatus, ?hostchSet, ?hostchStatus, ?txtsRead, ?ptpSet, ?ptpStatus⟩
  case ethSet =>
    exact fun q s₀ h hport hok =>
      next_serve_ok h (require_of (Bool.and_eq_true_iff.mpr ⟨decide_eq_true hport, hok⟩))
  case ethStatus =>
    intro q s₀ h ⟨n, hlt⟩ e hport
    obtain rfl : _ = n := hport
    exact next_serve_ok h (dif_pos hlt)
  case queueSet =>
    intro q s₀ h n lim hqueue hmin hmax
    exact next_serve_ok h (require_of (Bool.and_eq_true_iff.mpr ⟨decide_eq_true hqueue, inRange_of hmin hmax⟩))
  case queueStatus =>
    intro q s₀ h n x hqueue
    exact next_serve_ok h (require_of (decide_eq_true hqueue))
  case hostchSet =>
    intro q s₀ h ⟨n, hlt⟩ c hport hvector hrx htx hframesMin hframesMax hrxBase htxBase hspi hmoves
    obtain rfl : _ = n := hport
    refine next_serve_ok h <| (dif_pos hlt).trans <| (require_of ?fields).trans <| (require_not hspi).trans (require_not hmoves)
    simp only [Bool.and_eq_true, decide_eq_true_eq, beq_iff_eq]
    exact ⟨⟨⟨⟨⟨hvector, hrx⟩, htx⟩, inRange_of hframesMin hframesMax⟩, hrxBase⟩, htxBase⟩
  case hostchStatus =>
    intro q s₀ h ⟨n, hlt⟩ c hport
    obtain rfl : _ = n := hport
    exact next_serve_ok h (dif_pos hlt)
  case txtsRead =>
    intro q s₀ h ⟨n, hlt⟩ e t hport
    obtain rfl : _ = n := hport
    refine ⟨fun hnone => next_serve_ok h ((dif_pos hlt).trans ?_), fun x r hsome => next_serve_ok h ((dif_pos hlt).trans ?_)⟩
    · simp only [e] at hnone
      simp only [hnone]
      rfl
    · simp only [e] at hsome
      simp only [hsome]
      rfl
  case ptpSet => exact fun q s₀ h hok => next_serve_ok h (require_of hok)
  case ptpStatus =>
    intro q s₀ h p slave par gm
    refine next_serve_ok h ?_
    cases hparent : (s₀.elapse q.dt).net.ptp.parent
    all_goals
      cases hfound : (List.finRange 4).find? fun n => (s₀.elapse q.dt).net.ptp.ports[n].state == 9
      all_goals
        simp only [p, slave, par, gm, hparent, hfound]
        rfl

end Sys2Proof.Machine
end

section
/-! Proofs for spec chapter 09, completion (R311 to R333, R346): frames, PAUSE, preemption, links and the rings of the host
channels. -/
namespace Sys2Proof.Machine
open Sys2Proof

/-! ### Reception (R320, R326) -/

/-- R326: a frame that a port accepts goes by its class to a queue, unless an own queue's checksum is wrong; one of no class is
ARP that firmware answers, or is counted. -/
theorem State.ethReceive_of_accepted {s : State} {x : EthRx} (hlink : s.net.eth[x.eth].link = true)
    (hmin : 64 ≤ x.data.length + 4) (hmax : x.data.length + 4 ≤ s.net.eth[x.eth].cfg.maxFrame.toNat)
    (hfcs : x.fcsOk = true) (hdest : s.ethAccepts x.eth (rdBE x.data 0 6) = true) :
    let t := s.modEth x.eth fun e => { e with framesRx := e.framesRx.inc }
    let c := frameChecks x.data
    s.ethReceive x = (t.classify x).elim
      (if t.arpForUs x then t else t.modEth x.eth fun e => { e with unclassified := e.unclassified.inc }) fun q =>
        if q.2 && c.1 && !(c.2.1 && c.2.2) then t.modEth x.eth fun e => { e with csumErrors := e.csumErrors.inc }
        else t.rxPut x.eth q.1 { len := x.data.length + 4, bytes := x.data, ts := t.rxStamp x.eth x.ago,
                                 csum := c.1, ipOk := c.2.1, l4Ok := c.2.2 } := by
  intro t c
  have hframe : ¬(s.net.eth[x.eth].link = false ∨ x.data.length + 4 < 64) :=
    not_or.mpr ⟨ne_false_of_eq_true hlink, Nat.not_lt.mpr hmin⟩
  refine (if_neg hframe).trans <| (if_neg (Nat.not_lt.mpr hmax)).trans <| (if_neg (ne_false_of_eq_true hfcs)).trans <|
    (if_neg (ne_false_of_eq_true hdest)).trans ?_
  cases hclass : t.classify x <;> simp only [t, hclass] <;> rfl

/-! ### Transmission (R313 to R315) -/

/-- What a port does with what it chose to send (R313). -/
def State.sendPick (s : State) (n : Fin 4) : TxPick → State
  | .express c f => s.beginFrame n c f
  | .remainder t => s.modEth n fun e => { e with tx := some { t with start := s.nowPs }, held := none }
  | .shared c f d i => (s.modEth n fun e => { e with
      deficit := .ofFn fun (j : Fin 3) => d.getD j.val 0, drrAt := ⟨i % 3, Nat.mod_lt _ (by decide)⟩ }).beginFrame n c f

/-- R313: a port whose link is up, that no PAUSE holds and whose pins are free sends what it chose. -/
theorem State.ethTransmit_of_free {s : State} {n : Fin 4} {k : TxPick} (hlink : s.net.eth[n].link = true)
    (hheld : s.net.eth[n].heldNow s.nowPs = false)
    (hfree : ∀ t, s.net.eth[n].tx = some t → t.ends (bytePs s.net.eth[n].speed) ≤ s.nowPs) (hpick : s.txPick n = some k) :
    s.ethTransmit n = s.sendPick n k := by
  have hsends : ¬(s.net.eth[n].link = false ∨ s.net.eth[n].heldNow s.nowPs = true) :=
    not_or.mpr ⟨ne_false_of_eq_true hlink, ne_true_of_eq_false hheld⟩
  refine (if_neg hsends).trans ((if_neg ?idle).trans ?picked)
  case idle =>
    split
    next t htx => exact ne_true_of_eq_false (decide_eq_false (Nat.not_lt.mpr (hfree t htx)))
    next => exact Bool.false_ne_true
  case picked =>
    rw [hpick]
    cases k <;> rfl

/-! ### Rings of the host channels (R330 to R332) -/

/-- R330: with the receive ring enabled, the oldest HOST frame is placed where its buffers take it, and else abandoned. -/
theorem execHostRxPlace_of_head {dt : Nat} {s₀ s : State} {n : Fin 4} {descs : List RxDesc} {f : PoolFrame}
    (hs : s₀.elapse dt = s) (hhead : s.queueHead (rxQueue n.val 3) = some f) (hen : s.net.eth[n].hc.cfg.rxEn = true) :
    let h := s.net.eth[n].hc
    let t := s.rxTake n (rxQueue n.val 3)
    execHostRxPlace dt n descs s₀ = .next ((fillBuffers (descs.take (ringCount h.rxHead h.rxTail)) f.bytes).elim
      (((t.modEth n fun e => { e with hc := { h with noBuffer := h.noBuffer.inc, noBufRun := true } }).raiseIf
        (!h.noBufRun) 91 [fN 0 1 n.val]).hostchIrq n)
      fun parts => (t.placeFrame n f parts).hostchIrq n) := by
  subst hs
  intro h t
  simp only [execHostRxPlace, hhead]
  refine (next_if_neg (ne_false_of_eq_true hen)).trans (congrArg Host.Outcome.next ?_)
  cases fillBuffers (descs.take (ringCount h.rxHead h.rxTail)) f.bytes <;> rfl

/-- The frame of the descriptors `ds` (R332). -/
def descFrame (ds : List TxDesc) : PoolFrame :=
  let bytes := ds.flatMap (·.data)
  { len := max 64 (bytes.length + 4), bytes := bytes, csum := ds.any (·.csum), tsReq := (ds.find? (·.tsReq)).map (·.tsId) }

/-- R332: with the transmit ring enabled, the first frame of its descriptors is refused as too long, waits for room, or is
copied. -/
theorem execHostTxFrame_of_descs {dt : Nat} {s₀ s : State} {n : Fin 4} {descs ds : List TxDesc} (hs : s₀.elapse dt = s)
    (hen : s.net.eth[n].hc.cfg.txEn = true)
    (hdescs : frameDescs (descs.take (ringCount s.net.eth[n].hc.txHead s.net.eth[n].hc.txTail)) = some ds) :
    execHostTxFrame dt n descs s₀ = .next (
      if s.net.eth[n].cfg.maxFrame.toNat < (ds.flatMap (·.data)).length + 4 then (s.txWriteBack n ds true).modEth n fun e =>
        { e with tooLong := e.tooLong.inc, hc := { e.hc with txErrors := e.hc.txErrors.inc } }
      else if s.queueRoom (txQueue n.val 5) (descFrame ds) = false then s
      else ((s.queuePut (txQueue n.val 5) (descFrame ds)).txWriteBack n ds false).modEth n fun e =>
        { e with hc := { e.hc with txFrames := e.hc.txFrames.inc } }) := by
  subst hs
  refine (next_if_neg (ne_false_of_eq_true hen)).trans ?_
  simp only [hdescs]
  rfl

/-! ### The statement of completion -/

/-- Settles O26: a frame received by its class, a frame sent by the port's choice, a PAUSE, a timer or a message by its condition,
and a ring by its descriptors. The bytes of IGMP reports and ARP replies, and the free fields of packets, are the model's choice
(log entries 129 and 130). -/
theorem ethernetEventsComplete : Obligations.EthernetEventsComplete := by
  refine ⟨?frameRx, ?handshake, ?frameTx, ?pauseRx, ?holdEnd, ?longHold, ?refresh, ?verifyTimeout, ?link, ?igmp, ?arp,
    ?rxPlace, ?txFrame⟩
  case frameRx =>
    intro dt s₀ x e len t c hlink hmin hmax hfcs hdest
    have hreceived : exec (.ethFrameRx dt (.frame x)) s₀ = _ :=
      congrArg Host.Outcome.next (State.ethReceive_of_accepted hlink hmin hmax hfcs hdest)
    have hclassed {o} (hclass : t.classify x = o) :=
      hreceived.trans (congrArg (fun o => Host.Outcome.next (Option.elim o _ _)) hclass)
    exact ⟨fun q own hclass hgood => (hclassed hclass).trans (next_if_neg (ne_true_of_eq_false hgood)),
      fun q own hclass hbad => (hclassed hclass).trans (next_if_pos hbad),
      fun hclass harp => (hclassed hclass).trans (next_if_pos harp),
      fun hclass harp => (hclassed hclass).trans (next_if_neg (ne_true_of_eq_false harp))⟩
  case handshake =>
    exact fun dt s₀ n => ⟨fun hlink hen => next_if_pos ⟨hlink, hen⟩, fun hverifying => next_if_pos hverifying⟩
  case frameTx =>
    intro dt s₀ n e bt hlink hheld hfree
    have hsent {k} (hpick : (s₀.elapse dt).txPick n = some k) : exec (.ethFrameTx dt n) s₀ = _ :=
      congrArg Host.Outcome.next (State.ethTransmit_of_free hlink hheld hfree hpick)
    exact ⟨fun c f hpick => hsent hpick, fun t hpick => hsent hpick, fun c f d i hpick => hsent hpick⟩
  case pauseRx => exact fun dt s₀ n quanta hlink => next_if_pos hlink
  case holdEnd =>
    intro dt s₀ n t hhold hover
    show execPauseHoldEnd dt n s₀ = _
    simp only [execPauseHoldEnd, hhold]
    exact next_if_pos hover
  case longHold => exact fun dt s₀ n hheld hfirst hexpired => next_if_pos ⟨hheld, hfirst, hexpired⟩
  case refresh =>
    intro dt s₀ n e hxoff hdue
    exact (next_if_pos ⟨hxoff, hdue⟩).trans (congrArg Host.Outcome.next (apply_ite (State.sendPause _ n) _ _ _).symm)
  case verifyTimeout =>
    intro dt s₀ n e hverifying hexpired
    have hended : exec (.preemptVerifyTimeout dt n) s₀ = _ := next_if_pos ⟨hverifying, hexpired⟩
    exact ⟨fun hagain => hended.trans (next_if_pos hagain), fun hlast => hended.trans (next_if_neg (Nat.not_lt.mpr hlast))⟩
  case link => exact fun dt s₀ n speed => ⟨rfl, rfl⟩
  case igmp =>
    intro dt s₀ n hlink hgroups
    exact next_if_neg (not_or.mpr ⟨ne_false_of_eq_true hlink, mt List.map_eq_nil_iff.mp hgroups⟩)
  case arp => exact fun dt s₀ n target mac sender hlink htarget haddress => next_if_pos ⟨hlink, htarget, haddress⟩
  case rxPlace =>
    intro dt s₀ n descs f h t r hhead hen
    have hplaced := execHostRxPlace_of_head (descs := descs) rfl hhead hen
    exact ⟨fun parts hfill => hplaced.trans (congrArg (fun o => Host.Outcome.next (Option.elim o _ _)) hfill),
      fun hfill => hplaced.trans (congrArg (fun o => Host.Outcome.next (Option.elim o _ _)) hfill)⟩
  case txFrame =>
    intro dt s₀ n descs ds e bytes f hen hdescs
    have hcopied := execHostTxFrame_of_descs rfl hen hdescs
    exact ⟨fun hlong => hcopied.trans (next_if_pos hlong), fun hfits hroom => hcopied.trans <|
      (next_if_neg (Nat.not_lt.mpr hfits)).trans (next_if_neg (ne_false_of_eq_true hroom))⟩

end Sys2Proof.Machine
end

section
/-! Proofs for spec chapter 09, completion (R334 to R337): PTP messages, messages due and the announce-receipt timeout. -/
namespace Sys2Proof.Machine
open Sys2Proof

/-! ### Messages read from the receive queue (R334) -/

/-- An arm that reads a PTP message of an enabled port answers with the message's effect. -/
theorem next_ptpRead_of_on {s t : State} {n : Fin 4} {f : Int → State → State}
    (hon : (s.rxTake n (rxQueue n.val 0)).net.ptp.cfg.on n = true)
    (e : f (s.rxTime n (rxQueue n.val 0)) (s.rxTake n (rxQueue n.val 0)) = t) :
    (.next (s.ptpRead n f) : Host.Outcome State Fault Refusal) = .next t :=
  (next_if_pos hon).trans (congrArg Host.Outcome.next e)

/-! ### The statement of completion -/

/-- Settles O27: a message by the port that takes it, a message due by its log interval, and the timeout by whether it has
expired. The delay and correction formulas and the comparison of masters are those of IEEE 1588 (log entries 66 and 131). -/
theorem ptpEventsComplete : Obligations.PtpEventsComplete := by
  refine ⟨?message, ?due, ?announceTimeout⟩
  case message =>
    intro dt s₀ m at_ t c p hon
    refine ⟨?syncTwoStep, ?syncOneStep, ?followUp, ?announce, ?delayReq, ?delayResp, ?pdelayReq, ?pdelayResp⟩
    case syncTwoStep =>
      exact fun hparent htwo => next_ptpRead_of_on hon ((if_neg (ne_false_of_eq_true hparent)).trans (if_pos htwo))
    case syncOneStep =>
      exact fun hparent hone => next_ptpRead_of_on hon <|
        (if_neg (ne_false_of_eq_true hparent)).trans (if_neg (ne_true_of_eq_false hone))
    case followUp =>
      intro t2 k hsync hparent
      refine next_ptpRead_of_on hon ?_
      simp only [p, t] at hsync
      simp only [hsync]
      exact if_pos ⟨hparent, trivial⟩
    case announce =>
      exact fun a hdomain hother hsteps => next_ptpRead_of_on hon <|
        if_neg (not_or.mpr ⟨not_not_intro hdomain, not_or.mpr ⟨hother, Nat.not_le.mpr hsteps⟩⟩)
    case delayReq =>
      exact fun hdomain hmaster hend => next_ptpRead_of_on hon (if_pos ⟨hdomain, hmaster, hend⟩)
    case delayResp =>
      intro t3 t1 t2 hdelay hsync hparent hasked
      refine next_ptpRead_of_on hon ?_
      simp only [p, t] at hdelay hsync
      simp only [hdelay, hsync]
      exact if_pos ⟨hparent, trivial, hasked⟩
    case pdelayReq => exact fun hdomain hpeer => next_ptpRead_of_on hon (if_pos ⟨hdomain, hpeer⟩)
    case pdelayResp =>
      intro t1 hpdelay hdomain hasked
      have hanswers : ¬(m.domain ≠ c.domainNo ∨ m.seq ≠ m.seq ∨ asksPort m t.clockIdentity = false) :=
        not_or.mpr ⟨not_not_intro hdomain, not_or.mpr ⟨not_not_intro rfl, ne_false_of_eq_true hasked⟩⟩
      simp only [p, t] at hpdelay
      refine ⟨fun htwo => next_ptpRead_of_on hon ?two, fun hone => next_ptpRead_of_on hon ?one,
        fun q t4 t2 k hpresp => next_ptpRead_of_on hon ?follow⟩
      case two =>
        simp only [hpdelay]
        exact (if_neg hanswers).trans (if_pos htwo)
      case one =>
        simp only [hpdelay]
        exact (if_neg hanswers).trans (if_neg (ne_true_of_eq_false hone))
      case follow =>
        simp only [p, t] at hpresp
        simp only [hpdelay, hpresp]
        exact if_neg hanswers
  case due =>
    intro dt s₀ n kind c p hon hmaster hslave hpeer hdue
    refine next_if_pos ⟨hon, ?allowed, hdue⟩
    case allowed =>
      match kind with
      | 0 | 1 => exact beq_iff_eq.mpr (hmaster (by decide))
      | 2 => simpa [p, c] using hslave rfl
      | 3 => exact hpeer rfl
  case announceTimeout =>
    exact fun dt s₀ n hon hstate hexpired => next_if_pos ⟨hon, hstate, hexpired⟩

end Sys2Proof.Machine
end

section
/-! Proofs for spec chapter 10, completion (R353 to R367): beacons, radio slots, acknowledgements, association and frames held for
sleeping nodes. -/
namespace Sys2Proof.Machine
open Sys2Proof

/-! ### Beacons (R353, R367, R372) -/

section
variable {dt : Nat} {s₀ s : State} {i : Fin 4} {tb : Int} (hs : s₀.elapse dt = s) (hnext : s.radio.ri[i].nextTb = some tb)
include hs hnext

/-- R367: at its build instant the beacon of an interface whose settings stand is built. -/
theorem execBeaconBuild_of_due (hbuilt : s.radio.ri[i].built = none) (hdue : tb - 500000 ≤ (s.full : Int))
    (hset : s.radio.ri[i].next = none) : execBeaconBuild dt i s₀ = .next (s.buildBeacon i tb) := by
  simp only [execBeaconBuild, hs, hset, hnext, hbuilt, hdue, decide_true, Option.isNone_none, Bool.and_self, Bool.true_eq_false,
    ↓reduceIte]

/-- R372: settings that wait come into force first, and a beacon whose build instant has then come is built. -/
theorem execBeaconBuild_of_settings {c : RadioCfg} {tb' : Int} (hbuilt : s.radio.ri[i].built = none)
    (hdue : tb - 500000 ≤ (s.full : Int)) (hset : s.radio.ri[i].next = some c)
    (hnext' : (s.radioApply i c).radio.ri[i].nextTb = some tb') (hbuilt' : (s.radioApply i c).radio.ri[i].built = none)
    (hdue' : tb' - 500000 ≤ ((s.radioApply i c).full : Int)) :
    execBeaconBuild dt i s₀ = .next ((s.radioApply i c).buildBeacon i tb') := by
  simp only [execBeaconBuild, hs, hset, hnext, hbuilt, hdue, hnext', hbuilt', hdue', decide_true, Option.isNone_none, Bool.and_self,
    Bool.true_eq_false, ↓reduceIte]

/-- R353: a beacon that is built starts at its strobe. -/
theorem execBeaconStb_of_built {b : Beacon} (hbuilt : s.radio.ri[i].built = some (some b))
    (hreached : tb - s.radio.ri[i].cfg.stbToSfdNs.toNat ≤ (s.full : Int)) (hactive : s.radio.ri[i].active = true)
    (hsends : s.quiet = false) :
    execBeaconStb dt i s₀ = .next (State.emit ((s.modRi i fun r => { r with
      nextTb := some (s.radio.ri[i].nextInstant tb), built := none }).modRi i fun r => { r with
        beaconsSent := r.beaconsSent.inc, laurelCarried := r.laurelCarried.add b.laurel.length })
      (.beacon i.val s.radio.ri[i].bsn s.radio.ri[i].cfg.superframe b.pending b.laurel)) := by
  subst hs
  simp only [execBeaconStb, hnext, hbuilt]
  refine (next_if_neg (Int.not_lt.mpr hreached)).trans (next_if_neg ?_)
  exact not_or.mpr ⟨ne_false_of_eq_true hactive, ne_true_of_eq_false hsends⟩

end

/-! ### Transmit opportunities and acknowledgements (R355, R358) -/

/-- The oldest frame of a class that waits for a radio slot. -/
def Radio.queueHead (r : Radio) (k : Nat) : Option RadioTx := r.queue.find? fun f => f.cls.val == k

/-- The classes whose oldest frame, with its acknowledgement, fits before the next build instant. -/
def State.slotReqs (s : State) (i : Fin 4) : List Nat :=
  (List.range 4).filter fun k =>
    (s.radio.ri[i].queueHead k).any fun f => s.radioFits i (f.airNs + if f.ack then ackWaitNs else 0)

/-- R358, R9: with no acknowledgement awaited, the class granted sends its oldest frame and the others have lost once more. -/
theorem execRadioSlotGrant_of_granted {dt : Nat} {s₀ s : State} {i : Fin 4} {c : Nat} {f : RadioTx} (hs : s₀.elapse dt = s)
    (hactive : s.radio.ri[i].active = true) (hwait : s.radio.ri[i].wait = none) (hsends : s.quiet = false)
    (hgrant : arbitrate (s.slotReqs i) (fun k => s.radio.ri[i].losses.toList.getD k 0) = some c)
    (hhead : s.radio.ri[i].queueHead c = some f) :
    execRadioSlotGrant dt i s₀ = .next (State.transmit (s.modRi i fun x => { x with
      losses := .ofFn fun k => if k.val = c then 0
        else if (s.slotReqs i).contains k.val then s.radio.ri[i].losses[k] + 1 else s.radio.ri[i].losses[k] }) i f) := by
  subst hs
  have hreqs (p : Nat → Bool) (hp : ∀ k, p k = ((s₀.elapse dt).radio.ri[i].queueHead k).any fun f =>
      (s₀.elapse dt).radioFits i (f.airNs + if f.ack then ackWaitNs else 0)) :
      (List.range 4).filter p = (s₀.elapse dt).slotReqs i := List.filter_congr fun k _ => hp k
  have hgrants : ¬((s₀.elapse dt).radio.ri[i].active = false ∨ (s₀.elapse dt).radio.ri[i].wait.isSome = true ∨
      (s₀.elapse dt).quiet = true) := by
    simp only [hactive, hwait, hsends, Bool.true_eq_false, Bool.false_eq_true, Option.isSome_none, or_self, not_false_eq_true]
  refine (next_if_neg hgrants).trans ?_
  rw [hreqs]
  case hp =>
    intro k
    simp only [Radio.queueHead]
    split
    next f hf => simp only [hf, Option.any_some]
    next hnone => simp only [hnone, Option.any_none]
  · simp only [Radio.queueHead] at hhead
    simp only [hgrant, hhead]

/-- R355, R362: a frame whose wait has ended is queued again, or after the last of its tries is counted, and is done unless it is
held. -/
theorem execAckWaitExpiry_of_expired {dt : Nat} {s₀ s : State} {i : Fin 4} {w : RadioTx × U8 × Nat} (hs : s₀.elapse dt = s)
    (hwait : s.radio.ri[i].wait = some w) (hexpired : s.fwExpired w.2.2 = true) :
    let t := s.modRi i fun r => { r with wait := none }
    let u := t.modRi i fun r => { r with ackTimeouts := r.ackTimeouts.inc }
    execAckWaitExpiry dt i s₀ = .next (
      if w.1.tries < 3 then t.modRi i fun r => { r with queue := { w.1 with tries := w.1.tries + 1 } :: r.queue }
      else if u.radio.ri[i].held.any fun h => h.id == w.1.id then u else u.txDone w.1 1) := by
  subst hs
  simp only [execAckWaitExpiry, hwait]
  exact next_if_neg (ne_false_of_eq_true hexpired)

/-! ### Frames held for sleeping nodes (R362) -/

/-- A frame held for a node already waits for a radio slot or for its acknowledgement. -/
def Radio.sending (r : Radio) (f : RadioTx) : Bool := r.queue.any (fun x => x.id == f.id) || r.wait.any fun w => w.1.id == f.id

theorem Radio.sending_iff {r : Radio} {f : RadioTx} :
    r.sending f = true ↔ r.queue.any (fun x => x.id == f.id) = true ∨ ∃ w, r.wait = some w ∧ w.1.id = f.id := by
  simp only [Radio.sending, Bool.or_eq_true, Option.any_eq_true, beq_iff_eq]

/-- R362: a data request is acknowledged, with frame pending where a frame is held, which is then queued unless it is already being
sent. -/
theorem execDataRequest_of_active {dt : Nat} {s₀ s : State} {i : Fin 4} {src : U16} {ext : U64} {held : Option RadioTx}
    (hs : s₀.elapse dt = s) (hactive : s.radio.ri[i].active = true) (hsends : s.quiet = false)
    (hheld : (s.radio.ri[i].held.find? fun h =>
      if src = 0xFFFF then h.cls == 0 && h.ext == ext else h.dest == src && h.cls != 0) = held) :
    let t := s.modNode i src fun n => { n with lastRx := BitVec.ofInt 32 (s.recvTime i 0) }
    execDataRequest dt i src ext s₀ = .next (held.elim (t.emit (.radioAck i.val false)) fun f =>
      if s.radio.ri[i].sending f then t.emit (.radioAck i.val true)
      else (t.emit (.radioAck i.val true)).modRi i fun r => { r with queue := r.queue ++ [{ f with tries := 0, dsn := none }] }) := by
  subst hs
  intro t
  have hanswers : ¬((s₀.elapse dt).radio.ri[i].active = false ∨ (s₀.elapse dt).quiet = true) :=
    not_or.mpr ⟨ne_false_of_eq_true hactive, ne_true_of_eq_false hsends⟩
  simp only [execDataRequest, hheld]
  refine (next_if_neg hanswers).trans ?_
  cases held with
  | none => rfl
  | some f =>
    cases hwait : (s₀.elapse dt).radio.ri[i].wait
    all_goals
      simp only [Radio.sending, hwait]
      rfl

/-- R362: the frames held for the persistence time that are not being sent are discarded, in order. -/
theorem execIndirectPersistExpiry_of_active {dt : Nat} {s₀ s : State} {i : Fin 4} (hs : s₀.elapse dt = s)
    (hactive : s.radio.ri[i].active = true) :
    let r := s.radio.ri[i]
    execIndirectPersistExpiry dt i s₀ = .next ((r.held.filter fun f => !r.sending f &&
      s.fwExpired (f.since + r.cfg.persistBi.toNat * r.cfg.bi)).foldl (fun (s : State) f =>
        let t := s.modRi i fun r => { r with held := r.held.filter (fun h => h.id != f.id), expireRun := true,
                                             indirectExpired := r.indirectExpired.inc }
        ((t.radioChange i.val 5 f.dest f.id []).txDone f 3).raiseIf (!s.radio.ri[i].expireRun) 99
          [fN 0 1 i.val, f16 2 f.dest]) s) := by
  subst hs
  intro r
  simp only [execIndirectPersistExpiry, hactive, ↓reduceIte, Radio.sending, r]
  cases (s₀.elapse dt).radio.ri[i].wait <;> rfl

/-! ### The statement of completion -/

/-- Settles O28: each event by whether its instant has come and by what it finds: a beacon built, a frame that waits, a node, or a
frame held. That a transmission starts only where it ends in time is log entry 133, and the bytes of an association response are
those of IEEE 802.15.4 (log entry 71). -/
theorem radioEventsComplete : Obligations.RadioEventsComplete := by
  refine ⟨?build, ?strobe, ?grant, ?ack, ?ackExpiry, ?associate, ?disassociate, ?dataRequest, ?persistExpiry⟩
  case build =>
    intro dt s₀ i tb r hnext hbuilt hdue
    exact ⟨execBeaconBuild_of_due rfl hnext hbuilt hdue,
      fun c tb' hset hnext' hbuilt' hdue' => execBeaconBuild_of_settings rfl hnext hbuilt hdue hset hnext' hbuilt' hdue'⟩
  case strobe =>
    exact fun dt s₀ i tb b hnext hbuilt hreached hactive hsends =>
      execBeaconStb_of_built rfl hnext hbuilt hreached hactive hsends
  case grant =>
    exact fun dt s₀ i c f hactive hwait hsends hgrant hhead =>
      execRadioSlotGrant_of_granted rfl hactive hwait hsends hgrant hhead
  case ack =>
    intro dt s₀ i dsn w hwait hdsn hopen
    show execRadioAck dt i dsn s₀ = _
    simp only [execRadioAck, hwait]
    exact next_if_pos ⟨hdsn, hopen⟩
  case ackExpiry =>
    intro dt s₀ i w t u hwait hexpired
    have hends : exec (.ackWaitExpiry dt i) s₀ = _ := execAckWaitExpiry_of_expired rfl hwait hexpired
    exact ⟨fun hagain => hends.trans (next_if_pos hagain),
      fun hlast hheld => hends.trans ((next_if_neg (Nat.not_lt.mpr hlast)).trans (next_if_pos hheld)),
      fun hlast hfree => hends.trans ((next_if_neg (Nat.not_lt.mpr hlast)).trans (next_if_neg (ne_true_of_eq_false hfree)))⟩
  case associate => exact fun dt s₀ i ext sleepy hactive => next_if_pos hactive
  case disassociate =>
    intro dt s₀ i src n hnode hactive
    show execDisassocNotify dt i src s₀ = _
    simp only [execDisassocNotify, hnode]
    exact next_if_pos hactive
  case dataRequest =>
    intro dt s₀ i src ext r t held hactive hsends
    have hanswered {o} (hheld : held = o) := execDataRequest_of_active (dt := dt) rfl hactive hsends hheld
    refine ⟨fun hnone => hanswered hnone, fun f hheld hqueue hwait => (hanswered hheld).trans (next_if_neg ?rests),
      fun f hheld hsent => (hanswered hheld).trans (next_if_pos ?sent)⟩
    case rests =>
      exact mt Radio.sending_iff.mp (not_or.mpr ⟨ne_true_of_eq_false hqueue, fun ⟨w, hw, hid⟩ => hwait w hw hid⟩)
    case sent => exact Radio.sending_iff.mpr hsent
  case persistExpiry => exact fun dt s₀ i hactive => execIndirectPersistExpiry_of_active rfl hactive

end Sys2Proof.Machine
end

section
/-! Proofs for spec chapter 10, completion (R353 to R364): data and Privet frames, a parent, and the identification of
transceivers. -/
namespace Sys2Proof.Machine
open Sys2Proof

/-! ### Frames received (R360, R361, R363) -/

/-- A Privet frame that passes its check has the effect `k` of the state and the payload; another is refused (R363). -/
def State.onPrivet (s : State) (i : Fin 4) (f : RadioFrame) (k : State × List U8 → State) : State :=
  match s.privetCheck i f with
  | .error c => s.privetReject i f c
  | .ok x => k x

theorem State.onPrivet_of_ok {s : State} {i : Fin 4} {f : RadioFrame} {x : State × List U8} (k : State × List U8 → State)
    (h : s.privetCheck i f = .ok x) : s.onPrivet i f k = k x := by
  simp only [State.onPrivet, h]

theorem State.onPrivet_of_error {s : State} {i : Fin 4} {f : RadioFrame} {e : Nat} (k : State × List U8 → State)
    (h : s.privetCheck i f = .error e) : s.onPrivet i f k = s.privetReject i f e := by
  simp only [State.onPrivet, h]

section
variable {dt : Nat} {s₀ s : State} {i : Fin 4} {f : RadioFrame} {n : Node} (hs : s₀.elapse dt = s)
  (hsupported : frameSupported f = true) (hnode : s.radio.ri[i].node (frameSrc f) = some n)
include hs hsupported hnode

/-- R370: a standby feeds its snapshot with the records of a frame whose security is in order. -/
theorem execRadioDataFrame_of_standby {x : State × List U8} (hst : s.radio.ri[i].st = 4) (hopen : s.radioOpen i n f = some x)
    (hrecords : onlyRecords x.2 = true) :
    execRadioDataFrame dt i f s₀ = .next (x.1.feedRecords (x.1.recvTime i f.ago) x.2) := by
  simp only [execRadioDataFrame, hs, hst, hsupported, hnode, Option.bind_some, hopen, hrecords, ↓reduceIte]

variable (hactive : s.radio.ri[i].active = true) (hnew : n.isDup (frameDsn f) 1 = false)
include hactive hnew

/-- R360, R363: a new frame of a Privet station goes by the check of its counter. -/
theorem execRadioDataFrame_of_station (hst : s.radio.ri[i].st ≠ 4) (hstation : inRange 1 32 n.short.toNat = true) :
    execRadioDataFrame dt i f s₀ = .next (s.onPrivet i f fun x => x.1.takeData i f x.2) := by
  simp only [execRadioDataFrame, hs, hst, hactive, hsupported, hnode, hnew, hstation, Bool.true_eq_false, Bool.false_eq_true,
    ↓reduceIte]
  rfl

/-- R360, R361: a new frame of an ordinary node is taken where its security is in order. -/
theorem execRadioDataFrame_of_ordinary {x : State × List U8} (hst : s.radio.ri[i].st ≠ 4)
    (hordinary : inRange 1 32 n.short.toNat = false) (hopen : s.radioOpen i n f = some x) :
    execRadioDataFrame dt i f s₀ = .next (x.1.takeData i f x.2) := by
  simp only [execRadioDataFrame, hs, hst, hactive, hsupported, hnode, hnew, hordinary, hopen, Bool.true_eq_false,
    Bool.false_eq_true, ↓reduceIte]

/-- R363: a new Privet frame from a station's address goes by the check of its counter. -/
theorem execPrivetFrame_of_station (hstation : inRange 1 32 (frameSrc f).toNat = true) :
    execPrivetFrame dt i f s₀ = .next (s.onPrivet i f fun x => (x.1.acceptFrame i f 1).privetCommand i f x.2) := by
  simp only [execPrivetFrame, hs, hactive, hsupported, hnode, hnew, hstation, Bool.true_eq_false, Bool.false_eq_true, ↓reduceIte]
  rfl

end

/-! ### A parent (R364) -/

/-- R364: a beacon that has not come by the end of its window is missed, and the third miss in a row loses sync. -/
theorem execParentBeaconMiss_of_past {dt : Nat} {s₀ s : State} {i : Fin 4} {p : Int} (hs : s₀.elapse dt = s)
    (hnext : s.radio.ri[i].parentNext = some p) (hchild : s.radio.ri[i].cfg.child = true) (hsync : s.radio.ri[i].lost = false)
    (hpast : 0 ≤ (s.full : Int) - (p + s.radio.ri[i].cfg.parentWindowUs.toNat * 1000))
    (hexpired : s.fwExpired (s.now -
      ((s.full : Int) - (p + s.radio.ri[i].cfg.parentWindowUs.toNat * 1000)).toNat) = true) :
    let n := s.radio.ri[i].missRun + 1
    let t := s.modRi i fun r => { r with
      parentMisses := r.parentMisses.inc, missRun := n, parentNext := some (p + r.cfg.bi), lost := decide (3 ≤ n) }
    execParentBeaconMiss dt i s₀ = .next (if 3 ≤ n then
      (t.radioTo i (t.radioSt t.radio.ri[i])).raiseF 97 [fN 0 1 i.val, fN 1 1 1] else t) := by
  subst hs
  simp only [execParentBeaconMiss, hnext]
  refine next_if_neg ?_
  simp only [hchild, hsync, hexpired, Int.not_lt.mpr hpast, Bool.true_eq_false, Bool.false_eq_true, or_self, not_false_eq_true]

/-! ### The statement of completion -/

/-- Settles O29: a frame by its source and its security, a parent's beacon by its window, a miss by how many came before it, and
an identification by its time. That COORD_REALIGNMENT keeps the beacon schedule is the model's choice (log entry 73). -/
theorem radioFramesComplete : Obligations.RadioFramesComplete := by
  refine ⟨?data, ?standby, ?privet, ?parentBeacon, ?realignment, ?miss, ?identify, ?retry⟩
  case data =>
    intro dt s₀ i f n r hst hactive hnode hsupported hnew
    have hprivet (hstation : inRange 1 32 n.short.toNat = true) :=
      execRadioDataFrame_of_station (dt := dt) rfl hsupported hnode hactive hnew hst hstation
    exact ⟨fun x hordinary hopen => execRadioDataFrame_of_ordinary rfl hsupported hnode hactive hnew hst hordinary hopen,
      fun x hstation hok => (hprivet hstation).trans (congrArg Host.Outcome.next (State.onPrivet_of_ok _ hok)),
      fun e hstation herror => (hprivet hstation).trans (congrArg Host.Outcome.next (State.onPrivet_of_error _ herror))⟩
  case standby =>
    exact fun dt s₀ i f n x hst hnode hsupported hopen hrecords =>
      execRadioDataFrame_of_standby rfl hsupported hnode hst hopen hrecords
  case privet =>
    intro dt s₀ i f n r hactive hsupported hnode hnew hstation
    have hprivet := execPrivetFrame_of_station (dt := dt) rfl hsupported hnode hactive hnew hstation
    exact ⟨fun x hok => hprivet.trans (congrArg Host.Outcome.next (State.onPrivet_of_ok _ hok)),
      fun e herror => hprivet.trans (congrArg Host.Outcome.next (State.onPrivet_of_error _ herror))⟩
  case parentBeacon =>
    intro dt s₀ i pan ago r t hchild hidentified hpan hwindow
    refine next_if_pos (Bool.and_eq_true_iff.mpr ⟨?ofParent, ?heard⟩)
    case ofParent =>
      exact Bool.and_eq_true_iff.mpr ⟨Bool.and_eq_true_iff.mpr ⟨hchild, hidentified⟩, beq_iff_eq.mpr hpan⟩
    case heard =>
      split
      next p hnext => simpa only [Bool.or_eq_true, decide_eq_true_eq] using hwindow p hnext
      next => rfl
  case realignment =>
    exact fun dt s₀ i hchild hidentified => next_if_pos (Bool.and_eq_true_iff.mpr ⟨hchild, hidentified⟩)
  case miss =>
    intro dt s₀ i p r past t hnext hchild hsync hpast hexpired
    have hmissed := execParentBeaconMiss_of_past rfl hnext hchild hsync hpast hexpired
    exact ⟨fun hfew => hmissed.trans (next_if_neg (Nat.not_le.mpr (Nat.succ_lt_succ hfew))),
      fun hthird => hmissed.trans (next_if_pos (Nat.succ_le_succ hthird))⟩
  case identify =>
    intro dt s₀ i resp r hreset hnone hst hexpired
    exact next_if_pos ⟨hreset, Option.isNone_iff_eq_none.mpr hnone, hst, hexpired⟩
  case retry => exact fun dt s₀ i resp hst hexpired => next_if_pos ⟨hst, hexpired⟩

end Sys2Proof.Machine
end

section
/-! Proofs for spec chapter 10, completion (R354, R359 to R363, R372): the commands of the radio. -/
namespace Sys2Proof.Machine
open Sys2Proof

/-! ### NODE_CONTROL (R359) -/

/-- NODE_CONTROL with an action of Table 10.7 is carried out on the interface it names. -/
theorem require_nodeControl {p : List U8} {a : U8} {k : Except Status Done} (hri : (p8 p 0).toNat < 4) (haction : p8 p 1 = a)
    (hlisted : inRange 1 3 a.toNat = true) :
    require (decide ((p8 p 0).toNat < 4) && inRange 1 3 (p8 p 1).toNat) .denied k = k :=
  require_of (Bool.and_eq_true_iff.mpr ⟨decide_eq_true hri, haction ▸ hlisted⟩)

/-! ### The statement of completion -/

/-- Settles O30: each body's requirements are the conditions of its clause; a read answers by whether what it names is there.
The command and reason bytes of the frame that NODE_CONTROL's disassociate sends are those of IEEE 802.15.4, which the spec does
not lay out (log entry 71). -/
theorem radioCommandsComplete : Obligations.RadioCommandsComplete := by
  refine ⟨?radioSet, ?radioStatus, ?nodeRead, ?disassociate, ?allow, ?disallow, ?privetSet, ?radioSend, ?radioRecv, ?xcvrRead⟩
  case radioSet =>
    intro q s₀ h p i hok hsupply
    exact next_serve_ok h <| (require_of hok).trans <| require_of (by simpa [Decidable.or_iff_not_imp_left] using hsupply)
  case radioStatus =>
    intro q s₀ h i r lead hri
    exact next_serve_ok h (require_of (decide_eq_true hri))
  case nodeRead =>
    intro q s₀ h r short hri
    refine ⟨fun n hnode => next_serve_ok h ((require_of (decide_eq_true hri)).trans ?known),
      fun hnone => next_serve_ok h ((require_of (decide_eq_true hri)).trans ?unknown)⟩
    case known =>
      simp only [r, short] at hnode
      simp only [hnode]
      rfl
    case unknown =>
      simp only [r, short] at hnone
      simp only [hnone]
      rfl
  case disassociate =>
    intro q s₀ h n i t hri haction hnode
    refine next_serve_ok h ((require_nodeControl hri haction rfl).trans ?_)
    simp only [haction, i] at hnode ⊢
    simp only [hnode]
    rfl
  case allow =>
    intro q s₀ h i e a hri haction
    refine ⟨fun hlisted => next_serve_ok h ((require_nodeControl hri haction rfl).trans ?listed),
      fun hnew hroom => next_serve_ok h ((require_nodeControl hri haction rfl).trans ?added)⟩
    case listed =>
      simp only [haction]
      exact if_pos hlisted
    case added =>
      simp only [haction]
      exact (if_neg (ne_true_of_eq_false hnew)).trans (require_of (decide_eq_true hroom))
  case disallow =>
    intro q s₀ h hri haction
    refine next_serve_ok h ((require_nodeControl hri haction rfl).trans ?_)
    simp only [haction]
    rfl
  case privetSet =>
    intro q s₀ h p hri hstation
    exact next_serve_ok h (require_of (Bool.and_eq_true_iff.mpr ⟨decide_eq_true hri, decide_eq_true hstation⟩))
  case radioSend =>
    intro q s₀ h x p i r n f hnode hri hmin hmax hactive hroom
    have hfields : (decide ((p8 p 0).toNat < 4) && inRange 1 100 n) = true := by simp [hri, inRange_of hmin hmax]
    have hheld : (!x.sleepy || (decide ((r.held.filter fun h => h.dest == p16 p 2).length < 4) &&
        decide (r.held.length < 256))) = true := by simpa [Decidable.or_iff_not_imp_left] using hroom
    refine ⟨fun hclear => next_serve_ok h <| (require_of hfields).trans <| (require_of hactive).trans ?clear,
      fun k hsecure hkey => next_serve_ok h <| (require_of hfields).trans <| (require_of hactive).trans ?secure⟩
    all_goals
      simp only [r, i, p] at hnode
      simp only [hnode]
    case clear => exact (require_of hheld).trans (if_neg (ne_true_of_eq_false hclear))
    case secure =>
      refine (require_of hheld).trans ((if_pos hsecure).trans ?_)
      simp only [r, i, p] at hkey
      simp only [hkey]
      rfl
  case radioRecv =>
    intro q s₀ h i hri
    refine ⟨fun hempty => next_serve_ok h ((require_of (decide_eq_true hri)).trans ?empty),
      fun x rest hqueue => next_serve_ok h ((require_of (decide_eq_true hri)).trans ?oldest)⟩
    case empty =>
      simp only [i] at hempty
      simp only [hempty]
      rfl
    case oldest =>
      simp only [i] at hqueue
      simp only [hqueue]
      rfl
  case xcvrRead =>
    intro q s₀ h k hk
    refine ⟨fun d hrecord => next_serve_ok h ((require_of (decide_eq_true hk)).trans ?record),
      fun hnone => next_serve_ok h ((require_of (decide_eq_true hk)).trans ?none)⟩
    case record =>
      simp only [k] at hrecord
      simp only [hrecord]
      rfl
    case none =>
      simp only [k] at hnone
      simp only [hnone]
      rfl

end Sys2Proof.Machine
end

section
/-! Proofs for spec chapter 11, completion (R374 to R401): the messages, timers and commands of pier pairs. -/
namespace Sys2Proof.Machine
open Sys2Proof

/-! ### The statements of completion -/

/-- An arm that consumes a message of the partner answers with the message's effect. -/
theorem next_consume_of_partner {s : State} {sp : Fin 12} {m : Msg} (f : State → State)
    (haccepted : (s.acceptMsg sp m).2 = true) (hpartner : (s.acceptMsg sp m).1.fromPartner m = true) :
    (.next (s.consume sp m fun s => if s.fromPartner m then f s else s) : Host.Outcome State Fault Refusal) =
      .next (f (s.acceptMsg sp m).1) :=
  next_consume_of_accepted haccepted (if_pos hpartner)

/-- Settles O31: every message of the partner by its effect; a digest by whether its frame was compared before. -/
theorem pierMessagesComplete : Obligations.PierMessagesComplete := by
  intro dt span m s₀ haccepted hpartner
  refine ⟨?heartbeat, ?release, ?claim, ⟨?seen, ?new⟩, ?sealPart, ?revert, ?resync⟩
  case heartbeat => exact next_consume_of_partner (fun s => s.heartbeatMsg m.payload) haccepted hpartner
  case release => exact next_consume_of_partner (fun s => s.releaseIn m.payload) haccepted hpartner
  case claim => exact next_consume_of_partner (fun s => s.claimIn m.payload) haccepted hpartner
  case seen =>
    intro hseen
    exact next_consume_of_accepted haccepted (if_neg (by rw [hseen, Bool.not_true, Bool.and_false]; exact Bool.false_ne_true))
  case new =>
    intro hnew
    exact next_consume_of_accepted haccepted (if_pos (by rw [hnew, hpartner]; rfl))
  case sealPart => exact next_consume_of_partner (fun s => (s.sealMsg m.payload).renderCheck) haccepted hpartner
  case revert => exact next_consume_of_partner (fun s => s.revertIn m.payload) haccepted hpartner
  case resync => exact next_consume_of_partner (fun s => s.resyncIn m.payload) haccepted hpartner

/-- Settles O32: each instant by the condition that it has come; a seal and the cutoff without it have none. -/
theorem pierTimersComplete : Obligations.PierTimersComplete := by
  refine ⟨?heartbeat, ?silence, ?witness, ?fall, ?rise, ?hold, ?sealPart, ?missing, ?revert, ?handover, ?wait⟩
  case heartbeat => exact fun dt s₀ hdue => next_if_pos hdue
  case silence => exact fun dt s₀ hdue => next_if_pos hdue
  case witness =>
    intro dt s₀ t hheard hpaired hused hkept hexpired
    show execTrestleWitnessLoss dt s₀ = _
    simp only [execTrestleWitnessLoss, hheard]
    exact next_if_pos (by simp only [hpaired, hused, hkept, hexpired, Bool.not_false, Bool.and_self])
  case fall => exact fun dt s₀ => rfl
  case rise => exact fun dt s₀ => rfl
  case hold => exact fun dt s₀ hactive hexpired => next_if_pos ⟨hactive, hexpired⟩
  case sealPart => exact fun dt s₀ => rfl
  case missing => exact fun dt s₀ => rfl
  case revert => exact fun dt s₀ hdue => next_if_pos hdue
  case handover =>
    intro dt s₀ h hpending hdue
    show execHandoverAtCutoff dt s₀ = _
    simp only [execHandoverAtCutoff, hpending]
    exact next_if_pos hdue
  case wait =>
    intro dt s₀ t hwaits hpaired hexpired
    show execPartnerWaitExpiry dt s₀ = _
    simp only [execPartnerWaitExpiry, hwaits]
    exact next_if_pos (Bool.and_eq_true_iff.mpr ⟨hpaired, hexpired⟩)

/-- A PIER_CONTROL that is ready, with nothing pending and not late, is carried out. -/
theorem State.pierControl_of {s : State} {ready late : Bool} {f : State → State} (hready : ready = true)
    (hidle : s.pierBusy = false) (hunasked : s.pier.revertAsked = none) (hintime : late = false) :
    s.pierControl ready late f = done (f s) :=
  (require_of hready).trans <| (require_of (by simp [hidle, hunasked])).trans <| require_not hintime

/-- Settles O33: each body's requirements are the conditions of its clause. That HANDOVER has 8 bytes of payload and the other
actions 4 is the model's choice (log entry 76). -/
theorem pierCommandsComplete : Obligations.PierCommandsComplete := by
  refine ⟨?pierSet, ?status, ?handover, ?resync, ?revert, ?counters⟩
  case pierSet =>
    intro q s₀ h c hok hfixed
    have hallowed : (!(s₀.elapse q.dt).running || c.fixed == (s₀.elapse q.dt).pier.cfg.fixed) = true := by
      cases hrunning : (s₀.elapse q.dt).running
      · rfl
      · simp [hfixed hrunning]
    exact next_serve_ok h ((require_of hok).trans (require_of hallowed))
  case status =>
    intro q s₀ h x seen epoch
    refine next_serve_ok h ?_
    simp only [seen, epoch, x]
    cases (s₀.elapse q.dt).pier.hb1 <;> rfl
  case handover =>
    intro q s₀ h m hpaired hrunning hholds hpartner hheard hidle hunasked hahead
    exact next_serve_ok h (State.pierControl_of
      (by simp only [hpaired, hrunning, hholds, hpartner, hheard, BEq.rfl, Bool.not_false, Bool.and_self]) hidle hunasked
      (decide_eq_false (Int.not_lt.mpr hahead)))
  case resync => exact fun q s₀ h hstandby hidle hunasked => next_serve_ok h (State.pierControl_of hstandby hidle hunasked rfl)
  case revert =>
    exact fun q s₀ h hidle hunasked =>
      ⟨next_serve_ok h (State.pierControl_of rfl hidle hunasked rfl),
        next_serve_ok h (State.pierControl_of rfl hidle hunasked rfl)⟩
  case counters =>
    intro q s₀ h x
    exact next_serve_ok h rfl

end Sys2Proof.Machine
end

section
/-! Proofs for spec chapter 12, tamper (R426, R432): what a cause empties and locks, and what the lock turns away. -/
namespace Sys2Proof.Machine
open Sys2Proof

/-! ### Events leave Boxwood as it is -/

@[simp] theorem State.msix_box (s : State) (v : Nat) : (s.msix v).box = s.box := by
  unfold State.msix
  split <;> rfl

@[simp] theorem State.signalEvents_box (s : State) : s.signalEvents.box = s.box := by
  unfold State.signalEvents
  extract_lets
  split
  · exact State.msix_box _ _
  · rfl

@[simp] theorem State.storeRecord_box (s : State) (i : U16) (r : List U8) : (s.storeRecord i r).box = s.box := by
  simp only [State.storeRecord]
  split <;> rfl

theorem foldl_storeRecord_box {α : Type} (f : α → U16 × List U8) (l : List α) (s : State) :
    (l.foldl (fun (s : State) x => s.storeRecord (f x).1 (f x).2) s).box = s.box := by
  induction l generalizing s with
  | nil => rfl
  | cons x l ih => exact (ih _).trans (State.storeRecord_box _ _ _)

theorem signalIf_box (b : Bool) (s : State) : (if b = true then s.signalEvents else s).box = s.box := by
  split
  · exact State.signalEvents_box _
  · rfl

@[simp] theorem State.writeEvent_box (s : State) (e : Nat) (data : List U8) : (s.writeEvent e data).box = s.box := by
  unfold State.writeEvent
  dsimp only
  split
  · rfl
  · split
    · rfl
    · refine (signalIf_box _ _).trans ?_
      rw [foldl_storeRecord_box fun x : (Nat × List U8) × Nat =>
        (s.mb.ev.tail - BitVec.ofNat 16 (s.mb.ev.after (s.now / 4) e) + BitVec.ofNat 16 x.2, x.1.2)]

@[simp] theorem State.raise_box (s : State) (e : Nat) (data : List U8) : (s.raise e data).box = s.box := by
  unfold State.raise
  split
  · exact State.writeEvent_box _ _ _
  · rfl

@[simp] theorem State.raiseF_box (s : State) (e : Nat) (fs : List Fld) : (s.raiseF e fs).box = s.box := State.raise_box _ _ _

@[simp] theorem State.raiseIf_box (s : State) (c : Bool) (e : Nat) (fs : List Fld) : (s.raiseIf c e fs).box = s.box := by
  unfold State.raiseIf
  split
  · exact State.raiseF_box _ _ _
  · rfl

@[simp] theorem State.amend_box (s : State) (e : Nat) (a b : List U8) : (s.amend e a b).box = s.box := by
  simp only [State.amend]
  split <;> split
  · rfl
  · exact State.storeRecord_box _ _ _
  · rfl
  · rfl

/-! ### A tamper cause (R426, R427, R432) -/

@[simp] theorem State.zeroise_wk (s : State) (cause : Nat) : (s.zeroise cause).box.wk = [] := rfl

@[simp] theorem State.zeroise_lock (s : State) (cause : Nat) : (s.zeroise cause).box.lock = true := rfl

@[simp] theorem State.raiseTamper_box (s : State) (cause mode : Nat) : (s.raiseTamper cause mode).box = s.box :=
  State.raiseF_box _ _ _

@[simp] theorem State.beginCause_box (s : State) (cause : Nat) (m : U32) : (s.beginCause cause m).box = s.box :=
  State.raiseIf_box _ _ _ _

/-- The strict response leaves the working slots and the lock. -/
theorem State.strictStop_keeps (s : State) : s.strictStop.box.wk = s.box.wk ∧ s.strictStop.box.lock = s.box.lock := by
  simp only [State.strictStop]
  split <;> split <;> simp [State.atRest, State.acceptStop]

/-- A cause in a count cycle in which none came before empties every working slot and sets the lock. -/
theorem State.tamper_first {s : State} {cause : Nat} (hrun : s.pwr.mode = .run)
    (hfirst : ¬(s.box.lock = true ∧ s.box.lastAt = some (s.now / 4))) :
    (s.tamper cause).box.wk = [] ∧ (s.tamper cause).box.lock = true := by
  simp only [State.tamper, hrun, if_neg hfirst]
  split
  next => simp [State.secureHold]
  next =>
    split
    next => simp [State.strictStop_keeps]
    next => simp

/-- A later cause of the same count cycle leaves the working slots and the lock. -/
theorem State.tamper_later {s : State} {cause : Nat} (hrun : s.pwr.mode = .run)
    (hlater : s.box.lock = true ∧ s.box.lastAt = some (s.now / 4)) :
    (s.tamper cause).box.wk = s.box.wk ∧ (s.tamper cause).box.lock = s.box.lock := by
  simp only [State.tamper, hrun, if_pos hlater]
  split <;> simp

/-! ### What the lock turns away (R426) -/

/-- An arm that serves a message and no more answers the status with which its body turns the message away. -/
theorem next_serve_error {op need : Nat} {q : Req} {s : State} {e : Status} {body : State → Except Status Done}
    (h : Takes op need q s) (he : body (s.elapse q.dt) = .error e) :
    (.next (serve op need q s body) : Host.Outcome State Fault Refusal) =
      .next ((s.elapse q.dt).respond q.ch op q.tag e [] none) := by
  rw [serve_takes body h, he]

/-- What a command requires besides an open lock does not matter while the lock stands. -/
theorem require_unlocked_of_lock {lock c : Bool} {e : Status} {k : Except Status Done} (hlock : lock = true) :
    require (!lock && c) e k = .error e := by
  rw [hlock]
  rfl

/-- While the lock stands no operation takes the contents of a slot. -/
theorem State.slotFor_of_lock {s : State} {n : Nat} (hlock : s.box.lock = true) : s.slotFor n = .error .denied := if_pos hlock

/-- Settles O60: the first cause of a count cycle zeroises and locks, a later one leaves both; a command that the lock turns
away requires that it is open, or takes a slot. -/
theorem tamperZeroisesAndRefuses : Obligations.TamperZeroisesAndRefuses := by
  refine ⟨fun s cause hrun => ?tamper, fun q s₀ => ?refused⟩
  case tamper =>
    by_cases hlater : s.box.lock = true ∧ s.box.lastAt = some (s.now / 4)
    · obtain ⟨hwk, hlock⟩ := State.tamper_later (cause := cause) hrun hlater
      exact ⟨fun hfirst => absurd hlater hfirst, hlock.trans, hwk.trans⟩
    · obtain ⟨hwk, hlock⟩ := State.tamper_first (cause := cause) hrun hlater
      exact ⟨fun _ => ⟨hwk, hlock⟩, fun _ => hlock, fun _ => hwk⟩
  case refused =>
    simp only [List.forall_mem_cons]
    refine ⟨?load, ?key, ?challenge, ?begin, ?finish, ?activate, ?abort, ?status, nofun⟩
    case key =>
      intro h hlock
      refine next_serve_error h ?_
      simp only [State.elapse_box, hlock, Bool.not_true, Bool.and_false, require_false]
    case challenge =>
      intro h hlock
      refine next_serve_error h ?_
      simp only [State.slotFor_of_lock (s := s₀.elapse q.dt) hlock]
      exact ite_self _
    case begin => exact fun h hlock => next_serve_error h (require_unlocked_of_lock hlock)
    all_goals
      intro h hlock
      refine next_serve_error h ?_
      simp only [State.elapse_box, hlock, Bool.not_true, require_false]

end Sys2Proof.Machine
end

section
/-! Proofs for spec chapter 12, completion (R405 to R433): Boxwood's commands, tamper inputs, monitors and the lapse of a
proposal. -/
namespace Sys2Proof.Machine
open Sys2Proof

/-! ### Keys (R410, R412) -/

/-- The staged image that waits for the blob key of this identity, root and use waits no more (R413). -/
def State.releaseStaged (s : State) (id : U32) (root : Nat) (use : U8) : State :=
  match s.sh.staged.blob with
  | some x =>
    if x.1 = id ∧ x.2.1.toNat = root ∧ x.2.2.1 = use then { s with sh.staged := { s.sh.staged with blob := none } } else s
  | none => s

section
variable {s : State} {id : U32} {root : Nat} {use : U8}

theorem State.releaseStaged_of_wanted {x : U32 × U8 × U8 × Nat} (hstaged : s.sh.staged.blob = some x) (hid : x.1 = id)
    (hroot : x.2.1.toNat = root) (huse : x.2.2.1 = use) :
    s.releaseStaged id root use = { s with sh.staged := { s.sh.staged with blob := none } } := by
  rw [State.releaseStaged, hstaged]
  exact if_pos ⟨hid, hroot, huse⟩

theorem State.releaseStaged_of_other
    (h : ∀ x, s.sh.staged.blob = some x → ¬(x.1 = id ∧ x.2.1.toNat = root ∧ x.2.2.1 = use)) :
    s.releaseStaged id root use = s := by
  unfold State.releaseStaged
  split
  next x hstaged => exact if_neg (h x hstaged)
  next => rfl

end

/-- KEY_LOAD of a blob that unwraps, is the one named and has not expired: its key is kept, and the staged image that waits for
it is released (R412, R413). -/
theorem execKeyLoad_of_opened {q : Req} {s₀ : State} {w : State × List U8} {p : List U8} (h : Takes opKeyLoad 72 q s₀)
    (hmagic : rd q.payload 0 4 = 0x4258424C) (hroot : (p8 q.payload 8).toNat < 32)
    (huse : p8 q.payload 9 = 1 ∨ p8 q.payload 9 = 2) (hlock : s₀.box.lock = false)
    (hderive : (s₀.elapse q.dt).derive (p8 q.payload 8).toNat 1 (ascii "WRAP" ++ be 4 (rd q.payload 0x0C 4)) 256 = .ok w)
    (hunwrap : keyUnwrap w.2 (bytesAt q.payload 0x10 56) = some p) (hid : p32 p 32 = p32 q.payload 4)
    (hsame : p8 p 36 = p8 q.payload 9) (hvalid : rd p 40 8 = 0 ∨ w.1.seconds ≤ rd p 40 8) :
    let r := w.1.keep { blob := true, root := (p8 q.payload 8).toNat, use := p8 q.payload 9, id := p32 q.payload 4,
                        key := bytesAt p 0 (if p8 p 37 = 1 then 16 else 32), used := 0 }
    exec (.keyLoad q) s₀ = .next ((r.1.releaseStaged (p32 q.payload 4) (p8 q.payload 8).toNat (p8 q.payload 9)).ok q opKeyLoad
      [BitVec.ofNat 8 r.2]) := by
  intro r
  have hallowed : (rd q.payload 0 4 == 0x4258424C && decide ((p8 q.payload 8).toNat < 32) &&
      (p8 q.payload 9 == 1 || p8 q.payload 9 == 2) && !(s₀.elapse q.dt).box.lock) = true := by
    simpa [hmagic, hroot, hlock] using huse
  have hfresh : ¬(rd p 40 8 ≠ 0 ∧ rd p 40 8 < w.1.seconds) := by omega
  refine next_serve_ok h ((require_of hallowed).trans ?_)
  simp only [hderive, hunwrap, hid, hsame, ne_eq, not_true_eq_false, or_self, ↓reduceIte, if_neg hfresh]
  rfl

/-! ### Proposals (R419, R420) -/

/-- An arm that serves a message and no more answers as its body says. -/
theorem next_serve_done {op need : Nat} {q : Req} {s : State} {d : Done} {body : State → Except Status Done}
    (h : Takes op need q s) (hd : body (s.elapse q.dt) = .ok d) (hwait : d.wait = false) :
    (.next (serve op need q s body) : Host.Outcome State Fault Refusal) =
      .next (d.st.respond q.ch op q.tag d.status d.data d.post) := by
  rw [serve_takes body h, hd]
  exact congrArg Host.Outcome.next (if_neg (ne_true_of_eq_false hwait))

/-- What APPROVE by officer `i` does to the open proposal once the signature verifies (R419, R420). -/
def State.approveBy (s : State) (p : Proposal) (i fails : Nat) : Except Status Done :=
  if p.approvals.contains i then .ok { st := s, status := .needSecondOfficer }
  else
    let s := s.raiseProposal p 2 i
    if p.approvals.isEmpty then
      .ok { st := { s with box.proposal := some { p with approvals := [i], firstAt := s.now } }, status := .needSecondOfficer }
    else s.settle p fails

theorem State.approveBy_of_settled {s u : State} {p : Proposal} {i fails : Nat}
    (hsecond : p.approvals ≠ []) (hother : i ∉ p.approvals)
    (hcheck : State.proposalCheck { s.raiseProposal p 2 i with box.proposal := none } p.kind p.body
      (if p.kind = 1 then some p.plain else none) = .ok)
    (happly : State.applyProposal { s.raiseProposal p 2 i with box.proposal := none } p fails = some u) :
    s.approveBy p i fails = done (((u.raiseProposal p 3 0xFF).raiseF 117 [fN 0 1 p.kind, fN 1 1 p.target]).tripEnabled
      (s.raiseProposal p 2 i).box.tamper.en) := by
  refine (if_neg (mt List.contains_iff_mem.mp hother)).trans ((if_neg (mt List.isEmpty_iff.mp hsecond)).trans ?_)
  simp only [State.settle, hcheck, happly]

/-- APPROVE of the open proposal by an officer whose signature verifies. -/
theorem execApprove_of_verified {q : Req} {s₀ s : State} {fails : Nat} {p : Proposal} {o : Officer} {d : Done}
    (h : Takes opApprove 208 q s₀) (hs : s₀.elapse q.dt = s) (hopen : s.box.proposal = some p)
    (hindex : (p8 q.payload 4).toNat < 8) (hclear : p.kind = 8 → s.box.tampered = false) (hid : p.id = p32 q.payload 0)
    (hlapse : s.fwExpired p.lapseAt = false) (happrover : s.approver p (p8 q.payload 4).toNat = some o)
    (hkey : o.keyHash = sha256 (bytesAt q.payload 8 97))
    (hverify : ecdsaVerify (bytesAt q.payload 8 97) (s.approvalMessage p) (rdBE q.payload 0x70 48)
      (rdBE q.payload 0xA0 48) = true)
    (hd : s.approveBy p (p8 q.payload 4).toNat fails = .ok d) (hwait : d.wait = false) :
    exec (.approve q fails) s₀ = .next (d.st.respond q.ch opApprove q.tag d.status d.data d.post) := by
  have hstands : ¬(p.kind = 8 ∧ s.box.tampered = true) := fun ⟨hkind, htampered⟩ =>
    absurd htampered (ne_true_of_eq_false (hclear hkind))
  have hintime : ¬(p.id ≠ p32 q.payload 0 ∨ s.fwExpired p.lapseAt = true) := by simp [hid, hlapse]
  refine next_serve_done h ?_ hwait
  rw [hs]
  simp only [hopen]
  exact (require_of (decide_eq_true hindex)).trans <| (if_neg hintime).trans <| (if_neg (by simp [happrover, hkey])).trans <|
    (if_neg (by simp [hverify])).trans <| (if_neg hstands).trans hd

/-! ### The statements of completion -/

/-- Settles O34: a read by what it names, a key and a challenge by their requirements, a proposal by its check, an approval by
who has approved before. -/
theorem boxwoodCommandsComplete : Obligations.BoxwoodCommandsComplete := by
  refine ⟨?boxStatus, ?slotInfo, ?wkStatus, ?officerRead, ?identityRead, ?keyLoad, ?challenge, ?propose, ?approve, ?cancel⟩
  case boxStatus =>
    intro q s₀ h b
    exact next_serve_ok h rfl
  case slotInfo =>
    intro q s₀ h n hn
    have hread {fs : List Fld} (hfs : (match (s₀.elapse q.dt).slotSt n, ((s₀.elapse q.dt).box.slot.get {} n).best with
        | 1, some c => [fN 0 1 1, f8 1 c.kind, f8 2 c.uses, f32 4 c.seq, fN 0x10 6 c.writtenS] ++ fBytes 8 c.labelPrefix ++
            fBytes 0x18 c.name
        | st, _ => [fN 0 1 st]) = fs) :
        exec (.slotInfo q) s₀ = .next ((s₀.elapse q.dt).ok q opSlotInfo (pack 32 fs)) :=
      next_serve_ok h ((require_of (decide_eq_true hn)).trans (by subst hfs; rfl))
    refine ⟨fun c hvalid hbest => hread ?valid, fun hother => hread ?other⟩
    case valid =>
      rw [hvalid, hbest]
      rfl
    case other =>
      split
      next c hvalid hbest =>
        obtain hinvalid | hnone := hother
        · exact absurd hvalid hinvalid
        · cases hnone.symm.trans hbest
      next => rfl
  case wkStatus =>
    intro q s₀ h n r hn
    refine ⟨fun e hkey => next_serve_ok h ((require_of (decide_eq_true hn)).trans ?key),
      fun hnone => next_serve_ok h ((require_of (decide_eq_true hn)).trans ?none)⟩
    case key =>
      simp only [r, n] at hkey
      simp only [hkey]
      rfl
    case none =>
      simp only [r, n] at hnone
      simp only [hnone]
      rfl
  case officerRead =>
    intro q s₀ h n r hn
    refine ⟨fun o hofficer => next_serve_ok h ((require_of (decide_eq_true hn)).trans ?officer),
      fun hnone => next_serve_ok h ((require_of (decide_eq_true hn)).trans ?none)⟩
    case officer =>
      simp only [r, n] at hofficer
      simp only [hofficer]
      rfl
    case none =>
      simp only [r, n] at hnone
      simp only [hnone]
      rfl
  case identityRead => exact fun q s₀ h => next_serve_ok h rfl
  case keyLoad =>
    intro q s₀ h w p b id root r hmagic hroot huse hlock hderive hunwrap hid hsame hvalid
    have hopened := execKeyLoad_of_opened h hmagic hroot huse hlock hderive hunwrap hid hsame hvalid
    exact ⟨fun x hstaged hwanted hfrom hfor => hopened.trans (by rw [State.releaseStaged_of_wanted hstaged hwanted hfrom hfor]),
      fun hother => hopened.trans (by rw [State.releaseStaged_of_other hother])⟩
  case challenge =>
    intro q s₀ h c n k hn hslot hkind hmay
    refine next_serve_ok h ((require_of (decide_eq_true hn)).trans ?_)
    simp only [n] at hslot
    simp only [hslot]
    exact require_of (Bool.and_eq_true_iff.mpr ⟨beq_iff_eq.mpr hkind, hmay⟩)
  case propose =>
    intro q s₀ h kind body plain p t hcheck hnone
    refine next_serve_ok h ?_
    simp only [kind, body, plain] at hcheck
    simp only [hcheck]
    exact require_of (Option.isNone_iff_eq_none.mpr hnone)
  case approve =>
    intro q s₀ h fails p o i key t hopen hi hclear hid hlapse happrover hkey hverify
    have hverified {d : Done} := execApprove_of_verified (fails := fails) (d := d) h rfl hopen hi hclear hid hlapse happrover
      hkey hverify
    refine ⟨fun hfirst => hverified (d := { st := _, status := .needSecondOfficer }) ?first rfl,
      fun hagain => hverified (if_pos (List.contains_iff_mem.mpr hagain)) rfl,
      fun u hsecond hother hcheck happly => hverified (State.approveBy_of_settled hsecond hother hcheck happly) rfl⟩
    case first =>
      simp only [State.approveBy, hfirst]
      rfl
  case cancel =>
    intro q s₀ h p hopen hid
    refine next_serve_ok h ?_
    simp only [hopen]
    exact require_of (beq_iff_eq.mpr hid)

/-- Settles O35: an input by its grade and its enable, a monitor as it trips, a release by what it is of, a proposal by its
time. -/
theorem tamperEventsComplete : Obligations.TamperEventsComplete := by
  refine ⟨?assert, ?trip, ?release, ?lapse⟩
  case assert =>
    intro dt s₀ n t hgrade
    have hwatched : ¬(s₀.elapse dt).sys.fuses.grade ≠ 2 := not_not_intro hgrade
    exact ⟨fun henabled => (next_if_neg hwatched).trans (next_if_pos henabled),
      fun hdisabled => (next_if_neg hwatched).trans (next_if_neg (ne_true_of_eq_false hdisabled))⟩
  case trip => exact fun dt s₀ n => rfl
  case release =>
    intro dt s₀
    exact ⟨fun n => next_if_pos n.isLt, fun n => next_if_neg (Nat.not_lt.mpr (Nat.le_add_left 4 n.val))⟩
  case lapse =>
    intro dt s₀ p hopen hexpired
    show execProposalLapse dt s₀ = _
    simp only [execProposalLapse, hopen]
    exact next_if_pos hexpired

end Sys2Proof.Machine
end

section
/-! Proofs for spec chapter 13, the windows (R439): W0 and W2 stay in canonical form. -/
namespace Sys2Proof.Machine
open Sys2Proof

/-- Every command keeps windows W0 and W2 in canonical form. -/
theorem exec_canon (c : Instr) {s : State} (h : Canon s.mb.w0 s.mb.w2) : Tidy (exec c s) :=
  match c with
  | .sysInfo .. => execSysInfo_canon _ _ h
  | .sysStatus .. => execSysStatus_canon _ _ h
  | .sysReset .. => execSysReset_canon _ _ h
  | .sysResetExecute .. => execSysResetExecute_canon _ _ h
  | .settingsSave .. => execSettingsSave_canon _ _ h
  | .eventRead .. => execEventRead_canon _ _ h
  | .mbConfig .. => execMbConfig_canon _ _ h
  | .mbStatus .. => execMbStatus_canon _ _ h
  | .eventSet .. => execEventSet_canon _ _ h
  | .transportStatus .. => execTransportStatus_canon _ _ h
  | .udpMbSet .. => execUdpMbSet_canon _ _ h
  | .relay .. => execRelay_canon _ _ h
  | .timeGet .. => execTimeGet_canon _ _ h
  | .servoSet .. => execServoSet_canon _ _ h
  | .clockModelSet .. => execClockModelSet_canon _ _ h
  | .timeStep .. => execTimeStep_canon _ _ h
  | .gridSetStart .. => execGridSetStart_canon _ _ h
  | .gridSetChange .. => execGridSetChange_canon _ _ h
  | .gridSetStop .. => execGridSetStop_canon _ _ h
  | .gridGet .. => execGridGet_canon _ _ h
  | .slotArm .. => execSlotArm_canon _ _ h
  | .slotCancel .. => execSlotCancel_canon _ _ h
  | .slotStatus .. => execSlotStatus_canon _ _ h
  | .timecodeSet .. => execTimecodeSet_canon _ _ h
  | .ppsInEdge .. => execPpsInEdge_canon _ _ h
  | .frameRefInEdge .. => execFrameRefInEdge_canon _ _ h
  | .ltcInSyncWord .. => execLtcInSyncWord_canon _ _ _ _ _ _ _ h
  | .sourceLossTimeout .. => execSourceLossTimeout_canon _ _ _ h
  | .holdoverLimitExpiry .. => execHoldoverLimitExpiry_canon _ _ h
  | .ref10mLoss .. => execRef10mLoss_canon _ _ h
  | .ref10mReturn .. => execRef10mReturn_canon _ _ h
  | .tickBoundary .. => execTickBoundary_canon _ _ h
  | .frameBoundary .. => execFrameBoundary_canon _ _ h
  | .presentationInstant .. => execPresentationInstant_canon _ _ h
  | .slotFire .. => execSlotFire_canon _ _ h
  | .ppsOutPulse .. => execPpsOutPulse_canon _ _ h
  | .ltcOutFrame .. => execLtcOutFrame_canon _ _ h
  | .renderStart .. => execRenderStart_canon _ _ h
  | .renderStallTimeout .. => execRenderStallTimeout_canon _ _ h
  | .slipLimitStop .. => execSlipLimitStop_canon _ _ h
  | .descriptorAlloc .. => execDescriptorAlloc_canon _ _ h
  | .taskEntry .. => execTaskEntry_canon _ _ h
  | .taskDispatch .. => execTaskDispatch_canon _ _ _ h
  | .affinityWaitExpiry .. => execAffinityWaitExpiry_canon _ _ _ h
  | .taskEnd .. => execTaskEnd_canon _ _ _ h
  | .taskTrap .. => execTaskTrap_canon _ _ _ h
  | .taskWatchdogExpiry .. => execTaskWatchdogExpiry_canon _ _ _ h
  | .coreMemoryEccError .. => execCoreMemoryEccError_canon _ _ _ _ h
  | .sourceHoldEvent .. => execSourceHoldEvent_canon _ _ _ h
  | .cmuPassComplete .. => execCmuPassComplete_canon _ _ h
  | .kineticPassComplete .. => execKineticPassComplete_canon _ _ h
  | .frameCommit .. => execFrameCommit_canon _ _ h
  | .hedgerowRelease .. => execHedgerowRelease_canon _ _ h
  | .showLoadBegin .. => execShowLoadBegin_canon _ _ h
  | .showLoadBlock .. => execShowLoadBlock_canon _ _ h
  | .showLoadEnd .. => execShowLoadEnd_canon _ _ h
  | .imageChecksComplete .. => execImageChecksComplete_canon _ _ h
  | .blobWaitExpiry .. => execBlobWaitExpiry_canon _ _ h
  | .showActivate .. => execShowActivate_canon _ _ h
  | .showUnloadStaged .. => execShowUnloadStaged_canon _ _ h
  | .showUnloadActive .. => execShowUnloadActive_canon _ _ h
  | .showStatus .. => execShowStatus_canon _ _ h
  | .cueGo .. => execCueGo_canon _ _ h
  | .cueListStatus .. => execCueListStatus_canon _ _ h
  | .tapSet .. => execTapSet_canon _ _ h
  | .tapRead .. => execTapRead_canon _ _ h
  | .houseSet .. => execHouseSet_canon _ _ h
  | .triggerMsg .. => execTriggerMsg_canon _ _ _ _ h
  | .aes67Packet .. => execAes67Packet_canon _ _ _ h
  | .tapWindowClose .. => execTapWindowClose_canon _ _ _ h
  | .houseNAssert .. => execHouseNAssert_canon _ _ h
  | .houseNRelease .. => execHouseNRelease_canon _ _ h
  | .houseAssertApply .. => execHouseAssertApply_canon _ _ h
  | .houseMsg .. => execHouseMsg_canon _ _ _ _ h
  | .schedConfig .. => execSchedConfig_canon _ _ h
  | .schedStatus .. => execSchedStatus_canon _ _ h
  | .schedCounters .. => execSchedCounters_canon _ _ h
  | .schedTaskRead .. => execSchedTaskRead_canon _ _ h
  | .schedCores .. => execSchedCores_canon _ _ h
  | .cmuConfig .. => execCmuConfig_canon _ _ h
  | .cmuStatus .. => execCmuStatus_canon _ _ h
  | .loopResetIntegrators .. => execLoopResetIntegrators_canon _ _ h
  | .loopDisable .. => execLoopDisable_canon _ _ h
  | .loopEnable .. => execLoopEnable_canon _ _ h
  | .loopRead .. => execLoopRead_canon _ _ h
  | .fixtureSolveRead .. => execFixtureSolveRead_canon _ _ h
  | .kineticStopHold .. => execKineticStopHold_canon _ _ h
  | .kineticStopBlackout .. => execKineticStopBlackout_canon _ _ h
  | .kineticStopRelease .. => execKineticStopRelease_canon _ _ h
  | .kineticRead .. => execKineticRead_canon _ _ h
  | .kineticStopStep .. => execKineticStopStep_canon _ _ h
  | .deckScrubRead .. => execDeckScrubRead_canon _ _ h
  | .deckStatus .. => execDeckStatus_canon _ _ h
  | .ingestSet .. => execIngestSet_canon _ _ h
  | .ingestStatus .. => execIngestStatus_canon _ _ h
  | .st2110Packet .. => execSt2110Packet_canon _ _ _ h
  | .rasterSet .. => execRasterSet_canon _ _ h
  | .layerSet .. => execLayerSet_canon _ _ h
  | .rasterCommit .. => execRasterCommit_canon _ _ h
  | .rasterStatus .. => execRasterStatus_canon _ _ h
  | .rasterStart .. => execRasterStart_canon _ _ _ h
  | .rasterLine .. => execRasterLine_canon _ _ _ _ _ h
  | .verticalBlankingStart .. => execVerticalBlankingStart_canon _ _ _ h
  | .codewordTransmit .. => execCodewordTransmit_canon _ _ _ h
  | .idleBlock .. => execIdleBlock_canon _ _ _ _ h
  | .dataBlock .. => execDataBlock_canon _ _ _ _ _ h
  | .creditBlock .. => execCreditBlock_canon _ _ _ _ _ h
  | .ackBlock .. => execAckBlock_canon _ _ _ _ _ h
  | .nakBlock .. => execNakBlock_canon _ _ _ _ _ h
  | .timeBlock .. => execTimeBlock_canon _ _ _ _ _ h
  | .helloBlock .. => execHelloBlock_canon _ _ _ _ _ h
  | .reservedBlock .. => execReservedBlock_canon _ _ _ _ h
  | .creditSendDue .. => execCreditSendDue_canon _ _ _ h
  | .helloDue .. => execHelloDue_canon _ _ _ h
  | .timeBlockDue .. => execTimeBlockDue_canon _ _ _ h
  | .creditStallTimeout .. => execCreditStallTimeout_canon _ _ _ _ h
  | .creditStallLinkDown .. => execCreditStallLinkDown_canon _ _ _ _ h
  | .ackTimeout .. => execAckTimeout_canon _ _ _ h
  | .fecFailTimeout .. => execFecFailTimeout_canon _ _ _ h
  | .latchMsg .. => execLatchMsg_canon _ _ _ _ h
  | .reportMsg .. => execReportMsg_canon _ _ _ _ h
  | .latchIssue .. => execLatchIssue_canon _ _ h
  | .latchRepeat .. => execLatchRepeat_canon _ _ h
  | .memberMsg .. => execMemberMsg_canon _ _ _ _ h
  | .memberFlood .. => execMemberFlood_canon _ _ h
  | .memberTimeout .. => execMemberTimeout_canon _ _ h
  | .partitionWaitExpiry .. => execPartitionWaitExpiry_canon _ _ h
  | .mergeMsg .. => execMergeMsg_canon _ _ _ _ h
  | .linkEventMsg .. => execLinkEventMsg_canon _ _ _ _ h
  | .routeAgeExpiry .. => execRouteAgeExpiry_canon _ _ h
  | .updateMsg .. => execUpdateMsg_canon _ _ _ _ h
  | .returnMsg .. => execReturnMsg_canon _ _ _ _ h
  | .pathProbeDue .. => execPathProbeDue_canon _ _ h
  | .pathProbeMsg .. => execPathProbeMsg_canon _ _ _ _ _ h
  | .pathEchoMsg .. => execPathEchoMsg_canon _ _ _ _ h
  | .rasterFrameMsg .. => execRasterFrameMsg_canon _ _ _ _ h
  | .rasterLineMsg .. => execRasterLineMsg_canon _ _ _ _ h
  | .trestleSet .. => execTrestleSet_canon _ _ h
  | .trestleStatus .. => execTrestleStatus_canon _ _ h
  | .memberRead .. => execMemberRead_canon _ _ h
  | .routeRead .. => execRouteRead_canon _ _ h
  | .linkSet .. => execLinkSet_canon _ _ h
  | .linkCounters .. => execLinkCounters_canon _ _ h
  | .destStatus .. => execDestStatus_canon _ _ h
  | .laneLos .. => execLaneLos_canon _ _ _ _ h
  | .laneLosClear .. => execLaneLosClear_canon _ _ _ _ h
  | .laneLol .. => execLaneLol_canon _ _ _ _ h
  | .trainingAttemptStart .. => execTrainingAttemptStart_canon _ _ _ h
  | .trainingFrameRx .. => execTrainingFrameRx_canon _ _ _ _ h
  | .trainingStepWindowEnd .. => execTrainingStepWindowEnd_canon _ _ _ _ h
  | .trainingTimeout .. => execTrainingTimeout_canon _ _ _ h
  | .quietPeriodEnd .. => execQuietPeriodEnd_canon _ _ _ h
  | .trainingRetryTimer .. => execTrainingRetryTimer_canon _ _ _ h
  | .calibrationNeeded .. => execCalibrationNeeded_canon _ _ _ _ _ h
  | .rotationTimer .. => execRotationTimer_canon _ _ _ h
  | .spareSweepEnd .. => execSpareSweepEnd_canon _ _ _ _ h
  | .duplicateCompareEnd .. => execDuplicateCompareEnd_canon _ _ _ _ h
  | .laneSwapCodeword .. => execLaneSwapCodeword_canon _ _ _ h
  | .calGapStart .. => execCalGapStart_canon _ _ _ _ _ h
  | .calGapLockTimeout .. => execCalGapLockTimeout_canon _ _ _ h
  | .calGapDeferral .. => execCalGapDeferral_canon _ _ _ h
  | .laneCtlSpareOn .. => execLaneCtlSpareOn_canon _ _ _ _ h
  | .laneCtlDuplicate .. => execLaneCtlDuplicate_canon _ _ _ _ h
  | .laneCtlRelease .. => execLaneCtlRelease_canon _ _ _ _ h
  | .laneCtlSpareIdle .. => execLaneCtlSpareIdle_canon _ _ _ _ h
  | .laneCtlLaneFault .. => execLaneCtlLaneFault_canon _ _ _ _ h
  | .laneCtlCalGap .. => execLaneCtlCalGap_canon _ _ _ _ h
  | .laneCtlSleep .. => execLaneCtlSleep_canon _ _ _ _ h
  | .laneCtlAck .. => execLaneCtlAck_canon _ _ _ _ h
  | .laneCtlNak .. => execLaneCtlNak_canon _ _ _ _ h
  | .laneCtlAnswerTimeout .. => execLaneCtlAnswerTimeout_canon _ _ _ h
  | .sleepWake .. => execSleepWake_canon _ _ _ h
  | .wakeDriftTimeout .. => execWakeDriftTimeout_canon _ _ _ h
  | .spanHealthDownTimeout .. => execSpanHealthDownTimeout_canon _ _ _ h
  | .spanHealthRecover .. => execSpanHealthRecover_canon _ _ _ h
  | .spanSet .. => execSpanSet_canon _ _ h
  | .spanStatus .. => execSpanStatus_canon _ _ h
  | .laneStatus .. => execLaneStatus_canon _ _ h
  | .spanTrain .. => execSpanTrain_canon _ _ h
  | .spanCal .. => execSpanCal_canon _ _ h
  | .prbsSet .. => execPrbsSet_canon _ _ h
  | .prbsRead .. => execPrbsRead_canon _ _ _ h
  | .errorInject .. => execErrorInject_canon _ _ h
  | .bitSlip .. => execBitSlip_canon _ _ h
  | .laneTapsSet .. => execLaneTapsSet_canon _ _ h
  | .spanSleep .. => execSpanSleep_canon _ _ h
  | .portSet .. => execPortSet_canon _ _ h
  | .portStatus .. => execPortStatus_canon _ _ h
  | .inputSet .. => execInputSet_canon _ _ h
  | .inputRead .. => execInputRead_canon _ _ h
  | .sacnSet .. => execSacnSet_canon _ _ h
  | .sacnStatus .. => execSacnStatus_canon _ _ h
  | .rdmDiscover .. => execRdmDiscover_canon _ _ h
  | .rdmUidRead .. => execRdmUidRead_canon _ _ h
  | .rdmRequest .. => execRdmRequest_canon _ _ h
  | .rdmResultRead .. => execRdmResultRead_canon _ _ h
  | .dmxPacketStart .. => execDmxPacketStart_canon _ _ _ h
  | .rdmTransactionStart .. => execRdmTransactionStart_canon _ _ _ h
  | .rdmResponse .. => execRdmResponse_canon _ _ _ _ h
  | .rdmResponseTimeout .. => execRdmResponseTimeout_canon _ _ _ h
  | .rdmDiscoveryTimer .. => execRdmDiscoveryTimer_canon _ _ _ h
  | .rdmSensorPoll .. => execRdmSensorPoll_canon _ _ _ h
  | .dmxInputPacket .. => execDmxInputPacket_canon _ _ _ _ h
  | .inputLossTimeout .. => execInputLossTimeout_canon _ _ _ h
  | .sacnDataPacket .. => execSacnDataPacket_canon _ _ _ h
  | .sacnSourceLoss .. => execSacnSourceLoss_canon _ _ _ _ h
  | .pixelStringSend .. => execPixelStringSend_canon _ _ _ h
  | .clockedStringSend .. => execClockedStringSend_canon _ _ _ h
  | .pwmSubslotStart .. => execPwmSubslotStart_canon _ _ _ h
  | .sacnDataSend .. => execSacnDataSend_canon _ _ _ h
  | .sacnSyncSend .. => execSacnSyncSend_canon _ _ _ h
  | .sacnDiscoverySend .. => execSacnDiscoverySend_canon _ _ _ h
  | .ethFrameRx .. => execEthFrameRx_canon _ _ _ h
  | .ethFrameTx .. => execEthFrameTx_canon _ _ _ h
  | .pauseRx .. => execPauseRx_canon _ _ _ _ h
  | .pauseHoldEnd .. => execPauseHoldEnd_canon _ _ _ h
  | .pauseLongTimeout .. => execPauseLongTimeout_canon _ _ _ h
  | .pauseRefresh .. => execPauseRefresh_canon _ _ _ h
  | .preemptVerifyTimeout .. => execPreemptVerifyTimeout_canon _ _ _ h
  | .ethLinkChange .. => execEthLinkChange_canon _ _ _ _ _ h
  | .hostRxPlace .. => execHostRxPlace_canon _ _ _ _ h
  | .hostTxFrame .. => execHostTxFrame_canon _ _ _ _ h
  | .ptpSync .. => execPtpSync_canon _ _ _ h
  | .ptpFollowUp .. => execPtpFollowUp_canon _ _ _ h
  | .ptpAnnounce .. => execPtpAnnounce_canon _ _ _ _ h
  | .ptpDelayReq .. => execPtpDelayReq_canon _ _ _ h
  | .ptpDelayResp .. => execPtpDelayResp_canon _ _ _ h
  | .ptpPdelayReq .. => execPtpPdelayReq_canon _ _ _ h
  | .ptpPdelayResp .. => execPtpPdelayResp_canon _ _ _ _ h
  | .ptpMessageDue .. => execPtpMessageDue_canon _ _ _ _ h
  | .ptpAnnounceTimeout .. => execPtpAnnounceTimeout_canon _ _ _ h
  | .igmpQuery .. => execIgmpQuery_canon _ _ _ h
  | .arpRequest .. => execArpRequest_canon _ _ _ _ _ _ h
  | .streamLossTimeout .. => execStreamLossTimeout_canon _ _ _ _ h
  | .ethSet .. => execEthSet_canon _ _ h
  | .ethStatus .. => execEthStatus_canon _ _ h
  | .queueSet .. => execQueueSet_canon _ _ h
  | .queueStatus .. => execQueueStatus_canon _ _ h
  | .hostchSet .. => execHostchSet_canon _ _ h
  | .hostchStatus .. => execHostchStatus_canon _ _ h
  | .txtsRead .. => execTxtsRead_canon _ _ h
  | .ptpSet .. => execPtpSet_canon _ _ h
  | .ptpStatus .. => execPtpStatus_canon _ _ h
  | .streamSet .. => execStreamSet_canon _ _ h
  | .streamStatus .. => execStreamStatus_canon _ _ h
  | .dmaCompletion .. => execDmaCompletion_canon _ _ _ _ _ h
  | .dmaCompletionTimeout .. => execDmaCompletionTimeout_canon _ _ _ _ h
  | .pcieEndpointReset .. => execPcieEndpointReset_canon _ _ _ h
  | .beaconBuild .. => execBeaconBuild_canon _ _ _ h
  | .beaconStb .. => execBeaconStb_canon _ _ _ h
  | .radioSlotGrant .. => execRadioSlotGrant_canon _ _ _ h
  | .assocRequest .. => execAssocRequest_canon _ _ _ _ _ h
  | .disassocNotify .. => execDisassocNotify_canon _ _ _ _ h
  | .dataRequest .. => execDataRequest_canon _ _ _ _ _ h
  | .radioDataFrame .. => execRadioDataFrame_canon _ _ _ _ h
  | .privetFrame .. => execPrivetFrame_canon _ _ _ _ h
  | .radioAck .. => execRadioAck_canon _ _ _ _ h
  | .ackWaitExpiry .. => execAckWaitExpiry_canon _ _ _ h
  | .indirectPersistExpiry .. => execIndirectPersistExpiry_canon _ _ _ h
  | .parentBeacon .. => execParentBeacon_canon _ _ _ _ _ h
  | .coordRealignment .. => execCoordRealignment_canon _ _ _ h
  | .parentBeaconMiss .. => execParentBeaconMiss_canon _ _ _ h
  | .xcvrIdentify .. => execXcvrIdentify_canon _ _ _ _ h
  | .xcvrRetry .. => execXcvrRetry_canon _ _ _ _ h
  | .radioSet .. => execRadioSet_canon _ _ h
  | .radioStatus .. => execRadioStatus_canon _ _ h
  | .nodeRead .. => execNodeRead_canon _ _ h
  | .nodeDisassociate .. => execNodeDisassociate_canon _ _ h
  | .nodeAllow .. => execNodeAllow_canon _ _ h
  | .nodeDisallow .. => execNodeDisallow_canon _ _ h
  | .privetSet .. => execPrivetSet_canon _ _ h
  | .radioSend .. => execRadioSend_canon _ _ h
  | .radioRecv .. => execRadioRecv_canon _ _ h
  | .radioXcvrRead .. => execRadioXcvrRead_canon _ _ h
  | .heartbeatSend .. => execHeartbeatSend_canon _ _ h
  | .pierHeartbeatMsg .. => execPierHeartbeatMsg_canon _ _ _ _ h
  | .partnerSilence .. => execPartnerSilence_canon _ _ h
  | .trestleWitnessLoss .. => execTrestleWitnessLoss_canon _ _ h
  | .pierActInFall .. => execPierActInFall_canon _ _ h
  | .pierActInRise .. => execPierActInRise_canon _ _ h
  | .holdCircuitExpiry .. => execHoldCircuitExpiry_canon _ _ h
  | .pierReleaseMsg .. => execPierReleaseMsg_canon _ _ _ _ h
  | .pierClaimMsg .. => execPierClaimMsg_canon _ _ _ _ h
  | .pierDigestMsg .. => execPierDigestMsg_canon _ _ _ _ h
  | .sealSend .. => execSealSend_canon _ _ h
  | .pierSealMsg .. => execPierSealMsg_canon _ _ _ _ h
  | .sealMissingAtCutoff .. => execSealMissingAtCutoff_canon _ _ h
  | .revertRequest .. => execRevertRequest_canon _ _ h
  | .pierRevertMsg .. => execPierRevertMsg_canon _ _ _ _ h
  | .handoverAtCutoff .. => execHandoverAtCutoff_canon _ _ h
  | .pierResyncMsg .. => execPierResyncMsg_canon _ _ _ _ h
  | .partnerWaitExpiry .. => execPartnerWaitExpiry_canon _ _ h
  | .pierSet .. => execPierSet_canon _ _ h
  | .pierStatus .. => execPierStatus_canon _ _ h
  | .pierControlHandover .. => execPierControlHandover_canon _ _ h
  | .pierControlResync .. => execPierControlResync_canon _ _ h
  | .pierControlRevertHold .. => execPierControlRevertHold_canon _ _ h
  | .pierControlRevertAllow .. => execPierControlRevertAllow_canon _ _ h
  | .pierCounters .. => execPierCounters_canon _ _ h
  | .tamperInputAssert .. => execTamperInputAssert_canon _ _ _ h
  | .tamperMonitorTrip .. => execTamperMonitorTrip_canon _ _ _ h
  | .proposalLapse .. => execProposalLapse_canon _ _ h
  | .boxStatus .. => execBoxStatus_canon _ _ h
  | .slotInfo .. => execSlotInfo_canon _ _ h
  | .keyLoad .. => execKeyLoad_canon _ _ h
  | .wkStatus .. => execWkStatus_canon _ _ h
  | .challenge .. => execChallenge_canon _ _ h
  | .propose .. => execPropose_canon _ _ h
  | .approve .. => execApprove_canon _ _ _ h
  | .proposalCancel .. => execProposalCancel_canon _ _ h
  | .officerRead .. => execOfficerRead_canon _ _ h
  | .identityRead .. => execIdentityRead_canon _ _ h
  | .reqTailWrite .. => execReqTailWrite_canon _ _ _ _ h
  | .requestTakeUp .. => execRequestTakeUp_canon _ _ h
  | .messageWaitTimeout .. => execMessageWaitTimeout_canon _ _ _ h
  | .responseWrite .. => execResponseWrite_canon _ _ _ h
  | .rspHeadWrite .. => execRspHeadWrite_canon _ _ _ _ h
  | .rspStallTimeout .. => execRspStallTimeout_canon _ _ _ h
  | .evtHeadWrite .. => execEvtHeadWrite_canon _ _ _ h
  | .hcRxTailWrite .. => execHcRxTailWrite_canon _ _ _ _ h
  | .hcTxTailWrite .. => execHcTxTailWrite_canon _ _ _ _ h
  | .w0OtherWrite .. => execW0OtherWrite_canon _ _ _ _ _ h
  | .irqModerationTimer .. => execIrqModerationTimer_canon _ _ h
  | .spiWrite .. => execSpiWrite_canon _ _ _ _ _ h
  | .spiRead .. => execSpiRead_canon _ _ _ _ _ h
  | .spiQwrite .. => execSpiQwrite_canon _ _ _ _ _ h
  | .spiQread .. => execSpiQread_canon _ _ _ _ _ h
  | .spiStatus .. => execSpiStatus_canon _ _ h
  | .spiUnknownInstruction .. => execSpiUnknownInstruction_canon _ _ _ h
  | .spiIdleTimeout .. => execSpiIdleTimeout_canon _ _ _ h
  | .udpMailboxDatagram .. => execUdpMailboxDatagram_canon _ _ _ h
  | .mgmtMsg .. => execMgmtMsg_canon _ _ _ _ h
  | .relayWaitExpiry .. => execRelayWaitExpiry_canon _ _ h
  | .bulkMsg .. => execBulkMsg_canon _ _ _ _ h
  | .bulkAckTimeout .. => execBulkAckTimeout_canon _ _ h
  | .diagEcho .. => execDiagEcho_canon _ _ h
  | .diagPinRead .. => execDiagPinRead_canon _ _ h
  | .diagSelftest .. => execDiagSelftest_canon _ _ h
  | .selftestComplete .. => execSelftestComplete_canon _ _ _ _ _ h
  | .diagEventRaise .. => execDiagEventRaise_canon _ _ h
  | .faultInjectDeckSingle .. => execFaultInjectDeckSingle_canon _ _ h
  | .faultInjectDeckDouble .. => execFaultInjectDeckDouble_canon _ _ h
  | .faultInjectCore .. => execFaultInjectCore_canon _ _ h
  | .faultInjectDigest .. => execFaultInjectDigest_canon _ _ h
  | .faultInjectCheck .. => execFaultInjectCheck_canon _ _ h
  | .faultInjectFlowTrap .. => execFaultInjectFlowTrap_canon _ _ h
  | .vinRise .. => execVinRise_canon _ _ _ h
  | .vinLowWarning .. => execVinLowWarning_canon _ _ _ h
  | .vinShutdown .. => execVinShutdown_canon _ _ _ h
  | .vbatOutOfRange .. => execVbatOutOfRange_canon _ _ _ h
  | .vbatReturn .. => execVbatReturn_canon _ _ _ h
  | .vddioRise .. => execVddioRise_canon _ _ _ _ h
  | .vddioFall .. => execVddioFall_canon _ _ _ h
  | .resetNAssert .. => execResetNAssert_canon _ _ h
  | .resetNRelease .. => execResetNRelease_canon _ _ h
  | .bootReady .. => execBootReady_canon _ _ _ h
  | .bootWatchdogExpiry .. => execBootWatchdogExpiry_canon _ _ _ h
  | .scheduledWake .. => execScheduledWake_canon _ _ h
  | .thermalEvaluation .. => execThermalEvaluation_canon _ _ _ h
  | .throttleStepDown .. => execThrottleStepDown_canon _ _ h
  | .throttleStepUp .. => execThrottleStepUp_canon _ _ h
  | .orderlyPowerDown .. => execOrderlyPowerDown_canon _ _ h
  | .hardwareThermalTrip .. => execHardwareThermalTrip_canon _ _ _ h
  | .thermalRestart .. => execThermalRestart_canon _ _ _ h
  | .powerStatus .. => execPowerStatus_canon _ _ h
  | .powerModeRun .. => execPowerModeRun_canon _ _ h
  | .powerModeStandby .. => execPowerModeStandby_canon _ _ h
  | .thermalStatus .. => execThermalStatus_canon _ _ h
  | .thermalSet .. => execThermalSet_canon _ _ h
  | .wakeScheduleSet .. => execWakeScheduleSet_canon _ _ h
  | .updateBegin .. => execUpdateBegin_canon _ _ h
  | .updateBlock .. => execUpdateBlock_canon _ _ h
  | .flashProgramComplete .. => execFlashProgramComplete_canon _ _ h
  | .updateIdleTimeout .. => execUpdateIdleTimeout_canon _ _ h
  | .updateEnd .. => execUpdateEnd_canon _ _ h
  | .updateCheckComplete .. => execUpdateCheckComplete_canon _ _ _ h
  | .updateStatus .. => execUpdateStatus_canon _ _ h
  | .updateActivate .. => execUpdateActivate_canon _ _ h
  | .bootRecordWriteComplete .. => execBootRecordWriteComplete_canon _ _ h
  | .updateAbort .. => execUpdateAbort_canon _ _ h
  | .codewordUncorrectable .. => execCodewordUncorrectable_canon _ _ _ h
  | .perstNRelease .. => execPerstNRelease_canon _ _ _ _ h
  | .tamperInputRelease .. => execTamperInputRelease_canon _ _ _ h
  | .vinRangeReturn .. => execVinRangeReturn_canon _ _ _ h

/-- A step keeps the canonical form: an empty queue leaves the state, and taking a command from the queue leaves the windows. -/
theorem step_canon {s : State} (h : Canon s.mb.w0 s.mb.w2) : Tidy (step s) := by
  unfold step
  split
  · exact tidy_next h
  · exact exec_canon _ h

/-- Settles O47: every step keeps the canonical form. -/
theorem windowsStayCanonical : Obligations.WindowsStayCanonical := fun _ t hcanon hstep => step_canon hcanon t hstep

/-- Settles O48: the reset state lists nothing in W0 and W2, boots, and has no command waiting. That it does, and what an empty
queue and unwritten memory are, is the model's choice (log entries 1, 3 and 39). -/
theorem resetWindowsCanonical : Obligations.ResetWindowsCanonical := ⟨canon_nil, rfl, rfl⟩

end Sys2Proof.Machine
end

section
/-! Proofs for spec chapter 13, the memory of W2 and the event ring (R439, R462 to R466, R480). -/
namespace Sys2Proof.Machine
open Sys2Proof

/-! ### Window W2 (R439) -/

/-- A host write that lies within W2 writes all its bytes. -/
theorem State.w2Bytes_of_within {s : State} {a : Nat} {b : List U8} (h : a + b.length ≤ 0x400000) :
    s.w2Bytes a b = { s with mb.w2 := s.mb.w2.writes 0 a b } := by
  unfold State.w2Bytes
  by_cases hbelow : a < 0x400000
  · rw [if_pos hbelow, List.take_of_length_le (by omega)]
  · have hempty : b = [] := List.eq_nil_of_length_eq_zero (by omega)
    rw [if_neg hbelow, hempty]
    rfl

/-- Settles O53: a write within W2 writes its bytes at consecutive addresses of the window, in canonical form. -/
theorem hostWindowWriteReadsBack : Obligations.HostWindowWriteReadsBack := fun _ s₀ addr data hcanon hwithin =>
  ⟨s₀.mb.w2.writes 0 addr data, congrArg Host.Outcome.next (State.w2Bytes_of_within hwithin), Tab.wf_writes _ _ _ hcanon,
    fun a => Tab.get_writes _ _ a _ hcanon⟩

/-! ### Raising an event (R462, R463) -/

/-- Settles O54: an event is left out by MASK, written where the ring has room, else counted lost; with no record of its count
cycle in the ring it is the newest. -/
theorem eventsAreWrittenOrLost : Obligations.EventsAreWrittenOrLost := by
  intro s e data hready v t j
  refine ⟨rfl, raise_masked hready, fun henabled hroom => ?written, raise_lost hready⟩
  obtain ⟨hunread, htail, hseq, hpend, hlost⟩ := raise_written (data := data) hready henabled hroom
  exact ⟨hunread, htail, hseq, hpend, hlost, after_cycle⟩

/-! ### EVT_HEAD (R462, R466) -/

@[simp] theorem State.msix_ev (s : State) (v : Nat) : (s.msix v).mb.ev = s.mb.ev := by
  unfold State.msix
  split <;> rfl

theorem State.signalEvents_head (s : State) : s.signalEvents.mb.ev.head = s.mb.ev.head := by
  unfold State.signalEvents
  extract_lets
  split
  · rw [State.msix_ev]
  · rfl

/-- Writing an event leaves EVT_HEAD. -/
theorem State.writeEvent_head (s : State) (e : Nat) (data : List U8) : (s.writeEvent e data).mb.ev.head = s.mb.ev.head := by
  have hsignalled (b : Bool) (t : State) : (if b = true then t.signalEvents else t).mb.ev.head = t.mb.ev.head := by
    split
    · exact State.signalEvents_head t
    · rfl
  unfold State.writeEvent
  dsimp only
  split
  · rfl
  · split
    · rfl
    · refine (hsignalled _ _).trans ?_
      rw [storeRecords_ev fun x : (Nat × List U8) × Nat =>
        (s.mb.ev.tail - BitVec.ofNat 16 (s.mb.ev.after (s.now / 4) e) + BitVec.ofNat 16 x.2, x.1.2)]

/-- EVT_HEAD stands as the host wrote it. -/
theorem State.evtHead_head (s : State) (v : U16) : (s.evtHead v).mb.ev.head = v := by
  have hwritten (l : List (Nat × List U8)) (t : State) :
      (l.foldl (fun (s : State) x => s.writeEvent x.1 x.2) t).mb.ev.head = t.mb.ev.head := by
    induction l generalizing t with
    | nil => rfl
    | cons x l ih => exact (ih _).trans (State.writeEvent_head _ _ _)
  unfold State.evtHead
  extract_lets
  split
  · exact hwritten _ _
  · rfl

/-- With no event refused in this count cycle a write of EVT_HEAD frees records and does no more (R466). -/
theorem State.evtHead_of_none_refused {s : State} {n : Nat} (hn : n < 2 ^ 16)
    (h : s.mb.ev.refused = [] ∨ s.mb.ev.refusedAt ≠ s.now / 4) :
    s.evtHead (s.mb.ev.head + BitVec.ofNat 16 n) =
      { s with mb.ev := { s.mb.ev with head := s.mb.ev.head + BitVec.ofNat 16 n, unread := s.mb.ev.unread.drop n } } := by
  have hnone : ¬(s.mb.ev.refused ≠ [] ∧ s.mb.ev.refusedAt = s.now / 4) := fun ⟨hrefused, hcycle⟩ =>
    h.elim hrefused fun hother => hother hcycle
  have hfreed : (s.mb.ev.head + BitVec.ofNat 16 n - s.mb.ev.head).toNat = n := by
    rw [BitVec.add_comm, BitVec.add_sub_cancel, BitVec.toNat_ofNat, Nat.mod_eq_of_lt hn]
  refine (if_neg hnone).trans ?_
  rw [hfreed]

/-! ### EVENT_READ (R480) -/

/-- EVENT_READ of 1 to 64 records from the ring in W0 returns the oldest unread ones and frees them. -/
theorem execEventRead_of_w0 {q : Req} {s₀ s : State} (h : Takes opEventRead 1 q s₀) (hs : s₀.elapse q.dt = s)
    (hmin : 1 ≤ (p8 q.payload 0).toNat) (hmax : (p8 q.payload 0).toNat ≤ 64) (hw0 : s.mb.ev.cfg.ringHost = false) :
    let l := s.mb.ev.unread.take (p8 q.payload 0).toNat
    let t := s.evtHead (s.mb.ev.head + BitVec.ofNat 16 l.length)
    exec (.eventRead q) s₀ = .next (t.ok q opEventRead
      (pack 8 [fN 0 2 l.length, fN 2 2 t.mb.ev.unread.length, f32 4 t.mb.ev.lost] ++ l.flatMap (·.2))) := by
  subst hs
  exact next_serve_ok h ((require_of (inRange_of hmin hmax)).trans (require_not hw0))

/-- Settles O51: a ring in host memory is not read; one in W0 gives its oldest records and frees as many. -/
theorem eventReadTakesTheOldest : Obligations.EventReadTakesTheOldest := by
  intro q s₀ h n v l t hmin hmax
  have hlength : l.length ≤ n := List.length_take_le _ _
  refine ⟨fun hhost => ?host, execEventRead_of_w0 h rfl hmin hmax, State.evtHead_head _ _, fun hnone => ?freed⟩
  case host =>
    refine next_serve_error h ((require_of (inRange_of hmin hmax)).trans ?_)
    exact if_neg (by rw [hhost]; exact Bool.false_ne_true)
  case freed => exact State.evtHead_of_none_refused (by omega) hnone

end Sys2Proof.Machine
end

section
/-! Proofs for spec chapter 13, completion (R439 to R467, R480): rings, DMA and the endpoint, SPI, datagrams, relays, BULK
messages, and the transport commands. -/
namespace Sys2Proof.Machine
open Sys2Proof

/-! ### Responses (R445) -/

section
variable {s : State} {c : Fin 8} {r : Rsp}

/-- A response whose ring has room is written, and the host signalled. -/
theorem State.ringResponse_of_room (hroom : s.mb.ch[c].room r = true) :
    let t := (s.writeUnits c s.mb.ch[c].rspTail (s.signed c r).2).modCh c fun ch =>
      { ch with rspTail := ch.rspTail + BitVec.ofNat 16 r.units }
    s.ringResponse c r =
      State.responseDone (if s.mb.ch[c].rspIrq && !t.mb.spi then t.msix s.mb.ch[c].vector.toNat else t) c r :=
  if_pos hroom

/-- A response whose ring is full makes its channel wait. -/
theorem State.ringResponse_of_full (hfull : s.mb.ch[c].room r = false) :
    s.ringResponse c r = s.modCh c fun ch => { ch with st := 2, stall := some (ch.stall.getD s.now) } :=
  if_neg (ne_true_of_eq_false hfull)

/-- The response of a channel: discarded after an endpoint reset, else written to its ring or sent back on its way. -/
theorem execResponseWrite_of_waiting {dt : Nat} {s₀ : State} (hs : s₀.elapse dt = s) (hresponse : s.mb.ch[c].rsp = some r) :
    (s.mb.ch[c].discard = true → exec (.responseWrite dt c) s₀ = .next (s.responseDone c r)) ∧
    (s.mb.ch[c].discard = false → r.via = .ring → exec (.responseWrite dt c) s₀ = .next (s.ringResponse c r)) ∧
    (s.mb.ch[c].discard = false → r.via ≠ .ring → exec (.responseWrite dt c) s₀ =
      .next (State.responseDone (((s.signed c r).1.modCh c fun ch => { ch with cached := some (s.signed c r).2 }).sendBack r.via
        (s.signed c r).2) c r)) := by
  subst hs
  show (_ → execResponseWrite dt c s₀ = _) ∧ (_ → _ → execResponseWrite dt c s₀ = _) ∧ (_ → _ → execResponseWrite dt c s₀ = _)
  simp only [execResponseWrite, hresponse]
  exact ⟨fun hdiscard => next_if_pos hdiscard,
    fun hkept hring => (next_if_neg (ne_true_of_eq_false hkept)).trans (next_if_pos hring),
    fun hkept haway => (next_if_neg (ne_true_of_eq_false hkept)).trans (next_if_neg haway)⟩

end

/-! ### The statements of completion -/

/-- Settles O36: a write of a pointer or of a window by its address, a wait by its time, a response by its way and its room, a
transfer by its status, a reset by its cause. -/
theorem transportEventsComplete : Obligations.TransportEventsComplete := by
  refine ⟨?pointers, ?takeUp, ?messageWait, ?response, ?stall, ?windows, ?moderation, ?dma, ?reset, ?release⟩
  case pointers => exact fun dt s₀ => ⟨fun _ _ => rfl, fun _ _ => rfl, fun _ => rfl, fun _ _ => rfl, fun _ _ => rfl⟩
  case takeUp => exact fun dt s₀ hready => next_if_pos hready
  case messageWait =>
    intro dt s₀ c f t hwaits hfront hexpired
    show execMessageWaitTimeout dt c s₀ = _
    simp only [execMessageWaitTimeout, hwaits, hfront]
    exact next_if_pos hexpired
  case response =>
    intro dt s₀ c r ch b t hresponse
    obtain ⟨hdiscarded, hring, haway⟩ := execResponseWrite_of_waiting rfl hresponse
    exact ⟨hdiscarded,
      fun hkept hvia hroom => (hring hkept hvia).trans (congrArg Host.Outcome.next (State.ringResponse_of_room hroom)),
      fun hkept hvia hfull => (hring hkept hvia).trans (congrArg Host.Outcome.next (State.ringResponse_of_full hfull)), haway⟩
  case stall =>
    intro dt s₀ c t ch hstall hexpired hnew
    show execRspStallTimeout dt c s₀ = _
    simp only [ch] at hstall hexpired hnew
    simp only [execRspStallTimeout, hstall]
    exact next_if_pos ⟨hexpired, hnew⟩
  case windows => exact fun dt s₀ addr data => ⟨rfl, rfl⟩
  case moderation => exact fun dt s₀ => rfl
  case dma =>
    exact fun dt s₀ user addr =>
      ⟨rfl, fun hactive => next_if_pos hactive, fun hoverdue => next_if_pos hoverdue⟩
  case reset => exact fun dt s₀ => ⟨rfl, rfl, rfl⟩
  case release => exact fun dt s₀ width gen => rfl

/-- R457, R495, R503: whether the engine serves a datagram of the mailbox. -/
theorem datagramServed_of {s : State} {d : Datagram}
    (h : s.mb.engine = 1 ∧ d.eth = 0 ∧ p8 d.data 7 = 6 ∨
      s.mb.engine = 2 ∧ (s.pwr.mode ≠ .standby ∨ s.pwr.keepEth.getLsbD d.eth.val = true)) :
    (if s.mb.engine = 1 then d.eth == 0 && p8 d.data 7 == 6
      else s.mb.engine == 2 && (s.pwr.mode != .standby || s.pwr.keepEth.getLsbD d.eth.val)) = true := by
  obtain ⟨hengine, heth, hchannel⟩ | ⟨hengine, hport⟩ := h
  · rw [if_pos hengine, heth, hchannel]
    rfl
  · rw [if_neg (by rw [hengine]; decide), hengine]
    simpa using hport

/-- Settles O37: a transaction by its instruction, a datagram by whether the engine serves it and whether it is whole, a message
by what it carries, a wait by its time. -/
theorem serialAndRelayComplete : Obligations.SerialAndRelayComplete := by
  refine ⟨?spi, ?spiOther, ?datagram, ?mgmt, ?relayWait, ?bulk, ?bulkTimeout⟩
  case spi => exact fun dt s₀ addr data n part => ⟨rfl, rfl, rfl, rfl⟩
  case spiOther =>
    intro dt s₀ hspi
    exact ⟨next_if_pos hspi, fun ins hunknown => next_if_pos (Bool.and_eq_true_iff.mpr ⟨hspi, by rw [hunknown]; rfl⟩),
      fun idle hidle hexpired => next_if_pos ⟨hspi, hidle, hexpired⟩⟩
  case datagram =>
    intro dt s₀ d t hserved hport
    have htaken := Bool.and_eq_true_iff.mpr ⟨datagramServed_of hserved, hport⟩
    exact ⟨fun hfragment => (next_if_pos htaken).trans (next_if_pos hfragment),
      fun hwhole => (next_if_pos htaken).trans (next_if_neg (ne_true_of_eq_false hwhole))⟩
  case mgmt =>
    intro dt span m s₀ haccepted
    exact ⟨fun hreply => next_consume_of_accepted haccepted (if_pos hreply), fun hrequest hready =>
      next_consume_of_accepted haccepted ((if_neg (ne_true_of_eq_false hrequest)).trans (if_pos hready))⟩
  case relayWait =>
    intro dt s₀ r hrelay hexpired
    show execRelayWaitExpiry dt s₀ = _
    simp only [execRelayWaitExpiry, hrelay]
    exact next_if_pos hexpired
  case bulk =>
    intro dt span m s₀ haccepted
    exact ⟨fun hack => next_consume_of_accepted haccepted (if_pos hack),
      fun hdata => next_consume_of_accepted haccepted (if_neg hdata)⟩
  case bulkTimeout => exact fun dt s₀ => rfl

/-- A message that a body sends on waits for its reply. -/
theorem next_serve_wait {op need : Nat} {q : Req} {s t : State} {body : State → Except Status Done} (h : Takes op need q s)
    (e : body (s.elapse q.dt) = .ok { st := t, wait := true }) :
    (.next (serve op need q s body) : Host.Outcome State Fault Refusal) = .next (t.waitOn q.ch) := by
  rw [serve_takes body h, e]
  rfl

/-- Settles O38: each body's requirements are the conditions of its clause; RELAY by whether it carries bulk data. -/
theorem transportCommandsComplete : Obligations.TransportCommandsComplete := by
  refine ⟨?mbConfig, ?mbStatus, ?eventSet, ?transportStatus, ?udpMbSet, ?eventRead, ?relay⟩
  case mbConfig =>
    intro q s₀ h p carrier hchannel hvector hmin hmax hleft
    have hcarried : (BitVec.ofNat 8 (pbits p 1 0 2) == carrier ||
        (List.finRange 8).any fun x => x.val != (p8 p 0).toNat && (s₀.elapse q.dt).mb.ch[x].bind == carrier) = true := by
      simpa [List.any_eq_true] using hleft
    have hallowed := Bool.and_eq_true_iff.mpr ⟨Bool.and_eq_true_iff.mpr ⟨Bool.and_eq_true_iff.mpr
      ⟨decide_eq_true hchannel, decide_eq_true hvector⟩, inRange_of hmin hmax⟩, hcarried⟩
    exact next_serve_done (d := { st := _, post := some _ }) h (require_of hallowed) rfl
  case mbStatus =>
    intro q s₀ h x c hx
    have hlt : (p8 q.payload 0).toNat < 8 := hx ▸ x.isLt
    have hindex : x = ⟨(p8 q.payload 0).toNat, hlt⟩ := Fin.ext hx.symm
    simp only [c, hindex]
    exact next_serve_ok h (dif_pos hlt)
  case eventSet =>
    intro q s₀ h c hvector hentries hmin hmax hbase hhost
    have hspi : (c.ringHost && (s₀.elapse q.dt).mb.spi) = false := by
      cases hring : c.ringHost
      · rfl
      · exact hhost hring
    exact next_serve_ok h (require_of (by simp only [hvector, hentries, inRange_of hmin hmax, hbase, hspi, c, decide_true,
      Bool.not_false, Bool.and_self]))
  case transportStatus =>
    intro q s₀ h m
    exact next_serve_ok h rfl
  case udpMbSet =>
    intro q s₀ h p hslot hrate hmin hmax
    have hallowed := Bool.and_eq_true_iff.mpr ⟨Bool.and_eq_true_iff.mpr
      ⟨decide_eq_true hslot, inRange_of (Nat.zero_le _) hrate⟩, inRange_of hmin hmax⟩
    exact next_serve_done (d := { st := _, post := some _ }) h (require_of hallowed) rfl
  case eventRead => exact fun q s₀ h hmin hmax hw0 => execEventRead_of_w0 h rfl hmin hmax hw0
  case relay =>
    intro q s₀ h len msg bulk off n b hidle
    have hfree : (s₀.elapse q.dt).mb.relay.isNone = true := Option.isNone_iff_eq_none.mpr hidle
    refine ⟨fun hplain => next_serve_wait h ?plain,
      fun data hbulk hlen hbind hmin hmax hgranted hfault hdata => next_serve_wait h ?bulk⟩
    case plain =>
      exact (require_not (Bool.and_eq_false_iff.mpr (.inl hplain))).trans <| (require_of hfree).trans <|
        if_neg (ne_true_of_eq_false hplain)
    case bulk =>
      have hlength : (decide (len < 16) || (s₀.elapse q.dt).mb.ch[q.ch].bind != 0) = false :=
        Bool.or_eq_false_iff.mpr ⟨decide_eq_false (Nat.not_lt.mpr hlen), bne_eq_false_iff_eq.mpr hbind⟩
      have hcount : (!inRange 1 4096 n) = false := congrArg (!·) (inRange_of hmin hmax)
      have hallowed := Bool.or_eq_false_iff.mpr ⟨Bool.or_eq_false_iff.mpr ⟨hlength, hcount⟩, hgranted⟩
      exact (require_not (Bool.and_eq_false_iff.mpr (.inr hallowed))).trans <| (require_of hfree).trans <|
        (if_pos hbulk).trans <| withBulk_of_some (fun _ => hfault) hdata

end Sys2Proof.Machine
end

section
/-! Proofs for spec chapter 14, every command (R473 to R476): each is carried out, keeps the identity of the engine, and is
answered only where the engine takes host messages. -/
namespace Sys2Proof.Machine
open Sys2Proof

/-! ### The identity of the engine (R476) -/

/-- The command is carried out and leaves the fuses, and what the boot fixed as well unless it begins or ends a boot. -/
def KeepsIdentity (c : Instr) (s : State) (o : Host.Outcome State Fault Refusal) : Prop :=
  Answers s o ∧ (bootsOrEnds c = false → Steady s o)

theorem KeepsIdentity.of_steady {c : Instr} {s : State} {o : Host.Outcome State Fault Refusal} (h : Steady s o) :
    KeepsIdentity c s o :=
  let ⟨t, hnext, hpending, hfuses, _⟩ := h
  ⟨⟨t, hnext, hpending, hfuses⟩, fun _ => h⟩

theorem KeepsIdentity.of_answers {c : Instr} {s : State} {o : Host.Outcome State Fault Refusal} (hboot : bootsOrEnds c = true)
    (h : Answers s o) : KeepsIdentity c s o :=
  ⟨h, fun hother => absurd hother (ne_false_of_eq_true hboot)⟩

/-- Every command is carried out and keeps the identity of the engine. -/
theorem exec_keepsIdentity (c : Instr) (s : State) : KeepsIdentity c s (exec c s) :=
  match c with
  | .sysInfo .. => .of_steady (execSysInfo_kept _ _)
  | .sysStatus .. => .of_steady (execSysStatus_kept _ _)
  | .sysReset .. => .of_steady (execSysReset_kept _ _)
  | .sysResetExecute .. => KeepsIdentity.of_answers rfl (execSysResetExecute_kept _ _)
  | .settingsSave .. => .of_steady (execSettingsSave_kept _ _)
  | .eventRead .. => .of_steady (execEventRead_kept _ _)
  | .mbConfig .. => .of_steady (execMbConfig_kept _ _)
  | .mbStatus .. => .of_steady (execMbStatus_kept _ _)
  | .eventSet .. => .of_steady (execEventSet_kept _ _)
  | .transportStatus .. => .of_steady (execTransportStatus_kept _ _)
  | .udpMbSet .. => .of_steady (execUdpMbSet_kept _ _)
  | .relay .. => .of_steady (execRelay_kept _ _)
  | .timeGet .. => .of_steady (execTimeGet_kept _ _)
  | .servoSet .. => .of_steady (execServoSet_kept _ _)
  | .clockModelSet .. => .of_steady (execClockModelSet_kept _ _)
  | .timeStep .. => .of_steady (execTimeStep_kept _ _)
  | .gridSetStart .. => .of_steady (execGridSetStart_kept _ _)
  | .gridSetChange .. => .of_steady (execGridSetChange_kept _ _)
  | .gridSetStop .. => .of_steady (execGridSetStop_kept _ _)
  | .gridGet .. => .of_steady (execGridGet_kept _ _)
  | .slotArm .. => .of_steady (execSlotArm_kept _ _)
  | .slotCancel .. => .of_steady (execSlotCancel_kept _ _)
  | .slotStatus .. => .of_steady (execSlotStatus_kept _ _)
  | .timecodeSet .. => .of_steady (execTimecodeSet_kept _ _)
  | .ppsInEdge .. => .of_steady (execPpsInEdge_kept _ _)
  | .frameRefInEdge .. => .of_steady (execFrameRefInEdge_kept _ _)
  | .ltcInSyncWord .. => .of_steady (execLtcInSyncWord_kept _ _ _ _ _ _ _)
  | .sourceLossTimeout .. => .of_steady (execSourceLossTimeout_kept _ _ _)
  | .holdoverLimitExpiry .. => .of_steady (execHoldoverLimitExpiry_kept _ _)
  | .ref10mLoss .. => .of_steady (execRef10mLoss_kept _ _)
  | .ref10mReturn .. => .of_steady (execRef10mReturn_kept _ _)
  | .tickBoundary .. => .of_steady (execTickBoundary_kept _ _)
  | .frameBoundary .. => .of_steady (execFrameBoundary_kept _ _)
  | .presentationInstant .. => .of_steady (execPresentationInstant_kept _ _)
  | .slotFire .. => .of_steady (execSlotFire_kept _ _)
  | .ppsOutPulse .. => .of_steady (execPpsOutPulse_kept _ _)
  | .ltcOutFrame .. => .of_steady (execLtcOutFrame_kept _ _)
  | .renderStart .. => .of_steady (execRenderStart_kept _ _)
  | .renderStallTimeout .. => .of_steady (execRenderStallTimeout_kept _ _)
  | .slipLimitStop .. => .of_steady (execSlipLimitStop_kept _ _)
  | .descriptorAlloc .. => .of_steady (execDescriptorAlloc_kept _ _)
  | .taskEntry .. => .of_steady (execTaskEntry_kept _ _)
  | .taskDispatch .. => .of_steady (execTaskDispatch_kept _ _ _)
  | .affinityWaitExpiry .. => .of_steady (execAffinityWaitExpiry_kept _ _ _)
  | .taskEnd .. => .of_steady (execTaskEnd_kept _ _ _)
  | .taskTrap .. => .of_steady (execTaskTrap_kept _ _ _)
  | .taskWatchdogExpiry .. => .of_steady (execTaskWatchdogExpiry_kept _ _ _)
  | .coreMemoryEccError .. => .of_steady (execCoreMemoryEccError_kept _ _ _ _)
  | .sourceHoldEvent .. => .of_steady (execSourceHoldEvent_kept _ _ _)
  | .cmuPassComplete .. => .of_steady (execCmuPassComplete_kept _ _)
  | .kineticPassComplete .. => .of_steady (execKineticPassComplete_kept _ _)
  | .frameCommit .. => .of_steady (execFrameCommit_kept _ _)
  | .hedgerowRelease .. => .of_steady (execHedgerowRelease_kept _ _)
  | .showLoadBegin .. => .of_steady (execShowLoadBegin_kept _ _)
  | .showLoadBlock .. => .of_steady (execShowLoadBlock_kept _ _)
  | .showLoadEnd .. => .of_steady (execShowLoadEnd_kept _ _)
  | .imageChecksComplete .. => .of_steady (execImageChecksComplete_kept _ _)
  | .blobWaitExpiry .. => .of_steady (execBlobWaitExpiry_kept _ _)
  | .showActivate .. => .of_steady (execShowActivate_kept _ _)
  | .showUnloadStaged .. => .of_steady (execShowUnloadStaged_kept _ _)
  | .showUnloadActive .. => .of_steady (execShowUnloadActive_kept _ _)
  | .showStatus .. => .of_steady (execShowStatus_kept _ _)
  | .cueGo .. => .of_steady (execCueGo_kept _ _)
  | .cueListStatus .. => .of_steady (execCueListStatus_kept _ _)
  | .tapSet .. => .of_steady (execTapSet_kept _ _)
  | .tapRead .. => .of_steady (execTapRead_kept _ _)
  | .houseSet .. => .of_steady (execHouseSet_kept _ _)
  | .triggerMsg .. => .of_steady (execTriggerMsg_kept _ _ _ _)
  | .aes67Packet .. => .of_steady (execAes67Packet_kept _ _ _)
  | .tapWindowClose .. => .of_steady (execTapWindowClose_kept _ _ _)
  | .houseNAssert .. => .of_steady (execHouseNAssert_kept _ _)
  | .houseNRelease .. => .of_steady (execHouseNRelease_kept _ _)
  | .houseAssertApply .. => .of_steady (execHouseAssertApply_kept _ _)
  | .houseMsg .. => .of_steady (execHouseMsg_kept _ _ _ _)
  | .schedConfig .. => .of_steady (execSchedConfig_kept _ _)
  | .schedStatus .. => .of_steady (execSchedStatus_kept _ _)
  | .schedCounters .. => .of_steady (execSchedCounters_kept _ _)
  | .schedTaskRead .. => .of_steady (execSchedTaskRead_kept _ _)
  | .schedCores .. => .of_steady (execSchedCores_kept _ _)
  | .cmuConfig .. => .of_steady (execCmuConfig_kept _ _)
  | .cmuStatus .. => .of_steady (execCmuStatus_kept _ _)
  | .loopResetIntegrators .. => .of_steady (execLoopResetIntegrators_kept _ _)
  | .loopDisable .. => .of_steady (execLoopDisable_kept _ _)
  | .loopEnable .. => .of_steady (execLoopEnable_kept _ _)
  | .loopRead .. => .of_steady (execLoopRead_kept _ _)
  | .fixtureSolveRead .. => .of_steady (execFixtureSolveRead_kept _ _)
  | .kineticStopHold .. => .of_steady (execKineticStopHold_kept _ _)
  | .kineticStopBlackout .. => .of_steady (execKineticStopBlackout_kept _ _)
  | .kineticStopRelease .. => .of_steady (execKineticStopRelease_kept _ _)
  | .kineticRead .. => .of_steady (execKineticRead_kept _ _)
  | .kineticStopStep .. => .of_steady (execKineticStopStep_kept _ _)
  | .deckScrubRead .. => .of_steady (execDeckScrubRead_kept _ _)
  | .deckStatus .. => .of_steady (execDeckStatus_kept _ _)
  | .ingestSet .. => .of_steady (execIngestSet_kept _ _)
  | .ingestStatus .. => .of_steady (execIngestStatus_kept _ _)
  | .st2110Packet .. => .of_steady (execSt2110Packet_kept _ _ _)
  | .rasterSet .. => .of_steady (execRasterSet_kept _ _)
  | .layerSet .. => .of_steady (execLayerSet_kept _ _)
  | .rasterCommit .. => .of_steady (execRasterCommit_kept _ _)
  | .rasterStatus .. => .of_steady (execRasterStatus_kept _ _)
  | .rasterStart .. => .of_steady (execRasterStart_kept _ _ _)
  | .rasterLine .. => .of_steady (execRasterLine_kept _ _ _ _ _)
  | .verticalBlankingStart .. => .of_steady (execVerticalBlankingStart_kept _ _ _)
  | .codewordTransmit .. => .of_steady (execCodewordTransmit_kept _ _ _)
  | .idleBlock .. => .of_steady (execIdleBlock_kept _ _ _ _)
  | .dataBlock .. => .of_steady (execDataBlock_kept _ _ _ _ _)
  | .creditBlock .. => .of_steady (execCreditBlock_kept _ _ _ _ _)
  | .ackBlock .. => .of_steady (execAckBlock_kept _ _ _ _ _)
  | .nakBlock .. => .of_steady (execNakBlock_kept _ _ _ _ _)
  | .timeBlock .. => .of_steady (execTimeBlock_kept _ _ _ _ _)
  | .helloBlock .. => .of_steady (execHelloBlock_kept _ _ _ _ _)
  | .reservedBlock .. => .of_steady (execReservedBlock_kept _ _ _ _)
  | .creditSendDue .. => .of_steady (execCreditSendDue_kept _ _ _)
  | .helloDue .. => .of_steady (execHelloDue_kept _ _ _)
  | .timeBlockDue .. => .of_steady (execTimeBlockDue_kept _ _ _)
  | .creditStallTimeout .. => .of_steady (execCreditStallTimeout_kept _ _ _ _)
  | .creditStallLinkDown .. => .of_steady (execCreditStallLinkDown_kept _ _ _ _)
  | .ackTimeout .. => .of_steady (execAckTimeout_kept _ _ _)
  | .fecFailTimeout .. => .of_steady (execFecFailTimeout_kept _ _ _)
  | .latchMsg .. => .of_steady (execLatchMsg_kept _ _ _ _)
  | .reportMsg .. => .of_steady (execReportMsg_kept _ _ _ _)
  | .latchIssue .. => .of_steady (execLatchIssue_kept _ _)
  | .latchRepeat .. => .of_steady (execLatchRepeat_kept _ _)
  | .memberMsg .. => .of_steady (execMemberMsg_kept _ _ _ _)
  | .memberFlood .. => .of_steady (execMemberFlood_kept _ _)
  | .memberTimeout .. => .of_steady (execMemberTimeout_kept _ _)
  | .partitionWaitExpiry .. => .of_steady (execPartitionWaitExpiry_kept _ _)
  | .mergeMsg .. => .of_steady (execMergeMsg_kept _ _ _ _)
  | .linkEventMsg .. => .of_steady (execLinkEventMsg_kept _ _ _ _)
  | .routeAgeExpiry .. => .of_steady (execRouteAgeExpiry_kept _ _)
  | .updateMsg .. => .of_steady (execUpdateMsg_kept _ _ _ _)
  | .returnMsg .. => .of_steady (execReturnMsg_kept _ _ _ _)
  | .pathProbeDue .. => .of_steady (execPathProbeDue_kept _ _)
  | .pathProbeMsg .. => .of_steady (execPathProbeMsg_kept _ _ _ _ _)
  | .pathEchoMsg .. => .of_steady (execPathEchoMsg_kept _ _ _ _)
  | .rasterFrameMsg .. => .of_steady (execRasterFrameMsg_kept _ _ _ _)
  | .rasterLineMsg .. => .of_steady (execRasterLineMsg_kept _ _ _ _)
  | .trestleSet .. => .of_steady (execTrestleSet_kept _ _)
  | .trestleStatus .. => .of_steady (execTrestleStatus_kept _ _)
  | .memberRead .. => .of_steady (execMemberRead_kept _ _)
  | .routeRead .. => .of_steady (execRouteRead_kept _ _)
  | .linkSet .. => .of_steady (execLinkSet_kept _ _)
  | .linkCounters .. => .of_steady (execLinkCounters_kept _ _)
  | .destStatus .. => .of_steady (execDestStatus_kept _ _)
  | .laneLos .. => .of_steady (execLaneLos_kept _ _ _ _)
  | .laneLosClear .. => .of_steady (execLaneLosClear_kept _ _ _ _)
  | .laneLol .. => .of_steady (execLaneLol_kept _ _ _ _)
  | .trainingAttemptStart .. => .of_steady (execTrainingAttemptStart_kept _ _ _)
  | .trainingFrameRx .. => .of_steady (execTrainingFrameRx_kept _ _ _ _)
  | .trainingStepWindowEnd .. => .of_steady (execTrainingStepWindowEnd_kept _ _ _ _)
  | .trainingTimeout .. => .of_steady (execTrainingTimeout_kept _ _ _)
  | .quietPeriodEnd .. => .of_steady (execQuietPeriodEnd_kept _ _ _)
  | .trainingRetryTimer .. => .of_steady (execTrainingRetryTimer_kept _ _ _)
  | .calibrationNeeded .. => .of_steady (execCalibrationNeeded_kept _ _ _ _ _)
  | .rotationTimer .. => .of_steady (execRotationTimer_kept _ _ _)
  | .spareSweepEnd .. => .of_steady (execSpareSweepEnd_kept _ _ _ _)
  | .duplicateCompareEnd .. => .of_steady (execDuplicateCompareEnd_kept _ _ _ _)
  | .laneSwapCodeword .. => .of_steady (execLaneSwapCodeword_kept _ _ _)
  | .calGapStart .. => .of_steady (execCalGapStart_kept _ _ _ _ _)
  | .calGapLockTimeout .. => .of_steady (execCalGapLockTimeout_kept _ _ _)
  | .calGapDeferral .. => .of_steady (execCalGapDeferral_kept _ _ _)
  | .laneCtlSpareOn .. => .of_steady (execLaneCtlSpareOn_kept _ _ _ _)
  | .laneCtlDuplicate .. => .of_steady (execLaneCtlDuplicate_kept _ _ _ _)
  | .laneCtlRelease .. => .of_steady (execLaneCtlRelease_kept _ _ _ _)
  | .laneCtlSpareIdle .. => .of_steady (execLaneCtlSpareIdle_kept _ _ _ _)
  | .laneCtlLaneFault .. => .of_steady (execLaneCtlLaneFault_kept _ _ _ _)
  | .laneCtlCalGap .. => .of_steady (execLaneCtlCalGap_kept _ _ _ _)
  | .laneCtlSleep .. => .of_steady (execLaneCtlSleep_kept _ _ _ _)
  | .laneCtlAck .. => .of_steady (execLaneCtlAck_kept _ _ _ _)
  | .laneCtlNak .. => .of_steady (execLaneCtlNak_kept _ _ _ _)
  | .laneCtlAnswerTimeout .. => .of_steady (execLaneCtlAnswerTimeout_kept _ _ _)
  | .sleepWake .. => .of_steady (execSleepWake_kept _ _ _)
  | .wakeDriftTimeout .. => .of_steady (execWakeDriftTimeout_kept _ _ _)
  | .spanHealthDownTimeout .. => .of_steady (execSpanHealthDownTimeout_kept _ _ _)
  | .spanHealthRecover .. => .of_steady (execSpanHealthRecover_kept _ _ _)
  | .spanSet .. => .of_steady (execSpanSet_kept _ _)
  | .spanStatus .. => .of_steady (execSpanStatus_kept _ _)
  | .laneStatus .. => .of_steady (execLaneStatus_kept _ _)
  | .spanTrain .. => .of_steady (execSpanTrain_kept _ _)
  | .spanCal .. => .of_steady (execSpanCal_kept _ _)
  | .prbsSet .. => .of_steady (execPrbsSet_kept _ _)
  | .prbsRead .. => .of_steady (execPrbsRead_kept _ _ _)
  | .errorInject .. => .of_steady (execErrorInject_kept _ _)
  | .bitSlip .. => .of_steady (execBitSlip_kept _ _)
  | .laneTapsSet .. => .of_steady (execLaneTapsSet_kept _ _)
  | .spanSleep .. => .of_steady (execSpanSleep_kept _ _)
  | .portSet .. => .of_steady (execPortSet_kept _ _)
  | .portStatus .. => .of_steady (execPortStatus_kept _ _)
  | .inputSet .. => .of_steady (execInputSet_kept _ _)
  | .inputRead .. => .of_steady (execInputRead_kept _ _)
  | .sacnSet .. => .of_steady (execSacnSet_kept _ _)
  | .sacnStatus .. => .of_steady (execSacnStatus_kept _ _)
  | .rdmDiscover .. => .of_steady (execRdmDiscover_kept _ _)
  | .rdmUidRead .. => .of_steady (execRdmUidRead_kept _ _)
  | .rdmRequest .. => .of_steady (execRdmRequest_kept _ _)
  | .rdmResultRead .. => .of_steady (execRdmResultRead_kept _ _)
  | .dmxPacketStart .. => .of_steady (execDmxPacketStart_kept _ _ _)
  | .rdmTransactionStart .. => .of_steady (execRdmTransactionStart_kept _ _ _)
  | .rdmResponse .. => .of_steady (execRdmResponse_kept _ _ _ _)
  | .rdmResponseTimeout .. => .of_steady (execRdmResponseTimeout_kept _ _ _)
  | .rdmDiscoveryTimer .. => .of_steady (execRdmDiscoveryTimer_kept _ _ _)
  | .rdmSensorPoll .. => .of_steady (execRdmSensorPoll_kept _ _ _)
  | .dmxInputPacket .. => .of_steady (execDmxInputPacket_kept _ _ _ _)
  | .inputLossTimeout .. => .of_steady (execInputLossTimeout_kept _ _ _)
  | .sacnDataPacket .. => .of_steady (execSacnDataPacket_kept _ _ _)
  | .sacnSourceLoss .. => .of_steady (execSacnSourceLoss_kept _ _ _ _)
  | .pixelStringSend .. => .of_steady (execPixelStringSend_kept _ _ _)
  | .clockedStringSend .. => .of_steady (execClockedStringSend_kept _ _ _)
  | .pwmSubslotStart .. => .of_steady (execPwmSubslotStart_kept _ _ _)
  | .sacnDataSend .. => .of_steady (execSacnDataSend_kept _ _ _)
  | .sacnSyncSend .. => .of_steady (execSacnSyncSend_kept _ _ _)
  | .sacnDiscoverySend .. => .of_steady (execSacnDiscoverySend_kept _ _ _)
  | .ethFrameRx .. => .of_steady (execEthFrameRx_kept _ _ _)
  | .ethFrameTx .. => .of_steady (execEthFrameTx_kept _ _ _)
  | .pauseRx .. => .of_steady (execPauseRx_kept _ _ _ _)
  | .pauseHoldEnd .. => .of_steady (execPauseHoldEnd_kept _ _ _)
  | .pauseLongTimeout .. => .of_steady (execPauseLongTimeout_kept _ _ _)
  | .pauseRefresh .. => .of_steady (execPauseRefresh_kept _ _ _)
  | .preemptVerifyTimeout .. => .of_steady (execPreemptVerifyTimeout_kept _ _ _)
  | .ethLinkChange .. => .of_steady (execEthLinkChange_kept _ _ _ _ _)
  | .hostRxPlace .. => .of_steady (execHostRxPlace_kept _ _ _ _)
  | .hostTxFrame .. => .of_steady (execHostTxFrame_kept _ _ _ _)
  | .ptpSync .. => .of_steady (execPtpSync_kept _ _ _)
  | .ptpFollowUp .. => .of_steady (execPtpFollowUp_kept _ _ _)
  | .ptpAnnounce .. => .of_steady (execPtpAnnounce_kept _ _ _ _)
  | .ptpDelayReq .. => .of_steady (execPtpDelayReq_kept _ _ _)
  | .ptpDelayResp .. => .of_steady (execPtpDelayResp_kept _ _ _)
  | .ptpPdelayReq .. => .of_steady (execPtpPdelayReq_kept _ _ _)
  | .ptpPdelayResp .. => .of_steady (execPtpPdelayResp_kept _ _ _ _)
  | .ptpMessageDue .. => .of_steady (execPtpMessageDue_kept _ _ _ _)
  | .ptpAnnounceTimeout .. => .of_steady (execPtpAnnounceTimeout_kept _ _ _)
  | .igmpQuery .. => .of_steady (execIgmpQuery_kept _ _ _)
  | .arpRequest .. => .of_steady (execArpRequest_kept _ _ _ _ _ _)
  | .streamLossTimeout .. => .of_steady (execStreamLossTimeout_kept _ _ _ _)
  | .ethSet .. => .of_steady (execEthSet_kept _ _)
  | .ethStatus .. => .of_steady (execEthStatus_kept _ _)
  | .queueSet .. => .of_steady (execQueueSet_kept _ _)
  | .queueStatus .. => .of_steady (execQueueStatus_kept _ _)
  | .hostchSet .. => .of_steady (execHostchSet_kept _ _)
  | .hostchStatus .. => .of_steady (execHostchStatus_kept _ _)
  | .txtsRead .. => .of_steady (execTxtsRead_kept _ _)
  | .ptpSet .. => .of_steady (execPtpSet_kept _ _)
  | .ptpStatus .. => .of_steady (execPtpStatus_kept _ _)
  | .streamSet .. => .of_steady (execStreamSet_kept _ _)
  | .streamStatus .. => .of_steady (execStreamStatus_kept _ _)
  | .dmaCompletion .. => .of_steady (execDmaCompletion_kept _ _ _ _ _)
  | .dmaCompletionTimeout .. => .of_steady (execDmaCompletionTimeout_kept _ _ _ _)
  | .pcieEndpointReset .. => .of_steady (execPcieEndpointReset_kept _ _ _)
  | .beaconBuild .. => .of_steady (execBeaconBuild_kept _ _ _)
  | .beaconStb .. => .of_steady (execBeaconStb_kept _ _ _)
  | .radioSlotGrant .. => .of_steady (execRadioSlotGrant_kept _ _ _)
  | .assocRequest .. => .of_steady (execAssocRequest_kept _ _ _ _ _)
  | .disassocNotify .. => .of_steady (execDisassocNotify_kept _ _ _ _)
  | .dataRequest .. => .of_steady (execDataRequest_kept _ _ _ _ _)
  | .radioDataFrame .. => .of_steady (execRadioDataFrame_kept _ _ _ _)
  | .privetFrame .. => .of_steady (execPrivetFrame_kept _ _ _ _)
  | .radioAck .. => .of_steady (execRadioAck_kept _ _ _ _)
  | .ackWaitExpiry .. => .of_steady (execAckWaitExpiry_kept _ _ _)
  | .indirectPersistExpiry .. => .of_steady (execIndirectPersistExpiry_kept _ _ _)
  | .parentBeacon .. => .of_steady (execParentBeacon_kept _ _ _ _ _)
  | .coordRealignment .. => .of_steady (execCoordRealignment_kept _ _ _)
  | .parentBeaconMiss .. => .of_steady (execParentBeaconMiss_kept _ _ _)
  | .xcvrIdentify .. => .of_steady (execXcvrIdentify_kept _ _ _ _)
  | .xcvrRetry .. => .of_steady (execXcvrRetry_kept _ _ _ _)
  | .radioSet .. => .of_steady (execRadioSet_kept _ _)
  | .radioStatus .. => .of_steady (execRadioStatus_kept _ _)
  | .nodeRead .. => .of_steady (execNodeRead_kept _ _)
  | .nodeDisassociate .. => .of_steady (execNodeDisassociate_kept _ _)
  | .nodeAllow .. => .of_steady (execNodeAllow_kept _ _)
  | .nodeDisallow .. => .of_steady (execNodeDisallow_kept _ _)
  | .privetSet .. => .of_steady (execPrivetSet_kept _ _)
  | .radioSend .. => .of_steady (execRadioSend_kept _ _)
  | .radioRecv .. => .of_steady (execRadioRecv_kept _ _)
  | .radioXcvrRead .. => .of_steady (execRadioXcvrRead_kept _ _)
  | .heartbeatSend .. => .of_steady (execHeartbeatSend_kept _ _)
  | .pierHeartbeatMsg .. => .of_steady (execPierHeartbeatMsg_kept _ _ _ _)
  | .partnerSilence .. => .of_steady (execPartnerSilence_kept _ _)
  | .trestleWitnessLoss .. => .of_steady (execTrestleWitnessLoss_kept _ _)
  | .pierActInFall .. => .of_steady (execPierActInFall_kept _ _)
  | .pierActInRise .. => .of_steady (execPierActInRise_kept _ _)
  | .holdCircuitExpiry .. => .of_steady (execHoldCircuitExpiry_kept _ _)
  | .pierReleaseMsg .. => .of_steady (execPierReleaseMsg_kept _ _ _ _)
  | .pierClaimMsg .. => .of_steady (execPierClaimMsg_kept _ _ _ _)
  | .pierDigestMsg .. => .of_steady (execPierDigestMsg_kept _ _ _ _)
  | .sealSend .. => .of_steady (execSealSend_kept _ _)
  | .pierSealMsg .. => .of_steady (execPierSealMsg_kept _ _ _ _)
  | .sealMissingAtCutoff .. => .of_steady (execSealMissingAtCutoff_kept _ _)
  | .revertRequest .. => .of_steady (execRevertRequest_kept _ _)
  | .pierRevertMsg .. => .of_steady (execPierRevertMsg_kept _ _ _ _)
  | .handoverAtCutoff .. => .of_steady (execHandoverAtCutoff_kept _ _)
  | .pierResyncMsg .. => .of_steady (execPierResyncMsg_kept _ _ _ _)
  | .partnerWaitExpiry .. => .of_steady (execPartnerWaitExpiry_kept _ _)
  | .pierSet .. => .of_steady (execPierSet_kept _ _)
  | .pierStatus .. => .of_steady (execPierStatus_kept _ _)
  | .pierControlHandover .. => .of_steady (execPierControlHandover_kept _ _)
  | .pierControlResync .. => .of_steady (execPierControlResync_kept _ _)
  | .pierControlRevertHold .. => .of_steady (execPierControlRevertHold_kept _ _)
  | .pierControlRevertAllow .. => .of_steady (execPierControlRevertAllow_kept _ _)
  | .pierCounters .. => .of_steady (execPierCounters_kept _ _)
  | .tamperInputAssert .. => .of_steady (execTamperInputAssert_kept _ _ _)
  | .tamperMonitorTrip .. => .of_steady (execTamperMonitorTrip_kept _ _ _)
  | .proposalLapse .. => .of_steady (execProposalLapse_kept _ _)
  | .boxStatus .. => .of_steady (execBoxStatus_kept _ _)
  | .slotInfo .. => .of_steady (execSlotInfo_kept _ _)
  | .keyLoad .. => .of_steady (execKeyLoad_kept _ _)
  | .wkStatus .. => .of_steady (execWkStatus_kept _ _)
  | .challenge .. => .of_steady (execChallenge_kept _ _)
  | .propose .. => .of_steady (execPropose_kept _ _)
  | .approve .. => .of_steady (execApprove_kept _ _ _)
  | .proposalCancel .. => .of_steady (execProposalCancel_kept _ _)
  | .officerRead .. => .of_steady (execOfficerRead_kept _ _)
  | .identityRead .. => .of_steady (execIdentityRead_kept _ _)
  | .reqTailWrite .. => .of_steady (execReqTailWrite_kept _ _ _ _)
  | .requestTakeUp .. => .of_steady (execRequestTakeUp_kept _ _)
  | .messageWaitTimeout .. => .of_steady (execMessageWaitTimeout_kept _ _ _)
  | .responseWrite .. => .of_steady (execResponseWrite_kept _ _ _)
  | .rspHeadWrite .. => .of_steady (execRspHeadWrite_kept _ _ _ _)
  | .rspStallTimeout .. => .of_steady (execRspStallTimeout_kept _ _ _)
  | .evtHeadWrite .. => .of_steady (execEvtHeadWrite_kept _ _ _)
  | .hcRxTailWrite .. => .of_steady (execHcRxTailWrite_kept _ _ _ _)
  | .hcTxTailWrite .. => .of_steady (execHcTxTailWrite_kept _ _ _ _)
  | .w0OtherWrite .. => .of_steady (execW0OtherWrite_kept _ _ _ _ _)
  | .irqModerationTimer .. => .of_steady (execIrqModerationTimer_kept _ _)
  | .spiWrite .. => .of_steady (execSpiWrite_kept _ _ _ _ _)
  | .spiRead .. => .of_steady (execSpiRead_kept _ _ _ _ _)
  | .spiQwrite .. => .of_steady (execSpiQwrite_kept _ _ _ _ _)
  | .spiQread .. => .of_steady (execSpiQread_kept _ _ _ _ _)
  | .spiStatus .. => .of_steady (execSpiStatus_kept _ _)
  | .spiUnknownInstruction .. => .of_steady (execSpiUnknownInstruction_kept _ _ _)
  | .spiIdleTimeout .. => .of_steady (execSpiIdleTimeout_kept _ _ _)
  | .udpMailboxDatagram .. => .of_steady (execUdpMailboxDatagram_kept _ _ _)
  | .mgmtMsg .. => .of_steady (execMgmtMsg_kept _ _ _ _)
  | .relayWaitExpiry .. => .of_steady (execRelayWaitExpiry_kept _ _)
  | .bulkMsg .. => .of_steady (execBulkMsg_kept _ _ _ _)
  | .bulkAckTimeout .. => .of_steady (execBulkAckTimeout_kept _ _)
  | .diagEcho .. => .of_steady (execDiagEcho_kept _ _)
  | .diagPinRead .. => .of_steady (execDiagPinRead_kept _ _)
  | .diagSelftest .. => .of_steady (execDiagSelftest_kept _ _)
  | .selftestComplete .. => .of_steady (execSelftestComplete_kept _ _ _ _ _)
  | .diagEventRaise .. => .of_steady (execDiagEventRaise_kept _ _)
  | .faultInjectDeckSingle .. => .of_steady (execFaultInjectDeckSingle_kept _ _)
  | .faultInjectDeckDouble .. => .of_steady (execFaultInjectDeckDouble_kept _ _)
  | .faultInjectCore .. => .of_steady (execFaultInjectCore_kept _ _)
  | .faultInjectDigest .. => .of_steady (execFaultInjectDigest_kept _ _)
  | .faultInjectCheck .. => .of_steady (execFaultInjectCheck_kept _ _)
  | .faultInjectFlowTrap .. => .of_steady (execFaultInjectFlowTrap_kept _ _)
  | .vinRise .. => KeepsIdentity.of_answers rfl (execVinRise_kept _ _ _)
  | .vinLowWarning .. => .of_steady (execVinLowWarning_kept _ _ _)
  | .vinShutdown .. => KeepsIdentity.of_answers rfl (execVinShutdown_kept _ _ _)
  | .vbatOutOfRange .. => .of_steady (execVbatOutOfRange_kept _ _ _)
  | .vbatReturn .. => .of_steady (execVbatReturn_kept _ _ _)
  | .vddioRise .. => .of_steady (execVddioRise_kept _ _ _ _)
  | .vddioFall .. => .of_steady (execVddioFall_kept _ _ _)
  | .resetNAssert .. => KeepsIdentity.of_answers rfl (execResetNAssert_kept _ _)
  | .resetNRelease .. => .of_steady (execResetNRelease_kept _ _)
  | .bootReady .. => KeepsIdentity.of_answers rfl (execBootReady_kept _ _ _)
  | .bootWatchdogExpiry .. => KeepsIdentity.of_answers rfl (execBootWatchdogExpiry_kept _ _ _)
  | .scheduledWake .. => .of_steady (execScheduledWake_kept _ _)
  | .thermalEvaluation .. => .of_steady (execThermalEvaluation_kept _ _ _)
  | .throttleStepDown .. => .of_steady (execThrottleStepDown_kept _ _)
  | .throttleStepUp .. => .of_steady (execThrottleStepUp_kept _ _)
  | .orderlyPowerDown .. => KeepsIdentity.of_answers rfl (execOrderlyPowerDown_kept _ _)
  | .hardwareThermalTrip .. => KeepsIdentity.of_answers rfl (execHardwareThermalTrip_kept _ _ _)
  | .thermalRestart .. => KeepsIdentity.of_answers rfl (execThermalRestart_kept _ _ _)
  | .powerStatus .. => .of_steady (execPowerStatus_kept _ _)
  | .powerModeRun .. => .of_steady (execPowerModeRun_kept _ _)
  | .powerModeStandby .. => .of_steady (execPowerModeStandby_kept _ _)
  | .thermalStatus .. => .of_steady (execThermalStatus_kept _ _)
  | .thermalSet .. => .of_steady (execThermalSet_kept _ _)
  | .wakeScheduleSet .. => .of_steady (execWakeScheduleSet_kept _ _)
  | .updateBegin .. => .of_steady (execUpdateBegin_kept _ _)
  | .updateBlock .. => .of_steady (execUpdateBlock_kept _ _)
  | .flashProgramComplete .. => .of_steady (execFlashProgramComplete_kept _ _)
  | .updateIdleTimeout .. => .of_steady (execUpdateIdleTimeout_kept _ _)
  | .updateEnd .. => .of_steady (execUpdateEnd_kept _ _)
  | .updateCheckComplete .. => .of_steady (execUpdateCheckComplete_kept _ _ _)
  | .updateStatus .. => .of_steady (execUpdateStatus_kept _ _)
  | .updateActivate .. => .of_steady (execUpdateActivate_kept _ _)
  | .bootRecordWriteComplete .. => .of_steady (execBootRecordWriteComplete_kept _ _)
  | .updateAbort .. => .of_steady (execUpdateAbort_kept _ _)
  | .codewordUncorrectable .. => .of_steady (execCodewordUncorrectable_kept _ _ _)
  | .perstNRelease .. => .of_steady (execPerstNRelease_kept _ _ _ _)
  | .tamperInputRelease .. => .of_steady (execTamperInputRelease_kept _ _ _)
  | .vinRangeReturn .. => .of_steady (execVinRangeReturn_kept _ _ _)

theorem exec_fuses {c : Instr} {s t : State} (h : exec c s = .next t) : t.sys.fuses = s.sys.fuses := by
  obtain ⟨u, hnext, -, hfuses⟩ := (exec_keepsIdentity c s).1
  cases h.symm.trans hnext
  exact hfuses

theorem exec_boot {c : Instr} {s t : State} (hother : bootsOrEnds c = false) (h : exec c s = .next t) :
    t.sys.boot = s.sys.boot := by
  obtain ⟨u, hnext, -, -, hboot⟩ := (exec_keepsIdentity c s).2 hother
  cases h.symm.trans hnext
  exact hboot

/-- Settles O46: every command keeps the fuses, those that neither begin nor end a boot keep what it fixed, and SYS_INFO reads
both. -/
theorem identityKept : Obligations.IdentityKept :=
  ⟨fun _ _ _ => exec_fuses, fun _ _ _ => exec_boot, fun _ _ h => next_serve_ok h rfl⟩

/-- Settles O45: every command is carried out and takes nothing from the queue. That none ends in a fault or a refusal is the
model's choice (log entry 8). -/
theorem everyCommandCompletes : Obligations.EveryCommandCompletes := fun c s =>
  let ⟨t, hnext, hpending, _⟩ := (exec_keepsIdentity c s).1
  ⟨t, hnext, hpending⟩

/-! ### The queue -/

/-- Settles O43: by what a step is of a queue with a front; the queue is the model's own (log entry 1). -/
theorem stepRunsTheFront : Obligations.StepRunsTheFront := fun _ _ _ => rfl

/-- Settles O44: by what a step is of an empty queue, the model's choice (log entry 1). -/
theorem emptyQueueIdles : Obligations.EmptyQueueIdles := by
  intro s hempty
  unfold step
  rw [hempty]

/-! ### When host messages are answered (R473, R475, R495) -/

/-- A host command is the service of its opcode, with the bytes it needs and some body. -/
theorem exec_hostCommand {i : Instr} {op need : Nat} {q : Req} (h : hostCommand i = some (op, need, q)) (s : State) :
    ∃ body, exec i s = .next (serve op need q s body) := by
  cases i <;> cases h <;> exact ⟨_, rfl⟩

/-- Settles O49: a host command is served, and while the engine boots or is in secure hold serving only lets time pass. -/
theorem noAnswerBeforeReady : Obligations.NoAnswerBeforeReady := by
  intro i op need q s hhost hsilent
  obtain ⟨body, hexec⟩ := exec_hostCommand hhost s
  exact hexec.trans (congrArg Host.Outcome.next (serve_silent hsilent))

/-- Settles O50: a host command is served, and serving asks for the recovery ROM's opcodes, the length and venue standby's
opcodes in this order. -/
theorem hostMessagesAreGated : Obligations.HostMessagesAreGated := by
  intro i op need q s hhost hasked
  obtain ⟨body, hexec⟩ := exec_hostCommand hhost s
  refine ⟨fun hrecovery hunserved => hexec.trans (congrArg Host.Outcome.next ?recovery),
    fun hready hshort => hexec.trans (congrArg Host.Outcome.next ?short),
    fun hready hlength hstandby hunserved => hexec.trans (congrArg Host.Outcome.next ?standby)⟩
  case recovery => exact serve_recovery hrecovery hasked hunserved
  case short => exact serve_short hready hasked hshort
  case standby => exact serve_standby hready hasked hlength hstandby hunserved

end Sys2Proof.Machine
end

section
/-! Proofs for spec chapter 14, the commands that only report (R474, R476, R477). -/
namespace Sys2Proof.Machine
open Sys2Proof

/-- A body that only reports: where it answers, the state is as it was and the response is ready. -/
def OnlyReports (s : State) (r : Except Status Done) : Prop := ∀ d, r = .ok d → d.st = s ∧ d.wait = false

@[simp] theorem onlyReports_error (s : State) (e : Status) : OnlyReports s (.error e) := by
  intro d hd
  cases hd

@[simp] theorem onlyReports_answer (s : State) (b : List U8) : OnlyReports s (answer s b) := by
  intro d hd
  cases hd
  exact ⟨rfl, rfl⟩

@[simp] theorem onlyReports_require {s : State} {c : Bool} {e : Status} {k : Except Status Done} (h : OnlyReports s k) :
    OnlyReports s (require c e k) := by
  cases c
  · exact onlyReports_error s e
  · exact h

theorem onlyReports_onLane {s : State} {p : List U8} {f : Fin 12 → Fin 5 → List U8} :
    OnlyReports s (onLane p fun sp l => answer s (f sp l)) := by
  simp only [onLane, onSpan]
  repeat' split
  all_goals simp

/-- The command changes nothing but the channel that carries it, once its time has passed. -/
def AnswersOnly (i : Instr) (q : Req) (s₀ : State) : Prop :=
  ∃ t, exec i s₀ = .next t ∧ t = { s₀.elapse q.dt with mb.ch := t.mb.ch } ∧ ∀ c : Fin 8, c ≠ q.ch → t.mb.ch[c] = s₀.mb.ch[c]

section
variable {i : Instr} {q : Req} {s₀ : State} {op need : Nat}

theorem answersOnly_of_reports {body : State → Except Status Done} (hexec : exec i s₀ = .next (serve op need q s₀ body))
    (hbody : ∀ s, OnlyReports s (body s)) : AnswersOnly i q s₀ :=
  ⟨_, hexec, serve_only_answers hbody⟩

/-- A command that gives data of the state. -/
theorem answersOnly_of_answer {f : State → List U8} (hexec : exec i s₀ = .next (serve op need q s₀ fun s => answer s (f s))) :
    AnswersOnly i q s₀ :=
  answersOnly_of_reports hexec fun s => onlyReports_answer s _

/-- A command that gives data of the state where its operands allow. -/
theorem answersOnly_of_require {c : State → Bool} {e : Status} {f : State → List U8}
    (hexec : exec i s₀ = .next (serve op need q s₀ fun s => require (c s) e (answer s (f s)))) : AnswersOnly i q s₀ :=
  answersOnly_of_reports hexec fun s => onlyReports_require (onlyReports_answer s _)

/-- A command that gives data of what its operand numbers, where there is such. -/
theorem answersOnly_of_dite {c : Prop} [Decidable c] {e : Status} {f : State → c → List U8}
    (hexec : exec i s₀ = .next (serve op need q s₀ fun s => if h : c then answer s (f s h) else .error e)) :
    AnswersOnly i q s₀ :=
  answersOnly_of_reports hexec fun s => by split <;> simp

end

/-! ### Commands that look up what they report -/

theorem execLoopRead_answersOnly {q : Req} {s₀ : State} : AnswersOnly (.loopRead q) q s₀ := by
  refine answersOnly_of_reports rfl fun s => ?_
  dsimp only
  split <;> simp

theorem execFixtureSolveRead_answersOnly {q : Req} {s₀ : State} : AnswersOnly (.fixtureSolveRead q) q s₀ := by
  refine answersOnly_of_reports rfl fun s => ?_
  dsimp only
  split <;> simp

theorem execMemberRead_answersOnly {q : Req} {s₀ : State} : AnswersOnly (.memberRead q) q s₀ := by
  refine answersOnly_of_reports rfl fun s => ?_
  split <;> simp

theorem execDestStatus_answersOnly {q : Req} {s₀ : State} : AnswersOnly (.destStatus q) q s₀ := by
  refine answersOnly_of_reports rfl fun s => ?_
  dsimp only
  split <;> simp

theorem execRdmUidRead_answersOnly {q : Req} {s₀ : State} : AnswersOnly (.rdmUidRead q) q s₀ := by
  refine answersOnly_of_reports rfl fun s => ?_
  dsimp only
  split
  · split <;> simp
  · simp

theorem execRdmResultRead_answersOnly {q : Req} {s₀ : State} : AnswersOnly (.rdmResultRead q) q s₀ := by
  refine answersOnly_of_reports rfl fun s => ?_
  split <;> simp

theorem execStreamStatus_answersOnly {q : Req} {s₀ : State} : AnswersOnly (.streamStatus q) q s₀ := by
  refine answersOnly_of_reports rfl fun s => ?_
  dsimp only
  split <;> simp

/-- Settles O59: a status command answers with data of the state, where its operands name something, and else is refused. -/
theorem statusCommandsOnlyAnswer : Obligations.StatusCommandsOnlyAnswer := by
  intro q s₀
  simp only [List.forall_mem_cons]
  exact ⟨
    -- SYS_INFO, SYS_STATUS, MB_STATUS, TRANSPORT_STATUS, TIME_GET, GRID_GET, CUE_LIST_STATUS, TAP_READ, SCHED_TASK_READ
    answersOnly_of_answer rfl, answersOnly_of_answer rfl, answersOnly_of_dite rfl, answersOnly_of_answer rfl,
    answersOnly_of_answer rfl, answersOnly_of_answer rfl, answersOnly_of_answer rfl, answersOnly_of_dite rfl,
    answersOnly_of_require rfl,
    -- LOOP_READ, FIXTURE_SOLVE_READ, KINETIC_READ, INGEST_STATUS, RASTER_STATUS, TRESTLE_STATUS, MEMBER_READ, ROUTE_READ
    execLoopRead_answersOnly, execFixtureSolveRead_answersOnly, answersOnly_of_require rfl, answersOnly_of_dite rfl,
    answersOnly_of_dite rfl, answersOnly_of_answer rfl, execMemberRead_answersOnly, answersOnly_of_answer rfl,
    -- DEST_STATUS, LANE_STATUS, PORT_STATUS, INPUT_READ, SACN_STATUS, RDM_UID_READ, RDM_RESULT_READ, HOSTCH_STATUS
    execDestStatus_answersOnly, answersOnly_of_reports rfl fun s => onlyReports_onLane, answersOnly_of_dite rfl,
    answersOnly_of_require rfl, answersOnly_of_dite rfl, execRdmUidRead_answersOnly, execRdmResultRead_answersOnly,
    answersOnly_of_dite rfl,
    -- PTP_STATUS, STREAM_STATUS, NODE_READ, RADIO_XCVR_READ, PIER_STATUS, BOX_STATUS, SLOT_INFO, WK_STATUS, OFFICER_READ
    answersOnly_of_answer rfl, execStreamStatus_answersOnly, answersOnly_of_require rfl, answersOnly_of_require rfl,
    answersOnly_of_answer rfl, answersOnly_of_answer rfl, answersOnly_of_require rfl, answersOnly_of_require rfl,
    answersOnly_of_require rfl,
    -- IDENTITY_READ, POWER_STATUS, THERMAL_STATUS, UPDATE_STATUS, DIAG_ECHO
    answersOnly_of_answer rfl, answersOnly_of_answer rfl, answersOnly_of_answer rfl, answersOnly_of_require rfl,
    answersOnly_of_require rfl, nofun⟩

end Sys2Proof.Machine
end

section
/-! Proofs for spec chapter 14, completion (R476 to R484): the system and diagnostic commands. -/
namespace Sys2Proof.Machine
open Sys2Proof

/-! ### Diagnostics (R481, R484) -/

/-- DIAG_ECHO of at most 3,008 bytes returns them. -/
theorem execDiagEcho_of_fits {q : Req} {s₀ : State} (h : Takes opDiagEcho 0 q s₀) (hfits : q.payload.length ≤ 3008) :
    exec (.diagEcho q) s₀ = .next ((s₀.elapse q.dt).ok q opDiagEcho q.payload) :=
  next_serve_ok h (require_of (decide_eq_true hfits))

/-- DIAG_PIN_READ returns the pins as they stand, with two free values for the levels that nothing decides. -/
theorem execDiagPinRead_next {q : Req} {s₀ s : State} (h : Takes opDiagPinRead 0 q s₀) (hs : s₀.elapse q.dt = s) :
    exec (.diagPinRead q) s₀ = .next (s.draw.draw.ok q opDiagPinRead (pack 16 [fB 0 0 s.sys.houseN, fB 0 1 s.pier.actIn,
      fB 0 2 (s.pier.actOut.getD (Config.pinLevel (s.fresh + 1))), fB 0 3 (!s.eventNAsserted), fB 0 4 s.tc.ppsIn,
      fB 0 5 s.tc.frameRefIn, fB 0 6 s.tc.ltcInLevel, fN 1 1 (s.sys.bootMode.toNat % 4 + 4 * (s.sys.radioIrq.toNat % 16)),
      f64 4 (Config.portLevels s.fresh)])) := by
  subst hs
  refine next_serve_ok h ?_
  dsimp only
  cases (s₀.elapse q.dt).pier.actOut <;> rfl

/-- DIAG_EVENT_RAISE raises E003 with the bytes given. -/
theorem execDiagEventRaise_next {q : Req} {s₀ : State} (h : Takes opDiagEventRaise 16 q s₀) :
    exec (.diagEventRaise q) s₀ = .next (((s₀.elapse q.dt).raise 3 (bytesAt q.payload 0 16)).ok q opDiagEventRaise []) :=
  next_serve_ok h rfl

/-- DIAG_FAULT_INJECT in range, carried by a ring, and of a frame that is not late where the kind names one: the row acts by its
payload. -/
theorem next_faultInject_of_allowed {q : Req} {s₀ s : State} {kind count arg : Nat} {apply : U32}
    (h : Takes opDiagFaultInject 20 q s₀) (hs : s₀.elapse q.dt = s) (hkind : (p8 q.payload 4).toNat = kind)
    (hcount : (p8 q.payload 5).toNat = count) (harg : rd q.payload 8 4 = arg) (happly : p32 q.payload 12 = apply)
    (hmagic : p32 q.payload 0 = 0x4A4E4946) (hrange : injectOk kind count arg = true) (hbind : s.mb.ch[q.ch].bind = 0)
    (hintime : kind < 4 ∨ s.running = false ∨ s.changeLate apply = false) :
    (.next (faultInject q s₀) : Host.Outcome State Fault Refusal) = .next (State.ok
      ((s.inject kind count arg apply).raiseF 8 [fN 0 1 kind, fN 4 4 arg, f32 8 apply]) q opDiagFaultInject []) := by
  subst hs hkind hcount harg happly
  have hlate : (decide (4 ≤ (p8 q.payload 4).toNat) && (s₀.elapse q.dt).running &&
      (s₀.elapse q.dt).changeLate (p32 q.payload 12)) = false := by
    obtain hfirst | hstopped | hahead := hintime
    · rw [decide_eq_false (Nat.not_le.mpr hfirst)]
      rfl
    · rw [hstopped, Bool.and_false, Bool.false_and]
    · rw [hahead, Bool.and_false]
  have hallowed := Bool.and_eq_true_iff.mpr ⟨Bool.and_eq_true_iff.mpr ⟨beq_iff_eq.mpr hmagic, hrange⟩, beq_iff_eq.mpr hbind⟩
  exact next_serve_ok h ((require_of hallowed).trans (require_not hlate))

/-! ### The statements of completion -/

/-- Settles O39: each body's requirements are the conditions of its clause, a reset by its time, a self-test by its tests. The
six rows of DIAG_FAULT_INJECT act by their payload, forced checks begin at S(m) and levels that nothing drives are free: the
model's choice (log entries 97, 98 and 99). -/
theorem systemCommandsComplete : Obligations.SystemCommandsComplete := by
  refine ⟨?info, ?status, ?reset, ?execute, ?save, ?echo, ?pins, ?selftest, ?selftestEnd, ?event, ?inject⟩
  case info =>
    intro q s₀ h y
    exact next_serve_ok h rfl
  case status => exact fun q s₀ h => next_serve_ok h rfl
  case reset =>
    exact fun q s₀ h hmagic =>
      next_serve_done (d := { st := _, post := some _ }) h (require_of (beq_iff_eq.mpr hmagic)) rfl
  case execute =>
    intro dt s₀ t hreset htime hidle
    show execSysResetExecute dt s₀ = _
    simp only [execSysResetExecute, hreset]
    exact next_if_pos ⟨htime, hidle⟩
  case save =>
    intro q s₀ h x next b t hnext hstored
    refine next_serve_ok h ((require_of (decide_eq_true hnext)).trans ?_)
    simp only [t, b, next] at hstored
    simp only [hstored]
    rfl
  case echo => exact fun q s₀ h hfits => execDiagEcho_of_fits h hfits
  case pins => exact fun q s₀ h => execDiagPinRead_next h rfl
  case selftest =>
    intro q s₀ h tests hsome hstopped hidle
    exact next_serve_ok h <| (require_of (decide_eq_true hsome)).trans <| (require_not hstopped).trans <|
      require_of (Option.isNone_iff_eq_none.mpr hidle)
  case selftestEnd =>
    intro dt s₀ t failed first cores d c htest
    show execSelftestComplete dt failed first cores s₀ = _
    simp only [execSelftestComplete, htest]
    rfl
  case event => exact fun q s₀ h => execDiagEventRaise_next h
  case inject =>
    intro q s₀ h kind count arg apply t hmagic hrange hbind hintime
    have hinjected := next_faultInject_of_allowed h rfl rfl rfl rfl rfl hmagic hrange hbind hintime
    exact ⟨hinjected, hinjected, hinjected, hinjected, hinjected, hinjected⟩

/-- Settles O52: a payload by its length, the pins as they stand, E003 by its mask and the room of the ring. The levels that
nothing drives are free values: the model's choice (log entry 99). -/
theorem diagnosticsReturn : Obligations.DiagnosticsReturn := by
  refine ⟨?echo, fun q s₀ h => execDiagPinRead_next h rfl, ?event⟩
  case echo =>
    exact fun q s₀ h => ⟨execDiagEcho_of_fits h,
      fun hlong => next_serve_error h (if_neg (by simpa using hlong))⟩
  case event =>
    intro q s₀ h d v j
    have hready : (s₀.elapse q.dt).mb.engine = 2 := h.1
    refine ⟨_, execDiagEventRaise_next h, raise_masked hready, fun henabled hroom => (raise_written hready henabled hroom).1,
      fun henabled hfull => ?full⟩
    rw [raise_lost hready henabled hfull]
    exact ⟨rfl, rfl⟩

end Sys2Proof.Machine
end

section
/-! Proofs for spec chapter 15, completion (R489 to R519): supplies, resets and boots, power modes, thermal protection, firmware
update. -/
namespace Sys2Proof.Machine
open Sys2Proof

/-! ### Supplies and boots (R489 to R502) -/

/-- The boot watchdog expires: the bank in use fails, and the other boots or the recovery ROM runs (R502). -/
theorem execBootWatchdogExpiry_of_expired {dt : Nat} {bootMode : Fin 4} {s₀ s : State} (hs : s₀.elapse dt = s)
    (hboots : s.mb.engine = 0) (hrun : s.pwr.mode = .run) (hreleased : s.sys.resetN = true)
    (hexpired : s.fwExpired (s.sys.bootAt + 10000000000) = true) :
    let f := s.flash.bankFails s.flash.bootRec.bank 1 true
    (f.2.isSome = true → exec (.bootWatchdogExpiry dt bootMode) s₀ = .next { s with flash := f.1, sys.bootAt := s.now }) ∧
    (f.2 = none → exec (.bootWatchdogExpiry dt bootMode) s₀ = .next (State.recovery { s with flash := f.1 }
      { bootMode := bootMode, fail := .replicate 2 none, partVer := .replicate 8 0, settingsFormat := 0, radioMac := false,
        fwVersion := 0, drivers := [] })) := by
  subst hs
  refine ⟨fun hother => (next_if_pos ⟨hboots, hrun, hreleased, hexpired⟩).trans ?other,
    fun hnone => (next_if_pos ⟨hboots, hrun, hreleased, hexpired⟩).trans ?none⟩
  case other =>
    obtain ⟨b, hb⟩ := Option.isSome_iff_exists.mp hother
    simp only [hb]
    rfl
  case none => simp only [hnone]

/-- Settles O40: a supply by what it was and the mode of the engine, a reset by VIN, a boot and its watchdog by the state of the
engine, a wake by its time. -/
theorem supplyEventsComplete : Obligations.SupplyEventsComplete := by
  refine ⟨?vin, ?vddio, ?resetN, ?bootReady, ?watchdog, ?wake⟩
  case vin =>
    intro dt s₀ mv
    exact ⟨fun hoff => next_if_pos hoff, fun hon hin => next_if_neg (not_or.mpr ⟨hon, ne_true_of_eq_false hin⟩),
      fun hon hlow => next_if_neg (not_or.mpr ⟨hon, ne_false_of_eq_true hlow⟩), rfl, rfl, rfl⟩
  case vddio =>
    intro dt s₀ bank mv was
    exact ⟨fun hlow hhigh => next_if_pos ⟨hlow, hhigh⟩,
      fun hhigh => next_if_neg fun ⟨hlow, _⟩ => Nat.not_lt.mpr hhigh hlow, rfl⟩
  case resetN =>
    intro dt s₀ t
    exact ⟨fun hsupplied => next_if_neg (ne_true_of_eq_false hsupplied), fun hgone => next_if_pos hgone,
      fun hheld => next_if_neg (ne_true_of_eq_false hheld)⟩
  case bootReady => exact fun dt s₀ r hboots hrun hreleased => next_if_pos ⟨hboots, hrun, hreleased⟩
  case watchdog =>
    exact fun dt s₀ bootMode hboots hrun hreleased hexpired =>
      execBootWatchdogExpiry_of_expired rfl hboots hrun hreleased hexpired
  case wake => exact fun dt s₀ hdue => next_if_pos hdue

/-! ### Power modes (R494, R496) -/

/-- A message of an opcode that venue standby serves as well is answered ST_OK where its body gives data. -/
theorem serve_ok_of_served {op need : Nat} {q : Req} {s₀ t : State} {b : List U8} {body : State → Except Status Done}
    (hready : s₀.mb.engine = 2) (hasked : s₀.asked op q = true) (hunaborted : s₀.mb.ch[q.ch].svc.any (·.abort) = false)
    (hlength : need ≤ q.payload.length) (hserved : servedInStandby op = true)
    (e : body (s₀.elapse q.dt) = .ok { st := t, data := b }) : serve op need q s₀ body = t.ok q op b := by
  have hready' : (s₀.elapse q.dt).mb.engine = 2 := hready
  have hasked' : (s₀.elapse q.dt).asked op q = true := hasked
  have hunaborted' : (s₀.elapse q.dt).mb.ch[q.ch].svc.any (·.abort) = false := hunaborted
  simp only [serve, hready', hasked', hunaborted', hserved, Nat.not_lt.mpr hlength, e, true_or, and_self,
    Bool.true_eq_false, and_false, Bool.false_eq_true, ↓reduceIte]
  rfl

/-- POWER_MODE_SET with MODE 0 wakes the engine, or says so again. -/
theorem execPowerModeRun_of_run {q : Req} {s₀ s : State} (hs : s₀.elapse q.dt = s) (hready : s₀.mb.engine = 2)
    (hasked : s₀.asked opPowerModeSet q = true) (hunaborted : s₀.mb.ch[q.ch].svc.any (·.abort) = false)
    (hlength : 4 ≤ q.payload.length) (hmode : p8 q.payload 0 = 0) :
    exec (.powerModeRun q) s₀ = .next ((s.wake (if s.wakeDue then 1 else 2)).ok q opPowerModeSet []) := by
  subst hs
  refine congrArg Host.Outcome.next (serve_ok_of_served hready hasked hunaborted hlength rfl ?_)
  simp only [hmode]
  refine (require_of rfl).trans ((if_pos trivial).trans (congrArg done ?_))
  split <;> rfl

/-- Settles O41: a mode by its conditions, an evaluation by the mode, a step of the throttle by its level, its time and the
temperature, a stop and a restart by their time; a read has none. -/
theorem powerCommandsComplete : Obligations.PowerCommandsComplete := by
  refine ⟨?run, ?standby, ?wakeSchedule, ?status, ?evaluation, ?throttle, ?trip, ?restart, ?thermalStatus, ?thermalSet⟩
  case run =>
    exact fun q s₀ hready hasked hunaborted hlength hmode => execPowerModeRun_of_run rfl hready hasked hunaborted hlength hmode
  case standby =>
    intro q s₀ h hmode hahead hstopped hreceiving hchecking hidle
    have hrun : (s₀.elapse q.dt).pwr.mode = .run := h.2.1
    have hbusy : ((s₀.elapse q.dt).flash.update.st != 1 && (s₀.elapse q.dt).flash.update.st != 2 &&
        (s₀.elapse q.dt).sys.selfTest.isNone) = true :=
      Bool.and_eq_true_iff.mpr ⟨Bool.and_eq_true_iff.mpr ⟨bne_iff_ne.mpr hreceiving, bne_iff_ne.mpr hchecking⟩,
        Option.isNone_iff_eq_none.mpr hidle⟩
    refine next_serve_ok h ?_
    simp only [hmode, hrun]
    exact (require_of (Bool.and_eq_true_iff.mpr ⟨rfl, hahead⟩)).trans <| (if_neg (by decide)).trans <|
      (if_neg (by decide)).trans <| (require_not hstopped).trans <| require_of hbusy
  case wakeSchedule =>
    exact fun q s₀ h hcount hmin hmax =>
      next_serve_ok h (require_of (Bool.and_eq_true_iff.mpr ⟨decide_eq_true hcount, inRange_of hmin hmax⟩))
  case status =>
    intro q s₀ h x
    exact next_serve_ok h rfl
  case evaluation => exact fun dt s₀ r hon => next_if_neg hon
  case throttle =>
    intro dt s₀ x
    exact ⟨fun hlevel htime hhot hfloor => next_if_pos ⟨hlevel, htime, hhot, hfloor⟩,
      fun hlevel htime hcool hfull => next_if_pos ⟨hlevel, htime, hcool, hfull⟩, fun hdue => next_if_pos hdue⟩
  case trip => exact fun dt s₀ reading hhot hon => next_if_pos ⟨hhot, hon⟩
  case restart =>
    intro dt s₀ die t c htripped hoff henabled htime hcool
    show execThermalRestart dt die s₀ = _
    simp only [execThermalRestart, htripped]
    exact next_if_pos ⟨hoff, henabled, htime, hcool⟩
  case thermalStatus =>
    intro q s₀ h x
    exact next_serve_ok h rfl
  case thermalSet =>
    intro q s₀ h c hwarnMin hwarn hthrottleMax hthrottleMin hwarnMax hstop hstopMin hstopMax hfloorMin hfloorMax hrestartMin
      hrestartMax
    refine next_serve_ok h (require_of ?_)
    simp only [c] at *
    simp only [inRange_of hwarnMin hwarnMax, inRange_of hthrottleMin hthrottleMax, inRange_of hstopMin hstopMax, hwarn, hstop,
      inRange_of hfloorMin hfloorMax, inRange_of hrestartMin hrestartMax, decide_true, Bool.and_self]

/-! ### Firmware update (R514 to R517) -/

/-- UPDATE_BLOCK of new granules, or of granules as they stand, that fit the package and the buffer. -/
theorem execUpdateBlock_of_fits {q : Req} {s₀ s : State} {b : List U8} (hs : s₀.elapse q.dt = s)
    (h : Takes opUpdateBlock (max 8 (needBulk q 8 (rd q.payload 4 2))) q s₀) :
    let n := rd q.payload 4 2
    let off := rd q.payload 0 4
    let u := s.flash.update
    let gs := granulesOf off b
    let new := gs.filter fun g => u.granules.get [] g.1 == []
    s.box.lock = false → 1 ≤ n → n ≤ (if q.bulk then 4096 else 4024) →
      (q.bulk = true → q.payload.length = 24 ∧ bulkDenied q 8 n s = false ∧ s.mb.bulkFault.getLsbD q.ch.val = false) →
      bulkBytes q 8 n s = some b → u.st = 1 → off % 64 = 0 → off + n ≤ u.bytes → (n % 64 = 0 ∨ off + n = u.bytes) →
      (∀ g ∈ gs, u.granules.get [] g.1 = [] ∨ u.granules.get [] g.1 = g.2) →
      (64 * (u.buffered.length + new.length) ≤ 0x40000 ∨ new = []) →
      exec (.updateBlock q) s₀ = .next (State.ok { s with flash.update := { u with
        granules := new.foldl (fun (t : Tab (List U8)) g => t.set [] g.1 g.2) u.granules
        buffered := u.buffered ++ new.map (·.1), written := u.written + (new.map (·.2.length)).sum
        lastAt := s.now } } q opUpdateBlock []) := by
  subst hs
  intro n off u gs new hlock hmin hmax hbulk hdata hopen haligned hwithin hwhole hsame hroom
  have hgranted : (q.bulk && bulkDenied q 8 n (s₀.elapse q.dt)) = false := by
    cases hform : q.bulk
    · rfl
    · exact (hbulk hform).2.1
  have hplace : (u.st != 1 || (decide (off + n ≤ u.bytes) && (n % 64 == 0 || off + n == u.bytes))) = true := by
    simpa [hopen, hwithin] using hwhole
  have hallowed : (!(s₀.elapse q.dt).box.lock && inRange 1 (if q.bulk then 4096 else 4024) n &&
      !(q.bulk && bulkDenied q 8 n (s₀.elapse q.dt)) && off % 64 == 0 &&
      (u.st != 1 || (decide (off + n ≤ u.bytes) && (n % 64 == 0 || off + n == u.bytes)))) = true := by
    rw [hlock, inRange_of hmin hmax, hgranted, haligned, hplace]
    rfl
  have hkept : (gs.all fun g => u.granules.get [] g.1 == [] || u.granules.get [] g.1 == g.2) = true :=
    List.all_eq_true.mpr fun g hg => by simpa using hsame g hg
  have hfits : (decide (64 * (u.buffered.length + new.length) ≤ 0x40000) || new.isEmpty) = true := by
    simpa using hroom
  exact next_serve_ok h <| (bulkLength_of fun hform => (hbulk hform).1).trans <| (require_of hallowed).trans <|
    (require_of (beq_iff_eq.mpr hopen)).trans <| (withBulk_of_some (fun hform => (hbulk hform).2.2) hdata).trans <|
    (require_of hkept).trans <| require_of hfits

/-- UPDATE_CHECK_COMPLETE once every granule is programmed: the bank is valid where every check passes (R516). -/
theorem execUpdateCheckComplete_of_checked {dt : Nat} {readBack : Bool} {s₀ s : State} (hs : s₀.elapse dt = s)
    (hclosed : s.flash.update.st = 2) (hprogrammed : s.flash.update.buffered = []) :
    let u := s.flash.update
    let ver : U32 := BitVec.ofNat 32 (pkgNum u.granules 8 4)
    let r := s.updateReason readBack
    let f := s.flash.write fun x => { x with
      state := if u.bank = 0 then x.state.set 0 1 else x.state.set 1 1
      version := if u.bank = 0 then x.version.set 0 ver else x.version.set 1 ver }
    (r.1 = 0 → exec (.updateCheckComplete dt readBack) s₀ = .next (State.raiseF
      { s with flash := { f with update := { u with st := 3, reason := 0, part := r.2, version := ver } } } 124
      [fN 0 1 1, fN 1 1 u.bank, fN 2 1 0, fN 3 1 r.2, f32 4 ver])) ∧
    (r.1 ≠ 0 → exec (.updateCheckComplete dt readBack) s₀ = .next (State.raiseF
      { s with flash := { s.flash with update := { u with st := 4, reason := r.1, part := r.2, version := ver } } } 124
      [fN 0 1 2, fN 1 1 u.bank, fN 2 1 r.1, fN 3 1 r.2, f32 4 ver])) := by
  subst hs
  intro u ver r f
  have hready : ¬((s₀.elapse dt).flash.update.st ≠ 2 ∨ (s₀.elapse dt).flash.update.buffered ≠ []) :=
    not_or.mpr ⟨not_not_intro hclosed, not_not_intro hprogrammed⟩
  refine ⟨fun hpassed => (next_if_neg hready).trans ?passed, fun hfailed => (next_if_neg hready).trans ?failed⟩
  case passed =>
    simp only [r] at hpassed
    simp only [hpassed]
    rfl
  case failed =>
    have hreason : (((s₀.elapse dt).updateReason readBack).1 == 0) = false := beq_eq_false_iff_ne.mpr hfailed
    simp only [hreason]
    rfl

/-- Settles O42: each body's requirements are the conditions of its clause; a check by its first failure, a time by its expiry.
That an update left idle reads STATE 4 and REASON 9 without E124, and that a record being written answers ST_BUSY, are the
model's choice (log entry 108). -/
theorem updateCompletes : Obligations.UpdateCompletes := by
  refine ⟨?begin, ?block, ?program, ?idle, ?finish, ?check, ?activate, ?record, ?abort, ?status⟩
  case begin =>
    intro q s₀ h n b f hlock hsize hclosed hidle
    have hallowed : (!(s₀.elapse q.dt).box.lock && decide (n ≤ 0x1E00000)) = true := by
      rw [hlock, decide_eq_true hsize]
      rfl
    have hfree : (!(s₀.elapse q.dt).flash.update.open_ && !(s₀.elapse q.dt).flash.update.recording) = true := by
      rw [hclosed, hidle]
      rfl
    refine next_serve_ok h ((require_of hallowed).trans ((require_of hfree).trans ?_))
    simp only [f, b]
    cases (s₀.elapse q.dt).flash.rec_ <;> rfl
  case block => exact fun q s₀ h b => execUpdateBlock_of_fits rfl h
  case program => exact fun dt s₀ hopen => next_if_pos hopen
  case idle => exact fun dt s₀ hopen hexpired => next_if_pos ⟨hopen, hexpired⟩
  case finish =>
    exact fun q s₀ h hlock hopen => next_serve_ok h ((require_not hlock).trans (require_of (beq_iff_eq.mpr hopen)))
  case check => exact fun dt s₀ readBack hclosed hprogrammed => execUpdateCheckComplete_of_checked rfl hclosed hprogrammed
  case activate =>
    exact fun q s₀ h hlock hverified hidle => next_serve_ok h <| (require_not hlock).trans <|
      (require_of (beq_iff_eq.mpr hverified)).trans <| require_not hidle
  case record => exact fun dt s₀ hrecording => next_if_neg (ne_false_of_eq_true hrecording)
  case abort =>
    intro q s₀ h u hlock hstands hidle
    have hbegun : ((s₀.elapse q.dt).flash.update.open_ || (s₀.elapse q.dt).flash.update.st == 3) = true := by
      simpa only [Bool.or_eq_true, beq_iff_eq] using hstands
    exact next_serve_ok h <| (require_not hlock).trans <| (require_of hbegun).trans <| require_not hidle
  case status =>
    intro q s₀ h u r hlock
    exact next_serve_ok h (require_not hlock)

end Sys2Proof.Machine
end
